-- ==== Sys2Proof/Word.lean ====
section
/-! DEFINITION. The words, enumerations and small records that commands carry and the state holds. -/
namespace Sys2Proof


/-- One byte. -/
abbrev Byte := BitVec 8
/-- The 64 bytes of a line (00 Table SC-4). -/
abbrev LineData := BitVec 512
/-- A byte mask over a line: bit i covers byte i. -/
abbrev ByteMask := BitVec 64
/-- The number of a line: the device physical address divided by 64. -/
abbrev LineNo := Nat
/-- The number of a 512-byte sector: DPA / 512. -/
abbrev SectorNo := Nat
/-- A 4 KiB page number PN (01 R12). -/
abbrev PageNo := Nat

/-- Which of the two variants the module is (00 R1, R2). -/
inductive Variant where
  | p128 | p064
  deriving DecidableEq, Repr

/-- UNIT_TYPE (15 Table OD-6), in the order of its codes 1 to 15. -/
inductive UnitType where
  | module | controller | harbourmaster | power | rail | media | parityGroup | stack | die
  | hostPorts | hostPort | network | netPort | hbm | hbmStack
  deriving DecidableEq, Repr

/-- The UDP datagram that brings a KDP message (15 R346, R347): its ports, whether it carries an 802.1Q tag (KDP runs with and without one), its bytes of UDP payload, the MAGIC and VERSION
of its header, and whether LENGTH counts the bytes that its body has. -/
structure Datagram where
  srcPort : BitVec 16 := 0
  dstPort : BitVec 16 := 4750
  tagged : Bool := false
  payload : BitVec 16 := 44
  magic : BitVec 16 := 0x4B44
  version : BitVec 8 := 1
  lengthOk : Bool := true
  deriving DecidableEq, Repr

/-- Whether a datagram is a KDP message: of at most 1232 bytes and with the header of Table OD-8 (15 R346, R347). Any other is discarded. -/
def Datagram.fit (g : Datagram) : Bool := decide (g.payload.toNat ≤ 1232) && g.magic == 0x4B44 && g.version == 1 && g.lengthOk

/-- A KDP request of a session (15 Table OD-8): session, sequence number, whether the MAC verifies under the session key (R347, log 135), unit path and
subindex, whether the body has the opcode's form (R341 check 2), and the datagram that brings it. -/
structure KReq where
  sid : BitVec 32
  seq : BitVec 64
  macOk : Bool
  unit : BitVec 32
  sub : BitVec 8
  wellFormed : Bool
  gram : Datagram := {}
  deriving DecidableEq, Repr

/-- A value carried by KDP (15 Table OD-2): the number of a scalar's wire encoding, or the bytes of a TEXT or BLOB. -/
inductive KVal where
  | num (n : Nat)
  | bytes (bs : List Byte)
  deriving DecidableEq, Repr

/-- KDP status codes (15 Table OD-11). -/
inductive Status where
  | ok | busy | denied | range | noObject | readOnly | state | limit | auth | integrity | pending | timeout | held
  deriving DecidableEq, Repr

/-- The wire code of a status (15 Table OD-11). -/
def Status.code : Status → Nat
  | .ok => 0 | .busy => 1 | .denied => 2 | .range => 3 | .noObject => 4 | .readOnly => 5 | .state => 6
  | .limit => 7 | .auth => 8 | .integrity => 9 | .pending => 10 | .timeout => 11 | .held => 12


/-- The code of a unit type (15 Table OD-6). -/
def UnitType.code : UnitType → Nat
  | .module => 1 | .controller => 2 | .harbourmaster => 3 | .power => 4 | .rail => 5 | .media => 6 | .parityGroup => 7
  | .stack => 8 | .die => 9 | .hostPorts => 10 | .hostPort => 11 | .network => 12 | .netPort => 13 | .hbm => 14 | .hbmStack => 15

/-- The number a value carries; a value of bytes carries none and counts as 0. -/
def KVal.toNat : KVal → Nat
  | .num n => n
  | .bytes _ => 0

/-- MetaValue of a coherent request or response (04 Table CD-3). -/
inductive MetaValue where
  | i | s | a
  deriving DecidableEq, Repr
/-- The code of a MetaValue. -/
def MetaValue.code : MetaValue → Nat
  | .i => 0 | .s => 1 | .a => 2
/-- The answers to a back-invalidation snoop (04 Table CD-3). -/
inductive BiRsp where
  | i | s | e
  deriving DecidableEq, Repr
/-- Where an array error lies (10 Table DP-1, DP-2). -/
inductive ErrPlace where
  | homeCache | homeCacheTag | berth | combining | prefetch | tracker | directory | filter | retry | conflict | queuePointer
  | wharfSlot | wharfIndex | readCache | mapEntry | journal | metadata | accumulator | firmware | recorder
  deriving DecidableEq, Repr
/-- An array error that an access meets (10 R230, R231): its place, whether its code cannot correct it, the bytes of a
byte-coded line, the way of a way-organised array, the HBM stack and channel (1 to 8, 1 to 16), the word group, and whether both
copies of a doubled array are uncorrectable. -/
structure ArrayErr where
  place : ErrPlace
  unc : Bool
  bytes : ByteMask
  way : Fin 16
  stack : Fin 8
  channel : Fin 16
  group : Nat
  both : Bool
  deriving DecidableEq, Repr
/-- The rows of 02 Tables HP-2 and HP-3: capabilities that a port has or lacks. -/
inductive PortCap where
  | flitMode | laneReversal | equalisation | laneMargining | l0p | aspmL1 | aspmL0s | l1Substates | aer | serialNumber | dataLinkFeature | tag14 | msix | msi | intx
  | bar0 | otherBars | resizableBar | doe | linkIde | selectiveIde | tdisp | flr | sriov | ats | pri | pasid | ptm
  | cxlIo | cxlMem | cxlCache | type3 | multiHeaded | multiLogical | hierarchyRouting | portRouting | hdmH | hdmD | hdmDb | biDecoder | dynamicCapacity | poison | viral
  | devLoad | cxlIde | cxlReset | gpf | cdat | labelStorage | partitioning | sanitize | passphrase | scanMedia | poisonList | eventRecords | mailbox
  deriving DecidableEq, Repr
/-- Whether a capability is supported, and so advertised (02 R33, Tables HP-2 and HP-3). -/
def PortCap.supported : PortCap → Bool
  | .aspmL0s | .l1Substates | .msi | .intx | .otherBars | .resizableBar | .selectiveIde | .tdisp | .flr | .sriov | .ats | .pri | .pasid | .ptm | .cxlCache | .multiLogical
  | .hdmD | .dynamicCapacity | .labelStorage | .partitioning | .sanitize | .passphrase | .scanMedia | .poisonList | .eventRecords => false
  | _ => true
/-- What a read of configuration space or of a component register asks for (chapter 02): a capability, the serial number, the size of BAR0, the MSI-X
vectors, the AER status, the DVSEC's Memory_Active, its time-out and Media Status, the GPF phase 2 duration, and a decoder's status. -/
inductive CfgField where
  | capability (c : PortCap)
  | serial | barSize | msixVectors | aerStatus | memoryActive | activeTimeout | mediaStatus | gpfDuration
  | decoder (n : Fin 16)
  deriving DecidableEq, Repr
/-- What a configuration request does (02 R33 to R40, 04 Table CD-3): an access that shows the source, the programming of the source's BI decoder,
or a read. -/
inductive CfgOp where
  | access
  | setBi (enable : Bool) (biId : Nat)
  | read (f : CfgField)
  deriving DecidableEq, Repr
/-- The causes of a failed boot (18 R404). -/
inductive BootFail where
  | invalidImage | noFirmware | watchdog | hbmTraining
  deriving DecidableEq, Repr
/-- A sensor reading of one millisecond (13 R302): unit, sensor from 1, reading in 0.01 °C. -/
structure TempReading where
  unit : BitVec 32
  sensor : Fin 65
  value : Int
  deriving DecidableEq, Repr
/-- The stores that a debug instruction can read (10 R247). -/
inductive TapStore where
  | homeCache | berth | combining | prefetch | wharf | readCache | flushArea | media | map | metadata | journal | recorder
  deriving DecidableEq, Repr
/-- A TAP instruction (14 R321, 18 R398): of the boundary scan, EXTEST with the levels it drives (bit 0 STAGE_SLOW_N, 1 STAGE_STOP_N,
2 ALERT_N, 3 THERM_N low); a debug read of bytes of a store; or another. -/
inductive TapIr where
  | bypass | idcode | sample
  | extest (drive : BitVec 4)
  | debug (store : TapStore) (addr : BitVec 64) (size : BitVec 32)
  | other
  deriving DecidableEq, Repr

/-- The operating rates of a link in GT/s, those below 16 for CXL.io only (02 Table HP-1, R31). -/
inductive LinkRate where
  | g2 | g5 | g8 | g16 | g32 | g64
  deriving DecidableEq, Repr
/-- RATE_NOW of a rate: 2 stands for 2.5 GT/s (02 Table HP-11). -/
def LinkRate.code : LinkRate → Nat
  | .g2 => 2 | .g5 => 5 | .g8 => 8 | .g16 => 16 | .g32 => 32 | .g64 => 64
/-- The widths of a link in lanes (02 Table HP-1, R31). -/
inductive LinkWidth where
  | x1 | x2 | x4 | x8 | x16
  deriving DecidableEq, Repr
/-- WIDTH_NOW of a width. -/
def LinkWidth.code : LinkWidth → Nat
  | .x1 => 1 | .x2 => 2 | .x4 => 4 | .x8 => 8 | .x16 => 16
/-- The flit modes (02 R32), with the codes of FLIT_NOW. -/
inductive FlitMode where
  | b68 | b256 | b256Low
  deriving DecidableEq, Repr
/-- FLIT_NOW of a flit mode. -/
def FlitMode.code : FlitMode → Nat
  | .b68 => 1 | .b256 => 2 | .b256Low => 3
/-- The functions whose enable can wait for the end of a shutdown (12 R298): a host port (0 for /5/1), the mirror, a media bank,
a network port (0 for /6/1), and the module itself, which a wake from P3 or P4 enables (R299). -/
inductive PendFn where
  | port (n : Fin 16)
  | mirror
  | bank (b : Fin 4)
  | net (p : Fin 2)
  | wake
  deriving DecidableEq, Repr
/-- The mailbox's logs that GET_LOG can name (02 Table HP-3): the command effects log, or another. -/
inductive MailLog where
  | effects | other
  deriving DecidableEq, Repr

/-- A port's link down (02 R43), and whether the port's receivers still detect a far end (R31). -/
structure LinkDown where
  port : Fin 16
  farEnd : Bool
  deriving DecidableEq, Repr

/-- The answer of a mirror's peer to the handshake (05 R133): its SESSION_ID, its nonce and its proof of the pair key. -/
structure PeerProof where
  sid : BitVec 32
  nonce : BitVec 128
  proof : BitVec 256
  deriving DecidableEq, Repr

/-- A mirror frame as received (05 Table HC-4): its truncated HMAC, its generation, SEQ, ACK_SEQ and SYNC flag, and its
records as line, mask and data. -/
structure MirrorFrame where
  mac : BitVec 128
  generation : BitVec 32
  seq : BitVec 64
  ackSeq : BitVec 64
  sync : Bool
  records : List (BitVec 21 × ByteMask × LineData)
  deriving DecidableEq, Repr

/-- How a data plate's program ended (07 R175). -/
inductive PlateResult where
  | verified | programFailed | verifyFailed
  deriving DecidableEq, Repr

/-- The two stage pins (06 R161). -/
inductive StagePin where
  | slow | stop
  deriving DecidableEq, Repr

/-- One sample sector of a proof pass (09 R213): its drift bin, its block, and for each of the references A, B and C the
raw bit errors at the probe offsets −7 to +7 (15 counts). A dropped sample has no counts. -/
structure ProofSample where
  bin : Nat
  block : Nat
  errors : List (List Nat)
  deriving DecidableEq, Repr

/-- What a scrub finds at one unit (10 R246): an array error at a line of the array's contents and at an address of the target, or a
media sector and the rung of the retry ladder it reached. -/
inductive ScrubErr where
  | array (line addr : Nat) (e : ArrayErr)
  | sector (pn : Nat) (sector : Fin 8) (rung : Fin 5)
  deriving DecidableEq, Repr
/-- What a scrub reports of the arrays as it ends (10 Table DP-7): the units read, the errors found in the order met, and the lines found
poisoned. -/
structure ScrubFound where
  unitsRead : Nat
  errs : List ScrubErr
  poisoned : Nat
  deriving DecidableEq, Repr

/-- What the WRITE row carries (15 R340): a value, or an EXEC's argument where the object has no row of its own; and, for the two commands whose effect
needs them, what the running scrub has found (SCRUB_ABORT) and whether the written image verifies (FW_INSTALL). -/
structure WriteBody where
  value : KVal
  isExec : Bool := false
  found : ScrubFound := ⟨0, [], 0⟩
  verified : Bool := true
  deriving DecidableEq, Repr

/-- Whether an error counts as uncorrectable (10 Table DP-7). -/
def ScrubErr.bad : ScrubErr → Bool
  | .array _ _ e => e.unc
  | .sector _ _ r => r == 4
/-- The address that FIRST_BAD gives a unit (10 Table DP-7). -/
def ScrubErr.place : ScrubErr → Nat
  | .array _ a _ => a
  | .sector pn x _ => pn * 4096 + x * 512

/-- A PMBus device (11 Table PW-2): the controller rails' sequencer S0, the sequencer of a bank (0 for A), an input phase (0 for phase 1), or
the hold-up converter. -/
inductive PmDev where
  | s0
  | bank (b : Fin 4)
  | phase (p : Fin 2)
  | holdup
  deriving DecidableEq, Repr
/-- The address of a PMBus device (11 Table PW-2). -/
def PmDev.addr : PmDev → Nat
  | .s0 => 0x40
  | .bank b => 0x41 + b.val
  | .phase p => 0x50 + p.val
  | .holdup => 0x58
/-- A rail's telemetry as read over PMBus (11 R257): the rail (0 for rail 1), READ_VOUT in mV, READ_IOUT in mA, and whether the reading lies
inside the rail's plausibility window, which the spec does not give. -/
structure RailReading where
  rail : Fin 18
  vout : BitVec 32
  iout : BitVec 32
  plausible : Bool
  deriving DecidableEq, Repr
/-- What a fault reaction turns off and on (11 R255, R259): a rail (0 for rail 1), or the load switch of a stack. -/
inductive RetryTarget where
  | rail (n : Fin 18)
  | switch (group : Fin 2) (stack : Fin 16)
  deriving DecidableEq, Repr

/-- A waiting refuser (12 Table CS-7). -/
inductive WaitRefuser where
  | stageNotEmpty | reclaimCritical | thermalStep | mirrorBehind
  deriving DecidableEq, Repr
/-- Its ID. -/
def WaitRefuser.id : WaitRefuser → Nat
  | .stageNotEmpty => 1
  | .reclaimCritical => 5
  | .thermalStep => 6
  | .mirrorBehind => 7

/-- The kinds of address of a network port (15 R359): its IPv6 link-local address, its global IPv6 address, its IPv4 address. -/
inductive NetAddr where
  | linkLocal | global6 | ipv4
  deriving DecidableEq, Repr

end Sys2Proof
end

