-- ==== Sys2Proof/Syntax.lean ====
section
/-! DEFINITION. The commands of the module: one constructor for each row of the spec's table of operations and events.
The table gives no operands, so each constructor carries what its rule reads from outside: the request's own fields, and
the outcome that the physical world gives (a measured voltage, whether a program verified, which port an event names). -/
namespace Sys2Proof

/-- The commands (spec/opcode_table.json, one constructor per row): in the table's order those that carry operands, then those that carry none
(Lean's compiler bounds the number of a constructor that carries any). -/
inductive Instr where
  /-- VIN_GOOD_500MS (R23). VIN has been good for 500 ms with PWRFAIL_N deasserted, so COLD or LATCHED_OFF moves to SEQUENCING unless THERMAL_LATCH is set. -/
  | vinGood500ms (moduleId : Fin 16)
  /-- HARBOURMASTER_START (R369). VDD_AON comes up and the harbourmaster starts: it loads SRAM from the shadow, reads the records and increments the power-cycle count. -/
  | harbourmasterStart (badSlots : List (Fin 26)) (badPower badOpsec : List (Fin 16))
  /-- SEQUENCING_STEP_TIMEOUT (R262). A sequencing step does not complete within its timeout, which is a fault of the step's rail. -/
  | sequencingStepTimeout (rail : Fin 18)
  /-- FIRMWARE_RUNNING (R404). A signed image is running in BOOTING; its boot counts toward the transition to LOADING. -/
  | firmwareRunning (activeBad prevBad : Fin 3)
  /-- BOOT_FAILED (R404). A boot fails (invalid image, no firmware after 300 ms, watchdog, or HBM training failure); the image's count rises and BOOTING restarts, falling back to the other image after two failures. -/
  | bootFailed (cause : BootFail)
  /-- MAP_LOAD_DONE (R180). The map checkpoint load, set snapshot load and journal tail replay complete, and interrupted work of Table MT-9 is finished. -/
  | mapLoadDone (bad : List (Nat × Fin 2))
  /-- PORT_RST_N_ASSERT (R52). An accepted assertion of PORT_RST_N[n] conventionally resets the port: decoders are uncommitted, keys and port-local fences are cleared, and pending bifurcation and attach modes are taken. -/
  | portRstNAssert (pin : Fin 16)
  /-- PORT_RST_N_DEASSERT (R324). An accepted deassertion of PORT_RST_N[n] lets the link enter Detect within 20 ms; in P3 or P4 it is a wake. -/
  | portRstNDeassert (pin : Fin 16)
  /-- HOT_RESET (R52). A hot reset from the host retrains the link and uncommits the port's decoders, keeping sticky AER status. -/
  | hotReset (port : Fin 16)
  /-- LINK_DISABLE (R52). A link disable from the host takes the link down until re-enabled and uncommits the decoders. -/
  | linkDisable (port : Fin 16)
  /-- CXL_RESET (R52). A CXL Reset through the DVSEC resets CXL.mem state, decoders, keys and credits, keeping CXL.io. -/
  | cxlReset (port : Fin 16)
  /-- PORT_LINK_DOWN (R43). A port's link goes DL_Down; each agent holding lines is sent recall snoops and LINK_ACTIVE_LOST fences the port. The port's receivers detect
  a far end or none (R31). -/
  | portLinkDown (link : LinkDown)
  /-- LINK_RETRAIN_RECOVERY (R54). A link retrains through Recovery without DL_Down, losing only the reservations of the port's agents. -/
  | linkRetrainRecovery (port : Fin 16)
  /-- LINK_REACHES_L0 (R31). A port's link completes training and reaches L0; the unit reads READY, DEGRADED or CXL.io-only by where it trained. -/
  | linkReachesL0 (port : Fin 16) (rate : LinkRate) (width : LinkWidth) (flit : FlitMode) (farRate : LinkRate) (farWidth : LinkWidth) (ndr : BitVec 16) (drs : BitVec 16) (bisnp : BitVec 16)
  /-- PORT_FAILED (R31). A port with a far end detected fails to reach L0 for 1 s and reads FAILED, making MODULE_STATE DEGRADED while it keeps retrying. -/
  | portFailed (port : Fin 16) (rate : LinkRate) (width : LinkWidth)
  /-- CONFIG_REQUEST (R38). A CXL.io configuration request arrives; in fabric edge attachment a new PBR ID is counted as an agent or, as a fifth, refused with Unsupported Request. -/
  | configRequest (port : Fin 16) (src : BitVec 12) (tag : BitVec 14) (op : CfgOp)
  /-- HDM_DECODER_COMMIT (R40). A host sets Commit on an HDM decoder; the checks of Table HP-6 run in order and the decoder commits or sets Commit Error. -/
  | hdmDecoderCommit (port : Fin 16) (src : BitVec 12) (decoder : Fin 16) (hpa : BitVec 64) (dpa : BitVec 64) (size : BitVec 64) (ways : Nat) (bi : Bool)
  /-- HDM_DECODER_UNCOMMIT (R42). A host clears Commit on a decoder; for an HDM-DB decoder the agent's lines in its range are recalled before it leaves the committed state. -/
  | hdmDecoderUncommit (port : Fin 16) (src : BitVec 12) (decoder : Fin 16)
  /-- MEM_RD (R93). A MemRd request enters its line's conflict table and is served by the read order of R17 and, for HDM-DB lines, the matching row of Table CD-4. -/
  | memRd (port : Fin 16) (src : BitVec 12) (tag : BitVec 14) (addr : BitVec 64) (mv : MetaValue) (errs : List ArrayErr)
  /-- MEM_RD_DATA (R93). A MemRdData request is handled as Read-S, except that a line in I is granted in E. -/
  | memRdData (port : Fin 16) (src : BitVec 12) (tag : BitVec 14) (addr : BitVec 64) (errs : List ArrayErr)
  /-- MEM_SPEC_RD (R92). A MemSpecRd hint starts a fill of the HBM page read cache with no directory action and no response. -/
  | memSpecRd (port : Fin 16) (src : BitVec 12) (tag : BitVec 14) (addr : BitVec 64) (errs : List ArrayErr)
  /-- MEM_INV (R93). A MemInv or MemInvNT asks for ownership without data and is granted Cmp-E after any invalidation of other holders. -/
  | memInv (port : Fin 16) (src : BitVec 12) (tag : BitVec 14) (addr : BitVec 64) (errs : List ArrayErr)
  /-- MEM_CLN_EVCT (R100). A MemClnEvct reports a dropped clean copy; it is completed with Cmp and the line is dropped if no other holder remains. -/
  | memClnEvct (port : Fin 16) (src : BitVec 12) (tag : BitVec 14) (addr : BitVec 64) (errs : List ArrayErr)
  /-- BI_CONFLICT (R101). A BIConflict is answered with BIConflictAck after the responses to the agent's earlier requests for the line. -/
  | biConflict (port : Fin 16) (src : BitVec 12) (tag : BitVec 14) (addr : BitVec 64)
  /-- MEM_WR (R15). A full-line write enters its conflict table, is appended to the wharf, updates the index, filter and home cache, and completes. -/
  | memWr (port : Fin 16) (src : BitVec 12) (tag : BitVec 14) (addr : BitVec 64) (mv : MetaValue) (data : LineData) (poison : Bool) (errs : List ArrayErr)
  /-- MEM_WR_PTL (R62). A partial write merges into the slice's combining buffer, or bypasses it when all 256 entries are being appended, and completes once held. -/
  | memWrPtl (port : Fin 16) (src : BitVec 12) (tag : BitVec 14) (addr : BitVec 64) (mv : MetaValue) (data : LineData) (mask : ByteMask) (poison : Bool) (bypass : Bool) (errs : List ArrayErr)
  /-- COMBINING_TIMEOUT (R62). 40 ns after its first write, a combining-buffer entry is appended to the wharf. -/
  | combiningTimeout (line : Nat)
  /-- BI_RSP (R99). A BIRsp answers a snoop; when the last response of a recall arrives the recall is complete and the waiting access is served. -/
  | biRsp (port : Fin 16) (src : BitVec 12) (line : Nat) (rsp : BiRsp) (block : Bool)
  /-- BISNP_SEND (R102). A held back-invalidate snoop leaves its port once the host grants an S2M BISnp credit, the link is up and no port-local fence remains. -/
  | bisnpSend (snoop : Nat)
  /-- S2M_CREDIT_RETURN (R45). The host returns S2M credits, pacing the port's responses and snoops. -/
  | s2mCreditReturn (port : Fin 16) (ndr : BitVec 16) (drs : BitVec 16) (bisnp : BitVec 16)
  /-- RETRY_STORE_RELEASE (R96). A way of a set stops being busy and the oldest request waiting for that set retries allocation. -/
  | retryStoreRelease (slice : Fin 16) (set : Nat)
  /-- RETRY_TIMEOUT (R96). A request has waited 10 ms in the retry store, which starts the domain-down procedure. -/
  | retryTimeout (acc : Nat)
  /-- SNOOP_TIMEOUT (R103). A snoop is unanswered 10 ms after its generation, which starts the domain-down procedure. -/
  | snoopTimeout (snoop : Nat)
  /-- DOMAIN_RECOVER (R109). The DOMAIN_RECOVER command clears the domain-down latch and fences when the walk is done and no agent slot is in use. -/
  | domainRecover (req : KReq) (arg : BitVec 32)
  /-- GPF_PHASE1 (R34). Global persistent flush phase 1 completes at once. -/
  | gpfPhase1 (port : Fin 16)
  /-- GPF_PHASE2 (R34). Global persistent flush phase 2 completes at once. -/
  | gpfPhase2 (port : Fin 16)
  /-- IDENTIFY_MEMORY_DEVICE (R35). The mailbox command reports capacities of 100 TiB or 50 TiB persistent, no volatile capacity and no label storage. -/
  | identifyMemoryDevice (port : Fin 16)
  /-- GET_HEALTH_INFO (R35). The mailbox command reports health status, media status, life used, temperature, dirty shutdown count and error counts. -/
  | getHealthInfo (port : Fin 16)
  /-- GET_SUPPORTED_LOGS (R33). The mailbox command lists the supported logs. -/
  | getSupportedLogs (port : Fin 16)
  /-- GET_LOG (R33). The mailbox command returns the command effects log only. -/
  | getLog (port : Fin 16) (log : MailLog)
  /-- GET_FW_INFO (R33). The mailbox command returns firmware information. -/
  | getFwInfo (port : Fin 16)
  /-- GET_TIMESTAMP (R33). The mailbox command returns the timestamp. -/
  | getTimestamp (port : Fin 16)
  /-- MAILBOX_UNSUPPORTED (R33). Any other mailbox opcode returns Unsupported. -/
  | mailboxUnsupported (port : Fin 16) (opcode : BitVec 16)
  /-- UNSUPPORTED_REQUEST (R33). A CXL.io request using an unsupported option is completed as an Unsupported Request. -/
  | unsupportedRequest (port : Fin 16) (tag : BitVec 14)
  /-- CDAT_READ (R33). A DOE CDAT request returns the per-head CDAT entries of Table HP-4. -/
  | cdatRead (port : Fin 16)
  /-- IDE_KEY_PROGRAMMING (R48). IDE_KM over DOE after SPDM authentication programs or refreshes a port's IDE keys, refusing skid mode unless IDE_SKID_PERMIT is 1. -/
  | ideKeyProgramming (port : Fin 16) (mem : Bool) (skid : Bool) (refresh : Bool)
  /-- IDE_KEY_SWITCH (R48). The first flit under a refreshed key arrives, after which traffic under the old key is no longer accepted. -/
  | ideKeySwitch (port : Fin 16) (mem : Bool)
  /-- IDE_MAC_FAIL_CONTAIN (R48). A CXL.mem or CXL.io MAC or sequence failure in containment mode discards the epoch's data and fences the port with viral. -/
  | ideMacFailContain (port : Fin 16) (mem : Bool) (sequence : Bool)
  /-- IDE_MAC_FAIL_SKID (R48). A CXL.mem MAC or sequence failure in skid mode fences the port and halts the module with cause IDE_SKID. -/
  | ideMacFailSkid (port : Fin 16) (sequence : Bool)
  /-- IDE_KEY_SETUP_FAIL (R48). An IDE_KM or SPDM failure during key setup leaves the stream off. -/
  | ideKeySetupFail (port : Fin 16) (mem : Bool)
  /-- VIRAL_RX (R51). Viral received from a host fences that port with VIRAL_RX. -/
  | viralRx (port : Fin 16)
  /-- PORT_ENABLE (R53). A write of PORT_ENABLE takes the link to Disabled, or enables it, queuing an enable during shutdown as ENABLE_PENDING. -/
  | portEnable (req : KReq) (value : BitVec 8)
  /-- PORT_SHUTDOWN_DONE (R53). A port finishes sending or dropping its outstanding responses and its link reaches Disabled. -/
  | portShutdownDone (port : Fin 16)
  /-- ENABLE_PENDING_DONE (R298). A queued enable is carried out once the function's shutdown has ended and its minimum off time has passed. -/
  | enablePendingDone (fn : PendFn)
  /-- PORT_BIFURCATE (R28). A write of PORT_BIFURCATE is stored, or refused with STATE while either unit of the link has a committed decoder. -/
  | portBifurcate (req : KReq) (value : BitVec 8)
  /-- REGION_APPLY (R58). REGION_APPLY checks a region's staged values and applies them, first draining staged pages when base, size or mode change. -/
  | regionApply (req : KReq) (arg : BitVec 32)
  /-- REGION_APPLY_DRAIN_DONE (R240). The drain started by a REGION_APPLY finishes and the new definition takes effect, or the apply is abandoned because a page became pinned. -/
  | regionApplyDrainDone (region : Fin 64)
  /-- DRAIN_BARRIER (R72). A write of DRAIN_BARRIER issues a barrier covering every bulk write that entered a conflict table before it. -/
  | drainBarrier (port : Fin 16) (src : BitVec 12) (tag : BitVec 14) (value : BitVec 64) (mask : ByteMask)
  /-- MIRROR_BARRIER (R73). A write of MIRROR_BARRIER issues a barrier covering every asynchronously mirrored berth write that entered before it. -/
  | mirrorBarrier (port : Fin 16) (src : BitVec 12) (tag : BitVec 14) (value : BitVec 64) (mask : ByteMask)
  /-- BARRIER_HOLD_TIMEOUT (R69). BARRIER_HOLD_MAX elapses for a control-window write held for its effect, and its completion is sent while the state stays PENDING. -/
  | barrierHoldTimeout (window : Fin 32) (region : Fin 4) (tag : BitVec 14)
  /-- RESV_ADDR (R76). A write of RESV_ADDR names the word for the agent's next reservation. -/
  | resvAddr (port : Fin 16) (src : BitVec 12) (tag : BitVec 14) (value : BitVec 64) (mask : ByteMask)
  /-- RESV_LOAD (R78). A read of RESV_LOAD loads the word at RESV_ADDR and arms the agent's reservation, recalling an HDM-DB line first if needed. -/
  | resvLoad (port : Fin 16) (src : BitVec 12) (tag : BitVec 14) (errs : List ArrayErr)
  /-- RESV_STORE (R76). A write of RESV_STORE applies the conditional store at the line's conflict table only if the reservation is still held. -/
  | resvStore (port : Fin 16) (src : BitVec 12) (tag : BitVec 14) (value : BitVec 64) (mask : ByteMask) (errs : List ArrayErr)
  /-- RESERVATION_EXPIRY (R79). 1 ms after arming, a reservation is lost with cause 9. -/
  | reservationExpiry (window : Fin 32)
  /-- DISCARD_GO (R80). A write of DISCARD_GO queues a discard descriptor, or refuses it when the queue is full, the count is invalid or a page is outside admitted regions. -/
  | discardGo (port : Fin 16) (src : BitVec 12) (tag : BitVec 14) (value : BitVec 64) (mask : ByteMask)
  /-- DISCARD_PAGE (R81). The discard engine handles one page: recalls, drops staged lines and cache copies line by line, then appends the UNMAP record. -/
  | discardPage (window : Fin 32)
  /-- CW_WRITE (R68). A control-window write to a register without its own effect, a read-only register, a malformed mask or an unlisted offset is applied or discarded as R68 states. -/
  | cwWrite (port : Fin 16) (src : BitVec 12) (tag : BitVec 14) (offset : BitVec 28) (data : LineData) (mask : ByteMask)
  /-- HC_ENABLE (R120). A write of HC_ENABLE switches the non-berth home cache off, or on only while HC_STALE_RISK is 0. -/
  | hcEnable (req : KReq) (value : BitVec 8)
  /-- HC_INVALIDATE (R121). HC_INVALIDATE starts clearing every valid bit of every non-berth way. -/
  | hcInvalidate (req : KReq) (arg : BitVec 32)
  /-- HC_ENABLE_FORCE (R122). HC_ENABLE_FORCE re-enables the cache without invalidating it and leaves HC_STALE_RISK set. -/
  | hcEnableForce (req : KReq) (arg : BitVec 32)
  /-- HC_WAY_REENABLE (R124). HC_WAY_REENABLE enables a disabled way again, empty, if it has passed the SRAM self-test since it was disabled. -/
  | hcWayReenable (req : KReq) (arg : BitVec 32)
  /-- BERTH_WAY_COPY_DONE (R132). The copy of a failing berth way finishes, the copy becomes the berth way and the failing way is disabled. -/
  | berthWayCopyDone (slice : Fin 16)
  /-- PREFETCH_FILL (R117). A prefetch read returns and its sector enters the prefetch side buffer, displacing the oldest unused sector. -/
  | prefetchFill (read : Nat) (dieBusy : Bool)
  /-- BERTH_WAYS (R125). A write of BERTH_WAYS grows the berth by converting ways, or shrinks it, or is refused with STATE. -/
  | berthWays (req : KReq) (value : BitVec 8)
  /-- BERTH_RANGE_APPLY (R127). BERTH_RANGE_APPLY checks and applies a berth range's staged values. -/
  | berthRangeApply (req : KReq) (arg : BitVec 32)
  /-- BERTH_PROMOTE (R140). BERTH_PROMOTE turns every replica range into a local range and increments PAIR_GENERATION, while the mirror is OFF or SPLIT. -/
  | berthPromote (req : KReq) (arg : BitVec 32)
  /-- MIRROR_ENABLE (R141). A write of MIRROR_ENABLE starts connecting or stopping the mirror, queuing an enable during STOPPING as ENABLE_PENDING. -/
  | mirrorEnable (req : KReq) (value : BitVec 8)
  /-- MIRROR_ACCEPT_PEER (R140). MIRROR_ACCEPT_PEER in DIVERGED turns matching primaries into replicas, adopts the peer's generation and starts a full resynchronisation. -/
  | mirrorAcceptPeer (req : KReq) (arg : BitVec 32)
  /-- MIRROR_HANDSHAKE (R133). A mirror handshake completes and the session is accepted, refused for range mismatch, or the lower generation enters DIVERGED. -/
  | mirrorHandshake (peer : PeerProof) (peerGeneration : BitVec 32) (peerIntact : Bool) (peerRanges : List (Nat × Nat × Nat))
  /-- MIRROR_DATA (R135). A DATA frame is applied in SEQ order into the replica range and acknowledged. -/
  | mirrorData (frame : MirrorFrame)
  /-- MIRROR_ACK (R136). An ACK frame advances ACK_SEQ, completing held synchronous writes and lowering MIRROR_LAG. -/
  | mirrorAck (frame : MirrorFrame)
  /-- MIRROR_HEARTBEAT (R135). A HEARTBEAT frame from the peer is received. -/
  | mirrorHeartbeat (frame : MirrorFrame)
  /-- MIRROR_RESYNC_DATA (R139). A RESYNC_DATA frame is applied in SEQ order into the replica range. -/
  | mirrorResyncData (frame : MirrorFrame)
  /-- MIRROR_RESYNC_DONE (R139). A RESYNC_DONE frame follows the last page and the mirror enters IN_SYNC. -/
  | mirrorResyncDone (frame : MirrorFrame)
  /-- LIGHTER_CLOSE_TIMEOUT (R154). LIGHTER_CLOSE_TIME passes since a lighter opened, and it closes with TIMED set. -/
  | lighterCloseTimeout (slice : Fin 16) (prio : Fin 5)
  /-- LIGHTER_TAKE (R156). A slice's drain engine takes the oldest closed lighter of the highest waiting priority and places it in an open stripe. -/
  | lighterTake (slice : Fin 16) (pointersDiffer : Option (Nat × Nat))
  /-- PLATE_PROGRAM_DONE (R175). A plate program and verify finish; the plate joins the accumulator and each page's journal record commits, the map changes and wharf slots are released. -/
  | plateProgramDone (lighter : Nat) (plate : Fin 15) (result : PlateResult)
  /-- PARITY_PROGRAM_DONE (R172). The parity plate programmed from the accumulator verifies and a SEAL record names the stripe's members. -/
  | parityProgramDone (lighter : Nat) (ok : Bool)
  /-- PINNED_LIGHTER_FORM (R157). Once a stripe can again be opened in the group, the slice forms closed P0 lighters with PINNED set from its pinned pages. -/
  | pinnedLighterForm (slice : Fin 16)
  /-- HELD_WRITE_ENTRY (R160). Slots free and the oldest write held at full occupancy or a slice limit enters its conflict table. -/
  | heldWriteEntry (slice : Fin 16)
  /-- PIN_LOW_MINIMUM (R161). A STAGE pin driven low has stayed low for 100 µs and may take the level its wharf level calls for. -/
  | pinLowMinimum (pin : StagePin)
  /-- DIRTY_CAP_LIMIT (R151). A write of DIRTY_CAP_LIMIT stores the limit and recomputes DIRTY_CAP at once. -/
  | dirtyCapLimit (req : KReq) (value : BitVec 64)
  /-- FILTER_REBUILD_DONE (R148). A fresh presence filter built from the index is swapped in when no record is being created or removed. -/
  | filterRebuildDone (slice : Fin 16)
  /-- QUEUE_REBUILD_DONE (R158). The drain queue is re-formed from the wharf index and block metadata and the held writes are released. -/
  | queueRebuildDone (slice : Fin 16)
  /-- CHECKPOINT_SEGMENT_DONE (R178). All chunks of a segment are written to its older slot and a catalogue page names the new copy. -/
  | checkpointSegmentDone (segment : Nat)
  /-- SET_RESET_DONE (R177). A set reset issued after its SET record completes and the set becomes FREE, or the failing block is retired. -/
  | setResetDone (group : Fin 2) (set : Nat) (failedStack : Option (Fin 16))
  /-- RECLAIM_VICTIM_SELECT (R183). Reclaim of a group chooses a victim set by cost or erase-count gap and issues its copies as lighters. -/
  | reclaimVictimSelect (group : Fin 2)
  /-- MAP_REPAIRED (R181). The chunk repair completes within 200 ms and waiting accesses to its pages proceed. -/
  | mapRepaired (chunk : Nat) (copyReadable : Bool)
  /-- DIE_FAILED (R187). A die fails to answer 3 times within 1 ms or is reported unusable; it reads FAILED and a rebuild starts. -/
  | dieFailed (group : Fin 2) (stack : Fin 16) (die : Fin 32) (cause : Nat)
  /-- STACK_FAILED (R187). A stack fails link retraining 3 times or its base die reports a fault; it reads FAILED and a rebuild starts. -/
  | stackFailed (group : Fin 2) (stack : Fin 16) (cause : Nat)
  /-- SUSPEND_ESTIMATE (R200). A base die reports a suspend estimate for a read finding its plane busy, and the controller suspends, queues or reads around. -/
  | suspendEstimate (read : Nat) (estimateNs : Nat)
  /-- SECTOR_READ_DONE (R208). A sector codeword returns from a die and is hard-decoded, climbing the retry ladder on failure, then decrypted and delivered. -/
  | sectorReadDone (read : Nat) (decoded : Bool) (corrected : Bool)
  /-- MEMBER_READ_DONE (R201). A member codeword of a read-around or reconstruction returns; with the last one the codewords are XORed and decoded. -/
  | memberReadDone (read : Nat) (stack : Fin 16) (decoded : Bool)
  /-- OP_OVERDUE (R202). A program or reset suspended for four times its typical duration becomes overdue, and reads prefer read-around. -/
  | opOverdue (group : Fin 2) (stack : Fin 16) (die : Fin 32) (plane : Fin 4) (reset : Bool)
  /-- FINE_SUSPEND_ON (R203). A window of 2^24 demand reads to a stack ends with more than FINE_ENTER long waits and the stack enters fine-suspend mode. -/
  | fineSuspendOn (group : Fin 2) (stack : Fin 16)
  /-- FINE_SUSPEND_OFF (R203). FINE_HOLD seconds pass with no window over FINE_ENTER and the stack leaves fine-suspend mode. -/
  | fineSuspendOff (group : Fin 2) (stack : Fin 16)
  /-- DEGRADED_OVERLOAD (R204). A group's links carry read codewords above 95 % of payload averaged over 100 µs and its reads are excluded as overloaded. -/
  | degradedOverload (group : Fin 2) (rate : Nat) (begins : Bool)
  /-- PROOF_PASS_START (R213). A die's staggered proof pass falls due and 64 sample sectors are read at 15 references. -/
  | proofPassStart (group : Fin 2) (stack : Fin 16) (die : Fin 32)
  /-- PROOF_PASS_DONE (R214). A proof pass finishes, margins are derived, MARGIN_NOW set and the results logged. -/
  | proofPassDone (group : Fin 2) (stack : Fin 16) (die : Fin 32) (samples : List ProofSample)
  /-- CONFIRM_PASS_DONE (R222). A confirmatory pass of 256 samples finishes and blocks below the limits are retired for margin. -/
  | confirmPassDone (group : Fin 2) (stack : Fin 16) (die : Fin 32) (samples : List ProofSample)
  /-- EYE_MARGIN_MEASUREMENT (R212). Every 24 operating hours and after training, receiver eye margins are measured per lane. -/
  | eyeMarginMeasurement (unit : BitVec 32) (lane : BitVec 16) (timing1 : BitVec 16) (voltage1 : BitVec 16) (timing2 : BitVec 16) (voltage2 : BitVec 16)
  /-- EFFICIENCY_SAMPLE (R212). Every 60 s each power stage's efficiency is sampled. -/
  | efficiencySample (rail : Fin 18) (outMw : BitVec 32) (inMw : BitVec 32)
  /-- PROOF_NOW (R212). PROOF_NOW runs a proof pass on the unit's dies within one PROOF_INTERVAL. -/
  | proofNow (req : KReq) (arg : BitVec 32)
  /-- AGE_EXPORT (R215). A read of AGE_EXPORT returns up to 16 measurement records from AGE_CURSOR and advances the cursor. -/
  | ageExport (req : KReq)
  /-- PLAN_APPLY (R217). PLAN_APPLY runs the checks of Table AG-5 on the staged plan and propagates it to every die. -/
  | planApply (req : KReq) (arg : BitVec 32)
  /-- PLAN_ROLLBACK (R220). PLAN_ROLLBACK exchanges the active and previous plans. -/
  | planRollback (req : KReq) (arg : BitVec 32)
  /-- SCRUB_START (R246). SCRUB_START begins a scrub of HBM, SRAM or a media range. -/
  | scrubStart (req : KReq) (arg : BitVec 32)
  /-- SCRUB_ABORT (R246). SCRUB_ABORT ends a running scrub. -/
  | scrubAbort (req : KReq) (arg : BitVec 32) (found : ScrubFound)
  /-- SCRUB_DONE (R246). A scrub finishes its range and SCRUB_STATE and SCRUB_SUMMARY are set. -/
  | scrubDone (found : ScrubFound) (tagFail : Option (Nat × Fin 8))
  /-- CUSTODIAN_KEY (R240). A write of CUSTODIAN_KEY stores it wrapped under the device key and rewraps every domain key within 10 ms. -/
  | custodianKey (req : KReq) (key : BitVec 256)
  /-- KEY_ROTATE (R238). KEY_ROTATE gives a domain a new current key, keeps the old as previous and starts a rekey pass. -/
  | keyRotate (req : KReq) (arg : BitVec 32)
  /-- REKEY_DONE (R238). The rekey pass finishes its scan, the previous key is destroyed and the domain returns to ACTIVE. -/
  | rekeyDone (domain : Fin 64)
  /-- KEY_DESTROY (R239). KEY_DESTROY erases a key domain, drops its staged lines and cache copies and makes its old sectors read zeros. -/
  | keyDestroy (req : KReq) (arg : BitVec 32)
  /-- PROT_APPLY (R247). PROT_APPLY sets or removes a protected range. -/
  | protApply (req : KReq) (arg : BitVec 32)
  /-- TAG_CHECK_DONE (R242). The GCM tag check of a media sector completes; a failure on a decoded codeword is an integrity failure. -/
  | tagCheckDone (read : Nat) (ok : Bool)
  /-- INTEGRITY_DUMP_DONE (R243). The integrity-halt dump completes and /1 reads HALTED. -/
  | integrityDumpDone (dumpMib : BitVec 32)
  /-- INTEGRITY_RECOVER (R244). INTEGRITY_RECOVER records the choice for the failing page and clears the HALTED latch. -/
  | integrityRecover (req : KReq) (arg : BitVec 32)
  /-- POWER_FAIL (R267). VIN stays below VIN_FAIL for 20 µs and the power-fail flush of R268 starts. -/
  | powerFail (vin vhold : BitVec 32)
  /-- PWRFAIL_N_ASSERT (R267). An accepted assertion of PWRFAIL_N detects a power failure and starts the flush. -/
  | pwrfailNAssert (vin vhold : BitVec 32)
  /-- OVERVOLTAGE (R267). VIN stays above 63.0 V for 20 µs, a power failure with cause OVERVOLTAGE. -/
  | overvoltage (vin vhold : BitVec 32)
  /-- FLUSH_DONE (R268). The dump is sealed, the rails are down and the harbourmaster has written its last record; MODULE_STATE becomes COLD or LATCHED_OFF. -/
  | flushDone (duration vholdEnd dumpMib : BitVec 32) (isSealed : Bool)
  /-- POWER_CAP_TICK (R251). Every 1 ms POWER_CAP is recomputed and POWER_STEP rises or falls. -/
  | powerCapTick (vinAvg pin : BitVec 32)
  /-- PHASE_LOST (R252). An input phase or a phase of a multiphase rail faults and is turned off. -/
  | phaseLost (rail : Fin 18) (phase : Fin 11)
  /-- PMBUS_POLL (R257). Every 1 ms STATUS_WORD of each PMBus device is polled. -/
  | pmbusPoll (words : List (Fin 18 × BitVec 16))
  /-- PMBUS_TELEMETRY (R257). Every 100 ms telemetry of each PMBus device is read. -/
  | pmbusTelemetry (vin iin : BitVec 32) (readings : List RailReading)
  /-- PMBUS_TIMEOUT (R257). A PMBus transaction goes 5 ms without a reply or fails its check, is retried, and after a third failure marks the device unreachable. -/
  | pmbusTimeout (device : PmDev) (command page : BitVec 8)
  /-- PMBUS_DEVICE_RETRY (R257). Every 1 s the harbourmaster retries an unreachable PMBus device. -/
  | pmbusDeviceRetry (device : PmDev) (answered : Bool)
  /-- POWER_GOOD_DEASSERT (R258). A rail's power-good deasserts; a debounced deassertion or a third raw one within 1 ms is a fault. -/
  | powerGoodDeassert (rail : Fin 18) (debounced : Bool)
  /-- RAIL_RETRY (R259). 50 ms after a RETRY_RAIL turn-off the rail is turned on again. -/
  | railRetry (target : RetryTarget) (ok : Bool)
  /-- FAULT_EPISODE_END (R259). A rail has held power-good for 60 s and its attempt count returns to 0. -/
  | faultEpisodeEnd (target : RetryTarget)
  /-- LOAD_SWITCH_TRIP (R255). A stack's load switch trips, a fault of that stack handled by the bank's reaction. -/
  | loadSwitchTrip (group : Fin 2) (stack : Fin 16)
  /-- BANK_ENABLE (R261). A write of BANK_ENABLE turns a bank off or on, queuing an enable during shutdown as ENABLE_PENDING. -/
  | bankEnable (req : KReq) (value : BitVec 8)
  /-- BANK_SHUTDOWN_DONE (R261). Both rails of a bank have fallen below 10 % and its shutdown has ended. -/
  | bankShutdownDone (bank : Fin 4)
  /-- RAIL_FALL_TIMEOUT (R263). A rail turned off stays above 10 % for 5 ms, then 5 ms more with discharge, and the sequence proceeds. -/
  | railFallTimeout (rail : Fin 18) (millivolts : BitVec 32)
  /-- HOLDUP_MEASURE (R265). HOLDUP_MEASURE requests a hold-up measurement, merged into any running one. -/
  | holdupMeasure (req : KReq) (arg : BitVec 32)
  /-- HOLDUP_MEASURED (R265). The discharge reaches v_end; capacitance, ESR and HOLDUP_ENERGY are computed and DIRTY_CAP recomputed. -/
  | holdupMeasured (tTestUs vStepUv : BitVec 32) (temp : BitVec 16)
  /-- VHOLD_RECOMPUTE_TICK (R266). Every 10 ms while V_HOLD is below 55.0 V outside a measurement, HOLDUP_ENERGY is recomputed. -/
  | vholdRecomputeTick (vhold : BitVec 32)
  /-- FLUSH_BUFFER_ERASED (R271). A released flush buffer's sets finish resetting, it becomes ERASED and gets a new dump key. -/
  | flushBufferErased (buffer : Fin 2)
  /-- REF_CLOCK_LOST (R279). REFCLK is absent or off by 1000 ppm for 100 µs and the PLLs switch to the backup reference. -/
  | refClockLost (copy : Fin 2) (ppm : BitVec 16) (unlocked : List (Fin 16))
  /-- REF_CLOCK_RESTORED (R279). REFCLK has been good for 100 ms and the PLLs switch back. -/
  | refClockRestored (copy : Fin 2)
  /-- WARM_RESET (R283). WARM_RESET acts as a warm reset by the module state of Table CS-4. -/
  | warmReset (req : KReq) (arg : BitVec 32)
  /-- WATCHDOG_RESTART (R286). A management core misses its kick for WATCHDOG_TIMEOUT and the five ordinary cores restart. -/
  | watchdogRestart (core : Fin 5)
  /-- BLOCK_RESET (R287). BLOCK_RESET resets one idle block of Table CS-5 in place. -/
  | blockReset (req : KReq) (arg : BitVec 32)
  /-- BLOCK_RELEASE (R288). A block in reset is released once its clock-ready is asserted. -/
  | blockRelease (block : Fin 6) (clockReady : Bool)
  /-- PSTATE_REQUEST_0 (R290). PSTATE_REQUEST 0 aborts a preparing P3 or P4 entry. -/
  | pstateRequest0 (req : KReq)
  /-- PSTATE_REQUEST_3 (R290). PSTATE_REQUEST 3 starts an entry to P3. -/
  | pstateRequest3 (req : KReq)
  /-- PSTATE_REQUEST_4 (R290). PSTATE_REQUEST 4 starts an entry to P4, or retargets a P3 entry. -/
  | pstateRequest4 (req : KReq)
  /-- PSTATE_PREP_TIMEOUT (R290). PSTATE_PREP_MAX elapses while preparing and the entry aborts. -/
  | pstatePrepTimeout (longest : WaitRefuser)
  /-- WAKE_STEP_DONE (R293). A wake step's ready signal asserts and the next step starts, until P0 is reached. -/
  | wakeStepDone (bad : List (Nat × Fin 2))
  /-- PAD_HOLD_RELEASE (R294). PAD_HOLD_RELEASE releases the held sideband pads. -/
  | padHoldRelease (req : KReq) (arg : BitVec 32)
  /-- RETENTION_FREEZE (R296). RETENTION_FREEZE stops every clock domain except the flush core, watchdog and test controller. -/
  | retentionFreeze (req : KReq) (arg : BitVec 32)
  /-- RETENTION_RESUME (R296). RETENTION_RESUME restarts the clocks from the retained state. -/
  | retentionResume (req : KReq) (arg : BitVec 32)
  /-- SENSOR_SAMPLE (R304). Every 1 ms each sensor is sampled and thresholds, steps, rate boosts and warnings are evaluated. -/
  | sensorSample (readings : List TempReading)
  /-- RATE_BOOST_END (R306). The rise stays at or below 1.0 °C for 1 s and the boost is removed. -/
  | rateBoostEnd (unit : BitVec 32)
  /-- THERM_GRACE_EXPIRY (R309). The thermal request has stayed at its level for THERM_GRACE and enforcing ports cut f_thermal. -/
  | thermGraceExpiry (severe : Bool)
  /-- SENSOR_RETEST (R303). SENSOR_RETEST returns every FAILED sensor to test. -/
  | sensorRetest (req : KReq) (arg : BitVec 32)
  /-- JTAG_INSTRUCTION (R321). A TAP instruction is loaded through J5 and executed as permitted by the lock and module state. -/
  | jtagInstruction (ir : TapIr)
  /-- OPEN (R350). A KDP OPEN starts a session handshake, refused during back-off or for an unset role. -/
  | openSession (netPort : Fin 2) (via : NetAddr) (src : BitVec 128) (gram : Datagram) (role : BitVec 8) (nc : BitVec 128) (wellFormed : Bool)
  /-- PROVE (R351). A KDP PROVE is checked and the session opens with PROOF_D, or AUTH is returned. -/
  | prove (sid : BitVec 32) (proof : Option (BitVec 256)) (gram : Datagram)
  /-- HANDSHAKE_EXPIRY (R350). A pending handshake expires 1 s after the OPEN response. -/
  | handshakeExpiry (sid : BitVec 32)
  /-- CLOSE (R353). A KDP CLOSE from the station closes the session. -/
  | closeSession (req : KReq)
  /-- KEEPALIVE (R353). A KDP KEEPALIVE counts as an executed request for idleness. -/
  | keepalive (req : KReq)
  /-- READ (R340). A KDP READ passes the checks of R341 and returns the value, or entries for a wildcard path. -/
  | read (req : KReq) (index : BitVec 16)
  /-- WRITE (R344). A KDP WRITE of an object without a row of its own passes the checks of R341 and takes effect whole. -/
  | write (req : KReq) (index : BitVec 16) (body : WriteBody)
  /-- BULK_OPEN (R355). A BULK_OPEN opens the module's single bulk transfer for an object. -/
  | bulkOpen (req : KReq) (index : BitVec 16) (direction : BitVec 8) (total : BitVec 32)
  /-- BULK_DATA (R355). A BULK_DATA writes a span of the transfer. -/
  | bulkData (req : KReq) (offset : BitVec 32) (data : List Byte)
  /-- BULK_READ (R355). A BULK_READ returns a span of the object copy taken at BULK_OPEN. -/
  | bulkRead (req : KReq) (offset : BitVec 32) (count : BitVec 16)
  /-- BULK_COMMIT (R355). A BULK_COMMIT replaces the object whole if every byte is written and the CRC matches. -/
  | bulkCommit (req : KReq) (crc : BitVec 32)
  /-- BULK_END (R355). A BULK_END closes the transfer, discarding an uncommitted write. -/
  | bulkEnd (req : KReq)
  /-- SUBSCRIBE (R356). A SUBSCRIBE sets or clears one of the session's four event filter slots. -/
  | subscribe (req : KReq) (slot minSev : BitVec 8) (subsystems : BitVec 16) (tree : BitVec 32)
  /-- EVENT_SEND (R357). 16 matching records wait, or 2 ms pass after the first, and an EVENT message is sent. -/
  | eventSend (sid : BitVec 32)
  /-- EVENT_RESEND (R357). An EVENT unacknowledged for 200 ms is resent, and dropped after 5 resends. -/
  | eventResend (sid : BitVec 32) (seq : BitVec 64)
  /-- EVENT_ACK (R357). An EVENT_ACK acknowledges every EVENT up to ACK_SEQ. -/
  | eventAck (req : KReq) (ackSeq : BitVec 64)
  /-- IDLE_TIMEOUT (R353). A session with no executed request for IDLE_TIMEOUT closes with TIMEOUT. -/
  | idleTimeout (sid : BitVec 32)
  /-- BACKOFF_EXPIRY (R354). An hour passes without a further doubling and a source address's failure count and back-off clear. -/
  | backoffExpiry (addr : BitVec 128)
  /-- SESSION_KILL (R353). SESSION_KILL closes a named session, subject to its role rule. -/
  | sessionKill (req : KReq) (arg : BitVec 32)
  /-- ROLE_KEY (R352). A write of ROLE_KEY sets or unsets a role key and closes that role's other sessions. -/
  | roleKey (req : KReq) (key : BitVec 256)
  /-- NET_ENABLE (R358). A write of NET_ENABLE takes a network port's MAC and PHY off or on, refusing a lock-out. -/
  | netEnable (req : KReq) (value : BitVec 8)
  /-- NET_SHUTDOWN_DONE (R358). A network port's MAC and PHY are off. -/
  | netShutdownDone (port : Fin 2)
  /-- NET_APPLY (R359). NET_APPLY puts a network port's staged addressing into effect. -/
  | netApply (req : KReq) (arg : BitVec 32)
  /-- NET_LINK_CHANGE (R358). A network port's link comes up, goes down or its PHY reports a fault, changing its UNIT_STATE. -/
  | netLinkChange (port : Fin 2) (link : Fin 3) (phyFault : Bool)
  /-- NET_ADDRESS_OBTAINED (R359). SLAAC or DHCPv4 yields an address and the port becomes READY. -/
  | netAddressObtained (port : Fin 2) (addr : BitVec 128) (v4 : Bool)
  /-- HM_STORE_NOW (R363). HM_STORE_NOW requests a shadow store, merged and spaced at most once per 10 s. -/
  | hmStoreNow (req : KReq) (arg : BitVec 32)
  /-- SHADOW_STORE_DONE (R364). A shadow store finishes copying and verifying every page. -/
  | shadowStoreDone (bad : List (Fin 256))
  /-- HM_WINDOW_DATA (R365). A write of HM_WINDOW_DATA writes station-area bytes wrapping within their page, or is refused. -/
  | hmWindowData (req : KReq) (data : List Byte)
  /-- RECORDER_FREEZE (R377). A write of RECORDER_FREEZE stops or resumes recording in the buffer and media log. -/
  | recorderFreeze (req : KReq) (value : BitVec 8)
  /-- LOG_EXPORT (R376). A read of LOG_EXPORT returns up to 16 event records from LOG_CURSOR and advances it. -/
  | logExport (req : KReq)
  /-- TRIGGER (R378). A write of a TRIGGER slot arms or disarms snapshot objects for an event code. -/
  | trigger (req : KReq) (data : List Byte)
  /-- PC_CONFIG (R382). A write of PC_CONFIG enables or configures a counter, refused when its scope or sampling does not fit the event. -/
  | pcConfig (req : KReq) (value : BitVec 32)
  /-- PC_COUNT (R383). A write of PC_COUNT presets a counter from the next cycle and clears OVF. -/
  | pcCount (req : KReq) (value : BitVec 64)
  /-- PC_OVERFLOW (R384). A counter carries past 2^48 − 1, reloads, sets OVF and may arm a sample or freeze the unit. -/
  | pcOverflow (counter : Fin 8) (count : Fin 65) (slice : Option (Fin 16))
  /-- PC_FREEZE (R385). A write of PC_FREEZE stops or resumes every programmable counter at one edge. -/
  | pcFreeze (req : KReq) (value : BitVec 8)
  /-- PC_SNAPSHOT (R386). PC_SNAPSHOT copies PC_CYCLES and the eight counters from one cycle into PC_SNAP. -/
  | pcSnapshot (req : KReq) (arg : BitVec 32)
  /-- SAMPLE_TAKEN (R387). An armed slice records the first matching transaction, or the 64th of any kind, into the sample ring. -/
  | sampleTaken (slice : Fin 16) (port : Fin 17) (src : BitVec 16) (line : BitVec 51) (write : Bool) (event : Fin 27) (unit : BitVec 32)
  /-- SAMPLE_EXPORT (R388). A read of SAMPLE_EXPORT returns up to 16 samples from SAMPLE_CURSOR and advances it. -/
  | sampleExport (req : KReq)
  /-- BW_WINDOW_US (R390). A write of BW_WINDOW_US clears the window histories and restarts counting at the new length. -/
  | bwWindowUs (req : KReq) (value : BitVec 32)
  /-- LB_RUN (R394). LB_RUN starts a loopback of the unit at LB_DEPTH, or aborts one with argument 0. -/
  | lbRun (req : KReq) (arg : BitVec 32)
  /-- LB_RUN_END (R394). The loopback's duration passes, LB_RESULT is set and the unit returns to service. -/
  | lbRunEnd (unit : BitVec 32) (noLock : Bool) (duration : BitVec 32) (checked errors : BitVec 64) (firstLane : BitVec 16)
  /-- SRAM_SELFTEST (R395). SRAM_SELFTEST runs March C− on one disabled way, or on every slice SRAM array during boot hold. -/
  | sramSelftest (req : KReq) (arg : BitVec 32)
  /-- SRAM_SELFTEST_DONE (R395). An SRAM self-test finishes and SRAM_RESULT is set. -/
  | sramSelftestDone (passed : BitVec 32) (failing : List (Fin 16 × BitVec 32)) (ms : BitVec 32)
  /-- STACK_SELFTEST (R396). STACK_SELFTEST programs, reads and resets a spare block on each live die of a stack. -/
  | stackSelftest (req : KReq) (arg : BitVec 32)
  /-- STACK_SELFTEST_DONE (R396). A stack self-test finishes and STACK_RESULT is set. -/
  | stackSelftestDone (group : Fin 2) (stack : Fin 16) (failed : BitVec 32)
  /-- HBM_SELFTEST (R397). HBM_SELFTEST runs a destructive March C− test over an HBM stack during boot hold. -/
  | hbmSelftest (req : KReq) (arg : BitVec 32)
  /-- HBM_SELFTEST_DONE (R397). An HBM self-test finishes and HBM_RESULT is set. -/
  | hbmSelftestDone (stack : Fin 8) (passed : BitVec 32) (failing : List (Fin 16 × BitVec 32)) (ms : BitVec 32)
  /-- JTAG_UNLOCK (R398). JTAG_UNLOCK opens the service header for the given seconds, or relocks it with 0. -/
  | jtagUnlock (req : KReq) (arg : BitVec 32)
  /-- BOOT_RELEASE (R399). BOOT_RELEASE continues a held start into LOADING. -/
  | bootRelease (req : KReq) (arg : BitVec 32)
  /-- FW_INSTALL (R401). FW_INSTALL checks the staged image and writes it into the slot not in use. -/
  | fwInstall (req : KReq) (arg : BitVec 32) (verified : Bool)
  /-- FW_ACTIVATE_LIVE (R403). FW_ACTIVATE 1 loads the other image and switches to it during a pause of at most 30 ms. -/
  | fwActivateLive (req : KReq)
  /-- FW_ACTIVATE_NEXT_START (R402). FW_ACTIVATE 2 records in the BOOT record that the other slot is used at the next BOOTING. -/
  | fwActivateNextStart (req : KReq)
  /-- FW_ACTIVATION_FAILED (R403). The new image has not taken over 25 ms into the pause and the old image resumes. -/
  | fwActivationFailed (stage : BitVec 8)
  /-- VIN_RETURN (R269). VIN rises into 6.0–60.0 V and the 500 ms good-input count starts. -/
  | vinReturn (vin : BitVec 32)
  /-- BANK_LINKS_TRAINED (R260). A media bank turned back on has power-good and its stack links have trained, so its stacks leave the unavailable state, pinned pages drain and rebuild resumes. -/
  | bankLinksTrained (bank : Fin 4)
  /-- WHARF_INDEX_REPAIRED (R231). The rebuild of an uncorrectable wharf index bucket from the slice's log ring finishes within 8 ms, and waiting accesses to its pages proceed. -/
  | wharfIndexRepaired (page : Nat)
  /-- RWD_CREDIT_PACE (R46). At each 1 µs pacing interval while f is below 1, a port returns the RwD credits its pace allows that were withheld in earlier intervals. -/
  | rwdCreditPace (port : Fin 16)
  /-- UNKNOWN_OPCODE (R341). A KDP message with an unknown opcode arrives and is answered with RANGE. -/
  | unknownOpcode (req : KReq) (opcode : BitVec 8)
  /-- THERMAL_LATCH_CLEAR (R312). VIN has stayed below 4.0 V for at least 2 s, which clears THERMAL_LATCH. -/
  | thermalLatchClear
  /-- SEQUENCING_STEP_DONE (R262). The rails of a sequencing step reach debounced power-good and the 2 ms settle passes, so the next up step begins or BOOTING is entered. -/
  | sequencingStepDone
  /-- BOOT_RETRY_TIMER (R404). With both images failed twice, the next alternating boot attempt starts after 10 s. -/
  | bootRetryTimer
  /-- HBM_TRAINED (R300). HBM training completes and the remap tables are applied during BOOTING. -/
  | hbmTrained
  /-- MEDIA_LINKS_TRAINED (R300). The media links finish training; with firmware running and HBM trained, the module enters LOADING. -/
  | mediaLinksTrained
  /-- FLUSH_AREA_REPLAY_DONE (R274). The wharf, combining buffers, berths, bitmap and recorder of the newest sealed dump are restored into HBM and SRAM. -/
  | flushAreaReplayDone
  /-- MEMORY_ACTIVE_RAISE (R300). Once the hold-up gate is met, a flush buffer is ERASED and the latches are applied, Memory_Active rises and MODULE_STATE becomes READY, DEGRADED or a latched state. -/
  | memoryActiveRaise
  /-- DOMAIN_DOWN_WALK_DONE (R105). The slices finish walking their directories and staging stale markers, the directory and retry stores are cleared and STALE_LINES rises. -/
  | domainDownWalkDone
  /-- HC_INVALIDATE_DONE (R121). The invalidation completes within 50 µs and HC_STALE_RISK is cleared. -/
  | hcInvalidateDone
  /-- BERTH_GROW_DONE (R125). The added berth ways are invalidated and zeroed and BERTH_WAYS_NOW rises. -/
  | berthGrowDone
  /-- MIRROR_STOP_DONE (R141). The mirror session finishes closing and STOPPING ends. -/
  | mirrorStopDone
  /-- MIRROR_CONNECT_RETRY (R133). Every 1 s a module in CONNECTING retries the mirror handshake. -/
  | mirrorConnectRetry
  /-- MIRROR_RESYNC_PAGE_SEND (R139). A page marked in the resynchronisation bitmap is sent as RESYNC_DATA frames at MIRROR_RESYNC_RATE. -/
  | mirrorResyncPageSend
  /-- MIRROR_ACK_TIMER (R135). A receiver holding unacknowledged non-SYNC frames acknowledges them at least every 20 µs. -/
  | mirrorAckTimer
  /-- MIRROR_RETRANSMIT (R135). The oldest unacknowledged frame goes 50 µs without an advance of ACK_SEQ, and every frame from it is resent. -/
  | mirrorRetransmit
  /-- MIRROR_HEARTBEAT_TIMER (R135). Each side sends HEARTBEAT at least every 1 ms. -/
  | mirrorHeartbeatTimer
  /-- MIRROR_SPLIT (R138). No valid frame arrives for MIRROR_LOSS_TIME; the state becomes SPLIT, held writes complete and pending mirror barriers read FAULT. -/
  | mirrorSplit
  /-- MIRROR_LAG_RELEASE (R137). MIRROR_LAG falls below MIRROR_LAG_MAX and writes held ahead of the conflict table for asynchronous ranges enter. -/
  | mirrorLagRelease
  /-- DIRTY_CAP_RECOMPUTE (R151). Every 60 operating seconds DIRTY_CAP and the level thresholds are recomputed from the measured hold-up energy. -/
  | dirtyCapRecompute
  /-- EQ_CLOCK_TICK (R205). Each operating second every die's equivalent-age clock advances by the acceleration factor, with minute and hour snapshots. -/
  | eqClockTick
  /-- HOURLY_MEASUREMENT (R212). Each operating hour the program-verify, erase, error-rate and efficiency records are logged and end-of-life is recomputed. -/
  | hourlyMeasurement
  /-- PLAN_APPLIED (R218). An accepted plan has reached every die's base die and the old active plan becomes the previous plan. -/
  | planApplied
  /-- VIN_DIP (R253). VIN dips below VIN_FAIL for less than 20 µs and is ridden through. -/
  | vinDip
  /-- VBUS_BELOW_11V (R253). V_BUS falls below 11.0 V and the hold-up converter switches to discharging to regulate it. -/
  | vbusBelow11v
  /-- HOLDUP_CHARGE_RESUME (R253). V_BUS has been regulated by the input phases for 1 ms with VIN good and the converter returns to charging. -/
  | holdupChargeResume
  /-- HOLDUP_INTERVAL_EXPIRY (R265). HOLDUP_INTERVAL operating seconds pass and a hold-up measurement falls due. -/
  | holdupIntervalExpiry
  /-- HOLDUP_MEASUREMENT_START (R266). With the bank fully charged and DIRTY_NOW within the lowered cap, the constant-current discharge starts. -/
  | holdupMeasurementStart
  /-- HOLDUP_DEFERRAL_RETRY (R266). Every 60 s a deferred measurement is retried, running with a 4 V step after 1 hour. -/
  | holdupDeferralRetry
  /-- HOLDUP_CHARGE_DONE (R264). The bank reaches 56.0 V. -/
  | holdupChargeDone
  /-- MRST_N_ACCEPT (R282). An accepted MRST_N low pulse acts as a warm reset by the module state of Table CS-4. -/
  | mrstNAccept
  /-- SERVICE_RESET_DONE (R284). Firmware has restarted and the links are enabled again. -/
  | serviceResetDone
  /-- FLUSH_CORE_WATCHDOG (R281). The flush core's watchdog expires and the harbourmaster restarts it from its image. -/
  | flushCoreWatchdog
  /-- P1_IDLE_EXPIRY (R291). P1_IDLE passes with no CXL.mem traffic and the module enters P1 unless a refuser holds. -/
  | p1IdleExpiry
  /-- P2_IDLE_EXPIRY (R291). P2_IDLE passes in P1 with nothing pending and the module enters P2 unless a refuser holds. -/
  | p2IdleExpiry
  /-- P2_EXIT_DONE (R289). Media stacks and HBM leave standby after a P2 exit. -/
  | p2ExitDone
  /-- PSTATE_PREP_DONE (R290). The wharf and journal tail are empty and no waiting refuser holds, so the entry moves to entering. -/
  | pstatePrepDone
  /-- PSTATE_ENTRY_DONE (R290). The rails of a P3 or P4 entry are off and the module rests in that state. -/
  | pstateEntryDone
  /-- PSTATE_WAKE_TIMER (R292). PSTATE_WAKE_TIMER expires and the module wakes from P3 or P4. -/
  | pstateWakeTimer
  /-- BULK_IDLE_TIMEOUT (R355). No BULK message arrives for 10 s and the transfer ends. -/
  | bulkIdleTimeout
  /-- SHADOW_STORE_START (R363). A deferred store request runs once 10 s have passed since the previous store. -/
  | shadowStoreStart
  /-- VDD_AON_LOW (R363). VDD_AON falls below 3.0 V and the harbourmaster stores at once. -/
  | vddAonLow
  /-- OPERATING_SECONDS_WRITE (R369). Every 64 s the operating seconds are written to the next NV cell. -/
  | operatingSecondsWrite
  /-- RECORDER_FLUSH (R373). The recorder buffer is flushed to the media log every 60 s, at 2048 waiting records or at once for an ERROR record. -/
  | recorderFlush
  /-- FREEZE_MAX_EXPIRY (R377). FREEZE_MAX passes and the recorder freeze ends. -/
  | freezeMaxExpiry
  /-- BW_WINDOW_BOUNDARY (R390). A bandwidth window ends and each port appends its completed window to its history. -/
  | bwWindowBoundary
  /-- JTAG_UNLOCK_EXPIRY (R398). The unlock time passes and the service header relocks. -/
  | jtagUnlockExpiry
  /-- BOOT_HOLD_MAX_EXPIRY (R399). BOOT_HOLD_MAX passes and a held start continues into LOADING. -/
  | bootHoldMaxExpiry
  /-- FW_ACTIVATED (R403). The flush core switches image, the pause ends and held requests are admitted. -/
  | fwActivated
  /-- PWRFAIL_N_DEASSERT (R269). An accepted deassertion of PWRFAIL_N lets the 500 ms count of good VIN for restart run. -/
  | pwrfailNDeassert
  /-- MRST_N_RELEASE (R282). MRST_N goes high after being held low, releasing the controller so that BOOTING begins 1 ms later and a new acceptance becomes possible after 100 µs. -/
  | mrstNRelease
  /-- WATCHDOG_RESTART_DONE (R286). The five ordinary management cores finish restarting from the image, within 300 ms, and the paused firmware duties resume. -/
  | watchdogRestartDone
  deriving DecidableEq, Repr

end Sys2Proof
end

