-- ==== Sys2Proof/Config.lean ====
section
/-! DEFINITION. What an implementation fixes and the spec leaves open: constants without a body, so that nothing can be
proved of their values. -/
namespace Sys2Proof

/-- The free values: the n-th value that the spec leaves open. -/
opaque Config.free : Nat → Nat
/-- HMAC-SHA-256 (15 R351): key and message to 32 bytes. The spec names the function and gives no definition. -/
opaque Config.hmacSha256 : BitVec 256 → List Byte → BitVec 256
/-- SHA-256 (10 R240). -/
opaque Config.sha256 : List Byte → BitVec 256
/-- SHA-384 of an image's body, 48 bytes (18 R400). -/
opaque Config.sha384 : List Byte → List Byte
/-- Whether a signature of 96 bytes is a valid ECDSA P-384 signature of a message under the Dvoriarek key in fuses (18 R400). -/
opaque Config.signatureOk : List Byte → List Byte → Bool
/-- AES key wrap (10 R240): wrapping key, key, to 40 bytes. -/
opaque Config.aesWrap : BitVec 256 → BitVec 256 → List Byte
/-- The AES-256-GCM tag of a sector (10 R235): key, nonce, associated data, data. -/
opaque Config.gcmTag : BitVec 256 → BitVec 96 → List Byte → List Byte → BitVec 128
/-- The AES-256-GCM ciphertext (10 R236, R241): key, nonce, associated data, data. -/
opaque Config.gcmCipher : BitVec 256 → BitVec 96 → List Byte → List Byte → List Byte
/-- The 72 bytes of media code parity over bytes 0 to 535 of a codeword (10 R235), whose code the spec does not give. -/
opaque Config.mediaParity : List Byte → List Byte
/-- CRC-8 of NV cells and remap entries (16 R369, R371), whose polynomial the spec does not give. -/
opaque Config.crc8 : List Byte → BitVec 8
/-- The per-module salt of R352, drawn at production. -/
opaque Config.passphraseSalt : BitVec 128
/-- The role keys at delivery (15 R352): CUSTODIAN 3 and SERVICE 4, derived from the setup passphrase on the label. -/
opaque Config.deliveryKey : Nat → BitVec 256
/-- SERIAL of each unit that has its own (15 R345). -/
opaque Config.serial : Nat → List Byte
/-- FW_VERSION of each unit that has its own (15 R345). -/
opaque Config.fwVersion : Nat → Nat
/-- NET_MAC of each network port (15 Table OD-14). -/
opaque Config.netMac : Nat → List Byte
/-- The slice's presence-filter hash functions (06 R148): hash number and page to a counter index. -/
opaque Config.filterHash : Nat → Nat → Nat
/-- Device key material fused at production (10 R240). -/
opaque Config.deviceKey : BitVec 256
/-- A data-dependent result that the spec does not state: a case number and the operands. -/
opaque Config.unstated : Nat → List Nat → Nat

end Sys2Proof
end

