-- ==== Sys2Proof/Machine/EventTable.lean ====
section
/-! DEFINITION. The event codes of every chapter's event table with their severities (16 R372, Table HM-5). -/
namespace Sys2Proof.Machine

/-! Event codes. -/

/-- Table HP-14, NOTICE. Snapshot: Port, agent source, decoder number, failing check of Table HP-6. -/
abbrev Ev.COMMIT_FAILED : Nat := 0x1001
/-- Table HP-14, WARNING. Snapshot: Port, agent source, rule (1 R38, 2 R41), HDM_DB_AGENTS. -/
abbrev Ev.ENROLL_REFUSED : Nat := 0x1002
/-- Table HP-14, ERROR. Snapshot: Port, FENCE_REASON, previous FENCE_REASON, FENCE_COUNT. -/
abbrev Ev.PORT_FENCED : Nat := 0x1003
/-- Table HP-14, ERROR. Snapshot: Port, stream (1 CXL.io, 2 CXL.mem), mode (1 containment, 2 skid), failure kind (1 MAC, 2 sequence, 3 key setup). -/
abbrev Ev.IDE_FAILED : Nat := 0x1004
/-- Table HP-14, WARNING. Snapshot: Port, LINK_STATE before, RATE_NOW before, WIDTH_NOW before. -/
abbrev Ev.PORT_LINK_DOWN : Nat := 0x1005
/-- Table HP-14, WARNING. Snapshot: Port, RATE_NOW, WIDTH_NOW, FLIT_NOW. -/
abbrev Ev.PORT_DEGRADED : Nat := 0x1006
/-- Table HP-14, ERROR. Snapshot: Port, last rate tried, last width tried, seconds without L0. -/
abbrev Ev.PORT_FAILED : Nat := 0x1007
/-- Table HP-14, NOTICE. Snapshot: MODULE_STATE, ports with a trained link. -/
abbrev Ev.MEDIA_READY : Nat := 0x1008
/-- Table HP-14, INFO. Snapshot: Slot, port, agent source, lines recalled. -/
abbrev Ev.AGENT_WITHDRAWN : Nat := 0x1009
/-- Table MC-18, WARNING. Snapshot: Window, region (1 barrier, 2 reservation, 3 discard), register offset, agent port. -/
abbrev Ev.CW_WRITE_DROPPED : Nat := 0x1101
/-- Table MC-18, WARNING. Snapshot: Window, DRAIN_TOKEN_DONE, HELD_PAGES. -/
abbrev Ev.BARRIER_HELD : Nat := 0x1102
/-- Table MC-18, ERROR. Snapshot: Window, token, MIRROR_STATE, MIRROR_LAG. -/
abbrev Ev.MIRROR_BARRIER_FAULT : Nat := 0x1103
/-- Table MC-18, NOTICE. Snapshot: Region, base, size, mode. -/
abbrev Ev.REGION_APPLIED : Nat := 0x1104
/-- Table MC-18, WARNING. Snapshot: Region, status, failing condition in the order of R58. -/
abbrev Ev.REGION_REFUSED : Nat := 0x1105
/-- Table MC-18, INFO. Snapshot: Window, token, pages, µs taken. -/
abbrev Ev.DISCARD_DONE : Nat := 0x1106
/-- Table CD-8, ERROR. Snapshot: DPA, slot, port, snoop kind. -/
abbrev Ev.SNOOP_TIMEOUT : Nat := 0x1201
/-- Table CD-8, ERROR. Snapshot: Cause, slot, DPA, lines marked stale. -/
abbrev Ev.DOMAIN_DOWN : Nat := 0x1202
/-- Table CD-8, NOTICE. Snapshot: STALE_LINES at recovery. -/
abbrev Ev.DOMAIN_RECOVERED : Nat := 0x1203
/-- Table CD-8, WARNING. Snapshot: Slice, set, way, sector DPA. -/
abbrev Ev.DIR_UNCORRECTABLE : Nat := 0x1204
/-- Table CD-8, WARNING. Snapshot: DPA, slot, response kind received. -/
abbrev Ev.BIRSP_PROTOCOL : Nat := 0x1205
/-- Table HC-7, WARNING. Snapshot: Slice, way, corrected count, uncorrectable count. -/
abbrev Ev.WAY_DISABLED : Nat := 0x1301
/-- Table HC-7, ERROR. Snapshot: Slice, way, corrected count, uncorrectable count. -/
abbrev Ev.BERTH_WAY_FAILING : Nat := 0x1302
/-- Table HC-7, WARNING. Snapshot: HC_STALE_RISK, session source. -/
abbrev Ev.HC_FORCED_STALE : Nat := 0x1303
/-- Table HC-7, ERROR. Snapshot: Last ACK_SEQ, MIRROR_LAG, network port. -/
abbrev Ev.MIRROR_SPLIT : Nat := 0x1304
/-- Table HC-7, NOTICE. Snapshot: Pages resent, PAIR_GENERATION. -/
abbrev Ev.MIRROR_IN_SYNC : Nat := 0x1305
/-- Table HC-7, WARNING. Snapshot: MIRROR_FAULT, peer generation. -/
abbrev Ev.MIRROR_PAIR_REFUSED : Nat := 0x1306
/-- Table HC-7, ERROR. Snapshot: Local and peer PAIR_GENERATION. -/
abbrev Ev.MIRROR_DIVERGED : Nat := 0x1307
/-- Table WH-10, ERROR. Snapshot: Slice, priority, first copy, second copy. -/
abbrev Ev.QUEUE_MISMATCH : Nat := 0x1401
/-- Table WH-10, WARNING. Snapshot: DIRTY_CAP, DIRTY_NOW, FULL_TIME. -/
abbrev Ev.WHARF_FULL : Nat := 0x1402
/-- Table WH-10, NOTICE. Snapshot: Old DIRTY_CAP, new DIRTY_CAP, CAP_ENERGY. -/
abbrev Ev.CAP_CHANGED : Nat := 0x1403
/-- Table WH-10, ERROR. Snapshot: CAP_ENERGY, HOLDUP_ENERGY, bank temperature. -/
abbrev Ev.HOLDUP_INSUFFICIENT : Nat := 0x1404
/-- Table WH-10, WARNING. Snapshot: Slice, SLICE_LIVE, DIRTY_NOW. -/
abbrev Ev.SLICE_FULL : Nat := 0x1405
/-- Table WH-10, WARNING. Snapshot: Page DPA, parity group, stack, HELD_PAGES. -/
abbrev Ev.PAGE_PINNED : Nat := 0x1406
/-- Table MT-11, ERROR. Snapshot: Group, stack, cause, REBUILD_LEFT. -/
abbrev Ev.STACK_FAILED : Nat := 0x1501
/-- Table MT-11, ERROR. Snapshot: Group, stack, die, cause. -/
abbrev Ev.DIE_FAILED : Nat := 0x1502
/-- Table MT-11, NOTICE. Snapshot: Group, pages rebuilt, seconds taken. -/
abbrev Ev.REBUILD_DONE : Nat := 0x1503
/-- Table MT-11, ERROR. Snapshot: Group, SETS_FREE, HELD_PAGES. -/
abbrev Ev.REBUILD_HELD : Nat := 0x1504
/-- Table MT-11, WARNING. Snapshot: Block PPN, reason, spare PPN, SPARES_LEFT. -/
abbrev Ev.BLOCK_RETIRED : Nat := 0x1505
/-- Table MT-11, WARNING. Snapshot: Group, SETS_FREE_PCT, step. -/
abbrev Ev.RECLAIM_FOREGROUND : Nat := 0x1506
/-- Table MT-11, WARNING. Snapshot: JOURNAL_TAIL, lowest FRONTIER, wait µs. -/
abbrev Ev.JOURNAL_FULL : Nat := 0x1507
/-- Table MT-11, ERROR. Snapshot: Group, stripe, members lost, pages. -/
abbrev Ev.PAGES_LOST : Nat := 0x1508
/-- Table MT-11, WARNING. Snapshot: Chunk, records reapplied, µs. -/
abbrev Ev.MAP_REPAIRED : Nat := 0x1509
/-- Table MT-11, FATAL. Snapshot: Segment, area A status, area B status. -/
abbrev Ev.MAP_SEGMENT_LOST : Nat := 0x150A
/-- Table MT-11, WARNING. Snapshot: Source PPN, PN, sector. -/
abbrev Ev.COPY_POISONED : Nat := 0x150B
/-- Table ML-8, WARNING. Snapshot: Path, LAT_P6, LAT_OVER_BOUND in the window. -/
abbrev Ev.LAT_BOUND_MISSED : Nat := 0x1601
/-- Table ML-8, NOTICE. Snapshot: Group, stack, long waits in the window. -/
abbrev Ev.FINE_SUSPEND_ON : Nat := 0x1602
/-- Table ML-8, INFO. Snapshot: Group, stack, seconds in the mode. -/
abbrev Ev.FINE_SUSPEND_OFF : Nat := 0x1603
/-- Table ML-8, ERROR. Snapshot: PPN, PN, sector, bin. -/
abbrev Ev.READ_POISONED : Nat := 0x1604
/-- Table ML-8, WARNING. Snapshot: Group, set, equivalent age, horizon. -/
abbrev Ev.REENGRAVE_OVERDUE : Nat := 0x1605
/-- Table ML-8, WARNING. Snapshot: Group, read codeword rate, REBUILD_STATE. -/
abbrev Ev.DEGRADED_OVERLOAD : Nat := 0x1606
/-- Table ML-8, NOTICE. Snapshot: Group, stack, die, operation kind. -/
abbrev Ev.OP_OVERDUE : Nat := 0x1607
/-- Table AG-8, NOTICE. Snapshot: New PLAN_ID, previous PLAN_ID, BASIS_ID. -/
abbrev Ev.PLAN_APPLIED : Nat := 0x1701
/-- Table AG-8, WARNING. Snapshot: PLAN_ID, PLAN_CHECK_RESULT. -/
abbrev Ev.PLAN_REFUSED : Nat := 0x1702
/-- Table AG-8, NOTICE. Snapshot: Active PLAN_ID, previous PLAN_ID. -/
abbrev Ev.PLAN_ROLLED_BACK : Nat := 0x1703
/-- Table AG-8, WARNING. Snapshot: Plan now in force, copies failed. -/
abbrev Ev.PLAN_UNREADABLE : Nat := 0x1704
/-- Table AG-8, WARNING. Snapshot: Die path, bin, MARGIN_NOW, FALLBACK_HALVINGS. -/
abbrev Ev.MARGIN_LOW : Nat := 0x1705
/-- Table AG-8, ERROR. Snapshot: Die path, bin, lowest margin, blocks retired. -/
abbrev Ev.MARGIN_CRITICAL : Nat := 0x1706
/-- Table AG-8, WARNING. Snapshot: MODULE_LIFE_USED, LIFE_LIMITER, MODULE_REMAINING_DAYS. -/
abbrev Ev.LIFE_90 : Nat := 0x1707
/-- Table DP-9, NOTICE. Snapshot: Unit, word group address, cause, entries used. -/
abbrev Ev.REMAPPED : Nat := 0x1801
/-- Table DP-9, WARNING. Snapshot: Unit, channel or slice. -/
abbrev Ev.REMAP_FULL : Nat := 0x1802
/-- Table DP-9, INFO. Snapshot: Target, units read, corrected, uncorrectable, poisoned. -/
abbrev Ev.SCRUB_DONE : Nat := 0x1803
/-- Table DP-9, FATAL. Snapshot: Cause, DPA, PPN, WSEQ, flags. -/
abbrev Ev.INTEGRITY_HALT : Nat := 0x1804
/-- Table DP-9, NOTICE. Snapshot: Recovery value, DPA. -/
abbrev Ev.INTEGRITY_RECOVERED : Nat := 0x1805
/-- Table DP-9, NOTICE. Snapshot: Domain, KEY_START_SEQ. -/
abbrev Ev.KEY_ROTATED : Nat := 0x1806
/-- Table DP-9, NOTICE. Snapshot: Domain, pages rewritten, seconds. -/
abbrev Ev.REKEY_DONE : Nat := 0x1807
/-- Table DP-9, NOTICE. Snapshot: Domain, KEY_ERASE_SEQ. -/
abbrev Ev.KEY_DESTROYED : Nat := 0x1808
/-- Table DP-9, WARNING. Snapshot: Path, address, session source. -/
abbrev Ev.PROTECTED_ACCESS_DENIED : Nat := 0x1809
/-- Table DP-9, ERROR. Snapshot: JPOS, chunk if known. -/
abbrev Ev.JOURNAL_LOST : Nat := 0x180A
/-- Table DP-9, FATAL. Snapshot: WSEQ_NOW. -/
abbrev Ev.WSEQ_END : Nat := 0x180B
/-- Table PW-11, ERROR. Snapshot: Cause, VIN, V_HOLD, DIRTY_NOW. -/
abbrev Ev.POWER_FAIL : Nat := 0x1901
/-- Table PW-11, NOTICE. Snapshot: DUMP_SEQ, DUMP_MIB, DURATION, VHOLD_END. -/
abbrev Ev.FLUSH_DONE : Nat := 0x1902
/-- Table PW-11, ERROR. Snapshot: Rail, STATUS_WORD, reaction, attempt. -/
abbrev Ev.RAIL_FAULT : Nat := 0x1903
/-- Table PW-11, WARNING. Snapshot: Rail, attempt, result. -/
abbrev Ev.RAIL_RETRY : Nat := 0x1904
/-- Table PW-11, ERROR. Snapshot: Bank, rail, cause. -/
abbrev Ev.BANK_OFF : Nat := 0x1905
/-- Table PW-11, ERROR. Snapshot: Rail or input phase, phase, PHASES_OK. -/
abbrev Ev.PHASE_LOST : Nat := 0x1906
/-- Table PW-11, WARNING. Snapshot: VIN_AVG, POWER_CAP_NOW, PIN_NOW. -/
abbrev Ev.POWER_CAP_ON : Nat := 0x1907
/-- Table PW-11, INFO. Snapshot: HOLDUP_C, HOLDUP_ESR, HOLDUP_ENERGY, BANK_TEMP. -/
abbrev Ev.HOLDUP_MEASURED : Nat := 0x1908
/-- Table PW-11, FATAL. Snapshot: Buffer, DUMP_SEQ expected, blocks found. -/
abbrev Ev.DUMP_INCOMPLETE : Nat := 0x1909
/-- Table PW-11, WARNING. Snapshot: Address, command, PAGE. -/
abbrev Ev.PMBUS_TIMEOUT : Nat := 0x190A
/-- Table PW-11, WARNING. Snapshot: Rail, voltage after 10 ms. -/
abbrev Ev.RAIL_FALL_TIMEOUT : Nat := 0x190B
/-- Table PW-11, WARNING. Snapshot: Buffer states, banks off. -/
abbrev Ev.FLUSH_AREA_PENDING : Nat := 0x190C
/-- Table CS-13, NOTICE. Snapshot: RESET_LAST, MODULE_STATE, PSTATE_NOW. -/
abbrev Ev.MODULE_RESET : Nat := 0x1A01
/-- Table CS-13, ERROR. Snapshot: Core, restarts in the hour, image. -/
abbrev Ev.WATCHDOG_RESTART : Nat := 0x1A02
/-- Table CS-13, ERROR. Snapshot: Measured offset in ppm, ports lost. -/
abbrev Ev.REF_CLOCK_LOST : Nat := 0x1A03
/-- Table CS-13, NOTICE. Snapshot: Time on backup, µs. -/
abbrev Ev.REF_CLOCK_RESTORED : Nat := 0x1A04
/-- Table CS-13, INFO. Snapshot: Refused state, refuser, ENTRY_STATE. -/
abbrev Ev.PSTATE_REFUSED : Nat := 0x1A05
/-- Table CS-13, NOTICE. Snapshot: MODULE_STATE, source. -/
abbrev Ev.WARM_RESET_IGNORED : Nat := 0x1A06
/-- Table CS-13, WARNING. Snapshot: Step, duration, maximum. -/
abbrev Ev.WAKE_SLOW : Nat := 0x1A07
/-- Table CS-13, WARNING. Snapshot: Step, duration, maximum. -/
abbrev Ev.START_SLOW : Nat := 0x1A08
/-- Table TH-5, WARNING. Snapshot: Unit, sensor, temperature. -/
abbrev Ev.THERM_WARN : Nat := 0x1B01
/-- Table TH-5, NOTICE. Snapshot: Unit, old step, new step, temperature. -/
abbrev Ev.THERM_STEP : Nat := 0x1B02
/-- Table TH-5, WARNING. Snapshot: Unit, sensor, rise, temperature. -/
abbrev Ev.RATE_BOOST : Nat := 0x1B03
/-- Table TH-5, WARNING. Snapshot: Port, THERM_REQUEST, RWD_LIMIT. -/
abbrev Ev.PORT_ENFORCED : Nat := 0x1B04
/-- Table TH-5, FATAL. Snapshot: Unit, sensor, reason, temperature, rise. -/
abbrev Ev.THERM_CRITICAL : Nat := 0x1B05
/-- Table TH-5, WARNING. Snapshot: Unit, sensor, last reading. -/
abbrev Ev.SENSOR_FAILED : Nat := 0x1B06
/-- Table TH-5, WARNING. Snapshot: COOLANT_IN, COOLANT_OUT, PIN_NOW. -/
abbrev Ev.COOLANT_WARN : Nat := 0x1B07
/-- Table OD-16, INFO. Snapshot: SESSION_ID, role, network port, source address low 64 bits. -/
abbrev Ev.SESSION_OPENED : Nat := 0x1C01
/-- Table OD-16, INFO. Snapshot: SESSION_ID, reason status, requests executed. -/
abbrev Ev.SESSION_CLOSED : Nat := 0x1C02
/-- Table OD-16, WARNING. Snapshot: Role, network port, source address low 64 bits, F. -/
abbrev Ev.AUTH_FAILED : Nat := 0x1C03
/-- Table OD-16, WARNING. Snapshot: Source address low 64 bits, B in ms. -/
abbrev Ev.KDP_BACKOFF : Nat := 0x1C04
/-- Table OD-16, NOTICE. Snapshot: Role, writing SESSION_ID, sessions closed. -/
abbrev Ev.ROLE_KEY_CHANGED : Nat := 0x1C05
/-- Table OD-16, WARNING. Snapshot: Network port, LINK_DOWNS, FEC_UNCORRECTABLE. -/
abbrev Ev.NET_LINK_DOWN : Nat := 0x1C06
/-- Table OD-16, NOTICE. Snapshot: Network port, mode, VLAN. -/
abbrev Ev.NET_APPLIED : Nat := 0x1C07
/-- Table HM-8, WARNING. Snapshot: Record ID, SEQ, CRC of slot A, CRC of slot B. -/
abbrev Ev.TWIN_CONFLICT : Nat := 0x1D01
/-- Table HM-8, ERROR. Snapshot: Record ID, default applied. -/
abbrev Ev.RECORD_LOST : Nat := 0x1D02
/-- Table HM-8, ERROR. Snapshot: Page, HM_STORES. -/
abbrev Ev.STORE_FAILED : Nat := 0x1D03
/-- Table HM-8, WARNING. Snapshot: Counter, value. -/
abbrev Ev.COUNTER_SATURATED : Nat := 0x1D04
/-- Table HM-8, WARNING. Snapshot: Counter, value restored. -/
abbrev Ev.COUNTER_RESTORED : Nat := 0x1D05
/-- Table HM-8, INFO. Snapshot: Reason (1 written, 2 FREEZE_MAX, 3 session closed, 4 reset, 5 FATAL), FROZEN_LOST in the freeze. -/
abbrev Ev.FREEZE_ENDED : Nat := 0x1D06
/-- Table PC-7, NOTICE. Snapshot: Counter, PC_EVENT, PC_CYCLES. -/
abbrev Ev.PC_OVF_FROZEN : Nat := 0x1E01
/-- Table TS-7, WARNING. Snapshot: Unit, test, failed count, first failing address or die. -/
abbrev Ev.SELFTEST_FAILED : Nat := 0x1F01
/-- Table TS-7, NOTICE. Snapshot: Seconds, session source. -/
abbrev Ev.JTAG_UNLOCKED : Nat := 0x1F02
/-- Table TS-7, NOTICE. Snapshot: Old VERSION, new VERSION, pause µs. -/
abbrev Ev.FW_ACTIVATED : Nat := 0x1F03
/-- Table TS-7, ERROR. Snapshot: Target VERSION, pause µs, stage reached. -/
abbrev Ev.FW_ACTIVATION_FAILED : Nat := 0x1F04
/-- Table TS-7, ERROR. Snapshot: Failed slot, FAILS_A, FAILS_B. -/
abbrev Ev.FW_FALLBACK : Nat := 0x1F05

/-- Event code and severity, part 1. -/
def evSeverities_1 : List (Nat × Nat) := [
  (0x1001, 1),
  (0x1002, 2),
  (0x1003, 3),
  (0x1004, 3),
  (0x1005, 2),
  (0x1006, 2),
  (0x1007, 3),
  (0x1008, 1),
  (0x1009, 0),
  (0x1101, 2),
  (0x1102, 2),
  (0x1103, 3),
  (0x1104, 1),
  (0x1105, 2),
  (0x1106, 0),
  (0x1201, 3),
  (0x1202, 3),
  (0x1203, 1),
  (0x1204, 2),
  (0x1205, 2),
  (0x1301, 2),
  (0x1302, 3),
  (0x1303, 2),
  (0x1304, 3),
  (0x1305, 1),
  (0x1306, 2),
  (0x1307, 3),
  (0x1401, 3),
  (0x1402, 2),
  (0x1403, 1),
  (0x1404, 3),
  (0x1405, 2),
  (0x1406, 2),
  (0x1501, 3),
  (0x1502, 3),
  (0x1503, 1),
  (0x1504, 3),
  (0x1505, 2),
  (0x1506, 2),
  (0x1507, 2)]

/-- Event code and severity, part 2. -/
def evSeverities_2 : List (Nat × Nat) := [
  (0x1508, 3),
  (0x1509, 2),
  (0x150A, 4),
  (0x150B, 2),
  (0x1601, 2),
  (0x1602, 1),
  (0x1603, 0),
  (0x1604, 3),
  (0x1605, 2),
  (0x1606, 2),
  (0x1607, 1),
  (0x1701, 1),
  (0x1702, 2),
  (0x1703, 1),
  (0x1704, 2),
  (0x1705, 2),
  (0x1706, 3),
  (0x1707, 2),
  (0x1801, 1),
  (0x1802, 2),
  (0x1803, 0),
  (0x1804, 4),
  (0x1805, 1),
  (0x1806, 1),
  (0x1807, 1),
  (0x1808, 1),
  (0x1809, 2),
  (0x180A, 3),
  (0x180B, 4),
  (0x1901, 3),
  (0x1902, 1),
  (0x1903, 3),
  (0x1904, 2),
  (0x1905, 3),
  (0x1906, 3),
  (0x1907, 2),
  (0x1908, 0),
  (0x1909, 4),
  (0x190A, 2),
  (0x190B, 2)]

/-- Event code and severity, part 3. -/
def evSeverities_3 : List (Nat × Nat) := [
  (0x190C, 2),
  (0x1A01, 1),
  (0x1A02, 3),
  (0x1A03, 3),
  (0x1A04, 1),
  (0x1A05, 0),
  (0x1A06, 1),
  (0x1A07, 2),
  (0x1A08, 2),
  (0x1B01, 2),
  (0x1B02, 1),
  (0x1B03, 2),
  (0x1B04, 2),
  (0x1B05, 4),
  (0x1B06, 2),
  (0x1B07, 2),
  (0x1C01, 0),
  (0x1C02, 0),
  (0x1C03, 2),
  (0x1C04, 2),
  (0x1C05, 1),
  (0x1C06, 2),
  (0x1C07, 1),
  (0x1D01, 2),
  (0x1D02, 3),
  (0x1D03, 3),
  (0x1D04, 2),
  (0x1D05, 2),
  (0x1D06, 0),
  (0x1E01, 1),
  (0x1F01, 2),
  (0x1F02, 1),
  (0x1F03, 1),
  (0x1F04, 3),
  (0x1F05, 3)]

/-- Event code and severity of every event table. -/
def evSeverities : List (Nat × Nat) := evSeverities_1 ++ evSeverities_2 ++ evSeverities_3

/-- The severity of an event code (16 Table HM-5: 0 INFO, 1 NOTICE, 2 WARNING, 3 ERROR, 4 FATAL). -/
def evSeverity (code : Nat) : Nat :=
  match evSeverities.find? (fun p => p.1 == code) with
  | some p => p.2
  | none => 0

end Sys2Proof.Machine
end

