-- ==== Sys2Proof/Machine/ObjTable.lean ====
section
/-! DEFINITION. The object dictionary's tables (chapter 15, R338 to R341, and each chapter's own object table): the
name of every object, and a row for each with its type, access code, minimum role, default, Range and the units that carry it. -/
namespace Sys2Proof.Machine
open Sys2Proof

/-- The type of an object's value (15 R338, Table OD-2). -/
inductive ObjType where
  | u8 | u16 | u32 | u64 | i16 | i32 | bool | bits32 | optime | text | blob | cmd
  deriving DecidableEq, Repr

/-- An access code (15 R340). -/
inductive ObjAccess where
  | ro | rw | wo | cmd
  deriving DecidableEq, Repr

/-- A Range column. `own`: the object's own rule checks the value. -/
inductive ObjRange where
  | any
  | own
  | span (lo hi : Nat)
  | spanOr (lo hi other : Nat)
  | oneOf (vs : List Nat)
  | mult (m : Nat)
  | multSpan (lo hi m : Nat)
  | mask (bits : Nat)
  | bytes (lo hi : Nat)
  | bytesOneOf (ns : List Nat)
  deriving DecidableEq, Repr

/-- One row of an object table: index, first and last subindex, type, access, role code of R339, default, Range and
the types of unit that carry the object. -/
structure ObjRow where
  index : Nat
  subLo : Nat
  subHi : Nat
  type : ObjType
  access : ObjAccess
  role : Nat
  default : Nat
  range : ObjRange
  scope : List UnitType
  deriving DecidableEq, Repr

/-! The name of an object: its index times 256 plus its subindex. -/

/-- Table HP-11. -/
abbrev Obj.PORT_ENABLE : Nat := 0x100000
/-- Table HP-11. -/
abbrev Obj.PORT_ENABLE_STATE : Nat := 0x100001
/-- Table HP-11. -/
abbrev Obj.PORT_BIFURCATE : Nat := 0x100100
/-- Table HP-11. -/
abbrev Obj.BIFURCATE_NOW : Nat := 0x100101
/-- Table HP-11. -/
abbrev Obj.RATE_CAP : Nat := 0x100200
/-- Table HP-11. -/
abbrev Obj.ATTACH_MODE : Nat := 0x100300
/-- Table HP-11. -/
abbrev Obj.IDE_SKID_PERMIT : Nat := 0x100400
/-- Table HP-11. -/
abbrev Obj.LINK_STATE : Nat := 0x100801
/-- Table HP-11. -/
abbrev Obj.RATE_NOW : Nat := 0x100802
/-- Table HP-11. -/
abbrev Obj.WIDTH_NOW : Nat := 0x100803
/-- Table HP-11. -/
abbrev Obj.FLIT_NOW : Nat := 0x100804
/-- Table HP-11. -/
abbrev Obj.IDE_NOW : Nat := 0x100805
/-- Table HP-11. -/
abbrev Obj.FENCE_REASON : Nat := 0x100900
/-- Table HP-11. -/
abbrev Obj.DEVLOAD_NOW : Nat := 0x100A00
/-- Table HP-11. -/
abbrev Obj.RWD_POOL : Nat := 0x100B01
/-- Table HP-11. -/
abbrev Obj.RWD_LIMIT : Nat := 0x100B02
/-- Table HP-11. -/
abbrev Obj.LIMIT_CAUSE : Nat := 0x100B03
/-- Table HP-11. -/
abbrev Obj.AGENTS_ON_PORT : Nat := 0x100C00
/-- Table HP-11. -/
abbrev Obj.FLIT_REPLAY : Nat := 0x101001
/-- Table HP-11. -/
abbrev Obj.LINK_DOWN : Nat := 0x101002
/-- Table HP-11. -/
abbrev Obj.IDE_FAIL : Nat := 0x101003
/-- Table HP-11. -/
abbrev Obj.POISON_RX : Nat := 0x101004
/-- Table HP-11. -/
abbrev Obj.POISON_TX : Nat := 0x101005
/-- Table HP-11. -/
abbrev Obj.VIRAL_RX : Nat := 0x101006
/-- Table HP-11. -/
abbrev Obj.FENCE_COUNT : Nat := 0x101007
/-- Table HP-11. -/
abbrev Obj.COMMIT_FAIL : Nat := 0x101008
/-- Table HP-11 (add the subindex 1 to 32). -/
abbrev Obj.AGENT_TABLE : Nat := 0x104000
/-- Table HP-11. -/
abbrev Obj.HDM_DB_AGENTS : Nat := 0x104100
/-- Table HP-11. -/
abbrev Obj.ENROLL_REFUSED : Nat := 0x104200
/-- Table HP-11 (add the subindex 1 to 64). -/
abbrev Obj.REGION_PORTS : Nat := 0x105000
/-- Table MC-15 (add the subindex 1 to 64). -/
abbrev Obj.REGION_BASE : Nat := 0x110000
/-- Table MC-15 (add the subindex 1 to 64). -/
abbrev Obj.REGION_SIZE : Nat := 0x110100
/-- Table MC-15 (add the subindex 1 to 64). -/
abbrev Obj.REGION_MODE : Nat := 0x110200
/-- Table MC-15 (add the subindex 1 to 64). -/
abbrev Obj.REGION_POLICY : Nat := 0x110300
/-- Table MC-15 (add the subindex 1 to 64). -/
abbrev Obj.REGION_ALIAS : Nat := 0x110400
/-- Table MC-15 (add the subindex 1 to 64). -/
abbrev Obj.REGION_STALE_READ : Nat := 0x110500
/-- Table MC-15 (add the subindex 1 to 64). -/
abbrev Obj.REGION_APPLY : Nat := 0x110600
/-- Table MC-15 (add the subindex 1 to 64). -/
abbrev Obj.REGION_DECODERS : Nat := 0x110700
/-- Table MC-15. -/
abbrev Obj.CW_EARLY_CMP : Nat := 0x111000
/-- Table MC-15. -/
abbrev Obj.BARRIER_HOLD_MAX : Nat := 0x111100
/-- Table MC-15 (add the subindex 1 to 32). -/
abbrev Obj.CW_TABLE : Nat := 0x112000
/-- Table MC-15. -/
abbrev Obj.DRAIN_BARRIERS : Nat := 0x113001
/-- Table MC-15. -/
abbrev Obj.MIRROR_BARRIERS : Nat := 0x113002
/-- Table MC-15. -/
abbrev Obj.BARRIERS_HELD : Nat := 0x113003
/-- Table MC-15. -/
abbrev Obj.CW_DROPPED : Nat := 0x113004
/-- Table MC-15. -/
abbrev Obj.CW_REJECTED : Nat := 0x113005
/-- Table MC-15. -/
abbrev Obj.RESV_SUCCESS : Nat := 0x113006
/-- Table MC-15. -/
abbrev Obj.RESV_FAIL : Nat := 0x113007
/-- Table MC-15. -/
abbrev Obj.DISCARD_PAGES : Nat := 0x113008
/-- Table MC-15. -/
abbrev Obj.COMBINED_WRITES : Nat := 0x113009
/-- Table MC-15. -/
abbrev Obj.HELD_PAGES : Nat := 0x114000
/-- Table CD-7. -/
abbrev Obj.DIR_ENTRIES : Nat := 0x120001
/-- Table CD-7. -/
abbrev Obj.DIR_WAYS : Nat := 0x120002
/-- Table CD-7. -/
abbrev Obj.DIR_SETS : Nat := 0x120003
/-- Table CD-7. -/
abbrev Obj.DIR_VALID : Nat := 0x120101
/-- Table CD-7. -/
abbrev Obj.LINES_S : Nat := 0x120102
/-- Table CD-7. -/
abbrev Obj.LINES_E : Nat := 0x120103
/-- Table CD-7. -/
abbrev Obj.COH_TIMEOUT : Nat := 0x120200
/-- Table CD-7. -/
abbrev Obj.DOMAIN_RECOVER : Nat := 0x120300
/-- Table CD-7. -/
abbrev Obj.DOMAIN_DOWN_LATCHED : Nat := 0x120400
/-- Table CD-7. -/
abbrev Obj.DOMAIN_DOWN_RECORD : Nat := 0x120500
/-- Table CD-7. -/
abbrev Obj.STALE_LINES : Nat := 0x120600
/-- Table CD-7. -/
abbrev Obj.DIR_PROBE_ADDR : Nat := 0x120800
/-- Table CD-7. -/
abbrev Obj.DIR_PROBE_ENTRY : Nat := 0x120901
/-- Table CD-7. -/
abbrev Obj.DIR_PROBE_FLAGS : Nat := 0x120902
/-- Table CD-7. -/
abbrev Obj.BISNP_INV : Nat := 0x121001
/-- Table CD-7. -/
abbrev Obj.BISNP_DATA : Nat := 0x121002
/-- Table CD-7. -/
abbrev Obj.BISNP_CUR : Nat := 0x121003
/-- Table CD-7. -/
abbrev Obj.BIRSP_I : Nat := 0x121004
/-- Table CD-7. -/
abbrev Obj.BIRSP_S : Nat := 0x121005
/-- Table CD-7. -/
abbrev Obj.BIRSP_E : Nat := 0x121006
/-- Table CD-7. -/
abbrev Obj.BIRSP_PROTO : Nat := 0x121007
/-- Table CD-7. -/
abbrev Obj.BICONFLICT : Nat := 0x121008
/-- Table CD-7. -/
abbrev Obj.CROSS_WRITES : Nat := 0x121009
/-- Table CD-7. -/
abbrev Obj.DIR_EVICTIONS : Nat := 0x12100A
/-- Table CD-7. -/
abbrev Obj.RETRY_WAITS : Nat := 0x12100B
/-- Table CD-7. -/
abbrev Obj.RETRY_WAIT_MAX : Nat := 0x12100C
/-- Table CD-7. -/
abbrev Obj.SNOOP_WAIT_MAX : Nat := 0x12100D
/-- Table CD-7. -/
abbrev Obj.DIR_UNCORRECTABLE : Nat := 0x12100E
/-- Table CD-7. -/
abbrev Obj.DOMAIN_DOWNS : Nat := 0x12100F
/-- Table CD-7. -/
abbrev Obj.CLEAN_EVICTS : Nat := 0x121010
/-- Table HC-6. -/
abbrev Obj.HC_ENABLE : Nat := 0x130000
/-- Table HC-6. -/
abbrev Obj.HC_INVALIDATE : Nat := 0x130100
/-- Table HC-6. -/
abbrev Obj.HC_ENABLE_FORCE : Nat := 0x130200
/-- Table HC-6. -/
abbrev Obj.HC_STALE_RISK : Nat := 0x130300
/-- Table HC-6 (add the subindex 1 to 16). -/
abbrev Obj.HC_WAY_DISABLED : Nat := 0x130400
/-- Table HC-6. -/
abbrev Obj.HC_WAY_REENABLE : Nat := 0x130500
/-- Table HC-6. -/
abbrev Obj.HC_WAYS_NOW : Nat := 0x130600
/-- Table HC-6. -/
abbrev Obj.PREFETCH_ENABLE : Nat := 0x130801
/-- Table HC-6. -/
abbrev Obj.PREFETCH_DEPTH : Nat := 0x130802
/-- Table HC-6. -/
abbrev Obj.BERTH_WAYS : Nat := 0x131000
/-- Table HC-6. -/
abbrev Obj.BERTH_WAYS_NOW : Nat := 0x131001
/-- Table HC-6. -/
abbrev Obj.BERTH_SIZE_NOW : Nat := 0x131002
/-- Table HC-6 (add the subindex 1 to 8). -/
abbrev Obj.BERTH_RANGE_BASE : Nat := 0x131200
/-- Table HC-6 (add the subindex 1 to 8). -/
abbrev Obj.BERTH_RANGE_SIZE : Nat := 0x131300
/-- Table HC-6 (add the subindex 1 to 8). -/
abbrev Obj.BERTH_RANGE_MODE : Nat := 0x131400
/-- Table HC-6 (add the subindex 1 to 8). -/
abbrev Obj.BERTH_RANGE_EARLY_CMP : Nat := 0x131500
/-- Table HC-6 (add the subindex 1 to 8). -/
abbrev Obj.BERTH_RANGE_PORTS : Nat := 0x131600
/-- Table HC-6 (add the subindex 1 to 8). -/
abbrev Obj.BERTH_RANGE_APPLY : Nat := 0x131700
/-- Table HC-6. -/
abbrev Obj.BERTH_PROMOTE : Nat := 0x131800
/-- Table HC-6. -/
abbrev Obj.MIRROR_ENABLE : Nat := 0x132000
/-- Table HC-6. -/
abbrev Obj.MIRROR_PEER_ADDR : Nat := 0x132100
/-- Table HC-6. -/
abbrev Obj.MIRROR_UDP_PORT : Nat := 0x132200
/-- Table HC-6. -/
abbrev Obj.MIRROR_PAIR_KEY : Nat := 0x132300
/-- Table HC-6. -/
abbrev Obj.MIRROR_NET_PORTS : Nat := 0x132400
/-- Table HC-6. -/
abbrev Obj.MIRROR_LOSS_TIME : Nat := 0x132500
/-- Table HC-6. -/
abbrev Obj.MIRROR_LAG_MAX : Nat := 0x132600
/-- Table HC-6. -/
abbrev Obj.MIRROR_RESYNC_RATE : Nat := 0x132700
/-- Table HC-6. -/
abbrev Obj.MIRROR_ACCEPT_PEER : Nat := 0x132800
/-- Table HC-6. -/
abbrev Obj.MIRROR_STATE : Nat := 0x133001
/-- Table HC-6. -/
abbrev Obj.MIRROR_LAG : Nat := 0x133002
/-- Table HC-6. -/
abbrev Obj.MIRROR_LAG_AGE : Nat := 0x133003
/-- Table HC-6. -/
abbrev Obj.PAIR_GENERATION : Nat := 0x133004
/-- Table HC-6. -/
abbrev Obj.RESYNC_REMAINING : Nat := 0x133005
/-- Table HC-6. -/
abbrev Obj.MIRROR_PORT_NOW : Nat := 0x133006
/-- Table HC-6. -/
abbrev Obj.MIRROR_FAULT : Nat := 0x133007
/-- Table HC-6. -/
abbrev Obj.BERTH_INTACT : Nat := 0x133008
/-- Table HC-6. -/
abbrev Obj.HC_HITS : Nat := 0x134001
/-- Table HC-6. -/
abbrev Obj.HC_FILLS : Nat := 0x134002
/-- Table HC-6. -/
abbrev Obj.HC_CORRECTED : Nat := 0x134003
/-- Table HC-6. -/
abbrev Obj.HC_UNCORRECTABLE : Nat := 0x134004
/-- Table HC-6. -/
abbrev Obj.PREFETCH_ISSUED : Nat := 0x134005
/-- Table HC-6. -/
abbrev Obj.PREFETCH_USED : Nat := 0x134006
/-- Table HC-6. -/
abbrev Obj.PREFETCH_UNUSED : Nat := 0x134007
/-- Table HC-6. -/
abbrev Obj.WAYS_DISABLED : Nat := 0x134008
/-- Table HC-6. -/
abbrev Obj.BERTH_POISON : Nat := 0x134009
/-- Table HC-6. -/
abbrev Obj.BERTH_DENIED : Nat := 0x13400A
/-- Table HC-6. -/
abbrev Obj.MIRROR_RECORDS_TX : Nat := 0x13400B
/-- Table HC-6. -/
abbrev Obj.MIRROR_RETRANSMITS : Nat := 0x13400C
/-- Table HC-6. -/
abbrev Obj.MIRROR_SPLITS : Nat := 0x13400D
/-- Table HC-6. -/
abbrev Obj.MIRROR_AUTH_FAIL : Nat := 0x13400E
/-- Table HC-6. -/
abbrev Obj.RESYNC_PAGES : Nat := 0x13400F
/-- Table WH-9. -/
abbrev Obj.WHARF_SLOTS : Nat := 0x140001
/-- Table WH-9. -/
abbrev Obj.SLICE_LIVE_LIMIT : Nat := 0x140002
/-- Table WH-9. -/
abbrev Obj.DIRTY_CAP_LIMIT : Nat := 0x140100
/-- Table WH-9. -/
abbrev Obj.DIRTY_CAP : Nat := 0x140200
/-- Table WH-9. -/
abbrev Obj.DIRTY_NOW : Nat := 0x140300
/-- Table WH-9. -/
abbrev Obj.OCCUPANCY : Nat := 0x140400
/-- Table WH-9. -/
abbrev Obj.WHARF_LEVEL : Nat := 0x140500
/-- Table WH-9. -/
abbrev Obj.CAP_ENERGY : Nat := 0x140601
/-- Table WH-9. -/
abbrev Obj.CAP_UPDATED : Nat := 0x140602
/-- Table WH-9 (add the subindex 1 to 16). -/
abbrev Obj.SLICE_LIVE : Nat := 0x140700
/-- Table WH-9 (add the subindex 1 to 5). -/
abbrev Obj.LIGHTERS_QUEUED : Nat := 0x140800
/-- Table WH-9. -/
abbrev Obj.LIGHTER_CLOSE_TIME : Nat := 0x140900
/-- Table WH-9. -/
abbrev Obj.SLOTS_APPENDED : Nat := 0x142001
/-- Table WH-9. -/
abbrev Obj.LINES_RESTAGED : Nat := 0x142002
/-- Table WH-9. -/
abbrev Obj.PAGES_DRAINED : Nat := 0x142003
/-- Table WH-9. -/
abbrev Obj.MERGE_READS : Nat := 0x142004
/-- Table WH-9. -/
abbrev Obj.LIGHTERS_DONE : Nat := 0x142005
/-- Table WH-9. -/
abbrev Obj.QUEUE_REBUILDS : Nat := 0x142006
/-- Table WH-9. -/
abbrev Obj.FULL_TIME : Nat := 0x142007
/-- Table WH-9. -/
abbrev Obj.BOUND_SUSPENDED : Nat := 0x142008
/-- Table WH-9. -/
abbrev Obj.SLOW_ASSERTS : Nat := 0x142009
/-- Table WH-9. -/
abbrev Obj.STOP_ASSERTS : Nat := 0x14200A
/-- Table WH-9. -/
abbrev Obj.SLICE_FULL : Nat := 0x14200B
/-- Table WH-9. -/
abbrev Obj.HEAD_RELOCATIONS : Nat := 0x14200C
/-- Table WH-9. -/
abbrev Obj.FILTER_REBUILDS : Nat := 0x14200D
/-- Table WH-9. -/
abbrev Obj.FILTER_FALSE_HITS : Nat := 0x14200E
/-- Table WH-9. -/
abbrev Obj.STALE_MARKERS : Nat := 0x14200F
/-- Table WH-9. -/
abbrev Obj.PINNED_PAGES_TOTAL : Nat := 0x142010
/-- Table MT-10. -/
abbrev Obj.MAP_ENTRIES : Nat := 0x150001
/-- Table MT-10. -/
abbrev Obj.CKPT_SEGMENTS : Nat := 0x150002
/-- Table MT-10. -/
abbrev Obj.JOURNAL_RECORDS : Nat := 0x150003
/-- Table MT-10. -/
abbrev Obj.JOURNAL_TAIL : Nat := 0x150004
/-- Table MT-10. -/
abbrev Obj.REC_MODE : Nat := 0x150100
/-- Table MT-10. -/
abbrev Obj.REC_LOW_MARK : Nat := 0x150201
/-- Table MT-10. -/
abbrev Obj.REC_FG_MARK : Nat := 0x150202
/-- Table MT-10. -/
abbrev Obj.REC_IDLE_TIME : Nat := 0x150203
/-- Table MT-10. -/
abbrev Obj.WEAR_WEIGHT : Nat := 0x150301
/-- Table MT-10. -/
abbrev Obj.DRIFT_WEIGHT : Nat := 0x150302
/-- Table MT-10. -/
abbrev Obj.WEAR_GAP : Nat := 0x150303
/-- Table MT-10. -/
abbrev Obj.STREAM_HOT_AGE : Nat := 0x150400
/-- Table MT-10 (add the subindex 1 to 64). -/
abbrev Obj.REGION_STREAM : Nat := 0x150500
/-- Table MT-10. -/
abbrev Obj.REBUILD_RATE : Nat := 0x150600
/-- Table MT-10. -/
abbrev Obj.MAP_REPAIRS : Nat := 0x150701
/-- Table MT-10. -/
abbrev Obj.JOURNAL_FULL_WAITS : Nat := 0x150702
/-- Table MT-10. -/
abbrev Obj.CKPT_WRITTEN : Nat := 0x150703
/-- Table MT-10. -/
abbrev Obj.SETS_FREE : Nat := 0x151001
/-- Table MT-10. -/
abbrev Obj.SETS_FREE_PCT : Nat := 0x151002
/-- Table MT-10. -/
abbrev Obj.SETS_RETIRED : Nat := 0x151003
/-- Table MT-10. -/
abbrev Obj.SPARES_LEFT : Nat := 0x151004
/-- Table MT-10. -/
abbrev Obj.REC_STATE : Nat := 0x151005
/-- Table MT-10. -/
abbrev Obj.HOLDS_HOST : Nat := 0x151006
/-- Table MT-10. -/
abbrev Obj.REBUILD_STATE : Nat := 0x151101
/-- Table MT-10. -/
abbrev Obj.REBUILD_LEFT : Nat := 0x151102
/-- Table MT-10. -/
abbrev Obj.DEAD_MEMBERS : Nat := 0x151103
/-- Table MT-10. -/
abbrev Obj.PAGES_WRITTEN : Nat := 0x151201
/-- Table MT-10. -/
abbrev Obj.PAGES_MOVED : Nat := 0x151202
/-- Table MT-10. -/
abbrev Obj.PAGES_REENGRAVED : Nat := 0x151203
/-- Table MT-10. -/
abbrev Obj.PAGES_REBUILT : Nat := 0x151204
/-- Table MT-10. -/
abbrev Obj.SETS_RESET : Nat := 0x151205
/-- Table MT-10. -/
abbrev Obj.WRITE_AMP : Nat := 0x151206
/-- Table MT-10. -/
abbrev Obj.PROGRAM_FAILS : Nat := 0x151207
/-- Table MT-10. -/
abbrev Obj.RESET_FAILS : Nat := 0x151208
/-- Table MT-10. -/
abbrev Obj.MOVES_ABANDONED : Nat := 0x151209
/-- Table MT-10. -/
abbrev Obj.DEGRADED_READS : Nat := 0x15120A
/-- Table MT-10. -/
abbrev Obj.PAD_PLATES : Nat := 0x15120B
/-- Table MT-10. -/
abbrev Obj.UNPROTECTED : Nat := 0x15120C
/-- Table MT-10. -/
abbrev Obj.PAGES_LOST : Nat := 0x15120D
/-- Table ML-7 (add the subindex 1 to 4). -/
abbrev Obj.LAT_BOUND : Nat := 0x160000
/-- Table ML-7 (add the subindex 1 to 4). -/
abbrev Obj.LAT_COUNT : Nat := 0x160100
/-- Table ML-7 (add the subindex 1 to 4). -/
abbrev Obj.LAT_OVER_BOUND : Nat := 0x160200
/-- Table ML-7 (add the subindex 1 to 4). -/
abbrev Obj.LAT_MAX : Nat := 0x160300
/-- Table ML-7 (add the subindex 1 to 4). -/
abbrev Obj.LAT_P6 : Nat := 0x160400
/-- Table ML-7 (add the subindex 1 to 10). -/
abbrev Obj.LAT_EXCLUDED : Nat := 0x160500
/-- Table ML-7. -/
abbrev Obj.SUSPEND_FAST : Nat := 0x161000
/-- Table ML-7. -/
abbrev Obj.READAROUND_BUDGET : Nat := 0x161100
/-- Table ML-7. -/
abbrev Obj.FINE_ENTER : Nat := 0x161201
/-- Table ML-7. -/
abbrev Obj.FINE_HOLD : Nat := 0x161202
/-- Table ML-7. -/
abbrev Obj.REENGRAVE_OVERDUE : Nat := 0x162000
/-- Table ML-7. -/
abbrev Obj.REENGRAVE_AFTER_SOFT : Nat := 0x162100
/-- Table ML-7. -/
abbrev Obj.SETS_DUE : Nat := 0x162200
/-- Table ML-7. -/
abbrev Obj.SETS_OVERDUE : Nat := 0x162300
/-- Table ML-7. -/
abbrev Obj.READAROUNDS : Nat := 0x163001
/-- Table ML-7. -/
abbrev Obj.BUDGET_REFUSALS : Nat := 0x163002
/-- Table ML-7. -/
abbrev Obj.SUSPENDS : Nat := 0x163003
/-- Table ML-7. -/
abbrev Obj.LONG_WAITS : Nat := 0x163004
/-- Table ML-7. -/
abbrev Obj.FINE_MODE : Nat := 0x163005
/-- Table ML-7. -/
abbrev Obj.MEMBER_READS : Nat := 0x163006
/-- Table ML-7. -/
abbrev Obj.OPS_OVERDUE : Nat := 0x163007
/-- Table ML-7. -/
abbrev Obj.EQ_CLOCK : Nat := 0x164000
/-- Table ML-7 (add the subindex 1 to 4). -/
abbrev Obj.RUNG_COUNT : Nat := 0x164100
/-- Table ML-7 (add the subindex 1 to 9). -/
abbrev Obj.BIN_READS : Nat := 0x164200
/-- Table ML-7. -/
abbrev Obj.AF_NOW : Nat := 0x164300
/-- Table AG-7. -/
abbrev Obj.PLAN_STAGE : Nat := 0x170000
/-- Table AG-7. -/
abbrev Obj.PLAN_APPLY : Nat := 0x170100
/-- Table AG-7. -/
abbrev Obj.PLAN_ROLLBACK : Nat := 0x170200
/-- Table AG-7. -/
abbrev Obj.PLAN_ACTIVE_ID : Nat := 0x170301
/-- Table AG-7. -/
abbrev Obj.PLAN_PREVIOUS_ID : Nat := 0x170302
/-- Table AG-7. -/
abbrev Obj.PLAN_APPLIED_AT : Nat := 0x170303
/-- Table AG-7. -/
abbrev Obj.PLAN_CHECK_RESULT : Nat := 0x170400
/-- Table AG-7. -/
abbrev Obj.PROOF_INTERVAL : Nat := 0x170500
/-- Table AG-7. -/
abbrev Obj.PROOF_NOW : Nat := 0x170600
/-- Table AG-7. -/
abbrev Obj.AGE_EXPORT : Nat := 0x170700
/-- Table AG-7. -/
abbrev Obj.AGE_CURSOR : Nat := 0x170800
/-- Table AG-7. -/
abbrev Obj.MEAS_SKIPPED : Nat := 0x170901
/-- Table AG-7. -/
abbrev Obj.MEAS_LOST : Nat := 0x170902
/-- Table AG-7. -/
abbrev Obj.PROOF_DROPPED : Nat := 0x170903
/-- Table AG-7. -/
abbrev Obj.ENDURANCE_LIMIT : Nat := 0x171000
/-- Table AG-7. -/
abbrev Obj.MODULE_LIFE_USED : Nat := 0x171101
/-- Table AG-7. -/
abbrev Obj.MODULE_REMAINING_DAYS : Nat := 0x171102
/-- Table AG-7. -/
abbrev Obj.LIFE_LIMITER : Nat := 0x171103
/-- Table AG-7. -/
abbrev Obj.RATED_LIFE : Nat := 0x171201
/-- Table AG-7. -/
abbrev Obj.HOLDUP_BOL : Nat := 0x171202
/-- Table AG-7 (add the subindex 1 to 9). -/
abbrev Obj.MARGIN_NOW : Nat := 0x172000
/-- Table AG-7. -/
abbrev Obj.HORIZON_EFFECTIVE : Nat := 0x172100
/-- Table AG-7. -/
abbrev Obj.FALLBACK_HALVINGS : Nat := 0x172200
/-- Table AG-7. -/
abbrev Obj.ERASE_MEAN : Nat := 0x172301
/-- Table AG-7. -/
abbrev Obj.ERASE_MAX : Nat := 0x172302
/-- Table AG-7. -/
abbrev Obj.SPARES_USED : Nat := 0x172400
/-- Table AG-7. -/
abbrev Obj.VERIFY_LOOPS_MEAN : Nat := 0x172500
/-- Table AG-7. -/
abbrev Obj.LIFE_USED : Nat := 0x172600
/-- Table AG-7. -/
abbrev Obj.REMAINING_DAYS : Nat := 0x172700
/-- Table DP-8. -/
abbrev Obj.SRAM_CORRECTED : Nat := 0x180001
/-- Table DP-8. -/
abbrev Obj.SRAM_UNCORRECTABLE : Nat := 0x180002
/-- Table DP-8. -/
abbrev Obj.HBM_CORRECTED : Nat := 0x180003
/-- Table DP-8. -/
abbrev Obj.HBM_UNCORRECTABLE : Nat := 0x180004
/-- Table DP-8. -/
abbrev Obj.MEDIA_CORRECTED : Nat := 0x180005
/-- Table DP-8. -/
abbrev Obj.MEDIA_UNCORRECTABLE : Nat := 0x180006
/-- Table DP-8. -/
abbrev Obj.JOURNAL_LOST : Nat := 0x180007
/-- Table DP-8 (add the subindex 1 to 16). -/
abbrev Obj.REMAP_HBM_USED : Nat := 0x180300
/-- Table DP-8 (add the subindex 1 to 16). -/
abbrev Obj.REMAP_SRAM_USED : Nat := 0x180400
/-- Table DP-8. -/
abbrev Obj.SCRUB_TARGET : Nat := 0x180800
/-- Table DP-8. -/
abbrev Obj.SCRUB_BASE : Nat := 0x180900
/-- Table DP-8. -/
abbrev Obj.SCRUB_SIZE : Nat := 0x180A00
/-- Table DP-8. -/
abbrev Obj.SCRUB_START : Nat := 0x180B00
/-- Table DP-8. -/
abbrev Obj.SCRUB_ABORT : Nat := 0x180C00
/-- Table DP-8. -/
abbrev Obj.SCRUB_STATE : Nat := 0x180D00
/-- Table DP-8. -/
abbrev Obj.SCRUB_SUMMARY : Nat := 0x180E00
/-- Table DP-8. -/
abbrev Obj.SCRUB_RATE : Nat := 0x180F00
/-- Table DP-8. -/
abbrev Obj.CUSTODIAN_KEY : Nat := 0x181000
/-- Table DP-8. -/
abbrev Obj.CUSTODIAN_CHECK : Nat := 0x181100
/-- Table DP-8 (add the subindex 1 to 64). -/
abbrev Obj.KEY_STATE : Nat := 0x181200
/-- Table DP-8 (add the subindex 1 to 64). -/
abbrev Obj.KEY_ROTATE : Nat := 0x181300
/-- Table DP-8 (add the subindex 1 to 64). -/
abbrev Obj.KEY_DESTROY : Nat := 0x181400
/-- Table DP-8 (add the subindex 1 to 64). -/
abbrev Obj.KEY_START_SEQ : Nat := 0x181500
/-- Table DP-8 (add the subindex 1 to 64). -/
abbrev Obj.KEY_ERASE_SEQ : Nat := 0x181600
/-- Table DP-8 (add the subindex 1 to 64). -/
abbrev Obj.KEY_WRAPPED : Nat := 0x181700
/-- Table DP-8. -/
abbrev Obj.REKEY_RATE : Nat := 0x181800
/-- Table DP-8 (add the subindex 1 to 64). -/
abbrev Obj.REKEY_LEFT : Nat := 0x181900
/-- Table DP-8. -/
abbrev Obj.WSEQ_NOW : Nat := 0x182000
/-- Table DP-8. -/
abbrev Obj.SPEC_DELIVERY : Nat := 0x182100
/-- Table DP-8. -/
abbrev Obj.INTEGRITY_RECOVER : Nat := 0x183000
/-- Table DP-8. -/
abbrev Obj.INTEGRITY_RECORD : Nat := 0x183100
/-- Table DP-8. -/
abbrev Obj.INTEGRITY_HALTS : Nat := 0x183200
/-- Table DP-8 (add the subindex 1 to 64). -/
abbrev Obj.PROT_BASE : Nat := 0x184000
/-- Table DP-8 (add the subindex 1 to 64). -/
abbrev Obj.PROT_SIZE : Nat := 0x184100
/-- Table DP-8 (add the subindex 1 to 64). -/
abbrev Obj.PROT_APPLY : Nat := 0x184200
/-- Table DP-8. -/
abbrev Obj.PROT_DENIED : Nat := 0x184300
/-- Table DP-8. -/
abbrev Obj.PROT_LAST_DENIED : Nat := 0x184400
/-- Table DP-8. -/
abbrev Obj.POISON_STAGED : Nat := 0x185000
/-- Table PW-9. -/
abbrev Obj.VIN_NOW : Nat := 0x190001
/-- Table PW-9. -/
abbrev Obj.VIN_AVG : Nat := 0x190002
/-- Table PW-9. -/
abbrev Obj.IIN_NOW : Nat := 0x190003
/-- Table PW-9. -/
abbrev Obj.PIN_NOW : Nat := 0x190004
/-- Table PW-9. -/
abbrev Obj.PHASES_OK : Nat := 0x190005
/-- Table PW-9. -/
abbrev Obj.POWER_CAP_NOW : Nat := 0x190101
/-- Table PW-9. -/
abbrev Obj.POWER_STEP : Nat := 0x190102
/-- Table PW-9. -/
abbrev Obj.VIN_FAIL_PCT : Nat := 0x190201
/-- Table PW-9. -/
abbrev Obj.VIN_FAIL_NOW : Nat := 0x190202
/-- Table PW-9. -/
abbrev Obj.HOLDUP_C : Nat := 0x190301
/-- Table PW-9. -/
abbrev Obj.HOLDUP_ESR : Nat := 0x190302
/-- Table PW-9. -/
abbrev Obj.V_HOLD_NOW : Nat := 0x190303
/-- Table PW-9. -/
abbrev Obj.BANK_TEMP : Nat := 0x190304
/-- Table PW-9. -/
abbrev Obj.HOLDUP_MEAS_AT : Nat := 0x190305
/-- Table PW-9. -/
abbrev Obj.HOLDUP_DEFERRED : Nat := 0x190306
/-- Table PW-9. -/
abbrev Obj.HOLDUP_ENERGY : Nat := 0x190400
/-- Table PW-9. -/
abbrev Obj.HOLDUP_MEASURE : Nat := 0x190500
/-- Table PW-9. -/
abbrev Obj.HOLDUP_INTERVAL : Nat := 0x190600
/-- Table PW-9 (add the subindex 1 to 4). -/
abbrev Obj.BANK_ENABLE : Nat := 0x190800
/-- Table PW-9 (add the subindex 1 to 4). -/
abbrev Obj.BANK_STATE : Nat := 0x190900
/-- Table PW-9. -/
abbrev Obj.RAIL_NOMINAL : Nat := 0x191001
/-- Table PW-9. -/
abbrev Obj.RAIL_VOUT : Nat := 0x191002
/-- Table PW-9. -/
abbrev Obj.RAIL_IOUT : Nat := 0x191003
/-- Table PW-9. -/
abbrev Obj.RAIL_REACTION : Nat := 0x191100
/-- Table PW-9. -/
abbrev Obj.RAIL_FAULTS : Nat := 0x191201
/-- Table PW-9. -/
abbrev Obj.RAIL_RETRIES : Nat := 0x191202
/-- Table PW-9. -/
abbrev Obj.PG_GLITCHES : Nat := 0x191203
/-- Table PW-9. -/
abbrev Obj.PHASES_LOST : Nat := 0x191204
/-- Table PW-9. -/
abbrev Obj.FALL_TIMEOUTS : Nat := 0x191205
/-- Table PW-9. -/
abbrev Obj.FLUSH_COUNT : Nat := 0x192001
/-- Table PW-9. -/
abbrev Obj.DIRTY_SHUTDOWNS : Nat := 0x192002
/-- Table PW-9. -/
abbrev Obj.VIN_DIPS : Nat := 0x192003
/-- Table PW-9. -/
abbrev Obj.UNAVAILABLE_READS : Nat := 0x192004
/-- Table PW-9. -/
abbrev Obj.OVERVOLTAGE_EVENTS : Nat := 0x192005
/-- Table PW-9. -/
abbrev Obj.PMBUS_ERRORS : Nat := 0x192006
/-- Table PW-9. -/
abbrev Obj.LAST_FLUSH : Nat := 0x192100
/-- Table PW-9 (add the subindex 1 to 2). -/
abbrev Obj.FLUSH_BUFFER_STATE : Nat := 0x192200
/-- Table PW-9. -/
abbrev Obj.DUMP_SEQ_LAST : Nat := 0x192203
/-- Table CS-12. -/
abbrev Obj.CLOCK_SOURCE : Nat := 0x1A0001
/-- Table CS-12. -/
abbrev Obj.REF_FAULTS : Nat := 0x1A0002
/-- Table CS-12. -/
abbrev Obj.CLK_DOMAINS_ON : Nat := 0x1A0100
/-- Table CS-12. -/
abbrev Obj.WARM_RESET : Nat := 0x1A0200
/-- Table CS-12. -/
abbrev Obj.RESET_LAST : Nat := 0x1A0301
/-- Table CS-12. -/
abbrev Obj.RESET_AT : Nat := 0x1A0302
/-- Table CS-12 (add the subindex 1 to 7). -/
abbrev Obj.RESET_COUNT : Nat := 0x1A0400
/-- Table CS-12. -/
abbrev Obj.WATCHDOG_TIMEOUT : Nat := 0x1A0500
/-- Table CS-12. -/
abbrev Obj.BLOCK_RESET : Nat := 0x1A0600
/-- Table CS-12 (add the subindex 1 to 6). -/
abbrev Obj.BLOCK_STATE : Nat := 0x1A0700
/-- Table CS-12. -/
abbrev Obj.PSTATE_REQUEST : Nat := 0x1A1000
/-- Table CS-12. -/
abbrev Obj.PSTATE_NOW : Nat := 0x1A1100
/-- Table CS-12. -/
abbrev Obj.PSTATE_AUTO_MAX : Nat := 0x1A1200
/-- Table CS-12. -/
abbrev Obj.P1_IDLE : Nat := 0x1A1301
/-- Table CS-12. -/
abbrev Obj.P2_IDLE : Nat := 0x1A1302
/-- Table CS-12. -/
abbrev Obj.PSTATE_PREP_MAX : Nat := 0x1A1400
/-- Table CS-12. -/
abbrev Obj.PSTATE_WAKE_TIMER : Nat := 0x1A1500
/-- Table CS-12 (add the subindex 1 to 5). -/
abbrev Obj.RESIDENCY : Nat := 0x1A1600
/-- Table CS-12 (add the subindex 1 to 8). -/
abbrev Obj.REFUSALS : Nat := 0x1A1700
/-- Table CS-12. -/
abbrev Obj.LAST_REFUSER : Nat := 0x1A1801
/-- Table CS-12. -/
abbrev Obj.LAST_REFUSED_STATE : Nat := 0x1A1802
/-- Table CS-12. -/
abbrev Obj.ENTRY_STATE : Nat := 0x1A1900
/-- Table CS-12. -/
abbrev Obj.PAD_HOLD_RELEASE : Nat := 0x1A2000
/-- Table CS-12. -/
abbrev Obj.PAD_HOLD : Nat := 0x1A2101
/-- Table CS-12. -/
abbrev Obj.PAD_HOLD_AUTO : Nat := 0x1A2102
/-- Table CS-12. -/
abbrev Obj.RETENTION_FREEZE : Nat := 0x1A2200
/-- Table CS-12. -/
abbrev Obj.RETENTION_RESUME : Nat := 0x1A2300
/-- Table CS-12. -/
abbrev Obj.FROZEN : Nat := 0x1A2400
/-- Table CS-12 (add the subindex 1 to 7). -/
abbrev Obj.START_LAST_MS : Nat := 0x1A3000
/-- Table CS-12 (add the subindex 1 to 6). -/
abbrev Obj.WAKE_LAST_MS : Nat := 0x1A3100
/-- Table TH-4. -/
abbrev Obj.THERM_WARN : Nat := 0x1B0001
/-- Table TH-4. -/
abbrev Obj.THERM_STEP1 : Nat := 0x1B0002
/-- Table TH-4. -/
abbrev Obj.THERM_STEPS : Nat := 0x1B0003
/-- Table TH-4. -/
abbrev Obj.THERM_CRIT : Nat := 0x1B0004
/-- Table TH-4. -/
abbrev Obj.THERM_STEP : Nat := 0x1B0100
/-- Table TH-4. -/
abbrev Obj.STEP_IN_FORCE : Nat := 0x1B0200
/-- Table TH-4. -/
abbrev Obj.RISE_MAX : Nat := 0x1B0300
/-- Table TH-4 (add the subindex 1 to 64). -/
abbrev Obj.SENSOR_TEMP : Nat := 0x1B0400
/-- Table TH-4 (add the subindex 1 to 2). -/
abbrev Obj.SENSOR_STATE : Nat := 0x1B0500
/-- Table TH-4. -/
abbrev Obj.SENSOR_RETEST : Nat := 0x1B0600
/-- Table TH-4. -/
abbrev Obj.THERM_GRACE : Nat := 0x1B1000
/-- Table TH-4. -/
abbrev Obj.THERM_REQUEST : Nat := 0x1B1100
/-- Table TH-4. -/
abbrev Obj.THERM_ENFORCE : Nat := 0x1B1201
/-- Table TH-4. -/
abbrev Obj.THERM_ENFORCED : Nat := 0x1B1202
/-- Table TH-4. -/
abbrev Obj.COOLANT_IN : Nat := 0x1B2001
/-- Table TH-4. -/
abbrev Obj.COOLANT_OUT : Nat := 0x1B2002
/-- Table TH-4. -/
abbrev Obj.THERMAL_LATCH : Nat := 0x1B3000
/-- Table TH-4. -/
abbrev Obj.LAST_CRITICAL : Nat := 0x1B3100
/-- Table TH-4. -/
abbrev Obj.WARN_EPISODES : Nat := 0x1B4001
/-- Table TH-4. -/
abbrev Obj.STEP_RISES : Nat := 0x1B4002
/-- Table TH-4. -/
abbrev Obj.RATE_BOOSTS : Nat := 0x1B4003
/-- Table TH-4. -/
abbrev Obj.ENFORCE_EPISODES : Nat := 0x1B4004
/-- Table TH-4. -/
abbrev Obj.CRITICAL_SHUTDOWNS : Nat := 0x1B4005
/-- Table TH-4. -/
abbrev Obj.THROTTLE_TIME : Nat := 0x1B4006
/-- Table OD-5. -/
abbrev Obj.UNIT_TYPE : Nat := 0x000000
/-- Table OD-5. -/
abbrev Obj.UNIT_NAME : Nat := 0x000100
/-- Table OD-5. -/
abbrev Obj.UNIT_STATE : Nat := 0x000200
/-- Table OD-5. -/
abbrev Obj.CHILD_COUNT : Nat := 0x000300
/-- Table OD-5. -/
abbrev Obj.SERIAL : Nat := 0x000400
/-- Table OD-5. -/
abbrev Obj.FW_VERSION : Nat := 0x000500
/-- Table OD-5. -/
abbrev Obj.UNIT_PATH : Nat := 0x000600
/-- Table OD-5. -/
abbrev Obj.MODULE_STATE : Nat := 0x001000
/-- Table OD-5. -/
abbrev Obj.VARIANT : Nat := 0x001100
/-- Table OD-5. -/
abbrev Obj.PART_NUMBER : Nat := 0x001200
/-- Table OD-5. -/
abbrev Obj.MODULE_ID : Nat := 0x001300
/-- Table OD-5. -/
abbrev Obj.TEMP_NOW : Nat := 0x010000
/-- Table OD-5. -/
abbrev Obj.TEMP_MAX : Nat := 0x010100
/-- Table OD-5. -/
abbrev Obj.TEMP_PEAK : Nat := 0x010200
/-- Table OD-5. -/
abbrev Obj.ERR_CORRECTED : Nat := 0x011000
/-- Table OD-5. -/
abbrev Obj.ERR_UNCORRECTABLE : Nat := 0x011100
/-- Table OD-5. -/
abbrev Obj.STATE_SINCE : Nat := 0x012000
/-- Table OD-5. -/
abbrev Obj.STATE_CHANGES : Nat := 0x012100
/-- Table OD-5. -/
abbrev Obj.LAST_WARNING : Nat := 0x012200
/-- Table OD-14. -/
abbrev Obj.KDP_UDP_PORT : Nat := 0x1C0000
/-- Table OD-14. -/
abbrev Obj.SESSION_LIMIT : Nat := 0x1C0100
/-- Table OD-14. -/
abbrev Obj.SESSIONS_OPEN : Nat := 0x1C0200
/-- Table OD-14. -/
abbrev Obj.IDLE_TIMEOUT : Nat := 0x1C0300
/-- Table OD-14. -/
abbrev Obj.PASSPHRASE_SALT : Nat := 0x1C0400
/-- Table OD-14. -/
abbrev Obj.PBKDF2_ITERATIONS : Nat := 0x1C0500
/-- Table OD-14 (add the subindex 1 to 3). -/
abbrev Obj.ROLE_KEY : Nat := 0x1C1000
/-- Table OD-14 (add the subindex 1 to 4). -/
abbrev Obj.ROLE_KEY_SET : Nat := 0x1C1100
/-- Table OD-14 (add the subindex 1 to 8). -/
abbrev Obj.SESSION_TABLE : Nat := 0x1C2000
/-- Table OD-14. -/
abbrev Obj.SESSION_KILL : Nat := 0x1C2100
/-- Table OD-14. -/
abbrev Obj.OPENS : Nat := 0x1C2801
/-- Table OD-14. -/
abbrev Obj.AUTH_FAILS : Nat := 0x1C2802
/-- Table OD-14. -/
abbrev Obj.MAC_FAILS : Nat := 0x1C2803
/-- Table OD-14. -/
abbrev Obj.LIMIT_REFUSALS : Nat := 0x1C2804
/-- Table OD-14. -/
abbrev Obj.BACKOFF_REFUSALS : Nat := 0x1C2805
/-- Table OD-14. -/
abbrev Obj.EVENTS_DROPPED : Nat := 0x1C2806
/-- Table OD-14. -/
abbrev Obj.SEQ_DISCARDS : Nat := 0x1C2807
/-- Table OD-14. -/
abbrev Obj.IDLE_CLOSES : Nat := 0x1C2808
/-- Table OD-14. -/
abbrev Obj.DISCARDS : Nat := 0x1C2809
/-- Table OD-14. -/
abbrev Obj.BACKOFF_ADDRS : Nat := 0x1C2900
/-- Table OD-14. -/
abbrev Obj.NET_ENABLE : Nat := 0x1C3000
/-- Table OD-14. -/
abbrev Obj.NET_ENABLE_STATE : Nat := 0x1C3001
/-- Table OD-14. -/
abbrev Obj.NET_PMD : Nat := 0x1C3100
/-- Table OD-14. -/
abbrev Obj.NET_KDP : Nat := 0x1C3200
/-- Table OD-14. -/
abbrev Obj.NET_MAC : Nat := 0x1C3300
/-- Table OD-14. -/
abbrev Obj.NET_ADDR_MODE : Nat := 0x1C3401
/-- Table OD-14. -/
abbrev Obj.NET_IPV6 : Nat := 0x1C3402
/-- Table OD-14. -/
abbrev Obj.NET_IPV6_PREFIX : Nat := 0x1C3403
/-- Table OD-14. -/
abbrev Obj.NET_GW6 : Nat := 0x1C3404
/-- Table OD-14. -/
abbrev Obj.NET_IPV4 : Nat := 0x1C3405
/-- Table OD-14. -/
abbrev Obj.NET_IPV4_PREFIX : Nat := 0x1C3406
/-- Table OD-14. -/
abbrev Obj.NET_GW4 : Nat := 0x1C3407
/-- Table OD-14. -/
abbrev Obj.NET_VLAN : Nat := 0x1C3408
/-- Table OD-14. -/
abbrev Obj.NET_PCP : Nat := 0x1C3409
/-- Table OD-14. -/
abbrev Obj.NET_APPLY : Nat := 0x1C3500
/-- Table OD-14. -/
abbrev Obj.NET_LINK : Nat := 0x1C3601
/-- Table OD-14. -/
abbrev Obj.NET_ADDR_NOW : Nat := 0x1C3602
/-- Table OD-14. -/
abbrev Obj.RX_FRAMES : Nat := 0x1C3801
/-- Table OD-14. -/
abbrev Obj.TX_FRAMES : Nat := 0x1C3802
/-- Table OD-14. -/
abbrev Obj.RX_DROPPED : Nat := 0x1C3803
/-- Table OD-14. -/
abbrev Obj.FEC_CORRECTED : Nat := 0x1C3804
/-- Table OD-14. -/
abbrev Obj.FEC_UNCORRECTABLE : Nat := 0x1C3805
/-- Table OD-14. -/
abbrev Obj.LINK_DOWNS : Nat := 0x1C3806
/-- Table HM-7. -/
abbrev Obj.HM_STORE_LAST : Nat := 0x1D0001
/-- Table HM-7. -/
abbrev Obj.HM_STORES : Nat := 0x1D0002
/-- Table HM-7. -/
abbrev Obj.HM_STORE_DEFERRED : Nat := 0x1D0003
/-- Table HM-7. -/
abbrev Obj.HM_STORE_NOW : Nat := 0x1D0100
/-- Table HM-7. -/
abbrev Obj.HM_WINDOW_ADDR : Nat := 0x1D0200
/-- Table HM-7. -/
abbrev Obj.HM_WINDOW_DATA : Nat := 0x1D0300
/-- Table HM-7 (add the subindex 1 to 12). -/
abbrev Obj.RECORD_STATE : Nat := 0x1D0400
/-- Table HM-7. -/
abbrev Obj.TWIN_CONFLICTS : Nat := 0x1D0500
/-- Table HM-7. -/
abbrev Obj.POWER_CYCLES : Nat := 0x1D0601
/-- Table HM-7. -/
abbrev Obj.OPERATING_SECONDS : Nat := 0x1D0602
/-- Table HM-7. -/
abbrev Obj.COUNTERS_SATURATED : Nat := 0x1D0603
/-- Table HM-7. -/
abbrev Obj.HM_RECENT : Nat := 0x1D0700
/-- Table HM-7. -/
abbrev Obj.RECORDER_FREEZE : Nat := 0x1D1000
/-- Table HM-7. -/
abbrev Obj.FREEZE_MAX : Nat := 0x1D1100
/-- Table HM-7. -/
abbrev Obj.RECORDS_TOTAL : Nat := 0x1D1201
/-- Table HM-7. -/
abbrev Obj.FROZEN_LOST : Nat := 0x1D1202
/-- Table HM-7. -/
abbrev Obj.RING_LOST : Nat := 0x1D1203
/-- Table HM-7. -/
abbrev Obj.LOG_LOST : Nat := 0x1D1204
/-- Table HM-7. -/
abbrev Obj.LOG_FLUSHES : Nat := 0x1D1205
/-- Table HM-7. -/
abbrev Obj.LOG_CURSOR : Nat := 0x1D1300
/-- Table HM-7. -/
abbrev Obj.LOG_EXPORT : Nat := 0x1D1400
/-- Table HM-7 (add the subindex 1 to 8). -/
abbrev Obj.TRIGGER : Nat := 0x1D2000
/-- Table HM-7 (add the subindex 1 to 8). -/
abbrev Obj.TRIGGER_FIRES : Nat := 0x1D2100
/-- Table PC-6. -/
abbrev Obj.PC_CYCLES : Nat := 0x1E0000
/-- Table PC-6 (add the subindex 1 to 8). -/
abbrev Obj.PC_EVENT : Nat := 0x1E0100
/-- Table PC-6 (add the subindex 1 to 8). -/
abbrev Obj.PC_SCOPE : Nat := 0x1E0200
/-- Table PC-6 (add the subindex 1 to 8). -/
abbrev Obj.PC_CONFIG : Nat := 0x1E0300
/-- Table PC-6 (add the subindex 1 to 8). -/
abbrev Obj.PC_COUNT : Nat := 0x1E0400
/-- Table PC-6 (add the subindex 1 to 8). -/
abbrev Obj.PC_RELOAD : Nat := 0x1E0500
/-- Table PC-6 (add the subindex 1 to 8). -/
abbrev Obj.PC_OVF_COUNT : Nat := 0x1E0600
/-- Table PC-6 (add the subindex 1 to 8). -/
abbrev Obj.PC_SLICES : Nat := 0x1E0700
/-- Table PC-6. -/
abbrev Obj.PC_FREEZE : Nat := 0x1E0800
/-- Table PC-6. -/
abbrev Obj.PC_SNAPSHOT : Nat := 0x1E0900
/-- Table PC-6. -/
abbrev Obj.PC_SNAP : Nat := 0x1E0A00
/-- Table PC-6. -/
abbrev Obj.SAMPLE_CURSOR : Nat := 0x1E1000
/-- Table PC-6. -/
abbrev Obj.SAMPLE_EXPORT : Nat := 0x1E1100
/-- Table PC-6. -/
abbrev Obj.SAMPLES_TAKEN : Nat := 0x1E1201
/-- Table PC-6. -/
abbrev Obj.SAMPLES_LOST : Nat := 0x1E1202
/-- Table PC-6. -/
abbrev Obj.BW_WINDOW_US : Nat := 0x1E2000
/-- Table PC-6. -/
abbrev Obj.BW_LAST : Nat := 0x1E2100
/-- Table PC-6. -/
abbrev Obj.BW_HISTORY : Nat := 0x1E2200
/-- Table PC-6. -/
abbrev Obj.BW_READ_MAX : Nat := 0x1E2301
/-- Table PC-6. -/
abbrev Obj.BW_WRITE_MAX : Nat := 0x1E2302
/-- Table PC-6. -/
abbrev Obj.BW_MISSED : Nat := 0x1E2400
/-- Table TS-6. -/
abbrev Obj.LB_DEPTH : Nat := 0x1F0000
/-- Table TS-6. -/
abbrev Obj.LB_RUN : Nat := 0x1F0100
/-- Table TS-6. -/
abbrev Obj.LB_RESULT : Nat := 0x1F0200
/-- Table TS-6. -/
abbrev Obj.SRAM_SELFTEST : Nat := 0x1F0800
/-- Table TS-6. -/
abbrev Obj.SRAM_RESULT : Nat := 0x1F0900
/-- Table TS-6. -/
abbrev Obj.STACK_SELFTEST : Nat := 0x1F0A00
/-- Table TS-6. -/
abbrev Obj.STACK_RESULT : Nat := 0x1F0B00
/-- Table TS-6. -/
abbrev Obj.HBM_SELFTEST : Nat := 0x1F0C00
/-- Table TS-6. -/
abbrev Obj.HBM_RESULT : Nat := 0x1F0D00
/-- Table TS-6. -/
abbrev Obj.BOOT_HOLD : Nat := 0x1F1000
/-- Table TS-6. -/
abbrev Obj.BOOT_HOLD_MAX : Nat := 0x1F1100
/-- Table TS-6. -/
abbrev Obj.BOOT_RELEASE : Nat := 0x1F1200
/-- Table TS-6. -/
abbrev Obj.JTAG_UNLOCK : Nat := 0x1F1400
/-- Table TS-6. -/
abbrev Obj.JTAG_STATE : Nat := 0x1F1500
/-- Table TS-6. -/
abbrev Obj.FW_STAGE : Nat := 0x1F2000
/-- Table TS-6. -/
abbrev Obj.FW_INSTALL : Nat := 0x1F2100
/-- Table TS-6. -/
abbrev Obj.FW_ACTIVATE : Nat := 0x1F2200
/-- Table TS-6 (add the subindex 1 to 2). -/
abbrev Obj.FW_SLOT_INFO : Nat := 0x1F2300
/-- Table TS-6. -/
abbrev Obj.FW_IMAGE_NOW : Nat := 0x1F2400
/-- Table TS-6. -/
abbrev Obj.FW_SVN_FUSED : Nat := 0x1F2500
/-- Table TS-6. -/
abbrev Obj.FW_LAST_PAUSE : Nat := 0x1F2600
/-- Table TS-6. -/
abbrev Obj.FW_ACTIVATIONS : Nat := 0x1F2701
/-- Table TS-6. -/
abbrev Obj.BOOT_FAILS : Nat := 0x1F2702

/-- Rows of the object table of chapter 02, part 1. -/
def objRows02_1 : List ObjRow := [
  ⟨0x1000, 0, 0, .bool, .rw, 2, 1, .span 0 1, [.hostPort]⟩,  -- PORT_ENABLE
  ⟨0x1000, 1, 1, .u8, .ro, 1, 1, .span 0 3, [.hostPort]⟩,  -- PORT_ENABLE_STATE
  ⟨0x1001, 0, 0, .bool, .rw, 2, 0, .span 0 1, [.hostPort]⟩,  -- PORT_BIFURCATE
  ⟨0x1001, 1, 1, .bool, .ro, 1, 0, .span 0 1, [.hostPort]⟩,  -- BIFURCATE_NOW
  ⟨0x1002, 0, 0, .u8, .rw, 2, 64, .oneOf [16, 32, 64], [.hostPort]⟩,  -- RATE_CAP
  ⟨0x1003, 0, 0, .u8, .rw, 2, 0, .span 0 1, [.hostPort]⟩,  -- ATTACH_MODE
  ⟨0x1004, 0, 0, .bool, .rw, 3, 0, .span 0 1, [.hostPort]⟩,  -- IDE_SKID_PERMIT
  ⟨0x1008, 1, 1, .u8, .ro, 1, 0, .span 0 3, [.hostPort]⟩,  -- LINK_STATE
  ⟨0x1008, 2, 2, .u8, .ro, 1, 0, .oneOf [0, 2, 5, 8, 16, 32, 64], [.hostPort]⟩,  -- RATE_NOW
  ⟨0x1008, 3, 3, .u8, .ro, 1, 0, .oneOf [0, 1, 2, 4, 8, 16], [.hostPort]⟩,  -- WIDTH_NOW
  ⟨0x1008, 4, 4, .u8, .ro, 1, 0, .span 0 3, [.hostPort]⟩,  -- FLIT_NOW
  ⟨0x1008, 5, 5, .u8, .ro, 1, 0, .span 0 2, [.hostPort]⟩,  -- IDE_NOW
  ⟨0x1009, 0, 0, .bits32, .ro, 1, 0, .any, [.hostPort]⟩,  -- FENCE_REASON
  ⟨0x100A, 0, 0, .u8, .ro, 1, 0, .span 0 3, [.hostPorts, .hostPort]⟩,  -- DEVLOAD_NOW
  ⟨0x100B, 1, 1, .u16, .ro, 1, 256, .oneOf [128, 256], [.hostPort]⟩,  -- RWD_POOL
  ⟨0x100B, 2, 2, .u16, .ro, 1, 256, .span 32 256, [.hostPort]⟩,  -- RWD_LIMIT
  ⟨0x100B, 3, 3, .bits32, .ro, 1, 0, .mask 3, [.hostPort]⟩,  -- LIMIT_CAUSE
  ⟨0x100C, 0, 0, .u8, .ro, 1, 0, .span 0 4, [.hostPort]⟩,  -- AGENTS_ON_PORT
  ⟨0x1010, 1, 1, .u64, .ro, 1, 0, .any, [.hostPorts, .hostPort]⟩,  -- FLIT_REPLAY
  ⟨0x1010, 2, 2, .u32, .ro, 1, 0, .any, [.hostPorts, .hostPort]⟩,  -- LINK_DOWN
  ⟨0x1010, 3, 3, .u32, .ro, 1, 0, .any, [.hostPorts, .hostPort]⟩,  -- IDE_FAIL
  ⟨0x1010, 4, 4, .u64, .ro, 1, 0, .any, [.hostPorts, .hostPort]⟩,  -- POISON_RX
  ⟨0x1010, 5, 5, .u64, .ro, 1, 0, .any, [.hostPorts, .hostPort]⟩,  -- POISON_TX
  ⟨0x1010, 6, 6, .u32, .ro, 1, 0, .any, [.hostPorts, .hostPort]⟩,  -- VIRAL_RX
  ⟨0x1010, 7, 7, .u32, .ro, 1, 0, .any, [.hostPorts, .hostPort]⟩,  -- FENCE_COUNT
  ⟨0x1010, 8, 8, .u32, .ro, 1, 0, .any, [.hostPorts, .hostPort]⟩,  -- COMMIT_FAIL
  ⟨0x1040, 1, 32, .blob, .ro, 1, 0, .bytes 16 16, [.hostPorts]⟩,  -- AGENT_TABLE
  ⟨0x1041, 0, 0, .u8, .ro, 1, 0, .span 0 32, [.hostPorts]⟩,  -- HDM_DB_AGENTS
  ⟨0x1042, 0, 0, .u32, .ro, 1, 0, .any, [.hostPorts]⟩,  -- ENROLL_REFUSED
  ⟨0x1050, 1, 64, .bits32, .rw, 2, 0, .mask 65535, [.hostPorts]⟩  -- REGION_PORTS
  ]

/-- The object table of chapter 02. -/
def objRows02 : List ObjRow := objRows02_1

/-- Rows of the object table of chapter 03, part 1. -/
def objRows03_1 : List ObjRow := [
  ⟨0x1100, 1, 64, .u64, .rw, 2, 0, .mult 268435456, [.module]⟩,  -- REGION_BASE
  ⟨0x1101, 1, 64, .u64, .rw, 2, 0, .mult 268435456, [.module]⟩,  -- REGION_SIZE
  ⟨0x1102, 1, 64, .u8, .rw, 2, 0, .span 0 2, [.module]⟩,  -- REGION_MODE
  ⟨0x1103, 1, 64, .u8, .rw, 2, 1, .span 1 3, [.module]⟩,  -- REGION_POLICY
  ⟨0x1104, 1, 64, .bits32, .rw, 2, 0, .mask 14, [.module]⟩,  -- REGION_ALIAS
  ⟨0x1105, 1, 64, .u8, .rw, 2, 0, .span 0 1, [.module]⟩,  -- REGION_STALE_READ
  ⟨0x1106, 1, 64, .cmd, .cmd, 2, 0, .span 1 1, [.module]⟩,  -- REGION_APPLY
  ⟨0x1107, 1, 64, .u16, .ro, 1, 0, .span 0 1024, [.module]⟩,  -- REGION_DECODERS
  ⟨0x1110, 0, 0, .bits32, .rw, 2, 0, .mask 7, [.module]⟩,  -- CW_EARLY_CMP
  ⟨0x1111, 0, 0, .u16, .rw, 2, 50, .span 1 1000, [.module]⟩,  -- BARRIER_HOLD_MAX
  ⟨0x1120, 1, 32, .blob, .ro, 1, 0, .bytes 8 8, [.module]⟩,  -- CW_TABLE
  ⟨0x1130, 1, 1, .u64, .ro, 1, 0, .any, [.module]⟩,  -- DRAIN_BARRIERS
  ⟨0x1130, 2, 2, .u64, .ro, 1, 0, .any, [.module]⟩,  -- MIRROR_BARRIERS
  ⟨0x1130, 3, 3, .u32, .ro, 1, 0, .any, [.module]⟩,  -- BARRIERS_HELD
  ⟨0x1130, 4, 4, .u32, .ro, 1, 0, .any, [.module]⟩,  -- CW_DROPPED
  ⟨0x1130, 5, 5, .u32, .ro, 1, 0, .any, [.module]⟩,  -- CW_REJECTED
  ⟨0x1130, 6, 6, .u64, .ro, 1, 0, .any, [.module]⟩,  -- RESV_SUCCESS
  ⟨0x1130, 7, 7, .u64, .ro, 1, 0, .any, [.module]⟩,  -- RESV_FAIL
  ⟨0x1130, 8, 8, .u64, .ro, 1, 0, .any, [.module]⟩,  -- DISCARD_PAGES
  ⟨0x1130, 9, 9, .u64, .ro, 1, 0, .any, [.module]⟩,  -- COMBINED_WRITES
  ⟨0x1140, 0, 0, .u32, .ro, 1, 0, .any, [.module]⟩  -- HELD_PAGES
  ]

/-- The object table of chapter 03. -/
def objRows03 : List ObjRow := objRows03_1

/-- Rows of the object table of chapter 04, part 1. -/
def objRows04_1 : List ObjRow := [
  ⟨0x1200, 1, 1, .u32, .ro, 1, 12582912, .any, [.module]⟩,  -- DIR_ENTRIES
  ⟨0x1200, 2, 2, .u8, .ro, 1, 16, .any, [.module]⟩,  -- DIR_WAYS
  ⟨0x1200, 3, 3, .u32, .ro, 1, 49152, .any, [.module]⟩,  -- DIR_SETS
  ⟨0x1201, 1, 1, .u32, .ro, 1, 0, .span 0 12582912, [.module]⟩,  -- DIR_VALID
  ⟨0x1201, 2, 2, .u64, .ro, 1, 0, .any, [.module]⟩,  -- LINES_S
  ⟨0x1201, 3, 3, .u64, .ro, 1, 0, .any, [.module]⟩,  -- LINES_E
  ⟨0x1202, 0, 0, .u16, .ro, 1, 10, .any, [.module]⟩,  -- COH_TIMEOUT
  ⟨0x1203, 0, 0, .cmd, .cmd, 2, 0, .span 1 1, [.module]⟩,  -- DOMAIN_RECOVER
  ⟨0x1204, 0, 0, .bool, .ro, 1, 0, .span 0 1, [.module]⟩,  -- DOMAIN_DOWN_LATCHED
  ⟨0x1205, 0, 0, .blob, .ro, 1, 0, .bytes 32 32, [.module]⟩,  -- DOMAIN_DOWN_RECORD
  ⟨0x1206, 0, 0, .u64, .ro, 1, 0, .any, [.module]⟩,  -- STALE_LINES
  ⟨0x1208, 0, 0, .u64, .rw, 4, 0, .own, [.module]⟩,  -- DIR_PROBE_ADDR
  ⟨0x1209, 1, 1, .u64, .ro, 4, 0, .any, [.module]⟩,  -- DIR_PROBE_ENTRY
  ⟨0x1209, 2, 2, .bits32, .ro, 4, 0, .mask 7, [.module]⟩,  -- DIR_PROBE_FLAGS
  ⟨0x1210, 1, 1, .u64, .ro, 1, 0, .any, [.module]⟩,  -- BISNP_INV
  ⟨0x1210, 2, 2, .u64, .ro, 1, 0, .any, [.module]⟩,  -- BISNP_DATA
  ⟨0x1210, 3, 3, .u64, .ro, 1, 0, .any, [.module]⟩,  -- BISNP_CUR
  ⟨0x1210, 4, 4, .u64, .ro, 1, 0, .any, [.module]⟩,  -- BIRSP_I
  ⟨0x1210, 5, 5, .u64, .ro, 1, 0, .any, [.module]⟩,  -- BIRSP_S
  ⟨0x1210, 6, 6, .u64, .ro, 1, 0, .any, [.module]⟩,  -- BIRSP_E
  ⟨0x1210, 7, 7, .u32, .ro, 1, 0, .any, [.module]⟩,  -- BIRSP_PROTO
  ⟨0x1210, 8, 8, .u64, .ro, 1, 0, .any, [.module]⟩,  -- BICONFLICT
  ⟨0x1210, 9, 9, .u64, .ro, 1, 0, .any, [.module]⟩,  -- CROSS_WRITES
  ⟨0x1210, 10, 10, .u64, .ro, 1, 0, .any, [.module]⟩,  -- DIR_EVICTIONS
  ⟨0x1210, 11, 11, .u64, .ro, 1, 0, .any, [.module]⟩,  -- RETRY_WAITS
  ⟨0x1210, 12, 12, .u32, .rw, 2, 0, .span 0 0, [.module]⟩,  -- RETRY_WAIT_MAX
  ⟨0x1210, 13, 13, .u32, .rw, 2, 0, .span 0 0, [.module]⟩,  -- SNOOP_WAIT_MAX
  ⟨0x1210, 14, 14, .u32, .ro, 1, 0, .any, [.module]⟩,  -- DIR_UNCORRECTABLE
  ⟨0x1210, 15, 15, .u32, .ro, 1, 0, .any, [.module]⟩,  -- DOMAIN_DOWNS
  ⟨0x1210, 16, 16, .u64, .ro, 1, 0, .any, [.module]⟩  -- CLEAN_EVICTS
  ]

/-- The object table of chapter 04. -/
def objRows04 : List ObjRow := objRows04_1

/-- Rows of the object table of chapter 05, part 1. -/
def objRows05_1 : List ObjRow := [
  ⟨0x1300, 0, 0, .bool, .rw, 2, 1, .span 0 1, [.module]⟩,  -- HC_ENABLE
  ⟨0x1301, 0, 0, .cmd, .cmd, 2, 0, .span 1 1, [.module]⟩,  -- HC_INVALIDATE
  ⟨0x1302, 0, 0, .cmd, .cmd, 4, 0, .span 1 1, [.module]⟩,  -- HC_ENABLE_FORCE
  ⟨0x1303, 0, 0, .bool, .ro, 1, 0, .span 0 1, [.module]⟩,  -- HC_STALE_RISK
  ⟨0x1304, 1, 16, .bits32, .ro, 1, 0, .mask 65535, [.module]⟩,  -- HC_WAY_DISABLED
  ⟨0x1305, 0, 0, .cmd, .cmd, 4, 0, .span 0 255, [.module]⟩,  -- HC_WAY_REENABLE
  ⟨0x1306, 0, 0, .u16, .ro, 1, 256, .span 0 256, [.module]⟩,  -- HC_WAYS_NOW
  ⟨0x1308, 1, 1, .bool, .rw, 2, 1, .span 0 1, [.module]⟩,  -- PREFETCH_ENABLE
  ⟨0x1308, 2, 2, .u8, .rw, 2, 8, .span 1 16, [.module]⟩,  -- PREFETCH_DEPTH
  ⟨0x1310, 0, 0, .u8, .rw, 2, 0, .span 0 6, [.module]⟩,  -- BERTH_WAYS
  ⟨0x1310, 1, 1, .u8, .ro, 1, 0, .span 0 6, [.module]⟩,  -- BERTH_WAYS_NOW
  ⟨0x1310, 2, 2, .u32, .ro, 1, 0, .span 0 75497472, [.module]⟩,  -- BERTH_SIZE_NOW
  ⟨0x1312, 1, 8, .u32, .rw, 2, 0, .mult 1048576, [.module]⟩,  -- BERTH_RANGE_BASE
  ⟨0x1313, 1, 8, .u32, .rw, 2, 0, .mult 1048576, [.module]⟩,  -- BERTH_RANGE_SIZE
  ⟨0x1314, 1, 8, .u8, .rw, 2, 0, .span 0 4, [.module]⟩,  -- BERTH_RANGE_MODE
  ⟨0x1315, 1, 8, .bool, .rw, 2, 0, .span 0 1, [.module]⟩,  -- BERTH_RANGE_EARLY_CMP
  ⟨0x1316, 1, 8, .bits32, .rw, 2, 0, .mask 65535, [.module]⟩,  -- BERTH_RANGE_PORTS
  ⟨0x1317, 1, 8, .cmd, .cmd, 2, 0, .span 1 1, [.module]⟩,  -- BERTH_RANGE_APPLY
  ⟨0x1318, 0, 0, .cmd, .cmd, 2, 0, .span 1 1, [.module]⟩,  -- BERTH_PROMOTE
  ⟨0x1320, 0, 0, .bool, .rw, 2, 0, .span 0 1, [.module]⟩,  -- MIRROR_ENABLE
  ⟨0x1321, 0, 0, .blob, .rw, 2, 0, .bytes 16 16, [.module]⟩,  -- MIRROR_PEER_ADDR
  ⟨0x1322, 0, 0, .u16, .rw, 2, 4752, .span 1024 65535, [.module]⟩,  -- MIRROR_UDP_PORT
  ⟨0x1323, 0, 0, .blob, .wo, 3, 0, .bytes 32 32, [.module]⟩,  -- MIRROR_PAIR_KEY
  ⟨0x1324, 0, 0, .bits32, .rw, 2, 3, .mask 3, [.module]⟩,  -- MIRROR_NET_PORTS
  ⟨0x1325, 0, 0, .u16, .rw, 2, 5, .span 1 100, [.module]⟩,  -- MIRROR_LOSS_TIME
  ⟨0x1326, 0, 0, .u32, .rw, 2, 4096, .span 64 16384, [.module]⟩,  -- MIRROR_LAG_MAX
  ⟨0x1327, 0, 0, .u8, .rw, 2, 50, .span 10 100, [.module]⟩,  -- MIRROR_RESYNC_RATE
  ⟨0x1328, 0, 0, .cmd, .cmd, 3, 0, .span 1 1, [.module]⟩,  -- MIRROR_ACCEPT_PEER
  ⟨0x1330, 1, 1, .u8, .ro, 1, 0, .span 0 7, [.module]⟩,  -- MIRROR_STATE
  ⟨0x1330, 2, 2, .u32, .ro, 1, 0, .any, [.module]⟩  -- MIRROR_LAG
  ]

/-- Rows of the object table of chapter 05, part 2. -/
def objRows05_2 : List ObjRow := [
  ⟨0x1330, 3, 3, .u32, .ro, 1, 0, .any, [.module]⟩,  -- MIRROR_LAG_AGE
  ⟨0x1330, 4, 4, .u32, .ro, 1, 0, .any, [.module]⟩,  -- PAIR_GENERATION
  ⟨0x1330, 5, 5, .u32, .ro, 1, 0, .span 0 18432, [.module]⟩,  -- RESYNC_REMAINING
  ⟨0x1330, 6, 6, .u8, .ro, 1, 0, .span 0 2, [.module]⟩,  -- MIRROR_PORT_NOW
  ⟨0x1330, 7, 7, .u8, .ro, 1, 0, .span 0 3, [.module]⟩,  -- MIRROR_FAULT
  ⟨0x1330, 8, 8, .bool, .ro, 1, 1, .span 0 1, [.module]⟩,  -- BERTH_INTACT
  ⟨0x1340, 1, 1, .u64, .ro, 1, 0, .any, [.module]⟩,  -- HC_HITS
  ⟨0x1340, 2, 2, .u64, .ro, 1, 0, .any, [.module]⟩,  -- HC_FILLS
  ⟨0x1340, 3, 3, .u64, .ro, 1, 0, .any, [.module]⟩,  -- HC_CORRECTED
  ⟨0x1340, 4, 4, .u32, .ro, 1, 0, .any, [.module]⟩,  -- HC_UNCORRECTABLE
  ⟨0x1340, 5, 5, .u64, .ro, 1, 0, .any, [.module]⟩,  -- PREFETCH_ISSUED
  ⟨0x1340, 6, 6, .u64, .ro, 1, 0, .any, [.module]⟩,  -- PREFETCH_USED
  ⟨0x1340, 7, 7, .u64, .ro, 1, 0, .any, [.module]⟩,  -- PREFETCH_UNUSED
  ⟨0x1340, 8, 8, .u32, .ro, 1, 0, .any, [.module]⟩,  -- WAYS_DISABLED
  ⟨0x1340, 9, 9, .u32, .ro, 1, 0, .any, [.module]⟩,  -- BERTH_POISON
  ⟨0x1340, 10, 10, .u64, .ro, 1, 0, .any, [.module]⟩,  -- BERTH_DENIED
  ⟨0x1340, 11, 11, .u64, .ro, 1, 0, .any, [.module]⟩,  -- MIRROR_RECORDS_TX
  ⟨0x1340, 12, 12, .u64, .ro, 1, 0, .any, [.module]⟩,  -- MIRROR_RETRANSMITS
  ⟨0x1340, 13, 13, .u32, .ro, 1, 0, .any, [.module]⟩,  -- MIRROR_SPLITS
  ⟨0x1340, 14, 14, .u32, .ro, 1, 0, .any, [.module]⟩,  -- MIRROR_AUTH_FAIL
  ⟨0x1340, 15, 15, .u64, .ro, 1, 0, .any, [.module]⟩  -- RESYNC_PAGES
  ]

/-- The object table of chapter 05. -/
def objRows05 : List ObjRow := objRows05_1 ++ objRows05_2

/-- Rows of the object table of chapter 06, part 1. -/
def objRows06_1 : List ObjRow := [
  ⟨0x1400, 1, 1, .u64, .ro, 1, 775480192, .any, [.module]⟩,  -- WHARF_SLOTS
  ⟨0x1400, 2, 2, .u32, .ro, 1, 44739242, .any, [.module]⟩,  -- SLICE_LIVE_LIMIT
  ⟨0x1401, 0, 0, .u64, .rw, 2, 51539607552, .multSpan 1073741824 51539607552 1048576, [.module]⟩,  -- DIRTY_CAP_LIMIT
  ⟨0x1402, 0, 0, .u64, .ro, 1, 51539607552, .span 0 51539607552, [.module]⟩,  -- DIRTY_CAP
  ⟨0x1403, 0, 0, .u64, .ro, 1, 0, .any, [.module]⟩,  -- DIRTY_NOW
  ⟨0x1404, 0, 0, .u16, .ro, 1, 0, .span 0 65535, [.module]⟩,  -- OCCUPANCY
  ⟨0x1405, 0, 0, .u8, .ro, 1, 0, .span 0 4, [.module]⟩,  -- WHARF_LEVEL
  ⟨0x1406, 1, 1, .u32, .ro, 1, 0, .any, [.module]⟩,  -- CAP_ENERGY
  ⟨0x1406, 2, 2, .optime, .ro, 1, 0, .any, [.module]⟩,  -- CAP_UPDATED
  ⟨0x1407, 1, 16, .u32, .ro, 1, 0, .span 0 44739242, [.module]⟩,  -- SLICE_LIVE
  ⟨0x1408, 1, 5, .u32, .ro, 1, 0, .span 0 65536, [.module]⟩,  -- LIGHTERS_QUEUED
  ⟨0x1409, 0, 0, .u16, .rw, 4, 200, .span 50 2000, [.module]⟩,  -- LIGHTER_CLOSE_TIME
  ⟨0x1420, 1, 1, .u64, .ro, 1, 0, .any, [.module]⟩,  -- SLOTS_APPENDED
  ⟨0x1420, 2, 2, .u64, .ro, 1, 0, .any, [.module]⟩,  -- LINES_RESTAGED
  ⟨0x1420, 3, 3, .u64, .ro, 1, 0, .any, [.module]⟩,  -- PAGES_DRAINED
  ⟨0x1420, 4, 4, .u64, .ro, 1, 0, .any, [.module]⟩,  -- MERGE_READS
  ⟨0x1420, 5, 5, .u64, .ro, 1, 0, .any, [.module]⟩,  -- LIGHTERS_DONE
  ⟨0x1420, 6, 6, .u32, .ro, 1, 0, .any, [.module]⟩,  -- QUEUE_REBUILDS
  ⟨0x1420, 7, 7, .u64, .ro, 1, 0, .any, [.module]⟩,  -- FULL_TIME
  ⟨0x1420, 8, 8, .u64, .ro, 1, 0, .any, [.module]⟩,  -- BOUND_SUSPENDED
  ⟨0x1420, 9, 9, .u32, .ro, 1, 0, .any, [.module]⟩,  -- SLOW_ASSERTS
  ⟨0x1420, 10, 10, .u32, .ro, 1, 0, .any, [.module]⟩,  -- STOP_ASSERTS
  ⟨0x1420, 11, 11, .u32, .ro, 1, 0, .any, [.module]⟩,  -- SLICE_FULL
  ⟨0x1420, 12, 12, .u64, .ro, 1, 0, .any, [.module]⟩,  -- HEAD_RELOCATIONS
  ⟨0x1420, 13, 13, .u32, .ro, 1, 0, .any, [.module]⟩,  -- FILTER_REBUILDS
  ⟨0x1420, 14, 14, .u64, .ro, 1, 0, .any, [.module]⟩,  -- FILTER_FALSE_HITS
  ⟨0x1420, 15, 15, .u64, .ro, 1, 0, .any, [.module]⟩,  -- STALE_MARKERS
  ⟨0x1420, 16, 16, .u32, .ro, 1, 0, .any, [.module]⟩  -- PINNED_PAGES_TOTAL
  ]

/-- The object table of chapter 06. -/
def objRows06 : List ObjRow := objRows06_1

/-- Rows of the object table of chapter 07, part 1. -/
def objRows07_1 : List ObjRow := [
  ⟨0x1500, 1, 1, .u64, .ro, 1, 26843545600, .any, [.module]⟩,  -- MAP_ENTRIES
  ⟨0x1500, 2, 2, .u16, .ro, 1, 2185, .any, [.module]⟩,  -- CKPT_SEGMENTS
  ⟨0x1500, 3, 3, .u32, .ro, 1, 134217728, .any, [.module]⟩,  -- JOURNAL_RECORDS
  ⟨0x1500, 4, 4, .u32, .ro, 1, 0, .span 0 134217728, [.module]⟩,  -- JOURNAL_TAIL
  ⟨0x1501, 0, 0, .u8, .rw, 2, 0, .span 0 1, [.module]⟩,  -- REC_MODE
  ⟨0x1502, 1, 1, .u16, .rw, 2, 600, .span 300 2000, [.module]⟩,  -- REC_LOW_MARK
  ⟨0x1502, 2, 2, .u16, .rw, 2, 200, .span 100 500, [.module]⟩,  -- REC_FG_MARK
  ⟨0x1502, 3, 3, .u16, .rw, 2, 100, .span 1 10000, [.module]⟩,  -- REC_IDLE_TIME
  ⟨0x1503, 1, 1, .u16, .rw, 2, 250, .span 0 1000, [.module]⟩,  -- WEAR_WEIGHT
  ⟨0x1503, 2, 2, .u16, .rw, 2, 500, .span 0 1000, [.module]⟩,  -- DRIFT_WEIGHT
  ⟨0x1503, 3, 3, .u32, .rw, 2, 20000, .span 1000 1000000, [.module]⟩,  -- WEAR_GAP
  ⟨0x1504, 0, 0, .u32, .rw, 2, 3600, .span 60 604800, [.module]⟩,  -- STREAM_HOT_AGE
  ⟨0x1505, 1, 64, .u8, .rw, 2, 0, .span 0 2, [.module]⟩,  -- REGION_STREAM
  ⟨0x1506, 0, 0, .u8, .rw, 2, 10, .span 1 100, [.module]⟩,  -- REBUILD_RATE
  ⟨0x1507, 1, 1, .u32, .ro, 1, 0, .any, [.module]⟩,  -- MAP_REPAIRS
  ⟨0x1507, 2, 2, .u32, .ro, 1, 0, .any, [.module]⟩,  -- JOURNAL_FULL_WAITS
  ⟨0x1507, 3, 3, .u64, .ro, 1, 0, .any, [.module]⟩,  -- CKPT_WRITTEN
  ⟨0x1510, 1, 1, .u32, .ro, 1, 0, .span 0 1027584, [.media, .parityGroup]⟩,  -- SETS_FREE
  ⟨0x1510, 2, 2, .u16, .ro, 1, 0, .span 0 10000, [.media, .parityGroup]⟩,  -- SETS_FREE_PCT
  ⟨0x1510, 3, 3, .u32, .ro, 1, 0, .any, [.media, .parityGroup]⟩,  -- SETS_RETIRED
  ⟨0x1510, 4, 4, .u32, .ro, 1, 335872, .any, [.media, .parityGroup]⟩,  -- SPARES_LEFT
  ⟨0x1510, 5, 5, .u8, .ro, 1, 0, .span 0 4, [.media, .parityGroup]⟩,  -- REC_STATE
  ⟨0x1510, 6, 6, .u32, .ro, 1, 0, .any, [.media, .parityGroup]⟩,  -- HOLDS_HOST
  ⟨0x1511, 1, 1, .u8, .ro, 1, 0, .span 0 2, [.media, .parityGroup]⟩,  -- REBUILD_STATE
  ⟨0x1511, 2, 2, .u32, .ro, 1, 0, .any, [.media, .parityGroup]⟩,  -- REBUILD_LEFT
  ⟨0x1511, 3, 3, .bits32, .ro, 1, 0, .mask 65535, [.media, .parityGroup]⟩,  -- DEAD_MEMBERS
  ⟨0x1512, 1, 1, .u64, .ro, 1, 0, .any, [.media, .parityGroup]⟩,  -- PAGES_WRITTEN
  ⟨0x1512, 2, 2, .u64, .ro, 1, 0, .any, [.media, .parityGroup]⟩,  -- PAGES_MOVED
  ⟨0x1512, 3, 3, .u64, .ro, 1, 0, .any, [.media, .parityGroup]⟩,  -- PAGES_REENGRAVED
  ⟨0x1512, 4, 4, .u64, .ro, 1, 0, .any, [.media, .parityGroup]⟩  -- PAGES_REBUILT
  ]

/-- Rows of the object table of chapter 07, part 2. -/
def objRows07_2 : List ObjRow := [
  ⟨0x1512, 5, 5, .u64, .ro, 1, 0, .any, [.media, .parityGroup]⟩,  -- SETS_RESET
  ⟨0x1512, 6, 6, .u16, .ro, 1, 100, .any, [.media, .parityGroup]⟩,  -- WRITE_AMP
  ⟨0x1512, 7, 7, .u32, .ro, 1, 0, .any, [.media, .parityGroup]⟩,  -- PROGRAM_FAILS
  ⟨0x1512, 8, 8, .u32, .ro, 1, 0, .any, [.media, .parityGroup]⟩,  -- RESET_FAILS
  ⟨0x1512, 9, 9, .u64, .ro, 1, 0, .any, [.media, .parityGroup]⟩,  -- MOVES_ABANDONED
  ⟨0x1512, 10, 10, .u64, .ro, 1, 0, .any, [.media, .parityGroup]⟩,  -- DEGRADED_READS
  ⟨0x1512, 11, 11, .u64, .ro, 1, 0, .any, [.media, .parityGroup]⟩,  -- PAD_PLATES
  ⟨0x1512, 12, 12, .u32, .ro, 1, 0, .any, [.media, .parityGroup]⟩,  -- UNPROTECTED
  ⟨0x1512, 13, 13, .u64, .ro, 1, 0, .any, [.media, .parityGroup]⟩  -- PAGES_LOST
  ]

/-- The object table of chapter 07. -/
def objRows07 : List ObjRow := objRows07_1 ++ objRows07_2

/-- Rows of the object table of chapter 08, part 1. -/
def objRows08_1 : List ObjRow := [
  ⟨0x1600, 1, 4, .u32, .ro, 1, 0, .any, [.module]⟩,  -- LAT_BOUND
  ⟨0x1601, 1, 4, .u64, .ro, 1, 0, .any, [.module]⟩,  -- LAT_COUNT
  ⟨0x1602, 1, 4, .u64, .ro, 1, 0, .any, [.module]⟩,  -- LAT_OVER_BOUND
  ⟨0x1603, 1, 4, .u32, .rw, 2, 0, .span 0 0, [.module]⟩,  -- LAT_MAX
  ⟨0x1604, 1, 4, .u32, .ro, 1, 0, .any, [.module]⟩,  -- LAT_P6
  ⟨0x1605, 1, 10, .u64, .ro, 1, 0, .any, [.module]⟩,  -- LAT_EXCLUDED
  ⟨0x1610, 0, 0, .u16, .rw, 4, 1000, .span 600 1500, [.module]⟩,  -- SUSPEND_FAST
  ⟨0x1611, 0, 0, .u16, .ro, 1, 256, .any, [.module]⟩,  -- READAROUND_BUDGET
  ⟨0x1612, 1, 1, .u16, .rw, 4, 8, .span 1 64, [.module]⟩,  -- FINE_ENTER
  ⟨0x1612, 2, 2, .u16, .rw, 4, 60, .span 10 3600, [.module]⟩,  -- FINE_HOLD
  ⟨0x1620, 0, 0, .u16, .rw, 2, 125, .span 110 200, [.module]⟩,  -- REENGRAVE_OVERDUE
  ⟨0x1621, 0, 0, .u8, .rw, 2, 4, .span 1 64, [.module]⟩,  -- REENGRAVE_AFTER_SOFT
  ⟨0x1622, 0, 0, .u32, .ro, 1, 0, .any, [.module]⟩,  -- SETS_DUE
  ⟨0x1623, 0, 0, .u32, .ro, 1, 0, .any, [.module]⟩,  -- SETS_OVERDUE
  ⟨0x1630, 1, 1, .u64, .ro, 1, 0, .any, [.media, .parityGroup, .stack]⟩,  -- READAROUNDS
  ⟨0x1630, 2, 2, .u64, .ro, 1, 0, .any, [.media, .parityGroup, .stack]⟩,  -- BUDGET_REFUSALS
  ⟨0x1630, 3, 3, .u64, .ro, 1, 0, .any, [.media, .parityGroup, .stack]⟩,  -- SUSPENDS
  ⟨0x1630, 4, 4, .u64, .ro, 1, 0, .any, [.media, .parityGroup, .stack]⟩,  -- LONG_WAITS
  ⟨0x1630, 5, 5, .bool, .ro, 1, 0, .span 0 1, [.media, .parityGroup, .stack]⟩,  -- FINE_MODE
  ⟨0x1630, 6, 6, .u64, .ro, 1, 0, .any, [.media, .parityGroup, .stack]⟩,  -- MEMBER_READS
  ⟨0x1630, 7, 7, .u32, .ro, 1, 0, .any, [.media, .parityGroup, .stack]⟩,  -- OPS_OVERDUE
  ⟨0x1640, 0, 0, .u64, .ro, 1, 0, .any, [.die]⟩,  -- EQ_CLOCK
  ⟨0x1641, 1, 4, .u64, .ro, 1, 0, .any, [.media, .parityGroup, .stack, .die]⟩,  -- RUNG_COUNT
  ⟨0x1642, 1, 9, .u64, .ro, 1, 0, .any, [.media, .parityGroup, .stack, .die]⟩,  -- BIN_READS
  ⟨0x1643, 0, 0, .u32, .ro, 1, 1000, .any, [.die]⟩  -- AF_NOW
  ]

/-- The object table of chapter 08. -/
def objRows08 : List ObjRow := objRows08_1

/-- Rows of the object table of chapter 09, part 1. -/
def objRows09_1 : List ObjRow := [
  ⟨0x1700, 0, 0, .blob, .wo, 4, 0, .bytesOneOf [65600, 32832], [.module]⟩,  -- PLAN_STAGE
  ⟨0x1701, 0, 0, .cmd, .cmd, 4, 0, .span 1 1, [.module]⟩,  -- PLAN_APPLY
  ⟨0x1702, 0, 0, .cmd, .cmd, 4, 0, .span 1 1, [.module]⟩,  -- PLAN_ROLLBACK
  ⟨0x1703, 1, 1, .u32, .ro, 1, 0, .any, [.module]⟩,  -- PLAN_ACTIVE_ID
  ⟨0x1703, 2, 2, .u32, .ro, 1, 0, .any, [.module]⟩,  -- PLAN_PREVIOUS_ID
  ⟨0x1703, 3, 3, .optime, .ro, 1, 0, .any, [.module]⟩,  -- PLAN_APPLIED_AT
  ⟨0x1704, 0, 0, .blob, .ro, 1, 0, .bytes 8 8, [.module]⟩,  -- PLAN_CHECK_RESULT
  ⟨0x1705, 0, 0, .u8, .rw, 4, 6, .span 1 24, [.module]⟩,  -- PROOF_INTERVAL
  ⟨0x1706, 0, 0, .cmd, .cmd, 2, 0, .span 1 1, [.module, .media, .parityGroup, .stack, .die]⟩,  -- PROOF_NOW
  ⟨0x1707, 0, 0, .blob, .ro, 1, 0, .bytes 0 1024, [.module]⟩,  -- AGE_EXPORT
  ⟨0x1708, 0, 0, .u64, .rw, 1, 0, .any, [.module]⟩,  -- AGE_CURSOR
  ⟨0x1709, 1, 1, .u32, .ro, 1, 0, .any, [.module]⟩,  -- MEAS_SKIPPED
  ⟨0x1709, 2, 2, .u64, .ro, 1, 0, .any, [.module]⟩,  -- MEAS_LOST
  ⟨0x1709, 3, 3, .u32, .ro, 1, 0, .any, [.module]⟩,  -- PROOF_DROPPED
  ⟨0x1710, 0, 0, .u32, .ro, 1, 100000000, .any, [.module]⟩,  -- ENDURANCE_LIMIT
  ⟨0x1711, 1, 1, .u16, .ro, 1, 0, .span 0 65535, [.module]⟩,  -- MODULE_LIFE_USED
  ⟨0x1711, 2, 2, .u32, .ro, 1, 2556, .any, [.module]⟩,  -- MODULE_REMAINING_DAYS
  ⟨0x1711, 3, 3, .u8, .ro, 1, 1, .span 1 5, [.module]⟩,  -- LIFE_LIMITER
  ⟨0x1712, 1, 1, .u64, .ro, 1, 220903200, .any, [.module]⟩,  -- RATED_LIFE
  ⟨0x1712, 2, 2, .u32, .ro, 1, 0, .any, [.module]⟩,  -- HOLDUP_BOL
  ⟨0x1720, 1, 9, .u8, .ro, 1, 255, .spanOr 0 8 255, [.die, .stack, .parityGroup, .media]⟩,  -- MARGIN_NOW
  ⟨0x1721, 0, 0, .u32, .ro, 1, 0, .any, [.die, .stack, .parityGroup, .media]⟩,  -- HORIZON_EFFECTIVE
  ⟨0x1722, 0, 0, .u8, .ro, 1, 0, .span 0 255, [.die, .stack, .parityGroup, .media]⟩,  -- FALLBACK_HALVINGS
  ⟨0x1723, 1, 1, .u32, .ro, 1, 0, .any, [.die, .stack, .parityGroup, .media]⟩,  -- ERASE_MEAN
  ⟨0x1723, 2, 2, .u32, .ro, 1, 0, .any, [.die, .stack, .parityGroup, .media]⟩,  -- ERASE_MAX
  ⟨0x1724, 0, 0, .u16, .ro, 1, 0, .span 0 656, [.die, .stack, .parityGroup, .media]⟩,  -- SPARES_USED
  ⟨0x1725, 0, 0, .u16, .ro, 1, 0, .any, [.die, .stack, .parityGroup, .media]⟩,  -- VERIFY_LOOPS_MEAN
  ⟨0x1726, 0, 0, .u16, .ro, 1, 0, .span 0 65535, [.die, .stack, .parityGroup, .media]⟩,  -- LIFE_USED
  ⟨0x1727, 0, 0, .u32, .ro, 1, 4294967295, .any, [.die, .stack, .parityGroup, .media]⟩  -- REMAINING_DAYS
  ]

/-- The object table of chapter 09. -/
def objRows09 : List ObjRow := objRows09_1

/-- Rows of the object table of chapter 10, part 1. -/
def objRows10_1 : List ObjRow := [
  ⟨0x1800, 1, 1, .u64, .ro, 1, 0, .any, [.module]⟩,  -- SRAM_CORRECTED
  ⟨0x1800, 2, 2, .u32, .ro, 1, 0, .any, [.module]⟩,  -- SRAM_UNCORRECTABLE
  ⟨0x1800, 3, 3, .u64, .ro, 1, 0, .any, [.module]⟩,  -- HBM_CORRECTED
  ⟨0x1800, 4, 4, .u32, .ro, 1, 0, .any, [.module]⟩,  -- HBM_UNCORRECTABLE
  ⟨0x1800, 5, 5, .u64, .ro, 1, 0, .any, [.module]⟩,  -- MEDIA_CORRECTED
  ⟨0x1800, 6, 6, .u64, .ro, 1, 0, .any, [.module]⟩,  -- MEDIA_UNCORRECTABLE
  ⟨0x1800, 7, 7, .u32, .ro, 1, 0, .any, [.module]⟩,  -- JOURNAL_LOST
  ⟨0x1803, 1, 16, .u8, .ro, 1, 0, .span 0 16, [.hbmStack]⟩,  -- REMAP_HBM_USED
  ⟨0x1804, 1, 16, .u8, .ro, 1, 0, .span 0 8, [.controller]⟩,  -- REMAP_SRAM_USED
  ⟨0x1808, 0, 0, .u8, .rw, 2, 3, .span 1 3, [.module]⟩,  -- SCRUB_TARGET
  ⟨0x1809, 0, 0, .u64, .rw, 2, 0, .any, [.module]⟩,  -- SCRUB_BASE
  ⟨0x180A, 0, 0, .u64, .rw, 2, 0, .any, [.module]⟩,  -- SCRUB_SIZE
  ⟨0x180B, 0, 0, .cmd, .cmd, 2, 0, .span 1 1, [.module]⟩,  -- SCRUB_START
  ⟨0x180C, 0, 0, .cmd, .cmd, 2, 0, .span 1 1, [.module]⟩,  -- SCRUB_ABORT
  ⟨0x180D, 0, 0, .u8, .ro, 1, 0, .span 0 3, [.module]⟩,  -- SCRUB_STATE
  ⟨0x180E, 0, 0, .blob, .ro, 1, 0, .bytes 56 56, [.module]⟩,  -- SCRUB_SUMMARY
  ⟨0x180F, 0, 0, .u8, .rw, 2, 5, .span 1 50, [.module]⟩,  -- SCRUB_RATE
  ⟨0x1810, 0, 0, .blob, .wo, 3, 0, .bytes 32 32, [.module]⟩,  -- CUSTODIAN_KEY
  ⟨0x1811, 0, 0, .u32, .ro, 1, 0, .any, [.module]⟩,  -- CUSTODIAN_CHECK
  ⟨0x1812, 1, 64, .u8, .ro, 1, 0, .span 0 2, [.module]⟩,  -- KEY_STATE
  ⟨0x1813, 1, 64, .cmd, .cmd, 3, 0, .span 1 1, [.module]⟩,  -- KEY_ROTATE
  ⟨0x1814, 1, 64, .cmd, .cmd, 3, 0, .span 1 1, [.module]⟩,  -- KEY_DESTROY
  ⟨0x1815, 1, 64, .u64, .ro, 1, 0, .any, [.module]⟩,  -- KEY_START_SEQ
  ⟨0x1816, 1, 64, .u64, .ro, 1, 0, .any, [.module]⟩,  -- KEY_ERASE_SEQ
  ⟨0x1817, 1, 64, .blob, .ro, 3, 0, .bytes 40 40, [.module]⟩,  -- KEY_WRAPPED
  ⟨0x1818, 0, 0, .u8, .rw, 2, 10, .span 1 50, [.module]⟩,  -- REKEY_RATE
  ⟨0x1819, 1, 64, .u64, .ro, 1, 0, .any, [.module]⟩,  -- REKEY_LEFT
  ⟨0x1820, 0, 0, .u64, .ro, 1, 0, .any, [.module]⟩,  -- WSEQ_NOW
  ⟨0x1821, 0, 0, .bool, .rw, 2, 1, .span 0 1, [.module]⟩,  -- SPEC_DELIVERY
  ⟨0x1830, 0, 0, .cmd, .cmd, 3, 0, .span 1 2, [.module]⟩  -- INTEGRITY_RECOVER
  ]

/-- Rows of the object table of chapter 10, part 2. -/
def objRows10_2 : List ObjRow := [
  ⟨0x1831, 0, 0, .blob, .ro, 1, 0, .bytes 48 48, [.module]⟩,  -- INTEGRITY_RECORD
  ⟨0x1832, 0, 0, .u32, .ro, 1, 0, .any, [.module]⟩,  -- INTEGRITY_HALTS
  ⟨0x1840, 1, 64, .u64, .rw, 3, 0, .mult 4096, [.module]⟩,  -- PROT_BASE
  ⟨0x1841, 1, 64, .u64, .rw, 3, 0, .mult 4096, [.module]⟩,  -- PROT_SIZE
  ⟨0x1842, 1, 64, .cmd, .cmd, 3, 0, .span 1 1, [.module]⟩,  -- PROT_APPLY
  ⟨0x1843, 0, 0, .u32, .ro, 1, 0, .any, [.module]⟩,  -- PROT_DENIED
  ⟨0x1844, 0, 0, .blob, .ro, 3, 0, .bytes 16 16, [.module]⟩,  -- PROT_LAST_DENIED
  ⟨0x1850, 0, 0, .u64, .ro, 1, 0, .any, [.module]⟩  -- POISON_STAGED
  ]

/-- The object table of chapter 10. -/
def objRows10 : List ObjRow := objRows10_1 ++ objRows10_2

/-- Rows of the object table of chapter 11, part 1. -/
def objRows11_1 : List ObjRow := [
  ⟨0x1900, 1, 1, .u32, .ro, 1, 0, .any, [.power]⟩,  -- VIN_NOW
  ⟨0x1900, 2, 2, .u32, .ro, 1, 0, .any, [.power]⟩,  -- VIN_AVG
  ⟨0x1900, 3, 3, .u32, .ro, 1, 0, .any, [.power]⟩,  -- IIN_NOW
  ⟨0x1900, 4, 4, .u32, .ro, 1, 0, .any, [.power]⟩,  -- PIN_NOW
  ⟨0x1900, 5, 5, .u8, .ro, 1, 2, .span 0 2, [.power]⟩,  -- PHASES_OK
  ⟨0x1901, 1, 1, .u32, .ro, 1, 700000, .span 300000 700000, [.power]⟩,  -- POWER_CAP_NOW
  ⟨0x1901, 2, 2, .u8, .ro, 1, 0, .span 0 16, [.power]⟩,  -- POWER_STEP
  ⟨0x1902, 1, 1, .u8, .rw, 4, 85, .span 75 95, [.power]⟩,  -- VIN_FAIL_PCT
  ⟨0x1902, 2, 2, .u32, .ro, 1, 0, .any, [.power]⟩,  -- VIN_FAIL_NOW
  ⟨0x1903, 1, 1, .u32, .ro, 1, 0, .any, [.power]⟩,  -- HOLDUP_C
  ⟨0x1903, 2, 2, .u32, .ro, 1, 0, .any, [.power]⟩,  -- HOLDUP_ESR
  ⟨0x1903, 3, 3, .u32, .ro, 1, 0, .any, [.power]⟩,  -- V_HOLD_NOW
  ⟨0x1903, 4, 4, .i16, .ro, 1, 0, .any, [.power]⟩,  -- BANK_TEMP
  ⟨0x1903, 5, 5, .optime, .ro, 1, 0, .any, [.power]⟩,  -- HOLDUP_MEAS_AT
  ⟨0x1903, 6, 6, .u32, .ro, 1, 0, .any, [.power]⟩,  -- HOLDUP_DEFERRED
  ⟨0x1904, 0, 0, .u32, .ro, 1, 0, .any, [.power]⟩,  -- HOLDUP_ENERGY
  ⟨0x1905, 0, 0, .cmd, .cmd, 2, 0, .span 1 1, [.power]⟩,  -- HOLDUP_MEASURE
  ⟨0x1906, 0, 0, .u32, .rw, 2, 86400, .span 3600 604800, [.power]⟩,  -- HOLDUP_INTERVAL
  ⟨0x1908, 1, 4, .bool, .rw, 2, 1, .span 0 1, [.power]⟩,  -- BANK_ENABLE
  ⟨0x1909, 1, 4, .u8, .ro, 1, 0, .span 0 4, [.power]⟩,  -- BANK_STATE
  ⟨0x1910, 1, 1, .u32, .ro, 1, 0, .any, [.rail]⟩,  -- RAIL_NOMINAL
  ⟨0x1910, 2, 2, .u32, .ro, 1, 0, .any, [.rail]⟩,  -- RAIL_VOUT
  ⟨0x1910, 3, 3, .u32, .ro, 1, 0, .any, [.rail]⟩,  -- RAIL_IOUT
  ⟨0x1911, 0, 0, .u8, .rw, 2, 0, .own, [.rail]⟩,  -- RAIL_REACTION
  ⟨0x1912, 1, 1, .u32, .ro, 1, 0, .any, [.power, .rail]⟩,  -- RAIL_FAULTS
  ⟨0x1912, 2, 2, .u32, .ro, 1, 0, .any, [.power, .rail]⟩,  -- RAIL_RETRIES
  ⟨0x1912, 3, 3, .u64, .ro, 1, 0, .any, [.power, .rail]⟩,  -- PG_GLITCHES
  ⟨0x1912, 4, 4, .u8, .ro, 1, 0, .any, [.power, .rail]⟩,  -- PHASES_LOST
  ⟨0x1912, 5, 5, .u32, .ro, 1, 0, .any, [.power, .rail]⟩,  -- FALL_TIMEOUTS
  ⟨0x1920, 1, 1, .u32, .ro, 1, 0, .any, [.power]⟩  -- FLUSH_COUNT
  ]

/-- Rows of the object table of chapter 11, part 2. -/
def objRows11_2 : List ObjRow := [
  ⟨0x1920, 2, 2, .u32, .ro, 1, 0, .any, [.power]⟩,  -- DIRTY_SHUTDOWNS
  ⟨0x1920, 3, 3, .u64, .ro, 1, 0, .any, [.power]⟩,  -- VIN_DIPS
  ⟨0x1920, 4, 4, .u64, .ro, 1, 0, .any, [.power]⟩,  -- UNAVAILABLE_READS
  ⟨0x1920, 5, 5, .u32, .ro, 1, 0, .any, [.power]⟩,  -- OVERVOLTAGE_EVENTS
  ⟨0x1920, 6, 6, .u32, .ro, 1, 0, .any, [.power]⟩,  -- PMBUS_ERRORS
  ⟨0x1921, 0, 0, .blob, .ro, 1, 0, .bytes 32 32, [.power]⟩,  -- LAST_FLUSH
  ⟨0x1922, 1, 2, .u8, .ro, 1, 0, .span 0 2, [.power]⟩,  -- FLUSH_BUFFER_STATE
  ⟨0x1922, 3, 3, .u32, .ro, 1, 0, .any, [.power]⟩  -- DUMP_SEQ_LAST
  ]

/-- The object table of chapter 11. -/
def objRows11 : List ObjRow := objRows11_1 ++ objRows11_2

/-- Rows of the object table of chapter 12, part 1. -/
def objRows12_1 : List ObjRow := [
  ⟨0x1A00, 1, 1, .u8, .ro, 1, 0, .span 0 1, [.module]⟩,  -- CLOCK_SOURCE
  ⟨0x1A00, 2, 2, .u32, .ro, 1, 0, .any, [.module]⟩,  -- REF_FAULTS
  ⟨0x1A01, 0, 0, .u16, .ro, 1, 0, .span 0 268, [.module]⟩,  -- CLK_DOMAINS_ON
  ⟨0x1A02, 0, 0, .cmd, .cmd, 2, 0, .span 1 1, [.module]⟩,  -- WARM_RESET
  ⟨0x1A03, 1, 1, .u8, .ro, 1, 1, .span 1 7, [.module]⟩,  -- RESET_LAST
  ⟨0x1A03, 2, 2, .optime, .ro, 1, 0, .any, [.module]⟩,  -- RESET_AT
  ⟨0x1A04, 1, 7, .u32, .ro, 1, 0, .any, [.module]⟩,  -- RESET_COUNT
  ⟨0x1A05, 0, 0, .u16, .rw, 4, 2000, .span 500 10000, [.module]⟩,  -- WATCHDOG_TIMEOUT
  ⟨0x1A06, 0, 0, .cmd, .cmd, 2, 0, .span 1 6, [.module]⟩,  -- BLOCK_RESET
  ⟨0x1A07, 1, 6, .u8, .ro, 1, 0, .span 0 2, [.module]⟩,  -- BLOCK_STATE
  ⟨0x1A10, 0, 0, .cmd, .cmd, 2, 0, .oneOf [0, 3, 4], [.module]⟩,  -- PSTATE_REQUEST
  ⟨0x1A11, 0, 0, .u8, .ro, 1, 0, .span 0 4, [.module]⟩,  -- PSTATE_NOW
  ⟨0x1A12, 0, 0, .u8, .rw, 2, 2, .span 0 2, [.module]⟩,  -- PSTATE_AUTO_MAX
  ⟨0x1A13, 1, 1, .u32, .rw, 2, 20, .span 5 1000000, [.module]⟩,  -- P1_IDLE
  ⟨0x1A13, 2, 2, .u32, .rw, 2, 5, .span 1 60000, [.module]⟩,  -- P2_IDLE
  ⟨0x1A14, 0, 0, .u16, .rw, 2, 30, .span 1 600, [.module]⟩,  -- PSTATE_PREP_MAX
  ⟨0x1A15, 0, 0, .u32, .rw, 2, 0, .span 0 31536000, [.module]⟩,  -- PSTATE_WAKE_TIMER
  ⟨0x1A16, 1, 5, .u64, .ro, 1, 0, .any, [.module]⟩,  -- RESIDENCY
  ⟨0x1A17, 1, 8, .u32, .ro, 1, 0, .any, [.module]⟩,  -- REFUSALS
  ⟨0x1A18, 1, 1, .u8, .ro, 1, 0, .span 0 8, [.module]⟩,  -- LAST_REFUSER
  ⟨0x1A18, 2, 2, .u8, .ro, 1, 0, .span 1 4, [.module]⟩,  -- LAST_REFUSED_STATE
  ⟨0x1A19, 0, 0, .u8, .ro, 1, 0, .span 0 3, [.module]⟩,  -- ENTRY_STATE
  ⟨0x1A20, 0, 0, .cmd, .cmd, 2, 0, .span 1 1, [.module]⟩,  -- PAD_HOLD_RELEASE
  ⟨0x1A21, 1, 1, .bool, .ro, 1, 0, .span 0 1, [.module]⟩,  -- PAD_HOLD
  ⟨0x1A21, 2, 2, .bool, .rw, 2, 1, .span 0 1, [.module]⟩,  -- PAD_HOLD_AUTO
  ⟨0x1A22, 0, 0, .cmd, .cmd, 4, 0, .span 1 1, [.module]⟩,  -- RETENTION_FREEZE
  ⟨0x1A23, 0, 0, .cmd, .cmd, 4, 0, .span 1 1, [.module]⟩,  -- RETENTION_RESUME
  ⟨0x1A24, 0, 0, .bool, .ro, 1, 0, .span 0 1, [.module]⟩,  -- FROZEN
  ⟨0x1A30, 1, 7, .u16, .ro, 1, 0, .any, [.module]⟩,  -- START_LAST_MS
  ⟨0x1A31, 1, 6, .u16, .ro, 1, 0, .any, [.module]⟩  -- WAKE_LAST_MS
  ]

/-- The object table of chapter 12. -/
def objRows12 : List ObjRow := objRows12_1

/-- Rows of the object table of chapter 13, part 1. -/
def objRows13_1 : List ObjRow := [
  ⟨0x1B00, 1, 1, .i16, .ro, 1, 0, .any, [.controller, .stack, .hbmStack, .rail, .module, .media, .parityGroup, .power, .hbm]⟩,  -- THERM_WARN
  ⟨0x1B00, 2, 2, .i16, .ro, 1, 0, .any, [.controller, .stack, .hbmStack, .rail, .module, .media, .parityGroup, .power, .hbm]⟩,  -- THERM_STEP1
  ⟨0x1B00, 3, 3, .u8, .ro, 1, 0, .span 0 8, [.controller, .stack, .hbmStack, .rail, .module, .media, .parityGroup, .power, .hbm]⟩,  -- THERM_STEPS
  ⟨0x1B00, 4, 4, .i16, .ro, 1, 0, .any, [.controller, .stack, .hbmStack, .rail, .module, .media, .parityGroup, .power, .hbm]⟩,  -- THERM_CRIT
  ⟨0x1B01, 0, 0, .u8, .ro, 1, 0, .span 0 8, [.controller, .stack, .hbmStack, .rail, .module, .media, .parityGroup, .power, .hbm]⟩,  -- THERM_STEP
  ⟨0x1B02, 0, 0, .u8, .ro, 1, 0, .span 0 16, [.controller, .stack, .hbmStack, .rail, .module, .media, .parityGroup, .power, .hbm]⟩,  -- STEP_IN_FORCE
  ⟨0x1B03, 0, 0, .i16, .ro, 1, 0, .any, [.controller, .stack, .hbmStack, .rail, .module, .media, .parityGroup, .power, .hbm]⟩,  -- RISE_MAX
  ⟨0x1B04, 1, 64, .i16, .ro, 1, 0, .any, [.controller, .stack, .hbmStack, .rail, .module, .media, .parityGroup, .power, .hbm]⟩,  -- SENSOR_TEMP
  ⟨0x1B05, 1, 2, .bits32, .ro, 1, 0, .any, [.controller, .stack, .hbmStack, .rail]⟩,  -- SENSOR_STATE
  ⟨0x1B06, 0, 0, .cmd, .cmd, 4, 0, .span 1 1, [.module]⟩,  -- SENSOR_RETEST
  ⟨0x1B10, 0, 0, .u16, .rw, 2, 20, .span 1 500, [.module]⟩,  -- THERM_GRACE
  ⟨0x1B11, 0, 0, .u8, .ro, 1, 0, .oneOf [0, 2, 3], [.module]⟩,  -- THERM_REQUEST
  ⟨0x1B12, 1, 1, .bool, .rw, 2, 1, .span 0 1, [.hostPort]⟩,  -- THERM_ENFORCE
  ⟨0x1B12, 2, 2, .u8, .ro, 1, 0, .span 0 2, [.hostPort]⟩,  -- THERM_ENFORCED
  ⟨0x1B20, 1, 1, .i16, .ro, 1, 0, .any, [.module]⟩,  -- COOLANT_IN
  ⟨0x1B20, 2, 2, .i16, .ro, 1, 0, .any, [.module]⟩,  -- COOLANT_OUT
  ⟨0x1B30, 0, 0, .bool, .ro, 1, 0, .span 0 1, [.module]⟩,  -- THERMAL_LATCH
  ⟨0x1B31, 0, 0, .blob, .ro, 1, 0, .bytes 16 16, [.module]⟩,  -- LAST_CRITICAL
  ⟨0x1B40, 1, 1, .u32, .ro, 1, 0, .any, [.module]⟩,  -- WARN_EPISODES
  ⟨0x1B40, 2, 2, .u64, .ro, 1, 0, .any, [.module]⟩,  -- STEP_RISES
  ⟨0x1B40, 3, 3, .u32, .ro, 1, 0, .any, [.module]⟩,  -- RATE_BOOSTS
  ⟨0x1B40, 4, 4, .u32, .ro, 1, 0, .any, [.module]⟩,  -- ENFORCE_EPISODES
  ⟨0x1B40, 5, 5, .u32, .ro, 1, 0, .any, [.module]⟩,  -- CRITICAL_SHUTDOWNS
  ⟨0x1B40, 6, 6, .u64, .ro, 1, 0, .any, [.module]⟩  -- THROTTLE_TIME
  ]

/-- The object table of chapter 13. -/
def objRows13 : List ObjRow := objRows13_1

/-- Rows of the object table of chapter 15, part 1. -/
def objRows15OD5_1 : List ObjRow := [
  ⟨0x0000, 0, 0, .u8, .ro, 1, 0, .span 1 15, [.module, .controller, .harbourmaster, .power, .rail, .media, .parityGroup, .stack, .die, .hostPorts, .hostPort, .network, .netPort, .hbm, .hbmStack]⟩,  -- UNIT_TYPE
  ⟨0x0001, 0, 0, .text, .ro, 1, 0, .bytes 1 32, [.module, .controller, .harbourmaster, .power, .rail, .media, .parityGroup, .stack, .die, .hostPorts, .hostPort, .network, .netPort, .hbm, .hbmStack]⟩,  -- UNIT_NAME
  ⟨0x0002, 0, 0, .u8, .ro, 1, 0, .span 0 7, [.module, .controller, .harbourmaster, .power, .rail, .media, .parityGroup, .stack, .die, .hostPorts, .hostPort, .network, .netPort, .hbm, .hbmStack]⟩,  -- UNIT_STATE
  ⟨0x0003, 0, 0, .u8, .ro, 1, 0, .span 0 32, [.module, .controller, .harbourmaster, .power, .rail, .media, .parityGroup, .stack, .die, .hostPorts, .hostPort, .network, .netPort, .hbm, .hbmStack]⟩,  -- CHILD_COUNT
  ⟨0x0004, 0, 0, .text, .ro, 1, 0, .bytes 1 16, [.module, .controller, .harbourmaster, .power, .rail, .media, .parityGroup, .stack, .die, .hostPorts, .hostPort, .network, .netPort, .hbm, .hbmStack]⟩,  -- SERIAL
  ⟨0x0005, 0, 0, .u32, .ro, 1, 0, .any, [.module, .controller, .harbourmaster, .power, .rail, .media, .parityGroup, .stack, .die, .hostPorts, .hostPort, .network, .netPort, .hbm, .hbmStack]⟩,  -- FW_VERSION
  ⟨0x0006, 0, 0, .u32, .ro, 1, 0, .any, [.module, .controller, .harbourmaster, .power, .rail, .media, .parityGroup, .stack, .die, .hostPorts, .hostPort, .network, .netPort, .hbm, .hbmStack]⟩,  -- UNIT_PATH
  ⟨0x0010, 0, 0, .u8, .ro, 1, 0, .span 0 9, [.module]⟩,  -- MODULE_STATE
  ⟨0x0011, 0, 0, .u8, .ro, 1, 0, .span 1 2, [.module]⟩,  -- VARIANT
  ⟨0x0012, 0, 0, .text, .ro, 1, 0, .bytes 8 8, [.module]⟩,  -- PART_NUMBER
  ⟨0x0013, 0, 0, .u8, .ro, 1, 0, .span 0 15, [.module]⟩,  -- MODULE_ID
  ⟨0x0100, 0, 0, .i16, .ro, 1, 0, .any, [.module, .controller, .harbourmaster, .power, .rail, .media, .parityGroup, .stack, .die, .hostPorts, .hostPort, .network, .netPort, .hbm, .hbmStack]⟩,  -- TEMP_NOW
  ⟨0x0101, 0, 0, .i16, .ro, 1, 0, .any, [.module, .controller, .harbourmaster, .power, .rail, .media, .parityGroup, .stack, .die, .hostPorts, .hostPort, .network, .netPort, .hbm, .hbmStack]⟩,  -- TEMP_MAX
  ⟨0x0102, 0, 0, .i16, .rw, 2, 32768, .span 32768 32768, [.module, .controller, .harbourmaster, .power, .rail, .media, .parityGroup, .stack, .die, .hostPorts, .hostPort, .network, .netPort, .hbm, .hbmStack]⟩,  -- TEMP_PEAK
  ⟨0x0110, 0, 0, .u64, .ro, 1, 0, .any, [.module, .controller, .harbourmaster, .power, .rail, .media, .parityGroup, .stack, .die, .hostPorts, .hostPort, .network, .netPort, .hbm, .hbmStack]⟩,  -- ERR_CORRECTED
  ⟨0x0111, 0, 0, .u64, .ro, 1, 0, .any, [.module, .controller, .harbourmaster, .power, .rail, .media, .parityGroup, .stack, .die, .hostPorts, .hostPort, .network, .netPort, .hbm, .hbmStack]⟩,  -- ERR_UNCORRECTABLE
  ⟨0x0120, 0, 0, .optime, .ro, 1, 0, .any, [.module, .controller, .harbourmaster, .power, .rail, .media, .parityGroup, .stack, .die, .hostPorts, .hostPort, .network, .netPort, .hbm, .hbmStack]⟩,  -- STATE_SINCE
  ⟨0x0121, 0, 0, .u32, .ro, 1, 0, .any, [.module, .controller, .harbourmaster, .power, .rail, .media, .parityGroup, .stack, .die, .hostPorts, .hostPort, .network, .netPort, .hbm, .hbmStack]⟩,  -- STATE_CHANGES
  ⟨0x0122, 0, 0, .u16, .ro, 1, 0, .any, [.module, .controller, .harbourmaster, .power, .rail, .media, .parityGroup, .stack, .die, .hostPorts, .hostPort, .network, .netPort, .hbm, .hbmStack]⟩  -- LAST_WARNING
  ]

/-- The object table of chapter 15 (Table OD-5). -/
def objRows15OD5 : List ObjRow := objRows15OD5_1

/-- Rows of the object table of chapter 15, part 1. -/
def objRows15_1 : List ObjRow := [
  ⟨0x1C00, 0, 0, .u16, .rw, 2, 4750, .span 1024 65535, [.module]⟩,  -- KDP_UDP_PORT
  ⟨0x1C01, 0, 0, .u8, .rw, 2, 8, .span 1 8, [.module]⟩,  -- SESSION_LIMIT
  ⟨0x1C02, 0, 0, .u8, .ro, 1, 0, .span 0 8, [.module]⟩,  -- SESSIONS_OPEN
  ⟨0x1C03, 0, 0, .u16, .ro, 1, 60, .any, [.module]⟩,  -- IDLE_TIMEOUT
  ⟨0x1C04, 0, 0, .blob, .ro, 1, 0, .bytes 16 16, [.module]⟩,  -- PASSPHRASE_SALT
  ⟨0x1C05, 0, 0, .u32, .ro, 1, 210000, .any, [.module]⟩,  -- PBKDF2_ITERATIONS
  ⟨0x1C10, 1, 3, .blob, .wo, 3, 0, .bytes 32 32, [.module]⟩,  -- ROLE_KEY
  ⟨0x1C10, 4, 4, .blob, .wo, 4, 0, .bytes 32 32, [.module]⟩,  -- ROLE_KEY
  ⟨0x1C11, 1, 4, .bool, .ro, 1, 0, .span 0 1, [.module]⟩,  -- ROLE_KEY_SET
  ⟨0x1C20, 1, 8, .blob, .ro, 1, 0, .bytes 32 32, [.module]⟩,  -- SESSION_TABLE
  ⟨0x1C21, 0, 0, .cmd, .cmd, 2, 0, .span 1 4294967295, [.module]⟩,  -- SESSION_KILL
  ⟨0x1C28, 1, 1, .u64, .ro, 1, 0, .any, [.module]⟩,  -- OPENS
  ⟨0x1C28, 2, 2, .u32, .ro, 1, 0, .any, [.module]⟩,  -- AUTH_FAILS
  ⟨0x1C28, 3, 3, .u64, .ro, 1, 0, .any, [.module]⟩,  -- MAC_FAILS
  ⟨0x1C28, 4, 4, .u32, .ro, 1, 0, .any, [.module]⟩,  -- LIMIT_REFUSALS
  ⟨0x1C28, 5, 5, .u32, .ro, 1, 0, .any, [.module]⟩,  -- BACKOFF_REFUSALS
  ⟨0x1C28, 6, 6, .u64, .ro, 1, 0, .any, [.module]⟩,  -- EVENTS_DROPPED
  ⟨0x1C28, 7, 7, .u64, .ro, 1, 0, .any, [.module]⟩,  -- SEQ_DISCARDS
  ⟨0x1C28, 8, 8, .u32, .ro, 1, 0, .any, [.module]⟩,  -- IDLE_CLOSES
  ⟨0x1C28, 9, 9, .u64, .ro, 1, 0, .any, [.module]⟩,  -- DISCARDS
  ⟨0x1C29, 0, 0, .u16, .ro, 1, 0, .span 0 256, [.module]⟩,  -- BACKOFF_ADDRS
  ⟨0x1C30, 0, 0, .bool, .rw, 2, 1, .span 0 1, [.netPort]⟩,  -- NET_ENABLE
  ⟨0x1C30, 1, 1, .u8, .ro, 1, 1, .span 0 3, [.netPort]⟩,  -- NET_ENABLE_STATE
  ⟨0x1C31, 0, 0, .u8, .rw, 2, 0, .span 0 1, [.netPort]⟩,  -- NET_PMD
  ⟨0x1C32, 0, 0, .bool, .rw, 2, 1, .span 0 1, [.netPort]⟩,  -- NET_KDP
  ⟨0x1C33, 0, 0, .blob, .ro, 1, 0, .bytes 6 6, [.netPort]⟩,  -- NET_MAC
  ⟨0x1C34, 1, 1, .u8, .rw, 2, 0, .span 0 1, [.netPort]⟩,  -- NET_ADDR_MODE
  ⟨0x1C34, 2, 2, .blob, .rw, 2, 0, .bytes 16 16, [.netPort]⟩,  -- NET_IPV6
  ⟨0x1C34, 3, 3, .u8, .rw, 2, 64, .span 1 128, [.netPort]⟩,  -- NET_IPV6_PREFIX
  ⟨0x1C34, 4, 4, .blob, .rw, 2, 0, .bytes 16 16, [.netPort]⟩  -- NET_GW6
  ]

/-- Rows of the object table of chapter 15, part 2. -/
def objRows15_2 : List ObjRow := [
  ⟨0x1C34, 5, 5, .blob, .rw, 2, 0, .bytes 4 4, [.netPort]⟩,  -- NET_IPV4
  ⟨0x1C34, 6, 6, .u8, .rw, 2, 24, .span 1 32, [.netPort]⟩,  -- NET_IPV4_PREFIX
  ⟨0x1C34, 7, 7, .blob, .rw, 2, 0, .bytes 4 4, [.netPort]⟩,  -- NET_GW4
  ⟨0x1C34, 8, 8, .u16, .rw, 2, 0, .span 0 4094, [.netPort]⟩,  -- NET_VLAN
  ⟨0x1C34, 9, 9, .u8, .rw, 2, 0, .span 0 7, [.netPort]⟩,  -- NET_PCP
  ⟨0x1C35, 0, 0, .cmd, .cmd, 2, 0, .span 1 1, [.netPort]⟩,  -- NET_APPLY
  ⟨0x1C36, 1, 1, .u8, .ro, 1, 0, .span 0 2, [.netPort]⟩,  -- NET_LINK
  ⟨0x1C36, 2, 2, .blob, .ro, 1, 0, .bytes 16 16, [.netPort]⟩,  -- NET_ADDR_NOW
  ⟨0x1C38, 1, 1, .u64, .ro, 1, 0, .any, [.network, .netPort]⟩,  -- RX_FRAMES
  ⟨0x1C38, 2, 2, .u64, .ro, 1, 0, .any, [.network, .netPort]⟩,  -- TX_FRAMES
  ⟨0x1C38, 3, 3, .u64, .ro, 1, 0, .any, [.network, .netPort]⟩,  -- RX_DROPPED
  ⟨0x1C38, 4, 4, .u64, .ro, 1, 0, .any, [.network, .netPort]⟩,  -- FEC_CORRECTED
  ⟨0x1C38, 5, 5, .u64, .ro, 1, 0, .any, [.network, .netPort]⟩,  -- FEC_UNCORRECTABLE
  ⟨0x1C38, 6, 6, .u32, .ro, 1, 0, .any, [.network, .netPort]⟩  -- LINK_DOWNS
  ]

/-- The object table of chapter 15. -/
def objRows15 : List ObjRow := objRows15_1 ++ objRows15_2

/-- Rows of the object table of chapter 16, part 1. -/
def objRows16_1 : List ObjRow := [
  ⟨0x1D00, 1, 1, .optime, .ro, 1, 0, .any, [.harbourmaster]⟩,  -- HM_STORE_LAST
  ⟨0x1D00, 2, 2, .u64, .ro, 1, 0, .any, [.harbourmaster]⟩,  -- HM_STORES
  ⟨0x1D00, 3, 3, .u32, .ro, 1, 0, .any, [.harbourmaster]⟩,  -- HM_STORE_DEFERRED
  ⟨0x1D01, 0, 0, .cmd, .cmd, 2, 0, .span 1 1, [.harbourmaster]⟩,  -- HM_STORE_NOW
  ⟨0x1D02, 0, 0, .u16, .rw, 2, 49152, .span 0 65535, [.harbourmaster]⟩,  -- HM_WINDOW_ADDR
  ⟨0x1D03, 0, 0, .blob, .rw, 2, 0, .bytes 1 256, [.harbourmaster]⟩,  -- HM_WINDOW_DATA
  ⟨0x1D04, 1, 12, .u8, .ro, 1, 0, .span 0 4, [.harbourmaster]⟩,  -- RECORD_STATE
  ⟨0x1D05, 0, 0, .u32, .ro, 1, 0, .any, [.harbourmaster]⟩,  -- TWIN_CONFLICTS
  ⟨0x1D06, 1, 1, .u32, .ro, 1, 0, .any, [.harbourmaster]⟩,  -- POWER_CYCLES
  ⟨0x1D06, 2, 2, .optime, .ro, 1, 0, .any, [.harbourmaster]⟩,  -- OPERATING_SECONDS
  ⟨0x1D06, 3, 3, .bits32, .ro, 1, 0, .mask 3, [.harbourmaster]⟩,  -- COUNTERS_SATURATED
  ⟨0x1D07, 0, 0, .blob, .ro, 1, 0, .bytes 4096 4096, [.harbourmaster]⟩,  -- HM_RECENT
  ⟨0x1D10, 0, 0, .bool, .rw, 2, 0, .span 0 1, [.module]⟩,  -- RECORDER_FREEZE
  ⟨0x1D11, 0, 0, .u16, .rw, 2, 60, .span 1 600, [.module]⟩,  -- FREEZE_MAX
  ⟨0x1D12, 1, 1, .u64, .ro, 1, 0, .any, [.module]⟩,  -- RECORDS_TOTAL
  ⟨0x1D12, 2, 2, .u64, .ro, 1, 0, .any, [.module]⟩,  -- FROZEN_LOST
  ⟨0x1D12, 3, 3, .u64, .ro, 1, 0, .any, [.module]⟩,  -- RING_LOST
  ⟨0x1D12, 4, 4, .u64, .ro, 1, 0, .any, [.module]⟩,  -- LOG_LOST
  ⟨0x1D12, 5, 5, .u64, .ro, 1, 0, .any, [.module]⟩,  -- LOG_FLUSHES
  ⟨0x1D13, 0, 0, .u64, .rw, 1, 0, .any, [.module]⟩,  -- LOG_CURSOR
  ⟨0x1D14, 0, 0, .blob, .ro, 1, 0, .bytes 0 1024, [.module]⟩,  -- LOG_EXPORT
  ⟨0x1D20, 1, 8, .blob, .rw, 2, 0, .bytes 48 48, [.module]⟩,  -- TRIGGER
  ⟨0x1D21, 1, 8, .u32, .ro, 1, 0, .any, [.module]⟩  -- TRIGGER_FIRES
  ]

/-- The object table of chapter 16. -/
def objRows16 : List ObjRow := objRows16_1

/-- Rows of the object table of chapter 17, part 1. -/
def objRows17_1 : List ObjRow := [
  ⟨0x1E00, 0, 0, .u64, .ro, 1, 0, .any, [.controller]⟩,  -- PC_CYCLES
  ⟨0x1E01, 1, 8, .u8, .rw, 2, 0, .span 0 26, [.controller]⟩,  -- PC_EVENT
  ⟨0x1E02, 1, 8, .u32, .rw, 2, 0, .own, [.controller]⟩,  -- PC_SCOPE
  ⟨0x1E03, 1, 8, .bits32, .rw, 2, 0, .mask 29, [.controller]⟩,  -- PC_CONFIG
  ⟨0x1E04, 1, 8, .u64, .rw, 2, 0, .span 0 281474976710655, [.controller]⟩,  -- PC_COUNT
  ⟨0x1E05, 1, 8, .u64, .rw, 2, 0, .span 0 281474976710655, [.controller]⟩,  -- PC_RELOAD
  ⟨0x1E06, 1, 8, .u32, .ro, 1, 0, .any, [.controller]⟩,  -- PC_OVF_COUNT
  ⟨0x1E07, 1, 8, .bits32, .rw, 2, 65535, .mask 65535, [.controller]⟩,  -- PC_SLICES
  ⟨0x1E08, 0, 0, .bool, .rw, 2, 0, .span 0 1, [.controller]⟩,  -- PC_FREEZE
  ⟨0x1E09, 0, 0, .cmd, .cmd, 2, 0, .span 1 1, [.controller]⟩,  -- PC_SNAPSHOT
  ⟨0x1E0A, 0, 0, .blob, .ro, 1, 0, .bytes 80 80, [.controller]⟩,  -- PC_SNAP
  ⟨0x1E10, 0, 0, .u64, .rw, 1, 0, .any, [.controller]⟩,  -- SAMPLE_CURSOR
  ⟨0x1E11, 0, 0, .blob, .ro, 1, 0, .bytes 0 512, [.controller]⟩,  -- SAMPLE_EXPORT
  ⟨0x1E12, 1, 1, .u64, .ro, 1, 0, .any, [.controller]⟩,  -- SAMPLES_TAKEN
  ⟨0x1E12, 2, 2, .u64, .ro, 1, 0, .any, [.controller]⟩,  -- SAMPLES_LOST
  ⟨0x1E20, 0, 0, .u32, .rw, 2, 1000, .span 1 1000000, [.hostPorts]⟩,  -- BW_WINDOW_US
  ⟨0x1E21, 0, 0, .blob, .ro, 1, 0, .bytes 24 24, [.hostPorts, .hostPort]⟩,  -- BW_LAST
  ⟨0x1E22, 0, 0, .blob, .ro, 1, 0, .bytes 0 768, [.hostPorts, .hostPort]⟩,  -- BW_HISTORY
  ⟨0x1E23, 1, 1, .u64, .rw, 2, 0, .span 0 0, [.hostPorts, .hostPort]⟩,  -- BW_READ_MAX
  ⟨0x1E23, 2, 2, .u64, .rw, 2, 0, .span 0 0, [.hostPorts, .hostPort]⟩,  -- BW_WRITE_MAX
  ⟨0x1E24, 0, 0, .u32, .ro, 1, 0, .any, [.hostPorts, .hostPort]⟩  -- BW_MISSED
  ]

/-- The object table of chapter 17. -/
def objRows17 : List ObjRow := objRows17_1

/-- Rows of the object table of chapter 18, part 1. -/
def objRows18_1 : List ObjRow := [
  ⟨0x1F00, 0, 0, .u8, .rw, 2, 1, .own, [.hostPort, .stack, .netPort, .hbmStack, .harbourmaster]⟩,  -- LB_DEPTH
  ⟨0x1F01, 0, 0, .cmd, .cmd, 2, 0, .span 0 60000, [.hostPort, .stack, .netPort, .hbmStack, .harbourmaster]⟩,  -- LB_RUN
  ⟨0x1F02, 0, 0, .blob, .ro, 1, 0, .bytes 32 32, [.hostPort, .stack, .netPort, .hbmStack, .harbourmaster]⟩,  -- LB_RESULT
  ⟨0x1F08, 0, 0, .cmd, .cmd, 4, 0, .spanOr 0 255 65535, [.controller]⟩,  -- SRAM_SELFTEST
  ⟨0x1F09, 0, 0, .blob, .ro, 1, 0, .bytes 16 16, [.controller]⟩,  -- SRAM_RESULT
  ⟨0x1F0A, 0, 0, .cmd, .cmd, 2, 0, .span 1 1, [.stack]⟩,  -- STACK_SELFTEST
  ⟨0x1F0B, 0, 0, .blob, .ro, 1, 0, .bytes 16 16, [.stack]⟩,  -- STACK_RESULT
  ⟨0x1F0C, 0, 0, .cmd, .cmd, 4, 0, .span 1 1, [.hbmStack]⟩,  -- HBM_SELFTEST
  ⟨0x1F0D, 0, 0, .blob, .ro, 1, 0, .bytes 16 16, [.hbmStack]⟩,  -- HBM_RESULT
  ⟨0x1F10, 0, 0, .bool, .rw, 4, 0, .span 0 1, [.module]⟩,  -- BOOT_HOLD
  ⟨0x1F11, 0, 0, .u16, .rw, 4, 600, .span 60 3600, [.module]⟩,  -- BOOT_HOLD_MAX
  ⟨0x1F12, 0, 0, .cmd, .cmd, 4, 0, .span 1 1, [.module]⟩,  -- BOOT_RELEASE
  ⟨0x1F14, 0, 0, .cmd, .cmd, 4, 0, .spanOr 60 3600 0, [.module]⟩,  -- JTAG_UNLOCK
  ⟨0x1F15, 0, 0, .u8, .ro, 1, 0, .span 0 1, [.module]⟩,  -- JTAG_STATE
  ⟨0x1F20, 0, 0, .blob, .wo, 4, 0, .bytes 256 67108864, [.module]⟩,  -- FW_STAGE
  ⟨0x1F21, 0, 0, .cmd, .cmd, 4, 0, .span 1 1, [.module]⟩,  -- FW_INSTALL
  ⟨0x1F22, 0, 0, .cmd, .cmd, 4, 0, .span 1 2, [.module]⟩,  -- FW_ACTIVATE
  ⟨0x1F23, 1, 2, .blob, .ro, 1, 0, .bytes 16 16, [.module]⟩,  -- FW_SLOT_INFO
  ⟨0x1F24, 0, 0, .u8, .ro, 1, 1, .span 1 2, [.module]⟩,  -- FW_IMAGE_NOW
  ⟨0x1F25, 0, 0, .u16, .ro, 1, 0, .any, [.module]⟩,  -- FW_SVN_FUSED
  ⟨0x1F26, 0, 0, .u32, .ro, 1, 0, .span 0 30000, [.module]⟩,  -- FW_LAST_PAUSE
  ⟨0x1F27, 1, 1, .u32, .ro, 1, 0, .any, [.module]⟩,  -- FW_ACTIVATIONS
  ⟨0x1F27, 2, 2, .u32, .ro, 1, 0, .any, [.module]⟩  -- BOOT_FAILS
  ]

/-- The object table of chapter 18. -/
def objRows18 : List ObjRow := objRows18_1

/-- The object table that holds an index: its high byte names the chapter. -/
def objRowsOf (index : Nat) : List ObjRow :=
  match index / 256 with
  | 0x00 | 0x01 => objRows15OD5
  | 0x10 => objRows02
  | 0x11 => objRows03
  | 0x12 => objRows04
  | 0x13 => objRows05
  | 0x14 => objRows06
  | 0x15 => objRows07
  | 0x16 => objRows08
  | 0x17 => objRows09
  | 0x18 => objRows10
  | 0x19 => objRows11
  | 0x1A => objRows12
  | 0x1B => objRows13
  | 0x1C => objRows15
  | 0x1D => objRows16
  | 0x1E => objRows17
  | 0x1F => objRows18
  | _ => []

/-- The row of an object (its name as index times 256 plus subindex), where the dictionary has one. -/
def objRow? (o : Nat) : Option ObjRow :=
  (objRowsOf (o / 256)).find? fun r => r.index == o / 256 && r.subLo ≤ o % 256 && o % 256 ≤ r.subHi

end Sys2Proof.Machine
end

