-- ==== Sys2Proof/Machine/Assoc.lean ====
section
/-! DEFINITION. Sparse tables: lists of key and value with strictly rising keys. Every addressed store of the module is one. -/
namespace Sys2Proof.Machine

/-- A sparse table by a natural-number key; the canonical form is `AMap.wf`. -/
abbrev AMap (α : Type) := List (Nat × α)

/-- The entry of a key. -/
def AMap.get? {α : Type} : AMap α → Nat → Option α
  | [], _ => none
  | (k, v) :: t, i => if k = i then some v else AMap.get? t i

/-- The entry of a key, or a default. -/
def AMap.getD {α : Type} (m : AMap α) (i : Nat) (d : α) : α := (AMap.get? m i).getD d

/-- Whether a key has an entry. -/
def AMap.has {α : Type} (m : AMap α) (i : Nat) : Bool := (AMap.get? m i).isSome

/-- Put a value under a key, keeping the keys rising. -/
def AMap.set {α : Type} : AMap α → Nat → α → AMap α
  | [], i, v => [(i, v)]
  | (k, w) :: t, i, v =>
    if i < k then (i, v) :: (k, w) :: t
    else if i = k then (i, v) :: t
    else (k, w) :: AMap.set t i v

/-- Remove a key. -/
def AMap.del {α : Type} : AMap α → Nat → AMap α
  | [], _ => []
  | (k, w) :: t, i => if k = i then t else (k, w) :: AMap.del t i

/-- Put or remove. -/
def AMap.put {α : Type} (m : AMap α) (i : Nat) : Option α → AMap α
  | some v => AMap.set m i v
  | none => AMap.del m i

/-- The canonical form: keys strictly rising. -/
def AMap.wf {α : Type} : AMap α → Bool
  | [] => true
  | [_] => true
  | (k, _) :: (k', w) :: t => decide (k < k') && AMap.wf ((k', w) :: t)

/-- Change the entry of a key, starting from a default where there is none. -/
def AMap.upd {α : Type} (m : AMap α) (i : Nat) (d : α) (f : α → α) : AMap α := AMap.set m i (f (AMap.getD m i d))

/-- Put one value under each key of a list. -/
def AMap.setAll {α : Type} (m : AMap α) (ks : List Nat) (v : α) : AMap α := ks.foldl (fun m k => AMap.set m k v) m

end Sys2Proof.Machine
end

