-- ==== Sys2Proof/Machine/State.lean ====
section
/-! DEFINITION. The state of the module, as plain data: the object dictionary's registers, and the stores, tables, queues,
records and latches that the spec gives the machine beside them. Each field's docstring names the spec's file and rule. -/
namespace Sys2Proof.Machine
open Sys2Proof

/-- Where the module stands in the chain of Table AX-8. MODULE_STATE (01 R26) is computed from it, the latches and the redundancy. The spec names no `loading`-to-`running` sub-state, so one phase stands for READY, DEGRADED and DOMAIN_DOWN. -/
inductive Phase where
  | cold | sequencing | booting | loading | running | flushing | halted | latchedOff
  deriving DecidableEq, Repr

/-- An event record (16 R372, Table HM-4). -/
structure EvRec where
  /-- CODE (16 R372). -/
  code : Nat := 0
  /-- TRIGGERED (16 Table HM-5). -/
  triggered : Bool := false
  /-- HM_ORIGIN (16 Table HM-5). -/
  hmOrigin : Bool := false
  /-- REPLAYED (16 Table HM-5). -/
  replayed : Bool := false
  /-- LOST_BEFORE (16 Table HM-5). -/
  lostBefore : Bool := false
  /-- SNAP_FAULT (16 Table HM-5). -/
  snapFault : Bool := false
  /-- REPEAT (16 R375). -/
  repeats : Nat := 1
  /-- AT, operating seconds of the first occurrence (16 Table HM-4). -/
  at_ : Nat := 0
  /-- POWER_CYCLE (16 Table HM-4). -/
  powerCycle : Nat := 0
  /-- UNIT, encoded path (16 Table HM-4). -/
  unit : Nat := 0
  /-- SOURCE (16 Table HM-4). -/
  source : Nat := 0xFFFF
  /-- SNAP, up to five values (16 Table HM-4). -/
  snap : List Nat := []
  deriving DecidableEq, Repr

/-- One entry of a response (15 Table OD-10): a unit, its status and the value read. -/
structure KEntry where
  /-- UNIT (15 Table OD-10). -/
  unit : Nat
  /-- STATUS (15 Table OD-10). -/
  status : Status
  /-- VALUE, none for writes, commands and failed reads (15 Table OD-10). -/
  value : Option KVal
  deriving DecidableEq, Repr

/-- A KDP response: the ENTRIES flag, the header status, the value or the entries, and the fragments it takes (15 R348). -/
structure KResp where
  /-- ENTRIES (15 Table OD-8). -/
  entriesFlag : Bool := false
  /-- STATUS (15 Table OD-8). -/
  status : Status := .ok
  /-- the value of a single-unit response (15 Table OD-9). -/
  value : Option KVal := none
  /-- the entries of a wildcard response, in ascending path order (15 R348). -/
  entries : List KEntry := []
  /-- datagrams the response takes (15 R348). -/
  fragments : Nat := 1
  deriving DecidableEq, Repr

/-- The messages and signals the module sends to the outside, in the terms of the chapter that sends them. -/
inductive Out where
  /-- A KDP response to a session (15 R347). -/
  | kdp (sid seq : Nat) (r : KResp)
  /-- A KDP response outside a session, by its network port: OPEN and PROVE (15 Table OD-12). -/
  | kdpHandshake (netPort src sid : Nat) (status : Status) (body : List Nat)
  /-- A CLOSE from the module with its reason (15 Table OD-9). -/
  | kdpClose (sid : Nat) (reason : Status)
  /-- An EVENT message (15 R357): session, SEQ, LOST, records. -/
  | kdpEvent (sid seq lost : Nat) (recs : List EvRec)
  /-- A completion without data on a port: tag, the NDR opcode, and the port's DevLoad as it was generated (02 R47, 04). -/
  | ndr (port tag : Nat) (opcode : Nat) (devLoad : Nat)
  /-- A completion with data on a port: tag, data, poison, MetaValue, and the port's DevLoad as it was generated (02 R47, 04). -/
  | drs (port tag : Nat) (data : LineData) (poison : Bool) (opcode : Nat) (devLoad : Nat)
  /-- A back-invalidation snoop (04 R92): port, agent source, its BI_ID, line, kind 1 BISnpInv, 2 BISnpData, 3 BISnpCur, snoop id. -/
  | bisnp (port src biId line kind id : Nat)
  /-- A BIConflictAck (04 R101), with the port's DevLoad as it was generated (02 R47). -/
  | biConflictAck (port tag : Nat) (devLoad : Nat)
  /-- A CXL.io answer: Unsupported Request or a completion value (02). -/
  | ioCompletion (port tag : Nat) (unsupported : Bool) (value : Nat)
  /-- Viral raised on a port (02 R50). -/
  | viral (port : Nat)
  /-- An MSI-X vector raised on a port's function (02 R37). -/
  | msix (port vector : Nat)
  /-- A memory-device mailbox answer (02 R36): port, return code, payload fields. -/
  | mailbox (port code : Nat) (payload : List Nat)
  /-- A CDAT answer (02 R51): port and table contents by fields. -/
  | cdat (port : Nat) (entries : List (List Nat))
  /-- A correctable or uncorrectable error message on a port (02). -/
  | errMsg (port : Nat) (fatal : Nat)
  /-- A frame of the berth mirror as its bytes, header, records and truncated HMAC (05 R134). -/
  | mirror (bytes : List Byte)
  /-- The opening message of a mirror handshake (05 R133): network port, this module's nonce, PAIR_GENERATION, BERTH_INTACT and its range table of
  base, size and mode. -/
  | mirrorOpen (netPort : Nat) (nonce : BitVec 128) (generation intact : Nat) (ranges : List (Nat × Nat × Nat))
  /-- This module's proof in a mirror handshake (05 R133, 15 R351): network port, SESSION_ID and PROOF_C. -/
  | mirrorProve (netPort sid : Nat) (proof : BitVec 256)
  /-- GPF response on a port (02). -/
  | gpf (port phase : Nat) (ok : Bool)
  /-- A read of a control-window register returned to a port (03): tag and value. -/
  | cwRead (port tag value : Nat)
  /-- A JTAG shift result (14 R321). -/
  | jtag (ir : Nat) (value : Nat)
  /-- The DevLoad and completion of a GPF, sleep or other port event with no payload. -/
  | portEvent (port kind : Nat)
  deriving DecidableEq, Repr

/-- What an access does to a line at its conflict table (01 R14, 04 Table CD-4): a host's read, ownership request without data, write and clean evict, a reservation's load and conditional store, a discard of the line, and an agent recall. -/
inductive AccKind where
  | read | inv | write | cleanEvict | resvLoad | resvStore | discard | agentRecall
  deriving DecidableEq, Repr

/-- An access to a line on its way through its conflict table (01 R14, 04). -/
structure Acc where
  /-- model's own number, in arrival order (model's own). -/
  id : Nat
  /-- port unit 1 to 16; 0 for an internal agent (02 R28). -/
  port : Nat := 0
  /-- agent source on the port (02 R38). -/
  src : Nat := 0
  /-- request tag (02 Table HP-2). -/
  tag : Nat := 0
  /-- kind (04 R93). -/
  kind : AccKind
  /-- line: DPA / 64 of host capacity or of the berth window (01 R12). -/
  line : Nat
  /-- write data; of a read, the staged bytes it saw at its entry (01 R15, R17). -/
  data : LineData := 0
  /-- byte mask of a write; of a read, the staged bytes it saw (01 R15, R17). -/
  mask : ByteMask := 0
  /-- the data carries poison (02 R50). -/
  poison : Bool := false
  /-- the line lies in an HDM-DB region (03 R57). -/
  db : Bool := false
  /-- through a placement aliased or an internal agent: not granted a copy (03 R82). -/
  aliased : Bool := false
  /-- agent slot 0 to 31; 32 none (02 R41). -/
  slot : Nat := 32
  /-- placement in force, 1 to 3 (03 Table MC-14). -/
  place : Nat := 1
  /-- MetaValue: 0 I, 1 S, 2 A; 3 for MemRdData (04 Table CD-3). -/
  metaVal : Nat := 0
  /-- time of arrival (08 R195). -/
  at_ : Nat := 0
  /-- it still holds its M2S credit (02 R45). -/
  holds : Bool := false
  /-- control window it runs for, 0 none (03 R67). -/
  win : Nat := 0
  /-- lowest cause of Table ML-2 that applied, 0 none (08 R197). -/
  excl : Nat := 0
  /-- its transaction is open until its response is sent (04 before R93). -/
  tx : Bool := false
  /-- HC_ENABLE was 1 as it entered its conflict table (05 R118). -/
  cached : Bool := false
  deriving DecidableEq, Repr

/-- One 64-byte line of a media page: data and the mark its sector's metadata gives it (10 R236). -/
structure StoredLine where
  /-- data (07 R184). -/
  data : LineData := 0
  /-- MARKS: 0 clean, 1 poisoned, 2 stale, 3 stale with the old value poisoned (10 Table DP-5). -/
  mark : Nat := 0
  deriving DecidableEq, Repr

/-- A page as programmed at a physical page number: its lines, and the metadata kept with each sector (10 R236). -/
structure StoredPage where
  /-- PN (10 R236). -/
  pn : Nat
  /-- key domain (region), 0 none (10 R236). -/
  domain : Nat := 0
  /-- key the sectors are encrypted under (10 R238). -/
  keyId : Nat := 0
  /-- WSEQ of the page (10 R237). -/
  wseq : Nat := 0
  /-- lines 0 to 63; an absent line is zero without a mark (07 R173). -/
  lines : AMap StoredLine := []
  deriving DecidableEq, Repr

/-- A committed HDM decoder (02 R39, R40). -/
structure Decoder where
  /-- base host physical address (02 R39). -/
  hpa : Nat
  /-- base device physical address (02 R39). -/
  dpa : Nat
  /-- bytes (02 R39). -/
  size : Nat
  /-- BI bit (02 Table HP-6). -/
  bi : Bool
  /-- region it decodes to, 0 for the control window range or the berth window (03 R57). -/
  region : Nat := 0
  /-- aliased hint, 0 for direct access (03 R82). -/
  hint : Nat := 0
  /-- its recall runs before it leaves the committed state (02 R42). -/
  withdrawing : Bool := false
  /-- its commit bound the agent's control window (03 R67). -/
  binds : Bool := false
  deriving DecidableEq, Repr

/-- A host agent with configuration access on a port (02 R38). -/
structure Agent where
  /-- port unit 1 to 16 (02 R38). -/
  port : Nat
  /-- PBR ID, 0xFFFF when attached directly (02 R38). -/
  src : Nat
  /-- its BI decoder is enabled (02 Table HP-6). -/
  biEnabled : Bool := false
  /-- BI_ID programmed by the host (02 Table HP-12). -/
  biId : Nat := 0
  /-- committed decoders by number 0 to 15 (02 R38). -/
  decoders : AMap Decoder := []
  /-- decoders whose Commit Error is set (02 R40). -/
  commitErr : List Nat := []
  deriving DecidableEq, Repr

/-- One of the 32 agent slots in use (02 R41, Table HP-12). -/
structure AgentSlot where
  /-- 1 enrolled, 2 withdrawing, 3 recall pending after link loss (02 Table HP-12). -/
  state : Nat
  /-- PORT (02 Table HP-12). -/
  port : Nat
  /-- SOURCE (02 Table HP-12). -/
  src : Nat
  /-- BI_ID (02 Table HP-12). -/
  biId : Nat
  /-- ENROLLED_AT (02 Table HP-12). -/
  enrolledAt : Nat
  /-- lines recalled since it began to withdraw (02 Table HP-14). -/
  recalled : Nat := 0
  deriving DecidableEq, Repr

/-- An S2M message waiting for the host's credit (02 R45). -/
structure S2mMsg where
  /-- 0 NDR, 1 DRS, 2 BISnp (02 R45). -/
  cls : Nat
  /-- the message (02 R45). -/
  msg : Out
  /-- the access it answers, to be counted as its first flit is sent: path, access and further events (08 R195). -/
  owed : Option (Nat × Acc × List (Nat × Nat)) := none
  deriving DecidableEq, Repr

/-- A host port /5/n beside its registers (02 R28 to R53). -/
structure HostPort where
  /-- a far end is detected (02 R31). -/
  farEnd : Bool := false
  /-- reads FAILED: no L0 for 1 s (02 R31). -/
  failed : Bool := false
  /-- trained below its caps (02 R31). -/
  degraded : Bool := false
  /-- PORT_RST_N is asserted (02 R29). -/
  rstLow : Bool := true
  /-- link disabled by the host (02 Table HP-9). -/
  hostDisabled : Bool := false
  /-- the minimum off time of 10 ms has passed (02 R53). -/
  offDone : Bool := true
  /-- ATTACH_MODE in force (02 Table HP-9). -/
  attachNow : Nat := 0
  /-- viral raised on the port (02 R49). -/
  viral : Bool := false
  /-- CXL.io IDE stream on (02 R48). -/
  ioIde : Bool := false
  /-- a refreshed CXL.io key awaits its first flit (02 R48). -/
  ioRefresh : Bool := false
  /-- a refreshed CXL.mem key awaits its first flit (02 R48). -/
  memRefresh : Bool := false
  /-- mode under the refreshed CXL.mem key (02 R48). -/
  memNext : Nat := 0
  /-- errors recorded in AER (02 Table HP-9). -/
  aerSticky : Nat := 0
  /-- RwD credits granted and unused (02 R46). -/
  rwdFree : Nat := 0
  /-- RwD credits used and not yet returned (02 R46). -/
  rwdUsed : Nat := 0
  /-- Req credits granted and unused (02 R45). -/
  reqFree : Nat := 0
  /-- Req credits used and not yet returned (02 R45). -/
  reqUsed : Nat := 0
  /-- BIRsp credits granted and unused (02 R45). -/
  biFree : Nat := 0
  /-- RwD credits the pace still allows in this 1 µs (02 R46). -/
  pace : Nat := 0
  /-- f_thermal in quarters: 4, 2 or 1 (13 R309). -/
  thermCut : Nat := 4
  /-- S2M NDR credits the host grants (02 R45). -/
  ndr : Nat := 0
  /-- S2M DRS credits the host grants (02 R45). -/
  drs : Nat := 0
  /-- S2M BISnp credits the host grants (02 R102). -/
  bisnp : Nat := 0
  /-- responses waiting for S2M credits, oldest first (02 R45). -/
  outq : List S2mMsg := []
  deriving DecidableEq, Repr

/-- Host ports (chapter 02) beside their registers. -/
structure Ports where
  /-- by port unit 1 to 16 (02 R28). -/
  ports : AMap HostPort := []
  /-- agents with configuration access, in order of arrival (02 R38). -/
  agents : List Agent := []
  /-- agent slots in use, 0 to 31 (02 R41). -/
  slots : AMap AgentSlot := []
  deriving DecidableEq, Repr

/-- A host request that a port holds ahead of the conflict tables during a firmware pause (18 R403). -/
inductive ReqOp where
  | read | readData | specRead | inv | cleanEvict | write | writePtl | biConflict
  deriving DecidableEq, Repr

/-- A CXL.mem request as it arrives at a port (02, 04). -/
structure HostReq where
  /-- opcode (04 R92). -/
  op : ReqOp
  /-- port unit (02 R28). -/
  port : Nat
  /-- agent source (02 R38). -/
  src : Nat
  /-- tag (02 Table HP-2). -/
  tag : Nat
  /-- host physical address (02 R39). -/
  addr : Nat
  /-- MetaValue (04 Table CD-3). -/
  metaVal : Nat := 0
  /-- data of a write (01 R15). -/
  data : LineData := 0
  /-- byte mask of a write (01 R15). -/
  mask : ByteMask := 0
  /-- poison of a write (02 R50). -/
  poison : Bool := false
  /-- every combining entry of the slice is being appended (03 R62). -/
  bypass : Bool := false
  /-- array errors that the access meets (10 R231). -/
  errs : List ArrayErr := []
  /-- lowest cause of Table ML-2 that applied as the port admitted it, 0 none (08 R197). -/
  excl : Nat := 0
  /-- time of arrival (08 R195). -/
  at_ : Nat := 0
  deriving DecidableEq, Repr

/-- A region's definition in force (03 R57, R58). -/
structure Region where
  /-- REGION_BASE (03 R57). -/
  base : Nat := 0
  /-- REGION_SIZE (03 R57). -/
  size : Nat := 0
  /-- REGION_MODE: 0 unused (03 R57). -/
  mode : Nat := 0
  /-- REGION_POLICY (03 R57). -/
  policy : Nat := 1
  /-- REGION_ALIAS (03 R57). -/
  aliased : Nat := 0
  /-- REGION_STALE_READ (03 R57). -/
  staleRead : Nat := 0
  deriving DecidableEq, Repr

/-- A combining-buffer entry (03 R62). -/
structure CbEntry where
  /-- bytes (03 R62). -/
  data : LineData
  /-- byte mask (03 R62). -/
  mask : ByteMask
  /-- poisoned bytes (10 R233). -/
  poison : ByteMask := 0
  /-- staging order of its first write (03 R72). -/
  seq : Nat
  deriving DecidableEq, Repr

/-- A discard descriptor in a window's queue (03 R80). -/
structure Discard where
  /-- first page (03 Table MC-13). -/
  base : Nat
  /-- pages (03 Table MC-13). -/
  count : Nat
  /-- TOKEN (03 Table MC-7). -/
  token : Nat
  /-- pages handled (03 R81). -/
  next : Nat := 0
  /-- a page is being handled (03 R81). -/
  active : Bool := false
  /-- lines of the page that have not passed their conflict tables (03 R81). -/
  left : Nat := 0
  /-- the page had a staged line (07 R186). -/
  staged : Bool := false
  /-- time of issue (03 R85). -/
  started : Nat
  deriving DecidableEq, Repr

/-- A control window (03 R67, Table MC-4). -/
structure Window where
  /-- PORT of the agent bound, 0 free (03 Table MC-16). -/
  port : Nat := 0
  /-- SOURCE of the agent bound (03 Table MC-16). -/
  src : Nat := 0
  /-- RESV_ADDR (03 Table MC-10). -/
  resvAddr : Nat := 0
  /-- DISCARD_BASE (03 Table MC-13). -/
  discardBase : Nat := 0
  /-- DISCARD_PAGES (03 Table MC-13). -/
  discardPages : Nat := 0
  /-- DRAIN_STATE (03 Table MC-8). -/
  drainState : Nat := 0
  /-- MIRROR_STATE (03 Table MC-8). -/
  mirrorState : Nat := 0
  /-- RESV_STATE (03 Table MC-8). -/
  resvState : Nat := 0
  /-- DISCARD_STATE (03 Table MC-8). -/
  discardState : Nat := 0
  /-- DRAIN_TOKEN_DONE (03 Table MC-9). -/
  drainDone : Nat := 0
  /-- MIRROR_TOKEN_DONE (03 Table MC-9). -/
  mirrorDone : Nat := 0
  /-- DISCARD_TOKEN_DONE (03 Table MC-13). -/
  discardDone : Nat := 0
  /-- a descriptor has finished since the window was bound (03 Table MC-8). -/
  discardRan : Bool := false
  /-- pending drain barrier: token and first staging order not covered (03 R72). -/
  drain : Option (Nat × Nat) := none
  /-- pending mirror barrier: token and last frame covered (03 R73). -/
  mirror : Option (Nat × Nat) := none
  /-- reservation held: line, and whether in HDM-DB (03 R76). -/
  resv : Option (Nat × Bool) := none
  /-- word of the line that the reservation names, 0 to 7 (03 R76). -/
  resvWord : Nat := 0
  /-- the RESV_LOAD that armed the reservation and whose word has not been returned (03 R79). -/
  loading : Option Nat := none
  /-- the conditional store that was applied and whose completion point has not come (03 R76, Table MC-2). -/
  storing : Option Nat := none
  /-- RESULT (03 Table MC-11). -/
  result : Nat := 0
  /-- LOSS_CAUSE (03 Table MC-11). -/
  loss : Nat := 0
  /-- discard descriptors, the one executed first (03 R80). -/
  queue : List Discard := []
  /-- completions held for their effect: region 1 drain barrier, 2 mirror barrier, 3 reservation, 4 discard, and tag (03 R69). -/
  heldCmp : List (Nat × Nat) := []
  /-- held completions delayed by a cause of Table ML-2 below 10: region, tag and cause (08 R197). -/
  heldLow : List (Nat × Nat × Nat) := []
  deriving DecidableEq, Repr

/-- A REGION_APPLY whose drain runs (10 R240). -/
structure RegionApply where
  /-- region (03 R58). -/
  region : Nat
  /-- definition to take effect (03 R58). -/
  def_ : Region
  deriving DecidableEq, Repr

/-- The memory contract (chapter 03) beside its registers. -/
structure Contract where
  /-- regions 1 to 64 in force (03 R58). -/
  regions : AMap Region := []
  /-- applies whose drain runs (10 R240). -/
  applying : List RegionApply := []
  /-- combining buffers by line, 256 entries a slice (03 R62). -/
  cb : AMap CbEntry := []
  /-- control windows 1 to 32 that are bound (03 R67). -/
  windows : AMap Window := []
  /-- pages being discarded, whose UNMAP record has not committed (03 R81). -/
  discarding : List Nat := []
  /-- lines of those pages that have passed their conflict tables (03 R81). -/
  gone : List Nat := []
  deriving DecidableEq, Repr

/-- A directory entry not free (04 Table CD-2). -/
structure DirEntry where
  /-- sector, from its set, TAG and slice (04 R88). -/
  sector : Nat
  /-- LSTATE, base 3 (04 R89). -/
  lstate : Nat
  /-- SHARERS (04 R90). -/
  sharers : Nat
  deriving DecidableEq, Repr

/-- An open transaction that waits for snoops (04 R93, R98). -/
structure Tx where
  /-- model's own number (model's own). -/
  id : Nat
  /-- 0 an access to a line, 1 eviction of an entry, 2 directory error recall (04 R93, R95, R104). -/
  kind : Nat
  /-- line of an access (04 R93). -/
  line : Nat := 0
  /-- sector (04 R97). -/
  sector : Nat
  /-- way under eviction or recall (04 R95). -/
  key : Nat := 0
  /-- further ways of the sector that an error recall frees: those of the evictions and recalls widened into it, and the one that holds the sector (04 R104). -/
  more : List Nat := []
  /-- access served at its end, and those that a recall overtook (04 R93). -/
  accs : List Acc := []
  /-- a BIRspE has arrived (04 Table CD-4). -/
  anyE : Bool := false
  /-- a BIRspS has arrived (04 Table CD-4). -/
  anyS : Bool := false
  /-- time of its first snoop (04 R103). -/
  since : Nat
  deriving DecidableEq, Repr

/-- A snoop not yet answered (04 R102). -/
structure Snoop where
  /-- model's own number, in order of generation (model's own). -/
  id : Nat
  /-- transaction (04 R98). -/
  tx : Nat
  /-- agent slot (04 R92). -/
  slot : Nat
  /-- port (04 R102). -/
  port : Nat
  /-- agent source (04 R92). -/
  src : Nat
  /-- line (04 R92). -/
  line : Nat
  /-- 1 BISnpInv, 2 BISnpData, 3 BISnpCur (04 Table CD-3). -/
  kind : Nat
  /-- has left the port (04 R102). -/
  sent : Bool := false
  /-- a protocol-error response to it has arrived (04 R92). -/
  proto : Bool := false
  /-- accesses that entered before it was generated have lower numbers (04 R101). -/
  accMark : Nat := 0
  deriving DecidableEq, Repr

/-- A request in a retry store (04 R96). -/
structure Retry where
  /-- the request (04 R96). -/
  acc : Acc
  /-- time of entry (04 R96). -/
  since : Nat
  deriving DecidableEq, Repr

/-- Coherence directory (chapter 04) beside its registers. -/
structure Directory where
  /-- by slice × 786432 + set × 16 + way (04 R88). -/
  entries : AMap DirEntry := []
  /-- tree pseudo-LRU bits by slice × 49152 + set (04 R95). -/
  plru : AMap Nat := []
  /-- open transactions (04 R93). -/
  txs : List Tx := []
  /-- snoops not answered, in order of generation (04 R98). -/
  snoops : List Snoop := []
  /-- accesses waiting in conflict tables, in order of arrival (04 R93). -/
  waiting : List Acc := []
  /-- requests in retry stores, in order of arrival (04 R96). -/
  retry : List Retry := []
  /-- BIConflictAck owed: port, source, line, tag, and the number before which the agent's requests are answered first (04 R101). -/
  acks : List (Nat × Nat × Nat × Nat × Nat) := []
  /-- number of the next access (model's own). -/
  nextAcc : Nat := 1
  /-- number of the next transaction or snoop (model's own). -/
  nextId : Nat := 1
  /-- the domain-down walk runs (04 Table CD-5). -/
  walking : Bool := false
  /-- lines that were recall-pending when the domain went down (04 Table CD-5). -/
  walkLines : List Nat := []
  /-- DOMAIN_DOWN_RECORD: CAUSE, SLOT, PORT, SLICE, DPA, AT, STALE_MARKED; empty before the first (04 Table CD-6). -/
  downRec : List Nat := []
  deriving DecidableEq, Repr

/-- A line of byte-coded SRAM: a berth line that is not all zero or carries poison, or a line of the home cache (05 R131, 10 R233). -/
structure BerthLine where
  /-- data (05 R125). -/
  data : LineData := 0
  /-- poisoned bytes (10 R233). -/
  poison : ByteMask := 0
  deriving DecidableEq, Repr

/-- A home-cache sector (05 Table HC-1). -/
structure HcSector where
  /-- tag: the sector (05 R111). -/
  sector : Nat
  /-- line valid bits, 8 (05 R112). -/
  valid : Nat
  /-- its eight lines, with their poisoned bytes (05 R112, 10 R233). -/
  lines : List BerthLine
  deriving DecidableEq, Repr

/-- Errors of a way over the last 3600 operating seconds (05 R123). -/
structure WayErrs where
  /-- operating seconds of its uncorrectable errors (05 R123). -/
  unc : List Nat := []
  /-- operating seconds of its corrected errors (05 R123). -/
  corr : List Nat := []
  deriving DecidableEq, Repr

/-- A berth range in force (05 R127). -/
structure BerthRange where
  /-- BERTH_RANGE_BASE (05 R127). -/
  base : Nat := 0
  /-- BERTH_RANGE_SIZE (05 R127). -/
  size : Nat := 0
  /-- BERTH_RANGE_MODE (05 Table HC-2). -/
  mode : Nat := 0
  /-- BERTH_RANGE_EARLY_CMP (05 R127). -/
  early : Nat := 0
  /-- BERTH_RANGE_PORTS (05 R127). -/
  ports : Nat := 0
  deriving DecidableEq, Repr

/-- A mirror record (05 Table HC-5). -/
structure MirRec where
  /-- LINE: berth offset / 64 (05 Table HC-5). -/
  line : Nat
  /-- MASK (05 Table HC-5). -/
  mask : ByteMask
  /-- DATA (05 Table HC-5). -/
  data : LineData
  deriving DecidableEq, Repr

/-- A frame sent and not acknowledged (05 R135). -/
structure MirFrame where
  /-- SEQ (05 Table HC-4). -/
  seq : Nat
  /-- RESYNC_DATA rather than DATA (05 Table HC-4). -/
  resync : Bool
  /-- FLAGS SYNC (05 Table HC-4). -/
  sync : Bool
  /-- holds records of an asynchronous range (05 R137). -/
  async : Bool := false
  /-- records (05 Table HC-5). -/
  recs : List MirRec
  /-- time of its first sending (05 Table HC-6). -/
  at_ : Nat := 0
  /-- time since which it waits without an advance of ACK_SEQ (05 R135). -/
  last : Nat := 0
  deriving DecidableEq, Repr

/-- The berth mirror beside its registers (05 R133 to R141). -/
structure Mirror where
  /-- SEQ of the last frame sent (05 R134). -/
  txSeq : Nat := 0
  /-- highest ACK_SEQ received (05 R134). -/
  acked : Nat := 0
  /-- highest SEQ applied in order (05 R134). -/
  rxSeq : Nat := 0
  /-- frames applied and not yet acknowledged (05 R135). -/
  ackOwed : Bool := false
  /-- frames unacknowledged, oldest first (05 R135). -/
  unacked : List MirFrame := []
  /-- frames that wait for the window of 16,384 (05 R135). -/
  waitSend : List MirFrame := []
  /-- writes waiting for an acknowledgement: frame SEQ and write (05 R136). -/
  heldSync : List (Nat × Acc) := []
  /-- writes held ahead of the conflict table by MIRROR_LAG (05 R137). -/
  heldAsync : List Acc := []
  /-- pages whose resynchronisation bit is set, ascending (05 R139). -/
  bitmap : List Nat := []
  /-- pages of this resynchronisation not yet sent, ascending (05 R139). -/
  toSend : List Nat := []
  /-- pages resent in this resynchronisation (05 Table HC-7). -/
  sentPages : Nat := 0
  /-- a resynchronisation towards the peer runs (05 R139). -/
  resyncing : Bool := false
  /-- the peer has sent RESYNC_DONE in this session, or has nothing to send (05 R139). -/
  rxDone : Bool := true
  /-- the peer's PAIR_GENERATION at the last handshake (05 R133). -/
  peerGen : Nat := 0
  /-- the peer's range table: base, size, mode (05 R133). -/
  peerRanges : List (Nat × Nat × Nat) := []
  /-- pages resent whose copy is not acknowledged: page and its last frame (05 R139). -/
  inFlight : AMap Nat := []
  /-- a session has been up since the enable (05 Table HC-3). -/
  everUp : Bool := false
  /-- this module's nonce of the handshake under way (05 R133, 15 R350). -/
  nonce : BitVec 128 := 0
  /-- session key of the last session opened (05 R134, 15 R351). -/
  key : BitVec 256 := 0
  /-- the peer's generation was lower at a handshake, and no session has reached IN_SYNC since: the next resynchronises in full (05 R140). -/
  fullOwed : Bool := false
  /-- the minimum off time of 10 ms has passed since the stop (05 R141). -/
  offDone : Bool := true
  deriving DecidableEq, Repr

/-- Home cache, berths and mirror (chapter 05) beside their registers. -/
structure HomeCache where
  /-- by slice × 24576 + set × 16 + way (05 R111). -/
  sectors : AMap HcSector := []
  /-- tree pseudo-LRU bits by slice × 1536 + set (05 Table HC-1). -/
  plru : AMap Nat := []
  /-- by slice × 16 + way (05 R123). -/
  errs : AMap WayErrs := []
  /-- disabled ways that have passed the SRAM self-test since, slice × 16 + way (05 R124). -/
  passed : List Nat := []
  /-- thresholds of R123 met and reported by BERTH_WAY_FAILING: (slice × 16 + way) × 2, + 1 for the corrected errors' (05 R132). -/
  failingLogged : List Nat := []
  /-- berth ways of each slice, in berth order (05 R125). -/
  berthWays : AMap (List Nat) := []
  /-- berth way substitutions under way: slice, failing way, new way (05 R132). -/
  copies : List (Nat × Nat × Nat) := []
  /-- an HC_INVALIDATE runs (05 R121). -/
  invalidating : Bool := false
  /-- BERTH_WAYS of a grow under way (05 R125). -/
  growing : Option Nat := none
  /-- prefetch side buffer of each slice: sector and lines in arrival order (05 R117). -/
  pbuf : AMap (List (Nat × List StoredLine)) := []
  /-- stream trackers of each slice: sector of the last miss and its time, most recent first (05 R116). -/
  trackers : AMap (List (Nat × Nat)) := []
  /-- berth SRAM by line of the berth window (05 R125). -/
  berth : AMap BerthLine := []
  /-- berth ranges 1 to 8 in force (05 R127). -/
  ranges : AMap BerthRange := []
  /-- berth mirror (05 R133). -/
  mirror : Mirror := {}
  deriving DecidableEq, Repr

/-- The live entry of a line in the wharf (06 R144 to R146). -/
structure WEntry where
  /-- data bytes (06 R144). -/
  data : LineData
  /-- byte mask (06 R144). -/
  mask : ByteMask
  /-- POISON (06 R146). -/
  poison : Bool := false
  /-- MARKED (06 R146). -/
  marked : Bool := false
  /-- hidden from reads by a discard, slots not yet released (07 R186). -/
  hidden : Bool := false
  /-- staging order of the append (06 R149). -/
  seq : Nat
  /-- staging order of the oldest write merged in it (03 R72). -/
  first : Nat
  /-- position of its first slot in the slice's ring (06 R149). -/
  pos : Nat
  /-- restored by a flush-area replay (06 R164). -/
  replay : Bool := false
  deriving DecidableEq, Repr

/-- A stale marker of a sector (06 R146). -/
structure WMarker where
  /-- stale lines of the sector, 8 bits (06 R146). -/
  mask : Nat
  /-- staging order (06 R149). -/
  seq : Nat
  /-- position of its slot (06 R149). -/
  pos : Nat
  /-- restored by a flush-area replay (01 R25). -/
  replay : Bool := false
  /-- hidden by a discard (07 R186). -/
  hidden : Bool := false
  deriving DecidableEq, Repr

/-- A page descriptor of a lighter, with the progress of its page (06 Table WH-5). -/
structure PageDesc where
  /-- page (06 Table WH-5). -/
  pn : Nat
  /-- LINES, bit i for line i (06 Table WH-5). -/
  lines : Nat := 0
  /-- entries read in step 1: line and staging order (06 R157). -/
  seqs : List (Nat × Nat) := []
  /-- stale markers taken: sector and staging order (06 R157). -/
  markSeqs : List (Nat × Nat) := []
  /-- PLACE: data plate × 4 + page (06 Table WH-5). -/
  place : Nat := 0
  /-- MERGE (06 Table WH-5). -/
  merge : Bool := false
  /-- the merge or copy source has been read (06 R157). -/
  baseReady : Bool := false
  /-- lines of the merge base (06 R157). -/
  base : List (Nat × StoredLine) := []
  /-- MEDIA: the page is a copy of this physical page (06 Table WH-5). -/
  srcPpn : Option Nat := none
  /-- the copy re-encrypts under the domain's current key (10 R238). -/
  rekey : Bool := false
  /-- copy for 1 reclaim, 2 re-engraving, 3 rebuild, 4 rekey (07 R184). -/
  why : Nat := 0
  /-- the page as encrypted for its program, once that has begun (10 R236, R237). -/
  enc : Option StoredPage := none
  /-- STALE: markers present (06 Table WH-5). -/
  stale : Bool := false
  /-- POISON: a poisoned line present (06 Table WH-5). -/
  poison : Bool := false
  /-- the entries as read in step 1, by line (06 R157). -/
  ents : AMap WEntry := []
  /-- the masks of the markers as read in step 1, by sector (06 R157). -/
  marks : AMap Nat := []
  /-- descriptor cancelled (06 R157). -/
  cancelled : Bool := false
  /-- its journal record is committed (06 R157). -/
  committed : Bool := false
  deriving DecidableEq, Repr

/-- A lighter (06 R154, R155). -/
structure Lighter where
  /-- model's own number, in opening order (model's own). -/
  id : Nat
  /-- slice (06 R154). -/
  slice : Nat
  /-- PRIORITY 0 to 4 (06 Table WH-4). -/
  prio : Nat
  /-- 0 open, 1 closed, 2 executing (06 R154). -/
  state : Nat := 0
  /-- descriptors (06 Table WH-5). -/
  pages : List PageDesc := []
  /-- FLAGS DEGRADED (06 Table WH-4). -/
  degraded : Bool := false
  /-- FLAGS REPLAY (06 Table WH-4). -/
  replay : Bool := false
  /-- FLAGS PINNED (06 Table WH-4). -/
  pinned : Bool := false
  /-- FLAGS TIMED (06 Table WH-4). -/
  timed : Bool := false
  /-- GROUP while executing (06 Table WH-4). -/
  group : Nat := 0
  /-- STRIPE while executing (06 Table WH-4). -/
  stripe : Nat := 0
  /-- data plates still to program, bit per data plate (07 R171). -/
  plates : Nat := 0
  /-- data plates whose program has begun, bit per data plate (07 R193). -/
  programming : Nat := 0
  /-- verified plates held uncommitted by a full journal ring (07 R179). -/
  waitCommit : List Nat := []
  /-- what it holds: 0 host pages and copies; 1 pages of a segment's copy, for the checkpoint area; 2 a catalogue page, for the log area (07 R170, R178). -/
  area : Nat := 0
  /-- metadata pages it holds, LENGTH of one for the checkpoint or log area (06 R154, 07 R178). -/
  metaPages : Nat := 0
  /-- the parity program has been issued (07 R172). -/
  parityPending : Bool := false
  /-- OPENED (06 Table WH-4). -/
  openedAt : Nat := 0
  /-- CLOSED (06 Table WH-4). -/
  closedAt : Nat := 0
  /-- TRIM_MAX_LOOPS in force as a program began, by data plate, 15 parity (09 R218). -/
  trims : AMap Nat := []
  deriving DecidableEq, Repr

/-- The wharf (chapter 06) beside its registers. -/
structure Wharf where
  /-- live entry of each line (06 R144). -/
  entries : AMap WEntry := []
  /-- stale marker of each sector (06 R146). -/
  markers : AMap WMarker := []
  /-- staging order of the next append (06 R149). -/
  nextSeq : Nat := 1
  /-- ring tail of each slice, slots since the ring began (06 R149). -/
  tails : AMap Nat := []
  /-- presence counters by slice × 2^22 + counter; absent is 0 (06 R148). -/
  filter : AMap Nat := []
  /-- slices building a fresh filter (06 R148). -/
  rebuilding : List Nat := []
  /-- pages whose index record is being repaired (10 R231). -/
  badIndex : List Nat := []
  /-- pinned pages, oldest first (06 R157). -/
  pinned : List Nat := []
  /-- pages pinned since they were last drained (06 R157). -/
  everPinned : List Nat := []
  /-- lighters in opening order (06 R154). -/
  lighters : List Lighter := []
  /-- number of the next lighter (model's own). -/
  nextLighter : Nat := 0
  /-- writes held ahead of their conflict tables, and reads behind them, in arrival order (06 R160). -/
  held : List Acc := []
  /-- slices resetting their drain queue (06 R158). -/
  queueReset : List Nat := []
  /-- slices in an episode at their live limit (06 R149). -/
  sliceFull : List Nat := []
  /-- time since which occupancy is at or above 100 % (06 R160). -/
  fullSince : Option Nat := none
  /-- time of the latest P0 to P3 lighter taken, by slice (07 Table MT-8). -/
  busyAt : AMap Nat := []
  deriving DecidableEq, Repr

/-- A block set that is not FREE with erase count 0 (07 R167, Table MT-6). -/
structure SetRec where
  /-- set state (07 Table MT-6). -/
  state : Nat := 0
  /-- erase count of its members' first blocks; those of substituted ones stand in `own` (09 R224). -/
  erase : Nat := 0
  /-- slice that holds it open; 16 firmware's (07 R170). -/
  slice : Nat := 16
  /-- 0 host, 1 copies, 2 re-engraving, 3 checkpoint and log (07 R170). -/
  purpose : Nat := 0
  /-- stream placement: 0 any, 1 hot, 2 cold (07 R185). -/
  stream : Nat := 0
  /-- next stripe index to fill (07 R170). -/
  next : Nat := 0
  /-- operating seconds at opening (07 R185). -/
  openedAt : Nat := 0
  /-- equivalent-age clock at its first program (07 R183). -/
  eqBase : Nat := 0
  /-- a plate of it has been programmed since its reset (07 R183). -/
  firstDone : Bool := false
  /-- members whose block is retired and awaits substitution, bit per stack index (07 R192). -/
  retired : Nat := 0
  /-- VICTIM for 1 reclaim, 2 re-engraving, 3 rebuild, 4 unprotected stripe (07 R182). -/
  why : Nat := 0
  /-- 0 none, 1 due, 2 overdue for re-engraving (08 R209). -/
  due : Nat := 0
  /-- due whatever its age, by soft reads or a retired member (08 R210, 09 R222). -/
  forced : Bool := false
  /-- REENGRAVE_OVERDUE has been logged for it (08 R209). -/
  lateLogged : Bool := false
  /-- operating seconds of sector reads that reached rung 2 or higher within the last 3600 (08 R210). -/
  softAt : List Nat := []
  /-- spare blocks substituted for members, BLOCK by stack index (07 R167). -/
  blocks : AMap Nat := []
  /-- erase counts of the substituted blocks by stack index; the set's own blocks count `erase` (09 R224). -/
  own : AMap Nat := []
  /-- spare blocks given to retired members, to be substituted at the next reset, BLOCK by stack index (07 R192). -/
  spareFor : AMap Nat := []
  deriving DecidableEq, Repr

/-- A stripe with at least one plate programmed (07 R168, R172). -/
structure StripeRec where
  /-- stack indices of the live members when the stripe was laid out (07 R168). -/
  live : List Nat := []
  /-- data plates verified and in the accumulator, bit per stack index (07 R172). -/
  verified : Nat := 0
  /-- SEAL committed (07 R172). -/
  sealed : Bool := false
  /-- MEMBERS of the SEAL (07 R172). -/
  members : Nat := 0
  /-- parity stack index (07 R168). -/
  parity : Nat := 0
  /-- UNPROTECT committed (07 R193). -/
  unprotected : Bool := false
  /-- members lost beyond reconstruction, bit per stack index (07 R191). -/
  lost : Nat := 0
  /-- operating seconds of its first program (07 R183). -/
  programmedAt : Nat := 0
  deriving DecidableEq, Repr

/-- A committed journal record (07 R174, Table MT-4). -/
structure JRec where
  /-- JPOS (07 R174). -/
  jpos : Nat
  /-- KIND (07 Table MT-5). -/
  kind : Nat
  /-- A (07 Table MT-5). -/
  a : Nat
  /-- B (07 Table MT-5). -/
  b : Nat
  /-- C (07 Table MT-5). -/
  c : Nat
  deriving DecidableEq, Repr

/-- A complete copy of a map segment in a checkpoint area (07 R178). -/
structure SegCopy where
  /-- 1 area A, 2 area B (07 R178). -/
  area : Nat
  /-- FRONTIER (07 Table MT-7). -/
  frontier : Nat
  /-- mapped pages of the segment and their physical page numbers (07 Table MT-7). -/
  entries : AMap Nat
  /-- the copy reads back whole (07 R180). -/
  crcOk : Bool := true
  /-- FRONTIER of the chunks whose pages changed while the copy was written, by chunk; the others have the copy's (07 Table MT-7). -/
  chunks : AMap Nat := []
  /-- SETSNAP (07 Table MT-7). -/
  snapSeq : Nat := 0
  deriving DecidableEq, Repr

/-- The rebuild of a parity group (07 R188). -/
structure Rebuild where
  /-- a rebuild runs (07 R188). -/
  running : Bool := false
  /-- it waits for a stripe to be openable (07 R190). -/
  held : Bool := false
  /-- pages rebuilt so far (07 R188). -/
  pages : Nat := 0
  /-- operating seconds at its start (07 R188). -/
  since : Nat := 0
  deriving DecidableEq, Repr

/-- A set snapshot in the log area (07 R179, R180). -/
structure SetSnap where
  /-- its sequence, SETSNAP of Table MT-7 (07 R178). -/
  seq : Nat := 0
  /-- JPOS of the next record as it was taken; records at or after it are not reflected (07 R180). -/
  jpos : Nat := 0
  /-- operating second at which it was taken (08 R206). -/
  at_ : Nat := 0
  /-- set records, erase counts with them (07 R179, 09 R224). -/
  sets : AMap SetRec := []
  /-- stripe records, STRIPE_TIME with them (07 R179, 08 R206). -/
  stripes : AMap StripeRec := []
  /-- EQ_CLOCK snapshots of operating minutes by die path (08 R205). -/
  minutes : AMap (List (Nat × Nat)) := []
  /-- EQ_CLOCK snapshots of operating hours by die path (08 R205). -/
  hours : AMap (List (Nat × Nat)) := []
  deriving DecidableEq, Repr

/-- The checkpoint of the map under way, and the set snapshot of the latest round (07 R178, R179). -/
structure Ckpt where
  /-- the segment being copied; the slot of its older copy is the checkpoint area's open set (07 R170, R178). -/
  seg : Option Nat := none
  /-- JPOS of the next record as the copy began, the lowest FRONTIER of the copy (07 R178). -/
  start : Nat := 0
  /-- lighters of the copy executed: the next stripe of the checkpoint area's open set, the catalogue page after the last (07 R170, R178). -/
  stripe : Nat := 0
  /-- the slot of the older copy has been reset (07 R178 step 1). -/
  ready : Bool := false
  /-- a plate of the lighter under way was voided (07 Table MT-9). -/
  lost : Bool := false
  /-- stripes of the log area written: the next one of its open set (07 R170). -/
  logStripe : Nat := 0
  /-- the latest valid set snapshot (07 R180). -/
  snap : SetSnap := {}
  deriving DecidableEq, Repr

/-- Media translation (chapter 07) beside its registers. -/
structure Media where
  /-- page to physical page number; an absent page is UNMAPPED (07 R173). -/
  map : AMap Nat := []
  /-- chunks under repair, and the time at which the repair began (07 R181). -/
  badMap : AMap Nat := []
  /-- segments without a valid copy (07 R180). -/
  lostSegs : List Nat := []
  /-- chunks whose pages read poison (07 R180, R181). -/
  badChunks : List Nat := []
  /-- pages of lost chunks and segments that have been mapped or unmapped since (07 R175). -/
  regained : List Nat := []
  /-- what each physical page holds (07 R166). -/
  store : AMap StoredPage := []
  /-- sets by GROUP × 2^20 + set number, where not FREE with erase count 0 (07 R167). -/
  sets : AMap SetRec := []
  /-- stripes by GROUP × 2^28 + stripe number (07 R168). -/
  stripes : AMap StripeRec := []
  /-- records of the ring, newest first (07 R174). -/
  journal : List JRec := []
  /-- the second copies of the records, in the metadata allocation on another HBM stack (10 R232). -/
  journal2 : List JRec := []
  /-- JPOS of the records whose first copy is uncorrectable (10 R232). -/
  jbad : List Nat := []
  /-- JPOS of the next record (07 R174). -/
  jnext : Nat := 0
  /-- the ring has no free position and commits wait (07 R179). -/
  jfull : Bool := false
  /-- time at which the ring filled (07 R179). -/
  jfullSince : Nat := 0
  /-- copies of each segment, newest first (07 R178). -/
  segs : AMap (List SegCopy) := []
  /-- a checkpoint of every segment is running (10 R232). -/
  ckptAll : Bool := false
  /-- segments written in that round (10 R232). -/
  ckptDone : List Nat := []
  /-- dies that are dead, by path (07 R187). -/
  deadDies : List Nat := []
  /-- stacks that are dead, by path (07 R187). -/
  deadStacks : List Nat := []
  /-- stacks unavailable: bank off, load switch tripped, loopback (07 R187). -/
  offStacks : List Nat := []
  /-- spare blocks used, by die path (07 R167). -/
  spares : AMap Nat := []
  /-- blocks that became spare when their set was retired whole, by die path (07 R167). -/
  donated : AMap (List Nat) := []
  /-- HBM page read cache: the eight lines of each sector held (01 R17). -/
  pcache : AMap (List StoredLine) := []
  /-- group 1 (07 R188). -/
  rebuild1 : Rebuild := {}
  /-- group 2 (07 R188). -/
  rebuild2 : Rebuild := {}
  /-- row of Table MT-8 in force, group 1 (07 R182). -/
  reclaimStep1 : Nat := 0
  /-- row of Table MT-8 in force, group 2 (07 R182). -/
  reclaimStep2 : Nat := 0
  /-- plates programmed over the last 3600 s: operating second, and 2 × group index + 1 for a plate of host drain (07 Table MT-10). -/
  plates : List (Nat × Nat) := []
  /-- records that wait for a free position of the ring, oldest first: KIND, A, B, C (07 R179). -/
  jwait : List (Nat × Nat × Nat × Nat) := []
  /-- the checkpoint under way and the latest set snapshot (07 R178, R179). -/
  ckpt : Ckpt := {}
  /-- resets of each flush buffer's sets, an erase count that their blocks share (09 R224, 11 R271). -/
  flushErase : AMap Nat := []
  /-- by group index since its reclaim row changed: lighters executed, and those of them that foreground reclaim and overdue re-engraving formed (07 R182,
  08 R209). -/
  shares : AMap (Nat × Nat × Nat) := []
  deriving DecidableEq, Repr

/-- What a media sector read is for (08 R199, 06 R157, 07 R184). -/
inductive ReadWhy where
  | demand | merge | copy | rekeyScan | scrub | prefetch | fill | proof
  deriving DecidableEq, Repr

/-- A sector read under way at the media (08 R199 to R208). -/
structure MediaRead where
  /-- model's own number, in issue order (model's own). -/
  id : Nat
  /-- purpose (08 R199). -/
  why : ReadWhy
  /-- accesses waiting for the sector, first the one that asked (08 R208). -/
  accs : List Acc := []
  /-- lighter of a merge or copy read; domain of a rekey scan (06 R157, 10 R238). -/
  lighter : Nat := 0
  /-- slice of a prefetch read (05 R116). -/
  slice : Nat := 0
  /-- page (08 R208). -/
  pn : Nat
  /-- sector index within the page, 0 to 7 (08 R208). -/
  sector : Nat
  /-- physical page named by the map at entry (10 R248). -/
  ppn : Nat
  /-- 0 plane found busy, estimate awaited; 1 sensing or queued at the die; 2 member reads; 3 decoded, tag check awaited (08 R200). -/
  stage : Nat := 0
  /-- rung of the retry ladder (08 R208). -/
  rung : Nat := 0
  /-- the plate lies on a dead or unavailable member (08 R204). -/
  degraded : Bool := false
  /-- a degraded read has repeated its member reads (08 R208). -/
  repeated : Bool := false
  /-- served by read-around (08 R201). -/
  around : Bool := false
  /-- the read-around branch is removed (08 R208). -/
  noAround : Bool := false
  /-- stack indices whose member reads are outstanding (08 R201). -/
  members : List Nat := []
  /-- drift bin (08 R207). -/
  bin : Nat := 0
  /-- read offsets of its senses at the rung it is on: references A, B, C of each sense in turn (08 R207, 09 Table AG-4). -/
  refs : List Int := []
  /-- the controller has decided on its suspend estimate (08 R200). -/
  decided : Bool := false
  /-- sent before its tag check ended (10 R242). -/
  delivered : Bool := false
  /-- what the physical page held when the read was issued (01 R17). -/
  page : Option StoredPage := none
  deriving DecidableEq, Repr

/-- A program or reset that has been suspended (08 R200, R202). -/
structure PlaneOp where
  /-- 1 program, 2 reset (08 R202). -/
  kind : Nat
  /-- parked now (08 R200). -/
  suspended : Bool := false
  /-- suspended for four times its typical duration in all (08 R202). -/
  overdue : Bool := false
  deriving DecidableEq, Repr

/-- LONG_WAITS window of a stack (08 R203). -/
structure StackWin where
  /-- demand reads in the current window of 2^24 (08 R203). -/
  reads : Nat := 0
  /-- long waits in it (08 R203). -/
  long : Nat := 0
  /-- operating seconds at entry to fine-suspend mode (08 R203). -/
  fineAt : Nat := 0
  /-- long waits of the last window that ended (08 R203). -/
  last : Nat := 0
  /-- a window has ended with more than FINE_ENTER long waits, not yet acted on (08 R203). -/
  endedOver : Bool := false
  /-- operating seconds at the end of the last window above FINE_ENTER (08 R203). -/
  overAt : Nat := 0
  deriving DecidableEq, Repr

/-- Latency window of a path (08 R203). -/
structure LatWin where
  /-- counted accesses in the current window (08 R203). -/
  count : Nat := 0
  /-- of them, above the bound (08 Table ML-8). -/
  late : Nat := 0
  /-- the 17 largest latencies of the window in ns, largest first (08 R203). -/
  top : List Nat := []
  deriving DecidableEq, Repr

/-- Media reads and drift (chapter 08) beside its registers. -/
structure Latency where
  /-- sector reads under way, in issue order (08 R199). -/
  reads : List MediaRead := []
  /-- number of the next read (model's own). -/
  nextRead : Nat := 0
  /-- suspended or overdue operations by die path × 4 + plane (08 R200). -/
  ops : AMap PlaneOp := []
  /-- programs and resets issued to each plane and not ended, in the order of issue: 2 × stripe, or 2 × set + 1 (08 R199). -/
  queues : AMap (List Nat) := []
  /-- times of member reads served by each stack within its last 1024 read slots (08 R201). -/
  budget : AMap (List Nat) := []
  /-- windows by stack path (08 R203). -/
  wins : AMap StackWin := []
  /-- windows by path 1 to 4 (08 R203). -/
  lat : AMap LatWin := []
  /-- groups in an overload episode (08 R204). -/
  overloaded : List Nat := []
  /-- EQ_CLOCK snapshots at operating minutes by die path, newest first, 1440 at most (08 R205). -/
  minutes : AMap (List (Nat × Nat)) := []
  /-- EQ_CLOCK snapshots at operating hours by die path, newest first, 65,536 at most (08 R205). -/
  hours : AMap (List (Nat × Nat)) := []
  /-- thousandths of an equivalent second not yet in EQ_CLOCK, by die path (08 R205). -/
  eqFrac : AMap Nat := []
  deriving DecidableEq, Repr

/-- A die record of a margin plan (09 Table AG-4). The defaults are the factory plan's stated values (09 R216); its other fields have none. -/
structure DieRec where
  /-- OFFSET, 27 values (09 Table AG-4). -/
  offsets : List Int
  /-- SOFT_STEP (09 Table AG-4). -/
  softStep : Nat
  /-- PROBE_STEP (09 Table AG-4). -/
  probeStep : Nat
  /-- MARGIN_FLOOR (09 R216). -/
  marginFloor : Nat := 4
  /-- RETIRE_MARGIN (09 R216). -/
  retireMargin : Nat := 1
  /-- HORIZON (09 R216). -/
  horizon : Nat := 7776000
  /-- T_REF, 0.01 °C (09 R216). -/
  tRef : Nat := 4000
  /-- DOUBLING, 0.01 °C (09 R216). -/
  doubling : Nat := 1000
  /-- TRIM_START (09 Table AG-4). -/
  trimStart : Nat
  /-- TRIM_STEP (09 Table AG-4). -/
  trimStep : Nat
  /-- TRIM_MAX_LOOPS (09 Table AG-4). -/
  trimMax : Nat
  /-- VERIFY_OFFSET, 3 values (09 Table AG-4). -/
  verify : List Int
  deriving DecidableEq, Repr

/-- A margin plan (09 R216). -/
structure Plan where
  /-- PLAN_ID, 0 the factory plan (09 R216). -/
  id : Nat := 0
  /-- CRC (09 Table AG-3). -/
  crc : Nat := 0
  /-- BASIS_ID (09 Table AG-3). -/
  basis : Nat := 0
  /-- die records in order; empty for the factory plan (09 R216). -/
  dies : List DieRec := []
  deriving DecidableEq, Repr

/-- A proof pass running on a die (09 R213, R222). -/
structure ProofPass where
  /-- a confirmatory pass (09 R222). -/
  confirm : Bool
  /-- sample reads still outstanding (09 R213). -/
  left : Nat
  /-- samples dropped (09 R213). -/
  dropped : Nat := 0
  /-- the samples drawn and not dropped: physical page × 8 + sector, and drift bin (09 R213). -/
  picks : List (Nat × Nat) := []
  deriving DecidableEq, Repr

/-- What a die's ageing is judged by (09 R212, R226). -/
structure DieLife where
  /-- resets of its blocks in all (09 R224). -/
  eraseSum : Nat := 0
  /-- resets of its spare blocks by self-tests, by BLOCK (09 R224, 18 R396). -/
  tested : AMap Nat := []
  /-- verify-loop histogram of the hour, 16 buckets (09 Table AG-1). -/
  loops : List Nat := []
  /-- verify loops of the hour in all (09 R226). -/
  loopSum : Nat := 0
  /-- plate programs of the hour (09 R226). -/
  loopCount : Nat := 0
  /-- hourly operating second, resets of the die and spares used, newest first over 30 days (09 R226). -/
  hist : List (Nat × Nat × Nat) := []
  /-- operating second and worst-bin margin of the passes of the last 30 days, newest first (09 R226). -/
  margins : List (Nat × Nat) := []
  deriving DecidableEq, Repr

/-- A measurement record (09 Table AG-2). -/
structure Meas where
  /-- KIND (09 Table AG-2). -/
  kind : Nat
  /-- PLAN_SLOT (09 Table AG-2). -/
  planSlot : Nat
  /-- INDEX (09 Table AG-2). -/
  index : Nat
  /-- UNIT (09 Table AG-2). -/
  unit : Nat
  /-- AT (09 Table AG-2). -/
  at_ : Nat
  /-- SAMPLES (09 Table AG-2). -/
  samples : Nat
  /-- PAYLOAD (09 Table AG-2). -/
  payload : List Byte
  deriving DecidableEq, Repr

/-- Self-measurement, margin plans and wear (chapter 09) beside its registers. -/
structure Ageing where
  /-- active plan (09 R216). -/
  active : Plan := {}
  /-- previous plan (09 R216). -/
  previous : Option Plan := none
  /-- the log area's plans, newest first, each in two copies: those of the pair in force and the one before it (09 R219). -/
  planLog : List (Plan × Plan) := []
  /-- the plan on its way to the base dies, and whether a rollback (09 R218). -/
  applying : Option (Plan × Bool) := none
  /-- proof passes by die path (09 R213). -/
  passes : AMap ProofPass := []
  /-- blocks marked for confirmation: die path, block, bin (09 R222). -/
  marked : List (Nat × Nat × Nat) := []
  /-- measurement log, position and record, newest first (09 R215). -/
  log : List (Nat × Meas) := []
  /-- position of the next record (09 R215). -/
  next : Nat := 0
  /-- by die path (09 R226). -/
  dies : AMap DieLife := []
  /-- efficiency samples of the hour by rail: count, output and input power sums (09 Table AG-1). -/
  effSum : AMap (Nat × Nat × Nat) := []
  /-- corrected errors of the hour, by HBM stack × 16 + channel (from 0), or 1024 + slice × 16 + way (09 Table AG-1). -/
  corrHour : AMap Nat := []
  /-- dies whose pass a PROOF_NOW still waits for, by the unit it names (09 R228). -/
  proofNow : AMap (List Nat) := []
  /-- hourly operating second and HOLDUP_ENERGY over 30 days, newest first (09 R227). -/
  energyHist : List (Nat × Nat) := []
  /-- hourly operating second, spares used in groups 1 and 2, newest first (09 R227). -/
  spareHist : List (Nat × Nat × Nat) := []
  /-- hourly operating second and resets of every die, newest first over 30 days (09 R227). -/
  wearHist : List (Nat × Nat) := []
  /-- LIFE_90 has been logged (09 R227). -/
  life90 : Bool := false
  /-- HOLDUP_BOL has been measured (09 R227). -/
  bolSet : Bool := false
  deriving DecidableEq, Repr

/-- Keys of a domain beside its registers (10 R238). -/
structure KeyDom where
  /-- key number of the current key (10 R238). -/
  cur : Option Nat := none
  /-- key number of the previous key while ROTATING (10 R238). -/
  prev : Option Nat := none
  /-- page number the rekey pass reaches next (10 R238). -/
  pos : Nat := 0
  /-- position last recorded in the log area (10 R238). -/
  saved : Nat := 0
  /-- pages rewritten by the pass (10 Table DP-9). -/
  rewritten : Nat := 0
  /-- operating seconds at KEY_ROTATE (10 Table DP-9). -/
  since : Nat := 0
  deriving DecidableEq, Repr

/-- INTEGRITY_RECORD (10 Table DP-6). -/
structure IntegrityRec where
  /-- CAUSE (10 Table DP-6). -/
  cause : Nat := 0
  /-- FLAGS DELIVERED (10 Table DP-6). -/
  delivered : Bool := false
  /-- FLAGS MARKED_ENTRIES (10 Table DP-6). -/
  markedEntries : Bool := false
  /-- PORT (10 Table DP-6). -/
  port : Nat := 0
  /-- SLICE (10 Table DP-6). -/
  slice : Nat := 0
  /-- page of DPA (10 Table DP-6). -/
  pn : Nat := 0
  /-- PPN (10 Table DP-6). -/
  ppn : Nat := 0
  /-- SECTOR (10 Table DP-6). -/
  sector : Nat := 0
  /-- WSEQ (10 Table DP-6). -/
  wseq : Nat := 0
  /-- DOMAIN (10 Table DP-6). -/
  domain : Nat := 0
  /-- RECOVERY (10 Table DP-6). -/
  recovery : Nat := 0
  /-- AT (10 Table DP-6). -/
  at_ : Nat := 0
  deriving DecidableEq, Repr

/-- A running scrub (10 R246). -/
structure Scrub where
  /-- TARGET (10 R246). -/
  target : Nat
  /-- first byte (10 R246). -/
  base : Nat
  /-- bytes (10 R246). -/
  size : Nat
  /-- operating seconds at start (10 Table DP-7). -/
  started : Nat
  /-- time at start (10 Table DP-7). -/
  startedNow : Nat
  /-- command object's unit (10 R246). -/
  unit : Nat := 0
  deriving DecidableEq, Repr

/-- Corrected reads of a word group within the last 3600 operating seconds (10 R245). -/
structure WordGroupErrs where
  /-- operating seconds of the reads (10 R245). -/
  times : List Nat := []
  deriving DecidableEq, Repr

/-- Data protection (chapter 10) beside its registers. -/
structure Protect where
  /-- WSEQ, the module's write sequence (10 R237). -/
  wseq : Nat := 0
  /-- reserved limit in the harbourmaster store (10 R237). -/
  wseqLimit : Nat := 4294967296
  /-- WSEQ_END reached: drain stopped encrypting, bulk writes held (10 R237). -/
  wseqEnded : Bool := false
  /-- key domains 1 to 64 (10 R238). -/
  doms : AMap KeyDom := []
  /-- live keys by key number (10 R238). -/
  keys : AMap (BitVec 256) := []
  /-- number of the next key drawn (model's own). -/
  nextKey : Nat := 1
  /-- custodian key (10 R240). -/
  custodian : Option (BitVec 256) := none
  /-- dump key of flush buffer 0, none once destroyed (10 R241). -/
  dumpKey0 : Option (BitVec 256) := none
  /-- dump key of flush buffer 1 (10 R241). -/
  dumpKey1 : Option (BitVec 256) := none
  /-- INTEGRITY_RECORD (10 R243). -/
  integrity : IntegrityRec := {}
  /-- the dump of the integrity halt is complete (10 R243). -/
  dumpDone : Bool := false
  /-- INTEGRITY_RECOVER accepted, warm reset awaited (10 R244). -/
  recoverAccepted : Bool := false
  /-- the recovery choice is to be applied at the next LOADING (10 R244). -/
  recoverOwed : Bool := false
  /-- corrected reads by word group (10 R245). -/
  errCounts : AMap WordGroupErrs := []
  /-- channels and slices whose table has been reported full (10 R245). -/
  remapFull : List Nat := []
  /-- lines whose stale marker a key destruction has dropped, which STALE_LINES counts until they are rewritten or discarded (10 R239). -/
  staleKept : List Nat := []
  /-- the running scrub (10 R246). -/
  scrub : Option Scrub := none
  /-- protected ranges in force: base and size by number (10 R247). -/
  protApplied : AMap (Nat × Nat) := []
  /-- sectors that have ended at rung 4, by physical page × 8 + sector: poisoned for every read until the page is rewritten, discarded or relocated (08 R208). -/
  poisonAt : List Nat := []
  /-- sectors whose lines INTEGRITY_RECOVER has marked poisoned, by physical page × 8 + sector: read as poisoned, without a tag check (10 R244). -/
  markedAt : List Nat := []
  /-- copies in the log area of what the KEYS and PREV_KEYS records hold (10 R240). -/
  keyLog : List Byte × List Byte := ([], [])
  deriving DecidableEq, Repr

/-- The dump in a flush buffer (11 R268, R272, Table PW-7). -/
structure Dump where
  /-- DUMP_SEQ (11 Table PW-7). -/
  seq : Nat
  /-- CAUSE (11 Table PW-7). -/
  cause : Nat
  /-- LATCHES (11 Table PW-7). -/
  latches : Nat := 0
  /-- AT (11 Table PW-7). -/
  at_ : Nat := 0
  /-- POWER_CYCLE (11 Table PW-7). -/
  cycle : Nat := 0
  /-- the seal is programmed and verified (11 R272). -/
  sealed : Bool := true
  /-- it continues in the other buffer (11 R271). -/
  spill : Bool := false
  /-- numbers of the stores it holds (11 Table PW-7). -/
  stores : List Nat := []
  /-- wharf entries (06 R164). -/
  entries : AMap WEntry := []
  /-- stale markers (06 R164). -/
  markers : AMap WMarker := []
  /-- combining buffers (11 R268). -/
  cb : AMap CbEntry := []
  /-- journal tail, newest first (11 R268). -/
  tail : List JRec := []
  /-- position of the next record (07 R174). -/
  jnext : Nat := 0
  /-- stripes whose parity accumulators it holds (11 R268). -/
  accs : List Nat := []
  /-- BERTH_WAYS at the dump (05 R125). -/
  ways : Nat := 0
  /-- berths (05 R130). -/
  berth : AMap BerthLine := []
  /-- resynchronisation bitmap (05 R130). -/
  bitmap : List Nat := []
  /-- recorder buffer, newest first (16 R373). -/
  recs : List (Nat × EvRec) := []
  /-- position of the next record (16 R373). -/
  recNext : Nat := 0
  deriving DecidableEq, Repr

/-- A flush or power-down under way (11 R268 to R270). -/
structure Flush where
  /-- CAUSE, 0 where nothing is flushed (11 Table PW-7). -/
  cause : Nat
  /-- MODULE_STATE at detection (16 Table HM-3). -/
  state : Nat
  /-- operating seconds at detection (11 Table PW-10). -/
  at_ : Nat
  /-- 0 nothing dumped, 1 every store, 2 berths, bitmap and recorder, 3 recorder (11 Table PW-6). -/
  what : Nat
  /-- it ends in LATCHED_OFF (11 R269, 13 R311). -/
  latchOff : Bool := false
  /-- VIN at detection, mV (16 Table HM-3). -/
  vin : Nat := 0
  /-- V_HOLD at detection, mV (11 Table PW-10). -/
  vhold : Nat := 0
  /-- root TEMP_MAX at detection (16 Table HM-3). -/
  tempMax : Nat := 0
  deriving DecidableEq, Repr

/-- Input, rails and hold-up (chapter 11) beside their registers. -/
structure PowerUnit where
  /-- the ORing switches are open (11 R268). -/
  orOpen : Bool := true
  /-- the hold-up converter regulates V_BUS from the bank (11 R253). -/
  discharging : Bool := false
  /-- input phases lost during a flush, whose PHASE_LOST the next start logs (11, corner cases). -/
  owedPhases : List Nat := []
  /-- input phases lost, 1 and 2 (11 R252). -/
  lostPhases : List Nat := []
  /-- milliseconds for which input power has stayed below 95 % of the cap (11 R251). -/
  under : Nat := 0
  /-- PMBus devices unreachable, by address (11 R257). -/
  unreachable : List Nat := []
  /-- successive readings discarded, by rail (11 R257). -/
  badReads : AMap Nat := []
  /-- rails whose readings are marked FAILED (11 R257). -/
  failedReads : List Nat := []
  /-- rails that are on with power-good (11 R262). -/
  railsUp : List Nat := []
  /-- failed sequencing attempts in this input application (01 Table AX-8). -/
  seqTries : Nat := 0
  /-- sequencing is complete and the controller is held in reset by MRST_N (12 R282). -/
  seqDone : Bool := false
  /-- retry attempts of the fault episode by rail, or by load-switch path (11 R259). -/
  attempts : AMap Nat := []
  /-- rails, or load-switch paths, turned off for a retry (11 R259). -/
  retryWait : List Nat := []
  /-- times of raw deassertions of the last millisecond, or of the sequencing step, by rail (11 R258). -/
  rawPg : AMap (List Nat) := []
  /-- up step under way in SEQUENCING (11 R262). -/
  step : Nat := 0
  /-- STATUS_WORD last polled, by rail (11 R257). -/
  statusWords : AMap Nat := []
  /-- failures of the PMBus transaction under way, by device address (11 R257). -/
  pmTries : AMap Nat := []
  /-- stacks whose load switch is off, by path (11 R255). -/
  switchOff : List Nat := []
  /-- banks 0 to 3 whose minimum off time runs (11 R261). -/
  bankMin : List Nat := []
  /-- banks turned on whose links have not trained (11 R260). -/
  bankLink : List Nat := []
  /-- the bank is at 56.0 V (11 R264). -/
  charged : Bool := false
  /-- a hold-up discharge runs (11 R265). -/
  measuring : Bool := false
  /-- its v_end in mV (11 R265). -/
  measEnd : Nat := 48000
  /-- a measurement waits for full charge or for the lowered cap (11 R265). -/
  measDue : Bool := false
  /-- operating seconds at which a deferral began (11 R266). -/
  deferSince : Option Nat := none
  /-- the start measurement has set DIRTY_CAP (11 R264). -/
  measured : Bool := false
  /-- t_meas in 0.01 °C (06 R151). -/
  tMeas : Int := 2500
  /-- the recharge after a measurement runs, in which HOLDUP_ENERGY stands (11 R266). -/
  recharge : Bool := false
  /-- V_HOLD has exhausted its retries (11 R266). -/
  bankDead : Bool := false
  /-- DIRTY_CAP is 0 by its floor (06 R152). -/
  lowNoted : Bool := false
  /-- the flush or power-down under way (11 R268). -/
  flush : Option Flush := none
  /-- contents of flush buffer 0 (11 R271). -/
  dump0 : Option Dump := none
  /-- contents of flush buffer 1 (11 R271). -/
  dump1 : Option Dump := none
  /-- a dump has been replayed and its buffers are not released (11 R271). -/
  replayed : Bool := false
  /-- journal position at which every replayed line had drained (01 R25). -/
  drainedAt : Option Nat := none
  /-- FLUSH_AREA_PENDING stands (11 R271). -/
  pendingNoted : Bool := false
  /-- VIN is within 6.0 to 60.0 V (11 R269). -/
  vinGood : Bool := false
  /-- VIN has been below 4.0 V for 2 s since LATCHED_OFF was entered (01 Table AX-8). -/
  vinRemoved : Bool := true
  /-- PWRFAIL_N is asserted (14 R323). -/
  pwrfailLow : Bool := false
  /-- the newest dump is written but unsealed (11 R273). -/
  incomplete : Bool := false
  /-- VIN samples of the last second, one each 100 ms, newest first (11 R267). -/
  vinWindow : List Nat := []
  deriving DecidableEq, Repr

/-- Clocks, resets and power states (chapter 12) beside their registers. -/
structure Clocks where
  /-- the J1 copy of REFCLK is lost (12 R279, 14 R328). -/
  lost1 : Bool := false
  /-- the J2 copy of REFCLK is lost (14 R328). -/
  lost2 : Bool := false
  /-- time at which the backup reference was taken (12 Table CS-13). -/
  lostAt : Nat := 0
  /-- firmware runs (18 R404). -/
  fwRunning : Bool := false
  /-- HBM is trained (12 R300). -/
  hbmTrained : Bool := false
  /-- media links are trained (12 R300). -/
  linksTrained : Bool := false
  /-- the start waits at the end of BOOTING (18 R399). -/
  bootHeld : Bool := false
  /-- the map step of LOADING is done (12 R300). -/
  mapLoaded : Bool := false
  /-- the flush-area replay step is done (12 R300). -/
  replayDone : Bool := false
  /-- time at which the start or wake step under way began (12 R300). -/
  stepAt : Nat := 0
  /-- service reset under way: 0 none, 6 by MRST_N, 7 by WARM_RESET (12 R284). -/
  reset_ : Nat := 0
  /-- MRST_N is low since its last acceptance (12 R282). -/
  mrstLow : Bool := false
  /-- operating seconds of the watchdog restarts of the last 3600 (12 R286). -/
  wdTimes : List Nat := []
  /-- a watchdog restart runs and firmware duties pause (12 R286). -/
  wdRunning : Bool := false
  /-- time of the last CXL.mem traffic (12 R289). -/
  trafficAt : Nat := 0
  /-- media stacks and HBM are leaving standby (12 R289). -/
  p2Exit : Bool := false
  /-- target of the entry under way or of the state entered: 3 or 4 (12 R290). -/
  target : Nat := 0
  /-- a wake waits for the end of the entry (12 R299). -/
  wakeQueued : Bool := false
  /-- the minimum off time of the state has passed (12 Table CS-10). -/
  offDone : Bool := true
  /-- wake step under way: 0 none, 1 regulator, 2 oscillator, 3 memory, 4 logic, 5 links, 6 map and replay, 7 the hold-up gate (12 Table CS-8). -/
  wakeStep : Nat := 0
  /-- gates that a reset opened during a freeze (12 R280): 0 the five management cores, 1 to 6 a block, 100 + n a port's controller. -/
  opened : List Nat := []
  /-- time at which the power state was entered (12 R297). -/
  resAt : Nat := 0
  deriving DecidableEq, Repr

/-- A temperature sensor (13 R302, R303, R306, R310). -/
structure Sensor where
  /-- its temperature in each of the last 251 ms in 0.01 °C, newest first: the last accepted reading where one was discarded (13 R306). -/
  hist : List Int := []
  /-- its previous reading (13 R303). -/
  last : Option Int := none
  /-- successive discarded readings (13 R303). -/
  bad : Nat := 0
  /-- FAILED (13 R303). -/
  failed : Bool := false
  /-- successive readings at or above critical (13 R310). -/
  crit : Nat := 0
  /-- sum of the readings of the operating second under way (08 R205). -/
  sum : Int := 0
  /-- readings of the operating second under way (08 R205). -/
  count : Nat := 0
  /-- successive evaluations whose 20 ms rise exceeded 0.3 °C (13 R310). -/
  fast : Nat := 0
  deriving DecidableEq, Repr

/-- A governed part (13 R304 to R306). -/
structure Part where
  /-- at its warning level (13 R304). -/
  warn : Bool := false
  /-- highest step entered and not left (13 R304). -/
  steps : Nat := 0
  /-- carries a rate boost (13 R306). -/
  boost : Bool := false
  /-- milliseconds for which the rise has stayed at or below 1.0 °C (13 R306). -/
  calm : Nat := 0
  /-- time and hottest working reading of the last 1000 samples, newest first (15 Table OD-5). -/
  maxes : List (Nat × Int) := []
  deriving DecidableEq, Repr

/-- Temperature and throttling (chapter 13) beside its registers. -/
structure Thermal where
  /-- by unit × 64 + sensor − 1; the coolant sensors on the root, 1 inlet and 2 outlet (13 Table TH-1). -/
  sensors : AMap Sensor := []
  /-- by unit; the coolant sensors' levels by unit + 1 and + 2, the three stages of /3 by unit + 1 to + 3 (13 Table TH-2). -/
  parts : AMap Part := []
  /-- THERM_GRACE has passed at Moderate or higher (13 R309). -/
  grace2 : Bool := false
  /-- THERM_GRACE has passed at Severe (13 R309). -/
  grace3 : Bool := false
  deriving DecidableEq, Repr

/-- Output and input pins that hold state of their own (14, 06 R161). -/
structure Pins where
  /-- STAGE_SLOW_N driven low (06 R161). -/
  slowLow : Bool := false
  /-- its 100 µs minimum low time runs (06 R161). -/
  slowMin : Bool := false
  /-- STAGE_STOP_N driven low (06 R161). -/
  stopLow : Bool := false
  /-- its 100 µs minimum low time runs (06 R161). -/
  stopMin : Bool := false
  /-- the outputs hold through a warm reset the levels they had (12 R285). -/
  held : Bool := false
  /-- ALERT_N held low (12 R285, R294). -/
  heldAlert : Bool := false
  /-- THERM_N held low (12 R285, R294). -/
  heldTherm : Bool := false
  /-- instruction in force in the TAP: 0 BYPASS, 1 IDCODE, 2 SAMPLE/PRELOAD, 3 EXTEST, 4 a debug instruction (14 R321). -/
  tapIr : Nat := 0
  /-- levels that EXTEST drives: bit 0 STAGE_SLOW_N, 1 STAGE_STOP_N, 2 ALERT_N, 3 THERM_N low (14 R321). -/
  tapDrive : Nat := 0
  deriving DecidableEq, Repr

/-- An EVENT message not yet acknowledged (15 R357). -/
structure EvMsg where
  /-- SEQ (15 R357). -/
  seq : Nat
  /-- LOST (15 R357). -/
  lost : Nat
  /-- records (15 R357). -/
  recs : List EvRec
  /-- resends so far (15 R357). -/
  resends : Nat := 0
  deriving DecidableEq, Repr

/-- A subscription slot (15 Table OD-13). -/
structure Filter where
  /-- MIN_SEVERITY (15 Table OD-13). -/
  minSev : Nat
  /-- SUBSYSTEMS (15 Table OD-13). -/
  subsystems : Nat
  /-- UNIT (15 Table OD-13). -/
  unit : Nat
  deriving DecidableEq, Repr

/-- An open KDP session (15 R350, Table OD-15). -/
structure Session where
  /-- SESSION_ID (15 R350). -/
  id : Nat
  /-- role code (15 R339). -/
  role : Nat
  /-- network port it opened on (15 Table OD-15). -/
  netPort : Nat
  /-- station address, 128 bits (15 Table OD-15). -/
  src : Nat
  /-- station UDP port (15 Table OD-15). -/
  srcPort : Nat
  /-- the module address it opened on (15 R360). -/
  via : NetAddr := .linkLocal
  /-- operating seconds at opening (15 Table OD-15). -/
  opened : Nat
  /-- session_key (15 R351). -/
  key : BitVec 256
  /-- SEQ last executed (15 R349). -/
  lastSeq : Nat := 0
  /-- responses to the last 16 executed SEQs, newest first (15 R349). -/
  kept : List (Nat × KResp) := []
  /-- module's UDP port that it opened on (15 R346, R361). -/
  udpPort : Nat := 4750
  /-- requests ahead of execution, by SEQ (15 R349), each with its place in the order of arrival (R344). -/
  held : AMap (Nat × Instr) := []
  /-- requests executed (15 Table OD-16). -/
  executed : Nat := 0
  /-- slots 1 to 4 (15 R356). -/
  filters : AMap Filter := []
  /-- SEQ of the last EVENT sent (15 R357). -/
  evSeq : Nat := 0
  /-- matching records not yet sent, oldest first (15 R357). -/
  evWaiting : List EvRec := []
  /-- records dropped since the last EVENT (15 R357). -/
  evLost : Nat := 0
  /-- EVENT messages not acknowledged, oldest first (15 R357). -/
  evUnacked : List EvMsg := []
  deriving DecidableEq, Repr

/-- A handshake in progress (15 R350). -/
structure Handshake where
  /-- SESSION_ID offered (15 R350). -/
  id : Nat
  /-- role asked (15 R350). -/
  role : Nat
  /-- station nonce (15 R350). -/
  nc : BitVec 128
  /-- module nonce (15 R350). -/
  nd : BitVec 128
  /-- network port (15 R350). -/
  netPort : Nat
  /-- station address (15 R350). -/
  src : Nat
  /-- station UDP port (15 R350). -/
  srcPort : Nat
  /-- the module address (15 R350, R360). -/
  via : NetAddr := .linkLocal
  /-- the module's UDP port (15 R346, R361). -/
  udpPort : Nat := 4750
  deriving DecidableEq, Repr

/-- Failure record of a source address (15 R354). -/
structure Backoff where
  /-- the address, /128 or /32 (15 R354). -/
  addr : Nat
  /-- failure count F (15 R354). -/
  f : Nat := 0
  /-- back-off time B in ms (15 R354). -/
  b : Nat := 0
  /-- time in CLK_CTL cycles at which the running B ends (15 R354). -/
  until_ : Nat := 0
  /-- time of the last failure (15 R354). -/
  lastFail : Nat := 0
  deriving DecidableEq, Repr

/-- The open bulk transfer (15 R355). -/
structure Bulk where
  /-- session (15 R355). -/
  sid : Nat
  /-- object key (unit, index, subindex) (15 R355). -/
  key : Nat
  /-- direction (15 R355). -/
  write : Bool
  /-- TOTAL (15 R355). -/
  total : Nat
  /-- bytes written, by offset (15 R355). -/
  data : AMap Byte := []
  /-- copy of the object taken at BULK_OPEN of a read (15 R355). -/
  copy : List Byte := []
  deriving DecidableEq, Repr

/-- The latest run of a command object (15 R342, Table OD-3). -/
structure Run where
  /-- session that started it (15 R342), 0 once that is closed. -/
  sid : Nat
  /-- ARGUMENT (15 Table OD-3). -/
  arg : Nat
  /-- AT (15 Table OD-3). -/
  at_ : Nat
  /-- STATUS (15 Table OD-3). -/
  status : Status
  /-- final statuses, of this run and of earlier ones, that have yet to be returned once, each with its session (15 R342, 11 R265, 16 R363). -/
  owed : List (Nat × Status) := []
  /-- sessions whose EXEC was merged into the run (11 R265, 16 R363). -/
  merged : List Nat := []
  deriving DecidableEq, Repr

/-- A network port /6/p beside its registers (15 R358, R359). -/
structure NetPort where
  /-- the PHY reports a fault (15 R358). -/
  phyFault : Bool := false
  /-- the 10 ms minimum off time has passed (12 Table CS-10). -/
  offTimerDone : Bool := true
  /-- MAC and PHY are off after a shutdown and the minimum off time runs (15 R358, 12 Table CS-10). -/
  shut : Bool := false
  /-- RX_FRAMES (15 Table OD-14). -/
  rxFrames : Nat := 0
  /-- TX_FRAMES (15 Table OD-14). -/
  txFrames : Nat := 0
  /-- a global address is in use (15 R358). -/
  addrHeld : Bool := false
  /-- NET_ADDR_MODE in force (15 R359). -/
  mode : Nat := 0
  /-- NET_IPV6 in force, 0 unspecified (15 R359). -/
  ipv6 : Nat := 0
  /-- NET_IPV6_PREFIX in force (15 R359). -/
  prefix6 : Nat := 64
  /-- NET_GW6 in force (15 R359). -/
  gw6 : Nat := 0
  /-- NET_IPV4 in force (15 R359). -/
  ipv4 : Nat := 0
  /-- NET_IPV4_PREFIX in force (15 R359). -/
  prefix4 : Nat := 24
  /-- NET_GW4 in force (15 R359). -/
  gw4 : Nat := 0
  /-- NET_VLAN in force (15 R359). -/
  vlan : Nat := 0
  /-- NET_PCP in force (15 R359). -/
  pcp : Nat := 0
  /-- NET_PMD in force (15 R358). -/
  pmd : Nat := 0
  deriving DecidableEq, Repr

/-- KDP service (chapter 15) beside its registers. -/
structure Kdp where
  /-- open sessions (15 R353). -/
  sessions : List Session := []
  /-- pending handshakes, oldest first (15 R350). -/
  handshakes : List Handshake := []
  /-- the latest expired handshakes, at most 8, newest first (15 Table OD-17). -/
  expired : List Handshake := []
  /-- back-off table, at most 256 (15 R354). -/
  backoffs : List Backoff := []
  /-- the open transfer (15 R355). -/
  bulk : Option Bulk := none
  /-- a held request whose turn has come is being taken up; its frame was counted when it arrived (model's own). -/
  again : Bool := false
  /-- requests held so far: the place of the next one in the order of arrival (15 R344). -/
  arrivals : Nat := 0
  /-- sessions whose next BULK message receives TIMEOUT (15 R355). -/
  bulkExpired : List Nat := []
  /-- latest run of each command object, by object key (15 R342). -/
  runs : AMap Run := []
  /-- port /6/1 (15 R358). -/
  net1 : NetPort := {}
  /-- port /6/2 (15 R358). -/
  net2 : NetPort := {}
  /-- keys of roles 1 to 4 written since delivery; 0 unset (15 R352). -/
  roleKeys : AMap (BitVec 256) := []
  deriving DecidableEq, Repr

/-- One slot of a two-slot record (16 R366). -/
structure HmSlot where
  /-- SEQ, 32 bits (16 R366). -/
  seq : Nat := 0
  /-- payload (16 R366). -/
  payload : List Byte := []
  /-- REC_ID, LEN and CRC all hold (16 R366). -/
  valid : Bool := false
  deriving DecidableEq, Repr

/-- A remap entry (16 R371). -/
structure Remap where
  /-- word-group index (16 R371). -/
  group : Nat
  /-- spare index (16 R371). -/
  spare : Nat
  /-- 1 uncorrectable, 2 corrected (16 R371). -/
  cause : Nat
  deriving DecidableEq, Repr

/-- The contents of the 64 KiB store (16 R362, Table HM-1). -/
structure HmImage where
  /-- store generation in the header (16 Table HM-1). -/
  generation : Nat := 0
  /-- slots by 2 × record ID (A) and 2 × record ID + 1 (B) (16 R366). -/
  slots : AMap HmSlot := []
  /-- remap entries by position 0 to 2175 (16 R371). -/
  remap : AMap Remap := []
  /-- recent-record ring, newest first, at most 64 (16 R374). -/
  recent : List EvRec := []
  /-- station area by offset from 0xC000; absent bytes read 0 (16 R365). -/
  station : AMap Byte := []
  deriving DecidableEq, Repr

/-- Payload lengths of records 1 to 12 (16 Table HM-2). -/
def recLens : List Nat := [8, 48, 32, 16, 16, 8, 96, 16, 16, 64, 3700, 2568]

/-- The slots of a delivered module (DESIGN CHOICE, log 19): slot A of every record valid with SEQ 1 and the payload of a module
that has never run. -/
def factorySlots : AMap HmSlot :=
  (List.range 12).map fun i =>
    let n := recLens.getD i 0
    let payload : List Byte :=
      if i = 3 then List.replicate 8 0 ++ List.replicate 4 0xFF ++ List.replicate 4 0
      else if i = 4 then [0, 1] ++ List.replicate 14 0
      else if i = 5 then [0, 0, 0, 0, 1, 0, 0, 0]
      else List.replicate n 0
    (2 * (i + 1), { seq := 1, payload := payload, valid := true })

/-- The harbourmaster (chapter 16) beside its registers. -/
structure Hm where
  /-- the harbourmaster has started from VIN (16 R369). -/
  running : Bool := false
  /-- store SRAM (16 R362). -/
  sram : HmImage := {}
  /-- NV shadow array (16 R362). -/
  shadow : HmImage := { slots := factorySlots }
  /-- a shadow store is running (16 R363). -/
  storeRunning : Bool := false
  /-- a store request waits for the 10 s spacing or a running store (16 R363). -/
  storeWaiting : Bool := false
  /-- the run of HM_STORE_NOW belongs to the store that waits (16 R363). -/
  cmdWaits : Bool := false
  /-- 10 s have passed since the start of the previous store (16 R363). -/
  storeSpaced : Bool := true
  /-- pages whose second verify failed in the last store (16 R364). -/
  badPages : List Nat := []
  /-- valid NV cells of the power-cycle count (16 R369). -/
  powerCells : AMap Nat := [(0, 0)]
  /-- valid NV cells of the operating seconds (16 R369). -/
  opsecCells : AMap Nat := [(0, 0)]
  /-- NV cell of COUNTERS_SATURATED (16 R370). -/
  satCell : Nat := 0
  /-- power-cycle count (16 R369). -/
  powerCycles : Nat := 0
  /-- operating seconds in RAM (16 R369). -/
  opsec : Nat := 0
  /-- seconds since the last write of the cells (16 R369). -/
  opsecSince : Nat := 0
  /-- LAST_POWER_DOWN payload (16 Table HM-3). -/
  lastPd : List Byte := []
  /-- sequence of the configuration record in the log area (16 Table HM-2). -/
  cfgSeq : Nat := 0
  /-- LATCHES bit 0 (01 R24). -/
  latchHalted : Bool := false
  /-- LATCHES bit 1 (01 R24). -/
  latchDomainDown : Bool := false
  /-- LATCHES bit 2, THERMAL_LATCH (13 R312). -/
  latchThermal : Bool := false
  /-- LATCHES byte 1, INTEGRITY_RECOVER value (10 R244). -/
  recoverValue : Nat := 0
  deriving DecidableEq, Repr

/-- The event recorder (16 R373). -/
structure Recorder where
  /-- the buffer accepts records: firmware runs (16 R373). -/
  accepting : Bool := false
  /-- position of the next record (RECORDS_TOTAL) (16 R373). -/
  next : Nat := 0
  /-- buffer ring of 4096, position and record, newest first (16 R373). -/
  buffer : List (Nat × EvRec) := []
  /-- every position below this is in the media log or overwritten (16 R373). -/
  flushedTo : Nat := 0
  /-- media log, newest first, at most 1,048,576 (16 R373). -/
  log : List (Nat × EvRec) := []
  /-- the next record flushed carries LOST_BEFORE (16 R376). -/
  lostBefore : Bool := false
  /-- session that froze the recorder, none while not frozen (16 R377). -/
  freezeSid : Option Nat := none
  /-- FROZEN_LOST when the freeze began (16 R377). -/
  freezeLost : Nat := 0
  /-- the log area can be programmed and the buffer may be flushed (16 R373). -/
  logOpen : Bool := false
  deriving DecidableEq, Repr

/-- An armed sample (17 R387). -/
structure Armed where
  /-- slice (17 R387). -/
  slice : Nat
  /-- counter 1 to 8 (17 R387). -/
  counter : Nat
  /-- transactions of the slice completed since (17 R387). -/
  skid : Nat := 0
  deriving DecidableEq, Repr

/-- A sample record (17 Table PC-4). -/
structure Sample where
  /-- CYCLE (17 Table PC-4). -/
  cycle : Nat
  /-- line of DPA (17 Table PC-4). -/
  line : Nat
  /-- COUNTER (17 Table PC-4). -/
  counter : Nat
  /-- EVENT (17 Table PC-4). -/
  event : Nat
  /-- PORT (17 Table PC-4). -/
  port : Nat
  /-- SLICE (17 Table PC-4). -/
  slice : Nat
  /-- SOURCE (17 Table PC-4). -/
  src : Nat
  /-- FLAGS WRITE (17 Table PC-4). -/
  write : Bool
  /-- FLAGS KIND_MISMATCH (17 Table PC-4). -/
  mismatch : Bool
  /-- FLAGS PROTECTED (17 Table PC-4). -/
  prot : Bool := false
  /-- SKID (17 Table PC-4). -/
  skid : Nat
  deriving DecidableEq, Repr

/-- A bandwidth window (17 Table PC-5). -/
structure BwWindow where
  /-- START (17 Table PC-5). -/
  start : Nat := 0
  /-- READ_BYTES (17 Table PC-5). -/
  read : Nat := 0
  /-- WRITE_BYTES (17 Table PC-5). -/
  write : Nat := 0
  deriving DecidableEq, Repr

/-- The counter unit (chapter 17) beside its registers. -/
structure Counters where
  /-- armed samples (17 R387). -/
  armed : List Armed := []
  /-- sample ring of 256, position and record, newest first (17 R388). -/
  samples : List (Nat × Sample) := []
  /-- position of the next sample (17 R388). -/
  nextSample : Nat := 0
  /-- window in progress by port unit (17 R389). -/
  bw : AMap BwWindow := []
  /-- history by port unit, 0 for /5, newest first, 32 at most (17 R390). -/
  hist : AMap (List BwWindow) := []
  /-- PC_CYCLES at which the counting of windows starts (17 R390). -/
  bwFrom : Nat := 0
  deriving DecidableEq, Repr

/-- A firmware image slot (18 R400, R401). -/
structure FwSlot where
  /-- the slot holds a valid image (18 R400). -/
  valid : Bool := false
  /-- SVN (18 Table TS-4). -/
  svn : Nat := 0
  /-- VERSION (18 Table TS-4). -/
  version : Nat := 0
  /-- operating seconds at installation (18 Table TS-6). -/
  at_ : Nat := 0
  deriving DecidableEq, Repr

/-- A loopback that runs (18 R394). -/
structure Loopback where
  /-- DEPTH (18 Table TS-2). -/
  depth : Nat
  /-- AT (18 Table TS-2). -/
  at_ : Nat
  /-- time at its start (18 Table TS-2). -/
  since : Nat
  /-- the duration asked for, ms (18 R394). -/
  ms : Nat := 0
  deriving DecidableEq, Repr

/-- Test and firmware (chapter 18) beside its registers. -/
structure TestUnit where
  /-- running loopbacks by unit (18 R394). -/
  loops : AMap Loopback := []
  /-- reflect buffers of ports at depth 4, by port unit, lines of 4 KiB (18 Table TS-1). -/
  reflect : AMap (AMap LineData) := []
  /-- argument of the running SRAM self-test (18 R395). -/
  sramTest : Option Nat := none
  /-- stacks under self-test (18 R396). -/
  stackTests : List Nat := []
  /-- HBM stacks under self-test (18 R397). -/
  hbmTests : List Nat := []
  /-- session that unlocked the service header (18 R398). -/
  unlocker : Option Nat := none
  /-- image slot A (18 R400). -/
  slotA : FwSlot := { valid := true }
  /-- image slot B (18 R400). -/
  slotB : FwSlot := { valid := true }
  /-- BOOT record IMAGE: 0 slot A, 1 slot B (18 Table TS-5). -/
  image : Nat := 0
  /-- FAILS_A (18 Table TS-5). -/
  failsA : Nat := 0
  /-- FAILS_B (18 Table TS-5). -/
  failsB : Nat := 0
  /-- NEXT_START (18 Table TS-5). -/
  nextStart : Bool := false
  /-- the next boot attempt waits 10 s (18 R404). -/
  retryWait : Bool := false
  /-- FW_STAGE (18 R401). -/
  staged : List Byte := []
  /-- live activation: 0 none, 1 loading and quiescing, 2 paused (18 R403). -/
  activating : Nat := 0
  /-- time at which the pause began (18 R403). -/
  pauseAt : Nat := 0
  /-- host requests held by the pause, in order of arrival (18 R403). -/
  paused : List HostReq := []
  /-- image booted above the fused SVN, and operating seconds at its first LOADING (18 R401). -/
  loadingAt : Option (Nat × Nat) := none
  deriving DecidableEq, Repr

/-- The state of the module. -/
structure State where
  /-- Which variant the module is (00 R1). -/
  variant : Variant := .p128
  /-- Commands waiting, first in, first out (model's own). -/
  pending : List Instr := []
  /-- CLK_CTL cycles of 2.5 ns since the reset state (17 R380). -/
  now : Nat := 0
  /-- How many free values have been drawn (model's own). -/
  free : Nat := 0
  /-- Messages sent, newest first (model's own). -/
  out : List Out := []
  /-- Place in the chain of module states (01 R23). -/
  phase : Phase := .cold
  /-- The scalar registers of the object dictionary that have been written, by unit path, index and subindex (15 R338). -/
  objs : AMap Nat := []
  /-- The BLOB and TEXT registers that have been written (15 R338). -/
  blobs : AMap (List Byte) := []
  /-- Host ports (02 R28). -/
  hp : Ports := {}
  /-- The memory contract (03 R57). -/
  mc : Contract := {}
  /-- Coherence directory (04 R86). -/
  dir : Directory := {}
  /-- Home cache, berths and berth mirror (05 R111). -/
  hc : HomeCache := {}
  /-- The wharf (06 R143). -/
  wharf : Wharf := {}
  /-- Media translation (07 R173). -/
  media : Media := {}
  /-- Media reads and drift (08 R195). -/
  ml : Latency := {}
  /-- Self-measurement, margin plans and wear (09 R212). -/
  ag : Ageing := {}
  /-- Data protection (10 R229). -/
  dp : Protect := {}
  /-- Input, rails and hold-up (11 R249). -/
  pw : PowerUnit := {}
  /-- Clocks, resets and power states (12 R277). -/
  cs : Clocks := {}
  /-- Temperature and throttling (13 R302). -/
  th : Thermal := {}
  /-- Pins with a held level (06 R161). -/
  pins : Pins := {}
  /-- KDP service (15 R346). -/
  kdp : Kdp := {}
  /-- The harbourmaster (16 R362). -/
  hm : Hm := {}
  /-- The event recorder (16 R373). -/
  recorder : Recorder := {}
  /-- The counter unit (17 R380). -/
  pc : Counters := {}
  /-- Test and firmware (18 R393). -/
  ts : TestUnit := {}
  deriving DecidableEq, Repr

/-- Why the module stops with a fault. No command of this spec ends the machine's own run: the one constructor is raised by
no meaning and stands for the host interface's shape. Safe: it is never answered. -/
inductive Fault where
  | none
  deriving DecidableEq, Repr

/-- Why a command has no meaning here. -/
inductive Refusal where
  /-- Raised by Dispatch.lean alone, for a command whose meaning is not written yet. Safe: the machine stops. -/
  | notModelled (mnemonic : String)
  deriving DecidableEq, Repr

/-- The state after reset: a module that has never had input power (COLD, 01 Table AX-7), every register at the default of
its object table and every store empty. -/
def State.reset : State := {}

end Sys2Proof.Machine
end

