-- ==== Sys2Proof/Machine/Units.lean ====
section
/-! DEFINITION. Unit paths (15 R335 to R337), the unit tree (01 R21, Table AX-6) and the slice hash (01 R12). -/
namespace Sys2Proof.Machine
open Sys2Proof

/-! Encoded paths of the units (15 Table OD-1). -/
/-- The module. -/
abbrev U.root : Nat := 0
/-- The encoded path of the given level indexes, 0 ending it. -/
def U.enc (a b c d : Nat) : Nat := 2^26 * a + 2^20 * b + 2^14 * c + d * 2^8
/-- Controller. -/
abbrev U.ctl : Nat := 0x04000000
/-- Harbourmaster. -/
abbrev U.hm : Nat := 0x08000000
/-- Power. -/
abbrev U.power : Nat := 0x0C000000
/-- Rail n. -/
def U.rail (n : Nat) : Nat := U.enc 3 n 0 0
/-- Media. -/
abbrev U.media : Nat := 0x10000000
/-- Parity group g. -/
def U.group (g : Nat) : Nat := U.enc 4 g 0 0
/-- Stack s of group g. -/
def U.stack (g s : Nat) : Nat := U.enc 4 g s 0
/-- Die d of stack s of group g. -/
def U.die (g s d : Nat) : Nat := U.enc 4 g s d
/-- Host ports. -/
abbrev U.ports : Nat := 0x14000000
/-- Host port n. -/
def U.port (n : Nat) : Nat := U.enc 5 n 0 0
/-- Network. -/
abbrev U.net : Nat := 0x18000000
/-- Network port p. -/
def U.netPort (p : Nat) : Nat := U.enc 6 p 0 0
/-- HBM. -/
abbrev U.hbm : Nat := 0x1C000000
/-- HBM stack n. -/
def U.hbmStack (n : Nat) : Nat := U.enc 7 n 0 0

/-- The level fields of an encoded path (15 Table OD-1), LEVEL1 to LEVEL5. -/
def pathLevels (p : Nat) : List Nat := [p / 2^26 % 64, p / 2^20 % 64, p / 2^14 % 64, p / 2^8 % 64, p / 4 % 64]

/-- How many parity groups the variant has (00 Table SC-1). -/
def groupCount : Variant → Nat
  | .p128 => 2
  | .p064 => 1

/-- CHILD_COUNT of the unit whose non-zero levels are given (01 Table AX-6). -/
def childCount (v : Variant) : List Nat → Nat
  | [] => 7
  | [3] => 18
  | [4] => groupCount v
  | [4, _] => 16
  | [4, _, _] => 32
  | [5] => 16
  | [6] => 2
  | [7] => 8
  | _ => 0

/-- Every path that levels with 63 in them name, in ascending order; none where a level exceeds its parent's CHILD_COUNT
or follows a zero level (15 R336, R337). -/
def expandLevels (v : Variant) : List Nat → List Nat → Option (List (List Nat))
  | pre, [] => some [pre]
  | pre, l :: rest =>
    if l = 0 then (if rest.all (· == 0) then some [pre] else none)
    else if l = 63 then
      (List.range (childCount v pre)).foldl (fun acc i =>
        match acc, expandLevels v (pre ++ [i + 1]) rest with
        | some a, some b => some (a ++ b)
        | some a, none => some a
        | none, _ => none) (some [])
    else if l ≤ childCount v pre then expandLevels v (pre ++ [l]) rest
    else none

/-- The encoded path of non-zero levels. -/
def encLevels (ls : List Nat) : Nat := U.enc (ls.getD 0 0) (ls.getD 1 0) (ls.getD 2 0) (ls.getD 3 0)

/-- The units that an encoded path names: RANGE for a reserved bit, NO_OBJECT for a path that names none (15 R336). -/
def expandPath (v : Variant) (p : Nat) : Except Status (List Nat) :=
  if p % 4 ≠ 0 then .error .range
  else match expandLevels v [] (pathLevels p) with
    | some (u :: us) => .ok ((u :: us).map encLevels)
    | _ => .error .noObject

/-- Whether a path uses the every-child form (15 R335). -/
def isWild (p : Nat) : Bool := (pathLevels p).any (· == 63)

/-- UNIT_TYPE of the unit that a path without 63 names (15 Table OD-6). -/
def unitType (p : Nat) : UnitType :=
  match (pathLevels p).filter (· != 0) with
  | [] => .module
  | [1] => .controller
  | [2] => .harbourmaster
  | [3] => .power
  | 3 :: _ => .rail
  | [4] => .media
  | [4, _] => .parityGroup
  | [4, _, _] => .stack
  | 4 :: _ => .die
  | [5] => .hostPorts
  | 5 :: _ => .hostPort
  | [6] => .network
  | 6 :: _ => .netPort
  | [7] => .hbm
  | _ => .hbmStack

/-- The children of a unit. -/
def unitChildren (v : Variant) (p : Nat) : List Nat :=
  let ls := (pathLevels p).filter (· != 0)
  (List.range (childCount v ls)).map fun i => encLevels (ls ++ [i + 1])

/-- The unit itself and every unit above it, nearest first. -/
def unitAncestors (p : Nat) : List Nat :=
  match (pathLevels p).filter (· != 0) with
  | [a, b, c, d] => [U.enc a b c d, U.enc a b c 0, U.enc a b 0 0, U.enc a 0 0 0, 0]
  | [a, b, c] => [U.enc a b c 0, U.enc a b 0 0, U.enc a 0 0 0, 0]
  | [a, b] => [U.enc a b 0 0, U.enc a 0 0 0, 0]
  | [a] => [U.enc a 0 0 0, 0]
  | _ => [0]

/-- Whether unit `u` is the unit that `scope` names or lies below it, 63 matching any index at its level (15 R356). -/
def unitUnder (u scope : Nat) : Bool :=
  ((pathLevels scope).zip (pathLevels u)).all fun (a, b) => a == 0 || (a == 63 && b != 0) || a == b

/-- The slice that owns a page (01 R12): the fold of the page number's nibbles. -/
def sliceOf (pn : PageNo) : Nat :=
  (List.range 9).foldl (fun a k => a ^^^ (pn / 16 ^ k % 16)) 0

/-- The page of a line. -/
def pageOfLine (l : LineNo) : PageNo := l / 64
/-- The sector of a line. -/
def sectorOfLine (l : LineNo) : SectorNo := l / 8
/-- The page of a sector. -/
def pageOfSector (x : SectorNo) : PageNo := x / 8
/-- The slice that owns a line. -/
def sliceOfLine (l : LineNo) : Nat := sliceOf (pageOfLine l)
/-- The slice that owns a sector. -/
def sliceOfSector (x : SectorNo) : Nat := sliceOf (pageOfSector x)

end Sys2Proof.Machine
end

