-- ==== Sys2Proof/Machine/Ops.lean ====
section
/-! DEFINITION. The named operations over the dictionary's registers, the counters, the free values and the messages sent. -/
namespace Sys2Proof.Machine
open Sys2Proof

/-- The key of an object on a unit: path, then index and subindex. -/
def objKey (u o : Nat) : Nat := 2^24 * u + o

/-- Nominal rail voltages in mV, rails 1 to 18 (11 Table PW-1); V_HOLD reads its upper value. -/
def railNominal (n : Nat) : Nat :=
  [750, 800, 900, 1200, 1100, 1800, 1800, 3300, 1200, 3300, 1200, 3300, 1200, 3300, 1200, 12000, 56000, 3300].getD (n - 1) 0

/-- Defaults that the tables give by reference or as a list: LAT_BOUND, ROLE_KEY_SET, CHILD_COUNT, the rails of Table
PW-1, the thresholds of Table TH-2 and the quantities of 00 Table SC-1 on a KLR-P064. -/
def objDefaultSpecial (v : Variant) (u o : Nat) : Option Nat :=
  let ls := (pathLevels u).filter (· != 0)
  let thr (a : List Nat) : Option Nat := a[o % 256 - 1]?
  if o / 256 = 0x1600 then [160, 400, 3000, 150][o % 256 - 1]?
  else if o / 256 = 0x1C11 then [0, 0, 1, 1][o % 256 - 1]?
  else if o = Obj.CHILD_COUNT then some (childCount v ls)
  else if o = Obj.UNIT_TYPE then some (unitType u).code
  else if o = Obj.UNIT_PATH then some u
  else if o = Obj.RAIL_NOMINAL then some (railNominal (ls.getD 1 0))
  else if o = Obj.RAIL_REACTION then
    -- reaction codes of chapter 11: 0 IGNORE, 1 RETRY_RAIL, 2 BANK_OFF, 3 MODULE_RESET
    some (if ls.getD 1 0 ≤ 7 then 3 else if ls.getD 1 0 ≤ 15 then 1 else if ls.getD 1 0 = 17 then 1 else 3)
  else if o / 256 = 0x1B00 then
    match unitType u with
    | .controller => thr [9000, 9500, 8, 11000]
    | .stack => thr [7500, 8000, 5, 9500]
    | .hbmStack => thr [8500, 9000, 5, 10500]
    | .rail => if ls.getD 1 0 = 17 then thr [6500, 0x8000, 0, 8500] else thr [10500, 11000, 5, 12500]
    | _ => none
  else if o = Obj.VARIANT then some (match v with | .p128 => 1 | .p064 => 2)
  else if v = .p064 ∧ o = Obj.MAP_ENTRIES then some 13421772800
  else none

/-- The value of an object that nothing has written: its table's Default, 0 where the table gives none (log 6). -/
def objDefault (v : Variant) (u o : Nat) : Nat :=
  match objDefaultSpecial v u o with
  | some d => d
  | none => match objRow? o with
    | some r => r.default
    | none => 0

/-- A scalar register of the dictionary. -/
def State.obj (s : State) (u o : Nat) : Nat := (AMap.get? s.objs (objKey u o)).getD (objDefault s.variant u o)

/-- Write a scalar register. -/
def State.setObj (s : State) (u o v : Nat) : State := { s with objs := AMap.set s.objs (objKey u o) v }

/-- A register of the root unit. -/
def State.robj (s : State) (o : Nat) : Nat := s.obj U.root o
/-- Write a register of the root unit. -/
def State.setR (s : State) (o v : Nat) : State := s.setObj U.root o v

/-- The width in bits of a scalar type (15 Table OD-2). -/
def ObjType.bits : ObjType → Nat
  | .u8 | .bool => 8
  | .u16 | .i16 => 16
  | .u32 | .i32 | .bits32 | .cmd => 32
  | .u64 => 64
  | .optime => 48
  | .text | .blob => 0

/-- Counters wrap to zero past the maximum of their type (for example 15 R361). -/
def objModulus (o : Nat) : Nat :=
  match objRow? o with
  | some r => 2 ^ r.type.bits
  | none => 2 ^ 64

/-- Count `n` occurrences on a counter of a unit. -/
def State.bumpN (s : State) (u o n : Nat) : State := s.setObj u o ((s.obj u o + n) % objModulus o)
/-- Count one occurrence on a counter of a unit. -/
def State.bump (s : State) (u o : Nat) : State := s.bumpN u o 1
/-- Count one occurrence on a counter of the root. -/
def State.bumpR (s : State) (o : Nat) : State := s.bumpN U.root o 1
/-- Raise a maximum register of a unit. -/
def State.raiseTo (s : State) (u o v : Nat) : State := if s.obj u o < v then s.setObj u o v else s

/-- A BLOB or TEXT register; empty where nothing has written it. -/
def State.blob (s : State) (u o : Nat) : List Byte := (AMap.get? s.blobs (objKey u o)).getD []
/-- Write a BLOB or TEXT register. -/
def State.setBlob (s : State) (u o : Nat) (bs : List Byte) : State := { s with blobs := AMap.set s.blobs (objKey u o) bs }

/-- KDP service after `n` frames sent on network port `p`, none for port 0 (15 Table OD-14). -/
def Kdp.sent (k : Kdp) (p n : Nat) : Kdp :=
  if p = 1 then { k with net1 := { k.net1 with txFrames := k.net1.txFrames + n } }
  else if p = 2 then { k with net2 := { k.net2 with txFrames := k.net2.txFrames + n } } else k
/-- KDP service after a frame received on network port `p`. -/
def Kdp.received (k : Kdp) (p : Nat) : Kdp :=
  if p = 1 then { k with net1 := { k.net1 with rxFrames := k.net1.rxFrames + 1 } }
  else if p = 2 then { k with net2 := { k.net2 with rxFrames := k.net2.rxFrames + 1 } } else k

/-- The network port that carries a message, 0 for one that none carries, and the frames it takes: KDP datagrams and mirror frames (15 Table OD-14;
other traffic of the ports is not modelled, log 87). -/
def outFrames (s : State) (m : Out) : Nat × Nat :=
  let port (sid : Nat) : Nat := ((s.kdp.sessions.find? fun x => x.id == sid).map (·.netPort)).getD 0
  match m with
  | .kdp sid _ r => (port sid, r.fragments)
  | .kdpHandshake p _ _ _ _ => (p, 1)
  | .kdpClose sid _ => (port sid, 1)
  | .kdpEvent sid _ _ _ => (port sid, 1)
  | .mirror _ => (s.robj Obj.MIRROR_PORT_NOW, 1)
  | .mirrorOpen p _ _ _ _ | .mirrorProve p _ _ => (p, 1)
  | _ => (0, 0)

/-- Send a message. -/
def State.emit (s : State) (m : Out) : State := { s with out := m :: s.out, kdp := s.kdp.sent (outFrames s m).1 (outFrames s m).2 }
/-- A frame arrives on a network port. -/
def State.frameIn (s : State) (p : Nat) : State := { s with kdp := s.kdp.received p }
/-- Send messages, first to last. -/
def State.emits (s : State) (ms : List Out) : State := ms.foldl State.emit s

/-- The source of a session as an event's snapshot value (05 Table HC-7, 10 R247, 18 Table TS-7): the low 64 bits of its station address, as SESSION_OPENED
gives them (15 Table OD-16; DEDUCED, log 125). -/
def sessionSource (s : State) (sid : Nat) : Nat := ((s.kdp.sessions.find? fun x => x.id == sid).map (·.src % 2^64)).getD 0

/-- Draw a free value of at most `m` values (a value the spec leaves open), and the state after it. -/
def State.draw (s : State) (m : Nat) : Nat × State := (Config.free s.free % m, { s with free := s.free + 1 })

/-- Microseconds between two times in CLK_CTL cycles of 2.5 ns. -/
def usBetween (t0 t1 : Nat) : Nat := (t1 - t0) / 400

/-- The low `n` bytes of a number, least significant first (00 R7). -/
def leBytes (n v : Nat) : List Byte := (List.range n).map fun i => BitVec.ofNat 8 (v / 256 ^ i)
/-- The low `n` bytes of a number, most significant first (00 R7, KDP). -/
def beBytes (n v : Nat) : List Byte := (leBytes n v).reverse
/-- The number that little-endian bytes spell. -/
def leNat : List Byte → Nat
  | [] => 0
  | b :: t => b.toNat + 256 * leNat t
/-- The number that big-endian bytes spell. -/
def beNat (bs : List Byte) : Nat := leNat bs.reverse

/-- The bytes of a text (15 Table OD-2). -/
def textBytes (t : String) : List Byte := t.toList.map fun c => BitVec.ofNat 8 c.toNat

/-- The proofs and the session key (15 R351): the label, the two nonces in the label's order, then what follows. -/
def kdpMac (k : BitVec 256) (label : String) (n1 n2 : BitVec 128) (tail : List Byte) : BitVec 256 :=
  Config.hmacSha256 k (textBytes label ++ beBytes 16 n1.toNat ++ beBytes 16 n2.toNat ++ tail)
/-- What follows the nonces in a proof: role and sid. -/
def proofTail (h : Handshake) : List Byte := beBytes 1 h.role ++ beBytes 4 h.id
/-- proof_c. -/
def proofC (k : BitVec 256) (h : Handshake) : BitVec 256 := kdpMac k "KDP-C" h.nc h.nd (proofTail h)
/-- proof_d. -/
def proofD (k : BitVec 256) (h : Handshake) : BitVec 256 := kdpMac k "KDP-D" h.nd h.nc (proofTail h)
/-- session_key. -/
def sessionKey (k : BitVec 256) (h : Handshake) : BitVec 256 := kdpMac k "KDP-S" h.nc h.nd (beBytes 4 h.id)
/-- The 16-byte MAC of a message under a session key: the first 16 bytes of HMAC-SHA-256 (15 R347; 05 R134, which names no half of it, log 102). -/
def macOf (key : BitVec 256) (bytes : List Byte) : BitVec 128 := (Config.hmacSha256 key bytes).extractLsb' 128 128

/-- A register field `hi:lo`. -/
def field (v hi lo : Nat) : Nat := v / 2 ^ lo % 2 ^ (hi + 1 - lo)
/-- A register bit. -/
def bitOf (v i : Nat) : Bool := v / 2 ^ i % 2 == 1
/-- Set or clear a register bit. -/
def setBit (v i : Nat) (b : Bool) : Nat :=
  if bitOf v i == b then v else if b then v + 2 ^ i else v - 2 ^ i
/-- 1 or 0. -/
def b2n (b : Bool) : Nat := if b then 1 else 0

end Sys2Proof.Machine
end

