-- ==== Sys2Proof/Machine/Views.lean ====
section
/-! DEFINITION. What the state shows without changing: occupancy, sets and stripes, the map, ports and agents, the home cache's
ways, the directory's entries. The operations of each chapter and the reads of its objects are written over these. -/
namespace Sys2Proof.Machine
open Sys2Proof

/-- A mask over every byte of a line. -/
abbrev fullMask : ByteMask := BitVec.allOnes 64

/-- Spread a byte mask over the bits of a line. -/
def maskBits (m : ByteMask) : LineData :=
  (List.range 64).foldl (fun (a : LineData) i => if m.getLsbD i then a ||| (BitVec.ofNat 512 255 <<< (8 * i)) else a) 0

/-- New bytes laid over old ones under a mask (01 R17). -/
def overlay (old new : LineData) (m : ByteMask) : LineData :=
  if m = fullMask then new else (new &&& maskBits m) ||| (old &&& ~~~ (maskBits m))

/-- The slots an entry takes (06 R144). -/
def WEntry.slots (e : WEntry) : Nat := if e.mask = fullMask then 1 else 2

/-- Slots live in the whole wharf, stale markers included (06 R150). -/
def liveSlots (s : State) : Nat := (s.wharf.entries.map (fun p => p.2.slots)).sum + s.wharf.markers.length

/-- Slots live in one slice (06 R149). -/
def sliceLive (s : State) (sl : Nat) : Nat :=
  ((s.wharf.entries.filter (fun p => sliceOfLine p.1 == sl)).map (fun p => p.2.slots)).sum
    + (s.wharf.markers.filter (fun p => sliceOfSector p.1 == sl)).length

/-- DIRTY_NOW in bytes (06 R150). -/
def dirtyNow (s : State) : Nat := 72 * liveSlots s

/-- OCCUPANCY in 0.01 %, 65535 when DIRTY_CAP is 0 (06 Table WH-9). -/
def occupancy (s : State) : Nat :=
  let cap := s.robj Obj.DIRTY_CAP
  if cap = 0 then 65535 else min 65535 (10000 * dirtyNow s / cap)

/-- Whether occupancy is at or above `pct` percent (06 R159). -/
def occAtLeast (s : State) (pct : Nat) : Bool :=
  let cap := s.robj Obj.DIRTY_CAP
  cap == 0 || decide (cap * pct ≤ dirtyNow s * 100)

/-- Whether a page has a live entry or marker: an index record (06 R147). -/
def pageStaged (s : State) (pn : PageNo) : Bool :=
  s.wharf.entries.any (fun p => pageOfLine p.1 == pn) || s.wharf.markers.any (fun p => pageOfSector p.1 == pn)

/-- The live entry of a line that reads may see (06 R147, 07 R186). -/
def stagedEntry (s : State) (line : LineNo) : Option WEntry :=
  match AMap.get? s.wharf.entries line with
  | some e => if e.hidden then none else some e
  | none => none

/-- Whether a stale marker covers a line. -/
def markerCovers (s : State) (line : LineNo) : Bool :=
  match AMap.get? s.wharf.markers (sectorOfLine line) with
  | some m => !m.hidden && bitOf m.mask (line % 8)
  | none => false

/-- The fields of a physical page number (07 Table MT-2): group index, stack index, die index, block, plate, page. -/
def ppnOf (g st d b pl pg : Nat) : Nat := 2^34 * g + 2^30 * st + 2^25 * d + 2^10 * b + pl * 4 + pg

/-- GROUP of a physical page number. -/
def ppnGroup (p : Nat) : Nat := field p 34 34

/-- STACK of a physical page number. -/
def ppnStack (p : Nat) : Nat := field p 33 30

/-- DIE of a physical page number. -/
def ppnDie (p : Nat) : Nat := field p 29 25

/-- BLOCK of a physical page number. -/
def ppnBlock (p : Nat) : Nat := field p 24 10

/-- PLATE of a physical page number. -/
def ppnPlate (p : Nat) : Nat := field p 9 2

/-- UNMAPPED (07 R166). -/
abbrev unmapped : Nat := 0xFFFFFFFFFF

/-- The set of a page: DIE × 32768 + BLOCK (07 R167). -/
def ppnSet (p : Nat) : Nat := 32768 * ppnDie p + ppnBlock p

/-- The key of a set: group index and set number. -/
def setKey (g n : Nat) : Nat := 2^20 * g + n

/-- The key of a stripe: group index and stripe number. -/
def stripeKey (g st : Nat) : Nat := 2^28 * g + st

/-- The key of the set that holds a page. -/
def ppnSetKey (p : Nat) : Nat := setKey (ppnGroup p) (ppnSet p)

/-- The key of the stripe that holds a page: set × 256 + plate (07 R168). -/
def ppnStripeKey (p : Nat) : Nat := stripeKey (ppnGroup p) (ppnSet p * 256 + ppnPlate p)

/-- The path of the die that holds a page. -/
def ppnDiePath (p : Nat) : Nat := U.die (ppnGroup p + 1) (ppnStack p + 1) (ppnDie p + 1)

/-- Reserved sets per group (07 Table MT-3). Which set numbers they are the spec does not say: the lowest (log 12). -/
def reservedSets : Variant → Nat
  | .p128 => 3343
  | .p064 => 4436

/-- Sets of a flush buffer in each parity group (07 Table MT-3). -/
def bufferSets : Variant → Nat
  | .p128 => 547
  | .p064 => 1093

/-- A set of which nothing is recorded: FREE and erased; a reserved one RESERVED, with its buffer's count of resets if it is of the flush area. -/
def freshSet (s : State) (k : Nat) : SetRec :=
  if k % 2^20 < reservedSets s.variant then { state := 5, erase := AMap.getD s.media.flushErase (k % 2^20 / bufferSets s.variant) 0 } else {}

/-- A set. -/
def getSet (s : State) (k : Nat) : SetRec := (AMap.get? s.media.sets k).getD (freshSet s k)

/-- The state of a set once the SET records that wait for the ring are appended (07 R174, R179). -/
def setStateOf (s : State) (k : Nat) : Nat :=
  match (s.media.jwait.filter fun r => r.1 == 5 && r.2.1 == k).getLast? with
  | some r => r.2.2.1
  | none => (getSet s k).state

/-- The block that a set takes on a stack: its own, or the spare substituted for it (07 R167). -/
def blockOf (s : State) (g st n : Nat) : Nat := AMap.getD (getSet s (setKey g n)).blocks st (n % 32768)

/-- The set that holds a block of a stack's die (07 R167). -/
def setOfBlock (s : State) (g st d b : Nat) : Nat :=
  match s.media.sets.find? fun p => p.1 / 2^20 == g && p.1 % 2^20 / 32768 == d && AMap.get? p.2.blocks st == some b with
  | some p => p.1 % 2^20
  | none => 32768 * d + b

/-- The physical page number of Table MT-2. The map and its records name a page by the set that holds it, whose block on the stack may be a
substituted spare (07 R166, R167; model's own, log 113). -/
def physPpn (s : State) (p : Nat) : Nat :=
  if 2^35 ≤ p then p else ppnOf (ppnGroup p) (ppnStack p) (ppnDie p) (blockOf s (ppnGroup p) (ppnStack p) (ppnSet p)) (ppnPlate p) (p % 4)

/-- Erase count of a set's member block (09 R224). -/
def SetRec.memberErase (r : SetRec) (st : Nat) : Nat := AMap.getD r.own st r.erase

/-- Erase count of a set: the highest of its members (07 R183). -/
def SetRec.highest (r : SetRec) : Nat := (List.range 16).foldl (fun a st => max a (r.memberErase st)) 0

/-- A stripe record. -/
def getStripe (s : State) (k : Nat) : StripeRec := AMap.getD s.media.stripes k {}

/-- Whether a stack is dead or unavailable (07 R187). -/
def stackGone (s : State) (g st : Nat) : Bool :=
  let u := U.stack (g + 1) (st + 1)
  s.media.deadStacks.contains u || s.media.offStacks.contains u

/-- Whether a member (stack, die) of a group is dead or unavailable. -/
def memberGone (s : State) (g st d : Nat) : Bool :=
  stackGone s g st || s.media.deadDies.contains (U.die (g + 1) (st + 1) (d + 1))

/-- L of R168: the live members of a set, stack indices ascending. Members whose block is retired and not yet substituted,
or whose die or stack is dead or unavailable, are left out (R187). -/
def liveMembers (s : State) (g n : Nat) : List Nat :=
  let r := getSet s (setKey g n)
  (List.range 16).filter fun st => !memberGone s g st (n / 32768) && !bitOf r.retired st

/-- Placement in stripe p of set n over live members L (07 R168): the parity stack, and the stacks of the data plates. -/
def placement (L : List Nat) (n p : Nat) : Nat × List Nat :=
  let m := L.length
  let k := (n + p) % m
  (L.getD k 0, (List.range (m - 1)).map fun j => L.getD ((k + 1 + j) % m) 0)

/-- How many stacks of a group are dead or unavailable. -/
def stacksGone (s : State) (g : Nat) : Nat := ((List.range 16).filter (stackGone s g)).length

/-- Free sets of a group: sets neither recorded in another state nor reserved (07 R169), the copy reserve included. -/
def freeSetsAll (s : State) (g : Nat) : Nat :=
  let recs := s.media.sets.filter fun p => p.1 / 2^20 == g && decide (reservedSets s.variant ≤ p.1 % 2^20)
  1027584 - reservedSets s.variant - recs.length + (recs.filter (fun p => p.2.state == 0)).length

/-- SETS_FREE: free sets, copy reserve of 256 excluded (07 R182). -/
def setsFree (s : State) (g : Nat) : Nat := freeSetsAll s g - 256

/-- SETS_FREE_PCT in 0.01 % of 1,027,584 sets (07 R169). -/
def setsFreePct (s : State) (g : Nat) : Nat := 10000 * setsFree s g / 1027584

/-- Pages of a set that the map names: its valid page count. -/
def validPages (s : State) (k : Nat) : Nat := (s.media.map.filter (fun p => ppnSetKey p.2 == k)).length

/-- Data pages of a set (07 R183): 15,360 whole, 14,336 degraded. -/
def dataPages (s : State) (k : Nat) : Nat := if (liveMembers s (k / 2^20) (k % 2^20)).length = 16 then 15360 else 14336

/-- A group can open no stripe (07 R187), or has no free set left to it and nothing to reclaim (R190): no spare left. -/
def noSpare (s : State) (g : Nat) : Bool :=
  decide (1 < stacksGone s g) ||
  (decide (setsFreePct s g < 50) &&
    !(s.media.sets.any fun p => p.1 / 2^20 == g && p.2.state == 2 && decide (validPages s p.1 < dataPages s p.1)))

/-- The PPN of a page, none when UNMAPPED (07 R173). -/
def mapGet (s : State) (pn : PageNo) : Option Nat := AMap.get? s.media.map pn

/-- The newest copy of a segment (07 R178). -/
def newestCopy (s : State) (seg : Nat) : Option SegCopy := (AMap.getD s.media.segs seg []).head?

/-- CKPT_SEGMENTS of the variant (07 R178). -/
def segCount : Variant → Nat
  | .p128 => 2185
  | .p064 => 1093

/-- The chunk of a page (07 R178). -/
def chunkOf (pn : PageNo) : Nat := pn / 800

/-- The segment of a page. -/
def segOf (pn : PageNo) : Nat := chunkOf pn / 15360

/-- FRONTIER of a chunk of a copy (07 Table MT-7). -/
def SegCopy.frontierOf (c : SegCopy) (chunk : Nat) : Nat := AMap.getD c.chunks chunk c.frontier

/-- The FRONTIER of a chunk's newest copy, 0 where it has none (07 Table MT-7). -/
def chunkFrontier (s : State) (chunk : Nat) : Nat :=
  match newestCopy s (chunk / 15360) with
  | some c => c.frontierOf chunk
  | none => 0

/-- Whether a record changes the map: WRITE, MOVE or UNMAP (07 Table MT-5). -/
def JRec.ofMap (r : JRec) : Bool := decide (1 ≤ r.kind ∧ r.kind ≤ 3)

/-- The chunks changed since their newest copy (07 R178): a record at or after their FRONTIER names a page of theirs. -/
def changedChunks (s : State) : List Nat :=
  ((s.media.journal.filter fun r => r.ofMap && decide (chunkFrontier s (chunkOf r.a) ≤ r.jpos)).map fun r => chunkOf r.a).eraseDups

/-- The position from which the ring is still needed (07 R179): the lowest FRONTIER of the chunks changed since their newest copy, and that of
the set snapshot where a set or stripe record came after it. An unchanged chunk's copy needs no record (DEDUCED, log 110). -/
def lowestFrontier (s : State) : Nat :=
  let sets := if s.media.journal.any fun r => !r.ofMap && decide (s.media.ckpt.snap.jpos ≤ r.jpos) then s.media.ckpt.snap.jpos else s.media.jnext
  ((changedChunks s).map (chunkFrontier s)).foldl min sets

/-- JOURNAL_TAIL: records from the lowest FRONTIER on (07 R179). -/
def journalTail (s : State) : Nat := s.media.jnext - lowestFrontier s

/-- Free positions of the ring (07 R174, R179). -/
def journalFree (s : State) : Nat := 134217728 - journalTail s

/-- Whether the ring takes `n` records now: as many positions are free, and none waits for one (07 R174, R179). -/
def journalTakes (s : State) (n : Nat) : Bool := s.media.jwait.isEmpty && decide (n ≤ journalFree s)

/-- Whether the ring has a free position (07 R174, R179). -/
def journalRoom (s : State) : Bool := journalTakes s 1

/-- Spare blocks used on a die. -/
def sparesUsed (s : State) (die : Nat) : Nat := AMap.getD s.media.spares die 0

/-- SPARES_LEFT of a group: the 656 of each die, and the blocks of sets retired whole, less those used (07 R167, Table MT-10). -/
def sparesLeft (s : State) (g : Nat) : Nat :=
  let mine (d : Nat) : Bool := field d 25 20 == g + 1
  335872 + ((s.media.donated.filter (fun p => mine p.1)).map (fun p => p.2.length)).sum - ((s.media.spares.filter (fun p => mine p.1)).map (·.2)).sum

/-- The factory plan's record of a die (09 R216): what its production test gave, the offsets, steps, trim and verify levels, the spec does not state (free
values within the ranges of 09 Table AG-5, log 13). -/
def factoryDie (i : Nat) : DieRec :=
  { offsets := (List.range 27).map fun k => ((Config.unstated 2 [i, k] % 193 : Nat) : Int) - 96, softStep := Config.unstated 18 [i] % 16 + 1
    probeStep := Config.unstated 19 [i] % 8 + 1, trimStart := Config.unstated 20 [i] % 64, trimStep := Config.unstated 21 [i] % 32 + 1
    trimMax := Config.unstated 22 [i] % 29 + 4, verify := (List.range 3).map fun k => ((Config.unstated 23 [i, k] % 65 : Nat) : Int) - 32 }

/-- The record of a die in a plan, by its index (09 Table AG-4); the factory plan's where the plan holds none. -/
def planDie (p : Plan) (i : Nat) : DieRec := p.dies.getD i (factoryDie i)

/-- A read offset of a plan (09 Table AG-4). -/
def planOffset (p : Plan) (die i : Nat) : Int := (planDie p die).offsets.getD i 0

/-- The index of a die among a plan's records (09 R216). -/
def dieIndex (g st d : Nat) : Nat := (g * 16 + st) * 32 + d

/-- The active plan's record of a die (09 R216). -/
def dieRec (s : State) (g st d : Nat) : DieRec := planDie s.ag.active (dieIndex g st d)

/-- HORIZON_EFFECTIVE of a die (09 R221). -/
def horizonEffective (s : State) (g st d : Nat) : Nat :=
  max 86400 ((dieRec s g st d).horizon / 2 ^ (s.obj (U.die (g + 1) (st + 1) (d + 1)) Obj.FALLBACK_HALVINGS))

/-- horizon(s): the lowest effective horizon of the set's members' dies (07 R183, 09 R221). -/
def setHorizon (s : State) (g n : Nat) : Nat :=
  (List.range 16).foldl (fun a st => min a (horizonEffective s g st (n / 32768))) 31536000

/-- EQ_CLOCK of a die at an operating second (08 R206): interpolated linearly between its snapshots, or between the latest
snapshot and now; none when older than the oldest hourly snapshot. -/
def eqAt (s : State) (die at_ : Nat) : Option Nat :=
  let now := (s.hm.opsec, s.obj die Obj.EQ_CLOCK)
  let hours := AMap.getD s.ml.hours die []
  if !hours.isEmpty ∧ hours.all (fun p => decide (at_ < p.1)) then none else
  let snaps := now :: (AMap.getD s.ml.minutes die []) ++ hours
  let later := (snaps.filter (fun p => decide (at_ ≤ p.1))).foldl (fun b p => if p.1 ≤ b.1 then p else b) now
  let earlier := (snaps.filter (fun p => decide (p.1 ≤ at_))).foldl (fun b p => match b with
    | none => some p
    | some q => if q.1 < p.1 then some p else some q) none
  match earlier with
  | none => some 0
  | some e =>
    if later.1 ≤ e.1 then some e.2
    else some (e.2 + (later.2 - e.2) * (at_ - e.1) / (later.1 - e.1))

/-- Equivalent age on a die of what was programmed at an operating second; none when older than the snapshots reach. -/
def eqAge (s : State) (die at_ : Nat) : Option Nat := (eqAt s die at_).map (s.obj die Obj.EQ_CLOCK - ·)

/-- The drift bin of an equivalent age (08 Table ML-5). -/
def driftBin : Option Nat → Nat
  | none => 8
  | some a =>
    if a < 10 then 0 else if a < 100 then 1 else if a < 1000 then 2 else if a < 10000 then 3 else if a < 100000 then 4
    else if a < 1000000 then 5 else if a < 10000000 then 6 else if a < 100000000 then 7 else 8

/-- The equivalent age of a set: that of its stripe 0 on the member die whose clock has advanced most (08 R206). -/
def setAge (s : State) (g n : Nat) : Nat :=
  match AMap.get? s.media.stripes (stripeKey g (n * 256)) with
  | none => 0
  | some t => (List.range 16).foldl (fun a st =>
      match eqAge s (U.die (g + 1) (st + 1) (n / 32768 + 1)) t.programmedAt with
      | some x => max a x
      | none => max a 100000000) 0

/-- The line `i` of a stored page. -/
def StoredPage.line (p : StoredPage) (i : Nat) : StoredLine := AMap.getD p.lines i {}

/-- A sector is erased when its WSEQ is below KEY_ERASE_SEQ of its domain (10 R238, R239). -/
def sectorErased (s : State) (p : StoredPage) : Bool :=
  p.domain != 0 && decide (p.wseq < s.robj (Obj.KEY_ERASE_SEQ + p.domain))

/-- A line's contents as decoded and decrypted: an erased sector reads zeros whatever its marks (10 R239). -/
def storedLine (s : State) (p : StoredPage) (i : Nat) : StoredLine := if sectorErased s p then {} else p.line i

/-- What the media hold for a line: zeros without a mark for an UNMAPPED page (01 R17, 07 R173). -/
def mediaLine (s : State) (line : LineNo) : StoredLine :=
  match mapGet s (pageOfLine line) with
  | none => {}
  | some ppn => match AMap.get? s.media.store ppn with
    | some p => storedLine s p (line % 64)
    | none => {}

/-- Whether a page's map entry has a reserved bit set: it names no page and is repaired (07 R166, R181). -/
def entryReserved (s : State) (pn : PageNo) : Bool :=
  match AMap.get? s.media.map pn with
  | some p => decide (2^35 ≤ p)
  | none => false

/-- Whether the page's map entry can be used: its chunk is not under repair, and the entry names a page (07 R181). -/
def mapUsable (s : State) (pn : PageNo) : Bool := !AMap.has s.media.badMap (chunkOf pn) && !entryReserved s pn

/-- Whether a page's chunk has been lost, so that the page reads poison until a record gives it an entry again (07 R180, R181). -/
def mapLost (s : State) (pn : PageNo) : Bool :=
  (s.media.badChunks.contains (chunkOf pn) || s.media.lostSegs.contains (segOf pn)) && !s.media.regained.contains pn

/-- A region in force. -/
def getRegion (s : State) (r : Nat) : Region := AMap.getD s.mc.regions r {}

/-- The region in use that holds a device physical address, 0 where none does. -/
def regionOfDpa (s : State) (dpa : Nat) : Nat :=
  match s.mc.regions.find? (fun p => p.2.mode != 0 && decide (p.2.base ≤ dpa) && decide (dpa < p.2.base + p.2.size)) with
  | some p => p.1
  | none => 0

/-- The region that holds a page. -/
def regionOfPage (s : State) (pn : PageNo) : Nat := regionOfDpa s (pn * 4096)

/-- The region that holds a line. -/
def regionOfLine (s : State) (line : LineNo) : Nat := regionOfDpa s (line * 64)

/-- Which group's rebuild record. -/
def getRebuild (s : State) (g : Nat) : Rebuild := if g = 0 then s.media.rebuild1 else s.media.rebuild2

/-- REBUILD_LEFT: rebuild victims not yet emptied (07 R188). -/
def rebuildLeft (s : State) (g : Nat) : Nat :=
  (s.media.sets.filter fun p => p.1 / 2^20 == g && p.2.state == 3 && p.2.why == 3 && decide (validPages s p.1 ≠ 0)).length

/-- The pages of a set that the map names. -/
def pagesOfSet (s : State) (k : Nat) : List (Nat × Nat) := s.media.map.filter (fun p => ppnSetKey p.2 == k)

/-- A port's record. -/
def getPort (s : State) (n : Nat) : HostPort := AMap.getD s.hp.ports n {}

/-- A register of a port. -/
def preg (s : State) (n o : Nat) : Nat := s.obj (U.port n) o

/-- The odd unit of a port's link, which carries PORT_BIFURCATE (02 R28). -/
def linkUnit (n : Nat) : Nat := if n % 2 = 1 then n else n - 1

/-- Whether a port's link runs as two x8 ports (02 R28). -/
def bifurcated (s : State) (n : Nat) : Bool := preg s (linkUnit n) Obj.BIFURCATE_NOW == 1

/-- Whether a port unit is ABSENT (02 R28). -/
def portAbsent (s : State) (n : Nat) : Bool := n % 2 == 0 && !bifurcated s n

/-- Lanes of a port (02 R31). -/
def fullWidth (s : State) (n : Nat) : Nat := if bifurcated s n then 8 else 16

/-- The ports. -/
def allPorts : List Nat := (List.range 16).map (· + 1)

/-- The ports that are fitted: the even ones of an unbifurcated link are ABSENT (02 R28). -/
def presentPorts (s : State) : List Nat := allPorts.filter fun n => !portAbsent s n

/-- The agent that a source is on a port. -/
def findAgent (s : State) (port src : Nat) : Option Agent := s.hp.agents.find? (fun a => a.port == port && a.src == src)

/-- The slot of an agent. -/
def slotOf (s : State) (port src : Nat) : Option Nat :=
  (s.hp.slots.find? (fun p => p.2.port == port && p.2.src == src)).map (·.1)

/-- HDM_DB_AGENTS (02 Table HP-11). -/
def slotsUsed (s : State) : Nat := s.hp.slots.length

/-- Committed HDM-DB decoders of an agent. -/
def dbDecoders (a : Agent) : Nat := (a.decoders.filter (fun d => d.2.bi)).length

/-- Whether a port has a committed decoder. -/
def portHasDecoder (s : State) (n : Nat) : Bool := s.hp.agents.any fun a => a.port == n && !a.decoders.isEmpty

/-- Whether a port has a committed decoder on a region or its aliases. -/
def portOnRegion (s : State) (n r : Nat) : Bool :=
  s.hp.agents.any fun a => a.port == n && a.decoders.any fun d => d.2.region == r

/-- Committed decoders on a region and its aliases (03 Table MC-15, REGION_DECODERS). -/
def regionDecoders (s : State) (r : Nat) : Nat :=
  (s.hp.agents.map fun a => (a.decoders.filter fun d => d.2.region == r).length).sum

/-- Whether a port carries an enrolled agent. -/
def portEnrolled (s : State) (n : Nat) : Bool := s.hp.slots.any fun p => p.2.port == n

/-- Reasons that fence every range of a port and let it send nothing (02 Table HP-9a): all but DOMAIN_DOWN. -/
def fencedWhole (s : State) (n : Nat) : Bool := preg s n Obj.FENCE_REASON &&& 0x77 != 0

/-- Whether a port-local reason is in force (02 Table HP-10). -/
def fencedLocal (s : State) (n : Nat) : Bool := preg s n Obj.FENCE_REASON &&& 0x70 != 0

/-- Whether the link carries CXL.mem. -/
def linkMem (s : State) (n : Nat) : Bool := preg s n Obj.LINK_STATE == 3

/-- Whether the coherent domain is down (04 R105). -/
def domainIsDown (s : State) : Bool := s.robj Obj.DOMAIN_DOWN_LATCHED == 1

/-- f_wharf in quarters (06 Table WH-6). -/
def wharfQuarters (s : State) : Nat :=
  let l := s.robj Obj.WHARF_LEVEL
  if l ≤ 1 then 4 else if l = 2 then 2 else 1

/-- RWD_POOL (02 Table HP-7). -/
def rwdPool (s : State) (n : Nat) : Nat := if bifurcated s n then 128 else 256

/-- min(f_wharf, f_thermal) in quarters (02 R46). -/
def quarters (s : State) (n : Nat) : Nat := min (wharfQuarters s) (getPort s n).thermCut

/-- RWD_LIMIT (02 R46). -/
def rwdLimit (s : State) (n : Nat) : Nat := rwdPool s n * quarters s n / 4

/-- LIMIT_CAUSE (02 R46). -/
def limitCause (s : State) (n : Nat) : Nat :=
  b2n (decide (wharfQuarters s < 4)) + 2 * b2n (decide ((getPort s n).thermCut < 4))

/-- The in-slice key of a sector (04 R88). -/
def sectorKey (x : SectorNo) : Nat := pageOfSector x / 16 * 8 + x % 8

/-- The home-cache set of a sector (05 R111). -/
def hcSet (x : SectorNo) : Nat := sectorKey x % 1536

/-- The key of a way of a sector's set. -/
def hcKey (x : SectorNo) (way : Nat) : Nat := 24576 * sliceOfSector x + hcSet x * 16 + way

/-- Berth ways of a slice (05 R125). -/
def berthWaysOf (s : State) (sl : Nat) : List Nat := AMap.getD s.hc.berthWays sl []

/-- Whether a way is disabled (05 R123). -/
def wayDisabled (s : State) (sl w : Nat) : Bool := bitOf (s.robj (Obj.HC_WAY_DISABLED + sl + 1)) w

/-- Whether a way is enabled, caches, and is not being made a berth way (05 R111, R132). -/
def wayCaches (s : State) (sl w : Nat) : Bool :=
  !wayDisabled s sl w && !(berthWaysOf s sl).contains w && !(s.hc.copies.any fun c => c.1 == sl && c.2.2 == w)

/-- The caching ways of a slice. -/
def cachingWays (s : State) (sl : Nat) : List Nat := (List.range 16).filter (wayCaches s sl)

/-- First byte of the berth window (05 R126). -/
abbrev berthBase : Nat := 0x5000000000000

/-- Bytes of a berth way in the module (05 R125): 12 MiB. -/
abbrev berthWayBytes : Nat := 12582912

/-- BERTH_SIZE_NOW. -/
def berthSize (s : State) : Nat := berthWayBytes * s.robj Obj.BERTH_WAYS_NOW

/-- MIRROR_STATE (05 Table HC-3). -/
def mirState (s : State) : Nat := s.robj Obj.MIRROR_STATE

/-- MIRROR_LAG (05 R137): 64 bytes for each record of an asynchronous range not acknowledged. -/
def mirrorLag (s : State) : Nat :=
  64 * (((s.hc.mirror.unacked ++ s.hc.mirror.waitSend).filter (·.async)).map (fun f => f.recs.length)).sum

/-- The state of line `i` in an LSTATE: 0 I, 1 S, 2 E (04 R89). -/
def lineOf (lstate i : Nat) : Nat := lstate / 3^i % 3

/-- An LSTATE with the state of line `i` changed. -/
def withLine (lstate i st : Nat) : Nat := lstate - lineOf lstate i * 3^i + st * 3^i

/-- The directory set of a sector (04 R88). -/
def dirSet (x : SectorNo) : Nat := sectorKey x % 49152

/-- The key of a way of a sector's set. -/
def dirKey (x : SectorNo) (way : Nat) : Nat := 786432 * sliceOfSector x + dirSet x * 16 + way

/-- The way that holds a sector's entry. -/
def dirWay (s : State) (x : SectorNo) : Option Nat :=
  (List.range 16).find? fun w => match AMap.get? s.dir.entries (dirKey x w) with
    | some e => e.sector == x
    | none => false

/-- A sector's entry. -/
def dirEntry (s : State) (x : SectorNo) : Option DirEntry :=
  match dirWay s x with
  | some w => AMap.get? s.dir.entries (dirKey x w)
  | none => none

/-- The state of a line at the directory (04 R90). -/
def dirState (s : State) (line : LineNo) : Nat :=
  match dirEntry s (sectorOfLine line) with
  | some e => lineOf e.lstate (line % 8)
  | none => 0

/-- SHARERS of a line's sector. -/
def dirSharers (s : State) (line : LineNo) : Nat :=
  match dirEntry s (sectorOfLine line) with
  | some e => e.sharers
  | none => 0

/-- Whether a transaction on a line that a test picks is open until the media answer it (04 before R93). -/
def txAnswering (s : State) (p : LineNo → Bool) : Bool := s.ml.reads.any fun r => !r.delivered && r.accs.any fun a => a.tx && p a.line

/-- Whether an entry is busy (04, before R95). -/
def sectorBusy (s : State) (x : SectorNo) : Bool := (s.dir.txs.any fun t => t.sector == x) || txAnswering s fun l => sectorOfLine l == x

/-- Whether a line is recall-pending (04 R98). -/
def recallPending (s : State) (line : LineNo) : Bool := s.dir.snoops.any fun q => q.line == line

/-- Whether a mark reads as poison under REGION_STALE_READ (04 R108, 10 Table DP-5). -/
def markPoison (mark staleRead : Nat) : Bool := mark == 1 || mark == 3 || (mark == 2 && staleRead == 0)

/-- REGION_STALE_READ of a line's region in force. -/
def staleReadOf (s : State) (line : LineNo) : Nat := (getRegion s (regionOfLine s line)).staleRead

/-- Whether no flush buffer can take a dump, so that bulk and berth writes are held (11 R271): no buffer is ERASED, or a media
bank is off or in a retry while one is not. -/
def dumpBlocked (s : State) : Bool :=
  let erased (b : Nat) : Bool := s.obj U.power (Obj.FLUSH_BUFFER_STATE + b) == 0
  let bankOff := (List.range 4).any fun b => decide (s.obj U.power (Obj.BANK_STATE + b + 1) ≠ 0) && decide (b < 2 * groupCount s.variant)
  (!erased 1 && !erased 2) || (bankOff && !(erased 1 && erased 2))

end Sys2Proof.Machine
end

