-- ==== Sys2Proof/Machine/Query.lean ====
section
/-! DEFINITION. What the registers that report state read as: unit and module states, the objects computed from the state, the
aggregates of group units, and the layouts of the BLOB objects (00 R9, 01 R21 to R26, 15 R345 and each chapter's objects). -/
namespace Sys2Proof.Machine
open Sys2Proof

/-! ## States of units -/

/-- Order of worth of Table AX-7 (01 R22): ABSENT, READY, STARTING, OFF, DEGRADED, FENCED, FAILED, HALTED, of the codes of
Table OD-7. -/
def worth (st : Nat) : Nat := [0, 3, 2, 1, 4, 6, 5, 7].getD st 0
/-- The worse of two unit states. -/
def worseState (a b : Nat) : Nat := if worth a < worth b then b else a
/-- The worst of some unit states; ABSENT of none. -/
def worstState (l : List Nat) : Nat := l.foldl worseState 0

/-- Banks of the variant. -/
def bankCount (s : State) : Nat := 2 * groupCount s.variant
/-- The bank of a stack, 0 to 3: stacks 1 to 8 and 9 to 16 of each group (11 R260). -/
def bankOf (g st : Nat) : Nat := 2 * g + st / 8
/-- Sensors of a unit, by the state's key. -/
def sensorOf (s : State) (u k : Nat) : Sensor := AMap.getD s.th.sensors (u * 64 + (k - 1)) {}
/-- FAILED sensors among the first `n` of a unit. -/
def failedSensors (s : State) (u n : Nat) : Nat := ((List.range n).filter fun i => (sensorOf s u (i + 1)).failed).length

/-- Whether a rail is fitted (11 R254). -/
def railFitted (v : Variant) (n : Nat) : Bool := decide (1 ≤ n ∧ n ≤ 18) && !(v == .p064 && decide (12 ≤ n ∧ n ≤ 15))

/-- How many sensors a unit carries (13 Table TH-1). The input phases are sensors 1 and 2 of /3 and the hold-up converter sensor 3. -/
def sensorCount (v : Variant) (u : Nat) : Nat :=
  match (pathLevels u).filter (· != 0) with
  | [] => if u = 0 then 2 else 0
  | [1] => 64
  | [3] => 3
  | [3, n] => if railFitted v n ∧ (n ≤ 15 ∨ n = 17) then 1 else 0
  | [4, g, _] => if g ≤ groupCount v then 2 else 0
  | [7, n] => if n ≤ 8 then 1 else 0
  | _ => 0

/-- Whether every sensor that a unit carries is marked FAILED: such a child is excluded from its group's aggregates (00 R9). -/
def sensorsGone (s : State) (u : Nat) : Bool :=
  let n := sensorCount s.variant u
  n != 0 && failedSensors s u n == n

/-- The states of the children that enter a group's state (00 R9): those of a child and its unit, but for one whose sensors have failed. -/
def countedStates (s : State) (cs : List (Nat × Nat)) : List Nat := (cs.filter fun c => !sensorsGone s c.1).map (·.2)

/-- The controller's state. -/
def ctlState (s : State) : Nat :=
  match s.phase with
  | .cold | .sequencing | .latchedOff => 1
  | .booting | .loading => 2
  | .flushing => 3
  | .halted => if s.dp.dumpDone then 7 else 2
  | .running =>
    if 3 ≤ s.robj Obj.PSTATE_NOW then 1
    else if 16 < failedSensors s U.ctl 64 then 4
    else if !(s.dp.remapFull.filter (2048 ≤ ·)).isEmpty then 4
    else 3

/-- Whether the controller-group and media rails are up. -/
def railOn (s : State) (n : Nat) : Bool := s.pw.railsUp.contains n

/-- The harbourmaster's state (16 R364, R369). -/
def hmState (s : State) : Nat := if !s.hm.running then 1 else if s.hm.badPages.isEmpty then 3 else 4

/-- The PMBus devices that serve a rail, by address (11 Table PW-2): rails 1 to 7 by S0, each bank's by S1 to S4, V_BUS by the
input phases and V_HOLD by the hold-up converter; VDD_AON has none. -/
def railDevices (n : Nat) : List Nat :=
  if n ≤ 7 then [0x40] else if n ≤ 15 then [0x41 + (n - 8) / 2] else if n = 16 then [0x50, 0x51] else if n = 17 then [0x58] else []

/-- A rail's state. -/
def railState (s : State) (n : Nat) : Nat :=
  if s.variant = .p064 ∧ 12 ≤ n ∧ n ≤ 15 then 0
  else if n = 17 ∧ s.pw.bankDead then 5
  else if (railDevices n).any (fun d => s.pw.unreachable.contains d) then 4
  else if !railOn s n then 1
  else if s.obj (U.rail n) Obj.PHASES_LOST ≠ 0 then 4
  else if n = 16 ∧ ¬ s.pw.lostPhases.isEmpty then 4
  else 3

/-- A stack's own state, its dies apart. -/
def stackOwn (s : State) (g st : Nat) : Nat :=
  let u := U.stack (g + 1) (st + 1)
  if s.media.deadStacks.contains u then 5
  else
    let bank := s.obj U.power (Obj.BANK_STATE + bankOf g st + 1)
    let up := railOn s (8 + 2 * bankOf g st) && railOn s (9 + 2 * bankOf g st)
    if !up ∨ 1 ≤ bank ∨ 3 ≤ s.robj Obj.PSTATE_NOW then (if s.pw.bankLink.contains (bankOf g st) ∧ up ∧ bank = 0 then 2 else 1)
    else if s.pw.bankLink.contains (bankOf g st) then 2
    else if s.media.offStacks.contains u then 1
    else if !s.cs.linksTrained then 2
    else if failedSensors s u 2 = 2 then 4
    else 3

/-- A die's state (07 R187): FAILED when dead, its stack's otherwise unless the stack has failed. -/
def dieState (s : State) (g st d : Nat) : Nat :=
  if s.media.deadDies.contains (U.die (g + 1) (st + 1) (d + 1)) then 5
  else
    let x := stackOwn s g st
    if x = 4 then 3 else x

/-- A stack's state with its dies' (00 R9). -/
def stackState (s : State) (g st : Nat) : Nat :=
  let dead := s.media.deadDies.any fun u => field u 25 20 == g + 1 && field u 19 14 == st + 1
  worseState (stackOwn s g st) (if dead then 5 else 0)

/-- A parity group's state. -/
def groupState (s : State) (g : Nat) : Nat :=
  worstState (countedStates s ((List.range 16).map fun st => (U.stack (g + 1) (st + 1), stackState s g st)))

/-- A host port's state (02 R31, R49), OFF in a loopback (18 Table TS-1). -/
def portState (s : State) (n : Nat) : Nat :=
  let p := getPort s n
  if portAbsent s n then 0
  else if ctlState s = 1 ∨ preg s n Obj.PORT_ENABLE_STATE ≠ 1 ∨ AMap.has s.ts.loops (U.port n) then 1
  else if p.failed then 5
  else if ¬ p.farEnd then 1
  else if preg s n Obj.FENCE_REASON ≠ 0 then 6
  else if p.degraded ∨ preg s n Obj.LINK_STATE = 2 then 4
  else if preg s n Obj.LINK_STATE = 3 then 3
  else 2

/-- A network port's state (15 R358). Its link-local address serves while a session is open on it (DESIGN CHOICE, log 86). -/
def netState (s : State) (p : Nat) : Nat :=
  let u := U.netPort p
  let np := if p = 1 then s.kdp.net1 else s.kdp.net2
  if ctlState s = 1 then 1
  else if s.obj u Obj.NET_ENABLE_STATE ≠ 1 then 1
  else if np.phyFault then 5
  else if AMap.has s.ts.loops u then 2
  else if s.obj u Obj.NET_LINK = 2 ∧ (np.addrHeld ∨ s.kdp.sessions.any (fun x => x.netPort == p && x.via == .linkLocal)) then 3
  else 2

/-- An HBM stack's state. -/
def hbmState (s : State) (n : Nat) : Nat :=
  if ctlState s = 1 then 1
  else if s.phase = .booting ∨ ¬ s.cs.hbmTrained ∨ s.ts.hbmTests.contains (U.hbmStack n) ∨ AMap.has s.ts.loops (U.hbmStack n) then 2
  else if (sensorOf s (U.hbmStack n) 1).failed then 4
  else if s.dp.remapFull.any (fun c => decide (c < 2048) && c / 256 + 1 == n) then 4
  else 3

/-- UNIT_STATE of a unit (15 Table OD-7), a group's by its worst child (00 R9, 15 R345). -/
def unitState (s : State) (u : Nat) : Nat :=
  let groups := worstState ((List.range (groupCount s.variant)).map (groupState s))
  let rails := worstState (countedStates s ((List.range 18).map fun i => (U.rail (i + 1), railState s (i + 1))))
  let ports := worstState ((List.range 16).map fun i => portState s (i + 1))
  let nets := worstState [netState s 1, netState s 2]
  let hbms := worstState (countedStates s ((List.range 8).map fun i => (U.hbmStack (i + 1), hbmState s (i + 1))))
  match (pathLevels u).filter (· != 0) with
  | [] => worstState (countedStates s [(U.ctl, ctlState s), (U.hm, hmState s), (U.power, rails), (U.media, groups), (U.ports, ports), (U.net, nets), (U.hbm, hbms)])
  | [1] => ctlState s
  | [2] => hmState s
  | [3] => rails
  | [3, n] => railState s n
  | [4] => groups
  | [4, g] => groupState s (g - 1)
  | [4, g, st] => stackState s (g - 1) (st - 1)
  | [4, g, st, d] => dieState s (g - 1) (st - 1) (d - 1)
  | [5] => ports
  | [5, n] => portState s n
  | [6] => nets
  | [6, p] => netState s p
  | [7] => hbms
  | [7, n] => hbmState s n
  | _ => 0

/-- Whether a unit is ABSENT (15 Table OD-7): a rail that the variant lacks or an unfitted host port; every other unit of the tree is present. -/
def unitAbsent (s : State) (u : Nat) : Bool :=
  match (pathLevels u).filter (· != 0) with
  | [3, n] => s.variant == .p064 && decide (12 ≤ n) && decide (n ≤ 15)
  | [5, n] => portAbsent s n
  | _ => false

/-! ## MODULE_STATE -/

/-- Whether any redundancy is missing (01 R26, Table AX-8; each cause by its own chapter). -/
def redundancyLost (s : State) : Bool :=
  !s.media.deadDies.isEmpty || !s.media.deadStacks.isEmpty || !s.media.offStacks.isEmpty
    || s.media.rebuild1.running || s.media.rebuild2.running
    || (List.range 16).any (fun i => s.robj (Obj.HC_WAY_DISABLED + i + 1) != 0)
    || s.dp.remapFull.any (fun c => decide (c < 2048))
    || !s.pw.lostPhases.isEmpty || (List.range 15).any (fun i => s.obj (U.rail (i + 1)) Obj.PHASES_LOST != 0)
    || allPorts.any (fun n => (getPort s n).failed && !portAbsent s n)
    || (List.range (bankCount s)).any (fun b => s.obj U.power (Obj.BANK_STATE + b + 1) != 0)
    || s.pw.bankDead || s.pw.lowNoted || s.cs.lost1 || s.cs.lost2 || !s.pw.unreachable.isEmpty
    || netState s 1 == 5 || netState s 2 == 5

/-- MODULE_STATE (01 R23, R26). -/
def moduleState (s : State) : Nat :=
  match s.phase with
  | .latchedOff => 8
  | .halted => 7
  | .flushing => 6
  | .cold => 0
  | .sequencing => 1
  | .booting => 2
  | .loading => 3
  | .running => if domainIsDown s then 9 else if redundancyLost s then 5 else 4

/-! ## Temperatures -/

/-- The 16-bit encoding of a signed value. -/
def encI16 (x : Int) : Nat := (x % 65536).toNat
/-- The value that a 16-bit encoding spells. -/
def decI16 (n : Nat) : Int := if 0x8000 ≤ n then (n : Int) - 65536 else n

/-- The larger of two readings. -/
def maxOpt (a b : Option Int) : Option Int :=
  match a, b with
  | some x, some y => some (max x y)
  | some x, none => some x
  | none, y => y

/-- The unit of a part: the input phases and the hold-up converter, stages of their own on /3 (13 Table TH-1), are the parts /3 + 1 to /3 + 3. -/
def partUnit (p : Nat) : Nat := if U.power < p ∧ p ≤ U.power + 3 then U.power else p
/-- Whether a sensor, by its key, governs a part. -/
def partSensor (p key : Nat) : Bool := key / 64 == partUnit p && (p == partUnit p || key % 64 + 1 == p - U.power)

/-- The governed parts at or below a unit. -/
def partsUnder (s : State) (u : Nat) : List (Nat × Part) := s.th.parts.filter fun p => unitUnder (partUnit p.1) u

/-- Whether a sensor of a part works (00 R9, 13 R303). -/
def partWorks (s : State) (p : Nat) : Bool := s.th.sensors.any fun q => partSensor p q.1 && !q.2.failed

/-- TEMP_NOW (15 Table OD-5, R345): the hottest working sensor of the latest sample, none without a sample in the last second or with no sensor
working. -/
def tempNow (s : State) (u : Nat) : Option Int :=
  (partsUnder s u).foldl (fun a p => maxOpt a (match p.2.maxes with
    | (t, x) :: _ => if s.now < t + 400000000 ∧ partWorks s p.1 then some x else none
    | [] => none)) none
/-- TEMP_MAX: the highest TEMP_NOW of the last second, of the parts with a sensor that works (00 R9). -/
def tempMax (s : State) (u : Nat) : Option Int :=
  ((partsUnder s u).filter fun p => partWorks s p.1).foldl (fun a p => (p.2.maxes.filter fun m => decide (s.now < m.1 + 400000000)).foldl (fun a m => maxOpt a (some m.2)) a) none
/-- A reading as its object shows it. -/
def tempObj (x : Option Int) : Nat := match x with
  | some t => encI16 t
  | none => 0x8000

/-- Rise of a sensor over 250 ms in 0.01 °C (13 R306): `hist` holds one entry for each millisecond. -/
def Sensor.rise (x : Sensor) : Option Int := match x.hist, x.hist[250]? with
  | t :: _, some t0 => some (t - t0)
  | _, _ => none
/-- Sensors at or below a unit that work, the coolant sensors apart. -/
def sensorsUnder (s : State) (u : Nat) : List (Nat × Sensor) :=
  s.th.sensors.filter fun p => p.1 / 64 != 0 && unitUnder (p.1 / 64) u && !p.2.failed

/-! ## Output pins -/

/-- ALERT_N by Table MB-8, holds apart: low where the memory service needs attention. -/
def alertCalled (s : State) : Bool :=
  match moduleState s with
  | 5 | 6 | 7 | 8 | 9 => true
  | _ => false
/-- THERM_N by Table MB-8 and 13 R305, holds apart. -/
def thermCalled (s : State) : Bool :=
  if s.phase = .cold ∨ s.phase = .latchedOff then s.hm.latchThermal
  else s.hm.latchThermal || s.th.parts.any fun p => p.2.warn
/-- Whether the output pads are held (12 R285, R294). -/
def padsHeld (s : State) : Bool := s.pins.held || s.robj Obj.PAD_HOLD == 1
/-- Whether EXTEST drives the outputs (14 R321): only in COLD and LATCHED_OFF. -/
def extestOn (s : State) : Bool := s.pins.tapIr == 3 && (s.phase == .cold || s.phase == .latchedOff)
/-- Whether STAGE_SLOW_N is driven low (06 R161). -/
def stageSlow (s : State) : Bool := s.hm.running && if extestOn s then bitOf s.pins.tapDrive 0 else s.pins.slowLow
/-- Whether STAGE_STOP_N is driven low (06 R161). -/
def stageStop (s : State) : Bool := s.hm.running && if extestOn s then bitOf s.pins.tapDrive 1 else s.pins.stopLow
/-- Whether ALERT_N is driven low (14 Table MB-8). -/
def alertLow (s : State) : Bool := s.hm.running && if extestOn s then bitOf s.pins.tapDrive 2 else if padsHeld s then s.pins.heldAlert else alertCalled s
/-- Whether THERM_N is driven low (14 Table MB-8). -/
def thermLow (s : State) : Bool := s.hm.running && if extestOn s then bitOf s.pins.tapDrive 3 else if padsHeld s then s.pins.heldTherm else thermCalled s
/-- Hold ALERT_N and THERM_N at their present levels; the stage pins keep theirs while held. -/
def capturePads (s : State) : State :=
  { s with pins := { s.pins with heldAlert := alertLow s, heldTherm := thermLow s } }

/-! ## Aggregates over a subtree -/

/-- Whether a unit lies below a group unit at or under a child that is excluded from the group's aggregates (00 R9). -/
def excludedUnder (s : State) (u x : Nat) : Bool := (unitAncestors x).any fun c => c != u && unitUnder c u && sensorsGone s c
/-- The sum of a register over a unit and every unit below it, excluded children apart (00 R9). -/
def sumUnder (s : State) (u o : Nat) : Nat :=
  ((s.objs.filter fun p => p.1 % 2^24 == o && unitUnder (p.1 / 2^24) u && !excludedUnder s u (p.1 / 2^24)).map (·.2)).sum
/-- The total of a register over a unit and every unit below it, for the means of 09. -/
def totalUnder (s : State) (u o : Nat) : Nat :=
  ((s.objs.filter fun p => p.1 % 2^24 == o && unitUnder (p.1 / 2^24) u).map (·.2)).sum
/-- The written values of a register at or below a unit. -/
def valuesUnder (s : State) (u o : Nat) : List Nat :=
  (s.objs.filter fun p => p.1 % 2^24 == o && unitUnder (p.1 / 2^24) u).map (·.2)

/-- Dies at or below a unit. -/
def diesUnder (s : State) (u : Nat) : Nat :=
  match (pathLevels u).filter (· != 0) with
  | [4] => 512 * groupCount s.variant
  | [4, _] => 512
  | [4, _, _] => 32
  | _ => 1

/-! ## Counts of the state -/

/-- STALE_LINES (04 R108): lines that a stale marker covers, and lines whose media copy is marked stale and that no staged write
has made whole; a key destruction does not lower it (10 R239). -/
def staleLines (s : State) : Nat :=
  let marked := ((s.wharf.markers.filter (fun p => !p.2.hidden)).map fun p => ((List.range 8).filter (bitOf p.2.mask)).length).sum
  let stored := (s.media.map.map fun q => match AMap.get? s.media.store q.2 with
    | none => 0
    | some pg => (pg.lines.filter fun l =>
        let line := q.1 * 64 + l.1
        decide (2 ≤ l.2.mark) && !markerCovers s line && (match stagedEntry s line with
          | some e => e.mask != fullMask && staleReadOf s line != 1
          | none => true)).length).sum
  let kept := (s.dp.staleKept.filter fun l => !markerCovers s l).length
  marked + stored + kept

/-- Lines in a state at the directory. -/
def linesIn (s : State) (st : Nat) : Nat :=
  (s.dir.entries.map fun e => ((List.range 8).filter fun i => lineOf e.2.lstate i == st).length).sum

/-- The sets of a group that hold valid pages. -/
def holdsHost (s : State) (g : Nat) : Nat :=
  (s.media.sets.filter fun p => p.1 / 2^20 == g && p.2.state != 0 && decide (validPages s p.1 ≠ 0)).length
/-- WRITE_AMP of a group (07 Table MT-10): plates programmed for each plate of host drain over the last 3600 s, in 0.01; its default while
host drain programmed none. -/
def writeAmp (s : State) (g : Nat) : Nat :=
  let ps := s.media.plates.filter fun p => p.2 / 2 == g && decide (s.hm.opsec < p.1 + 3600)
  let h := (ps.filter fun p => p.2 % 2 == 1).length
  if h = 0 then 100 else min 65535 (ps.length * 100 / h)
/-- FULL_TIME now: the episodes ended, and the time since the wharf filled (06 R160). -/
def fullTime (s : State) : Nat :=
  s.robj Obj.FULL_TIME + (match s.wharf.fullSince with
    | some t => usBetween t s.now
    | none => 0)
/-- REC_STATE of a group (07 R182, R190). -/
def recState (s : State) (g : Nat) : Nat :=
  let row := if g = 0 then s.media.reclaimStep1 else s.media.reclaimStep2
  if noSpare s g then 4
  else if 3 ≤ row then 3
  else if row = 2 then 2
  else if s.media.sets.any (fun p => p.1 / 2^20 == g && p.2.state == 3 && p.2.why == 1) then 1 else 0
/-- REKEY_LEFT: mapped pages of a rotating domain not yet scanned (10 R238). -/
def rekeyLeft (s : State) (d : Nat) : Nat :=
  if s.robj (Obj.KEY_STATE + d) ≠ 2 then 0
  else match AMap.get? s.dp.doms d with
    | some x => (s.media.map.filter fun p => decide (x.pos ≤ p.1)).length
    | none => 0
/-- SPARES_USED of a unit. -/
def sparesUnder (s : State) (u : Nat) : Nat := ((s.media.spares.filter fun p => unitUnder p.1 u).map (·.2)).sum
/-- Effective horizon of a unit: a die's, a group's lowest (09 R221, R228). -/
def horizonOf (s : State) (u : Nat) : Nat :=
  let dies (g st : Nat) : Nat := (List.range 32).foldl (fun a d => min a (horizonEffective s g st d)) 31536000
  match (pathLevels u).filter (· != 0) with
  | [4, g, st, d] => horizonEffective s (g - 1) (st - 1) (d - 1)
  | [4, g, st] => dies (g - 1) (st - 1)
  | [4, g] => (List.range 16).foldl (fun a st => min a (dies (g - 1) st)) 31536000
  | _ => (List.range (groupCount s.variant)).foldl (fun a g => (List.range 16).foldl (fun a st => min a (dies g st)) a) 31536000

/-- Clock domains of a block of Table CS-5 (12 Table CS-2): the drain engines have one in each slice. -/
def blockDomains (b : Nat) : Nat := if b = 1 then 16 else 1
/-- Clock domains behind a gate that a reset opened during a freeze. -/
def gateDomains (k : Nat) : Nat := if k = 0 then 5 else if k < 100 then blockDomains k else 1

/-- CLK_DOMAINS_ON (12 R278): none before BOOTING, nor in P3 and P4 until a wake's second step has ended; while frozen, those of the flush core, the
watchdog and the test controller and those that a reset has opened; else all 268 but those of blocks whose clock is not ready (R288). -/
def clkDomains (s : State) : Nat :=
  if s.phase = .cold ∨ s.phase = .sequencing ∨ s.phase = .latchedOff ∨ (3 ≤ s.robj Obj.PSTATE_NOW ∧ s.cs.wakeStep < 3) then 0
  else if s.robj Obj.FROZEN = 1 then 3 + (s.cs.opened.map gateDomains).sum
  else 268 - (((List.range 6).filter fun b => s.robj (Obj.BLOCK_STATE + b + 1) == 2).map fun b => blockDomains (b + 1)).sum

/-- A wrapped key (10 R240): under the custodian key, or the device key while none is set. -/
def wrapKey (s : State) (k : BitVec 256) : List Byte := Config.aesWrap (s.dp.custodian.getD Config.deviceKey) k
/-- A domain's key number as a wrapped key; 40 zero bytes for none. -/
def wrappedKey (s : State) (k : Option Nat) : List Byte :=
  match k with
  | some n => wrapKey s (AMap.getD s.dp.keys n 0)
  | none => List.replicate 40 0

/-! ## Computed scalars -/

/-- The objects on the root that are computed from the state. -/
def readRoot (s : State) (o : Nat) : Option Nat :=
  let sub := o % 256
  match o / 256 with
  | 0x0010 => some (moduleState s)
  | 0x1107 => some (regionDecoders s sub)
  | 0x1140 => some s.wharf.pinned.length
  | 0x1201 => some (if sub = 1 then s.dir.entries.length else linesIn s (sub - 1))
  | 0x1206 => some (staleLines s)
  | 0x1209 =>
    let x := s.robj Obj.DIR_PROBE_ADDR / 512
    let e := dirEntry s x
    if sub = 1 then some (match e with
      | some e => 2^32 * e.sharers + 2^13 * (sectorKey x / 49152) + e.lstate
      | none => 0)
    else some (b2n e.isSome + 2 * b2n (sectorBusy s x) + 4 * b2n ((List.range 8).any fun i => recallPending s (x * 8 + i)))
  | 0x1306 => some ((List.range 16).map fun i => (cachingWays s i).length).sum
  | 0x1310 => if sub = 2 then some (berthSize s) else none
  | 0x1330 =>
    if sub = 2 then some (mirrorLag s)
    else if sub = 3 then some (match s.hc.mirror.unacked with
      | f :: _ => usBetween f.at_ s.now
      | [] => 0)
    else if sub = 5 then some s.hc.mirror.bitmap.length
    else if sub = 6 then some (if mirState s = 1 ∨ mirState s = 2 ∨ mirState s = 3 then s.robj Obj.MIRROR_PORT_NOW else 0)
    else none
  | 0x1403 => some (dirtyNow s)
  | 0x1404 => some (occupancy s)
  | 0x1407 => some (sliceLive s (sub - 1))
  | 0x1408 => some (s.wharf.lighters.filter fun l => l.state == 1 && l.prio == sub - 1).length
  | 0x1420 => if sub = 7 then some (fullTime s % 2^64) else none
  | 0x1500 => if sub = 2 then some (segCount s.variant) else if sub = 4 then some (journalTail s) else none
  | 0x1622 => some (s.media.sets.filter fun p => decide (1 ≤ p.2.due)).length
  | 0x1623 => some (s.media.sets.filter fun p => p.2.due == 2).length
  | 0x1703 => if sub = 1 then some s.ag.active.id
    else if sub = 2 then some (match s.ag.previous with
      | some p => p.id
      | none => 0xFFFFFFFF)
    else none
  | 0x180D => none
  | 0x1819 => some (rekeyLeft s sub)
  | 0x1820 => some s.dp.wseq
  | 0x1850 => some (s.wharf.entries.filter fun p => p.2.poison).length
  | 0x1A01 => some (clkDomains s)
  | 0x1A16 => some (s.robj o + if s.phase = .running ∧ s.robj Obj.PSTATE_NOW + 1 = sub then usBetween s.cs.resAt s.now else 0)
  | 0x1B20 =>
    let x := sensorOf s 0 sub
    some (if x.failed then 0x8000 else tempObj (x.hist.head?))
  | 0x1B30 => some (b2n s.hm.latchThermal)
  | 0x1C02 => some s.kdp.sessions.length
  | 0x1C29 => some (s.kdp.backoffs.filter fun b => decide (0 < b.b)).length
  | 0x1D12 => if sub = 1 then some s.recorder.next else none
  | 0x1F24 => some (s.ts.image + 1)
  | 0x1F15 => some (b2n s.ts.unlocker.isSome)
  | _ => none

/-- VIN averaged over the last second, mV (11 R267); the present VIN while no sample of it stands. -/
def vinAvg (s : State) : Nat := if s.pw.vinWindow.isEmpty then s.obj U.power Obj.VIN_NOW else s.pw.vinWindow.sum / s.pw.vinWindow.length
/-- VIN_FAIL in mV (11 R267). -/
def vinFail (s : State) : Nat := max 5500 (s.obj U.power Obj.VIN_FAIL_PCT * vinAvg s / 100)

/-- The objects that group units aggregate, and those of other units that are computed from the state. -/
def readUnit (s : State) (u o : Nat) : Option Nat :=
  let sub := o % 256
  let lv := (pathLevels u).filter (· != 0)
  match o / 256 with
  | 0x0002 => some (unitState s u)
  | 0x0100 => some (tempObj (tempNow s u))
  | 0x0101 => some (tempObj (tempMax s u))
  | 0x0110 | 0x0111 => some (sumUnder s u o)
  | 0x0005 => some (Config.fwVersion (ownPart u))
  | 0x100A => if u = U.ports then some ((valuesUnder s u o).foldl max 0) else none
  | 0x100B =>
    let n := lv.getD 1 0
    some (if sub = 1 then rwdPool s n else if sub = 2 then rwdLimit s n else limitCause s n)
  | 0x100C => some (s.hp.agents.filter fun a => a.port == lv.getD 1 0).length
  | 0x1010 => some (sumUnder s u o)
  | 0x1041 => some (slotsUsed s)
  | 0x1510 =>
    let g := lv.getD 1 0 - 1
    match sub with
    | 1 => some (setsFree s g)
    | 2 => some (setsFreePct s g)
    | 3 => some (s.media.sets.filter fun p => p.1 / 2^20 == g && p.2.state == 6).length
    | 4 => some (sparesLeft s g)
    | 5 => some (recState s g)
    | _ => some (holdsHost s g)
  | 0x1511 => if sub = 2 then some (rebuildLeft s (lv.getD 1 0 - 1)) else none
  | 0x1512 => if sub = 6 then some (writeAmp s (lv.getD 1 0 - 1)) else some (sumUnder s u o)
  | 0x1630 => if sub = 5 then some ((valuesUnder s u o).foldl max 0) else some (sumUnder s u o)
  | 0x1641 | 0x1642 => some (sumUnder s u o)
  | 0x1720 => some ((valuesUnder s u o).foldl min 255)
  | 0x1721 => some (horizonOf s u)
  | 0x1722 | 0x1726 => some ((valuesUnder s u o).foldl max 0)
  | 0x1723 => some (if sub = 1 then totalUnder s u o / diesUnder s u else (valuesUnder s u o).foldl max 0)
  | 0x1724 => some (sparesUnder s u)
  | 0x1725 => some (totalUnder s u o / diesUnder s u)
  | 0x1727 => some ((valuesUnder s u o).foldl min 0xFFFFFFFF)
  | 0x1900 => if sub = 2 then some (vinAvg s) else none
  | 0x1902 => if sub = 2 then some (vinFail s) else none
  | 0x1903 => if sub = 4 then some (tempObj (tempNow s (U.rail 17))) else none
  | 0x1912 => some (sumUnder s u o)
  | 0x1B00 =>
    if lv.length = 0 ∨ u = U.power then some 12500
    else if u = U.media ∨ (lv.getD 0 0 = 4 ∧ lv.length = 2) then some (s.obj (U.stack 1 1) o)
    else if u = U.hbm then some (s.obj (U.hbmStack 1) o)
    else none
  | 0x1B01 => some ((valuesUnder s u o).foldl max 0)
  | 0x1B02 => some (max (s.obj U.power Obj.POWER_STEP) ((valuesUnder s u Obj.THERM_STEP).foldl max 0))
  | 0x1B03 => some (encI16 (((sensorsUnder s u).foldl (fun a p => maxOpt a ((p.2.rise).map (· * 4))) none).getD 0))
  | 0x1B04 =>
    some (tempObj (((sensorsUnder s u).filter fun p => p.1 % 64 + 1 == sub).foldl (fun a p => maxOpt a p.2.hist.head?) none))
  | 0x1B05 => some ((List.range 32).foldl (fun a i => if (sensorOf s u (32 * (sub - 1) + i + 1)).failed then a + 2^i else a) 0)
  | 0x1C38 =>
    let ps := if lv.length = 1 then [s.kdp.net1, s.kdp.net2] else [if lv.getD 1 0 = 1 then s.kdp.net1 else s.kdp.net2]
    some (if sub = 1 then (ps.map (·.rxFrames)).sum % 2^64 else if sub = 2 then (ps.map (·.txFrames)).sum % 2^64 else sumUnder s u o)
  | 0x1D06 => if sub = 1 then some s.hm.powerCycles else if sub = 2 then some s.hm.opsec else none
  | _ => none
where
  /-- The unit whose own part and firmware values a unit reads (15 R345): its own where it has them, else the module's. -/
  ownPart (u : Nat) : Nat :=
    match unitType u with
    | .controller | .harbourmaster | .stack | .hbmStack => u
    | _ => 0

/-- The thresholds that a group unit reads: each the maximum over its children (13 R314). -/
def groupThreshold (s : State) (sub : Nat) (us : List Nat) : Nat := us.foldl (fun a u => max a (s.obj u (0x1B0000 + sub))) 0

/-- The value of a scalar object of a unit, none where it has none. -/
def readScalar (s : State) (u o : Nat) : Option Nat :=
  match objRow? o with
  | none => none
  | some r =>
    if !(r.scope.contains (unitType u)) then none
    else if r.type = .blob ∨ r.type = .text ∨ r.type = .cmd then none
    else if o / 256 = 0x1B00 ∧ (u = 0 ∨ u = U.power) then
      some (groupThreshold s (o % 256) ([U.rail 1] ++ (if u = 0 then [U.ctl, U.stack 1 1, U.hbmStack 1] else [])))
    else match (if u = 0 then readRoot s o else none) with
      | some v => some v
      | none => match readUnit s u o with
        | some v => some v
        | none => some (s.obj u o)

/-! ## BLOB and TEXT objects -/

/-- A number in decimal digits. -/
def decimal (n : Nat) : List Byte := textBytes (toString n)

/-- Rail names of Table PW-1. -/
def railNames : List String :=
  ["VDD_CORE", "VDD_SRAM", "VDD_SER", "VDD_SERH", "VDD_HBMQ", "VDD_HBMP", "VDD_IO", "MEDIA_A_3V3", "MEDIA_A_1V2", "MEDIA_B_3V3",
   "MEDIA_B_1V2", "MEDIA_C_3V3", "MEDIA_C_1V2", "MEDIA_D_3V3", "MEDIA_D_1V2", "V_BUS", "V_HOLD", "VDD_AON"]

/-- UNIT_NAME (15 Table OD-5): a rail's name, else the type's name of Table OD-6 and the indexes below the first level. -/
def unitName (u : Nat) : List Byte :=
  let idx := ((pathLevels u).filter (· != 0)).drop 1
  let dots := match idx with
    | [] => []
    | a :: t => textBytes " " ++ decimal a ++ (t.map fun b => textBytes "." ++ decimal b).flatten
  match unitType u with
  | .module => textBytes "module"
  | .controller => textBytes "controller"
  | .harbourmaster => textBytes "harbourmaster"
  | .power => textBytes "power"
  | .rail => textBytes (railNames.getD (idx.getD 0 0 - 1) "")
  | .media => textBytes "media"
  | .parityGroup => textBytes "parity group" ++ dots
  | .stack => textBytes "media stack" ++ dots
  | .die => textBytes "die" ++ dots
  | .hostPorts => textBytes "host ports"
  | .hostPort => textBytes "host port" ++ dots
  | .network => textBytes "network"
  | .netPort => textBytes "network port" ++ dots
  | .hbm => textBytes "hbm"
  | .hbmStack => textBytes "hbm stack" ++ dots

/-- AGENT_TABLE entry of a slot (02 Table HP-12). -/
def agentEntry (s : State) (slot : Nat) : List Byte :=
  match AMap.get? s.hp.slots slot with
  | none => List.replicate 16 0
  | some x =>
    let dec := match findAgent s x.port x.src with
      | some a => dbDecoders a
      | none => 0
    leBytes 1 x.state ++ leBytes 1 x.port ++ leBytes 2 x.src ++ leBytes 2 x.biId ++ leBytes 2 dec ++ leBytes 8 x.enrolledAt

/-- CW_TABLE entry of a window (03 Table MC-16). -/
def cwEntry (s : State) (w : Nat) : List Byte :=
  match AMap.get? s.mc.windows w with
  | none => List.replicate 8 0
  | some x => if x.port = 0 then List.replicate 8 0 else leBytes 1 1 ++ leBytes 1 x.port ++ leBytes 2 x.src ++ leBytes 1 x.resvState ++ leBytes 1 x.queue.length ++ leBytes 2 0

/-- DOMAIN_DOWN_RECORD (04 Table CD-6). -/
def downRecord (s : State) : List Byte :=
  let r := s.dir.downRec
  leBytes 1 (r.getD 0 0) ++ leBytes 1 (r.getD 1 0) ++ leBytes 1 (r.getD 2 0) ++ leBytes 1 (r.getD 3 0) ++ leBytes 8 (r.getD 4 0)
    ++ leBytes 6 (r.getD 5 0) ++ leBytes 2 0 ++ leBytes 8 (r.getD 6 0) ++ leBytes 4 0

/-- INTEGRITY_RECORD (10 Table DP-6). -/
def integrityBytes (r : IntegrityRec) : List Byte :=
  leBytes 1 r.cause ++ leBytes 1 (b2n r.delivered + 2 * b2n r.markedEntries) ++ leBytes 1 r.port ++ leBytes 1 r.slice
    ++ leBytes 8 (r.pn * 4096) ++ leBytes 5 r.ppn ++ leBytes 1 r.sector ++ leBytes 8 r.wseq ++ leBytes 1 r.domain
    ++ leBytes 1 r.recovery ++ leBytes 6 r.at_ ++ leBytes 14 0

/-- An event record (16 Table HM-4, Table HM-5). -/
def eventBytes (r : EvRec) : List Byte :=
  let flags := evSeverity r.code + 2^15 * b2n r.triggered + 2^14 * b2n r.hmOrigin + 2^13 * b2n r.replayed + 2^12 * b2n r.lostBefore + 2^11 * b2n r.snapFault
  leBytes 2 r.code ++ leBytes 2 flags ++ leBytes 4 r.repeats ++ leBytes 6 r.at_ ++ leBytes 4 r.powerCycle ++ leBytes 4 r.unit ++ leBytes 2 r.source
    ++ ((List.range 5).map fun i => leBytes 8 (r.snap.getD i 0)).flatten

/-- SESSION_TABLE entry (15 Table OD-15), the open sessions in order of their opening. -/
def sessionEntry (s : State) (i : Nat) : List Byte :=
  match s.kdp.sessions[i - 1]? with
  | none => List.replicate 32 0
  | some x => beBytes 1 1 ++ beBytes 1 x.role ++ beBytes 1 x.netPort ++ beBytes 1 0 ++ beBytes 4 x.id ++ beBytes 16 x.src ++ beBytes 2 x.srcPort ++ beBytes 6 x.opened

/-- A sample record (17 Table PC-4). -/
def sampleBytes (x : Sample) : List Byte :=
  leBytes 8 x.cycle ++ leBytes 8 (x.line * 64) ++ leBytes 1 x.counter ++ leBytes 1 x.event ++ leBytes 1 x.port ++ leBytes 1 x.slice ++ leBytes 2 x.src
    ++ leBytes 1 (b2n x.write + 2 * b2n x.mismatch + 4 * b2n x.prot) ++ leBytes 1 x.skid ++ leBytes 8 0

/-- A bandwidth window (17 Table PC-5). -/
def windowBytes (w : BwWindow) : List Byte := leBytes 8 w.start ++ leBytes 8 w.read ++ leBytes 8 w.write
/-- The port whose windows a unit holds, 0 for /5. -/
def bwKey (u : Nat) : Nat := (pathLevels u).getD 1 0

/-- A measurement record (09 Table AG-2). -/
def measBytes (m : Meas) : List Byte :=
  leBytes 1 m.kind ++ leBytes 1 m.planSlot ++ leBytes 2 m.index ++ leBytes 4 m.unit ++ leBytes 6 m.at_ ++ leBytes 2 m.samples
    ++ (m.payload ++ List.replicate 48 0).take 48

/-- The records from a cursor on, oldest first, up to 16. -/
def fromCursor {α : Type} (log : List (Nat × α)) (cursor : Nat) : List (Nat × α) :=
  ((log.filter fun p => decide (cursor ≤ p.1)).reverse).take 16

/-- FW_SLOT_INFO (18 Table TS-6). -/
def slotInfo (x : FwSlot) : List Byte :=
  leBytes 1 (b2n x.valid) ++ leBytes 1 0 ++ leBytes 2 x.svn ++ leBytes 4 x.version ++ leBytes 6 x.at_ ++ leBytes 2 0

/-- The address in use on a network port (15 Table OD-14): IPv4 as IPv4-mapped IPv6. -/
def netAddrNow (s : State) (p : Nat) : List Byte :=
  let np := if p = 1 then s.kdp.net1 else s.kdp.net2
  if !np.addrHeld then beBytes 16 0
  else if np.ipv6 = 0 ∧ np.ipv4 ≠ 0 then beBytes 16 (0xFFFF * 2^32 + np.ipv4)
  else beBytes 16 np.ipv6

/-- The result of a command object (15 Table OD-3). -/
def runBytes (s : State) (u o : Nat) : List Byte :=
  match AMap.get? s.kdp.runs (objKey u o) with
  | none => List.replicate 12 0
  | some r => beBytes 1 r.status.code ++ beBytes 1 0 ++ beBytes 4 r.arg ++ beBytes 6 r.at_

/-- A BLOB or TEXT object of a unit. -/
def readBytes (s : State) (u o : Nat) : List Byte :=
  let sub := o % 256
  match o / 256 with
  | 0x0001 => unitName u
  | 0x0004 => Config.serial (readUnit.ownPart u)
  | 0x0012 => textBytes (match s.variant with
    | .p128 => "KLR-P128"
    | .p064 => "KLR-P064")
  | 0x1040 => agentEntry s (sub - 1)
  | 0x1120 => cwEntry s sub
  | 0x1205 => downRecord s
  | 0x1707 => ((fromCursor s.ag.log (s.robj Obj.AGE_CURSOR)).map fun p => measBytes p.2).flatten
  | 0x1817 => wrappedKey s ((AMap.getD s.dp.doms sub {}).cur)
  | 0x1831 => integrityBytes s.dp.integrity
  | 0x1C04 => beBytes 16 Config.passphraseSalt.toNat
  | 0x1C20 => sessionEntry s sub
  | 0x1C33 => Config.netMac ((pathLevels u).getD 1 0)
  | 0x1C36 => netAddrNow s ((pathLevels u).getD 1 0)
  | 0x1D07 => ((s.hm.sram.recent.reverse.map eventBytes).flatten ++ List.replicate 4096 0).take 4096
  | 0x1D14 => ((fromCursor s.recorder.log (s.robj Obj.LOG_CURSOR)).map fun p => eventBytes p.2).flatten
  | 0x1E11 => ((fromCursor s.pc.samples (s.obj U.ctl Obj.SAMPLE_CURSOR)).map fun p => sampleBytes p.2).flatten
  | 0x1E21 => match (AMap.getD s.pc.hist (bwKey u) []).head? with
    | some w => windowBytes w
    | none => List.replicate 24 0
  | 0x1E22 => ((AMap.getD s.pc.hist (bwKey u) []).reverse.map windowBytes).flatten
  | 0x1F23 => slotInfo (if sub = 1 then s.ts.slotA else s.ts.slotB)
  | 0x1921 | 0x1844 | 0x1704 | 0x180E | 0x1B31 | 0x1E0A | 0x1C34 | 0x1F02 | 0x1F09 | 0x1F0B | 0x1F0D =>
    let b := s.blob u o
    match b, objRow? o with
    | [], some r => List.replicate (match r.range with
      | .bytes _ hi => hi
      | _ => 0) 0
    | _, _ => b
  | _ => s.blob u o

/-- The value a READ answers for an object present on a unit (15 R340): a CMD object's last result, a BLOB's or TEXT's bytes, or a
scalar's value. A BLOB above 1024 bytes is answered by a transfer (R338, R355). -/
def readObject (s : State) (u o : Nat) : Except Status KVal :=
  match objRow? o with
  | none => .error .noObject
  | some r =>
    if r.type = .cmd then .ok (.bytes (runBytes s u o))
    else if r.type = .blob ∨ r.type = .text then .ok (.bytes (readBytes s u o))
    else match readScalar s u o with
      | some v => .ok (.num v)
      | none => .error .noObject

end Sys2Proof.Machine
end

