-- ==== Sys2Proof/Machine/Recorder.lean ====
section
/-! DEFINITION. Recording an event (chapter 16): the recent ring, the buffer, the media log, the freeze, triggers and the
delivery to subscribers. -/
namespace Sys2Proof.Machine
open Sys2Proof

/-- Whether an occurrence merges into a record (16 R375), apart from the test of being unflushed. -/
def mergesInto (r : EvRec) (code unit source opsec : Nat) : Bool :=
  r.code == code && r.unit == unit && r.source == source && decide (opsec ≤ r.at_ + 1)

/-- REPEAT rises by 1 and saturates (16 Table HM-4). -/
def EvRec.again (r : EvRec) : EvRec := { r with repeats := min (r.repeats + 1) 0xFFFFFFFF }

/-- A value extended to 64 bits: sign-extended from an I16 register's encoding (16 R372). -/
def snapValue (o v : Nat) : Nat :=
  match objRow? o with
  | some r => if (r.type = .i16 ∧ 0x8000 ≤ v) then v + (2 ^ 64 - 2 ^ 16) else v
  | none => v

/-- The five values an armed trigger reads in place of the event's own, whether one could not be read, and the slot
(16 R378): the lowest-numbered armed slot naming the code. -/
def triggerFor (s : State) (code : Nat) : Option (Nat × List Nat × Bool) :=
  let slots := (List.range 8).filter fun i =>
    let b := s.blob U.root (Obj.TRIGGER + i + 1)
    b.length == 48 && leNat (b.take 2) == code && code != 0 && ((b.getD 2 0).toNat == 1 || (b.getD 2 0).toNat == 2)
  match slots with
  | [] => none
  | i :: _ =>
    let b := s.blob U.root (Obj.TRIGGER + i + 1)
    let vals := (List.range (min 5 (b.getD 3 0).toNat)).map fun k =>
      let e := b.drop (8 + 8 * k)
      let u := leNat (e.take 4)
      let o := leNat ((e.drop 4).take 2) * 256 + (e.getD 6 0).toNat
      -- an object of a unit that is ABSENT, and one of a mechanism not yet running (15 Table OD-4), cannot be read
      let busy := decide ((s.phase = .booting ∨ s.phase = .loading) ∧ 0x1100 ≤ o / 256 ∧ o / 256 < 0x1800)
      if busy || unitAbsent s u then none else (readScalar s u o).map (snapValue o)
    some (i, vals.map (fun v => v.getD (2 ^ 64 - 1)), vals.any Option.isNone)

/-- A trigger's firing: TRIGGER_FIRES counts it and a ONE_SHOT slot disarms itself (16 R378). -/
def fireTrigger (s : State) (i : Nat) : State :=
  let b := s.blob U.root (Obj.TRIGGER + i + 1)
  let s := s.bumpR (Obj.TRIGGER_FIRES + i + 1)
  if (b.getD 2 0).toNat = 2 then s.setBlob U.root (Obj.TRIGGER + i + 1) (b.set 2 0) else s

/-- Whether a record matches a subscription slot (15 R356). -/
def filterMatches (f : Filter) (r : EvRec) : Bool :=
  decide (0x10 ≤ r.code / 256) && bitOf f.subsystems (r.code / 256 - 0x10) && decide (f.minSev ≤ evSeverity r.code)
    && unitUnder r.unit f.unit

/-- Queue a new record to every session with a matching slot, once (15 R356, R357). -/
def deliver (s : State) (r : EvRec) : State :=
  let one (x : Session) : Session :=
    if x.filters.any (fun f => filterMatches f.2 r) then { x with evWaiting := x.evWaiting ++ [r] } else x
  { s with kdp := { s.kdp with sessions := s.kdp.sessions.map one } }

/-- Flush the buffer to the media log (16 R373): every record not yet flushed, the first marked LOST_BEFORE where records
were lost before it. -/
def flushBuffer (s : State) : State :=
  let r := s.recorder
  let fresh := r.buffer.filter fun p => decide (r.flushedTo ≤ p.1)
  if fresh.isEmpty then s
  else
    let marked := match fresh.reverse with
      | [] => []
      | (p, e) :: t => (p, if r.lostBefore then { e with lostBefore := true } else e) :: t
    let log := (marked.reverse ++ r.log).take 1048576
    let s := { s with recorder := { r with log := log, flushedTo := r.next, lostBefore := false } }
    s.bumpR Obj.LOG_FLUSHES

/-- Flush where the log area can be programmed (16 R373) and the recorder is not frozen (R377). -/
def flushIfOpen (s : State) : State :=
  if s.recorder.logOpen && s.recorder.freezeSid.isNone then flushBuffer s else s

/-- Put an occurrence into the recent ring (16 R374): merged into its newest record by R375's tests, or as a new record. -/
def recentAdd (ring : List EvRec) (e : EvRec) : List EvRec :=
  match ring with
  | r :: t => if mergesInto r e.code e.unit e.source e.at_ then r.again :: t else (e :: r :: t).take 64
  | [] => [e]

/-- Put an occurrence into the buffer (16 R373, R375, R376). -/
def bufferAdd (s : State) (e : EvRec) : State :=
  let r := s.recorder
  match r.buffer with
  | (p, n) :: t =>
    if mergesInto n e.code e.unit e.source e.at_ && decide (r.flushedTo ≤ p) then
      { s with recorder := { r with buffer := (p, n.again) :: t } }
    else add s e
  | [] => add s e
where
  /-- A new record: an armed trigger's values, the overwriting of the oldest unflushed record of a full buffer, delivery,
  and the flush that its severity or the count of waiting records calls for. -/
  add (s : State) (e : EvRec) : State :=
    let (e, s) := match triggerFor s e.code with
      | some (i, vals, bad) => ({ e with snap := vals, triggered := true, snapFault := bad }, fireTrigger s i)
      | none => (e, s)
    let r := s.recorder
    let full := decide (r.flushedTo + 4096 ≤ r.next)
    let s := if full then s.bumpR Obj.RING_LOST else s
    let buffer := ((r.next, e) :: r.buffer).take 4096
    let flushedTo := if full then r.flushedTo + 1 else r.flushedTo
    let s := { s with recorder := { r with buffer := buffer, next := r.next + 1, flushedTo := flushedTo, lostBefore := r.lostBefore || full } }
    let s := deliver s e
    if 3 ≤ evSeverity e.code ∨ s.recorder.flushedTo + 2048 ≤ s.recorder.next then flushIfOpen s else s

/-- LAST_WARNING of the unit named and of every unit above it (15 R345). -/
def noteWarning (s : State) (code unit : Nat) : State :=
  if 2 ≤ evSeverity code then (unitAncestors unit).foldl (fun s u => s.setObj u Obj.LAST_WARNING code) s else s

/-- The record of an event that happens now. -/
def mkRec (s : State) (hm : Bool) (code unit source : Nat) (snap : List Nat) : EvRec :=
  { code := code, hmOrigin := hm, at_ := s.hm.opsec, powerCycle := s.hm.powerCycles, unit := unit, source := source, snap := snap }

/-- End the freeze (16 R377) and record FREEZE_ENDED with its reason. -/
def endFreeze (s : State) (reason : Nat) : State :=
  match s.recorder.freezeSid with
  | none => s
  | some _ =>
    let lost := s.robj Obj.FROZEN_LOST - s.recorder.freezeLost
    let s := { s with recorder := { s.recorder with freezeSid := none } }
    let s := s.setR Obj.RECORDER_FREEZE 0
    let e := mkRec s false Ev.FREEZE_ENDED U.root 0xFFFF [reason, lost]
    if s.recorder.accepting then bufferAdd s e else s

/-- What the harbourmaster's recent ring receives of an occurrence (16 R374, R378): a copy of the record that the recorder makes of it, with an armed trigger's
values in it, and otherwise the event's own. -/
def recentCopy (s : State) (e : EvRec) : EvRec :=
  let takes := s.recorder.accepting && (s.recorder.freezeSid.isNone || evSeverity e.code == 4)
  let merges := match s.recorder.buffer with
    | (p, n) :: _ => mergesInto n e.code e.unit e.source e.at_ && decide (s.recorder.flushedTo ≤ p)
    | [] => false
  match triggerFor s e.code with
  | some (_, vals, bad) => if takes && !merges then { e with snap := vals, triggered := true, snapFault := bad } else e
  | none => e

/-- Record an event (16 R372 to R378). `hm`: recorded by the harbourmaster (R374). -/
def recordWith (hm : Bool) (s : State) (code unit source : Nat) (snap : List Nat) : State :=
  let s := noteWarning s code unit
  let e := mkRec s hm code unit source snap
  let s := if s.hm.running && (hm || decide (1 ≤ evSeverity code)) then
    { s with hm := { s.hm with sram := { s.hm.sram with recent := recentAdd s.hm.sram.recent (recentCopy s e) } } } else s
  if !s.recorder.accepting then s
  else if s.recorder.freezeSid.isSome then
    if evSeverity code = 4 then
      let lost := decide (s.recorder.freezeLost < s.robj Obj.FROZEN_LOST)
      let s := bufferAdd s { e with lostBefore := lost }
      flushIfOpen (endFreeze s 5)
    else s.bumpR Obj.FROZEN_LOST
  else bufferAdd s e

/-- Record an event of the controller. -/
def record (s : State) (code unit source : Nat) (snap : List Nat) : State := recordWith false s code unit source snap
/-- Record an event of the harbourmaster. -/
def recordHm (s : State) (code unit source : Nat) (snap : List Nat) : State := recordWith true s code unit source snap

/-- Count a change of UNIT_STATE for each unit listed whose reported state differs between two states (15 R345). -/
def track (us : List Nat) (s0 s : State) : State :=
  us.foldl (fun s u =>
    if unitState s0 u ≠ unitState s u then
      (s.bump u Obj.STATE_CHANGES).setObj u Obj.STATE_SINCE s.hm.opsec
    else s) s

end Sys2Proof.Machine
end

