-- ==== Sys2Proof/Machine/StoreBytes.lean ====
section
/-! DEFINITION. The bytes of the harbourmaster store as the window shows them (16 R362, R365 to R371), and CRC-32C. -/
namespace Sys2Proof.Machine
open Sys2Proof

/-! ## CRC-32C -/

/-- One bit of the reflected CRC-32C division. The spec names CRC-32C and gives no polynomial: Castagnoli's, PRESUMED (log 20). -/
def crcBit (c : BitVec 32) : BitVec 32 := if c.getLsbD 0 then (c >>> 1) ^^^ 0x82F63B78#32 else c >>> 1
/-- One byte. -/
def crcByte (c : BitVec 32) (b : Byte) : BitVec 32 := (List.range 8).foldl (fun c _ => crcBit c) (c ^^^ b.zeroExtend 32)
/-- CRC-32C of bytes. -/
def crc32c (bs : List Byte) : Nat := (bs.foldl crcByte 0xFFFFFFFF#32 ^^^ 0xFFFFFFFF#32).toNat

/-- A slot of an image: A or B of a record. -/
def getSlot (m : HmImage) (id : Nat) (b : Bool) : HmSlot := AMap.getD m.slots (2 * id + b2n b) {}

/-! ## The store's bytes -/

/-- The bytes of a slot (16 R366). An invalid slot's CRC does not hold. -/
def slotBytes (id : Nat) (x : HmSlot) : List Byte :=
  if x.payload.isEmpty then []
  else
    let b := leBytes 4 x.seq ++ leBytes 1 id ++ leBytes 1 0 ++ leBytes 2 x.payload.length ++ x.payload
    b ++ leBytes 4 (if x.valid then crc32c b else crc32c b + 1)

/-- The bytes of a remap entry (16 R371). -/
def remapBytes (e : Remap) : List Byte :=
  let b := leBytes 4 e.group ++ leBytes 2 e.spare ++ leBytes 1 e.cause
  b ++ [Config.crc8 b]

/-- Offset of slot A of records 1 to 10 (16 Table HM-2). -/
def slotOffset (id : Nat) : Nat := [0x0100, 0x0120, 0x0160, 0x01A0, 0x01C0, 0x01E0, 0x0200, 0x0280, 0x02A0, 0x02C0].getD (id - 1) 0x0100

/-- Pages 1 to 7 with the slots A of records 1 to 10, or 8 to 14 with their slots B (16 R362, Table HM-2): a slot may lie on two pages. -/
def slotRegion (m : HmImage) (b : Bool) : List Byte :=
  (List.range 10).foldl (fun (acc : List Byte) i =>
    let off := slotOffset (i + 1) - 0x100
    let bytes := slotBytes (i + 1) (getSlot m (i + 1) b)
    acc.take off ++ bytes ++ acc.drop (off + bytes.length)) (List.replicate 1792 0)

/-- The bytes of a page of the store; unwritten and reserved bytes read 0 (DESIGN CHOICE, log 6). The header holds the format in its first
word, the generation in its second and the CRC in its last (DESIGN CHOICE, log 21). -/
def pageBytes (m : HmImage) (page : Nat) : List Byte :=
  let pad (l : List Byte) : List Byte := (l ++ List.replicate 256 0).take 256
  if page = 0 then
    let h := leBytes 4 1 ++ leBytes 4 m.generation ++ List.replicate 244 0
    h ++ leBytes 4 (crc32c h)
  else if page < 8 then pad ((slotRegion m false).drop ((page - 1) * 256))
  else if page < 15 then pad ((slotRegion m true).drop ((page - 8) * 256))
  else if 0x10 ≤ page ∧ page < 0x20 then pad ((slotBytes 11 (getSlot m 11 false)).drop ((page - 0x10) * 256))
  else if 0x20 ≤ page ∧ page < 0x30 then pad ((slotBytes 11 (getSlot m 11 true)).drop ((page - 0x20) * 256))
  else if 0x30 ≤ page ∧ page < 0x74 then
    ((List.range 32).map fun i => match AMap.get? m.remap ((page - 0x30) * 32 + i) with
      | some e => remapBytes e
      | none => List.replicate 8 0).flatten
  else if 0x80 ≤ page ∧ page < 0x90 then
    ((List.range 4).map fun i => match m.recent.reverse[(page - 0x80) * 4 + i]? with
      | some r => eventBytes r
      | none => List.replicate 64 0).flatten
  else if 0x90 ≤ page ∧ page < 0xA0 then pad ((slotBytes 12 (getSlot m 12 false)).drop ((page - 0x90) * 256))
  else if 0xA0 ≤ page ∧ page < 0xB0 then pad ((slotBytes 12 (getSlot m 12 true)).drop ((page - 0xA0) * 256))
  else if 0xC0 ≤ page ∧ page < 0xE0 then (List.range 256).map fun i => AMap.getD m.station ((page - 0xC0) * 256 + i) 0
  else List.replicate 256 0

/-- The 256 bytes from an address on, across page ends (16 R365); past the end of the store they go on from its start (DESIGN CHOICE, log 122). -/
def windowRead (m : HmImage) (a : Nat) : List Byte :=
  ((pageBytes m (a / 256 % 256)).drop (a % 256) ++ pageBytes m ((a / 256 + 1) % 256)).take 256

/-- Whether a read from an address touches the KEYS or PREV_KEYS slots. -/
def windowSecret (a : Nat) : Bool :=
  let secret (p : Nat) : Bool := decide ((0x10 ≤ p ∧ p < 0x30) ∨ (0x90 ≤ p ∧ p < 0xB0))
  secret (a / 256 % 256) || (a % 256 != 0 && secret ((a / 256 + 1) % 256))

end Sys2Proof.Machine
end

