-- ==== Sys2Proof/Machine/Kdp.lean ====
section
/-! DEFINITION. The shared course of a KDP request (chapter 15): session and sequence checks (R349), the ordered checks of
R341, the wildcard response (R337, R348), service by state (R343) and the runs of commands (R342). -/
namespace Sys2Proof.Machine
open Sys2Proof

/-- What a request's own rule may look at: the session, its role and network port, and the object addressed. -/
structure KCtx where
  sid : Nat
  role : Nat
  netPort : Nat
  unit : Nat
  obj : Nat
  deriving DecidableEq, Repr

/-- The subindex addressed. -/
def KCtx.sub (c : KCtx) : Nat := c.obj % 256

/-- What a request does to an object (15 R340). -/
inductive KOp where
  | read
  | write (v : KVal)
  | exec (arg : Nat)
  deriving DecidableEq, Repr

/-- The effect of a write or command on one unit once checks 3 to 8 have passed. -/
abbrev KEffect := KCtx → KVal → State → State × Status

/-- The session of an identifier. -/
def findSession (s : State) (sid : Nat) : Option Session := s.kdp.sessions.find? (fun x => x.id == sid)

/-- Change one session. -/
def updSession (s : State) (sid : Nat) (f : Session → Session) : State :=
  { s with kdp := { s.kdp with sessions := s.kdp.sessions.map (fun x => if x.id = sid then f x else x) } }

/-- Whether firmware duties run (12 R286, 18 R403): not while a service reset or a watchdog restart runs, nor while a live activation pauses the
module. -/
def firmwareOn (s : State) : Bool := s.cs.reset_ == 0 && !s.cs.wdRunning && s.ts.activating != 2 && s.robj Obj.FROZEN == 0

/-- Whether a network port takes KDP datagrams (15 R346, R358): it is on, in no loopback, and its NET_KDP is 1. -/
def netServes (s : State) (p : Nat) : Bool := s.obj (U.netPort p) Obj.NET_ENABLE_STATE == 1 && s.obj (U.netPort p) Obj.NET_KDP == 1 && !AMap.has s.ts.loops (U.netPort p)

/-- A reset aimed at a gated domain first opens its gate (12 R280); `k`: of `opened`. -/
def openGate (s : State) (k : Nat) : State :=
  if s.robj Obj.FROZEN = 1 ∧ ¬ s.cs.opened.contains k then { s with cs := { s.cs with opened := k :: s.cs.opened } } else s

/-- A freeze begins or ends (12 R296). -/
def setFrozen (s : State) (v : Nat) : State := { s.setR Obj.FROZEN v with cs := { s.cs with opened := [] } }

/-- Whether the management cores' clocks are stopped by a freeze (12 R296), and no reset has opened their gates (R280). -/
def coresFrozen (s : State) : Bool := s.robj Obj.FROZEN == 1 && !s.cs.opened.contains 0

/-- Whether a request ends a freeze (12 R296): it is taken while the management cores are frozen (DESIGN CHOICE, log 132). -/
def endsFreeze : Instr → Bool
  | .retentionResume _ _ | .warmReset _ _ => true
  | _ => false

/-- Whether the module serves KDP in the state it is in (15 Table OD-4): not while a service reset or a watchdog restart runs, nor from the moment
an entry to P3 or P4 is entering (DEDUCED, log 80). -/
def kdpServed (s : State) : Bool :=
  match s.phase with
  | .cold | .sequencing | .latchedOff => false
  | .booting | .loading => s.recorder.accepting
  | .running => decide (s.robj Obj.PSTATE_NOW < 3 ∧ s.robj Obj.ENTRY_STATE < 2) && s.cs.reset_ == 0 && !s.cs.wdRunning
  | .flushing | .halted => !s.cs.wdRunning

/-- Whether the module answers KDP datagrams now. -/
def kdpAnswers (s : State) : Bool := kdpServed s && !coresFrozen s

/-- Check 7 of R341: service by state (15 Table OD-4). In BOOTING and LOADING the objects of chapters 03 to 09 belong to
mechanisms not yet running (DEDUCED, log 9). The firmware objects are 0x1F20 to 0x1F27; in the boot hold every object of chapter 18 is writable (R399). -/
def stateGate (s : State) (u o : Nat) (isWrite : Bool) : Option Status :=
  let i := o / 256
  if o = Obj.WARM_RESET then none
  else match s.phase with
  | .booting | .loading =>
    if isWrite then
      let open_ := unitUnder u U.hm || unitUnder u U.power || unitUnder u U.net || (0x1C00 ≤ i && i < 0x1D00) || (0x1F20 ≤ i && i < 0x1F28)
        || (s.cs.bootHeld && 0x1F00 ≤ i && i < 0x2000)
      if open_ then none else some .busy
    else if 0x1100 ≤ i ∧ i < 0x1800 then some .busy else none
  | .flushing => if isWrite then some .state else none
  | _ => none

/-- Check 5 of R341: whether a role meets an object's minimum role (15 R339). -/
def roleMeets (role min : Nat) : Bool :=
  match min with
  | 1 => true
  | 2 => role == 2 || role == 3 || role == 4
  | m => role == m

/-- Check 8 of R341: the value against type, Range and reserved bits (15 R338, 00 R8). -/
def valueCheck (r : ObjRow) (v : KVal) : Option Status :=
  match v with
  | .num n =>
    if r.type = .blob ∨ r.type = .text then some .range
    else if 2 ^ r.type.bits ≤ n then some .range
    else if r.type = .bool ∧ 2 ≤ n then some .range
    else
      let good : Bool := match r.range with
        | .any | .own => true
        | .span lo hi => decide (lo ≤ n) && decide (n ≤ hi)
        | .spanOr lo hi x => (decide (lo ≤ n) && decide (n ≤ hi)) || n == x
        | .oneOf vs => vs.contains n
        | .mult m => n % m == 0
        | .multSpan lo hi m => decide (lo ≤ n) && decide (n ≤ hi) && n % m == 0
        | .mask m => n &&& m == n
        | .bytes _ _ | .bytesOneOf _ => false
      if good then none else some .range
  | .bytes bs =>
    if r.type = .blob ∨ r.type = .text then
      if 1024 < bs.length then some .limit
      else match r.range with
        | .bytes lo hi => if lo ≤ bs.length ∧ bs.length ≤ hi then none else some .range
        | .bytesOneOf ns => if ns.contains bs.length then none else some .range
        | _ => none
    else some .range

/-- Presence of an object on a unit (check 4 of R341): a row of the unit's type, PORT_BIFURCATE on odd port units only (02
R55), the thermal objects not on /3/16 and /3/18, which carry no sensor (13 Table TH-1, R314), EQ_CLOCK and AF_NOW on dies, the bank objects' subindexes of the variant (00 Table SC-1). -/
def objPresent (s : State) (u o : Nat) : Option ObjRow :=
  match objRow? o with
  | none => none
  | some r =>
    if !(r.scope.contains (unitType u)) then none
    else if o = Obj.PORT_BIFURCATE ∧ (pathLevels u).getD 1 0 % 2 = 0 then none
    else if s.variant = .p064 ∧ (o / 256 = 0x1908 ∨ o / 256 = 0x1909) ∧ 2 < o % 256 then none
    else if (u = U.rail 16 ∨ u = U.rail 18) ∧ 0x1B00 ≤ o / 256 ∧ o / 256 ≤ 0x1B05 then none
    else if unitType u = .media ∧ ((0x1510 ≤ o / 256 ∧ o / 256 ≤ 0x1511) ∨ o = 0x151206) then none
    else some r

/-- Checks 4 to 8 of R341 on one unit. -/
def checkObject (s : State) (role u o : Nat) (op : KOp) : Except Status ObjRow :=
  match objPresent s u o with
  | none => .error .noObject
  | some r =>
    if !roleMeets role r.role then .error .denied
    else
      let acc : Option Status := match op, r.access with
        | .read, .wo => some .denied
        | .read, _ => none
        | .write _, .ro => some .readOnly
        | .write _, _ => none
        | .exec _, .cmd => none
        | .exec _, _ => some .range
      match acc with
      | some e => .error e
      | none =>
        match stateGate s u o (decide (op ≠ .read)) with
        | some e => .error e
        | none =>
          let v : Option Status := match op with
            | .read => none
            | .write v => valueCheck r v
            | .exec a => valueCheck r (.num a)
          match v with
          | some e => .error e
          | none => .ok r

/-- The largest encoded size of an object's value, by which the fragments of a wildcard response are counted (15 R337). -/
def maxValueBytes (r : ObjRow) (isRead : Bool) : Nat :=
  if !isRead then 0
  else match r.type, r.range with
    | .blob, .bytes _ hi => min hi 1024
    | .blob, _ => 1024
    | .text, .bytes _ hi => hi
    | .text, _ => 64
    | .cmd, _ => 12
    | t, _ => t.bits / 8

/-- The bytes of a value of an object (15 Table OD-2): a scalar in its type's width, a TEXT or BLOB as it is. -/
def valueBytes (o : Nat) (v : KVal) : List Byte :=
  match v with
  | .bytes bs => bs
  | .num n => beBytes (match objRow? o with
    | some r => r.type.bits / 8
    | none => 4) n

/-- A response entry (15 Table OD-10). -/
def entryBytes (o : Nat) (e : KEntry) : List Byte :=
  let v := match e.value with
    | some v => valueBytes o v
    | none => []
  beBytes 4 e.unit ++ beBytes 1 e.status.code ++ beBytes 1 0 ++ beBytes 2 v.length ++ v

/-- Entries put into fragments in order, each whole in one body of at most 1188 bytes (15 R348). -/
def packEntries : List (List Byte) → List Byte → List (List Byte)
  | [], cur => [cur]
  | e :: t, cur => if 1188 < cur.length + e.length then cur :: packEntries t e else packEntries t (cur ++ e)

/-- The fragments that `n` entries of a given value size pack into: bodies of at most 1188 bytes, entries whole (15 R348). -/
def fragmentsFor (n size : Nat) : Nat := (n + (1188 / (8 + size)) - 1) / (1188 / (8 + size))

/-- A cursor at a ring whose older records may have been overwritten: where it stands, and how many records it has passed over. -/
def cursorFix {α : Type} (log : List (Nat × α)) (cursor : Nat) : Nat × Nat :=
  match log.getLast? with
  | some (p, _) => if cursor < p then (p, p - cursor) else (cursor, 0)
  | none => (cursor, 0)

/-- A cursor past the records that an export returned. -/
def cursorPast {α : Type} (cursor : Nat) (recs : List (Nat × α)) : Nat :=
  match recs.getLast? with
  | some (p, _) => p + 1
  | none => cursor

/-- A read of the store through its window (16 R365): the 256 bytes from HM_WINDOW_ADDR on, refused where it touches a slot of KEYS or PREV_KEYS. -/
def storeWindow (s : State) : Except Status KVal :=
  let a := s.obj U.hm Obj.HM_WINDOW_ADDR
  if windowSecret a then .error .denied else .ok (.bytes (windowRead s.hm.sram a))

/-- A READ's value. The reads of AGE_EXPORT, LOG_EXPORT and SAMPLE_EXPORT move their cursors past the records returned, a cursor at an
overwritten record first to the oldest held (09 R215, 16 R376, 17 R388). -/
def exportRead (s : State) (u o : Nat) : State × Except Status KVal :=
  if o = Obj.AGE_EXPORT then
    let (c, lost) := cursorFix s.ag.log (s.robj Obj.AGE_CURSOR)
    let recs := fromCursor s.ag.log c
    ((s.bumpN U.root Obj.MEAS_LOST lost).setR Obj.AGE_CURSOR (cursorPast c recs), .ok (.bytes (recs.map fun p => measBytes p.2).flatten))
  else if o = Obj.LOG_EXPORT then
    let (c, lost) := cursorFix s.recorder.log (s.robj Obj.LOG_CURSOR)
    let recs := fromCursor s.recorder.log c
    let mark (p : Nat × EvRec) : EvRec := if p.1 = c ∧ lost ≠ 0 then { p.2 with lostBefore := true } else p.2
    ((s.bumpN U.root Obj.LOG_LOST lost).setR Obj.LOG_CURSOR (cursorPast c recs), .ok (.bytes (recs.map fun p => eventBytes (mark p)).flatten))
  else if o = Obj.SAMPLE_EXPORT then
    let (c, lost) := cursorFix s.pc.samples (s.obj U.ctl Obj.SAMPLE_CURSOR)
    let recs := fromCursor s.pc.samples c
    ((s.bumpN U.ctl Obj.SAMPLES_LOST lost).setObj U.ctl Obj.SAMPLE_CURSOR (cursorPast c recs), .ok (.bytes (recs.map fun p => sampleBytes p.2).flatten))
  else if o = Obj.HM_WINDOW_DATA then (s, storeWindow s)
  else (s, readObject s u o)

/-- The outcome of an operation on one unit: reads answer the value (a BLOB above 1024 bytes LIMIT, 15 R338), writes and commands run the object's own rule (check
9); a write or command to an ABSENT unit answers STATE (15 R337). -/
def opOnUnit (sid role netPort u o : Nat) (op : KOp) (eff : KEffect) (s : State) : State × KEntry :=
  match checkObject s role u o op with
  | .error e => (s, ⟨u, e, none⟩)
  | .ok _ =>
    let c : KCtx := ⟨sid, role, netPort, u, o⟩
    match op with
    | .read => match exportRead s u o with
      | (s', .ok (.bytes bs)) => if 1024 < bs.length then (s, ⟨u, .limit, none⟩) else (s', ⟨u, .ok, some (.bytes bs)⟩)
      | (s', .ok (.num n)) => (s', ⟨u, .ok, some (.num n)⟩)
      | (_, .error e) => (s, ⟨u, e, none⟩)
    | .write v =>
      if unitAbsent s u then (s, ⟨u, .state, none⟩)
      else let (s', st) := eff c v s; (s', ⟨u, st, none⟩)
    | .exec a =>
      if unitAbsent s u then (s, ⟨u, .state, none⟩)
      else let (s', st) := eff c (.num a) s; (s', ⟨u, st, none⟩)

/-- A request that names an object: path, wildcard fan-out in ascending path order, and the response (15 R337, R341, R348). -/
def objectRequest (sid role netPort path index sub : Nat) (op : KOp) (eff : KEffect) (s : State) : State × KResp :=
  let o := index * 256 + sub
  match expandPath s.variant path with
  | .error e => (s, { status := e })
  | .ok us =>
    if isWild path then
      let size := match objRow? o with
        | some r => maxValueBytes r (decide (op = .read))
        | none => 0
      let frags := fragmentsFor us.length size
      if 256 < frags then (s, { status := .limit })
      else
        let (s', es) := us.foldl (fun (a : State × List KEntry) u =>
          let (s', e) := opOnUnit sid role netPort u o op eff a.1
          (s', a.2 ++ [e])) (s, [])
        (s', { entriesFlag := true, entries := es, fragments := (packEntries (es.map (entryBytes o)) []).length })
    else match us with
      | u :: _ =>
        let (s', e) := opOnUnit sid role netPort u o op eff s
        (s', { status := e.status, value := e.value })
      | [] => (s, { status := .noObject })

/-- The frame of a request counts where it arrives, not where a held request is taken up. -/
def countFrame (s : State) (p : Nat) : State :=
  if s.kdp.again then { s with kdp := { s.kdp with again := false } } else s.frameIn p

/-- A request is executed (15 R349): its SEQ becomes the session's latest, its response is kept among the last 16 and sent. -/
def kdpTake (x : Session) (q : Nat) (resp : KResp) (s : State) : State :=
  (updSession s x.id (fun y => { y with lastSeq := q, kept := ((q, resp) :: y.kept).take 16, held := AMap.del y.held q, executed := y.executed + 1 })).emit (.kdp x.id q resp)

/-- Whether a session's next request waits in its window and can be taken up (15 R349). -/
def sessionDue (s : State) (x : Session) : Bool := netServes s x.netPort && (AMap.get? x.held (x.lastSeq + 1)).isSome

/-- The place in the order of arrival of a session's next held request. -/
def dueStamp (x : Session) : Nat := ((AMap.get? x.held (x.lastSeq + 1)).map (·.1)).getD 0

/-- The session whose held request is taken up next: of those whose turn has come the one that arrived first (15 R344). -/
def dueSession (s : State) : Option Session :=
  match s.kdp.sessions.filter (sessionDue s) with
  | [] => none
  | x :: t => some (t.foldl (fun a b => if dueStamp b < dueStamp a then b else a) x)

/-- Whether a request that arrives now waits for held ones that arrived before it and whose turn has come (15 R344; log 136). -/
def waitsTurn (s : State) : Bool := kdpAnswers s && !s.kdp.again && (dueSession s).isSome

/-- A request is held in its session's window (15 R349); one held already stays as it arrived. -/
def holdRequest (x : Session) (q : Nat) (i : Instr) (s : State) : State :=
  let s' := updSession s x.id fun y => if AMap.has y.held q then y else { y with held := AMap.set y.held q (s.kdp.arrivals, i) }
  { s' with kdp := { s'.kdp with arrivals := s'.kdp.arrivals + 1 } }

/-- The course of a request in its session (15 R344, R346, R347, R349): discards, repeats answered from the kept response, requests ahead of
their turn held, and otherwise execution. The response is sent before what the request brings about (15 R360). `i` is the
request itself, held where it is ahead, where requests that arrived before it wait, or where a firmware pause makes it wait (18 R403). -/
def kdpRequest (r : KReq) (i : Instr) (f : Session → State → State × KResp) (s : State) : State :=
  if !(kdpAnswers s || (kdpServed s && endsFreeze i)) then s
  else match findSession s r.sid.toNat with
    | none => s.bumpR (if r.gram.fit then Obj.MAC_FAILS else Obj.DISCARDS)
    | some x =>
      if !netServes s x.netPort then s
      else
      let waits := waitsTurn s
      let s := countFrame s x.netPort
      if r.gram.dstPort.toNat ≠ x.udpPort then s
      else if !r.gram.fit then s.bumpR Obj.DISCARDS
      else if !r.macOk then s.bumpR Obj.MAC_FAILS
      else
        let q := r.seq.toNat
        if q = 0 then s.bumpR Obj.SEQ_DISCARDS
        else if q ≤ x.lastSeq then
          match AMap.get? x.kept q with
          | some resp => s.emit (.kdp x.id q resp)
          | none => s.bumpR Obj.SEQ_DISCARDS
        else if q = x.lastSeq + 1 ∧ s.ts.activating ≠ 2 ∧ ¬ waits then
          if r.wellFormed then (f x (kdpTake x q (f x s).2 s)).1 else kdpTake x q { status := .range } s
        else if q ≤ x.lastSeq + 16 then holdRequest x q i s
        else s.bumpR Obj.SEQ_DISCARDS

/-- A request on one named object: READ, WRITE or EXEC with the object's own rule (check 9 of R341). -/
def kdpObject (r : KReq) (i : Instr) (index : Nat) (op : KOp) (eff : KEffect) (s : State) : State :=
  kdpRequest r i (fun x s => objectRequest x.id x.role x.netPort r.unit.toNat index r.sub.toNat op eff s) s

/-- Whether a status refuses a request (15 Table OD-11): the request had no effect, and no run began (R341). -/
def refuses : Status → Bool
  | .busy | .denied | .range | .noObject | .readOnly | .state | .limit => true
  | .ok | .auth | .integrity | .pending | .timeout | .held => false

/-- Record a run's start (15 R342, Table OD-3): ended at once with a status, or PENDING. A refused one starts no run (R341), and the statuses that
earlier runs owe stand. -/
def startRun (c : KCtx) (arg : Nat) (st : Status) (s : State) : State :=
  let k := objKey c.unit c.obj
  if refuses st then s
  else
    let r : Run := { sid := c.sid, arg := arg, at_ := s.hm.opsec, status := st, owed := ((AMap.get? s.kdp.runs k).map fun (q : Run) => q.owed).getD [] }
    { s with kdp := { s.kdp with runs := AMap.set s.kdp.runs k r } }

/-- End a run that is PENDING: its final status is owed once to the session that started it and to those merged into it (15 R342). -/
def endRun (u o : Nat) (st : Status) (s : State) : State :=
  match AMap.get? s.kdp.runs (objKey u o) with
  | some r => if r.status = .pending then
      let who := (r.sid :: r.merged).filter (· != 0)
      { s with kdp := { s.kdp with runs := AMap.set s.kdp.runs (objKey u o) { r with status := st, merged := [], owed := who.map (fun i => (i, st)) ++ r.owed } } } else s
  | none => s

/-- Whether a command's run is in progress. -/
def runPending (s : State) (u o : Nat) : Bool :=
  match AMap.get? s.kdp.runs (objKey u o) with
  | some r => r.status == .pending
  | none => false

/-- A command by R342: its run in progress answers PENDING to its own session and BUSY to another, unless the command has
its own rule for that (`own`), which then handles the other session's (PENDING: merged into the run, whose final status it receives too); an argument for which `over` holds (an abort, a
retarget) is handled by the command's rule whichever session sends it (DEDUCED, log 10). A final status owed is returned
once, whatever runs another session has started since; otherwise a new run starts. -/
def runCommand (own : Bool) (past : Nat → Bool) (eff : KCtx → Nat → State → State × Status) : KEffect := fun c v s =>
  let arg : Nat := match v with
    | .num n => n
    | .bytes _ => 0
  match AMap.get? s.kdp.runs (objKey c.unit c.obj) with
  | some r =>
    if r.status = .pending ∧ past arg then eff c arg s
    else match r.owed.find? fun p => p.1 == c.sid with
    | some p =>
      ({ s with kdp := { s.kdp with runs := AMap.set s.kdp.runs (objKey c.unit c.obj) { r with owed := r.owed.filter fun q => q.1 != c.sid } } }, p.2)
    | none =>
      if r.status = .pending then
        if r.sid = c.sid then (s, .pending)
        else if own then
          let (s', st) := eff c arg s
          if st = .pending then
            let ms := if r.merged.contains c.sid then r.merged else r.merged ++ [c.sid]
            ({ s' with kdp := { s'.kdp with runs := AMap.set s'.kdp.runs (objKey c.unit c.obj) { r with merged := ms } } }, st)
          else (s', st)
        else (s, .busy)
      else let (s', st) := eff c arg s; (startRun c arg st s', st)
  | none => let (s', st) := eff c arg s; (startRun c arg st s', st)

/-- A plain register: the write stores the value and answers OK. -/
def plainWrite : KEffect := fun c v s =>
  match v with
  | .num n => (s.setObj c.unit c.obj n, .ok)
  | .bytes bs => (s.setBlob c.unit c.obj bs, .ok)

/-- A run without a session that is closed: it goes on, and its result stays readable (15 R342), but that session receives no status of it. -/
def Run.leave (r : Run) (sid : Nat) : Run :=
  { r with sid := if r.sid = sid then 0 else r.sid, merged := r.merged.filter (· != sid), owed := r.owed.filter fun p => p.1 != sid }

/-- The units whose state a network port's change can change. -/
def netUnits (p : Nat) : List Nat := [U.netPort p, U.net, U.root]

/-- Close a session with a reason sent to the station (15 Table OD-9), and record it. The transfer and the freeze that
belong to it end with it (15 R355, 16 R377), and the service header that it unlocked is locked again (18 R398). The state of its network port may follow
(R345, R358). -/
def closeSession (s : State) (sid : Nat) (tell : Bool) (reason : Status) : State :=
  match findSession s sid with
  | none => s
  | some x =>
    let s0 := s
    let s := if tell then s.emit (.kdpClose sid reason) else s
    let s := { s with kdp := { s.kdp with
      sessions := s.kdp.sessions.filter (fun y => y.id != sid)
      runs := s.kdp.runs.map fun (p : Nat × Run) => (p.1, p.2.leave sid) } }
    let s := match s.kdp.bulk with
      | some b => if b.sid = sid then { s with kdp := { s.kdp with bulk := none } } else s
      | none => s
    let s := if s.ts.unlocker = some sid then { s with ts := { s.ts with unlocker := none } } else s
    let s := if s.recorder.freezeSid = some sid then endFreeze s 3 else s
    track (netUnits x.netPort) s0 (record s Ev.SESSION_CLOSED U.root 0xFFFF [sid, reason.code, x.executed])

end Sys2Proof.Machine
end

