-- ==== Sys2Proof/Machine/TestBase.lean ====
section
/-! DEFINITION. The ends of loopbacks and self-tests that every reset and power failure shares (18 R394, R395 to R399). -/
namespace Sys2Proof.Machine
open Sys2Proof

/-- LB_RESULT (18 Table TS-2). -/
def lbResult (depth status ms checked errors lane at_ : Nat) : List Byte :=
  leBytes 1 depth ++ leBytes 1 status ++ leBytes 2 0 ++ leBytes 4 ms ++ leBytes 8 checked ++ leBytes 8 errors ++ leBytes 2 lane ++ leBytes 6 at_

/-- A self-test result (18 Table TS-3). -/
def testResult (status passed failed last : Nat) : List Byte :=
  leBytes 1 status ++ leBytes 3 0 ++ leBytes 4 passed ++ leBytes 4 failed ++ leBytes 4 last

/-- A unit's loopback is over: its result stands and its run ends. -/
def endLoop (s : State) (u : Nat) (result : List Byte) : State :=
  let s := { s with ts := { s.ts with loops := AMap.del s.ts.loops u, reflect := AMap.del s.ts.reflect u } }
  endRun u Obj.LB_RUN .ok (s.setBlob u Obj.LB_RESULT result)

/-- Abort a unit's loopback (18 R394). What it had counted by then the spec does not state: free values (log 84). -/
def abortLoop (s : State) (u : Nat) : State :=
  match AMap.get? s.ts.loops u with
  | none => s
  | some l =>
    let (checked, s) := s.draw (2^64)
    let (errors, s) := s.draw (2^64)
    let (lane, s) := s.draw (2^16)
    endLoop s u (lbResult l.depth 3 (usBetween l.since s.now / 1000) checked errors lane l.at_)

/-- Abort a self-test (18 Table TS-3): STATUS 2, its counts free values (log 84). -/
def abortTest (s : State) (u res cmd : Nat) : State :=
  let (p, s) := s.draw (2^32)
  let (f, s) := s.draw (2^32)
  let (t, s) := s.draw (2^32)
  endRun u cmd .ok (s.setBlob u res (testResult 2 p f t))

/-- Abort the SRAM self-test that runs. -/
def abortSram (s : State) : State :=
  if s.ts.sramTest.isSome then abortTest { s with ts := { s.ts with sramTest := none } } U.ctl Obj.SRAM_RESULT Obj.SRAM_SELFTEST else s
/-- Abort the self-test of a stack. -/
def abortStackTest (s : State) (u : Nat) : State :=
  if s.ts.stackTests.contains u then
    abortTest { s with ts := { s.ts with stackTests := s.ts.stackTests.filter (· != u) } } u Obj.STACK_RESULT Obj.STACK_SELFTEST
  else s
/-- Abort the self-test of an HBM stack. -/
def abortHbmTest (s : State) (u : Nat) : State :=
  if s.ts.hbmTests.contains u then
    abortTest { s with ts := { s.ts with hbmTests := s.ts.hbmTests.filter (· != u) } } u Obj.HBM_RESULT Obj.HBM_SELFTEST
  else s

/-- Abort every loopback and self-test, at a power failure or a reset of the module (18 R394). -/
def abortTests (s : State) : State :=
  let s := (s.ts.loops.map (·.1)).foldl abortLoop s
  let s := s.ts.stackTests.foldl abortStackTest (abortSram s)
  s.ts.hbmTests.foldl abortHbmTest s

/-- Abort what the hold at the end of BOOTING alone permits, as the hold ends (18 R399): the destructive tests and the loopbacks of HBM. -/
def abortDestructive (s : State) : State :=
  let s := ((s.ts.loops.filter fun p => unitType p.1 == .hbmStack).map (·.1)).foldl abortLoop s
  s.ts.hbmTests.foldl abortHbmTest (if s.ts.sramTest = some 0xFFFF then abortSram s else s)

/-- Whether a port reflects requests (18 Table TS-1 depth 4). -/
def reflecting (s : State) (n : Nat) : Bool := match AMap.get? s.ts.loops (U.port n) with
  | some l => l.depth == 4
  | none => false

end Sys2Proof.Machine
end

