-- ==== Sys2Proof/Machine/HmOps.lean ====
section
/-! DEFINITION. Operations of the harbourmaster store (16 R362 to R371): the two-slot records and their payloads, shadow stores, the
NV counter cells, remap entries, the bytes of the store as the window shows them, and the start of the harbourmaster. -/
namespace Sys2Proof.Machine
open Sys2Proof

/-! ## Records -/

/-- LATCHES (16 Table HM-2): the latch bits and the INTEGRITY_RECOVER value. -/
def latchBytes (s : State) : List Byte :=
  leBytes 1 (b2n s.hm.latchHalted + 2 * b2n s.hm.latchDomainDown + 4 * b2n s.hm.latchThermal) ++ leBytes 1 s.hm.recoverValue ++ leBytes 6 0

/-- BERTH: BERTH_WAYS, BERTH_INTACT, PAIR_GENERATION and the mode of each berth range (layout DESIGN CHOICE, log 21). -/
def berthBytes (s : State) : List Byte :=
  leBytes 1 (s.robj Obj.BERTH_WAYS) ++ leBytes 1 (s.robj Obj.BERTH_INTACT) ++ leBytes 2 0 ++ leBytes 4 (s.robj Obj.PAIR_GENERATION)
    ++ ((List.range 8).map fun i => leBytes 1 ((AMap.getD s.hc.ranges (i + 1) {}).mode)).flatten

/-- BOOT (18 Table TS-5). -/
def bootBytes (s : State) : List Byte :=
  let ver (x : FwSlot) : Nat := if x.valid then x.version else 0
  leBytes 1 s.ts.image ++ leBytes 1 s.ts.failsA ++ leBytes 1 s.ts.failsB ++ leBytes 1 (s.robj Obj.BOOT_HOLD + 2 * b2n s.ts.nextStart)
    ++ leBytes 4 (ver s.ts.slotA) ++ leBytes 4 (ver s.ts.slotB) ++ leBytes 4 0

/-- DUMP_KEYS: each buffer's wrapped dump key and the DUMP_SEQ it holds (10 R241). -/
def dumpKeyBytes (s : State) : List Byte :=
  let one (k : Option (BitVec 256)) (d : Option Dump) : List Byte :=
    (match k with
      | some x => Config.aesWrap Config.deviceKey x
      | none => List.replicate 40 0) ++ leBytes 4 (match d with
      | some x => x.seq
      | none => 0) ++ leBytes 4 0
  one s.dp.dumpKey0 s.pw.dump0 ++ one s.dp.dumpKey1 s.pw.dump1

/-- KEYS (10 R240). -/
def keysBytes (s : State) : List Byte :=
  leBytes 4 (s.robj Obj.CUSTODIAN_CHECK)
    ++ (match s.dp.custodian with
      | some k => Config.aesWrap Config.deviceKey k
      | none => List.replicate 40 0)
    ++ ((List.range 64).map fun i =>
        wrappedKey s ((AMap.getD s.dp.doms (i + 1) {}).cur) ++ leBytes 1 (s.robj (Obj.KEY_STATE + i + 1))
          ++ leBytes 8 (s.robj (Obj.KEY_START_SEQ + i + 1)) ++ leBytes 8 (s.robj (Obj.KEY_ERASE_SEQ + i + 1))).flatten
    ++ leBytes 8 s.dp.wseqLimit

/-- PREV_KEYS (10 R238). -/
def prevKeysBytes (s : State) : List Byte :=
  let rot (i : Nat) : Bool := s.robj (Obj.KEY_STATE + i + 1) == 2
  leBytes 8 ((List.range 64).foldl (fun a i => if rot i then a + 2^i else a) 0)
    ++ ((List.range 64).map fun i => if rot i then wrappedKey s ((AMap.getD s.dp.doms (i + 1) {}).prev) else List.replicate 40 0).flatten

/-- The payload that a record has by the state (16 Table HM-2). What CONFIG_REF holds beside its sequence, the CRC and place of a
configuration record in the log area, is a value the spec does not state. -/
def recPayload (s : State) (id : Nat) : List Byte :=
  match id with
  | 1 => latchBytes s
  | 2 => integrityBytes s.dp.integrity
  | 3 => downRecord s
  | 4 => leBytes 4 s.ag.active.id ++ leBytes 4 s.ag.active.crc ++ (match s.ag.previous with
    | some p => leBytes 4 p.id ++ leBytes 4 p.crc
    | none => leBytes 4 0xFFFFFFFF ++ leBytes 4 0)
  | 5 => berthBytes s
  | 6 => leBytes 8 s.dp.wseqLimit
  | 7 => dumpKeyBytes s
  | 8 => leBytes 4 s.hm.cfgSeq ++ leBytes 4 (Config.unstated 8 [s.hm.cfgSeq]) ++ leBytes 8 (Config.unstated 9 [s.hm.cfgSeq])
  | 9 => bootBytes s
  | 10 => (s.hm.lastPd ++ List.replicate 64 0).take 64
  | 11 => keysBytes s
  | 12 => prevKeysBytes s
  | _ => []

/-- Which slot a reader takes (16 R367): the code of RECORD_STATE, and the slot's payload and SEQ. -/
def chooseSlot (m : HmImage) (id : Nat) : Nat × Option HmSlot :=
  let a := getSlot m id false
  let b := getSlot m id true
  if a.valid ∧ b.valid then
    let d := (a.seq + 2^32 - b.seq) % 2^32
    if d = 0 then (if a.payload = b.payload then (3, some a) else (4, some a))
    else if d = 2^31 then (4, some a)
    else if d < 2^31 then (1, some a) else (2, some b)
  else if a.valid then (1, some a)
  else if b.valid then (2, some b)
  else (0, none)

/-- Start a shadow store (16 R363). -/
def startStore (s : State) : State :=
  { s.setObj U.hm Obj.HM_STORE_LAST s.hm.opsec with hm := { s.hm with storeRunning := true, storeWaiting := false, storeSpaced := false, cmdWaits := false } }

/-- Request a shadow store (16 R363): at once, or deferred and merged into the one that waits. -/
def requestStore (s : State) : State :=
  if s.hm.storeRunning ∨ ¬ s.hm.storeSpaced then
    { s.bump U.hm Obj.HM_STORE_DEFERRED with hm := { s.hm with storeWaiting := true } }
  else startStore s

/-- The copy of the wrapped keys in the log area follows the KEYS and PREV_KEYS records (10 R240). -/
def syncKeyLog (s : State) (id : Nat) : State :=
  if id = 11 then { s with dp := { s.dp with keyLog := (keysBytes s, s.dp.keyLog.2) } }
  else if id = 12 then { s with dp := { s.dp with keyLog := (s.dp.keyLog.1, prevKeysBytes s) } }
  else s

/-- Update a record (16 R366) where its payload has changed, and request a store. -/
def syncRec (s : State) (id : Nat) : State :=
  if !s.hm.running then s
  else
    let s := syncKeyLog s id
    let p := recPayload s id
    let (code, cur) := chooseSlot s.hm.sram id
    if (cur.map (·.payload)) = some p then s
    else
      let toB := code == 1 || code == 3 || code == 4
      let seq := match cur with
        | some c => (c.seq + 1) % 2^32
        | none => 1
      let img := s.hm.sram
      let s := s.setObj U.hm (Obj.RECORD_STATE + id) (if toB then 2 else 1)
      requestStore { s with hm := { s.hm with sram := { img with
        slots := AMap.set img.slots (2 * id + b2n toB) { seq := seq, payload := p, valid := true } } } }

/-- Update several records. -/
def syncRecs (s : State) (ids : List Nat) : State := ids.foldl syncRec s

/-- A change of the settings that the configuration record holds (16 Table HM-2, record 8). -/
def configChanged (s : State) : State := syncRec { s with hm := { s.hm with cfgSeq := s.hm.cfgSeq + 1 } } 8

/-! ## Shadow stores -/

/-- The pages of a record's slot (16 Table HM-1, HM-2): LAST_POWER_DOWN's lies on two. -/
def slotPages (id : Nat) (b : Bool) : List Nat :=
  if id = 11 then (List.range 16).map (· + (if b then 0x20 else 0x10))
  else if id = 12 then (List.range 16).map (· + (if b then 0xA0 else 0x90))
  else
    let first := slotOffset id / 256 + (if b then 7 else 0)
    if id = 10 then [first, first + 1] else [first]

/-- A slot in the shadow after a store in which pages failed: its earlier contents where they all failed, and where a slot of
several pages is left half written its CRC no longer holds. -/
def storedSlot (old new : Option HmSlot) (pages bad : List Nat) : Option HmSlot :=
  if old = new then new
  else if pages.all (fun p => !bad.contains p) then new
  else if pages.all (fun p => bad.contains p) then old
  else new.map fun x => { x with valid := false }

/-- The recent ring in the shadow after a store in which pages failed: a failed page keeps its four earlier records (16 R364). -/
def storedRecent (old new : List EvRec) (bad : List Nat) : List EvRec :=
  ((List.range 64).filterMap fun i => if bad.contains (0x80 + i / 4) then old.reverse[i]? else new.reverse[i]?).reverse

/-- The shadow after a store (16 R362, R364): every page but those whose second verify failed. -/
def storeImage (old new : HmImage) (bad : List Nat) : HmImage :=
  if bad.isEmpty then new
  else
    let slot (m : AMap HmSlot) (k : Nat) : AMap HmSlot :=
      AMap.put m k (storedSlot (AMap.get? old.slots k) (AMap.get? new.slots k) (slotPages (k / 2) (k % 2 == 1)) bad)
    let remap (m : AMap Remap) (i : Nat) : AMap Remap :=
      AMap.put m i (if bad.contains (0x30 + i / 32) then AMap.get? old.remap i else AMap.get? new.remap i)
    let keep (k : Nat) : Bool := bad.contains (0xC0 + k / 256)
    let station := (new.station.filter fun p => !keep p.1).foldl (fun m p => AMap.set m p.1 p.2) (old.station.filter fun p => keep p.1)
    { generation := if bad.contains 0 then old.generation else new.generation
      slots := (List.range 26).foldl slot []
      remap := (List.range 2176).foldl remap []
      recent := storedRecent old.recent new.recent bad
      station := station }

/-- A store has copied and verified every page (16 R363, R364): HM_STORES, and STORE_FAILED for each page that failed twice. A
request that waited runs once the 10 s spacing has passed. -/
def storeDone (s : State) (bad : List Nat) : State :=
  let s0 := s
  let img : HmImage := { s.hm.sram with generation := s.hm.sram.generation + 1 }
  let s := { s with hm := { s.hm with sram := img, shadow := storeImage s.hm.shadow img bad, storeRunning := false, badPages := bad } }
  let s := s.bump U.hm Obj.HM_STORES
  let s := bad.foldl (fun s p => recordHm s Ev.STORE_FAILED U.hm 0xFFFF [p, s.obj U.hm Obj.HM_STORES]) s
  let s := if s.hm.cmdWaits then s else endRun U.hm Obj.HM_STORE_NOW .ok s
  let s := if s.hm.storeWaiting ∧ s.hm.storeSpaced then startStore s else s
  track [U.hm, U.root] s0 s

/-- A store of a power failure (16 R363): at once, and every waiting request is satisfied. The spacing of the next store counts from its start. -/
def storeNow (s : State) : State :=
  storeDone { s.setObj U.hm Obj.HM_STORE_LAST s.hm.opsec with
    hm := { s.hm with storeRunning := false, storeWaiting := false, storeSpaced := false, cmdWaits := false } } []

/-! ## NV counters -/

/-- The highest value of a counter's valid cells and its cell. -/
def cellTop (cells : AMap Nat) : Option (Nat × Nat) :=
  cells.foldl (fun b p => match b with
    | none => some p
    | some q => if q.2 < p.2 then some p else some q) none
/-- Write a counter's value into the cell after the one holding its highest value (16 R369). -/
def writeCell (cells : AMap Nat) (v : Nat) : AMap Nat :=
  match cellTop cells with
  | some (i, _) => AMap.set cells ((i + 1) % 16) v
  | none => AMap.set cells 0 v

/-- A counter of R370 has reached its end: the flag in COUNTERS_SATURATED and its event once. Counter 1 is the power-cycle count
and 2 the operating seconds. -/
def saturate (s : State) (counter value : Nat) : State :=
  let f := s.hm.satCell
  if bitOf f (counter - 1) then s
  else
    let s := { s with hm := { s.hm with satCell := setBit f (counter - 1) true } }
    recordHm (s.setObj U.hm Obj.COUNTERS_SATURATED s.hm.satCell) Ev.COUNTER_SATURATED U.hm 0xFFFF [counter, value]

/-- Write the operating seconds to their cells (16 R369). -/
def writeOpsec (s : State) : State :=
  match cellTop s.hm.opsecCells with
  | some (_, v) => if v = s.hm.opsec then { s with hm := { s.hm with opsecSince := 0 } } else
      { s with hm := { s.hm with opsecCells := writeCell s.hm.opsecCells s.hm.opsec, opsecSince := 0 } }
  | none => { s with hm := { s.hm with opsecCells := writeCell s.hm.opsecCells s.hm.opsec, opsecSince := 0 } }

/-- One operating second (16 R369, R370). -/
def opSecond (s : State) : State :=
  if !s.hm.running then s
  else if 2^48 - 1 ≤ s.hm.opsec then saturate s 2 s.hm.opsec
  else { s with hm := { s.hm with opsec := s.hm.opsec + 1, opsecSince := s.hm.opsecSince + 1 } }

/-! ## Remap entries -/

/-- The positions of a table: an HBM channel (code below 2048: 16 × (16 × (n − 1) + c − 1)) or a slice (2048 + 8 × slice). -/
def remapPositions (base : Nat) : List Nat := (List.range (if base < 2048 then 16 else 8)).map (base + ·)
/-- Table base of HBM channel `c` of stack `n`, both from 1. -/
def hbmTable (n c : Nat) : Nat := (16 * (n - 1) + c - 1) * 16
/-- Table base of a slice. -/
def sramTable (sl : Nat) : Nat := 2048 + 8 * sl
/-- Entries used in a table. -/
def remapUsed (s : State) (base : Nat) : Nat := ((remapPositions base).filter fun p => AMap.has s.hm.sram.remap p).length
/-- Whether a word group has an entry. -/
def remapped (s : State) (base group : Nat) : Bool :=
  (remapPositions base).any fun p => match AMap.get? s.hm.sram.remap p with
    | some e => e.group == group
    | none => false

/-- Add an entry in the first free position of its table (16 R371), and request a store. -/
def addRemap (s : State) (base group cause : Nat) : State :=
  match (remapPositions base).find? (fun p => !AMap.has s.hm.sram.remap p) with
  | some p =>
    requestStore { s with hm := { s.hm with sram := { s.hm.sram with
      remap := AMap.set s.hm.sram.remap p { group := group, spare := p - base, cause := cause } } } }
  | none => s

/-- Whether every byte that a window write touches lies in the station area: it stays within one page (16 R365). -/
def windowOpen (a : Nat) : Bool := decide (0xC000 ≤ a) && decide (a ≤ 0xDFFF)

/-- A window write of `bs` at `a` wraps within its page (16 R365). -/
def windowWrite (s : State) (a : Nat) (bs : List Byte) : State :=
  let base := a / 256 * 256 - 0xC000
  let st := (bs.zip (List.range bs.length)).foldl (fun m p =>
    let k := base + (a + p.2) % 256
    if p.1 = 0 then AMap.del m k else AMap.set m k p.1) s.hm.sram.station
  { s with hm := { s.hm with sram := { s.hm.sram with station := st } } }

/-! ## Start of the harbourmaster -/

/-- Apply a record read at the start to the state; the default of Table HM-2 where no slot was valid. Keys and the boot images
themselves stand where they are stored; what their records hold is what the state already has, or its copy in the log area. -/
def applyRec (s : State) (id : Nat) (p : Option (List Byte)) : State :=
  let b (l : List Byte) (i n : Nat) : Nat := leNat ((l.drop i).take n)
  match id, p with
  | 1, some l =>
    let f := b l 0 1
    let s := { s with hm := { s.hm with latchHalted := bitOf f 0, latchDomainDown := bitOf f 1, latchThermal := bitOf f 2, recoverValue := b l 1 1 } }
    (s.setR Obj.DOMAIN_DOWN_LATCHED (b2n (bitOf f 1)))
  | 1, none => { s with hm := { s.hm with latchHalted := true, recoverValue := 0 }, dp := { s.dp with integrity := {} } }
  | 2, some l =>
    { s with dp := { s.dp with integrity := {
        cause := b l 0 1, delivered := bitOf (b l 1 1) 0, markedEntries := bitOf (b l 1 1) 1, port := b l 2 1, slice := b l 3 1, pn := b l 4 8 / 4096, ppn := b l 12 5, sector := b l 17 1, wseq := b l 18 8, domain := b l 26 1, recovery := b l 27 1, at_ := b l 28 6 } } }
  | 2, none => { s with dp := { s.dp with integrity := {} } }
  | 3, some l =>
    let r := [b l 0 1, b l 1 1, b l 2 1, b l 3 1, b l 4 8, b l 12 6, b l 20 8]
    { s with dir := { s.dir with downRec := if r.all (· == 0) then [] else r } }
  | 3, none => { s with dir := { s.dir with downRec := [] } }
  | 4, some l =>
    let held (id crc : Nat) (now : Option Plan) : Option Plan :=
      if id = 0 then some {} else match s.ag.planLog.find? (fun q => q.1.id == id && q.1.crc == crc) with
        | some q => some q.1
        | none => now
    { s with ag := { s.ag with
      active := (held (b l 0 4) (b l 4 4) (some s.ag.active)).getD {}
      previous := if b l 8 4 = 0xFFFFFFFF then none else held (b l 8 4) (b l 12 4) s.ag.previous } }
  | 4, none => { s with ag := { s.ag with active := {} } }
  | 5, some l => ((s.setR Obj.BERTH_INTACT (b l 1 1)).setR Obj.PAIR_GENERATION (b l 4 4)).setR Obj.BERTH_WAYS (b l 0 1)
  | 5, none => ((s.setR Obj.BERTH_INTACT 0).setR Obj.PAIR_GENERATION 0).setR Obj.BERTH_WAYS 0
  | 6, some l => { s with dp := { s.dp with wseqLimit := b l 0 8 } }
  | 7, none =>
    let un (d : Option Dump) : Option Dump := d.map fun x => { x with sealed := false }
    { s with pw := { s.pw with dump0 := un s.pw.dump0, dump1 := un s.pw.dump1 } }
  | 9, some l =>
    let s := { s with ts := { s.ts with image := b l 0 1 % 2, failsA := b l 1 1, failsB := b l 2 1, nextStart := bitOf (b l 3 1) 1 } }
    s.setR Obj.BOOT_HOLD (b2n (bitOf (b l 3 1) 0))
  | 9, none => { s with ts := { s.ts with image := 0, failsA := 0, failsB := 0, nextStart := false } }
  | 10, some l => { s with hm := { s.hm with lastPd := l } }
  | 10, none => { s with hm := { s.hm with lastPd := [] } }
  | _, _ => s

/-- Read one record (16 R367, R368), with TWIN_CONFLICT and RECORD_LOST where they apply. -/
def readRec (s : State) (id : Nat) : State :=
  let (code, x) := chooseSlot s.hm.sram id
  let s := s.setObj U.hm (Obj.RECORD_STATE + id) code
  let a := getSlot s.hm.sram id false
  let bb := getSlot s.hm.sram id true
  let s := if code = 4 then
      let crc (y : HmSlot) : Nat := crc32c ((slotBytes id y).take (8 + y.payload.length))
      let s := if a.seq = bb.seq then s.bump U.hm Obj.TWIN_CONFLICTS else s
      recordHm s Ev.TWIN_CONFLICT U.hm 0xFFFF [id, a.seq, crc a, crc bb]
    else s
  match x with
  | some y => applyRec s id (some y.payload)
  | none =>
    let s := recordHm (applyRec s id none) Ev.RECORD_LOST U.hm 0xFFFF [id, id]
    if id = 6 then
      match (chooseSlot s.hm.sram 11).2 with
      | some k => applyRec s 6 (some (k.payload.drop 3692))
      | none => applyRec s 1 none
    else s

end Sys2Proof.Machine
end

