-- ==== Sys2Proof/Machine/Pc.lean ====
section
/-! DEFINITION. Counting an occurrence in the counter unit (17 R381 to R389): the programmable counters, their overflow, the
overflow samples and the bandwidth windows. -/
namespace Sys2Proof.Machine
open Sys2Proof

/-- Whether the counter unit is in reset, so that its counters read 0 (12 Table CS-5). -/
def counterUnitReset (s : State) : Bool := s.robj (Obj.BLOCK_STATE + 6) != 0

/-- A register of counter `n` on /1. -/
def pcReg (s : State) (o n : Nat) : Nat := s.obj U.ctl (o + n)

/-- Whether counter `n` counts an event that arises in a unit and, where attributed, in a slice (17 R381). -/
def pcMatches (s : State) (n code unit : Nat) (slice : Option Nat) : Bool :=
  bitOf (pcReg s Obj.PC_CONFIG n) 0 && pcReg s Obj.PC_EVENT n == code && unitUnder unit (pcReg s Obj.PC_SCOPE n) &&
    (match slice with
     | some sl => bitOf (pcReg s Obj.PC_SLICES n) sl
     | none => true)

/-- Abandon every armed sample (17 R387). -/
def abandonSamples (s : State) : State :=
  { s.bumpN U.ctl Obj.SAMPLES_LOST s.pc.armed.length with pc := { s.pc with armed := [] } }

/-- Arm a slice for a counter's sample (17 R387). -/
def armSample (s : State) (n sl : Nat) : State :=
  if s.pc.armed.any (fun a => a.slice == sl && a.counter == n) then s.bump U.ctl Obj.SAMPLES_LOST
  else { s with pc := { s.pc with armed := s.pc.armed ++ [{ slice := sl, counter := n }] } }

/-- What follows an overflow of counter `n` (17 R384, R385, R387), a freeze of the unit at once (DESIGN CHOICE, log 139). -/
def pcOverflow (s : State) (n : Nat) (slice : Option Nat) : State :=
  let cfg := pcReg s Obj.PC_CONFIG n
  let s := s.setObj U.ctl (Obj.PC_CONFIG + n) (setBit cfg 2 true)
  let s := s.bump U.ctl (Obj.PC_OVF_COUNT + n)
  let s := match slice with
    | some sl => if bitOf cfg 3 then armSample s n sl else s
    | none => s
  if bitOf cfg 4 then
    record (abandonSamples (s.setObj U.ctl Obj.PC_FREEZE 1)) Ev.PC_OVF_FROZEN U.ctl 0xFFFF [n, pcReg s Obj.PC_EVENT n, s.obj U.ctl Obj.PC_CYCLES]
  else s

/-- Add `k` occurrences to counter `n` (17 R384). -/
def pcAdd (s : State) (n k : Nat) (slice : Option Nat) : State :=
  let v := pcReg s Obj.PC_COUNT n + k
  if v < 2^48 then s.setObj U.ctl (Obj.PC_COUNT + n) v
  else
    let v := if bitOf (pcReg s Obj.PC_CONFIG n) 3 then (pcReg s Obj.PC_RELOAD n + (v - 2^48)) % 2^48 else v - 2^48
    pcOverflow (s.setObj U.ctl (Obj.PC_COUNT + n) v) n slice

/-- Count `k` occurrences of an event of Table PC-1 (17 R381); nothing while frozen (R385). -/
def pcCount (s : State) (code unit : Nat) (slice : Option Nat) (k : Nat) : State :=
  if s.obj U.ctl Obj.PC_FREEZE = 1 ∨ k = 0 ∨ counterUnitReset s then s
  else (List.range 8).foldl (fun s i => if pcMatches s (i + 1) code unit slice then pcAdd s (i + 1) k slice else s) s

/-- Whether a line lies in a protected range (10 R247). -/
def lineProtected (s : State) (line : LineNo) : Bool :=
  s.dp.protApplied.any fun p => decide (p.2.1 ≤ line * 64) && decide (line * 64 < p.2.1 + p.2.2)

/-- Put a sample into the ring of 256 (17 R388). -/
def pushSample (s : State) (x : Sample) : State :=
  { s.bump U.ctl Obj.SAMPLES_TAKEN with pc := { s.pc with
    samples := ((s.pc.nextSample, x) :: s.pc.samples).take 256, nextSample := s.pc.nextSample + 1 } }

/-- A transaction of a slice completes (17 R387): each armed sample of the slice takes it where it is one of the counter's
event in the counter's scope, or where it is the 64th since; otherwise its skid rises. -/
def sampleStep (s : State) (slice port src line : Nat) (write : Bool) (codes : List (Nat × Nat)) : State :=
  if s.obj U.ctl Obj.PC_FREEZE = 1 ∨ counterUnitReset s then s
  else (s.pc.armed.filter (fun a => a.slice == slice)).foldl (fun s a =>
    let rest := s.pc.armed.filter (fun b => !(b.slice == a.slice && b.counter == a.counter))
    let ev := pcReg s Obj.PC_EVENT a.counter
    let hit := codes.any fun c => c.1 == ev && unitUnder c.2 (pcReg s Obj.PC_SCOPE a.counter)
    if hit || decide (63 ≤ a.skid) then
      pushSample { s with pc := { s.pc with armed := rest } }
        { cycle := s.obj U.ctl Obj.PC_CYCLES, line := line, counter := a.counter, event := ev, port := port, slice := slice,
          src := src, write := write, mismatch := !hit, prot := lineProtected s line, skid := a.skid + (if hit then 0 else 1) }
    else { s with pc := { s.pc with armed := rest ++ [{ a with skid := a.skid + 1 }] } }) s

/-- The length L of a bandwidth window in cycles (17 R389). -/
def bwLength (s : State) : Nat := 400 * s.obj U.ports Obj.BW_WINDOW_US

/-- Add payload to the window that the present cycle lies in (17 R389). -/
def bwAdd (s : State) (port rd wr : Nat) : State :=
  let c := s.obj U.ctl Obj.PC_CYCLES
  if c < s.pc.bwFrom ∨ counterUnitReset s then s
  else
    let w0 := c / bwLength s * bwLength s
    { s with pc := { s.pc with bw := AMap.upd s.pc.bw port {} fun w =>
      let w : BwWindow := if w.start = w0 then w else { start := w0 }
      { w with read := w.read + rd, write := w.write + wr } } }

end Sys2Proof.Machine
end

