-- ==== Sys2Proof/Machine/WharfOps.lean ====
section
/-! DEFINITION. Operations of the wharf (chapter 06): slots, occupancy and levels, staging, the index's presence filter,
release, and the stage pins. -/
namespace Sys2Proof.Machine
open Sys2Proof

/-- The level that occupancy gives from a level in force (06 R159, Table WH-6): the highest level entered and not yet left. -/
def nextLevel (s : State) (old : Nat) : Nat :=
  let inLevel (n entry release : Nat) : Bool := occAtLeast s entry || (decide (n ≤ old) && occAtLeast s release)
  if inLevel 4 100 100 then 4
  else if inLevel 3 97 90 then 3
  else if inLevel 2 90 80 then 2
  else if inLevel 1 75 60 then 1
  else 0

/-- Whether memory service runs, so that the stage pins follow Table WH-6 (06 R161). -/
def stagePinsFollow (s : State) : Bool := s.phase == .running

/-- Drive the stage pins by the level in force (06 R161): a pin driven low stays low for its minimum. Held pins keep their levels (12 R285,
R294). -/
def drivePins (s : State) : State :=
  if s.pins.held ∨ s.robj Obj.PAD_HOLD = 1 then s else
  let lvl := s.robj Obj.WHARF_LEVEL
  let wantSlow := !stagePinsFollow s || decide (1 ≤ lvl)
  let wantStop := !stagePinsFollow s || decide (3 ≤ lvl)
  let s := if wantSlow && !s.pins.slowLow then
      { s.bumpR Obj.SLOW_ASSERTS with pins := { s.pins with slowLow := true, slowMin := true } }
    else if !wantSlow && !s.pins.slowMin then { s with pins := { s.pins with slowLow := false } } else s
  if wantStop && !s.pins.stopLow then
      { s.bumpR Obj.STOP_ASSERTS with pins := { s.pins with stopLow := true, stopMin := true } }
    else if !wantStop && !s.pins.stopMin then { s with pins := { s.pins with stopLow := false } } else s

/-- The first link has reached Memory_Active (12 R285, R294): the hold of a warm reset ends, and with PAD_HOLD_AUTO 1 that of P3 or P4. The
stage pins then take the levels their function calls for. -/
def releasePins (s : State) : State :=
  let s := { s with pins := { s.pins with held := false } }
  drivePins (if s.robj Obj.PAD_HOLD_AUTO = 1 then s.setR Obj.PAD_HOLD 0 else s)

/-- Set the wharf level to what occupancy gives, and what follows from it in the same moment (06 R159 to R161): FULL_TIME,
WHARF_FULL, the pins. The RwD limits and DevLoad are read from the level. -/
def settleLevel (s : State) : State :=
  let old := s.robj Obj.WHARF_LEVEL
  let new := nextLevel s old
  let s := if new = old then s else s.setR Obj.WHARF_LEVEL new
  let s := match s.wharf.fullSince with
    | none => if new = 4 then { s with wharf := { s.wharf with fullSince := some s.now } } else s
    | some t0 =>
      if new = 4 then s
      else { s.bumpN U.root Obj.FULL_TIME (usBetween t0 s.now) with wharf := { s.wharf with fullSince := none } }
  let s := if new = 4 ∧ old ≠ 4 ∧ (s.phase = .running ∨ s.phase = .loading) then
      record s Ev.WHARF_FULL U.root 0xFFFF [s.robj Obj.DIRTY_CAP, dirtyNow s, s.robj Obj.FULL_TIME] else s
  drivePins s

/-- The two counters of the presence filter that a page selects (06 R148). -/
def filterKeys (pn : PageNo) : Nat × Nat :=
  let sl := sliceOf pn
  (4194304 * sl + Config.filterHash 0 (pn / 16) % 4194304, 4194304 * sl + Config.filterHash 1 (pn / 16) % 4194304)

/-- Whether the index keeps the records of two pages in one bucket (10 Table DP-2): which PNK hash to a bucket the spec does not state (a free value, log 131). -/
def sameBucket (a b : PageNo) : Bool :=
  a == b || (sliceOf a == sliceOf b && Config.unstated 28 [sliceOf a, a / 16] == Config.unstated 28 [sliceOf b, b / 16])

/-- Whether a page's index record stands in a bucket under repair (10 Table DP-2). -/
def indexBad (s : State) (pn : PageNo) : Bool := s.wharf.badIndex.any (sameBucket pn)

/-- Whether the presence filter reports a page present (06 R148). -/
def filterPresent (s : State) (pn : PageNo) : Bool :=
  let (a, b) := filterKeys pn
  decide (AMap.getD s.wharf.filter a 0 ≠ 0) && decide (AMap.getD s.wharf.filter b 0 ≠ 0)

/-- Count one index record more (`up`) or less on a counter; a saturated counter stays (06 R148). -/
def filterStep (m : AMap Nat) (k : Nat) (up : Bool) : AMap Nat :=
  let c := AMap.getD m k 0
  if c = 255 then m
  else if up then AMap.set m k (c + 1)
  else if c ≤ 1 then AMap.del m k else AMap.set m k (c - 1)

/-- The change of a page's index record when staging changes from `before` (06 R147, R148), and the start of a background
rebuild of the filter once more than 1 % of the slice's counters are saturated. -/
def indexChange (before : Bool) (pn : PageNo) (s : State) : State :=
  let after := pageStaged s pn
  if before = after then s
  else
    let (a, b) := filterKeys pn
    let f := filterStep (filterStep s.wharf.filter a after) b after
    let sl := sliceOf pn
    let sat := (f.filter (fun p => p.1 / 4194304 == sl && p.2 == 255)).length
    let rb := if 41943 < sat ∧ ¬ s.wharf.rebuilding.contains sl then sl :: s.wharf.rebuilding else s.wharf.rebuilding
    { s with wharf := { s.wharf with filter := f, rebuilding := rb } }

/-- The lowest live position of a slice's ring and the line or sector there (`false` a line, `true` a marker). -/
def ringHead (s : State) (sl : Nat) : Option (Nat × Bool × Nat) :=
  let a := (s.wharf.entries.filter (fun p => sliceOfLine p.1 == sl)).map (fun p => (p.2.pos, false, p.1))
  let b := (s.wharf.markers.filter (fun p => sliceOfSector p.1 == sl)).map (fun p => (p.2.pos, true, p.1))
  (a ++ b).foldl (fun best x => match best with
    | none => some x
    | some y => if x.1 < y.1 then some x else some y) none

/-- The ring tail of a slice. -/
def ringTail (s : State) (sl : Nat) : Nat := AMap.getD s.wharf.tails sl 0

/-- Slots of a slice's log ring (06 Table WH-1). -/
abbrev ringSlots : Nat := 48467512

/-- Move the live entry at the ring's head to the tail (06 R149). -/
def moveHead (s : State) (sl : Nat) (isMarker : Bool) (k : Nat) : State :=
  let t := ringTail s sl
  if isMarker then
    match AMap.get? s.wharf.markers k with
    | some m =>
      let s := s.bumpR Obj.HEAD_RELOCATIONS
      { s with wharf := { s.wharf with
        markers := AMap.set s.wharf.markers k { m with pos := t }, tails := AMap.set s.wharf.tails sl (t + 1) } }
    | none => s
  else
    match AMap.get? s.wharf.entries k with
    | some e =>
      let s := s.bumpR Obj.HEAD_RELOCATIONS
      { s with wharf := { s.wharf with
        entries := AMap.set s.wharf.entries k { e with pos := t }, tails := AMap.set s.wharf.tails sl (t + e.slots) } }
    | none => s

/-- Head relocations while more than 90 % of the ring lies between head and tail, at most `n` of them. -/
def relocateHeads (sl : Nat) : Nat → State → State
  | 0, s => s
  | n + 1, s => match ringHead s sl with
    | none => s
    | some (h, isMarker, k) => if (ringTail s sl - h) * 10 ≤ ringSlots * 9 then s else relocateHeads sl n (moveHead s sl isMarker k)

/-- Head relocation (06 R149): past 90 % of the ring the live entry at the head moves to the tail, and so on until the ring stands at 90 % or below.
The distance grows only as the tail advances, so an append looks. Where live entries alone fill more than that, each moves once (DESIGN CHOICE, log 105). -/
def relocateHead (s : State) (sl : Nat) : State :=
  let n := (s.wharf.entries.filter fun p => sliceOfLine p.1 == sl).length + (s.wharf.markers.filter fun p => sliceOfSector p.1 == sl).length
  relocateHeads sl n s

/-! The slots as a service dump or the flush area shows them (06 R144 to R146). -/

/-- A slot's trailer (06 Table WH-2). `flags`: POISON, PARTIAL, MARKED. -/
def slotTrailer (kind : Nat) (poison partly marked : Bool) (lineField pn pos : Nat) : Nat :=
  2^60 * kind + 2^59 * b2n poison + 2^58 * b2n partly + 2^57 * b2n marked + 2^51 * (lineField % 64) + 2^20 * (pn / 16 % 2^31) + pos / ringSlots % 2^20

/-- The bytes of a slot: 64 data bytes and the trailer (06 Table WH-1). -/
def ringSlotBytes (data : List Byte) (trailer : Nat) : List Byte := (data ++ List.replicate 64 0).take 64 ++ leBytes 8 trailer

/-- The slots of a live entry: one, or with a partial mask two, the second of kind MASK_EXT with the mask in data bytes 0 to 7 (06 R144).
Its trailer repeats LINE and PNK, its POISON, PARTIAL and MARKED read 0: the spec does not say (DESIGN CHOICE, log 126). -/
def WEntry.slotList (e : WEntry) (line : LineNo) : List (List Byte) :=
  let pn := pageOfLine line
  let whole := decide (e.mask = fullMask)
  ringSlotBytes (leBytes 64 e.data.toNat) (slotTrailer 1 e.poison (!whole) e.marked (line % 64) pn e.pos) ::
    (if whole then [] else [ringSlotBytes (leBytes 8 e.mask.toNat) (slotTrailer 2 false false false (line % 64) pn (e.pos + 1))])

/-- The slot of a stale marker: the mask in data byte 0, and DPA[11:9] in bits 56 to 54 (06 R146, Table WH-2). -/
def WMarker.slot (m : WMarker) (sector : SectorNo) : List Byte :=
  ringSlotBytes (leBytes 1 m.mask) (slotTrailer 3 false false false (8 * (sector % 8)) (pageOfSector sector) m.pos)

/-- Insert by ring position. -/
def insertPos {α : Type} (p : Nat × α) : List (Nat × α) → List (Nat × α)
  | [] => [p]
  | q :: t => if q.1 < p.1 then q :: insertPos p t else p :: q :: t

/-- What a dump holds of the wharf, in ring order (06 R164): a line's entry, or a sector's marker, at its position. -/
def Dump.ringOrder (d : Dump) : List (Nat × Sum (LineNo × WEntry) (SectorNo × WMarker)) :=
  let es := d.entries.map fun p => (p.2.pos, Sum.inl p)
  let ms := d.markers.map fun p => (p.2.pos, Sum.inr p)
  (es ++ ms).foldl (fun l p => insertPos p l) []

/-- The slots of a slice that a dump wrote, in ring order from head to tail (06 R164). -/
def Dump.sliceSlots (d : Dump) (sl : Nat) : List (List Byte) :=
  (d.ringOrder.map fun p => match p.2 with
    | .inl q => if sliceOfLine q.1 = sl then q.2.slotList q.1 else []
    | .inr q => if sliceOfSector q.1 = sl then [q.2.slot q.1] else []).flatten

/-- The entry that a write makes of a line's live entry (06 R144): the union mask, the new bytes over the old. A full
mask reads nothing of the old entry; a hidden entry (07 R186) counts as none. -/
def mergedEntry (old : Option WEntry) (data : LineData) (mask : ByteMask) (poison : Bool) (seq pos : Nat) : WEntry :=
  match old with
  | some e =>
    if mask = fullMask ∨ e.hidden then
      { data := data, mask := mask, poison := poison, seq := seq, first := if e.hidden then seq else e.first, pos := pos }
    else
      { data := overlay e.data data mask, mask := e.mask ||| mask, poison := e.poison || poison, marked := e.marked,
        replay := e.replay, seq := seq, first := e.first, pos := pos }
  | none => { data := data, mask := mask, poison := poison, seq := seq, first := seq, pos := pos }

/-- Append an entry for a line (06 R144, R149): the merged entry takes the tail's slots, the old ones become dead; the index,
the filter, the ring head and the level follow. `seq`: the staging order the entry keeps. -/
def stageAt (s : State) (line : LineNo) (data : LineData) (mask : ByteMask) (poison : Bool) (seq : Nat) : State :=
  let pn := pageOfLine line
  let sl := sliceOf pn
  let before := pageStaged s pn
  let old := AMap.get? s.wharf.entries line
  let t := ringTail s sl
  let e := mergedEntry old data mask poison seq t
  let s := { s with wharf := { s.wharf with
    entries := AMap.set s.wharf.entries line e, tails := AMap.set s.wharf.tails sl (t + e.slots) } }
  let s := { s with dp := { s.dp with staleKept := s.dp.staleKept.filter (· != line) } }
  let s := pcCount (s.bumpN U.root Obj.SLOTS_APPENDED e.slots) 0x0E U.root (some sl) e.slots
  let s := if old.isSome then s.bumpR Obj.LINES_RESTAGED else s
  settleLevel (relocateHead (indexChange before pn s) sl)

/-- Append an entry as the newest write. -/
def stage (s : State) (line : LineNo) (data : LineData) (mask : ByteMask) (poison : Bool) : State :=
  let q := s.wharf.nextSeq
  stageAt { s with wharf := { s.wharf with nextSeq := q + 1 } } line data mask poison q

/-- Stage a stale marker for lines of a sector (06 R146, 04 R107); markers are never held (R160). -/
def stageMarker (s : State) (sector : SectorNo) (mask : Nat) : State :=
  let pn := pageOfSector sector
  let sl := sliceOf pn
  let before := pageStaged s pn
  let (old, rep) := match AMap.get? s.wharf.markers sector with
    | some m => if m.hidden then (0, false) else (m.mask, m.replay)
    | none => (0, false)
  let t := ringTail s sl
  let q := s.wharf.nextSeq
  let s := { s with wharf := { s.wharf with
    markers := AMap.set s.wharf.markers sector { mask := old ||| mask, seq := q, pos := t, replay := rep },
    tails := AMap.set s.wharf.tails sl (t + 1), nextSeq := q + 1 } }
  let s := pcCount ((s.bumpR Obj.SLOTS_APPENDED).bumpR Obj.STALE_MARKERS) 0x0E U.root (some sl) 1
  settleLevel (relocateHead (indexChange before pn s) sl)

/-- Release the live entry of a line if it is still the one of staging order `seq` (06 R157 step 6). A newer entry stays; the replayed
bytes it merged have drained (01 R25). -/
def releaseEntry (s : State) (line : LineNo) (seq : Nat) : State :=
  match AMap.get? s.wharf.entries line with
  | some e =>
    if e.seq = seq then
      let pn := pageOfLine line
      indexChange true pn { s with wharf := { s.wharf with entries := AMap.del s.wharf.entries line } }
    else if e.replay then { s with wharf := { s.wharf with entries := AMap.set s.wharf.entries line { e with replay := false } } }
    else s
  | none => s

/-- Release a stale marker if it is still the one of staging order `seq`. -/
def releaseMarker (s : State) (sector : SectorNo) (seq : Nat) : State :=
  match AMap.get? s.wharf.markers sector with
  | some m =>
    if m.seq = seq then
      indexChange true (pageOfSector sector) { s with wharf := { s.wharf with markers := AMap.del s.wharf.markers sector } }
    else s
  | none => s

/-- Clear the stale mark that a marker gives a line (04 R108): a write makes the line whole again. -/
def clearMarker (s : State) (line : LineNo) : State :=
  let x := sectorOfLine line
  match AMap.get? s.wharf.markers x with
  | some m =>
    if bitOf m.mask (line % 8) then
      let m' := setBit m.mask (line % 8) false
      if m' = 0 then indexChange true (pageOfSector x) { s with wharf := { s.wharf with markers := AMap.del s.wharf.markers x } }
      else { s with wharf := { s.wharf with markers := AMap.set s.wharf.markers x { m with mask := m' } } }
    else s
  | none => s

end Sys2Proof.Machine
end

