-- ==== Sys2Proof/Machine/MediaOps.lean ====
section
/-! DEFINITION. Operations of media translation (chapter 07): geometry, members, the map and its journal, set and stripe
states, open sets, and the contents of stored sectors (chapter 10, R235 to R239). -/
namespace Sys2Proof.Machine
open Sys2Proof

/-- Write a set. -/
def putSet (s : State) (k : Nat) (r : SetRec) : State := { s with media := { s.media with sets := AMap.set s.media.sets k r } }

/-- Write a stripe record. -/
def putStripe (s : State) (k : Nat) (r : StripeRec) : State :=
  { s with media := { s.media with stripes := AMap.set s.media.stripes k r } }

/-- The lowest-numbered set of a die index that nothing is recorded of, if any: BLOCK below 32112, not reserved. -/
def firstFresh (s : State) (g d : Nat) : Option Nat :=
  let start := if d = 0 then reservedSets s.variant else 32768 * d
  let taken := s.media.sets.filter fun p => p.1 / 2^20 == g && decide (32768 * d ≤ p.1 % 2^20 ∧ p.1 % 2^20 < 32768 * (d + 1))
  ((List.range (taken.length + 1)).map (start + ·)).find? fun n =>
    decide (n % 32768 < 32112) && !(taken.any (fun p => p.1 % 2^20 == n))

/-- Candidate free sets of a group: each die's first unrecorded set and the recorded FREE ones. -/
def freeCandidates (s : State) (g : Nat) : List (Nat × Nat) :=
  let fresh := (List.range 32).filterMap fun d => (firstFresh s g d).map fun n => (n, 0)
  let known := (s.media.sets.filter fun p => p.1 / 2^20 == g && p.2.state == 0).map fun p => (p.1 % 2^20, p.2.highest)
  (fresh ++ known).filter fun c => decide (15 ≤ (liveMembers s g c.1).length)

/-- Open sets on a die index (07 R170). -/
def openOnDie (s : State) (g d : Nat) : Nat :=
  (s.media.sets.filter fun p => p.1 / 2^20 == g && p.2.state == 1 && p.1 % 2^20 / 32768 == d).length

/-- Whether candidate `a` goes before `b` (07 R170, R185): fewest open sets on its die index; then the lowest erase count for
a host or hot set, the highest for a copy or cold set; then the lowest set number. -/
def candidateBefore (s : State) (g : Nat) (low : Bool) (a b : Nat × Nat) : Bool :=
  let oa := openOnDie s g (a.1 / 32768)
  let ob := openOnDie s g (b.1 / 32768)
  if oa ≠ ob then decide (oa < ob)
  else if a.2 ≠ b.2 then (if low then decide (a.2 < b.2) else decide (b.2 < a.2))
  else decide (a.1 < b.1)

/-- The free set to open next. -/
def chooseFree (s : State) (g : Nat) (low : Bool) : Option Nat :=
  ((freeCandidates s g).foldl (fun best c => match best with
    | none => some c
    | some b => if candidateBefore s g low c b then some c else some b) none).map (·.1)

/-! The map and its journal. -/

/-- The effect of a record on the map (07 Table MT-5). -/
def applyRecord (m : AMap Nat) (kind a b c : Nat) : AMap Nat :=
  if kind = 1 then AMap.set m a b
  else if kind = 2 then (if AMap.get? m a = some c then AMap.set m a b else m)
  else if kind = 3 then AMap.del m a
  else m

/-- The segment whose copy is written next (07 R178): in a checkpoint of every segment (10 R232) the lowest not yet written; otherwise the one with the
chunk of the lowest FRONTIER among those changed since their newest copy, ties to the lowest chunk. Where none has changed and set or stripe records stand
above the snapshot, a round of segment 0 takes a new one (DESIGN CHOICE, log 47). -/
def nextSegment (s : State) : Option Nat :=
  if s.media.ckptAll then (List.range (segCount s.variant)).find? fun x => !s.media.ckptDone.contains x
  else if (changedChunks s).isEmpty then (if lowestFrontier s < s.media.jnext then some 0 else none)
  else ((changedChunks s).foldl (fun best c =>
    let f := chunkFrontier s c
    match best with
    | none => some (c, f)
    | some (b, fb) => if f < fb ∨ (f = fb ∧ c < b) then some (c, f) else some (b, fb)) none).map fun b => b.1 / 15360

/-- Chunks of a segment (07 R178): 15,360, the last segment's 8192 or 4096. -/
def chunksOf (v : Variant) (seg : Nat) : Nat := if seg + 1 < segCount v then 15360 else match v with
  | .p128 => 8192
  | .p064 => 4096

/-- Lighters of a segment's copy: 60 chunks each (07 R178, 06 R154). -/
def segLighters (v : Variant) (seg : Nat) : Nat := (chunksOf v seg + 59) / 60

/-- Form the next P0 lighter of the segment being copied (07 R170, R178, 06 Table WH-3): one of its chunks, and after the last of them the catalogue page
for the log area. They are formed closed, one at a time, in the queue of the slice that is the segment's number mod 16 (DESIGN CHOICE, log 47). -/
def formCkpt (s : State) : State :=
  match s.media.ckpt.seg with
  | none => s
  | some seg =>
    let n := segLighters s.variant seg
    let sl := seg % 16
    let k := s.media.ckpt.stripe
    if n < k ∨ (s.wharf.lighters.any fun l => l.area != 0) ∨ s.wharf.queueReset.contains sl ∨ 4096 ≤ (s.wharf.lighters.filter (fun l => l.slice == sl)).length then s
    else
      let l : Lighter := { id := s.wharf.nextLighter, slice := sl, prio := 0, state := 1, openedAt := s.now, closedAt := s.now, area := if k < n then 1 else 2
                           metaPages := if k < n then min 60 (chunksOf s.variant seg - 60 * k) else 1 }
      { s with wharf := { s.wharf with lighters := s.wharf.lighters ++ [l], nextLighter := s.wharf.nextLighter + 1 } }

/-- Begin the copy of the next segment where none is under way (07 R178). The checkpoint takes one segment at a time, and begins as soon as a chunk
has changed (DESIGN CHOICE, log 47). -/
def startCkpt (s : State) : State :=
  match s.media.ckpt.seg with
  | some _ => s
  | none => formCkpt { s with media := { s.media with ckpt := { s.media.ckpt with seg := nextSegment s, start := s.media.jnext, stripe := 0, ready := false, lost := false } } }

/-- The effect of a record on set and stripe state, which comes with its append (07 R174, Table MT-5). -/
def recordEffect (s : State) (kind a b : Nat) : State :=
  if kind = 4 then putStripe s a { getStripe s a with sealed := true, members := b }
  else if kind = 5 then putSet s a { getSet s a with state := b }
  else if kind = 7 then putStripe s a { getStripe s a with unprotected := true }
  else s

/-- Append a record at a free position of both rings and apply it in the same moment (07 R174, R175, 10 R232). -/
def appendNow (s : State) (kind a b c : Nat) : State :=
  let r : JRec := ⟨s.media.jnext, kind, a, b, c⟩
  let back := if (kind = 1 ∨ kind = 3) ∧ mapLost s a then a :: s.media.regained else s.media.regained
  let m := applyRecord s.media.map kind a b c
  startCkpt (recordEffect { s with media := { s.media with journal := r :: s.media.journal, journal2 := r :: s.media.journal2, jnext := s.media.jnext + 1, map := m, regained := back } } kind a b)

/-- Note the entry to a full journal ring (07 R179). -/
def noteJournalFull (s : State) : State :=
  if s.media.jfull then s
  else
    let s := { s with media := { s.media with jfull := true, jfullSince := s.now } }
    s.bumpR Obj.JOURNAL_FULL_WAITS

/-- Append a record, or let it wait for a free position behind those that wait already (07 R174, R179). -/
def appendRecord (s : State) (kind a b c : Nat) : State :=
  if journalRoom s then appendNow s kind a b c
  else noteJournalFull { s with media := { s.media with jwait := s.media.jwait ++ [(kind, a, b, c)] } }

/-- Append the waiting records, oldest first, while positions are free (07 R179). -/
def appendWaiting : List (Nat × Nat × Nat × Nat) → State → State
  | [], s => s
  | (kind, a, b, c) :: t, s =>
    if 1 ≤ journalFree s then appendWaiting t (appendNow { s with media := { s.media with jwait := t } } kind a b c) else s

/-- Change a set's state with its SET record: at the record's append, for which a full ring makes it wait (07 R174, R177, R179). -/
def setState (s : State) (k st : Nat) : State :=
  let r := getSet s k
  appendRecord (putSet s k r) 5 k st r.highest

/-- Log a full-ring episode at its end, with its wait in µs (07 Table MT-11). -/
def endJournalFull (s : State) : State :=
  if s.media.jfull ∧ journalRoom s then
    let w := usBetween s.media.jfullSince s.now
    record { s with media := { s.media with jfull := false } } Ev.JOURNAL_FULL U.root 0xFFFF [journalTail s, lowestFrontier s, w]
  else s

/-- The page read cache and the prefetch side buffers give up their copies of a page whose media contents change (01 R17, 05 R117). -/
def dropPageCopies (s : State) (pn : PageNo) : State :=
  { s with
    media := { s.media with pcache := (List.range 8).foldl (fun c i => AMap.del c (pn * 8 + i)) s.media.pcache }
    hc := { s.hc with pbuf := s.hc.pbuf.map fun e => (e.1, e.2.filter fun q => q.1 / 8 != pn) } }

/-- The pages of which the page read cache holds a sector. -/
def pcachePages (s : State) : List PageNo := (s.media.pcache.map fun p => p.1 / 8).eraseDups

/-- Put a sector into the page read cache, whose 80 GiB hold 20,971,520 pages (01 Table AX-2). Which page gives way to a new one where it is full the
spec does not state: a free value (log 104). -/
def pcachePut (s : State) (x : SectorNo) (ls : List StoredLine) : State :=
  let ps := pcachePages s
  let s := if ps.length < 20971520 ∨ ps.contains (pageOfSector x) then s
    else
      let (i, s) := s.draw ps.length
      { s with media := { s.media with pcache := s.media.pcache.filter fun p => p.1 / 8 != ps.getD i 0 } }
  { s with media := { s.media with pcache := AMap.set s.media.pcache x ls } }

/-! Retirement and substitution of blocks. -/

/-- The address of a set's member block in a RETIRE record: PLATE and PAGE zero. -/
def blockPpn (s : State) (g st n : Nat) : Nat := ppnOf g st (n / 32768) (blockOf s g st n) 0 0

/-- Whether a die has no spare block left (07 R167). -/
def lacksSpare (s : State) (g st n : Nat) : Bool :=
  let die := U.die (g + 1) (st + 1) (n / 32768 + 1)
  decide (656 + (AMap.getD s.media.donated die []).length ≤ sparesUsed s die)

/-- Whether a member's die or stack is dead (07 R187). -/
def memberDead (s : State) (g st n : Nat) : Bool :=
  s.media.deadStacks.contains (U.stack (g + 1) (st + 1)) || s.media.deadDies.contains (U.die (g + 1) (st + 1) (n / 32768 + 1))

/-- The spare block that a member's die gives next: of its 656, then of the blocks of sets retired whole; a dead die gives none (07 R167). -/
def nextSpare (s : State) (g st n : Nat) : Option Nat :=
  let die := U.die (g + 1) (st + 1) (n / 32768 + 1)
  let used := sparesUsed s die
  if memberDead s g st n ∨ lacksSpare s g st n then none
  else some (if used < 656 then 32112 + used else (AMap.getD s.media.donated die []).getD (used - 656) 0)

/-- Retire a member block (07 R192, 09 R223): RETIRE record, event, the set closed if open; the spare is substituted at the
set's next reset. -/
def retireBlock (s : State) (g st n reason : Nat) : State :=
  let k := setKey g n
  let r := getSet s k
  if bitOf r.retired st then s
  else
    let die := U.die (g + 1) (st + 1) (n / 32768 + 1)
    let block := blockPpn s g st n
    let spare := nextSpare s g st n
    let ppn := match spare with
      | some b => ppnOf g st (n / 32768) b 0 0
      | none => unmapped
    let s := if spare.isSome then { s with media := { s.media with spares := AMap.set s.media.spares die (sparesUsed s die + 1) } } else s
    let s := putSet s k { r with retired := setBit r.retired st true, spareFor := match spare with
      | some b => AMap.set r.spareFor st b
      | none => r.spareFor }
    let s := appendRecord s 6 block reason ppn
    let s := if setStateOf s k = 1 then setState s k 2 else s
    record s Ev.BLOCK_RETIRED die 0xFFFF [block, reason, ppn, sparesLeft s g]

/-- Erase count of a block that a die gives as a spare (09 R224): that of a block of a set retired whole, else none, and the resets of self-tests (18 R396). -/
def spareErase (s : State) (g st d b : Nat) : Nat :=
  AMap.getD (AMap.getD s.ag.dies (U.die (g + 1) (st + 1) (d + 1)) {}).tested b 0 +
    (match s.media.sets.find? fun p => p.1 / 2^20 == g && p.1 % 2^20 / 32768 == d && p.2.state == 6 && blockOf s g st (p.1 % 2^20) == b with
    | some p => p.2.memberErase st
    | none => 0)

/-- Substitute the spares of a set's retired members (07 R167). -/
def substituteSpares (s : State) (g n : Nat) : State :=
  let k := setKey g n
  (getSet s k).spareFor.foldl (fun s p =>
    let r := getSet s k
    putSet s k { r with
      retired := setBit r.retired p.1 false, spareFor := AMap.del r.spareFor p.1, blocks := AMap.set r.blocks p.1 p.2,
      own := AMap.set r.own p.1 (spareErase s g p.1 (n / 32768) p.2) }) s

/-- Whether a member that is not dead is retired with no spare to take its place (07 R167). -/
def cannotReplace (s : State) (g n : Nat) : Bool :=
  let r := getSet s (setKey g n)
  (List.range 16).any fun st => bitOf r.retired st && !memberDead s g st n && (AMap.get? r.spareFor st).isNone

/-- Retire a set whole: its other blocks become spare blocks of their own dies (07 R167). -/
def retireSet (s : State) (g n : Nat) : State :=
  let r := getSet s (setKey g n)
  let s := setState s (setKey g n) 6
  (List.range 16).foldl (fun s st =>
    if bitOf r.retired st then s
    else
      let die := U.die (g + 1) (st + 1) (n / 32768 + 1)
      { s with media := { s.media with donated := AMap.upd s.media.donated die [] (· ++ [blockOf s g st n]) } }) s

end Sys2Proof.Machine
end

