-- ==== Sys2Proof/Machine/Drain.lean ====
section
/-! DEFINITION. Drain (06 R154 to R158, 07 R170 to R177): forming lighters, taking one, encrypting and committing its pages,
releasing slots, sealing stripes, and the resets and copies that ride on the same queues. -/
namespace Sys2Proof.Machine
open Sys2Proof

/-! Forming lighters. -/

/-- Change the lighters. -/
def setLighters (s : State) (ls : List Lighter) : State := { s with wharf := { s.wharf with lighters := ls } }

/-- Change one lighter. -/
def updLighter (s : State) (id : Nat) (f : Lighter → Lighter) : State :=
  setLighters s (s.wharf.lighters.map fun l => if l.id = id then f l else l)

/-- A lighter by its number. -/
def findLighter (s : State) (id : Nat) : Option Lighter := s.wharf.lighters.find? (fun l => l.id == id)

/-- Whether a page has a descriptor in a lighter not yet finished (07 R176). -/
def pageInLighter (s : State) (pn : PageNo) : Bool :=
  s.wharf.lighters.any fun l => l.pages.any fun d => d.pn == pn && !d.cancelled

/-- The descriptor of a staged page as it is added to a lighter (06 Table WH-5): LINES, MERGE, STALE and POISON of what is staged at that moment.
Lines staged later wait for a later lighter (07 R176). -/
def hostDesc (s : State) (pn : PageNo) : PageDesc :=
  let es := s.wharf.entries.filter fun p => pageOfLine p.1 == pn && !p.2.hidden
  let ms := s.wharf.markers.filter fun p => pageOfSector p.1 == pn && !p.2.hidden
  { pn := pn, lines := es.foldl (fun a p => setBit a (p.1 % 64) true) 0, markSeqs := ms.map (fun p => (p.1, p.2.seq)), stale := !ms.isEmpty,
    merge := !decide ((es.filter (fun p => p.2.mask = fullMask)).length = 64), poison := es.any fun p => p.2.poison }

/-- Whether a page has a live entry that drain may take: marked entries are held out of drain (06 R164). -/
def pageDrainable (s : State) (pn : PageNo) : Bool :=
  pageStaged s pn && !(s.wharf.entries.any fun p => pageOfLine p.1 == pn && p.2.marked)

/-- Lighters of a slice's queue: 4096 slots at most (06 R154). -/
def queueLength (s : State) (sl : Nat) : Nat := (s.wharf.lighters.filter (fun l => l.slice == sl)).length

/-- The stage of a lighter with its LENGTH written (06 R154, Table WH-4). -/
def Lighter.close (l : Lighter) (now : Nat) (timed : Bool) : Lighter :=
  { l with state := 1, closedAt := now, timed := timed }

/-- Add a descriptor to the open lighter of a slice's priority, opening one where there is none (06 R154): it closes when
it holds 60 pages. With all 4096 slots in use nothing opens, and the page waits. -/
def addDesc (s : State) (sl prio : Nat) (replay : Bool) (d : PageDesc) : State :=
  match s.wharf.lighters.find? (fun l => l.slice == sl && l.prio == prio && l.state == 0) with
  | some l =>
    let f (l : Lighter) : Lighter :=
      let l := { l with pages := l.pages ++ [d], replay := l.replay || replay }
      if 60 ≤ l.pages.length then l.close s.now false else l
    updLighter s l.id f
  | none =>
    if 4096 ≤ queueLength s sl then s
    else
      let l : Lighter := { id := s.wharf.nextLighter, slice := sl, prio := prio, pages := [d], replay := replay, openedAt := s.now }
      { s with wharf := { s.wharf with lighters := s.wharf.lighters ++ [l], nextLighter := s.wharf.nextLighter + 1 } }

/-- Whether a page's staged bytes come from a replay of the flush area (06 Table WH-4, REPLAY). -/
def pageReplay (s : State) (pn : PageNo) : Bool :=
  (s.wharf.entries.any fun p => pageOfLine p.1 == pn && p.2.replay) || s.wharf.markers.any fun p => pageOfSector p.1 == pn && p.2.replay

/-- Put a staged page into the slice's host-drain lighter, where it is in none and is not pinned (06 R157, 07 R176). -/
def enqueuePage (s : State) (pn : PageNo) : State :=
  if pageInLighter s pn ∨ s.wharf.pinned.contains pn ∨ ¬ pageDrainable s pn ∨ s.wharf.queueReset.contains (sliceOf pn) ∨
      s.mc.discarding.contains pn then s
  else addDesc s (sliceOf pn) 2 (pageReplay s pn) (hostDesc s pn)

/-- The staging order of a page's oldest live entry (06 Table WH-3). Of a merged entry, whose age the spec does not give, it is that of the oldest
write merged into it (DESIGN CHOICE, log 108). -/
def pageAge (s : State) (pn : PageNo) : Nat :=
  let a := (s.wharf.entries.filter (fun p => pageOfLine p.1 == pn)).map (fun p => p.2.first)
  let b := (s.wharf.markers.filter (fun p => pageOfSector p.1 == pn)).map (fun p => p.2.seq)
  (a ++ b).foldl min s.wharf.nextSeq

/-- Insert a page by age. -/
def insertByAge (s : State) (pn : PageNo) : List PageNo → List PageNo
  | [] => [pn]
  | x :: t => if pn = x then x :: t else if pageAge s pn < pageAge s x then pn :: x :: t else x :: insertByAge s pn t

/-- The staged pages of a slice, oldest first. -/
def stagedPages (s : State) (sl : Nat) : List PageNo :=
  let ps := (s.wharf.entries.map (fun p => pageOfLine p.1)) ++ (s.wharf.markers.map (fun p => pageOfSector p.1))
  (ps.filter (fun pn => sliceOf pn == sl)).foldl (fun acc pn => insertByAge s pn acc) []

/-- Put every staged page of a slice that is in no lighter into one. -/
def refill (s : State) (sl : Nat) : State := (stagedPages s sl).foldl enqueuePage s

/-- Stage a write and let its page join the host drain. -/
def stageWrite (s : State) (line : LineNo) (data : LineData) (mask : ByteMask) (poison : Bool) : State :=
  enqueuePage (stage s line data mask poison) (pageOfLine line)

/-- Stage a stale marker and let its page join the host drain. -/
def stageMark (s : State) (sector : SectorNo) (mask : Nat) : State :=
  enqueuePage (stageMarker s sector mask) (pageOfSector sector)

/-! The layout of the drain queue. -/

/-- The header of a lighter (06 Table WH-4): LENGTH 0 while it is open. -/
def Lighter.header (l : Lighter) : List Byte :=
  leBytes 4 (if l.state = 0 then 0 else l.pages.length + l.metaPages) ++ leBytes 1 l.prio
    ++ leBytes 1 (b2n l.degraded + 2 * b2n l.replay + 4 * b2n l.pinned + 8 * b2n l.timed) ++ leBytes 1 l.group ++ [0]
    ++ leBytes 8 l.stripe ++ leBytes 8 l.openedAt ++ leBytes 8 (if l.state = 0 then 0 else l.closedAt) ++ List.replicate 32 0

/-- A page descriptor (06 Table WH-5). -/
def PageDesc.bytes (d : PageDesc) : List Byte :=
  leBytes 4 (d.pn / 16 % 2^31) ++ leBytes 8 d.lines ++ leBytes 1 d.place
    ++ leBytes 1 (b2n d.merge + 2 * b2n d.stale + 4 * b2n d.poison + 8 * b2n d.srcPpn.isSome) ++ [0, 0]

/-- A lighter slot's header and descriptors (06 R155). -/
def Lighter.bytes (l : Lighter) : List Byte := l.header ++ (l.pages.map PageDesc.bytes).flatten

/-! Pinning. -/

/-- Pin a page (06 R157): its descriptor leaves its lighter and PAGE_PINNED is logged when it is first pinned. -/
def pinPage (s : State) (g : Nat) (pn : PageNo) : State :=
  let s := setLighters s (s.wharf.lighters.map fun l =>
    { l with pages := l.pages.map fun d => if d.pn = pn ∧ d.srcPpn.isNone then { d with cancelled := true } else d })
  if s.wharf.pinned.contains pn then s
  else
    let first := !s.wharf.everPinned.contains pn
    let s := { s with wharf := { s.wharf with
      pinned := s.wharf.pinned ++ [pn], everPinned := if first then pn :: s.wharf.everPinned else s.wharf.everPinned } }
    let s := s.setR Obj.HELD_PAGES s.wharf.pinned.length
    if first then
      let st := ((List.range 16).find? (stackGone s g)).getD 0
      record (s.bumpR Obj.PINNED_PAGES_TOTAL) Ev.PAGE_PINNED (U.group (g + 1)) (sliceOf pn)
        [pn * 4096, g + 1, st + 1, s.wharf.pinned.length]
    else s

/-- A page is no longer pinned. -/
def unpin (s : State) (pn : PageNo) : State :=
  let s := { s with wharf := { s.wharf with
    pinned := s.wharf.pinned.filter (· != pn), everPinned := s.wharf.everPinned.filter (· != pn) } }
  s.setR Obj.HELD_PAGES s.wharf.pinned.length

/-! The contents programmed. -/

/-- The mark of a line as the page is encrypted (10 R235): of the base, then the staged entry, then a stale marker, which a write that came after it
and makes the line whole has cleared (04 R108). -/
def drainMark (base : Nat) (marker : Bool) (entry : Option WEntry) (staleRead : Nat) : Nat :=
  let m := match entry with
    | none => base
    | some e =>
      if e.poison then 1
      else if e.mask = fullMask then 0
      else if staleRead = 1 then (if base = 2 then 0 else if base = 3 then 1 else base)
      else base
  if marker then (if m = 1 ∨ m = 3 then 3 else 2) else m

/-- The lines of a page as drain programs them: the staged bytes read in step 1 over the base (06 R157). Lines all zero without a mark are not listed. -/
def drainLines (s : State) (d : PageDesc) : AMap StoredLine :=
  let sr := (getRegion s (regionOfPage s d.pn)).staleRead
  (List.range 64).foldl (fun (m : AMap StoredLine) i =>
    let line := d.pn * 64 + i
    let base : StoredLine := match d.base.find? (fun p => p.1 == i) with
      | some p => p.2
      | none => {}
    let e := AMap.get? d.ents line
    let mk := bitOf (AMap.getD d.marks (sectorOfLine line) 0) (line % 8)
    let data := match e with
      | some e => overlay base.data e.data e.mask
      | none => base.data
    let l : StoredLine := { data := data, mark := drainMark base.mark mk e sr }
    if l = ({} : StoredLine) then m else AMap.set m i l) []

/-- Advance WSEQ for a page encrypted (10 R237): the reserved limit is raised before it is reached, and the end of the
sequence stops encryption. -/
def nextWseq (s : State) : Nat × State :=
  let w := s.dp.wseq
  let limit := if s.dp.wseqLimit ≤ w + 1 then s.dp.wseqLimit + 2^32 else s.dp.wseqLimit
  let raised := decide (limit ≠ s.dp.wseqLimit)
  let s := { s with dp := { s.dp with wseq := w + 1, wseqLimit := limit } }
  let s := if raised then syncRecs s [6, 11] else s
  if 2^64 - 2^33 ≤ w + 1 ∧ ¬ s.dp.wseqEnded then
    (w, record { s with dp := { s.dp with wseqEnded := true } } Ev.WSEQ_END U.root 0xFFFF [w + 1])
  else (w, s)

/-! The planes of a die (08 R199, R200). -/

/-- The plane of a set's block on a stack: the low two bits of its BLOCK (07 R166). -/
def planeOf (s : State) (g st n : Nat) : Nat := blockOf s g st n % 4

/-- The key of a plane's suspension record. -/
def planeKey (g st d pl : Nat) : Nat := U.die (g + 1) (st + 1) (d + 1) * 4 + pl

/-- A program as a plane's queue names it, by its stripe: a stripe has one plate on a stack. -/
def programTok (k : Nat) : Nat := 2 * k

/-- A block's reset as a plane's queue names it, by its set. -/
def resetTok (k : Nat) : Nat := 2 * k + 1

/-- The programs and resets of a plane that have been issued and have not ended, in the order of issue (08 R199). -/
def planeQueue (s : State) (k : Nat) : List Nat := AMap.getD s.ml.queues k []

/-- The operation running on a plane (08 R199): 1 a program, 2 a reset, 0 none. -/
def planeOp (s : State) (g st d pl : Nat) : Nat :=
  match planeQueue s (planeKey g st d pl) with
  | [] => 0
  | t :: _ => 1 + t % 2

/-- The plane on which a stack holds its member of a read's stripe. -/
def MediaRead.planeOn (s : State) (r : MediaRead) (st : Nat) : Nat :=
  planeKey (ppnGroup r.ppn) st (ppnDie r.ppn) (planeOf s (ppnGroup r.ppn) st (ppnSet r.ppn))

/-- The suspension record of a plane. -/
def planeRec (s : State) (k : Nat) : PlaneOp := AMap.getD s.ml.ops k { kind := 0 }

/-- Whether the operation of the plane that holds a set's block is parked, so that it cannot end. -/
def parked (s : State) (g st n : Nat) : Bool := (planeRec s (planeKey g st (n / 32768) (planeOf s g st n))).suspended

/-- Suspend the operation of the plane that holds a set's block, where one runs (08 R200). -/
def suspendOp (s : State) (g st n : Nat) : State :=
  let d := n / 32768
  let op := planeOp s g st d (planeOf s g st n)
  let k := planeKey g st d (planeOf s g st n)
  if op = 0 ∨ (planeRec s k).suspended then s
  else
    let u := U.stack (g + 1) (st + 1)
    let s := pcCount (s.bump u Obj.SUSPENDS) 0x13 u none 1
    { s with ml := { s.ml with ops := AMap.set s.ml.ops k { planeRec s k with kind := op, suspended := true } } }

/-- Whether a read needs a plane: its own as a demand read, or that of a member it still waits for (08 R200). -/
def needsPlane (s : State) (r : MediaRead) (k : Nat) : Bool :=
  (r.stage == 1 && r.why == .demand && k == r.planeOn s (ppnStack r.ppn)) || r.members.any fun st => k == r.planeOn s st

/-- Suspended operations resume once their planes hold no demand read or member read (08 R200). An operation that is not overdue then
needs no record. -/
def resumeOps (s : State) : State :=
  let keep := s.ml.ops.filterMap fun p =>
    if s.ml.reads.any fun r => needsPlane s r p.1 then some p
    else if p.2.overdue then some (p.1, { p.2 with suspended := false })
    else none
  { s with ml := { s.ml with ops := keep } }

/-- The plane that holds a set's block on a stack. -/
def blockPlane (s : State) (g st n : Nat) : Nat := planeKey g st (n / 32768) (planeOf s g st n)

/-- An operation reaches the front of its plane's queue: behind the demand and member reads that wait there it starts later, which is no suspension (08
R199). Else it needs no record. -/
def beginOp (s : State) (k : Nat) : State :=
  match planeQueue s k with
  | t :: _ =>
    if s.ml.reads.any fun r => needsPlane s r k then { s with ml := { s.ml with ops := AMap.set s.ml.ops k { kind := 1 + t % 2, suspended := true } } }
    else { s with ml := { s.ml with ops := AMap.del s.ml.ops k } }
  | [] => { s with ml := { s.ml with ops := AMap.del s.ml.ops k } }

/-- A program or reset is sent to the plane that holds a set's block, behind those issued before it (08 R199). -/
def startOp (s : State) (g st n tok : Nat) : State :=
  let k := blockPlane s g st n
  let q := planeQueue s k
  let s := { s with ml := { s.ml with queues := AMap.set s.ml.queues k (q ++ [tok]) } }
  if q.isEmpty then beginOp s k else s

/-- Whether a plane's queue holds an operation. -/
def opIssued (s : State) (g st n tok : Nat) : Bool := (planeQueue s (blockPlane s g st n)).contains tok

/-- Whether an operation can end now: it is not parked, and no program stands ahead of it. A reset ahead of it on the plane has ended there, though its set's
other members may still be resetting (DESIGN CHOICE, log 126). -/
def opRuns (s : State) (g st n tok : Nat) : Bool :=
  let k := blockPlane s g st n
  opIssued s g st n tok && !(planeRec s k).suspended && ((planeQueue s k).takeWhile (· != tok)).all fun t => t % 2 == 1

/-- An operation on a plane has ended, and the resets ahead of it with it: its suspension record goes (08 R202). -/
def endOp (s : State) (g st n tok : Nat) : State :=
  if ¬ opIssued s g st n tok then s
  else
    let k := blockPlane s g st n
    let q := planeQueue s k
    let ahead := (q.takeWhile (· != tok)).filter fun t => t % 2 == 0
    let rest := ahead ++ (q.dropWhile (· != tok)).drop 1
    let s := { s with ml := { s.ml with queues := if rest.isEmpty then AMap.del s.ml.queues k else AMap.set s.ml.queues k rest } }
    if rest.head? = q.head? then s else beginOp s k

/-! The offsets of a sense (08 R207, R208, 09 R213). -/

/-- A plan's read offsets of a die in a bin, references A, B, C. -/
def binOffsets (p : Plan) (die b : Nat) : List Int := (List.range 3).map fun r => planOffset p die (3 * b + r)

/-- The offsets of the senses of a rung (08 Table ML-6): the bin's; the next higher bin's and then the next lower's; the bin's and one soft step each side. -/
def senseRefs (p : Plan) (die b rung : Nat) : List Int :=
  let o := binOffsets p die b
  let by_ (k : Int) : List Int := o.map (· + k * (planDie p die).softStep)
  if rung = 0 then o
  else if rung = 1 then (if b < 8 then binOffsets p die (b + 1) else []) ++ (if 0 < b then binOffsets p die (b - 1) else [])
  else o ++ by_ (-1) ++ by_ 1

/-- The offsets of a proof sample's 15 senses (09 R213). -/
def proofRefs (p : Plan) (die b : Nat) : List Int :=
  ((List.range 15).map fun (i : Nat) => (binOffsets p die b).map (· + ((i : Int) - 7) * (planDie p die).probeStep)).flatten

/-- The drift bin of a stripe's plates on a stack (08 R206, R207). -/
def binOn (s : State) (r : MediaRead) (st : Nat) : Nat :=
  driftBin (eqAge s (U.die (ppnGroup r.ppn + 1) (st + 1) (ppnDie r.ppn + 1)) (getStripe s (ppnStripeKey r.ppn)).programmedAt)

/-- The offsets with which a stack's member of a read's stripe is sensed, by the plan in force now (08, corner cases). -/
def refsOn (s : State) (r : MediaRead) (st rung : Nat) : List Int :=
  senseRefs s.ag.active (dieIndex (ppnGroup r.ppn) st (ppnDie r.ppn)) (binOn s r st) rung

/-! Sets in reclaim, re-engraving and rebuild. -/

/-- Add a copy of a mapped page to its slice's queue (07 R184): one descriptor a page at a time (R176). -/
def enqueueCopy (s : State) (prio why : Nat) (rekey : Bool) (pn ppn : Nat) : State :=
  if pageInLighter s pn then s
  else addDesc s (sliceOf pn) prio false { pn := pn, lines := 2^64 - 1, srcPpn := some ppn, why := why, rekey := rekey }

/-- Whether a set is being filled by an executing lighter (07 R171). -/
def setExecuting (s : State) (k : Nat) : Bool :=
  s.wharf.lighters.any fun l => l.state == 2 && setKey (l.group - 1) (l.stripe / 256) == k

/-- Whether an executing copy still reads from a set (07 R177). -/
def setBeingRead (s : State) (k : Nat) : Bool :=
  s.wharf.lighters.any fun l => l.state == 2 && l.pages.any fun d =>
    !d.committed && !d.cancelled && (match d.srcPpn with | some p => ppnSetKey p == k | none => false)

/-- The block resets that a set's reset starts, one on each live member, are counted (17 Table PC-1) and sent to their planes (08 R199). -/
def startResets (s : State) (k : Nat) : State :=
  let g := k / 2^20
  let n := k % 2^20
  (liveMembers s g n).foldl (fun s st => startOp (pcCount s 0x16 (U.die (g + 1) (st + 1) (n / 32768 + 1)) none 1) g st n (resetTok k)) s

/-- Count block resets on a die (09 Table AG-1), `e` being the highest count that they leave: ERASE_MEAN over the die's 32,768 blocks, and ERASE_MAX. -/
def noteErases (s : State) (die k e : Nat) : State :=
  let s := { s with ag := { s.ag with dies := AMap.upd s.ag.dies die {} fun d => { d with eraseSum := d.eraseSum + k } } }
  (s.setObj die Obj.ERASE_MEAN ((AMap.getD s.ag.dies die {}).eraseSum / 32768)).raiseTo die Obj.ERASE_MAX e

/-- A set whose reset has ended (07 R177, 09 R224): one reset more on every member that was reset; a member that is gone or retired keeps its count. -/
def SetRec.wasReset (r : SetRec) (live : List Nat) : SetRec :=
  let same := (List.range 16).all fun st => live.contains st || (AMap.get? r.own st).isSome
  let keep : AMap Nat := if same then r.own else ((List.range 16).filter fun st => !live.contains st).foldl (fun m st => AMap.set m st (r.memberErase st)) r.own
  { state := 4, erase := r.erase + 1, retired := r.retired, blocks := r.blocks, spareFor := r.spareFor
    own := keep.map fun p => (p.1, if live.contains p.1 then p.2 + 1 else p.2) }

/-- Count the reset of a set's live members on their dies. -/
def noteSetErase (s : State) (g n : Nat) : State :=
  (liveMembers s g n).foldl (fun s st => noteErases s (U.die (g + 1) (st + 1) (n / 32768 + 1)) 1 ((getSet s (setKey g n)).memberErase st)) s

/-- The members of a set that its reset does not reset again (09 R223, R224): blocks of a dead die or stack, and those whose count has reached the
limit, are retired, and spares are substituted for them and for the members retired before (07 R192). -/
def retireWorn (s : State) (g n : Nat) : State :=
  let s := (List.range 16).foldl (fun s st =>
    if memberDead s g st n then retireBlock s g st n 5
    else if s.robj Obj.ENDURANCE_LIMIT ≤ (getSet s (setKey g n)).memberErase st then retireBlock s g st n 4
    else s) s
  substituteSpares s g n

/-- Replay a record of the tail on the sets and stripes (07 R180, Table MT-5). A set that a SET record makes FREE has been reset. -/
def replayRecord (s : State) (r : JRec) : State :=
  let g := r.a / 2^20
  let n := r.a % 2^20
  match r.kind with
  | 4 => putStripe s r.a { getStripe s r.a with sealed := true, members := r.b, parity := r.c, programmedAt := s.media.ckpt.snap.at_ }
  | 5 =>
    let s := if r.b = 4 then substituteSpares s g n else s
    let x := getSet s r.a
    if r.b = 0 then putSet s r.a { x.wasReset (liveMembers s g n) with state := 0 } else putSet s r.a { x with state := r.b }
  | 6 =>
    let g := ppnGroup r.a
    let st := ppnStack r.a
    let n := setOfBlock s g st (ppnDie r.a) (ppnBlock r.a)
    let x := getSet s (setKey g n)
    let s := putSet s (setKey g n) { x with retired := setBit x.retired st true, spareFor := if r.c = unmapped then x.spareFor else AMap.set x.spareFor st (ppnBlock r.c) }
    if x.state = 4 then substituteSpares s g n else s
  | 7 => putStripe s r.a { getStripe s r.a with unprotected := true }
  | _ => s

/-- The sets and stripes as the latest snapshot and the records above it give them (07 R180): their states, erase counts, retired and substituted blocks,
and of a stripe its SEAL and whether it is left without parity. What no record carries (a set's slice, kind and next stripe, a stripe's plates) stands as
the blocks themselves show it (DEDUCED, log 34). The clocks' snapshots come back with it (08 R205), and a stripe sealed above it has its operating second as
STRIPE_TIME (08 R206). -/
def loadSets (s : State) : State :=
  let snap := s.media.ckpt.snap
  let set (p : Nat × SetRec) : Nat × SetRec :=
    let o := (AMap.get? snap.sets p.1).getD (freshSet s p.1)
    (p.1, { p.2 with state := o.state, erase := o.erase, retired := o.retired, blocks := o.blocks, own := o.own, spareFor := o.spareFor })
  let stripe (p : Nat × StripeRec) : Nat × StripeRec :=
    let o := AMap.getD snap.stripes p.1 {}
    (p.1, { p.2 with sealed := o.sealed, members := o.members, unprotected := o.unprotected })
  let recs := (s.media.journal.filter fun r => !r.ofMap && decide (snap.jpos ≤ r.jpos)).reverse
  recs.foldl replayRecord { s with
    media := { s.media with sets := s.media.sets.map set, stripes := s.media.stripes.map stripe }
    ml := { s.ml with minutes := snap.minutes, hours := snap.hours } }

/-- Issue the reset of a victim set that holds no valid page and that no executing copy reads or lighter fills (07 R177): its SET record
comes first, for which the ring must still have room behind the RETIRE records of its worn members. A set with a member that cannot be replaced is retired whole (R167). In LOADING none is issued, since the records of a set's pages need
not be durable before the checkpoint that follows (DEDUCED, log 31). -/
def resetIfEmpty (s : State) (k : Nat) : State :=
  let r := getSet s k
  if r.state = 3 ∧ validPages s k = 0 ∧ ¬ setBeingRead s k ∧ ¬ setExecuting s k ∧ s.phase ≠ .loading ∧ journalRoom s then
    let s := retireWorn s (k / 2^20) (k % 2^20)
    if ¬ journalRoom s then s
    else if cannotReplace s (k / 2^20) (k % 2^20) then retireSet s (k / 2^20) (k % 2^20) else startResets (setState s k 4) k
  else s

/-- Make a set a victim (07 R182, R188): its valid pages are queued for copying; an empty one is reset without copying. -/
def makeVictim (s : State) (k why prio : Nat) : State :=
  let r := getSet s k
  let s := setState (putSet s k { r with why := why }) k 3
  let s := (pagesOfSet s k).foldl (fun s p => enqueueCopy s prio why false p.1 p.2) s
  resetIfEmpty s k

/-- A set that has closed and is due already is re-engraved at once (08 R210). -/
def engraveIfDue (s : State) (k : Nat) : State :=
  if setStateOf s k = 2 ∧ (getSet s k).due ≠ 0 then makeVictim s k 2 3 else s

/-- A filled set closes (07 R170). -/
def closeSet (s : State) (k : Nat) : State := engraveIfDue (setState s k 2) k

/-- Re-engrave the sets that were due and have been closed (08 R210), and issue the resets of the victim sets that have become empty (07 R177). -/
def settleVictims (s : State) : State :=
  let s := ((s.media.sets.filter fun p => p.2.state == 2 && p.2.due != 0).map (·.1)).foldl engraveIfDue s
  ((s.media.sets.filter fun p => p.2.state == 3).map (·.1)).foldl resetIfEmpty s

/-- Write a group's rebuild record and REBUILD_STATE. -/
def putRebuild (s : State) (g : Nat) (r : Rebuild) : State :=
  let s := if g = 0 then { s with media := { s.media with rebuild1 := r } } else { s with media := { s.media with rebuild2 := r } }
  s.setObj (U.group (g + 1)) Obj.REBUILD_STATE (if r.running then (if r.held then 2 else 1) else 0)

/-- End a rebuild whose last victim set is emptied (07 R188). -/
def endRebuild (s : State) (g : Nat) : State :=
  let r := getRebuild s g
  if r.running ∧ rebuildLeft s g = 0 then
    record (putRebuild s g { r with running := false, held := false }) Ev.REBUILD_DONE (U.group (g + 1)) 0xFFFF
      [g + 1, r.pages, s.hm.opsec - r.since]
  else s

/-- A rebuild waits because its group has no spare left (07 R190). -/
def holdRebuild (s : State) (g : Nat) : State :=
  let r := getRebuild s g
  if r.running ∧ ¬ r.held then
    record (putRebuild s g { r with held := true }) Ev.REBUILD_HELD (U.group (g + 1)) 0xFFFF
      [g + 1, setsFree s g, s.wharf.pinned.length]
  else s

/-- The rebuilds of groups that have no spare left wait (07 R190). -/
def holdRebuilds (s : State) : State := [0, 1].foldl (fun s g => if noSpare s g then holdRebuild s g else s) s

/-- Rebuilds that waited go on in groups that can open a stripe again (07 R190, 11 R260). -/
def resumeRebuilds (s : State) : State :=
  let go (s : State) (g : Nat) : State :=
    let r := getRebuild s g
    if r.running ∧ r.held ∧ ¬ noSpare s g then putRebuild s g { r with held := false } else s
  go (go s 0) 1

/-- The row of Table MT-8 by free sets, 1 to 6, each left only 0.25 % above its entry value (07 R182). -/
def reclaimRow (s : State) (g old : Nat) : Nat :=
  let pct := setsFreePct s g
  let low := s.robj Obj.REC_LOW_MARK
  let fg := s.robj Obj.REC_FG_MARK
  let entry (row : Nat) : Nat := match row with
    | 2 => low
    | 3 => fg
    | 4 => fg - 50
    | 5 => fg - 100
    | 6 => fg - 150
    | _ => 0
  let inRow (row : Nat) : Bool := decide (pct < entry row) || (decide (row ≤ old) && decide (pct < entry row + 25))
  if inRow 6 then 6 else if inRow 5 then 5 else if inRow 4 then 4 else if inRow 3 then 3 else if inRow 2 then 2 else 1

/-- Put the reclaim row of a group into force, with RECLAIM_FOREGROUND at each entry to a foreground step (07 R182). -/
def settleReclaim (s : State) (g : Nat) : State :=
  let old := if g = 0 then s.media.reclaimStep1 else s.media.reclaimStep2
  let new := reclaimRow s g old
  if new = old then s
  else
    let s := if g = 0 then { s with media := { s.media with reclaimStep1 := new } } else { s with media := { s.media with reclaimStep2 := new } }
    let s := { s with media := { s.media with shares := AMap.del s.media.shares g } }
    if 3 ≤ new ∧ old < new then
      record s Ev.RECLAIM_FOREGROUND (U.group (g + 1)) 0xFFFF [g + 1, setsFreePct s g, new - 2]
    else s

/-- The reclaim row of a group in force. -/
def reclaimStep (s : State) (g : Nat) : Nat := if g = 0 then s.media.reclaimStep1 else s.media.reclaimStep2

/-! Taking a lighter. -/

/-- The group with more free sets, ties to group 1 (07 R171). -/
def drainGroup (s : State) : Nat :=
  if s.variant = .p064 then 0 else if setsFree s 0 < setsFree s 1 then 1 else 0

/-- The kind of open set that a page goes to (07 R170). -/
def descPurpose (d : PageDesc) : Nat := if d.srcPpn.isNone then 0 else if d.why = 2 ∨ d.rekey then 2 else 1

/-- The kind of open set that a lighter fills: 0 host, 1 reclaim and rebuild copies, 2 re-engraving and rekey, 3 one of the checkpoint or log area (07
R170). -/
def lighterPurpose (l : Lighter) : Nat :=
  if l.area ≠ 0 then 3 else match l.pages.find? (fun d => !d.cancelled) with
  | some d => descPurpose d
  | none => 0

/-- The group whose free sets a lighter's row of Table MT-8 is read by, and in whose share it counts (07 R182): of copies that of the set they leave, of
host pages the one they drain to. -/
def lighterGroup (s : State) (l : Lighter) : Nat :=
  match l.pages.find? (fun d => !d.cancelled) with
  | some d => match d.srcPpn with
    | some p => ppnGroup p
    | none => drainGroup s
  | none => drainGroup s

/-- The stream of a page (07 R185): 1 hot, 2 cold. -/
def pageStream (s : State) (d : PageDesc) : Nat :=
  if d.srcPpn.isSome then 2
  else match s.robj (Obj.REGION_STREAM + regionOfPage s d.pn) with
    | 1 => 1
    | 2 => 2
    | _ => match mapGet s d.pn with
      | none => 1
      | some p => if s.hm.opsec < (getSet s (ppnSetKey p)).openedAt + s.robj Obj.STREAM_HOT_AGE then 1 else 2

/-- An open set for a lighter: one of the slice's, of its kind and stream, that no lighter is filling; else a set newly opened by R170, while fewer
than its allowance are open. A set keeps the placement under which it was opened, and one of native mode takes any page (07 R185). In stream mode each
stream has one set. The copy reserve is for copies (07 R182). A full ring, which takes no SET record, opens none (R179). -/
def findOpenSet (s : State) (sl g purpose stream : Nat) : Option Nat × State :=
  let mine := s.media.sets.filter fun p => p.1 / 2^20 == g && p.2.state == 1 && p.2.slice == sl && p.2.purpose == purpose
  let fits := mine.filter fun p => (p.2.stream == stream || p.2.stream == 0) && !setExecuting s p.1 && setStateOf s p.1 == 1 && decide (p.2.next ≤ 255) && decide (15 ≤ (liveMembers s g (p.1 % 2^20)).length)
  match fits with
  | p :: _ => (some (p.1 % 2^20), s)
  | [] =>
    let place := if purpose = 0 ∧ s.robj Obj.REC_MODE = 1 then stream else 0
    if (if purpose = 0 then 2 else 1) ≤ mine.length ∨ (place ≠ 0 ∧ mine.any fun p => p.2.stream == place) then (none, s)
    else if (purpose ≠ 1 ∧ freeSetsAll s g ≤ 256) ∨ ¬ journalRoom s then (none, s)
    else
      match chooseFree s g (decide (purpose = 0 ∧ place ≠ 2)) with
      | none => (none, s)
      | some n =>
        let k := setKey g n
        let r := getSet s k
        let s := putSet s k { r with slice := sl, purpose := purpose, stream := place, next := 0, openedAt := s.hm.opsec, firstDone := false, due := 0, forced := false, lateLogged := false, softAt := [] }
        let s := setState s k 1
        (some n, settleReclaim s g)

/-- Read the live entries of the lines in LINES into a descriptor (06 R157 step 1), and the markers that STALE tells of; PLACE is written (07
R171). -/
def captureDesc (s : State) (d : PageDesc) (place : Nat) : PageDesc :=
  if d.srcPpn.isSome then { d with place := place }
  else
    let es := s.wharf.entries.filter fun p => pageOfLine p.1 == d.pn && bitOf d.lines (p.1 % 64) && !p.2.hidden
    let ms := s.wharf.markers.filter fun p => d.markSeqs.any (fun q => q.1 == p.1) && !p.2.hidden
    { d with
      place := place, ents := es, seqs := es.map (fun p => (p.1, p.2.seq)), marks := ms.map (fun p => (p.1, p.2.mask)), markSeqs := ms.map (fun p => (p.1, p.2.seq)),
      baseReady := !d.merge }

/-- The sectors of a page read cache hold a page whole. -/
def cachedPage (s : State) (pn : PageNo) : Option (List (Nat × StoredLine)) :=
  let secs := (List.range 8).map fun i => AMap.get? s.media.pcache (pn * 8 + i)
  if secs.all Option.isSome then
    some ((List.range 64).map fun i => (i, ((secs.getD (i / 8) none).getD []).getD (i % 8) {}))
  else none

/-- Member reads of a reconstruction, on each member's stack (08 Table ML-7, R201). -/
def countMemberReads (s : State) (g : Nat) (members : List Nat) : State :=
  members.foldl (fun s i =>
    let u := U.stack (g + 1) (i + 1)
    let s := pcCount (s.bump u Obj.MEMBER_READS) 0x14 u none 1
    { s with ml := { s.ml with budget := AMap.upd s.ml.budget u [] fun ts => s.now :: ts.take 255 } }) s

/-- Count a demand read in its stack's window of 2^24 (08 R203). -/
def noteStackRead (s : State) (u : Nat) : State :=
  let w := AMap.getD s.ml.wins u {}
  let w := { w with reads := w.reads + 1 }
  let w : StackWin := if w.reads < 2^24 then w
    else
      let late := decide (s.robj Obj.FINE_ENTER < w.long)
      { w with reads := 0, long := 0, last := w.long, endedOver := late || w.endedOver, overAt := if late then s.hm.opsec else w.overAt }
  { s with ml := { s.ml with wins := AMap.set s.ml.wins u w } }

/-! Issuing a read. -/

/-- Change a read. -/
def putRead (s : State) (r : MediaRead) : State :=
  { s with ml := { s.ml with reads := s.ml.reads.map fun q => if q.id = r.id then r else q } }

/-- The members whose codewords reconstruct a read's sector: of MEMBERS once the stripe is sealed, of the verified plates before (08
R201, 07 R172). -/
def membersOf (s : State) (r : MediaRead) : List Nat :=
  let st := getStripe s (ppnStripeKey r.ppn)
  let mem := if st.sealed then st.members else st.verified
  (List.range 16).filter fun i => bitOf mem i && i != ppnStack r.ppn

/-- Send the member reads of a reconstruction: on a busy plane they always suspend (08 R201, R204). A degraded read repeats them at the neighbouring bins'
offsets (R208). -/
def sendMembers (s : State) (r : MediaRead) : State :=
  let g := ppnGroup r.ppn
  let ms := (membersOf s r).filter fun i => !memberGone s g i (ppnDie r.ppn)
  let s := putRead s { r with stage := 2, members := ms, refs := (ms.map fun i => refsOn s r i (b2n r.repeated)).flatten }
  let s := ms.foldl (fun s i => suspendOp s g i (ppnSet r.ppn)) s
  countMemberReads s g ms

/-- Serve a read whose plate lies on a member that is gone by the members (08 R204). -/
def readDegraded (s : State) (r : MediaRead) : State :=
  (sendMembers s { r with degraded := true }).bump (U.group (ppnGroup r.ppn + 1)) Obj.DEGRADED_READS

/-- Issue a read of a sector at the media (08 R199). It waits for the die unless its plate's member is gone, in which case
the members are read (R204). -/
def issueRead (s : State) (r : MediaRead) : State :=
  let g := ppnGroup r.ppn
  let bin := binOn s r (ppnStack r.ppn)
  let refs := if r.why = .proof then proofRefs s.ag.active (dieIndex g (ppnStack r.ppn) (ppnDie r.ppn)) bin else refsOn s r (ppnStack r.ppn) 0
  let late := s.ml.overloaded.contains g
  let accs := if late then r.accs.map fun a => { a with excl := if a.excl = 0 ∨ 7 < a.excl then 7 else a.excl } else r.accs
  let r : MediaRead := { r with id := s.ml.nextRead, bin := bin, refs := refs, stage := 1, page := AMap.get? s.media.store r.ppn, accs := accs }
  let s := { s with ml := { s.ml with reads := s.ml.reads ++ [r], nextRead := s.ml.nextRead + 1 } }
  let s := if r.why = .demand then
      noteStackRead (s.bump (ppnDiePath r.ppn) (Obj.BIN_READS + bin + 1)) (U.stack (g + 1) (ppnStack r.ppn + 1)) else s
  if memberGone s g (ppnStack r.ppn) (ppnDie r.ppn) then readDegraded s r else s

/-- Issue the eight sector reads of a page for a merge or a copy. -/
def issuePageReads (s : State) (why : ReadWhy) (lighter pn ppn : Nat) : State :=
  (List.range 8).foldl (fun s i => issueRead s { id := 0, why := why, lighter := lighter, pn := pn, sector := i, ppn := ppn }) s

/-- What a lighter does for one descriptor when it is taken: the merge base from the page read cache, zeros for an unmapped
page, or sector reads; for a copy, sector reads of its source (06 R157 step 2, 07 R184). -/
def startDesc (id : Nat) (acc : State × List PageDesc) (d : PageDesc) : State × List PageDesc :=
  let (s, out) := acc
  match d.srcPpn with
  | some p => (issuePageReads s .copy id d.pn p, out ++ [d])
  | none =>
    if !d.merge then (s, out ++ [d])
    else
      if mapLost s d.pn then (s, out ++ [{ d with base := (List.range 64).map fun i => (i, { mark := 1 }), baseReady := true }])
      else match mapGet s d.pn with
      | none => (s, out ++ [{ d with baseReady := true }])
      | some p => match cachedPage s d.pn with
        | some b => (s, out ++ [{ d with base := b, baseReady := true }])
        | none => (issuePageReads s .merge id d.pn p, out ++ [d])

/-- The data plates of a lighter and its pages per data plate. -/
def platePages (l : Lighter) (j : Nat) : List PageDesc := l.pages.filter fun d => d.place / 4 == j && !d.cancelled

/-- Whether every page of a data plate has what it needs to be programmed: with the write sequence at its end, none that would be encrypted (10 R237). -/
def plateReady (s : State) (l : Lighter) (j : Nat) : Bool :=
  (platePages l j).all fun d => d.baseReady && !(s.dp.wseqEnded && (d.srcPpn.isNone || d.rekey))

/-- Whether programs may start now: memory service runs in P0 to P2, its clocks run, and no integrity halt stops them (10 R243, 12 R289,
R296). In LOADING it runs from the end of the flush-area replay (DEDUCED, log 31): a start that finds both flush buffers HOLDING has to drain
and checkpoint what it replayed before one can become ERASED (11 R271, 01 R25). -/
def drainRuns (s : State) : Bool :=
  (s.phase == .running && decide (s.robj Obj.PSTATE_NOW < 3) && s.robj Obj.FROZEN == 0)
    || (s.phase == .loading && s.cs.replayDone && !s.pw.incomplete && !s.hm.latchHalted)

/-- The stored page that a descriptor programs: a copy carries its source unchanged (07 R184), apart from a rekey, which
encrypts again under the current key (10 R238); a host page is staged bytes over its base, encrypted under its domain. -/
def pageToStore (s : State) (d : PageDesc) : StoredPage × State :=
  match d.srcPpn with
  | some src =>
    match AMap.get? s.media.store src with
    | some p =>
      let lines := d.base.foldl (fun (m : AMap StoredLine) x => if x.2 = ({} : StoredLine) then AMap.del m x.1 else AMap.set m x.1 x.2) p.lines
      if d.rekey then
        let (w, s) := nextWseq s
        ({ p with keyId := ((AMap.getD s.dp.doms p.domain {}).cur).getD 0, wseq := w, lines := lines }, s)
      else ({ p with lines := lines }, s)
    | none => ({ pn := d.pn }, s)
  | none =>
    let lines := drainLines s d
    let dom := regionOfPage s d.pn
    let (w, s) := nextWseq s
    ({ pn := d.pn, domain := dom, keyId := ((AMap.getD s.dp.doms dom {}).cur).getD 0, wseq := w, lines := lines }, s)

/-- Start the programs of an executing lighter's data plates whose pages are ready (06 R157 step 4). -/
def startPrograms (s : State) (id : Nat) : State :=
  match findLighter s id with
  | none => s
  | some l =>
    if l.state ≠ 2 ∨ ¬ drainRuns s then s
    else
      let g := l.group - 1
      let n := l.stripe / 256
      let (_, data) := placement (getStripe s (stripeKey g l.stripe)).live n (l.stripe % 256)
      let go := (List.range 15).filter fun j => bitOf l.plates j && !bitOf l.programming j && plateReady s l j
      let s := go.foldl (fun s j => startOp (pcCount s 0x15 (U.die (g + 1) (data.getD j 0 + 1) (n / 32768 + 1)) none 1) g (data.getD j 0) n (programTok (stripeKey g l.stripe))) s
      let trims := go.foldl (fun m j => AMap.set m j (dieRec s g (data.getD j 0) (n / 32768)).trimMax) l.trims
      let encrypt (acc : State × List PageDesc) (d : PageDesc) : State × List PageDesc :=
        if go.contains (d.place / 4) ∧ ¬ d.cancelled then
          let (p, s) := pageToStore acc.1 d
          (s, acc.2 ++ [{ d with enc := some p }])
        else (acc.1, acc.2 ++ [d])
      let (s, pages) := l.pages.foldl encrypt (s, [])
      updLighter s id fun x => { x with pages := pages, trims := trims, programming := go.foldl (fun m j => setBit m j true) x.programming }

/-- Whether a page of a rotating domain that the rekey pass has scanned still stands under its previous key (10 R238). -/
def rekeyOwed (s : State) (pn ppn : Nat) : Bool :=
  match AMap.get? s.media.store ppn with
  | some p => match AMap.get? s.dp.doms p.domain with
    | some x => s.robj (Obj.KEY_STATE + p.domain) == 2 && decide (pn < x.pos) && decide (p.wseq < s.robj (Obj.KEY_START_SEQ + p.domain))
    | none => false
  | none => false

/-- The drain priority of a victim set's copies (07 R182, R188, 08 R209). -/
def victimPrio (s : State) (k : Nat) : Nat :=
  let r := getSet s k
  if r.why = 2 then (if r.due = 2 then 1 else 3) else if r.why = 1 ∧ reclaimStep s (k / 2^20) ≤ 2 then 4 else 1

/-- Whether the stripe that holds a page was left without parity, so that its pages are copied at P1 (07 Table MT-9). -/
def onUnprotected (s : State) (ppn : Nat) : Bool := (getStripe s (ppnStripeKey ppn)).unprotected

/-- The copies of reclaim, re-engraving, rebuild and rekey that stand in no lighter are issued again (06 R158): of each valid page of a
victim set or of a stripe left without parity (07 R193), and of each page the rekey pass has scanned and not rewritten. So is the checkpoint's lighter. -/
def reissueCopies (s : State) : State :=
  let s := (s.media.sets.filter fun p => p.2.state == 3).foldl (fun s p =>
    (pagesOfSet s p.1).foldl (fun s q => enqueueCopy s (victimPrio s p.1) p.2.why false q.1 q.2) s) s
  let s := (s.media.map.filter fun q => onUnprotected s q.2).foldl (fun s q => enqueueCopy s 1 1 false q.1 q.2) s
  formCkpt ((s.media.map.filter fun q => rekeyOwed s q.1 q.2).foldl (fun s q => enqueueCopy s 4 0 true q.1 q.2) s)

/-- The copy that a page still calls for, where a lighter that held it is finished (07 R176): its set is a victim, its stripe has no parity, or a rekey is owed. -/
def reissuePage (s : State) (pn : PageNo) : State :=
  match mapGet s pn with
  | none => s
  | some p =>
    let r := getSet s (ppnSetKey p)
    let s := if r.state = 3 then enqueueCopy s (victimPrio s (ppnSetKey p)) r.why false pn p else s
    let s := if onUnprotected s p then enqueueCopy s 1 1 false pn p else s
    if rekeyOwed s pn p then enqueueCopy s 4 0 true pn p else s

/-- Drop a lighter from the queue and form new ones from what is staged, from the copies that its pages or a full queue kept waiting, and for the checkpoint. -/
def freeLighter (s : State) (l : Lighter) : State :=
  let full := decide (4096 ≤ queueLength s l.slice)
  let s := formCkpt (refill (setLighters s (s.wharf.lighters.filter (fun x => x.id != l.id))) l.slice)
  settleVictims (if full then reissueCopies s else l.pages.foldl (fun s d => reissuePage s d.pn) s)

/-- Put a page back for a later lighter, its descriptor cancelled (07 R171). -/
def laterLighter (prio : Nat) (s : State) (d : PageDesc) : State :=
  match d.srcPpn with
  | some p => enqueueCopy s prio d.why d.rekey d.pn p
  | none => enqueuePage s d.pn

/-- Whether a set takes a page: of the set's kind, and of its stream where it has one (07 R170, R185). -/
def setTakes (s : State) (r : SetRec) (d : PageDesc) : Bool := descPurpose d == r.purpose && (r.stream == 0 || pageStream s d == r.stream)

/-- A lighter takes a stripe of a set (07 R171): GROUP, STRIPE and DEGRADED, `used` data plates from plate 0 on, the others pad. -/
def beginStripe (s : State) (l : Lighter) (g n p used : Nat) : State :=
  let L := liveMembers s g n
  let stripe := n * 256 + p
  let s := putStripe s (stripeKey g stripe) { live := L, parity := (placement L n p).1 }
  let s := s.bumpN (U.group (g + 1)) Obj.PAD_PLATES (L.length - 1 - used)
  updLighter s l.id fun x => { x with state := 2, group := g + 1, stripe := stripe, degraded := decide (L.length = 15), plates := 2 ^ used - 1 }

/-- Execute a lighter on a group and set (07 R171): stripe, places, cancelled descriptors beyond a degraded stripe's 56, pad plates, and the reads its
pages need. Pages that another kind of set or the other stream takes leave it for a later lighter in the same way (DESIGN CHOICE, log 111). -/
def executeLighter (s : State) (l : Lighter) (g n : Nat) : State :=
  let k := setKey g n
  let r := getSet s k
  let plates := (liveMembers s g n).length - 1
  let live := l.pages.filter (fun d => !d.cancelled)
  let fit := live.filter (setTakes s r)
  let kept := fit.take (4 * plates)
  let placed := (kept.zip (List.range kept.length)).map fun p => captureDesc s p.1 p.2
  let s := beginStripe (putSet s k { r with next := r.next + 1 }) l g n r.next ((kept.length + 3) / 4)
  let (s, ds) := placed.foldl (startDesc l.id) (s, [])
  let s := updLighter s l.id fun x => { x with pages := ds }
  let s := (fit.drop (4 * plates) ++ live.filter fun d => !setTakes s r d).foldl (laterLighter l.prio) s
  startPrograms s l.id

/-! Lighters of the checkpoint and log areas. -/

/-- The set of a segment's slot in an area, group index and set number (07 R178): area A on group 1 and B on group 2, both on group 1 of a KLR-P064.
The reserved sets are taken in the order of Table MT-3 (DESIGN CHOICE, log 12). -/
def ckptSet (v : Variant) (seg area : Nat) : Nat × Nat :=
  match v with
  | .p128 => (area - 1, 1094 + seg)
  | .p064 => (0, 2186 + 1093 * (area - 1) + seg)

/-- The area whose slot a segment's next copy takes: that of its older copy, A for the first (07 R178). -/
def slotArea (s : State) (seg : Nat) : Nat := match newestCopy s seg with
  | some c => 3 - c.area
  | none => 1

/-- The stripe that a lighter of the checkpoint or log area takes: group index, set and plate index (07 R170, R178). The log area's 64 sets are filled in
turn, on group 1 (DESIGN CHOICE, log 47). -/
def metaStripe (s : State) (l : Lighter) : Nat × Nat × Nat :=
  let c := s.media.ckpt
  let seg := c.seg.getD 0
  if l.area = 1 then
    let (g, n) := ckptSet s.variant seg (slotArea s seg)
    (g, n, c.stripe % 256)
  else (0, reservedSets s.variant - 64 + c.logStripe / 256 % 64, c.logStripe % 256)

/-- The slot of a segment's older copy is reset (07 R178 step 1): the copy is gone, and its blocks count one erasure more, those that have reached their
limit being replaced (09 R224). That it takes no time is the model's choice (DESIGN CHOICE, log 47). -/
def resetSlot (s : State) (seg : Nat) : State :=
  let (g, n) := ckptSet s.variant seg (slotArea s seg)
  let k := setKey g n
  let s := retireWorn s g n
  let live := liveMembers s g n
  let s := putSet s k { (getSet s k).wasReset live with state := 5, purpose := 3 }
  let s := live.foldl (fun s st => pcCount s 0x16 (U.die (g + 1) (st + 1) (n / 32768 + 1)) none 1) (noteSetErase (s.bump (U.group (g + 1)) Obj.SETS_RESET) g n)
  { s with media := { s.media with
    segs := AMap.upd s.media.segs seg [] (·.take 1), stripes := s.media.stripes.filter (fun p => p.1 / 256 != k), ckpt := { s.media.ckpt with ready := true } } }

/-- Execute a lighter of the checkpoint or log area (07 R170, R178). Of a segment whose slot is degraded, chunks beyond the 56 of a stripe are taken
with the others: where they go the spec does not state (DESIGN CHOICE, log 47). -/
def executeMeta (s : State) (l : Lighter) : State :=
  let s := if l.area = 1 ∧ ¬ s.media.ckpt.ready then resetSlot s (s.media.ckpt.seg.getD 0) else s
  let (g, n, p) := metaStripe s l
  startPrograms (beginStripe s l g n p (min ((liveMembers s g n).length - 1) ((l.metaPages + 3) / 4))) l.id

/-- The slot or catalogue stripe of a lighter is done (07 R178): the copy goes on to its next lighter. One of whose plates a program failed begins again,
the slot of a copy with its reset and the catalogue page in the next stripe (DESIGN CHOICE, log 47). -/
def advanceCkpt (s : State) (l : Lighter) : State :=
  let c := s.media.ckpt
  let c : Ckpt := if l.area = 1 then (if c.lost then { c with stripe := 0, ready := false, lost := false } else { c with stripe := c.stripe + 1 })
    else { c with stripe := if c.lost then c.stripe else c.stripe + 1, lost := false, logStripe := c.logStripe + 1 }
  if l.area = 0 then s else { s with media := { s.media with ckpt := c } }

/-- Whether no P0 to P3 lighter of a slice waits, and none has been taken for REC_IDLE_TIME (07 Table MT-8). -/
def sliceIdle (s : State) (sl : Nat) : Bool :=
  !(s.wharf.lighters.any fun l => l.slice == sl && decide (l.prio ≤ 3) && l.state == 1) &&
    decide (AMap.getD s.wharf.busyAt sl 0 + 400000 * s.robj Obj.REC_IDLE_TIME ≤ s.now)

/-- Whether a lighter holds copies of reclaim (07 R182). -/
def reclaimLighter (l : Lighter) : Bool := match l.pages.find? (fun d => !d.cancelled) with
  | some d => d.srcPpn.isSome && d.why == 1
  | none => false

/-- Whether a lighter holds copies of re-engraving (08 R209). -/
def engraveLighter (l : Lighter) : Bool := match l.pages.find? (fun d => !d.cancelled) with
  | some d => d.srcPpn.isSome && d.why == 2
  | none => false

/-- The share in percent of a group's lighter executions that the P1 lighters of foreground reclaim take, by row (07 Table MT-8). -/
def reclaimShare (row : Nat) : Nat := if row = 3 then 25 else if row = 4 then 50 else if row = 5 then 75 else 100

/-- Whether a foreground reclaim lighter, or a P1 lighter of an overdue set, waits for its pace (07 R182, 08 R209): taking it would give its kind more than
its share of the lighters that the group has executed since its row changed. An overdue set's share is 25 %. -/
def reclaimPaced (s : State) (l : Lighter) : Bool :=
  let g := lighterGroup s l
  let row := reclaimStep s g
  let n := AMap.getD s.media.shares g (0, 0, 0)
  l.prio == 1 && ((reclaimLighter l && decide (3 ≤ row) && decide (reclaimShare row * (n.1 + 1) < 100 * (n.2.1 + 1))) ||
    (engraveLighter l && decide (25 * (n.1 + 1) < 100 * (n.2.2 + 1))))

/-- Whether a lighter waits because no stripe can be opened for it (07 R187, R190): copies where their group or the one drained to has no spare left, and
metadata pages where two members of their set are gone. -/
def lighterHeld (s : State) (l : Lighter) : Bool :=
  if l.area ≠ 0 then
    let (g, n, _) := metaStripe s l
    decide ((liveMembers s g n).length < 15)
  else lighterPurpose l != 0 && (noSpare s (drainGroup s) || (lighterPurpose l == 1 && !reclaimLighter l && noSpare s (lighterGroup s l)))

/-- The oldest lighter of a slice's priority, where it is closed and a stripe can be opened for it (06 R156). At or above the low mark a background reclaim
lighter waits until the slice has been idle (07 Table MT-8). -/
def takeable (s : State) (sl p : Nat) : Option Lighter :=
  match (s.wharf.lighters.filter (fun l => l.slice == sl && l.prio == p && l.state != 2)).head? with
  | some l => if l.state = 1 ∧ ¬ lighterHeld s l ∧ ¬ (p = 4 ∧ reclaimLighter l ∧ reclaimStep s (lighterGroup s l) ≤ 1 ∧ ¬ sliceIdle s sl) then some l else none
  | none => none

/-- The lighter that a slice's engine takes next (06 R156): of the highest priority whose oldest lighter is closed. A foreground reclaim lighter, or
one of an overdue set, ahead of its pace lets a closed P2 lighter go first, where one waits (07 R182, 08 R209; DESIGN CHOICE, log 112). -/
def nextLighter (s : State) (sl : Nat) : Option Lighter :=
  match (List.range 5).filterMap (takeable s sl) with
  | [] => none
  | l :: t => match t with
    | [] => some l
    | m :: _ => if m.prio ≤ 2 ∧ reclaimPaced s l then some m else some l

/-- Count a lighter executed for a group (07 R182, 08 R209). -/
def countShare (s : State) (l : Lighter) : State :=
  { s with media := { s.media with shares := AMap.upd s.media.shares (lighterGroup s l) (0, 0, 0) fun n =>
    (n.1 + 1, n.2.1 + b2n (l.prio == 1 && reclaimLighter l), n.2.2 + b2n (l.prio == 1 && engraveLighter l)) } }

/-- A P0 to P3 lighter of a slice leaves the queue (07 Table MT-8). -/
def noteBusy (s : State) (l : Lighter) : State :=
  if l.prio ≤ 3 then { s with wharf := { s.wharf with busyAt := AMap.set s.wharf.busyAt l.slice s.now } } else s

/-- Take the oldest closed lighter of the highest waiting priority (06 R156, 07 R171). A group that can open no stripe pins
the host pages bound for it (06 R157), and its rebuild waits (07 R190); a full set of executing sets leaves it waiting. The open set is chosen for the
lighter's first page: for one with pages of both streams 07 R185 names none (DESIGN CHOICE, log 111). -/
def takeLighter (s : State) (sl : Nat) : State :=
  let s := holdRebuilds s
  match nextLighter s sl with
  | none => s
  | some l =>
    if l.area ≠ 0 then executeMeta (countShare (noteBusy s l) l) l
    else
    let live := l.pages.filter (fun d => !d.cancelled)
    let purpose := lighterPurpose l
    let g := drainGroup s
    if live.isEmpty then freeLighter (noteBusy s l) l
    else if s.dp.wseqEnded ∧ (purpose = 0 ∨ live.any fun d => d.rekey) then s
    else if noSpare s g then freeLighter (live.foldl (fun s d => pinPage s g d.pn) (noteBusy s l)) l
    else if purpose = 0 ∧ l.prio = 2 ∧ reclaimStep s g = 6 then s
    else
      let stream := match live with
        | d :: _ => pageStream s d
        | [] => 0
      match findOpenSet s sl g purpose stream with
      | (none, s) => s
      | (some n, s) => resumeRebuilds (executeLighter (countShare (noteBusy s l) l) l g n)

/-! Committing. -/

/-- Count a plate program, data or parity, for WRITE_AMP over the last 3600 s (07 Table MT-10). -/
def notePlate (s : State) (g : Nat) (host : Bool) : State :=
  { s with media := { s.media with plates := (s.hm.opsec, 2 * g + b2n host) :: s.media.plates.filter fun p => decide (s.hm.opsec < p.1 + 3600) } }

/-- Commit one page of a verified plate (07 R175): a copy whose source the map no longer names is abandoned; otherwise the
record is appended, the map changes, the old location becomes invalid and the wharf slots read are released. -/
def commitPage (g : Nat) (ppn : Nat) (s : State) (d : PageDesc) : State :=
  let old := mapGet s d.pn
  let U1 := U.group (g + 1)
  match d.srcPpn with
  | some src =>
    if old ≠ some src then s.bump U1 Obj.MOVES_ABANDONED
    else
      let p := d.enc.getD { pn := d.pn }
      let s := { s with media := { s.media with store := AMap.set s.media.store ppn p } }
      let s := appendRecord s 2 d.pn ppn src
      let s := if d.why = 2 ∨ d.rekey then s.bump U1 Obj.PAGES_REENGRAVED
        else if d.why = 3 then
          let g0 := ppnGroup src
          let r := getRebuild s g0
          (putRebuild s g0 { r with pages := r.pages + 1 }).bump (U.group (g0 + 1)) Obj.PAGES_REBUILT
        else s.bump U1 Obj.PAGES_MOVED
      let s := if d.rekey then
          match (AMap.get? s.dp.doms p.domain) with
          | some x => { s with dp := { s.dp with doms := AMap.set s.dp.doms p.domain { x with rewritten := x.rewritten + 1 } } }
          | none => s
        else s
      s
  | none =>
    let p := d.enc.getD { pn := d.pn }
    let s := { s with media := { s.media with store := AMap.set s.media.store ppn p } }
    let s := appendRecord s 1 d.pn ppn (old.getD unmapped)
    let s := d.seqs.foldl (fun s x => releaseEntry s x.1 x.2) s
    let s := d.markSeqs.foldl (fun s x => releaseMarker s x.1 x.2) s
    let s := dropPageCopies s d.pn
    let s := if d.merge then s.bumpR Obj.MERGE_READS else s
    let s := pcCount ((s.bumpR Obj.PAGES_DRAINED).bump U1 Obj.PAGES_WRITTEN) 0x11 U.root (some (sliceOf d.pn)) 1
    if s.wharf.pinned.contains d.pn then unpin s d.pn else s

/-- Commit the pages of a verified data plate, or hold the plate uncommitted while the journal ring is full (07 R179). -/
def commitPlate (s : State) (l : Lighter) (j : Nat) : State :=
  if !journalTakes s (platePages l j).length then
    noteJournalFull (updLighter s l.id fun x => { x with waitCommit := x.waitCommit ++ [j] })
  else
    let g := l.group - 1
    let n := l.stripe / 256
    let p := l.stripe % 256
    let st := getStripe s (stripeKey g l.stripe)
    let (_, data) := placement st.live n p
    let base := ppnOf g (data.getD j 0) (n / 32768) (n % 32768) p 0
    let s := (platePages l j).foldl (fun s d => commitPage g (base + d.place % 4) s d) s
    let s := updLighter s l.id fun x => { x with
      plates := setBit x.plates j false, waitCommit := x.waitCommit.filter (· != j), pages := x.pages.map fun d => if d.place / 4 = j ∧ ¬ d.cancelled then { d with committed := true } else d }
    settleLevel (endRebuild (endRebuild (settleVictims s) 0) 1)

/-- Issue the parity program once every data plate is committed, pad, void or on a dead member (07 R172). -/
def issueParity (s : State) (id : Nat) : State :=
  match findLighter s id with
  | some l =>
    if l.state = 2 ∧ l.plates = 0 ∧ l.waitCommit.isEmpty ∧ ¬ l.parityPending ∧ drainRuns s then
      let g := l.group - 1
      let par := (getStripe s (stripeKey g l.stripe)).parity
      let n := l.stripe / 256
      let s := startOp (pcCount s 0x15 (U.die (g + 1) (par + 1) (n / 32768 + 1)) none 1) g par n (programTok (stripeKey g l.stripe))
      updLighter s id fun x => { x with parityPending := true, trims := AMap.set x.trims 15 (dieRec s g par (n / 32768)).trimMax }
    else s
  | none => s

/-- Void a data plate (07 R192, Table MT-9): its pages leave the lighter and are drained again in another stripe. A copy among them does not count in
MOVES_ABANDONED: the table counts there the row of a MOVE condition that fails, and R175 a copy cancelled (DESIGN CHOICE, log 127). -/
def voidPlate (s : State) (l : Lighter) (j : Nat) : State :=
  let pages := platePages l j
  let g := l.group - 1
  let n := l.stripe / 256
  let s := endOp s g ((placement (getStripe s (stripeKey g l.stripe)).live n (l.stripe % 256)).2.getD j 0) n (programTok (stripeKey g l.stripe))
  let s := if l.area = 0 then s else { s with media := { s.media with ckpt := { s.media.ckpt with lost := true } } }
  let s := updLighter s l.id fun x => { x with
    plates := setBit x.plates j false, pages := x.pages.map fun d => if d.place / 4 = j then { d with cancelled := true } else d }
  settleVictims (pages.foldl (fun s d => match d.srcPpn with
    | some p => if mapGet s d.pn = some p then enqueueCopy s l.prio d.why d.rekey d.pn p else s
    | none => enqueuePage s d.pn) s)

/-- Count the verify loops of a plate program on its die (09 Table AG-1): how many it took, from 1 to the TRIM_MAX_LOOPS under which it began (R218), is a
free value. -/
def noteLoops (s : State) (die limit : Nat) : State :=
  let (v, s) := s.draw (max 1 (min 32 limit))
  { s with ag := { s.ag with dies := AMap.upd s.ag.dies die {} fun d =>
    let l := d.loops ++ List.replicate (16 - d.loops.length) 0
    { d with loops := l.set (v / 2) (l.getD (v / 2) 0 + 1), loopSum := d.loopSum + v + 1, loopCount := d.loopCount + 1 } } }

/-- The end of a plate program (07 R175, R192). -/
def plateDone (s : State) (l : Lighter) (j : Nat) (r : PlateResult) : State :=
  let g := l.group - 1
  let n := l.stripe / 256
  let p := l.stripe % 256
  let k := stripeKey g l.stripe
  let st := getStripe s k
  let (_, data) := placement st.live n p
  let stack := data.getD j 0
  let s := noteLoops (endOp s g stack n (programTok k)) (U.die (g + 1) (stack + 1) (n / 32768 + 1)) (AMap.getD l.trims j 32)
  match r with
  | .verified =>
    let sr := getSet s (setKey g n)
    let s := putStripe s k { st with verified := setBit st.verified stack true, programmedAt := if st.verified = 0 then s.hm.opsec else st.programmedAt }
    let s := putSet s (setKey g n) { sr with firstDone := true }
    let s := notePlate s g (decide (lighterPurpose l = 0))
    issueParity (commitPlate s l j) l.id
  | _ =>
    let s := s.bump (U.group (g + 1)) Obj.PROGRAM_FAILS
    let s := retireBlock s g stack n 1
    issueParity (voidPlate s l j) l.id

/-- Leave a stripe without parity (07 Table MT-9): UNPROTECT record, and its valid pages are copied at P1. -/
def unprotect (s : State) (k : Nat) : State :=
  let s := appendRecord s 7 k 0 0
  let s := s.bump (U.group (k / 2^28 + 1)) Obj.UNPROTECTED
  (s.media.map.filter (fun p => ppnStripeKey p.2 == k)).foldl (fun s p => enqueueCopy s 1 1 false p.1 p.2) s

/-- The end of a parity program (07 R172): SEAL over the verified members, and the lighter is done. A failed parity program
leaves the stripe unprotected and retires the block (DEDUCED, log 14). -/
def parityDone (s : State) (l : Lighter) (ok : Bool) : State :=
  let g := l.group - 1
  let n := l.stripe / 256
  let k := stripeKey g l.stripe
  let st := getStripe s k
  let s := noteLoops (endOp s g st.parity n (programTok k)) (U.die (g + 1) (st.parity + 1) (n / 32768 + 1)) (AMap.getD l.trims 15 32)
  let s := if ok then
      let mem := setBit st.verified st.parity true
      notePlate (appendRecord s 4 k mem st.parity) g false
    else
      let s := s.bump (U.group (g + 1)) Obj.PROGRAM_FAILS
      unprotect (retireBlock s g st.parity n 1) k
  let s := pcCount (s.bumpR Obj.LIGHTERS_DONE) 0x10 U.root (some l.slice) 1
  let sr := getSet s (setKey g n)
  let s := if setStateOf s (setKey g n) = 1 ∧ 255 < sr.next then closeSet s (setKey g n) else s
  freeLighter (advanceCkpt s l) l

/-- Append the records and commit the plates that a full ring held, once it has room (07 R179). -/
def resumeCommits (s : State) : State :=
  let s := appendWaiting s.media.jwait s
  if journalRoom s then
    let waiting := (s.wharf.lighters.map fun l => l.waitCommit.map fun j => (l.id, j)).flatten
    let s := waiting.foldl (fun s p => match findLighter s p.1 with
      | some l => issueParity (commitPlate s l p.2) p.1
      | none => s) s
    endJournalFull (settleVictims s)
  else s

end Sys2Proof.Machine
end

