-- ==== Sys2Proof/Machine/Reclaim.lean ====
section
/-! DEFINITION. Reclaim, resets, checkpoints, and the loss of dies and stacks (07 R177 to R193). -/
namespace Sys2Proof.Machine
open Sys2Proof

/-- Sets of a group not retired, recorded ones with their erase counts; unrecorded ones count 0 (07 R183). -/
def meanErase (s : State) (g : Nat) : Nat :=
  let recs := s.media.sets.filter fun p => p.1 / 2^20 == g
  let n := 1027584 - (recs.filter (fun p => p.2.state == 6)).length
  ((recs.filter (fun p => p.2.state != 6)).map (fun p => p.2.highest)).sum / max 1 n

/-- Highest less lowest erase count over a group's sets not retired (07 R183): of those that hold host pages, since the reserved ones are never victims
(DESIGN CHOICE, log 130). A set of which nothing is recorded has the count 0. -/
def eraseSpread (s : State) (g : Nat) : Nat :=
  let mine := s.media.sets.filter fun p => p.1 / 2^20 == g && decide (reservedSets s.variant ≤ p.1 % 2^20)
  let es := (mine.filter fun p => p.2.state != 6).map fun p => p.2.highest
  let low := if mine.length + reservedSets s.variant < 1027584 then 0 else es.foldl min (es.headD 0)
  es.foldl max 0 - low

/-- The cost of a candidate in thousandths of a millionth, fractions cut (07 R183). -/
def victimCost (s : State) (k : Nat) : Int :=
  let g := k / 2^20
  let r := getSet s k
  let mean : Int := (meanErase s g : Nat)
  let v : Int := (1000000000 * validPages s k / dataPages s k : Nat)
  let wear : Int := 1000000000 * ((r.highest : Int) - mean) / (mean + 1000)
  let h := setHorizon s g (k % 2^20)
  let age : Int := (min 1000000000 (1000000000 * setAge s g (k % 2^20) / max 1 h) : Nat)
  v + (s.robj Obj.WEAR_WEIGHT : Int) * wear / 1000 - (s.robj Obj.DRIFT_WEIGHT : Int) * age / 1000

/-- The victim of a group (07 R183): the lowest cost, ties to the lowest set number; past WEAR_GAP the lowest erase count. -/
def chooseVictim (s : State) (g : Nat) : Option Nat :=
  let cands := (s.media.sets.filter fun p => p.1 / 2^20 == g && p.2.state == 2).map (·.1)
  let byWear := decide (s.robj Obj.WEAR_GAP < eraseSpread s g)
  let cost (k : Nat) : Int := if byWear then ((getSet s k).highest : Int) else victimCost s k
  (cands.foldl (fun best k => match best with
    | none => some (k, cost k)
    | some (b, c) => if cost k < c then some (k, cost k) else some (b, c)) none).map (·.1)

/-- Whether background reclaim may run at or above the low mark (07 Table MT-8): some slice has been idle for REC_IDLE_TIME. -/
def reclaimIdle (s : State) : Bool := (List.range 16).any (sliceIdle s)

/-- RECLAIM_VICTIM_SELECT (07 R182, R183): the group's next victim is taken at the priority of the row in force. A set with
no valid page is reset without copying. At or above the low mark, reclaim waits until a slice is idle; a full journal ring takes no SET record. -/
def reclaimSelect (s : State) (g : Nat) : State :=
  let s := settleReclaim s g
  let row := reclaimStep s g
  if noSpare s g then holdRebuild s g
  else if ¬ journalRoom s then s
  else if row ≤ 1 ∧ ¬ reclaimIdle s then s
  else match chooseVictim s g with
    | none => s
    | some k => makeVictim s k 1 (if 3 ≤ row then 1 else 4)

/-- The end of a set's reset (07 R167, R192, 09 R224): a failed member's block is retired, its spare substituted and the reset issued again, and with no
spare the set is retired whole; otherwise the set is FREE. -/
def resetDone (s : State) (g n : Nat) (failed : Option Nat) : State :=
  let k := setKey g n
  if setStateOf s k ≠ 4 then s
  else match failed with
    | some st =>
      let s := endOp (s.bump (U.group (g + 1)) Obj.RESET_FAILS) g st n (resetTok k)
      let s := substituteSpares (retireBlock s g st n 2) g n
      if cannotReplace s g n then retireSet s g n else startOp (pcCount s 0x16 (U.die (g + 1) (st + 1) (n / 32768 + 1)) none 1) g st n (resetTok k)
    | none =>
      let s := (List.range 16).foldl (fun s st => endOp s g st n (resetTok k)) s
      let live := liveMembers s g n
      let s := { s with media := { s.media with
        store := s.media.store.filter (fun p => ppnSetKey p.1 != k), stripes := s.media.stripes.filter (fun p => p.1 / 256 != k) } }
      let s := { s with dp := { s.dp with poisonAt := s.dp.poisonAt.filter (fun q => ppnSetKey (q / 8) != k), markedAt := s.dp.markedAt.filter fun q => ppnSetKey (q / 8) != k } }
      let s := setState (putSet s k ((getSet s k).wasReset live)) k 0
      settleReclaim (noteSetErase (s.bump (U.group (g + 1)) Obj.SETS_RESET) g n) g

/-- Meaning of SET_RESET_DONE (07 R177, R192, 09 R224), which a reset that is parked or stands behind a program cannot bring about (08 R199, R200). A flush abandons resets (11 R268 step 3), and the next LOADING issues them again. -/
def execSetResetDone (group : Fin 2) (set : Nat) (failedStack : Option (Fin 16)) (s : State) : Host.Outcome State Fault Refusal :=
  let tok := resetTok (setKey group set)
  let waits : Bool := match failedStack with
    | some st => !opRuns s group st set tok
    | none => (liveMembers s group set).any fun st => opIssued s group st set tok && !opRuns s group st set tok
  .next (if ¬ waits ∧ (s.phase = .running ∨ s.phase = .loading ∨ (s.phase = .halted ∧ ¬ s.dp.dumpDone)) then resetDone s group set (failedStack.map (·.val)) else s)

/-- A reclaim or re-engraving victim with a member that has died goes on as a rebuild victim (07 Table MT-9): its copies waiting in lighters leave them
for P1, those executing go on for the rebuild. -/
def rebuildVictim (s : State) (k : Nat) : State :=
  let f (l : Lighter) : Lighter := { l with pages := l.pages.map fun d => match d.srcPpn with
    | some p => if ppnSetKey p = k ∧ ¬ d.rekey ∧ ¬ d.committed then (if l.state = 2 then { d with why := 3 } else { d with cancelled := true }) else d
    | none => d }
  let s := setLighters (putSet s k { getSet s k with why := 3 }) (s.wharf.lighters.map f)
  (pagesOfSet s k).foldl (fun s p => enqueueCopy s 1 3 false p.1 p.2) s

/-- Close an open set of which a member has died, one that a lighter still fills among them, and make every closed set with such a member a rebuild
victim, in ascending set number (07 R188). -/
def startRebuild (s : State) (g : Nat) (hit : Nat → Bool) : State :=
  let mine := (s.media.sets.filter fun p => p.1 / 2^20 == g && decide (reservedSets s.variant ≤ p.1 % 2^20) && hit (p.1 % 2^20)).map (·.1)
  let s := mine.foldl (fun s k => if setStateOf s k = 1 then setState s k 2 else s) s
  let r := getRebuild s g
  let s := putRebuild s g (if r.running then r else { running := true, held := false, pages := 0, since := s.hm.opsec })
  let s := mine.foldl (fun s k =>
    let st := setStateOf s k
    if st = 2 then makeVictim s k 3 1
    else if st = 3 ∧ (getSet s k).why ≠ 3 then rebuildVictim s k
    else s) s
  endRebuild (if noSpare s g then holdRebuild s g else s) g

/-- Stripes that lose a second member (07 R191): the sectors on the lost members read poison and count in PAGES_LOST. A stripe whose pages there have all
been relocated loses none. -/
def losePages (s : State) (g : Nat) : State :=
  (s.media.stripes.filter fun p => p.1 / 2^28 == g).foldl (fun s p =>
    let n := p.1 % 2^28 / 256
    let mem := if p.2.sealed then p.2.members else p.2.verified
    let isDead (st : Nat) : Bool := s.media.deadStacks.contains (U.stack (g + 1) (st + 1)) || s.media.deadDies.contains (U.die (g + 1) (st + 1) (n / 32768 + 1))
    let gone := (List.range 16).filter fun st => bitOf mem st && isDead st
    let lim := if p.2.unprotected then 1 else 2
    if gone.length < lim then s
    else
      let lost := gone.foldl (fun a st => setBit a st true) 0
      if lost = p.2.lost then s
      else
        let pages := (s.media.map.filter fun q => ppnStripeKey q.2 == p.1 && gone.contains (ppnStack q.2) && !bitOf p.2.lost (ppnStack q.2)).length
        let s := putStripe s p.1 { p.2 with lost := lost }
        if pages = 0 then s else
        let s := s.bumpN (U.group (g + 1)) Obj.PAGES_LOST pages
        record s Ev.PAGES_LOST (U.group (g + 1)) 0xFFFF [g + 1, p.1 % 2^28, gone.length, pages]) s

/-- Plates of executing lighters on a dead member are not committed: their pages are drained again (07 Table MT-9). -/
def voidDeadPlates (s : State) (g : Nat) : State :=
  (s.wharf.lighters.filter fun l => l.state == 2 && l.group == g + 1).foldl (fun s l =>
    let n := l.stripe / 256
    let st := getStripe s (stripeKey g l.stripe)
    let (_, data) := placement st.live n (l.stripe % 256)
    let hit := (List.range 15).filter fun j => bitOf l.plates j && memberGone s g (data.getD j 0) (n / 32768)
    let s := hit.foldl (fun s j => match findLighter s l.id with
      | some x => voidPlate s x j
      | none => s) s
    issueParity s l.id) s

/-- A read under way loses the members that have gone; one whose own plate's member has gone becomes a degraded read (08, corner cases). -/
def degradeRead (s : State) (r : MediaRead) : State :=
  let g := ppnGroup r.ppn
  if !r.degraded && r.stage != 3 && memberGone s g (ppnStack r.ppn) (ppnDie r.ppn) then readDegraded s r
  else putRead s { r with members := r.members.filter fun i => !memberGone s g i (ppnDie r.ppn) }

/-- A proof sample has been read; one that rung 3 cannot decode is dropped from its pass (09 R213). -/
def proofRead (s : State) (r : MediaRead) (bad : Bool) : State :=
  let die := ppnDiePath r.ppn
  match AMap.get? s.ag.passes die with
  | none => s
  | some p =>
    let k := r.ppn * 8 + r.sector
    let p := { p with left := p.left - 1 }
    let p := if bad then { p with dropped := p.dropped + 1, picks := p.picks.filter fun q => q.1 != k } else p
    let s := { s with ag := { s.ag with passes := AMap.set s.ag.passes die p } }
    if bad then s.bumpR Obj.PROOF_DROPPED else s

/-- A die or bank that has gone takes no more proof reads: the samples under way there are dropped from their pass (09 R212, R213). -/
def dropProofs (s : State) : State :=
  let gone (r : MediaRead) : Bool := r.why == .proof && memberGone s (ppnGroup r.ppn) (ppnStack r.ppn) (ppnDie r.ppn)
  let lost := s.ml.reads.filter gone
  let s := { s with ml := { s.ml with reads := s.ml.reads.filter fun r => !gone r } }
  lost.foldl (fun s r => proofRead s r true) s

/-- Reads under way at a member that has gone become degraded reads (08, corner cases). -/
def degradeReads (s : State) : State :=
  let s := dropProofs s
  resumeOps (s.ml.reads.foldl degradeRead s)

/-- What the loss of members brings about in a group. -/
def memberLost (s : State) (g : Nat) (hit : Nat → Bool) : State :=
  losePages (degradeReads (startRebuild (voidDeadPlates s g) g hit)) g

/-- DEAD_MEMBERS of a group (07 Table MT-10). -/
def setDeadMembers (s : State) (g : Nat) : State :=
  let bits := (List.range 16).foldl (fun a st =>
    let dead := s.media.deadStacks.contains (U.stack (g + 1) (st + 1)) || s.media.deadDies.any (fun d => field d 25 20 == g + 1 && field d 19 14 == st + 1)
    if dead then setBit a st true else a) 0
  s.setObj (U.group (g + 1)) Obj.DEAD_MEMBERS bits

/-- A die is dead and reads FAILED (07 R187 to R189); its sets are rebuilt. A confirmatory pass of it is dropped (09 R222). -/
def dieFailed (s : State) (g st d cause : Nat) : State :=
  let u := U.die (g + 1) (st + 1) (d + 1)
  if s.media.deadDies.contains u ∨ (s.variant = .p064 ∧ g = 1) then s
  else
    let s1 := { s with media := { s.media with deadDies := u :: s.media.deadDies }, ag := { s.ag with
      passes := AMap.del s.ag.passes u, marked := s.ag.marked.filter (fun m => m.1 != u) } }
    let s1 := record (setDeadMembers s1 g) Ev.DIE_FAILED u 0xFFFF [g + 1, st + 1, d + 1, cause]
    track (unitAncestors u) s (memberLost s1 g fun n => n / 32768 == d)

/-- A stack is dead and reads FAILED (07 R187 to R189); the group is rebuilt. Confirmatory passes of its dies are dropped (09 R222). -/
def stackFailed (s : State) (g st cause : Nat) : State :=
  let u := U.stack (g + 1) (st + 1)
  if s.media.deadStacks.contains u ∨ (s.variant = .p064 ∧ g = 1) then s
  else
    let mine (d : Nat) : Bool := unitUnder d u
    let s1 := setDeadMembers { s with media := { s.media with deadStacks := u :: s.media.deadStacks }, ag := { s.ag with
      passes := s.ag.passes.filter (fun p => !mine p.1), marked := s.ag.marked.filter (fun m => !mine m.1) } } g
    let s1 := memberLost s1 g fun _ => true
    let s1 := record s1 Ev.STACK_FAILED u 0xFFFF [g + 1, st + 1, cause, rebuildLeft s1 g]
    track (unitAncestors u) s s1

end Sys2Proof.Machine
end

