-- ==== Sys2Proof/Machine/LatOps.lean ====
section
/-! DEFINITION. Counting an access on its path (08 R195 to R197, R203). -/
namespace Sys2Proof.Machine
open Sys2Proof

/-- Nanoseconds between two times in CLK_CTL cycles of 2.5 ns. -/
def nsBetween (t0 t1 : Nat) : Nat := (t1 - t0) * 5 / 2

/-- Insert a latency into the descending list of the largest 17 of a window. -/
def insertTop (x : Nat) : List Nat → List Nat
  | [] => [x]
  | y :: t => if y < x then x :: y :: t else y :: insertTop x t

/-- End a path's window of 2^24 counted accesses (08 R203): LAT_P6 is its 17th largest latency (one part in 10^6 lies above). -/
def endLatWin (s : State) (path : Nat) (w : LatWin) : State :=
  let p6 := w.top.getD 16 0
  let s := s.setR (Obj.LAT_P6 + path) p6
  let s := { s with ml := { s.ml with lat := AMap.set s.ml.lat path {} } }
  if s.robj (Obj.LAT_BOUND + path) < p6 then record s Ev.LAT_BOUND_MISSED U.root 0xFFFF [path, p6, w.late] else s

/-- Count a latency on a path (08 R196). -/
def noteLatency (s : State) (path ns : Nat) : State :=
  let late := decide (s.robj (Obj.LAT_BOUND + path) < ns)
  let s := s.bumpR (Obj.LAT_COUNT + path)
  let s := s.raiseTo U.root (Obj.LAT_MAX + path) ns
  let s := if late then s.bumpR (Obj.LAT_OVER_BOUND + path) else s
  let w := AMap.getD s.ml.lat path {}
  let w : LatWin := { count := w.count + 1, late := w.late + b2n late, top := (insertTop ns w.top).take 17 }
  if 2^24 ≤ w.count then endLatWin s path w
  else { s with ml := { s.ml with lat := AMap.set s.ml.lat path w } }

/-- Count a served access, its response's first flit sent now, on the path that served it, or under its first cause of exclusion (08 R196, R197), and in
the counter unit (17 Table PC-1). `more`: further events that the access was, with their units (17 R387). -/
def countSent (s : State) (path : Nat) (a : Acc) (more : List (Nat × Nat)) : State :=
  if a.port = 0 then s
  else
    let sl := some (sliceOfLine a.line)
    let u := U.port a.port
    let wr := decide (a.kind = .write)
    let rdCode := if path = 1 then 0x04 else if path = 2 then 0x05 else 0x06
    let s := if wr then s else pcCount s rdCode u sl 1
    let base := more ++ (if wr then [(0x03, u)] else [(0x02, u), (rdCode, u)])
    if a.excl ≠ 0 then
      let s := pcCount (s.bumpR (Obj.LAT_EXCLUDED + a.excl)) 0x08 u sl 1
      sampleStep s (sliceOfLine a.line) a.port a.src a.line wr ((0x08, u) :: base)
    else
      let ns := nsBetween a.at_ s.now
      let late := decide (s.robj (Obj.LAT_BOUND + path) < ns)
      let s := noteLatency s path ns
      let s := if late then pcCount s 0x07 u sl 1 else s
      sampleStep s (sliceOfLine a.line) a.port a.src a.line wr (if late then (0x07, u) :: base else base)

/-- Whether a message that waits at its port is the response to an access, and not yet linked with it. -/
def S2mMsg.answers (m : S2mMsg) (a : Acc) : Bool := m.owed.isNone && (match m.msg with
  | .ndr _ t _ _ | .drs _ t _ _ _ _ => t == a.tag
  | _ => false)

/-- Count a served access as its response's first flit is sent (08 R195): now, or with the message where it waits for the host's credits. -/
def countPathX (s : State) (path : Nat) (a : Acc) (more : List (Nat × Nat)) : State :=
  match (getPort s a.port).outq.getLast? with
  | some m =>
    if a.port ≠ 0 ∧ m.answers a then
      let p := getPort s a.port
      { s with hp := { s.hp with ports := AMap.set s.hp.ports a.port { p with outq := p.outq.dropLast ++ [{ m with owed := some (path, a, more) }] } } }
    else countSent s path a more
  | none => countSent s path a more

/-- An access that was no further event. -/
def countPath (s : State) (path : Nat) (a : Acc) : State := countPathX s path a []

/-- An access with a cause of exclusion added: the lowest number applies (08 R197). -/
def Acc.delayed (a : Acc) (cause : Nat) : Acc := { a with excl := if a.excl = 0 then cause else min a.excl cause }

/-- Every access under way is delayed by a cause (08 R197): in the conflict tables and the retry store, held ahead of the wharf or behind the mirror,
waiting for the media, or a control-window write that waits for its effect. -/
def delayUnderWay (s : State) (cause : Nat) : State :=
  let f (a : Acc) : Acc := a.delayed cause
  let win (x : Window) : Window := { x with heldLow := x.heldCmp.map (fun h => (h.1, h.2, match x.heldLow.find? (fun l => l.1 == h.1 && l.2.1 == h.2) with
    | some l => min cause l.2.2
    | none => cause)) }
  let m := s.hc.mirror
  { s with
    dir := { s.dir with txs := s.dir.txs.map fun t => { t with accs := t.accs.map f }, waiting := s.dir.waiting.map f, retry := s.dir.retry.map fun r => { r with acc := f r.acc } }
    wharf := { s.wharf with held := s.wharf.held.map f }
    hc := { s.hc with mirror := { m with heldSync := m.heldSync.map (fun p => (p.1, f p.2)), heldAsync := m.heldAsync.map f } }
    ml := { s.ml with reads := s.ml.reads.map fun r => { r with accs := r.accs.map f } }
    mc := { s.mc with windows := s.mc.windows.map fun p => (p.1, win p.2) } }

end Sys2Proof.Machine
end

