-- ==== Sys2Proof/Machine/PortOps.lean ====
section
/-! DEFINITION. Operations of the host ports (chapter 02): agents and decoders, fences and viral, S2M messages under the host's
credits, RwD credits, DevLoad, and the loss of reservations (03 R79). -/
namespace Sys2Proof.Machine
open Sys2Proof

/-- Write a port's record. -/
def putPort (s : State) (n : Nat) (p : HostPort) : State := { s with hp := { s.hp with ports := AMap.set s.hp.ports n p } }

/-! Agents. -/

/-- Change an agent. -/
def updAgent (s : State) (port src : Nat) (f : Agent → Agent) : State :=
  { s with hp := { s.hp with agents := s.hp.agents.map fun a => if a.port = port ∧ a.src = src then f a else a } }

/-! Fences. -/

/-- Whether CXL.mem requests of a port are executed (02 Table HP-5, R49). -/
def portServes (s : State) (n : Nat) : Bool := s.phase == .running && linkMem s n && !fencedWhole s n && !portAbsent s n

/-- Change a window. -/
def updWin (s : State) (w : Nat) (f : Window → Window) : State :=
  match AMap.get? s.mc.windows w with
  | some x => { s with mc := { s.mc with windows := AMap.set s.mc.windows w (f x) } }
  | none => s

/-- Lose a window's reservation with a cause (03 R79). -/
def loseResv (s : State) (w cause : Nat) : State :=
  updWin s w fun x => if x.resv.isSome then { x with resv := none, result := 3, loss := cause, resvState := 0 } else x

/-- Lose every reservation that a test of the window picks. -/
def loseResvWhere (s : State) (cause : Nat) (p : Window → Bool) : State :=
  (s.mc.windows.map (·.1)).foldl (fun s w => match AMap.get? s.mc.windows w with
    | some x => if p x then loseResv s w cause else s
    | none => s) s

/-- Lose the reservations of a port's agents (03 Table MC-12). -/
def losePortResv (s : State) (n cause : Nat) : State := loseResvWhere s cause fun x => x.port == n

/-- Raise viral on a port (02 R49): it is sent where the link is up. The port's agents' reservations are lost with cause 6. -/
def raiseViral (s : State) (n : Nat) : State :=
  let s := losePortResv s n 6
  if (getPort s n).viral then s
  else
    let s := putPort s n { getPort s n with viral := true }
    if 2 ≤ preg s n Obj.LINK_STATE then s.emit (.viral n) else s

/-- A port records an error in AER (02 Tables HP-2 and HP-9): the bit of its AER status, by the places of PCIe 6.x (PRESUMED, log 101). Its agents'
reservations are lost with cause 3 (03 Table MC-12). -/
def aerRecord (s : State) (n bit : Nat) : State :=
  let s := losePortResv s n 3
  putPort s n { getPort s n with aerSticky := setBit (getPort s n).aerSticky bit true }

/-- A port's FENCE_REASON shows a reason that it did not show (02 R49): PORT_FENCED at the transition from 0. `bit`: of Table HP-10. -/
def showReason (s : State) (n bit : Nat) : State :=
  let old := preg s n Obj.FENCE_REASON
  let new := setBit old bit true
  let s := s.setObj (U.port n) Obj.FENCE_REASON new
  let s := if old = 0 then
      let s := s.bump (U.port n) Obj.FENCE_COUNT
      record s Ev.PORT_FENCED (U.port n) (0x100 + n) [n, new, old, preg s n Obj.FENCE_COUNT]
    else s
  if new &&& 0x77 ≠ 0 then putPort s n { getPort s n with outq := [] } else s

/-- Put a reason into a port's FENCE_REASON (02 R49): the reservations of the port are lost with cause 3. -/
def fencePort (s : State) (n bit : Nat) : State :=
  if bitOf (preg s n Obj.FENCE_REASON) bit then s else showReason (losePortResv s n 3) n bit

/-- Take a reason out of a port's FENCE_REASON. -/
def unfencePort (s : State) (n bit : Nat) : State :=
  s.setObj (U.port n) Obj.FENCE_REASON (setBit (preg s n Obj.FENCE_REASON) bit false)

/-! DevLoad and credits. -/

/-- RwD credits the pace allows in 1 µs (02 R46): f × 1562.5 lines at x16 and 64 GT/s, scaled by the trained rate and width. -/
def paceAllowance (s : State) (n : Nat) : Nat :=
  let full := fullWidth s n
  (15625 * quarters s n * full * preg s n Obj.RATE_NOW * preg s n Obj.WIDTH_NOW) / (10 * 4 * 16 * 64 * full)

/-- Wharf level of DevLoad (06 Table WH-6). -/
def wharfDevLoad (s : State) : Nat :=
  let l := s.robj Obj.WHARF_LEVEL
  if l = 0 then 0 else if l = 1 then 2 else 3

/-- Intrinsic level of DevLoad (02 R47). The ingress queue is taken to hold one request for each M2S Req and RwD credit
granted at full limit, and to be occupied by the requests that hold their credits (DESIGN CHOICE, log 15). -/
def intrinsicDevLoad (s : State) (n : Nat) : Nat :=
  let p := getPort s n
  let used := p.rwdUsed + p.reqUsed
  let size := 2 * rwdPool s n
  if size * 90 ≤ used * 100 then 3 else if size * 70 ≤ used * 100 then 2 else if size * 25 ≤ used * 100 then 1 else 0

/-- The DevLoad of a port now (02 R47). -/
def devLoad (s : State) (n : Nat) : Nat := max (intrinsicDevLoad s n) (max (wharfDevLoad s) (s.robj Obj.THERM_REQUEST))

/-- Grant the RwD credits that the limit and the pace allow (02 R46). -/
def grantCredits (s : State) (n : Nat) : State :=
  let p := getPort s n
  let want := rwdLimit s n - (p.rwdFree + p.rwdUsed)
  let give := if quarters s n = 4 then want else min want p.pace
  if give = 0 then s
  else putPort s n { p with rwdFree := p.rwdFree + give, pace := if quarters s n = 4 then p.pace else p.pace - give }

/-- Grant on every port with CXL.mem, after a change of a factor. -/
def settleCredits (s : State) : State := allPorts.foldl (fun s n => if linkMem s n then grantCredits s n else s) s

/-- A request takes its credit. -/
def takeCredit (s : State) (n : Nat) (write : Bool) : State :=
  let p := getPort s n
  putPort s n (if write then { p with rwdFree := p.rwdFree - 1, rwdUsed := p.rwdUsed + 1 } else { p with reqFree := p.reqFree - 1, reqUsed := p.reqUsed + 1 })

/-- A request's credit returns (02 R45). -/
def giveCredit (s : State) (n : Nat) (write : Bool) : State :=
  if n = 0 then s
  else
    let p := getPort s n
    if write then grantCredits (putPort s n { p with rwdUsed := p.rwdUsed - 1 }) n
    else putPort s n { p with reqFree := p.reqFree + 1, reqUsed := p.reqUsed - 1 }

/-- A BIRsp takes its credit (`takes`), or returns it once it has reached its line's conflict table (02 R45). -/
def birspCredit (s : State) (n : Nat) (takes : Bool) : State :=
  let p := getPort s n
  putPort s n { p with biFree := if takes then p.biFree - 1 else p.biFree + 1 }

/-! S2M messages. -/

/-- The credits of a class: 0 NDR, 1 DRS, 2 BISnp. -/
def HostPort.credit (p : HostPort) (cls : Nat) : Nat := if cls = 0 then p.ndr else if cls = 1 then p.drs else p.bisnp
/-- Spend a credit of a class. -/
def HostPort.spend (p : HostPort) (cls : Nat) : HostPort :=
  if cls = 0 then { p with ndr := p.ndr - 1 } else if cls = 1 then { p with drs := p.drs - 1 } else { p with bisnp := p.bisnp - 1 }

/-- The DevLoad that a message carries (02 R47). -/
def Out.devLoad? : Out → Option Nat
  | .ndr _ _ _ d | .drs _ _ _ _ _ d | .biConflictAck _ _ d => some d
  | _ => none

/-- A message leaves the port: DEVLOAD_NOW holds the DevLoad it carries, a read's payload is counted, poison is counted (02 R47, R50, 17 R389), and the
access it answers is counted (08 R195). -/
def leavePort (s : State) (n : Nat) (m : S2mMsg) : State :=
  let p := getPort s n
  let s := putPort s n (p.spend m.cls)
  let s := match m.msg.devLoad? with
    | some d => s.setObj (U.port n) Obj.DEVLOAD_NOW d
    | none => s
  let s := match m.msg with
    | .drs _ _ _ poison _ _ => bwAdd (if poison then s.bump (U.port n) Obj.POISON_TX else s) n 64 0
    | _ => s
  let s := s.emit m.msg
  match m.owed with
  | some (path, a, more) => countSent s path a more
  | none => s

/-- Send an S2M message, or queue it behind the host's credits (02 R45). -/
def sendS2m (s : State) (n cls : Nat) (msg : Out) : State :=
  let p := getPort s n
  let m : S2mMsg := { cls := cls, msg := msg }
  if p.outq.isEmpty && decide (0 < p.credit cls) then leavePort s n m
  else putPort s n { p with outq := p.outq ++ [m] }

/-- Whether a port sends responses (02 Table HP-9a). -/
def responds (s : State) (n : Nat) : Bool :=
  n != 0 && linkMem s n && !fencedWhole s n && (s.phase == .running)

/-- Respond without data: NDR opcode 0 Cmp, 1 Cmp-S, 2 Cmp-E (04 Table CD-3). -/
def respondNdr (s : State) (n tag op : Nat) : State := if responds s n then sendS2m s n 0 (.ndr n tag op (devLoad s n)) else s

/-- Respond with data and a MetaValue: 0 I, 1 S, 2 A (04 Table CD-3). -/
def respondDrs (s : State) (n tag : Nat) (data : LineData) (poison : Bool) (mv : Nat) : State :=
  if responds s n then sendS2m s n 1 (.drs n tag data poison mv (devLoad s n)) else s

/-- Send the messages at the head of a port's queue while the host's credits last. -/
def drainOut (n : Nat) : List S2mMsg → State → State
  | [], s => putPort s n { getPort s n with outq := [] }
  | m :: t, s =>
    if 0 < (getPort s n).credit m.cls then drainOut n t (leavePort s n m)
    else putPort s n { getPort s n with outq := m :: t }

/-- Try a port's queue. -/
def pumpPort (s : State) (n : Nat) : State := drainOut n (getPort s n).outq s

end Sys2Proof.Machine
end

