-- ==== Sys2Proof/Machine/HcOps.lean ====
section
/-! DEFINITION. Operations of the home cache and the prefetch side buffer (05 R111 to R124). -/
namespace Sys2Proof.Machine
open Sys2Proof

/-! Tree pseudo-LRU over 16 ways: 15 bits, node 2^l − 1 + prefix at level l; a bit names the half used less recently. -/

/-- Note the use of a way. -/
def plruTouch (bits way : Nat) : Nat :=
  (List.range 4).foldl (fun b l => setBit b (2^l - 1 + way / 2^(4-l)) (way / 2^(3-l) % 2 == 0)) bits

/-- The least recently used way among those allowed, below a node of the tree with `n` levels left. -/
def plruVictim (bits : Nat) (ok : Nat → Bool) : Nat → Nat → Option Nat
  | 0, p => if ok p then some p else none
  | n + 1, p =>
    let b := b2n (bitOf bits (2^(3-n) - 1 + p))
    match plruVictim bits ok n (2 * p + b) with
    | some w => some w
    | none => plruVictim bits ok n (2 * p + (1 - b))

/-- Whether the non-berth home cache is in use (05 R118). -/
def hcOn (s : State) : Bool := s.robj Obj.HC_ENABLE == 1

/-- The way that holds a sector. -/
def hcFind (s : State) (x : SectorNo) : Option Nat :=
  (cachingWays s (sliceOfSector x)).find? fun w => match AMap.get? s.hc.sectors (hcKey x w) with
    | some e => e.sector == x
    | none => false

/-- Note the use of a way for replacement (05 R111). -/
def hcTouch (s : State) (x : SectorNo) (w : Nat) : State :=
  let k := sliceOfSector x * 1536 + hcSet x
  { s with hc := { s.hc with plru := AMap.set s.hc.plru k (plruTouch (AMap.getD s.hc.plru k 0) w) } }

/-- The home cache's valid copy of a line, and its way. -/
def hcGet (s : State) (line : LineNo) : Option (BerthLine × Nat) :=
  let x := sectorOfLine line
  match hcFind s x with
  | some w => match AMap.get? s.hc.sectors (hcKey x w) with
    | some e => if bitOf e.valid (line % 8) then some (e.lines.getD (line % 8) {}, w) else none
    | none => none
  | none => none

/-- The line that the home cache answers a read that enters now with, and its way (01 R17 step 1). -/
def hcLookup (s : State) (line : LineNo) : Option (BerthLine × Nat) := if hcOn s then hcGet s line else none

/-- HC_STALE_RISK (05 R119). -/
def staleRisk (s : State) : State := if hcOn s then s else s.setR Obj.HC_STALE_RISK 1

/-- Bytes written into a byte-coded line (10 R233). -/
def BerthLine.write (l : BerthLine) (data : LineData) (mask : ByteMask) (poison : Bool) : BerthLine :=
  { data := overlay l.data data mask, poison := if poison then l.poison ||| mask else l.poison &&& ~~~ mask }

/-- Update the home-cache copy of a line under a mask, at the write's entry (05 R113). `on`: the cache is in use for the write, which entered its
conflict table while HC_ENABLE was 1 (R118). -/
def hcUpdate (s : State) (on : Bool) (line : LineNo) (data : LineData) (mask : ByteMask) (poison : Bool) : State :=
  if !on then staleRisk s
  else
    let x := sectorOfLine line
    match hcFind s x with
    | none => s
    | some w => match AMap.get? s.hc.sectors (hcKey x w) with
      | none => s
      | some e =>
        if !bitOf e.valid (line % 8) then s
        else
          let l := (e.lines.getD (line % 8) {}).write data mask poison
          { s with hc := { s.hc with sectors := AMap.set s.hc.sectors (hcKey x w) { e with lines := e.lines.set (line % 8) l } } }

/-- Invalidate the home-cache copies of the sectors that a test picks, and drop the side buffer's (05 R114, R117). A cache that
is off is left as it stands (R118). -/
def hcDrop (s : State) (p : SectorNo → Bool) : State :=
  let s := staleRisk s
  let sectors := if hcOn s then s.hc.sectors.filter (fun e => !p e.2.sector) else s.hc.sectors
  let pbuf := s.hc.pbuf.map fun e => (e.1, e.2.filter (fun q => !p q.1))
  { s with hc := { s.hc with sectors := sectors, pbuf := pbuf } }

/-- Invalidate one line's home-cache copy (05 R114, for a discard) and its sector in the side buffer. `on`: as in `hcUpdate`. -/
def hcDropLine (s : State) (on : Bool) (line : LineNo) : State :=
  let s := staleRisk s
  let x := sectorOfLine line
  let s := { s with hc := { s.hc with pbuf := s.hc.pbuf.map fun e => (e.1, e.2.filter (fun q => q.1 != x)) } }
  if !on then s
  else match hcFind s x with
    | none => s
    | some w => match AMap.get? s.hc.sectors (hcKey x w) with
      | none => s
      | some e => { s with hc := { s.hc with sectors := AMap.set s.hc.sectors (hcKey x w) { e with valid := setBit e.valid (line % 8) false } } }

/-- Fill a sector whole (05 R112). `on`: as in `hcUpdate`. In a set with an allowed way that is empty the fill takes the lowest-numbered such
way; else the pseudo-LRU victim, for which the tree falls to a node's other half where the half it names holds no allowed way (DESIGN CHOICE for
both, log 100). -/
def hcFill (s : State) (on : Bool) (x : SectorNo) (lines : List BerthLine) : State :=
  if !on then s
  else
    let sl := sliceOfSector x
    let ways := cachingWays s sl
    let empty := ways.find? fun w => !AMap.has s.hc.sectors (hcKey x w)
    let way := match hcFind s x with
      | some w => some w
      | none => match empty with
        | some w => some w
        | none => plruVictim (AMap.getD s.hc.plru (sl * 1536 + hcSet x) 0) (fun w => ways.contains w) 4 0
    match way with
    | none => s
    | some w =>
      let s := { s with hc := { s.hc with sectors := AMap.set s.hc.sectors (hcKey x w) { sector := x, valid := 255, lines := lines } } }
      hcTouch (s.bumpR Obj.HC_FILLS) x w

/-! Errors of a way. -/

/-- Drop what a way holds, and the side buffer's copies of it (05 R114, R117). -/
def dropWay (s : State) (sl w : Nat) : State :=
  let gone := (s.hc.sectors.filter fun e => e.1 / 24576 == sl && e.1 % 16 == w).map (·.2.sector)
  { s with hc := { s.hc with
    sectors := s.hc.sectors.filter fun e => !(e.1 / 24576 == sl && e.1 % 16 == w), pbuf := s.hc.pbuf.map fun e => (e.1, e.2.filter fun q => !gone.contains q.1) } }

/-- Errors of a way within the last 3600 operating seconds: uncorrectable, corrected (05 R123). -/
def wayErrs (s : State) (sl w : Nat) : Nat × Nat :=
  let e := AMap.getD s.hc.errs (sl * 16 + w) {}
  let f (l : List Nat) : Nat := (l.filter fun t => decide (s.hm.opsec < t + 3600)).length
  (f e.unc, f e.corr)

/-- Disable a way (05 R123). -/
def disableWay (s : State) (sl w : Nat) : State :=
  let (u, c) := wayErrs s sl w
  let s := dropWay s sl w
  let s := s.setR (Obj.HC_WAY_DISABLED + sl + 1) (setBit (s.robj (Obj.HC_WAY_DISABLED + sl + 1)) w true)
  let s := { s with hc := { s.hc with passed := s.hc.passed.filter (· != sl * 16 + w) } }
  record (s.bumpR Obj.WAYS_DISABLED) Ev.WAY_DISABLED U.ctl sl [sl, w, c, u]

/-- Begin the substitution of a failing berth way (05 R132); with no way to take, each threshold it crosses is reported once. Which way is the slice's least recently used is read from the
replacement bits of set 0 (DESIGN CHOICE, log 18). -/
def substituteWay (s : State) (sl w : Nat) : State :=
  if s.hc.copies.any (fun c => c.1 == sl && c.2.1 == w) then s
  else
    let ways := cachingWays s sl
    match plruVictim (AMap.getD s.hc.plru (sl * 1536) 0) (fun v => ways.contains v) 4 0 with
    | some v =>
      let s := dropWay s sl v
      { s with hc := { s.hc with copies := s.hc.copies ++ [(sl, w, v)] } }
    | none =>
      let (u, c) := wayErrs s sl w
      let k := 2 * (sl * 16 + w)
      let fresh := ((if 3 ≤ u then [k] else []) ++ (if 64 ≤ c then [k + 1] else [])).filter fun x => !s.hc.failingLogged.contains x
      if fresh.isEmpty then s
      else
        let s := { s with hc := { s.hc with failingLogged := fresh ++ s.hc.failingLogged } }
        record s Ev.BERTH_WAY_FAILING U.ctl sl [sl, w, c, u]

/-- The thresholds of R123 that a way's errors no longer meet are forgotten, so that meeting one again is another crossing (05 R132). -/
def forgetCrossings (s : State) (sl w : Nat) : State :=
  let (u, c) := wayErrs s sl w
  let k := 2 * (sl * 16 + w)
  { s with hc := { s.hc with failingLogged := s.hc.failingLogged.filter fun x => !(x == k && decide (u < 3)) && !(x == k + 1 && decide (c < 64)) } }

/-- Count an error of a way and apply the thresholds of R123 and R132. -/
def noteWayError (s : State) (sl w : Nat) (unc : Bool) : State :=
  let s := forgetCrossings s sl w
  let f (l : List Nat) : List Nat := l.filter fun t => decide (s.hm.opsec < t + 3600)
  let upd (e : WayErrs) : WayErrs :=
    if unc then { unc := (s.hm.opsec :: f e.unc).take 64, corr := f e.corr } else { unc := f e.unc, corr := (s.hm.opsec :: f e.corr).take 64 }
  let s := { s with hc := { s.hc with errs := AMap.upd s.hc.errs (sl * 16 + w) {} upd } }
  let (u, c) := wayErrs s sl w
  if 3 ≤ u ∨ 64 ≤ c then
    if (berthWaysOf s sl).contains w then substituteWay s sl w
    else if wayDisabled s sl w then s else disableWay s sl w
  else s

/-! The side buffer. -/

/-- Whether the side buffer holds a sector. -/
def pbufHas (s : State) (x : SectorNo) : Bool := (AMap.getD s.hc.pbuf (sliceOfSector x) []).any (fun p => p.1 == x)

/-- Put a sector into its slice's side buffer of 512 (05 R117). -/
def pbufPut (s : State) (x : SectorNo) (ls : List StoredLine) : State :=
  let sl := sliceOfSector x
  let cur := (AMap.getD s.hc.pbuf sl []).filter (fun p => p.1 != x)
  let s := if 512 ≤ cur.length then s.bumpR Obj.PREFETCH_UNUSED else s
  let cur := if 512 ≤ cur.length then cur.drop 1 else cur
  { s with hc := { s.hc with pbuf := AMap.set s.hc.pbuf sl (cur ++ [(x, ls)]) } }

/-- Take a sector from the side buffer (05 R117). -/
def pbufTake (s : State) (x : SectorNo) : Option (List StoredLine × State) :=
  let sl := sliceOfSector x
  match (AMap.getD s.hc.pbuf sl []).find? (fun p => p.1 == x) with
  | some p => some (p.2, { s.bumpR Obj.PREFETCH_USED with hc := { s.hc with pbuf := AMap.set s.hc.pbuf sl ((AMap.getD s.hc.pbuf sl []).filter (fun q => q.1 != x)) } })
  | none => none

/-- Pages of host capacity (00 Table SC-1). -/
def capacityPages (s : State) : Nat := match s.variant with
  | .p128 => 26843545600
  | .p064 => 13421772800

/-- Request the prefetch of one sector at the slice that owns it (05 R116): from the page read cache at once, or by a media read. -/
def prefetchOne (s : State) (x : SectorNo) : State :=
  if capacityPages s ≤ pageOfSector x then s
  else
    let s := s.bumpR Obj.PREFETCH_ISSUED
    if pbufHas s x || s.ml.reads.any (fun r => r.why == .prefetch && r.pn == pageOfSector x && r.sector == x % 8) then s
    else match AMap.get? s.media.pcache x with
      | some ls => pbufPut s x ls
      | none => match mapGet s (pageOfSector x) with
        | some ppn => if mapUsable s (pageOfSector x) ∧ ¬ mapLost s (pageOfSector x) then
            issueRead s { id := 0, why := .prefetch, slice := sliceOfSector x, pn := pageOfSector x, sector := x % 8, ppn := ppn } else s
        | none => s

/-- A demand read that missed reaches the stream trackers if it fills the home cache by R112 (05 R116). `on`: as in `hcUpdate`. -/
def streamMiss (s : State) (on : Bool) (x : SectorNo) : State :=
  if s.robj Obj.PREFETCH_ENABLE = 0 ∨ ¬ on ∨ (cachingWays s (sliceOfSector x)).isEmpty then s
  else
    let sl := sliceOfSector x
    let ts := AMap.getD s.hc.trackers sl []
    let hit := ts.find? fun t => (t.1 + 1 == x || t.1 + 2 == x) && decide (s.now ≤ t.2 + 4000)
    let rest := match hit with
      | some h => ts.filter (fun t => t != h)
      | none => ts
    let s := { s with hc := { s.hc with trackers := AMap.set s.hc.trackers sl (((x, s.now) :: rest).take 16) } }
    if hit.isSome then
      (List.range (s.robj Obj.PREFETCH_DEPTH)).foldl (fun s i => prefetchOne s (x + i + 1)) s
    else s

end Sys2Proof.Machine
end

