-- ==== Sys2Proof/Machine/CwOps.lean ====
section
/-! DEFINITION. Operations of the control window (03 R67 to R81): the state of its regions, the completions that wait for an
effect, and the settling of barriers. -/
namespace Sys2Proof.Machine
open Sys2Proof

/-- The window bound to an agent (03 R67). -/
def windowOf (s : State) (port src : Nat) : Option Nat :=
  (s.mc.windows.find? (fun p => p.2.port == port && p.2.src == src)).map (·.1)
/-- A window. -/
def getWin (s : State) (w : Nat) : Window := AMap.getD s.mc.windows w {}

/-- The number of the window that an entry of the table is, or was: an entry beyond 32 holds the operations of a binding that has ended, which run to
their end (03 R69). -/
def cwNum (w : Nat) : Nat := (w - 1) % 32 + 1

/-- The access by which a window's write is counted. -/
def cwAcc (x : Window) (s : State) (excl tag : Nat) : Acc :=
  { id := 0, port := x.port, src := x.src, tag := tag, kind := .write, line := 0x4000000000000 / 64, at_ := s.now, excl := excl }

/-- The cause under which a completion held for its effect is excluded: 10, or a lower one that its write met (08 R197). -/
def heldCause (x : Window) (region tag : Nat) : Nat :=
  match x.heldLow.find? (fun h => h.1 == region && h.2.1 == tag) with
  | some h => min 10 h.2.2
  | none => 10

/-- Send the completions a window holds for a region whose state has left PENDING, or whose hold time has passed (03 R69).
Regions: 1 drain barrier, 2 mirror barrier, 3 reservation, 4 discard. They are excluded under cause 10, or a lower one (08 R196, R197). -/
def releaseHeld (s : State) (w region : Nat) : State :=
  let x := getWin s w
  let mine := x.heldCmp.filter (fun h => h.1 == region)
  let s := updWin s w fun x => { x with heldCmp := x.heldCmp.filter (fun h => h.1 != region), heldLow := x.heldLow.filter (fun h => h.1 != region) }
  mine.foldl (fun s h => countPath (respondNdr s x.port h.2 0) 4 (cwAcc x s (heldCause x region h.2) h.2)) s

/-- Complete a write to a register with effect: on arrival where early completion is permitted for its region (bit of
CW_EARLY_CMP), otherwise held for its effect (03 R69). -/
def holdOrComplete (s : State) (r : HostReq) (w region bit : Nat) : State :=
  let x := getWin s w
  if bitOf (s.robj Obj.CW_EARLY_CMP) bit then countPath (respondNdr s x.port r.tag 0) 4 { cwAcc x s r.excl r.tag with at_ := r.at_ }
  else updWin s w fun x => { x with
    heldCmp := x.heldCmp ++ [(region, r.tag)], heldLow := if r.excl = 0 then x.heldLow else x.heldLow ++ [(region, r.tag, r.excl)] }

/-- The outcome of a window's conditional store shows (03 R76). `result`: of Table MC-11; `state`: of Table MC-5. -/
def resvFinish (s : State) (w result loss state : Nat) : State :=
  let s := updWin s w fun x => { x with resv := none, storing := none, result := result, loss := loss, resvState := state }
  let s := s.bumpR (if result = 2 then Obj.RESV_SUCCESS else Obj.RESV_FAIL)
  releaseHeld s w 3

/-- Whether a window's reservation is held on a line. -/
def resvHeldOn (s : State) (w line : Nat) : Bool :=
  match (getWin s w).resv with
  | some (l, _) => l == line
  | none => false

/-- A conditional store whose reservation is no longer held fails (03 R76, Table MC-11). One that follows a lost reservation with no new
RESV_LOAD between, the first such store or a later one, reads FAIL_LOST with the loss's cause (DESIGN CHOICE for the later one, log 99). -/
def resvFail (s : State) (w : Nat) : State :=
  let x := getWin s w
  if x.result = 3 then resvFinish s w 3 x.loss 0 else resvFinish s w 4 0 0

/-- A RESV_LOAD is served at its word's conflict table and arms the reservation (03 R76, R77). It puts the region's state to PENDING also where a FAULT or
REJECTED stood: Table MC-5 has a held reservation read PENDING, while R70 keeps FAULT until an accepted write (DESIGN CHOICE, log 124). -/
def resvArms (s : State) (a : Acc) : State :=
  updWin s a.win fun x => { x with resv := some (a.line, a.db), resvWord := a.metaVal, loading := some a.id, storing := none, result := 1, loss := 0, resvState := 1 }

/-- A RESV_LOAD has its word (03 R76 to R79): poison ends the reservation it armed, unless a later RESV_LOAD has replaced it. -/
def resvLoaded (s : State) (a : Acc) (poison : Bool) : State :=
  updWin s a.win fun x => if x.loading ≠ some a.id then x
    else if poison then { x with resv := none, loading := none, result := 3, loss := 5, resvState := 0 }
    else { x with loading := none }

/-- A RESV_LOAD of an HDM-DB line while the domain is down arms nothing and reads FAULT (04 R106). -/
def resvFaults (s : State) (a : Acc) : State :=
  updWin s a.win fun x => { x with resv := none, loading := none, storing := none, result := 6, loss := 0, resvState := 4 }

/-- A conditional store is applied at its line's conflict table: the reservation ends there (03 R76), its outcome shows at the store's
completion point. -/
def resvApplied (s : State) (a : Acc) : State := updWin s a.win fun x => { x with resv := none, storing := some a.id }

/-- The word of a line that a reservation's load returns, in the first 8 bytes of its register line (03 R68). The access carries
the word's number in `metaVal`. -/
def wordOf (a : Acc) (data : LineData) : LineData := (data >>> (64 * (a.metaVal % 8))) &&& BitVec.ofNat 512 (2^64 - 1)

/-- A write has reached its completion point: its completion, or the outcome of the conditional store it is (03 R60, R76). The outcome of a
conditional store that a later operation of the window has overtaken is only counted. -/
def finishWrite (path : Nat) (a : Acc) (s : State) : State :=
  if a.kind = .resvStore then (if (getWin s a.win).storing = some a.id then resvFinish s a.win 2 0 2 else s.bumpR Obj.RESV_SUCCESS)
  else countPath (respondNdr s a.port a.tag 0) path a

/-- A write to a line loses the reservations that others hold on it (03 R79). -/
def loseLineResv (s : State) (line port src cause : Nat) : State :=
  loseResvWhere s cause fun x => (match x.resv with
    | some (l, _) => l == line
    | none => false) && !(x.port == port && x.src == src)

/-- Live staged writes that a drain barrier covers: staging orders below its mark, and the pages that hold them (03 R72). -/
def coveredPages (s : State) (mark : Nat) : List Nat :=
  (s.wharf.entries.filter (fun p => decide (p.2.seq < mark))).map (fun p => pageOfLine p.1)
    ++ (s.mc.cb.filter (fun p => decide (p.2.seq < mark))).map (fun p => pageOfLine p.1)

/-- The state a region shows as its pending operation ends with `st` (03 Table MC-8): that of the most recent operation, so that a FAULT or
REJECTED of a later write stays (R70). -/
def opEnds (now st : Nat) : Nat := if 4 ≤ now then now else st

/-- Settle one window's drain barrier (03 R72, R75): DONE when nothing it covers is staged, HELD when all that is left is
pinned. -/
def settleDrain (s : State) (w : Nat) : State :=
  match (getWin s w).drain with
  | none => s
  | some (token, mark) =>
    let left := coveredPages s mark
    if left.isEmpty then
      releaseHeld (updWin s w fun x => { x with drain := none, drainState := opEnds x.drainState 2, drainDone := token }) w 1
    else if left.all (fun pn => s.wharf.pinned.contains pn) then
      let s := releaseHeld (updWin s w fun x => { x with drain := none, drainState := opEnds x.drainState 3, drainDone := token }) w 1
      record (s.bumpR Obj.BARRIERS_HELD) Ev.BARRIER_HELD U.root 0xFFFF [cwNum w, token, s.robj Obj.HELD_PAGES]
    else s

/-- Settle every drain barrier. -/
def settleBarriers (s : State) : State := (s.mc.windows.map (·.1)).foldl settleDrain s

/-! Discards. -/

/-- Change the descriptor a window executes. -/
def updDiscard (s : State) (w : Nat) (f : Discard → Discard) : State :=
  updWin s w fun x => match x.queue with
    | d :: t => { x with queue := f d :: t }
    | [] => x

/-- A descriptor finishes (03 R81). -/
def finishDiscard (s : State) (w : Nat) : State :=
  let x := getWin s w
  match x.queue with
  | [] => s
  | d :: t =>
    let s := updWin s w fun x => { x with queue := t, discardDone := d.token, discardRan := true, discardState := opEnds x.discardState (if t.isEmpty then 2 else 1) }
    let s := record s Ev.DISCARD_DONE U.root 0xFFFF [cwNum w, d.token, d.count, usBetween d.started s.now]
    if t.isEmpty then releaseHeld s w 4 else s

/-- A page of a descriptor has been handled. -/
def discardNext (s : State) (w : Nat) : State :=
  let s := updDiscard (s.bumpR Obj.DISCARD_PAGES) w fun d => { d with active := false, next := d.next + 1 }
  match (getWin s w).queue with
  | d :: _ => if d.count ≤ d.next then finishDiscard s w else s
  | [] => s

/-- Whether an executing lighter is programming a page (07 R186). -/
def pageExecuting (s : State) (pn : PageNo) : Bool :=
  s.wharf.lighters.any fun l => l.state == 2 && l.pages.any fun d => d.pn == pn && d.srcPpn.isNone && !d.cancelled && !d.committed

/-- The UNMAP record of a page whose lines have all passed, and the release of its hidden slots (03 R81, 07 R186). A page already
UNMAPPED with no staged line gets no record; one whose map entry is lost is not UNMAPPED yet and gets one (R180, R181). -/
def unmapPage (s : State) (w : Nat) (d : Discard) : State :=
  let pn := d.base + d.next
  let mapped := (mapGet s pn).isSome || mapLost s pn
  let s := { s with dp := { s.dp with staleKept := s.dp.staleKept.filter fun l => pageOfLine l != pn } }
  if mapped || d.staged then
    if !journalRoom s then noteJournalFull s
    else
      let old := mapGet s pn
      let s := appendRecord s 3 pn unmapped (old.getD unmapped)
      let before := pageStaged s pn
      let s := { s with wharf := { s.wharf with
        entries := s.wharf.entries.filter (fun p => !(pageOfLine p.1 == pn && p.2.hidden)),
        markers := s.wharf.markers.filter (fun p => !(pageOfSector p.1 == pn && p.2.hidden)) } }
      let s := indexChange before pn s
      let s := { s with mc := { s.mc with discarding := s.mc.discarding.filter (· != pn), gone := s.mc.gone.filter (fun l => pageOfLine l != pn) } }
      let s := if s.wharf.pinned.contains pn ∧ ¬ pageStaged s pn then unpin s pn else s
      let s := match old with
        | some o => resetIfEmpty s (ppnSetKey o)
        | none => s
      discardNext (settleLevel (enqueuePage s pn)) w
  else discardNext (enqueuePage { s with mc := { s.mc with discarding := s.mc.discarding.filter (· != pn), gone := s.mc.gone.filter (fun l => pageOfLine l != pn) } } pn) w

/-- Settle one window's discard: once every line of the page has passed and no executing descriptor of it is uncommitted. -/
def settleDiscard (s : State) (w : Nat) : State :=
  match (getWin s w).queue with
  | d :: _ => if d.active ∧ d.left = 0 ∧ ¬ pageExecuting s (d.base + d.next) then unmapPage s w d else s
  | [] => s

/-- Settle every discard. -/
def settleDiscards (s : State) : State := (s.mc.windows.map (·.1)).foldl settleDiscard s

/-- Release the flush buffers of a replayed dump for erasure (01 R25, 11 R271), once every line replayed from them has drained and the
map changes are checkpointed; their dump keys are destroyed (10 R241). -/
def settleReplay (s : State) : State :=
  if !s.pw.replayed then s
  else
    let s := match s.pw.drainedAt with
      | some _ => s
      | none => if (s.wharf.entries.any fun p => p.2.replay) ∨ (s.wharf.markers.any fun p => p.2.replay) then s else { s with pw := { s.pw with drainedAt := some s.media.jnext } }
    match s.pw.drainedAt with
    | some j =>
      if j ≤ lowestFrontier s then
        let go (s : State) (b : Nat) : State :=
          if s.obj U.power (Obj.FLUSH_BUFFER_STATE + b) = 1 then
            let s := s.setObj U.power (Obj.FLUSH_BUFFER_STATE + b) 2
            if b = 1 then { s with dp := { s.dp with dumpKey0 := none } } else { s with dp := { s.dp with dumpKey1 := none } }
          else s
        syncRec (go (go { s with pw := { s.pw with replayed := false, drainedAt := none } } 1) 2) 7
      else s
    | none => s

/-- What follows in the same moment from slots released, pages pinned and levels changed. -/
def settle (s : State) : State := settleCredits (settleReplay (settleBarriers (settleDiscards s)))

end Sys2Proof.Machine
end

