-- ==== Sys2Proof/Machine/MirrorOps.lean ====
section
/-! DEFINITION. Operations of berths and of the berth mirror (05 R125 to R141). -/
namespace Sys2Proof.Machine
open Sys2Proof

/-- Whether a line lies in the berth window. -/
def isBerthLine (line : LineNo) : Bool := decide (berthBase / 64 ≤ line) && decide (line < (berthBase + 0x10000000) / 64)
/-- Berth offset of a line of the window, whose base is a multiple of its 256 MiB (01 Table AX-3). -/
def berthOff (line : LineNo) : Nat := line * 64 % 0x10000000
/-- The range in use that holds a berth offset (05 R127). -/
def rangeOf (s : State) (off : Nat) : Option (Nat × BerthRange) :=
  s.hc.ranges.find? fun p => p.2.mode != 0 && decide (p.2.base ≤ off) && decide (off < p.2.base + p.2.size)
/-- Whether a port's access to a berth line is inside what is in use (05 R128). -/
def berthAdmits (s : State) (line port : Nat) : Option BerthRange :=
  if berthSize s ≤ berthOff line then none
  else match rangeOf s (berthOff line) with
    | some p => if bitOf p.2.ports (port - 1) then some p.2 else none
    | none => none

/-- The contents of a berth line. -/
def berthLine (s : State) (line : LineNo) : BerthLine := AMap.getD s.hc.berth line {}
/-- Write a berth line: zero lines without poison are not listed. -/
def putBerth (s : State) (line : LineNo) (l : BerthLine) : State :=
  { s with hc := { s.hc with berth := if l = ({} : BerthLine) then AMap.del s.hc.berth line else AMap.set s.hc.berth line l } }

/-- Change the mirror. -/
def updMirror (s : State) (f : Mirror → Mirror) : State := { s with hc := { s.hc with mirror := f s.hc.mirror } }

/-- Whether the mirror is in RESYNC or IN_SYNC. -/
def mirrorUp (s : State) : Bool := mirState s == 2 || mirState s == 3

/-- Set a page's resynchronisation bit (05 R139). -/
def markPage (s : State) (page : Nat) : State :=
  let ins (l : List Nat) : List Nat := (l.filter (· < page)) ++ [page] ++ (l.filter (page < ·))
  updMirror s fun m => if m.bitmap.contains page then m else { m with bitmap := ins m.bitmap }
/-- Clear a page's bit. -/
def clearPage (s : State) (page : Nat) : State := updMirror s fun m => { m with bitmap := m.bitmap.filter (· != page) }
/-- The page of the berth that a line lies in. -/
def berthPage (line : LineNo) : Nat := berthOff line / 4096

/-- The network port the mirror uses (05 R134): the first in MIRROR_NET_PORTS whose unit is READY. -/
def mirrorPort (s : State) : Nat :=
  let mask := s.robj Obj.MIRROR_NET_PORTS
  if bitOf mask 0 ∧ unitState s (U.netPort 1) = 3 then 1
  else if bitOf mask 1 ∧ unitState s (U.netPort 2) = 3 then 2 else 0

/-- The bytes of a mirror record (05 Table HC-5): LINE and MASK big-endian, as R134 has the header's fields (DESIGN CHOICE, log 125), DATA in host byte
order. -/
def mirRecBytes (r : MirRec) : List Byte := beBytes 4 r.line ++ beBytes 8 r.mask.toNat ++ leBytes 64 r.data.toNat

/-- The bytes of a mirror frame before its HMAC (05 Table HC-4, HC-5). -/
def mirFrameBytes (type : Nat) (sync : Bool) (generation seq ack : Nat) (recs : List MirRec) : List Byte :=
  beBytes 1 type ++ beBytes 1 (b2n sync) ++ beBytes 2 recs.length ++ beBytes 4 generation ++ beBytes 8 seq ++ beBytes 8 ack ++ (recs.map mirRecBytes).flatten

/-- Send a frame of a type in the session (05 R134): its bytes under this module's generation and ACK_SEQ, and their HMAC. -/
def emitMirror (s : State) (type : Nat) (sync : Bool) (seq : Nat) (recs : List MirRec) : State :=
  let bs := mirFrameBytes type sync (s.robj Obj.PAIR_GENERATION) seq s.hc.mirror.rxSeq recs
  s.emit (.mirror (bs ++ beBytes 16 (macOf s.hc.mirror.key bs).toNat))

/-- The records of a frame as received. -/
def frameRecs (fr : MirrorFrame) : List MirRec := fr.records.map fun r => { line := r.1.toNat, mask := r.2.1, data := r.2.2 }

/-- Whether the HMAC of a frame received as of a type verifies under the session key (05 R134). -/
def frameOk (s : State) (type : Nat) (fr : MirrorFrame) : Bool :=
  fr.mac == macOf s.hc.mirror.key (mirFrameBytes type fr.sync fr.generation.toNat fr.seq.toNat fr.ackSeq.toNat (frameRecs fr))

/-- Transmit a DATA or RESYNC_DATA frame (05 R135). -/
def emitFrame (s : State) (f : MirFrame) : State := emitMirror s (if f.resync then 4 else 1) f.sync f.seq f.recs

/-- Send a frame with the next SEQ, or let it wait for the window of 16,384 (05 R135). -/
def sendFrame (s : State) (f : MirFrame) : State :=
  let q := s.hc.mirror.txSeq + 1
  let f := { f with seq := q, at_ := s.now, last := s.now }
  let s := updMirror s fun m => { m with txSeq := q }
  let s := s.bumpN U.root Obj.MIRROR_RECORDS_TX f.recs.length
  let s := pcCount s 0x1A (U.netPort (s.robj Obj.MIRROR_PORT_NOW)) none f.recs.length
  if s.hc.mirror.unacked.length < 16384 then
    emitFrame (updMirror s fun m => { m with unacked := m.unacked ++ [f] }) f
  else updMirror s fun m => { m with waitSend := m.waitSend ++ [f] }

/-- Apply a write's bytes to berth SRAM (05 R127, R131). -/
def berthStore (s : State) (a : Acc) : State :=
  let s := putBerth s a.line ((berthLine s a.line).write a.data a.mask a.poison)
  loseLineResv s a.line a.port a.src 1

/-- The record of a write: poisoned bytes are left out of MASK (10 Table DP-3). -/
def mirrorRec (a : Acc) : MirRec := { line := berthOff a.line / 64, mask := if a.poison then 0 else a.mask, data := a.data }

/-- The state after a record of a primary range is sent live, which in RESYNC marks its page again if the page's copy is still in
flight (05 R139). -/
def sendLive (s : State) (a : Acc) (sync : Bool) : State :=
  let s := sendFrame s { seq := 0, resync := false, sync := sync, async := !sync, recs := [mirrorRec a] }
  let pg := berthPage a.line
  if mirState s = 2 ∧ AMap.has s.hc.mirror.inFlight pg then
    let s := markPage s pg
    updMirror s fun m => { m with inFlight := AMap.del m.inFlight pg, toSend := m.toSend ++ [pg], resyncing := true }
  else s

/-- A write to a berth line that has entered its conflict table (05 Table HC-2, R136, R137). -/
def berthWrite (s : State) (a : Acc) : State :=
  match berthAdmits s a.line a.port with
  | none => finishWrite 1 a (s.bumpR Obj.BERTH_DENIED)
  | some r =>
    if r.mode = 4 then finishWrite 1 a (s.bumpR Obj.BERTH_DENIED)
    else
      let s := berthStore s a
      if r.mode = 1 then finishWrite 1 a s
      else if mirrorUp s then
        if r.mode = 2 then
          let s := sendLive s a true
          updMirror s fun m => { m with heldSync := m.heldSync ++ [(m.txSeq, a.delayed 3)] }
        else finishWrite 1 a (sendLive s a false)
      else finishWrite 1 a (markPage s (berthPage a.line))

/-- Whether an access to a berth line stores: a write or a conditional store (03 R76). -/
def berthStores (a : Acc) : Bool := a.kind == .write || a.kind == .resvStore

/-- Whether a store to a berth line waits ahead of its conflict table for the mirror's lag (05 R137). -/
def lagHolds (s : State) (a : Acc) : Bool :=
  berthStores a && match berthAdmits s a.line a.port with
  | some r => r.mode == 3 && mirrorUp s && decide (s.robj Obj.MIRROR_LAG_MAX * 1024 ≤ mirrorLag s)
  | none => false

/-- A read of a berth line (05 R128, R131). -/
def berthRead (s : State) (a : Acc) : State :=
  match berthAdmits s a.line a.port with
  | none => countPath (respondDrs (s.bumpR Obj.BERTH_DENIED) a.port a.tag 0 false 0) 1 a
  | some _ =>
    let l := berthLine s a.line
    countPath (respondDrs s a.port a.tag l.data (l.poison != 0) 0) 1 a

/-- Whether an access to a berth line is held: a write by the mirror's lag (05 R137) or while no flush buffer can take a dump (11 R271,
held as in 06 R160), and any access behind a held one of its line. -/
def berthHolds (s : State) (a : Acc) (before : List Acc) : Bool :=
  before.any (fun b => b.line == a.line) || (berthStores a && (lagHolds s a || dumpBlocked s))

/-- The load of a reservation on a berth word (03 R76, R78). -/
def berthLoad (s : State) (a : Acc) : State :=
  let s := resvArms s a
  let l := berthLine s a.line
  countPath (respondDrs (resvLoaded s a (l.poison != 0)) a.port a.tag (wordOf a l.data) (l.poison != 0) 0) 1 a

/-- An access to a berth line takes its turn; one that came with its own credit returns it (02 R45). -/
def berthServe (s : State) (a : Acc) : State :=
  let s := if a.holds then giveCredit s a.port (decide (a.kind = .write)) else s
  match a.kind with
  | .read => berthRead s a
  | .resvLoad => berthLoad s a
  | .resvStore => if resvHeldOn s a.win a.line then berthWrite (resvApplied s a) a else resvFail s a.win
  | _ => berthWrite s a

/-- The cause of Table ML-2 by which a held access is excluded (08 R197): 2 for the hold of 11 R271, 3 for the mirror's lag, and that of the
access it waits behind. -/
def berthDelay (s : State) (a : Acc) (before : List Acc) : Acc :=
  let a := match before.find? (fun b => b.line == a.line) with
    | some b => if b.excl = 0 then a else a.delayed b.excl
    | none => a
  let a := if lagHolds s a then a.delayed 3 else a
  if berthStores a && dumpBlocked s then a.delayed 2 else a

/-- An access to a berth line arrives at its conflict table, or waits ahead of it with its credit. -/
def berthEnter (s : State) (a : Acc) : State :=
  if berthHolds s a s.hc.mirror.heldAsync then
    updMirror s fun m => { m with heldAsync := m.heldAsync ++ [berthDelay s a m.heldAsync] }
  else berthServe s a

/-- Held berth accesses enter, in order of arrival, while nothing holds them any longer. -/
def releaseBerth (s : State) : State :=
  s.hc.mirror.heldAsync.foldl (fun s a =>
    if berthHolds s a (s.hc.mirror.heldAsync.takeWhile fun b => b.id != a.id) then s
    else berthServe (updMirror s fun m => { m with heldAsync := m.heldAsync.filter fun b => b.id != a.id }) a) s

/-! Acknowledgements and the end of a session. -/

/-- Complete the synchronous writes that an acknowledgement covers, or all when the peer is lost (05 R136). -/
def releaseSync (s : State) (upTo : Option Nat) : State :=
  let done := s.hc.mirror.heldSync.filter fun p => match upTo with
    | some q => decide (p.1 ≤ q)
    | none => true
  let s := updMirror s fun m => { m with heldSync := m.heldSync.filter fun p => match upTo with
    | some q => decide (q < p.1)
    | none => false }
  done.foldl (fun s p => finishWrite 1 p.2 s) s

/-- Send what waited for the window, oldest first. -/
def refillWindow (s : State) : State :=
  let room := 16384 - s.hc.mirror.unacked.length
  let go := s.hc.mirror.waitSend.take room
  let s := updMirror s fun m => { m with unacked := m.unacked ++ go, waitSend := m.waitSend.drop room }
  go.foldl emitFrame s

/-- Settle one window's mirror barrier (03 R73, 05 R138). -/
def settleMirrorBarrier (s : State) (w : Nat) : State :=
  match (getWin s w).mirror with
  | none => s
  | some (token, seq) =>
    if mirState s = 3 ∧ seq ≤ s.hc.mirror.acked then
      releaseHeld (updWin s w fun x => { x with mirror := none, mirrorState := opEnds x.mirrorState 2, mirrorDone := token }) w 2
    else s

/-- Settle every mirror barrier. -/
def settleMirror (s : State) : State := (s.mc.windows.map (·.1)).foldl settleMirrorBarrier s

/-- A mirror barrier reads FAULT (03 R73). -/
def faultMirrorBarrier (s : State) (w token : Nat) : State :=
  let lag := mirrorLag s
  let s := releaseHeld (updWin s w fun x => { x with mirror := none, mirrorState := 4 }) w 2
  record s Ev.MIRROR_BARRIER_FAULT U.root 0xFFFF [cwNum w, token, mirState s, lag]

/-- The mirror's state changes. -/
def setMirState (s : State) (st : Nat) : State := s.setR Obj.MIRROR_STATE st

/-- The session ends (05 R138, R139, R141): the pages of records not acknowledged are marked, writes held for an acknowledgement
complete, writes held by the lag enter, and pending mirror barriers read FAULT. -/
def endMirrorSession (s : State) (newState : Nat) : State :=
  let lost := s.hc.mirror.unacked ++ s.hc.mirror.waitSend
  let barriers := (s.mc.windows.filterMap fun p => p.2.mirror.map fun b => (p.1, b.1))
  let s := (lost.map fun f => f.recs).flatten.foldl (fun s r => markPage s (r.line / 64)) s
  let lag := mirrorLag s
  let s := updMirror s fun m => { m with unacked := [], waitSend := [], toSend := [], inFlight := [], resyncing := false, ackOwed := false }
  let s := setMirState s newState
  let s := barriers.foldl (fun s p =>
    let s := releaseHeld (updWin s p.1 fun x => { x with mirror := none, mirrorState := opEnds x.mirrorState 4 }) p.1 2
    record s Ev.MIRROR_BARRIER_FAULT U.root 0xFFFF [cwNum p.1, p.2, newState, lag]) s
  releaseBerth (releaseSync s none)

/-- Enter IN_SYNC once every page has been sent and acknowledged both ways (05 R139). The berths are whole again, and BERTH_INTACT reads 1
(DESIGN CHOICE, log 32). -/
def settleSync (s : State) : State :=
  if mirState s = 2 ∧ ¬ s.hc.mirror.resyncing ∧ s.hc.mirror.rxDone then
    let s := updMirror (syncRec ((setMirState s 3).setR Obj.BERTH_INTACT 1) 5) fun m => { m with fullOwed := false }
    settleMirror (record s Ev.MIRROR_IN_SYNC U.root 0xFFFF [s.hc.mirror.sentPages, s.robj Obj.PAIR_GENERATION])
  else s

/-- ACK_SEQ advances (05 R135, R136, R139): frames leave the window, held writes complete, acknowledged pages leave the bitmap. -/
def ackAdvance (s : State) (ack : Nat) : State :=
  if ack ≤ s.hc.mirror.acked ∨ s.hc.mirror.txSeq < ack then s
  else
    let donePages := (s.hc.mirror.inFlight.filter fun p => decide (p.2 ≤ ack)).map (·.1)
    let s := updMirror s fun m => { m with acked := ack, unacked := (m.unacked.filter fun f => decide (ack < f.seq)).map (fun f => { f with last := s.now }), inFlight := m.inFlight.filter fun p => decide (ack < p.2) }
    let s := donePages.foldl (fun s p => if s.hc.mirror.toSend.contains p then s else clearPage s p) s
    let s := refillWindow (releaseSync s (some ack))
    settleMirror s

end Sys2Proof.Machine
end

