-- ==== Sys2Proof/Machine/DirOps.lean ====
section
/-! DEFINITION. The directory's entries, snoops and the rows of Table CD-4 (04 R86 to R104). -/
namespace Sys2Proof.Machine
open Sys2Proof

/-- Change the directory. -/
def updDir (s : State) (f : Directory → Directory) : State := { s with dir := f s.dir }

/-- Note the use of a way (04 R95). -/
def dirTouch (s : State) (x : SectorNo) (w : Nat) : State :=
  let k := 49152 * sliceOfSector x + dirSet x
  updDir s fun d => { d with plru := AMap.set d.plru k (plruTouch (AMap.getD d.plru k 0) w) }

/-- Write an entry: it is freed when every line is I (04 R94). -/
def putEntry (s : State) (x : SectorNo) (w : Nat) (e : DirEntry) : State :=
  updDir s fun d => { d with entries := if e.lstate = 0 then AMap.del d.entries (dirKey x w) else AMap.set d.entries (dirKey x w) e }

/-- Whether a way of a set is held by an error recall that frees it at its end (04 R104). -/
def wayHeld (s : State) (key : Nat) : Bool := s.dir.txs.any fun t => t.kind == 2 && (t.key == key || t.more.contains key)

/-- Whether a way of a sector's set is free: it holds no entry and no error recall keeps it (04 R95, R104). -/
def wayFree (s : State) (x : SectorNo) (w : Nat) : Bool := !AMap.has s.dir.entries (dirKey x w) && !wayHeld s (dirKey x w)

/-- Put a line into a state, adding sharers; an entry is installed in a free way where the sector has none (04 R94, R95). -/
def setDirLine (s : State) (line : LineNo) (st add : Nat) : State :=
  let x := sectorOfLine line
  match dirWay s x with
  | some w =>
    let e := (AMap.getD s.dir.entries (dirKey x w) { sector := x, lstate := 0, sharers := 0 })
    let s := putEntry s x w { e with lstate := withLine e.lstate (line % 8) st, sharers := e.sharers ||| add }
    if add = 0 then s else dirTouch s x w
  | none =>
    if st = 0 then s
    else match (List.range 16).find? (wayFree s x) with
      | some w => dirTouch (putEntry s x w { sector := x, lstate := withLine 0 (line % 8) st, sharers := add }) x w
      | none => s

/-! Agents in a sharer set. -/

/-- The bit of an agent slot in SHARERS; 0 for none. -/
def slotBit (slot : Nat) : Nat := if slot < 32 then 2^slot else 0
/-- The slots of a sharer set that are in use. -/
def slotsOf (s : State) (v : Nat) : List Nat := (List.range 32).filter fun i => bitOf v i && AMap.has s.hp.slots i
/-- V without an agent's bit: O of Table CD-4. -/
def others (v slot : Nat) : Nat := v &&& (0xFFFFFFFF ^^^ slotBit slot)

/-- The snoop that an access needs, and to whom (04 Table CD-4): kind 1 BISnpInv, 2 BISnpData, 3 BISnpCur. -/
def snoopPlan (a : Acc) (st v : Nat) : Option (Nat × Nat) :=
  let o := others v a.slot
  let some_ (k t : Nat) : Option (Nat × Nat) := if t = 0 then none else some (k, t)
  match a.kind with
  | .read =>
    if a.aliased then (if st = 2 then some_ 2 v else none)
    else if a.metaVal = 0 then (if st = 2 then some_ 3 o else none)
    else if a.metaVal = 2 then (if st ≠ 0 then some_ 1 o else none)
    else (if st = 2 then some_ 2 o else none)
  | .inv => if st ≠ 0 then some_ 1 o else none
  | .write => if st ≠ 0 then some_ 1 (if a.aliased then v else o) else none
  | .cleanEvict => none
  | .resvLoad => if st = 2 then some_ 2 v else none
  | .resvStore | .discard => if st ≠ 0 then some_ 1 v else none
  | .agentRecall => if st ≠ 0 then some_ 1 (v &&& slotBit a.slot) else none

/-- The line's next state and the sharers it gains (04 Table CD-4), by the responses where snoops were sent. -/
def nextLineState (a : Acc) (st v : Nat) (anyE anyS : Bool) : Nat × Nat :=
  let o := others v a.slot
  let me := slotBit a.slot
  match a.kind with
  | .read =>
    if a.aliased then (if st = 2 then (if anyS then 1 else 0) else st, 0)
    else if a.metaVal = 0 then (if st = 2 ∧ o ≠ 0 then (if anyE then 2 else if anyS then 1 else 0) else st, 0)
    else if a.metaVal = 1 then (1, me)
    else if a.metaVal = 3 then (if st = 0 then 2 else 1, me)
    else (2, me)
  | .inv => (2, me)
  | .write =>
    if a.aliased then (0, 0)
    else if a.metaVal = 0 then (0, 0) else if a.metaVal = 1 then (1, me) else (2, me)
  | .cleanEvict => (if o = 0 then 0 else st, 0)
  | .resvLoad => (if st = 2 then (if anyS then 1 else 0) else st, 0)
  | .resvStore | .discard => (0, 0)
  | .agentRecall => (st, 0)

/-! Snoops. -/

/-- Send a snoop if its port's link is up, no port-local reason fences it, the host grants a credit and nothing waits before it
(04 R92, R102). -/
def trySnoop (s : State) (sn : Snoop) : State :=
  let p := getPort s sn.port
  if sn.sent ∨ ¬ linkMem s sn.port ∨ fencedLocal s sn.port ∨ ¬ p.outq.isEmpty ∨ p.bisnp = 0 ∨ s.phase ≠ .running then s
  else
    let s := putPort s sn.port { p with bisnp := p.bisnp - 1 }
    let s := s.bumpR (if sn.kind = 1 then Obj.BISNP_INV else if sn.kind = 2 then Obj.BISNP_DATA else Obj.BISNP_CUR)
    let s := pcCount s 0x0B (U.port sn.port) (some (sliceOfLine sn.line)) 1
    let s := updDir s fun d => { d with snoops := d.snoops.map fun q => if q.id = sn.id then { q with sent := true } else q }
    s.emit (.bisnp sn.port sn.src (AMap.getD s.hp.slots sn.slot { state := 0, port := 0, src := 0, biId := 0, enrolledAt := 0 }).biId sn.line sn.kind sn.id)

/-- Generate snoops of a transaction for a line to slots. -/
def genSnoops (s : State) (tx line kind : Nat) (slots : List Nat) : State :=
  slots.foldl (fun s i =>
    let a := AMap.getD s.hp.slots i { state := 1, port := 0, src := 0, biId := 0, enrolledAt := 0 }
    let sn : Snoop := { id := s.dir.nextId, tx := tx, slot := i, port := a.port, src := a.src, line := line, kind := kind, accMark := s.dir.nextAcc }
    trySnoop (updDir s fun d => { d with snoops := d.snoops ++ [sn], nextId := d.nextId + 1 }) sn) s

/-- The snoops of a transaction not answered. -/
def txSnoops (s : State) (tx : Nat) : List Snoop := s.dir.snoops.filter (fun q => q.tx == tx)

/-- Whether an agent has been snooped for a line and has not answered (04 R99). -/
def snoopedNow (s : State) (slot line : Nat) : Bool := s.dir.snoops.any fun q => q.slot == slot && q.line == line

/-- Whether an open transaction keeps an access waiting (04 R93, R97): one on its line, which may wait for a way or for the media, or an
eviction or error recall of its sector. -/
def txBlocks (s : State) (line : LineNo) : Bool :=
  (s.dir.txs.any fun t => t.accs.any (fun a => a.line == line) || (t.kind != 0 && t.sector == sectorOfLine line))
    || s.dir.retry.any (fun r => r.acc.line == line) || txAnswering s fun l => l == line

/-- A line whose last snoop of an eviction or of an error recall has been answered becomes I; the entry is freed when every line is (04 Table CD-4, R94). -/
def clearLine (s : State) (line : LineNo) : State :=
  match dirWay s (sectorOfLine line) with
  | some w =>
    let e := AMap.getD s.dir.entries (dirKey (sectorOfLine line) w) { sector := sectorOfLine line, lstate := 0, sharers := 0 }
    putEntry s (sectorOfLine line) w { e with lstate := withLine e.lstate (line % 8) 0 }
  | none => s

/-- Open a transaction of an access for its snoops (04 R93). -/
def openTx (s : State) (a : Acc) (kind : Nat) (slots : List Nat) : State :=
  let id := s.dir.nextId
  let t : Tx := { id := id, kind := 0, line := a.line, sector := sectorOfLine a.line, accs := [{ a.delayed 1 with tx := true }], since := s.now }
  genSnoops (updDir s fun d => { d with txs := d.txs ++ [t], nextId := id + 1 }) id a.line kind slots

/-- Open the eviction of a way's entry for the access that needs it (04 R95): BISnpInv for each of its lines in S or E. -/
def openEvict (s : State) (key : Nat) (e : DirEntry) (a : Acc) : State :=
  let id := s.dir.nextId
  let t : Tx := { id := id, kind := 1, sector := e.sector, key := key, accs := [{ a.delayed 1 with tx := true }], since := s.now }
  let s := (updDir s fun d => { d with txs := d.txs ++ [t], nextId := id + 1 }).bumpR Obj.DIR_EVICTIONS
  (List.range 8).foldl (fun s i => if lineOf e.lstate i = 0 then s else genSnoops s id (e.sector * 8 + i) 1 (slotsOf s e.sharers)) s

/-- The victim way of a set (04 R95): the least recently used that is not busy. -/
def dirVictim (s : State) (x : SectorNo) : Option Nat :=
  let ok (w : Nat) : Bool := match AMap.get? s.dir.entries (dirKey x w) with
    | some e => !sectorBusy s e.sector
    | none => false
  plruVictim (AMap.getD s.dir.plru (49152 * sliceOfSector x + dirSet x) 0) ok 4 0

/-- Whether a set has a free way. -/
def dirFree (s : State) (x : SectorNo) : Bool := (List.range 16).any (wayFree s x)

end Sys2Proof.Machine
end

