-- ==== Sys2Proof/Machine/Access.lean ====
section
/-! DEFINITION. An access at its line's conflict table: serving reads and writes, combining buffers, directory transactions, and
the accesses that wait (01 R14 to R17, 03 R60 to R63, 04 R93 to R104). -/
namespace Sys2Proof.Machine
open Sys2Proof

/-! Values. -/

/-- The home value of a line from its base and its live wharf slots (01 R17): a staged entry's bytes override, and a stale marker, which
a full write clears, makes what it covers stale (04 R108). A line that a discard has passed has no base (03 R81). -/
def homeLine (s : State) (line : LineNo) (b0 : StoredLine) : LineData × Bool :=
  let b : StoredLine := if s.mc.gone.contains line then {} else b0
  let stale (m : Nat) : Bool := markPoison (if markerCovers s line then (if m = 1 ∨ m = 3 then 3 else 2) else m) (staleReadOf s line)
  match stagedEntry s line with
  | some e => if e.mask = fullMask then (e.data, e.poison || stale 0) else (overlay b.data e.data e.mask, e.poison || stale b.mark)
  | none => (b.data, stale b.mark)

/-- A line's value (01 R17): the bytes of its combining-buffer entry, which have completed, override its home value (03 R62, R63).
Poison widens to the line (10 R233). -/
def mergedLine (s : State) (line : LineNo) (b : StoredLine) : BerthLine :=
  let h := homeLine s line b
  let all (p : Bool) : ByteMask := if p then fullMask else 0
  match AMap.get? s.mc.cb line with
  | some e => { data := overlay h.1 e.data e.mask, poison := all (h.2 || e.poison != 0) }
  | none => { data := h.1, poison := all h.2 }

/-- The value of each line of a sector, staged bytes merged (05 R112). -/
def mergedSector (s : State) (x : SectorNo) (ls : List StoredLine) : List BerthLine :=
  (List.range 8).map fun i => mergedLine s (x * 8 + i) (ls.getD i {})

/-! Writes. -/

/-- Stage the newest bytes of a line; a full write, or a partial one where stale lines read old data, clears a stale marker (04
R108). -/
def stageLine (s : State) (line : LineNo) (data : LineData) (mask : ByteMask) (poison : Bool) (seq : Nat) : State :=
  let s := if mask = fullMask ∨ staleReadOf s line = 1 then clearMarker s line else s
  enqueuePage (stageAt s line data mask poison seq) (pageOfLine line)

/-- Append a line's combining-buffer entry to the wharf (03 R62); poison widens to the line (10 R233). -/
def appendCb (s : State) (line : LineNo) : State :=
  match AMap.get? s.mc.cb line with
  | none => s
  | some e =>
    let s := { s with mc := { s.mc with cb := AMap.del s.mc.cb line } }
    stageLine s line e.data e.mask (e.poison != 0) e.seq

/-- Combining-buffer entries of a slice. -/
def cbOf (s : State) (sl : Nat) : AMap CbEntry := s.mc.cb.filter fun p => sliceOfLine p.1 == sl

/-- The oldest entry of a slice's combining buffer. -/
def oldestCb (s : State) (sl : Nat) : Option Nat :=
  ((cbOf s sl).foldl (fun b p => match b with
    | none => some (p.1, p.2.seq)
    | some q => if p.2.seq < q.2 then some (p.1, p.2.seq) else some q) none).map (·.1)

/-- Merge a partial write into its line's combining-buffer entry, or give it an entry (03 R62). -/
def combine (s : State) (a : Acc) : State :=
  let sl := sliceOfLine a.line
  let pz : ByteMask := if a.poison then a.mask else 0
  match AMap.get? s.mc.cb a.line with
  | some e =>
    let e' : CbEntry := { e with data := overlay e.data a.data a.mask, mask := e.mask ||| a.mask, poison := (e.poison &&& ~~~ a.mask) ||| pz }
    let s := { s with mc := { s.mc with cb := AMap.set s.mc.cb a.line e' } }
    let s := pcCount (s.bumpR Obj.COMBINED_WRITES) 0x09 (U.port a.port) (some sl) 1
    if e'.mask = fullMask then appendCb s a.line else s
  | none =>
    let s := if 256 ≤ (cbOf s sl).length then (match oldestCb s sl with
        | some l => appendCb s l
        | none => s) else s
    let q := s.wharf.nextSeq
    let e : CbEntry := { data := a.data &&& maskBits a.mask, mask := a.mask, poison := pz, seq := q }
    { s with mc := { s.mc with cb := AMap.set s.mc.cb a.line e }, wharf := { s.wharf with nextSeq := q + 1 } }

/-- Stage a write as the newest of its line. -/
def stageNewest (s : State) (a : Acc) : State :=
  stageLine { s with wharf := { s.wharf with nextSeq := s.wharf.nextSeq + 1 } } a.line a.data a.mask a.poison s.wharf.nextSeq

/-- Whether a partial write bypasses the combining buffer (03 R62): its line has no entry, all 256 are in use, and every one of them
is already being appended, which the write reports. -/
def bypasses (s : State) (a : Acc) (bypass : Bool) : Bool :=
  bypass && !AMap.has s.mc.cb a.line && decide (256 ≤ (cbOf s (sliceOfLine a.line)).length)

/-- A bulk write takes effect (01 R15): staged behind what its line's combining-buffer entry holds, or combined; the home-cache copy
is updated, and reservations of others are lost. -/
def applyBulk (s : State) (a : Acc) (bypass : Bool) : State :=
  let s := if a.mask = fullMask then stageNewest (appendCb s a.line) a else if bypasses s a bypass then stageNewest s a else combine s a
  let s := hcUpdate s (a.cached || hcOn s) a.line a.data a.mask a.poison
  loseLineResv s a.line a.port a.src 1

/-! Reads. -/

/-- Answer the BIConflicts of an agent on a line whose earlier requests have all been answered (04 R101). -/
def settleAcks (s : State) : State :=
  let busy (k : Nat × Nat × Nat × Nat × Nat) : Bool :=
    let p (a : Acc) : Bool := a.port == k.1 && a.src == k.2.1 && a.line == k.2.2.1 && decide (a.id < k.2.2.2.2)
    s.ml.reads.any (fun r => !r.delivered && r.accs.any p) || s.dir.waiting.any p || s.dir.txs.any (fun t => t.accs.any p)
  let go := s.dir.acks.filter fun k => !busy k
  let s := updDir s fun d => { d with acks := d.acks.filter busy }
  go.foldl (fun s k => if responds s k.1 then sendS2m s k.1 0 (.biConflictAck k.1 k.2.2.2.1 (devLoad s k.1)) else s) s

/-- Send a read's data and count it (08 R196). A read of an HDM-DB line answers poison while the domain is down (04 R106). -/
def deliverReadX (s : State) (a : Acc) (path : Nat) (data : LineData) (poison : Bool) (mv : Nat) (more : List (Nat × Nat)) : State :=
  if a.kind = .resvLoad then
    if a.db ∧ domainIsDown s then respondDrs (resvFaults s a) a.port a.tag 0 false 0
    else countPathX (respondDrs (resvLoaded s a poison) a.port a.tag (wordOf a data) poison 0) path a more
  else if a.db ∧ domainIsDown s then respondDrs s a.port a.tag 0 true 0
  else countPathX (respondDrs s a.port a.tag data poison mv) path a more

/-- Send a read's data and count it. -/
def deliverRead (s : State) (a : Acc) (path : Nat) (data : LineData) (poison : Bool) (mv : Nat) : State :=
  deliverReadX s a path data poison mv []

/-- The MetaValue a read's response carries: 0 I, 1 S, 2 A (04 Table CD-4). It stands in the access until the response. -/
def grantOf (a : Acc) (st : Nat) : Nat :=
  if a.aliased ∨ ¬ a.db ∨ a.kind ≠ .read then 0
  else if a.metaVal = 0 then 0 else if a.metaVal = 1 then 1 else if a.metaVal = 2 then 2 else if st = 2 then 2 else 1

/-- Fill the caches by the access's placement from a sector's contents (05 R112, 03 Table MC-14): the home cache for placement
1, the HBM page read cache for placement 2. -/
def fillFor (s : State) (a : Acc) (x : SectorNo) (ls : List StoredLine) (fromCache : Bool) : State :=
  if a.place = 1 then hcFill s (a.cached || hcOn s) x (mergedSector s x ls)
  else if a.place = 2 ∧ ¬ fromCache ∧ ¬ s.mc.discarding.contains (pageOfSector x) then
    pcachePut s x ls
  else s

/-- Read the rest of a page into the HBM page read cache (03 Table MC-14, 04 R92). -/
def fillPage (s : State) (pn ppn : Nat) (but : Nat) : State :=
  (List.range 8).foldl (fun s i =>
    if i = but ∨ AMap.has s.media.pcache (pn * 8 + i) ∨ s.ml.reads.any (fun r => r.pn == pn && r.sector == i && r.ppn == ppn) then s
    else issueRead s { id := 0, why := .fill, pn := pn, sector := i, ppn := ppn }) s

/-- Read a line's sector from the media (08 R199). The access keeps the staged bytes it saw (01 R17). -/
def mediaRead (s : State) (a : Acc) (ppn mv : Nat) : State :=
  let x := sectorOfLine a.line
  let pn := pageOfLine a.line
  let a : Acc := match stagedEntry s a.line with
    | some e => { a with data := e.data, mask := e.mask, poison := e.poison || (markerCovers s a.line && staleReadOf s a.line == 0), metaVal := mv }
    | none => { a with data := 0, mask := 0, poison := markerCovers s a.line && staleReadOf s a.line == 0, metaVal := mv }
  let s := if a.place = 1 then streamMiss s (a.cached || hcOn s) x else s
  let s := issueRead s { id := 0, why := .demand, accs := [a], pn := pn, sector := x % 8, ppn := ppn }
  if a.place = 2 then fillPage s pn ppn (x % 8) else s

/-- Serve a read by the read order of R17. One of a lost map segment or chunk, answered with poison without the media, counts on path 2 of 08 R196 (DESIGN
CHOICE, log 128). -/
def serveRead (s : State) (a : Acc) (mv : Nat) : State :=
  let x := sectorOfLine a.line
  let pn := pageOfLine a.line
  match (if a.cached || hcOn s then hcGet s a.line else none) with
  | some (l, w) => deliverRead (hcTouch (s.bumpR Obj.HC_HITS) x w) a 1 l.data (l.poison != 0) mv
  | none =>
    let s := if filterPresent s pn ∧ ¬ pageStaged s pn then s.bumpR Obj.FILTER_FALSE_HITS else s
    let whole : Bool := match stagedEntry s a.line with
      | some e => e.mask == fullMask
      | none => false
    let value (b : StoredLine) : BerthLine := mergedLine s a.line b
    let answer (s : State) (b : StoredLine) : State := deliverRead s a 2 (value b).data ((value b).poison != 0) mv
    if whole ∨ s.mc.gone.contains a.line then answer s {}
    else match pbufTake s x with
      | some (ls, s) => answer (fillFor s a x ls true) (ls.getD (a.line % 8) {})
      | none => match AMap.get? s.media.pcache x with
        | some ls =>
          let s := if a.place = 1 then streamMiss s (a.cached || hcOn s) x else s
          answer (fillFor s a x ls true) (ls.getD (a.line % 8) {})
        | none =>
          if mapLost s pn then deliverRead s a 2 0 true mv
          else match mapGet s pn with
            | none => answer s {}
            | some ppn => mediaRead s a ppn mv

/-! Recalls of agents and discards. -/

/-- Whether recalls for an agent slot are still waited for, on the lines that a test picks. -/
def recallLeft (s : State) (slot : Nat) (q : LineNo → Bool) : Bool :=
  let p (a : Acc) : Bool := a.kind == .agentRecall && a.slot == slot && q a.line
  s.dir.waiting.any p || s.dir.txs.any (fun t => t.accs.any p) || s.dir.retry.any (fun r => p r.acc)

/-- Free an agent slot (02 R42, R43). -/
def freeSlot (s : State) (slot : Nat) : State :=
  match AMap.get? s.hp.slots slot with
  | none => s
  | some x =>
    let s := { s with hp := { s.hp with slots := AMap.del s.hp.slots slot } }
    record s Ev.AGENT_WITHDRAWN (U.port x.port) (0x300 + slot) [slot, x.port, x.src, x.recalled]

/-- Whether a line lies in a decoder's range. -/
def Decoder.covers (d : Decoder) (l : LineNo) : Bool := decide (d.dpa ≤ l * 64 ∧ l * 64 < d.dpa + d.size)

/-- What follows as recalls of an agent complete (02 R42, R43): a withdrawing decoder leaves the committed state once every recall of its
range has, and a slot without HDM-DB decoders is freed once all have. -/
def recallsDone (s : State) (slot : Nat) : State :=
  match AMap.get? s.hp.slots slot with
  | none => s
  | some x =>
    let stays (d : Decoder) : Bool := !d.withdrawing || recallLeft s slot d.covers
    let s := updAgent s x.port x.src fun a => { a with decoders := a.decoders.filter fun d => stays d.2 }
    let left := match findAgent s x.port x.src with
      | some a => dbDecoders a
      | none => 0
    if recallLeft s slot (fun _ => true) then s
    else if left = 0 then freeSlot s slot
    else { s with hp := { s.hp with slots := AMap.set s.hp.slots slot { x with state := 1, recalled := 0 } } }

/-- An agent recall of one line completes (04 Table CD-4). -/
def recallServed (s : State) (a : Acc) (snooped : Bool) : State :=
  let x := sectorOfLine a.line
  let s := if snooped then (match AMap.get? s.hp.slots a.slot with
      | some r => { s with hp := { s.hp with slots := AMap.set s.hp.slots a.slot { r with recalled := r.recalled + 1 } } }
      | none => s) else s
  let s := if recallLeft s a.slot (fun l => sectorOfLine l == x) then s
    else match dirWay s x with
      | some w =>
        let e := AMap.getD s.dir.entries (dirKey x w) { sector := x, lstate := 0, sharers := 0 }
        let v := others e.sharers a.slot
        putEntry s x w { e with sharers := v, lstate := if v = 0 then 0 else e.lstate }
      | none => s
  recallsDone s a.slot

/-- A line passes a discard (03 R81): its staged entry is hidden, its combining-buffer entry and cache copies are dropped. -/
def discardLine (s : State) (a : Acc) : State :=
  let x := sectorOfLine a.line
  let had := AMap.has s.mc.cb a.line || AMap.has s.wharf.entries a.line || markerCovers s a.line
  let s := { s with mc := { s.mc with cb := AMap.del s.mc.cb a.line, gone := a.line :: s.mc.gone } }
  let s := match AMap.get? s.wharf.entries a.line with
    | some e => { s with wharf := { s.wharf with entries := AMap.set s.wharf.entries a.line { e with hidden := true } } }
    | none => s
  let s := match AMap.get? s.wharf.markers x with
    | some m =>
      let m' := setBit m.mask (a.line % 8) false
      { s with wharf := { s.wharf with markers := AMap.set s.wharf.markers x { m with mask := m', hidden := m.hidden || m' == 0 } } }
    | none => s
  let s := hcDropLine s (a.cached || hcOn s) a.line
  let s := { s with media := { s.media with pcache := AMap.del s.media.pcache x } }
  let s := loseLineResv s a.line 0 0 2
  updDiscard s a.win fun d => { d with left := d.left - 1, staged := d.staged || had }

/-! The conflict table. -/

/-- Give back the credit an access still holds (02 R45). -/
def giveBack (s : State) (a : Acc) : State := if a.holds then giveCredit s a.port (decide (a.kind = .write)) else s

/-- Whether an access that takes effect appends its line's combining-buffer entry first (03 R62): any but a partial write, which merges
into it, a discard, which drops it, and a recall, which does not touch the line's value. A conditional store appends the entry and opens one of its own,
though it writes no more than a word: R62 has every other request append it (DESIGN CHOICE, log 123). -/
def appendsCb (a : Acc) : Bool :=
  !isBerthLine a.line && (match a.kind with
    | .write => a.mask == fullMask
    | .discard | .agentRecall => false
    | _ => true)

/-- Serve an access whose turn it is, with the responses of its recall where it had one (04 Table CD-4). -/
def serveAcc (s : State) (a : Acc) (anyE anyS : Bool) (snooped bypass : Bool) : State :=
  let st := if a.db then dirState s a.line else 0
  let v := dirSharers s a.line
  let (ns, add) := nextLineState a st v anyE anyS
  let held := a.kind ≠ .resvStore ∨ resvHeldOn s a.win a.line
  let s := if a.db ∧ held ∧ a.kind ≠ .agentRecall then setDirLine s a.line ns add else s
  let s := giveBack s a
  let s := if appendsCb a then appendCb s a.line else s
  match a.kind with
  | .read => serveRead s a (grantOf a ns)
  | .resvLoad => serveRead (resvArms s a) a a.metaVal
  | .inv => respondNdr s a.port a.tag 2
  | .write => finishWrite 4 a (applyBulk s a bypass)
  | .resvStore => if held then finishWrite 4 a (applyBulk (resvApplied s a) a bypass) else resvFail s a.win
  | .cleanEvict => respondNdr s a.port a.tag 0
  | .discard => discardLine s a
  | .agentRecall => recallServed s a snooped

/-- Whether serving an access needs a way its sector does not have (04 R93). -/
def needsWay (s : State) (a : Acc) : Bool :=
  a.db && (dirWay s (sectorOfLine a.line)).isNone && ((nextLineState a 0 0 false false).1 != 0)

/-- An access enters the retry store (04 R96). -/
def enterRetry (s : State) (a : Acc) : State :=
  (updDir s fun d => { d with retry := d.retry ++ [{ acc := { a.delayed 1 with tx := true }, since := s.now }] }).bumpR Obj.RETRY_WAITS

/-- Whether a request waits in the retry store for a way of a sector's set (04 R96). -/
def retryAhead (s : State) (x : SectorNo) : Bool :=
  s.dir.retry.any fun r => sliceOfLine r.acc.line == sliceOfSector x && dirSet (sectorOfLine r.acc.line) == dirSet x

/-- Find the way an access needs (04 R95, R96): a free one, a victim's, or a wait in the retry store, where one that comes anew stands
behind those that wait for the same set. -/
def allocate (s : State) (a : Acc) (bypass : Bool) : State :=
  let x := sectorOfLine a.line
  if !a.tx && retryAhead s x then enterRetry s a
  else if dirFree s x then serveAcc s a false false false bypass
  else match dirVictim s x with
    | some w => match AMap.get? s.dir.entries (dirKey x w) with
      | some e =>
        if (slotsOf s e.sharers).isEmpty then
          serveAcc (putEntry (s.bumpR Obj.DIR_EVICTIONS) x w { e with lstate := 0 }) a false false false bypass
        else openEvict (giveBack s a) (dirKey x w) e { a with holds := false }
      | none => serveAcc s a false false false bypass
    | none => enterRetry s a

/-- Start an access that nothing keeps waiting (04 R93). -/
def startAcc (s : State) (a : Acc) (bypass : Bool) : State :=
  if !a.db then serveAcc s a false false false bypass
  else
    let st := dirState s a.line
    let v := dirSharers s a.line
    let plan := if a.kind = .resvStore ∧ ¬ resvHeldOn s a.win a.line then none else snoopPlan a st v
    match plan with
    | some (k, t) =>
      let slots := slotsOf s t
      if slots.isEmpty then serveAcc s a false false false bypass
      else openTx (giveBack s a) { a with holds := false } k slots
    | none => if needsWay s a then allocate s a bypass else serveAcc s a false false false bypass

/-- Whether a page's translation is under repair (07 R181, 10 R231). -/
def repairBlocks (s : State) (pn : PageNo) : Bool := indexBad s pn || !mapUsable s pn

/-- Whether an access waits in its conflict table behind the accesses listed. -/
def waitsBehind (s : State) (a : Acc) (before : List Acc) : Bool :=
  (a.db && txBlocks s a.line) || before.any (fun b => b.line == a.line) || (!isBerthLine a.line && repairBlocks s (pageOfLine a.line))

/-- Start an access that was first in its turn, or let it wait at the front of its conflict table while its sector is evicted or its line
recalled (04 R97). -/
def resumeAcc (s : State) (a : Acc) : State :=
  if waitsBehind s a [] then
    let s := giveBack s a
    updDir s fun d => { d with waiting := { a with holds := false } :: d.waiting }
  else startAcc s a false

/-- The waiting accesses that entered before one. -/
def waitingBefore (s : State) (id : Nat) : List Acc := s.dir.waiting.takeWhile fun b => b.id != id

/-- Start every waiting access whose turn has come, in order of arrival (04 R93). -/
def settleWaiting (s : State) : State :=
  (s.dir.waiting.map (·.id)).foldl (fun s id =>
    match s.dir.waiting.find? (fun a => a.id == id) with
    | some a =>
      if waitsBehind s a (waitingBefore s id) then s
      else startAcc (updDir s fun d => { d with waiting := d.waiting.filter fun b => b.id != id }) a false
    | none => s) s

/-- A line that passed a discard whose descriptor then ends with its page not discarded (03 R81, 04 R106): it reads zeros under the writes that entered after
the discard, which survive. A staged partial write is completed with zeros; with no staged write the line is staged as zeros. -/
def keepDiscarded (s : State) (l : LineNo) : State :=
  match stagedEntry s l with
  | some e =>
    if e.mask = fullMask then s
    else stageAt s l (overlay 0 e.data e.mask) fullMask e.poison e.seq
  | none => stageLine { s with wharf := { s.wharf with nextSeq := s.wharf.nextSeq + 1 } } l 0 fullMask false s.wharf.nextSeq

/-- End an access to an HDM-DB line because the domain is down (04 Table CD-5, R106): a read is answered with poison, a write or
ownership request is discarded, a clean evict completes, a RESV_LOAD returns zeros and arms nothing, a conditional store reads
FAULT or keeps its loss, a discard ends its descriptor with FAULT. -/
def endAcc (s : State) (a : Acc) : State :=
  let s := giveBack s a
  match a.kind with
  | .read => respondDrs s a.port a.tag 0 true 0
  | .write | .inv => s
  | .cleanEvict => respondNdr s a.port a.tag 0
  | .resvLoad =>
    respondDrs (resvFaults s a) a.port a.tag 0 false 0
  | .resvStore => if resvHeldOn s a.win a.line then resvFinish s a.win 6 0 4 else resvFail s a.win
  | .agentRecall => s
  | .discard =>
    let x := getWin s a.win
    match x.queue with
    | d :: t =>
      if d.active then
        let pn := d.base + d.next
        let passed := s.mc.gone.filter (fun l => pageOfLine l == pn)
        let s := { s with mc := { s.mc with discarding := s.mc.discarding.filter (· != pn), gone := s.mc.gone.filter (fun l => pageOfLine l != pn) } }
        let s := passed.foldl keepDiscarded s
        let s := updWin s a.win fun x => { x with queue := t, discardState := if t.isEmpty ∧ x.discardState = 1 then 4 else x.discardState }
        if t.isEmpty then releaseHeld s a.win 4 else s
      else s
    | [] => s

/-- An access enters its conflict table (01 R14). A combining-buffer entry of the line is appended first unless the access is a
partial write that merges into it (03 R62). A write from an agent snooped for the line and a clean evict that crosses the snoop
are taken at once (04 R99, R100). -/
def enterTable (s : State) (a : Acc) (bypass : Bool) : State :=
  let a := { a with cached := hcOn s }
  let s := if appendsCb a then appendCb s a.line else s
  if a.db ∧ domainIsDown s then endAcc s a
  else if a.db ∧ a.kind = .write ∧ ¬ a.aliased ∧ snoopedNow s a.slot a.line then
    let s := pcCount (giveBack (s.bumpR Obj.CROSS_WRITES) a) 0x0A (U.port a.port) (some (sliceOfLine a.line)) 1
    finishWrite 4 a (applyBulk s a bypass)
  else if a.db ∧ a.kind = .cleanEvict ∧ snoopedNow s a.slot a.line then respondNdr (giveBack s a) a.port a.tag 0
  else if waitsBehind s a s.dir.waiting then
    let cause := if a.db ∧ (txBlocks s a.line ∨ s.dir.waiting.any (fun b => b.line == a.line)) then 1 else 4
    let s := giveBack s a
    updDir s fun d => { d with waiting := d.waiting ++ [{ a.delayed cause with holds := false }] }
  else startAcc s a bypass

/-! Holding ahead of the conflict table (06 R149, R160). -/

/-- Whether a bulk write adds live slots: its line has neither a live entry nor a combining-buffer entry (06 R160). -/
def addsSlots (s : State) (line : LineNo) : Bool := !AMap.has s.wharf.entries line && !AMap.has s.mc.cb line

/-- Whether every bulk write of a slice is held: the reset of the slice's drain queue (06 R158), or no flush buffer that can take a dump (11 R271). -/
def allHeld (s : State) (sl : Nat) : Bool :=
  s.wharf.queueReset.contains sl || dumpBlocked s

/-- Whether `n` slots more would take a slice past its live limit of 44,739,242 slots (06 R149). -/
def sliceAtLimit (s : State) (sl n : Nat) : Bool := decide (44739242 < sliceLive s sl + n)

/-- Slots that a write takes on a line that has none: two with a partial mask (06 R144). -/
def slotsNeeded (a : Acc) : Nat := if a.kind = .write ∧ a.mask = fullMask then 1 else 2

/-- Whether the full wharf or the slice's limit holds a write (06 R149, R160): one that would raise the live slots, and with a dirty cap of 0 every
one (R152). -/
def fullHolds (s : State) (a : Acc) : Bool :=
  s.robj Obj.DIRTY_CAP == 0 || (addsSlots s a.line && (s.dp.wseqEnded || occAtLeast s 100 || sliceAtLimit s (sliceOfLine a.line) (slotsNeeded a)))

/-- Whether an access is held ahead of its conflict table: a write that adds slots at full occupancy or at its slice's limit, a
write behind one held in its slice, every write with a dirty cap of 0, and a read of a line with a held write. -/
def wharfHolds (s : State) (a : Acc) (before : List Acc) : Bool :=
  let sl := sliceOfLine a.line
  if a.kind = .write ∨ a.kind = .resvStore then
    before.any (fun b => b.line == a.line) || allHeld s sl || fullHolds s a ||
      (addsSlots s a.line && before.any (fun b => b.kind != .read && sliceOfLine b.line == sl))
  else before.any (fun b => b.line == a.line)

/-- Hold an access (06 R149, R160). BOUND_SUSPENDED counts the writes that the full wharf or the slice's limit holds, those behind them in order of arrival
with them, and at the end of the write sequence, which holds as full occupancy does (10 R237); not those that only R158 or 11 R271 hold. A write held at its slice's limit counts in SLICE_FULL, and logs it, while occupancy is below
100 %, where the hold is the slice's alone (DESIGN CHOICE, log 126). -/
def holdAcc (s : State) (a : Acc) : State :=
  let sl := sliceOfLine a.line
  let isW := decide (a.kind = .write ∨ a.kind = .resvStore)
  let atLimit := sliceAtLimit s sl (slotsNeeded a)
  let s := if isW ∧ (fullHolds s a ∨ (¬ allHeld s sl ∧ wharfHolds s a s.wharf.held)) then s.bumpR Obj.BOUND_SUSPENDED else s
  let s := if isW ∧ ¬ occAtLeast s 100 ∧ addsSlots s a.line ∧ atLimit then
      if s.wharf.sliceFull.contains sl then s
      else
        let s := { s with wharf := { s.wharf with sliceFull := sl :: s.wharf.sliceFull } }
        record (s.bumpR Obj.SLICE_FULL) Ev.SLICE_FULL U.root sl [sl, sliceLive s sl, dirtyNow s]
    else s
  { s with wharf := { s.wharf with held := s.wharf.held ++ [a.delayed 2] } }

/-- The repair of a map entry that has a reserved bit set begins as an access meets it (07 R181). -/
def repairReserved (s : State) (pn : PageNo) : State :=
  if entryReserved s pn ∧ ¬ AMap.has s.media.badMap (chunkOf pn) then
    { s with media := { s.media with badMap := AMap.set s.media.badMap (chunkOf pn) s.now } }
  else s

/-- A bulk access arrives at its slice. -/
def arriveBulk (s : State) (a : Acc) (bypass : Bool) : State :=
  let s := repairReserved s (pageOfLine a.line)
  if wharfHolds s a s.wharf.held then holdAcc s a else enterTable s a bypass

/-- Number an access that arrives now. -/
def numberAcc (s : State) (a : Acc) : State × Acc :=
  (updDir s fun d => { d with nextAcc := d.nextAcc + 1 }, { a with id := s.dir.nextAcc, at_ := s.now })

end Sys2Proof.Machine
end

