-- ==== Sys2Proof/Machine/CohOps.lean ====
section
/-! DEFINITION. Recalls, their completion, directory errors and the domain-down procedure (04 R97 to R109, 02 R42, R43). -/
namespace Sys2Proof.Machine
open Sys2Proof

/-! ## Power states -/

/-- Close the residency of the power state in force (12 R297). -/
def addResidency (s : State) : State :=
  let s' := s.bumpN U.root (Obj.RESIDENCY + s.robj Obj.PSTATE_NOW + 1) (usBetween s.cs.resAt s.now)
  { s' with cs := { s'.cs with resAt := s.now } }

/-- Change PSTATE_NOW (12 R289): every entry or exit of a power state loses reservations with cause 8 (R291). -/
def setPstate (s : State) (p : Nat) : State :=
  if s.robj Obj.PSTATE_NOW = p then s else loseResvWhere ((addResidency s).setR Obj.PSTATE_NOW p) 8 fun _ => true

/-- A transaction by its number. -/
def findTx (s : State) (id : Nat) : Option Tx := s.dir.txs.find? (fun t => t.id == id)

/-- A transaction's last response has arrived (04 R93, R95, R104): the access is served, a victim's entry is freed and its way
taken, or a sector recalled for an error is freed and what waited starts again. -/
def completeTx (s : State) (t : Tx) : State :=
  let s := updDir s fun d => { d with txs := d.txs.filter fun q => q.id != t.id }
  let s := s.raiseTo U.root Obj.SNOOP_WAIT_MAX (usBetween t.since s.now)
  let s := if t.kind = 0 then
      let s := match dirWay s t.sector with
        | some w => dirTouch s t.sector w
        | none => s
      t.accs.foldl (fun s a => serveAcc s a t.anyE t.anyS true false) s
    else
      let s := updDir s fun d => { d with entries := (t.key :: t.more).foldl AMap.del d.entries }
      if t.kind = 1 then t.accs.foldl resumeAcc s
      else updDir s fun d => { d with waiting := t.accs ++ d.waiting }
  settleAcks (settleWaiting s)

/-- Recall every line that the directory records at an agent, of those a test picks (02 R42, R43). -/
def recallAgent (s : State) (slot : Nat) (p : LineNo → Bool) : State :=
  let lines := (s.dir.entries.map fun e =>
    if bitOf e.2.sharers slot then ((List.range 8).filter fun i => lineOf e.2.lstate i != 0 && p (e.2.sector * 8 + i)).map (fun i => e.2.sector * 8 + i) else []).flatten
  if lines.isEmpty then recallsDone s slot
  else lines.foldl (fun s l =>
    let (s, a) := numberAcc s { id := 0, kind := .agentRecall, line := l, db := true, aliased := true, slot := slot }
    enterTable s a false) s

/-- An uncorrectable or invalid directory entry (04 R104): BISnpInv for the sector's eight lines to every agent that holds a slot;
a running eviction or recall of the sector is widened into this one. Where the way holds another sector's entry, whose TAG the error hides, the sector
recalled is the one truly recorded there, not the one accessed (DESIGN CHOICE, log 123). -/
def dirError (s : State) (x : SectorNo) (way : Nat) : State :=
  let key := dirKey x way
  let sector := match AMap.get? s.dir.entries key with
    | some e => e.sector
    | none => x
  if wayHeld s key then s
  else
    let s := s.bumpR Obj.DIR_UNCORRECTABLE
    let s := record s Ev.DIR_UNCORRECTABLE U.ctl (sliceOfSector x) [sliceOfSector x, dirSet x, way, sector * 512]
    let old := s.dir.txs.filter fun t => t.sector == sector
    let id := s.dir.nextId
    let own := match dirWay s sector with
      | some w => [dirKey sector w]
      | none => []
    let keys := (old.map fun t => if t.kind = 0 then [] else t.key :: t.more).flatten ++ own
    let t : Tx := { id := id, kind := 2, sector := sector, key := key, more := keys.filter (· != key), accs := (old.map (·.accs)).flatten, since := s.now }
    let s := updDir s fun d => { d with
      nextId := id + 1, txs := d.txs.filter (fun t => t.sector != sector) ++ [t], snoops := d.snoops.map fun q => if old.any (fun t => t.id == q.tx) then { q with tx := id } else q }
    let slots := slotsOf s 0xFFFFFFFF
    let s := (List.range 8).foldl (fun s i =>
      let l := sector * 8 + i
      genSnoops s id l 1 (slots.filter fun n => !(s.dir.snoops.any fun q => q.slot == n && q.line == l && q.kind == 1))) s
    if (txSnoops s id).isEmpty then completeTx s t else s

/-! Domain-down. -/

/-- Start the domain-down procedure (04 R105, Table CD-5) with its CAUSE, SLOT, PORT and line. -/
def startDown (s : State) (cause slot port line : Nat) : State :=
  if s.phase ≠ .running ∨ domainIsDown s ∨ s.dir.walking then s
  else
    let s0 := s
    let ports := allPorts.filter (portEnrolled s)
    let pend := s.dir.snoops.map (·.line)
    let s := { s.setR Obj.DOMAIN_DOWN_LATCHED 1 with hm := { s.hm with latchDomainDown := true } }
    let s := s.bumpR Obj.DOMAIN_DOWNS
    let s := ports.foldl (fun s n => fencePort (raiseViral s n) n 3) s
    let s := if s.robj Obj.PSTATE_NOW < 3 then setPstate s 0 else s
    let accs := (s.dir.txs.map (·.accs)).flatten ++ s.dir.retry.map (·.acc) ++ s.dir.waiting.filter (·.db)
    let s := updDir s fun d => { d with
      txs := [], snoops := [], retry := [], waiting := d.waiting.filter (fun a => !a.db), walking := true, walkLines := pend, downRec := [cause, slot, port, sliceOfLine line, line * 64, s.hm.opsec, 0] }
    let s := accs.foldl endAcc s
    track [U.root] s0 (settle (settleAcks (staleRisk (syncRecs s [1, 3]))))

/-- The lines of an entry that the walk marks stale: in E, or recall-pending (04 Table CD-5). -/
def walkMask (s : State) (e : DirEntry) : Nat :=
  (List.range 8).foldl (fun m i =>
    if lineOf e.lstate i = 2 ∨ s.dir.walkLines.contains (e.sector * 8 + i) then setBit m i true else m) 0

/-- Sectors with recall-pending lines and no entry, those of an error recall (04 R104, R105), as entries of no line. -/
def bareRecalls (s : State) : List DirEntry :=
  let xs := (s.dir.walkLines.map sectorOfLine).filter fun x => !s.dir.entries.any fun e => e.2.sector == x
  xs.eraseDups.map fun x => { sector := x, lstate := 0, sharers := 0 }

/-- The walk marks one entry's lines, and drops the sector and its page from the caches. -/
def walkEntry (acc : State × Nat) (e : DirEntry) : State × Nat :=
  let (s, n) := acc
  let m := walkMask s e
  if m = 0 then (s, n)
  else
    let s := (List.range 8).foldl (fun s i => if bitOf m i then appendCb s (e.sector * 8 + i) else s) s
    let s := stageMark s e.sector m
    let s := hcDrop s (fun x => x == e.sector)
    let pn := pageOfSector e.sector
    let s := dropPageCopies s pn
    (s, n + ((List.range 8).filter (bitOf m)).length)

/-- The walk ends (04 Table CD-5): the directory is cleared, agents that were withdrawing lose their slots (R109) and decoders that were withdrawing leave the
committed state (02 R42). -/
def walkDone (s : State) : State :=
  if !s.dir.walking then s
  else
    let (s, n) := (s.dir.entries.map (·.2) ++ bareRecalls s).foldl walkEntry (s, 0)
    let s := updDir s fun d => { d with entries := [], walking := false, walkLines := [], downRec := d.downRec.set 6 n }
    let s := (s.hp.slots.map (·.1)).foldl recallsDone s
    let r := s.dir.downRec
    let s := syncRec s 3
    settle (record s Ev.DOMAIN_DOWN U.root 0xFFFF [r.getD 0 0, r.getD 1 0, r.getD 4 0, n])

/-- DOMAIN_RECOVER's own rule (04 R109). `stale`: STALE_LINES at recovery. -/
def recoverDomain (stale : State → Nat) (s : State) : State × Status :=
  if domainIsDown s ∧ ¬ s.dir.walking ∧ s.phase ≠ .flushing ∧ slotsUsed s = 0 then
    let s0 := s
    let s := { s.setR Obj.DOMAIN_DOWN_LATCHED 0 with hm := { s.hm with latchDomainDown := false } }
    let s := allPorts.foldl (fun s n => unfencePort s n 3) s
    let s := record s Ev.DOMAIN_RECOVERED U.root 0xFFFF [stale s]
    (track [U.root] s0 (syncRec s 1), .ok)
  else (s, .state)

end Sys2Proof.Machine
end

