-- ==== Sys2Proof/Machine/HaltOps.lean ====
section
/-! DEFINITION. The integrity halt (10 R243) and the handling of array errors that an access meets (10 R230 to R232, R245, Table
DP-2). -/
namespace Sys2Proof.Machine
open Sys2Proof

/-! ## Requests under way when the ports are fenced -/

/-- Accesses that have entered a conflict table and are not yet served, in order of arrival (02 R49). A request in a retry store has not
entered it (04 R96). -/
def enteredAccs (s : State) : List Acc := (s.dir.txs.map (·.accs)).flatten ++ s.dir.waiting

/-- A request that had entered its conflict table completes internally, durable if a write (02 R49); its response is not sent. A discard of a page of which a
line has passed goes on, so that writes behind it stay (log 65). -/
def finishInside (s : State) (a : Acc) : State :=
  match a.kind with
  | .write => if isBerthLine a.line then berthStore s a else applyBulk s a false
  | .resvStore =>
    if resvHeldOn s a.win a.line then
      let s := updWin s a.win fun x => { x with resv := none, resvState := 0 }
      if isBerthLine a.line then berthStore s a else applyBulk s a false
    else s
  | .discard => if s.mc.gone.any (fun l => pageOfLine l == pageOfLine a.line) then discardLine s a else s
  | _ => s

/-- The accesses that had entered the conflict tables complete inside, in their order. -/
def finishAll (s : State) (accs : List Acc) : State := accs.foldl finishInside s

/-- Whether an interrupted access takes effect (11 R275: wholly old or wholly new), by a free value drawn for each write; `cut`: the lines of which a write has
not, so that no later write of theirs does, and each line's bytes are a prefix of its conflict table's order (03 R65). -/
def finishMaybe (p : State × List LineNo) (a : Acc) : State × List LineNo :=
  match a.kind with
  | .write | .resvStore =>
    let (b, s) := p.1.draw 2
    if b = 1 ∧ ¬ p.2.contains a.line then (finishInside s a, p.2) else (s, a.line :: p.2)
  | _ => (finishInside p.1 a, p.2)

/-- The accesses that a power failure interrupts, in their order. -/
def finishSome (s : State) (accs : List Acc) : State := (accs.foldl finishMaybe (s, [])).1

/-- The credits of the requests held ahead of the conflict tables, in a retry store or by a pause, that a fence of their ports drops (02 R45). `q`: which ports. -/
def returnDropped (s : State) (q : Nat → Bool) : State :=
  let s := ((s.dir.retry.map (·.acc) ++ s.wharf.held ++ s.hc.mirror.heldAsync).filter fun a => q a.port && a.holds && linkMem s a.port).foldl
    (fun s a => giveCredit s a.port (decide (a.kind = .write))) s
  (s.ts.paused.filter fun r => q r.port && linkMem s r.port).foldl (fun s r => giveCredit s r.port (decide (r.op = .write ∨ r.op = .writePtl))) s

/-- A discard cut short leaves each page wholly discarded or wholly not (07 R186, 11 Table PW-8): a page of which lines have passed is discarded, with its
UNMAP record, and writes that entered after the discard stay; a page of which none has is untouched (DESIGN CHOICE, log 65). -/
def cutDiscard (s : State) (pn : PageNo) : State :=
  if ¬ s.mc.gone.any (fun l => pageOfLine l == pn) then s
  else
    let before := pageStaged s pn
    let after (l : LineNo) : Bool := pageOfLine l != pn || s.mc.gone.contains l
    let old := mapGet s pn
    let s := { s with
      wharf := { s.wharf with
        entries := s.wharf.entries.filter (fun p => after p.1 && !(pageOfLine p.1 == pn && p.2.hidden))
        markers := s.wharf.markers.filter (fun p => pageOfSector p.1 != pn)
        lighters := s.wharf.lighters.map fun l => { l with pages := l.pages.map fun d => if d.pn = pn ∧ ¬ d.committed then { d with cancelled := true } else d } }
      mc := { s.mc with cb := s.mc.cb.filter fun p => after p.1 } }
    let s := indexChange before pn s
    match old with
    | some o => appendRecord s 3 pn unmapped o
    | none => s

/-- Every discard under way is cut short. -/
def cutDiscards (s : State) : State :=
  let s := s.mc.discarding.foldl cutDiscard s
  { s with mc := { s.mc with discarding := [], gone := [] } }

/-- End every request of the hosts: those in conflict tables by `f`, those still held ahead of them dropped with their credits returned (02 R45), their
reads dropped. Accesses of the module's own agents end with them. -/
def endHostWork (f : State → List Acc → State) (s : State) : State :=
  let accs := enteredAccs s
  let s := returnDropped s fun _ => true
  let s := updDir s fun d => { d with txs := [], snoops := [], retry := [], waiting := [], acks := [] }
  let s := cutDiscards (f s accs)
  let s := { s with wharf := { s.wharf with held := [] }, ts := { s.ts with paused := [] }, ml := { s.ml with
    reads := s.ml.reads.filter fun r => r.why == .merge || r.why == .copy || r.why == .scrub } }
  updMirror s fun m => { m with heldAsync := [], heldSync := [] }

/-! ## Integrity halt -/

/-- Flag every partial staged entry of a page MARKED (10 R243 step 2). -/
def markPartials (s : State) (pn : PageNo) : State :=
  let f (p : Nat × WEntry) : Nat × WEntry := if pageOfLine p.1 = pn ∧ p.2.mask ≠ fullMask then (p.1, { p.2 with marked := true }) else p
  { s with wharf := { s.wharf with entries := s.wharf.entries.map f } }

/-- Whether a page has a partial staged entry. -/
def hasPartials (s : State) (pn : PageNo) : Bool := s.wharf.entries.any fun p => pageOfLine p.1 == pn && p.2.mask != fullMask

/-- An integrity failure (10 R243). A walk of domain-down under way completes first (04 R107). In LOADING, where Table AX-8 has no transition to HALTED but at its end, the latch is set and the
module comes up HALTED (DEDUCED, log 22). -/
def haltIntegrity (s : State) (r : IntegrityRec) : State :=
  if s.phase ≠ .running ∧ s.phase ≠ .loading ∨ s.hm.latchHalted then s
  else
    let s0 := s
    let s := walkDone s
    let page := decide (1 ≤ r.cause ∧ r.cause ≤ 5)
    let partly := page && hasPartials s r.pn
    let r := { r with at_ := s.hm.opsec, recovery := 0, markedEntries := partly }
    let s := if page then markPartials s r.pn else s
    let s := s.bumpR Obj.INTEGRITY_HALTS
    let s := { s with
      hm := { s.hm with latchHalted := true }, dp := { s.dp with integrity := r, dumpDone := false, recoverAccepted := false, recoverOwed := false } }
    let s := if s.phase = .running then
        let s := (setPstate (addResidency s) 0).setR Obj.ENTRY_STATE 0
        let s := { s with phase := .halted, recorder := { s.recorder with logOpen := false } }
        let s := (presentPorts s).foldl (fun s n => fencePort (raiseViral s n) n 2) s
        drivePins (endHostWork finishAll s)
      else s
    let s := record s Ev.INTEGRITY_HALT U.ctl 0xFFFF [r.cause, r.pn * 4096, r.ppn, r.wseq, b2n r.delivered + 2 * b2n r.markedEntries]
    track ([U.ctl, U.ports, U.root] ++ allPorts.map U.port) s0 (syncRecs s [1, 2])

/-! ## Array errors -/

/-- Whether an array lies in HBM (10 Table DP-1). -/
def inHbm : ErrPlace → Bool
  | .wharfSlot | .wharfIndex | .readCache | .mapEntry | .journal | .metadata | .accumulator | .firmware | .recorder => true
  | _ => false

/-- The remap table of an error's word group (10 R245). -/
def errTable (e : ArrayErr) (sl : Nat) : Nat := if inHbm e.place then hbmTable (e.stack.val + 1) (e.channel.val + 1) else sramTable sl
/-- The unit that counts an error of an array (10 R230). -/
def errUnit (e : ArrayErr) : Nat := if inHbm e.place then U.hbmStack (e.stack.val + 1) else U.ctl

/-- Remap a word group, or note that its table is full (10 R245). -/
def remapGroup (s : State) (base unit group cause : Nat) : State :=
  if remapped s base group then s
  else
    let cap := if base < 2048 then 16 else 8
    let s0 := s
    if cap ≤ remapUsed s base then
      if s.dp.remapFull.contains base then s
      else
        let s := { s with dp := { s.dp with remapFull := base :: s.dp.remapFull } }
        let which := if base < 2048 then base / 16 % 16 + 1 else (base - 2048) / 8
        track [unit, U.hbm, U.root] s0 (record s Ev.REMAP_FULL unit 0xFFFF [unit, which])
    else
      let s := addRemap s base group cause
      let used := remapUsed s base
      let s := if base < 2048 then s.setObj unit (Obj.REMAP_HBM_USED + (base / 16 % 16 + 1)) used
        else s.setObj U.ctl (Obj.REMAP_SRAM_USED + ((base - 2048) / 8 + 1)) used
      record s Ev.REMAPPED unit 0xFFFF [unit, group, cause, used]

/-- Note an error of a word group (10 R245): an uncorrectable one remaps it at once, corrected ones at the fourth read within 3600 s. -/
def noteGroup (s : State) (base unit group : Nat) (unc : Bool) : State :=
  if unc then remapGroup s base unit group 1
  else
    let k := 2^32 * base + group
    let now := s.hm.opsec
    let ts := now :: (AMap.getD s.dp.errCounts k {}).times.filter fun t => decide (now < t + 3600)
    let s := { s with dp := { s.dp with errCounts := AMap.set s.dp.errCounts k { times := ts.take 4 } } }
    if 4 ≤ ts.length then remapGroup s base unit group 2 else s

/-- Count an error (10 R230, R231). -/
def countError (s : State) (e : ArrayErr) (sl : Nat) : State :=
  let u := errUnit e
  let s := if e.unc then s.bump u Obj.ERR_UNCORRECTABLE else s.bump u Obj.ERR_CORRECTED
  let s := match inHbm e.place, e.unc with
    | true, true => s.bumpR Obj.HBM_UNCORRECTABLE
    | true, false => s.bumpR Obj.HBM_CORRECTED
    | false, true => s.bumpR Obj.SRAM_UNCORRECTABLE
    | false, false => s.bumpR Obj.SRAM_CORRECTED
  let k := if inHbm e.place then e.stack.val * 16 + e.channel.val else 1024 + sl * 16 + e.way.val
  let s := if e.unc then s else pcCount { s with ag := { s.ag with corrHour := AMap.upd s.ag.corrHour k 0 (· + 1) } } 0x18 u none 1
  noteGroup s (errTable e sl) u e.group e.unc

/-- Drop a home-cache sector of a way (05 R115). -/
def dropHcWay (s : State) (x : SectorNo) (w : Nat) : State :=
  { s with hc := { s.hc with sectors := AMap.del s.hc.sectors (hcKey x w) } }

/-- Drop a sector from the side buffer. -/
def dropPbuf (s : State) (x : SectorNo) : State :=
  { s with hc := { s.hc with pbuf := s.hc.pbuf.map fun e => (e.1, e.2.filter fun q => q.1 != x) } }

/-- Drop a page from the HBM page read cache. -/
def dropPcache (s : State) (pn : PageNo) : State :=
  { s with media := { s.media with pcache := (List.range 8).foldl (fun c i => AMap.del c (pn * 8 + i)) s.media.pcache } }

/-- Start the rebuild of a slice's drain queue (06 R158): lighters not yet taken are discarded, and writes are held until it is
re-formed. The error's word group names the sub-ring; what the two copies held is a free value where the code could not correct one. -/
def resetQueue (s : State) (sl prio a b : Nat) : State :=
  if s.wharf.queueReset.contains sl then s
  else
    let s := { s with wharf := { s.wharf with queueReset := sl :: s.wharf.queueReset, lighters := s.wharf.lighters.filter fun l => l.slice != sl || l.state == 2 } }
    record (s.bumpR Obj.QUEUE_REBUILDS) Ev.QUEUE_MISMATCH U.root sl [sl, prio, a, b]

/-- The outcome of an uncorrectable error (10 Table DP-2), for an access to a line. The word group of a journal error is the record's JPOS. The firmware work
space, reloaded from the boot area, holds nothing that State does. -/
def uncorrectable (s : State) (line : LineNo) (e : ArrayErr) : State :=
  let x := sectorOfLine line
  let pn := pageOfLine line
  let sl := sliceOfLine line
  match e.place with
  | .homeCache => noteWayError (dropHcWay (s.bumpR Obj.HC_UNCORRECTABLE) x e.way) sl e.way true
  | .homeCacheTag => noteWayError (dropHcWay s x e.way) sl e.way true
  | .berth =>
    let l := berthLine s line
    noteWayError ((putBerth s line { l with poison := l.poison ||| e.bytes }).bumpR Obj.BERTH_POISON) sl e.way true
  | .combining =>
    match AMap.get? s.mc.cb line with
    | some c => appendCb { s with mc := { s.mc with cb := AMap.set s.mc.cb line { c with poison := c.poison ||| c.mask ||| 1 } } } line
    | none => s
  | .prefetch => dropPbuf s x
  | .tracker => { s with hc := { s.hc with trackers := AMap.upd s.hc.trackers sl [] (·.filter fun q => q.1 != x && q.1 + 1 != x) } }
  | .directory => dirError s x e.way
  | .filter =>
    let (a, b) := filterKeys pn
    let rb := if s.wharf.rebuilding.contains sl then s.wharf.rebuilding else sl :: s.wharf.rebuilding
    { s with wharf := { s.wharf with filter := AMap.set (AMap.set s.wharf.filter a 255) b 255, rebuilding := rb } }
  | .retry => startDown s 2 0xFF 0 line
  | .conflict => if e.both then haltIntegrity s { cause := 7, slice := sl } else s
  | .queuePointer =>
    if e.both then haltIntegrity s { cause := 7, slice := sl }
    else
      let (a, s) := s.draw 4096
      let (b, s) := s.draw 4096
      resetQueue s sl (e.group % 5) a b
  | .wharfSlot =>
    match AMap.get? s.wharf.entries line with
    | some w => { s with wharf := { s.wharf with entries := AMap.set s.wharf.entries line { w with poison := true } } }
    | none => s
  | .wharfIndex => if indexBad s pn then s else { s with wharf := { s.wharf with badIndex := pn :: s.wharf.badIndex } }
  | .readCache => dropPcache s pn
  | .mapEntry => if AMap.has s.media.badMap (chunkOf pn) then s else { s with media := { s.media with badMap := AMap.set s.media.badMap (chunkOf pn) s.now } }
  | .journal =>
    if e.both then
      let gone (l : List JRec) : List JRec := l.filter fun r => r.jpos != e.group
      let s := s.bumpR Obj.JOURNAL_LOST
      let s := startCkpt { s with media := { s.media with
        ckptAll := true, ckptDone := [], journal := gone s.media.journal, journal2 := gone s.media.journal2, jbad := s.media.jbad.filter (· != e.group) } }
      record s Ev.JOURNAL_LOST U.root 0xFFFF [e.group, chunkOf pn]
    else if s.media.jbad.contains e.group then s else { s with media := { s.media with jbad := e.group :: s.media.jbad } }
  | .metadata => loadSets s
  | .firmware => s
  | .accumulator => if AMap.has s.media.stripes e.group then unprotect s e.group else s
  | .recorder =>
    { s with recorder := { s.recorder with buffer := s.recorder.buffer.filter fun p => p.1 != e.group } }.bumpR Obj.RING_LOST

/-- A corrected error (10 R230): nothing is written back; home-cache and berth ways count it (05 R115, R123, R132). -/
def corrected (s : State) (line : LineNo) (e : ArrayErr) : State :=
  let sl := sliceOfLine line
  match e.place with
  | .homeCache => noteWayError (s.bumpR Obj.HC_CORRECTED) sl e.way false
  | .homeCacheTag | .berth => noteWayError s sl e.way false
  | _ => s

/-- The array errors that an access to a line meets, in the order met. A doubled array with one good copy counts its error and goes on
from the other copy. -/
def meetErrors (s : State) (line : LineNo) (errs : List ArrayErr) : State :=
  errs.foldl (fun s e =>
    let s0 := s
    let s := countError s e (sliceOfLine line)
    let s := if e.unc then uncorrectable s line e else corrected s line e
    track [U.ctl, U.root] s0 s) s

end Sys2Proof.Machine
end

