-- ==== Sys2Proof/Machine/HostOps.lean ====
section
/-! DEFINITION. A host's CXL.mem request on its way from the port to its line (02 R39 to R49, 03 R57, R67 to R80, 04 R92): decoding
of the host physical address, the control window, and the arrival of bulk and berth accesses. -/
namespace Sys2Proof.Machine
open Sys2Proof

/-! ## Power states -/

/-- CXL.mem traffic ends P1 and P2 at once (12 Table CS-6); after P2 the media stacks and HBM leave standby. -/
def noteTraffic (s : State) : State :=
  let s := { s with cs := { s.cs with trafficAt := s.now } }
  let p := s.robj Obj.PSTATE_NOW
  if p = 1 then setPstate s 0
  else if p = 2 then setPstate { s with cs := { s.cs with p2Exit := true } } 0
  else s

/-- An access of the module's own to media or HBM ends P2 (12 Table CS-6): to P1, since no CXL.mem traffic goes with it. -/
def leaveP2 (s : State) : State :=
  if s.robj Obj.PSTATE_NOW = 2 then setPstate { s with cs := { s.cs with p2Exit := true } } 1 else s

/-! ## Address decoding -/

/-- The source that identifies an agent on a port (02 R38): the PBR ID in fabric edge attachment, otherwise 0xFFFF. -/
def srcOf (s : State) (n src : Nat) : Nat := if (getPort s n).attachNow = 1 then src else 0xFFFF

/-- The committed decoder of an agent that holds a host physical address, and the device physical address it gives (02 R39). -/
def decodeHpa (s : State) (n src hpa : Nat) : Option (Nat × Decoder) :=
  match findAgent s n src with
  | none => none
  | some a => (a.decoders.find? fun d => decide (d.2.hpa ≤ hpa ∧ hpa < d.2.hpa + d.2.size)).map fun d => (d.2.dpa + (hpa - d.2.hpa), d.2)

/-- First byte of the control window range (03 Table MC-1). -/
abbrev cwBase : Nat := 0x4000000000000

/-- Whether a device physical address lies in the control window range. -/
def inCwRange (dpa : Nat) : Bool := decide (cwBase ≤ dpa ∧ dpa < cwBase + 0x10000000)
/-- Whether a device physical address lies in the berth window (05 R126). -/
def inBerthRange (dpa : Nat) : Bool := decide (berthBase ≤ dpa ∧ dpa < berthBase + 0x10000000)

/-- The access that a request makes of a byte of host capacity or of the berth window (03 R57, R82): the line it reaches, whether
it lies in an HDM-DB region, whether it comes through an aliased, and the placement in force. -/
def reqAcc (s : State) (r : HostReq) (kind : AccKind) (dpa : Nat) (d : Decoder) : Acc :=
  let g := getRegion s d.region
  let line := if inBerthRange dpa then dpa / 64 else dpa % 2^48 / 64
  { id := 0, port := r.port, src := r.src, tag := r.tag, kind := kind, line := line, data := r.data, mask := r.mask, poison := r.poison, db := g.mode == 2, aliased := d.hint != 0, slot := (slotOf s r.port r.src).getD 32, place := if d.hint = 0 then g.policy else d.hint, metaVal := r.metaVal, at_ := r.at_, holds := true, excl := r.excl }

/-! ## The control window -/

/-- The counter-window access of a register read that is not a RESV_LOAD, counted on path 1 (08 R196). -/
def cwReadDone (s : State) (r : HostReq) (w value : Nat) : State :=
  let x := getWin s w
  let a : Acc := { id := 0, port := x.port, src := x.src, tag := r.tag, kind := .read, line := cwBase / 64, at_ := r.at_, excl := r.excl }
  countPath (respondDrs s r.port r.tag (BitVec.ofNat 512 value) false 0) 1 a

/-- The value of a register of the control window (03 Table MC-4): write-only registers read 0. -/
def cwValue (x : Window) (reg : Nat) : Nat :=
  if reg = 0x0080 then x.drainState + x.mirrorState * 16 + x.resvState * 256 + x.discardState * 4096
  else if reg = 0x00C0 then 2^32 * x.mirrorDone + x.drainDone
  else if reg = 0x1000 then x.resvAddr
  else if reg = 0x10C0 then x.loss * 256 + x.result
  else if reg = 0x2000 then x.discardBase * 4096
  else if reg = 0x2040 then x.discardPages
  else if reg = 0x20C0 then x.discardDone
  else 0

/-- Whether a resettable block is in reset or waits for its clock to be released (12 Table CS-5). -/
def blockInReset (s : State) (id : Nat) : Bool := s.robj (Obj.BLOCK_STATE + id) != 0

/-- The region of a register for its state and held completions: 1 drain barrier, 2 mirror barrier, 3 reservation, 4 discard, and 0
for an offset that is no register (03 Table MC-4). -/
def cwRegion (reg : Nat) : Nat :=
  if reg = 0x0000 then 1 else if reg = 0x0040 then 2
  else if reg = 0x0080 ∨ reg = 0x00C0 then 1
  else if reg = 0x1000 ∨ reg = 0x1040 ∨ reg = 0x1080 ∨ reg = 0x10C0 then 3
  else if reg = 0x2000 ∨ reg = 0x2040 ∨ reg = 0x2080 ∨ reg = 0x20C0 then 4
  else 0

/-- Whether a register is read-only (03 R68). -/
def cwReadOnly (reg : Nat) : Bool := reg == 0x0080 || reg == 0x00C0 || reg == 0x1040 || reg == 0x10C0 || reg == 0x20C0

/-- Put a state into a window's region and send what its leaving PENDING releases (03 R69). -/
def cwSetState (s : State) (w region st : Nat) : State :=
  let s := updWin s w fun x =>
    if region = 1 then { x with drainState := st } else if region = 2 then { x with mirrorState := st }
    else if region = 3 then { x with resvState := st } else { x with discardState := st }
  releaseHeld s w region

/-- The serving function of a register is in reset or off (03 Table MC-6). The mirror counts as paired in SPLIT, with a lost peer, and in DIVERGED, where a
mirror barrier reads FAULT by 05 R138. -/
def cwServerOff (s : State) (reg : Nat) : Bool :=
  let region := cwRegion reg
  if region = 1 then reg == 0x0000 && blockInReset s 1
  else if region = 2 then mirState s ≤ 1 || 6 ≤ mirState s || (netState s 1 != 3 && netState s 2 != 3)
  else if region = 3 then blockInReset s 2
  else if region = 4 then blockInReset s 3
  else false

/-- Complete a control-window write at once, counted on path 4 (08 R196). -/
def cwComplete (s : State) (r : HostReq) (w : Nat) : State :=
  countPath (respondNdr s r.port r.tag 0) 4 { cwAcc (getWin s w) s r.excl r.tag with at_ := r.at_ }

/-- Whether a port may access every page of a range of host capacity: each lies in a region in use that admits it (03 R80). The fuel
bounds the regions walked. -/
def portAdmitsPages (s : State) (n : Nat) : Nat → Nat → Nat → Bool
  | 0, _, _ => false
  | fuel + 1, pn, last =>
    let r := regionOfPage s pn
    if r = 0 ∨ ¬ bitOf (s.obj U.ports (Obj.REGION_PORTS + r)) (n - 1) then false
    else
      let g := getRegion s r
      let next := (g.base + g.size) / 4096
      if last < next then true else portAdmitsPages s n fuel next last

/-- The write of a drain barrier's token (03 R72). -/
def cwDrain (s : State) (r : HostReq) (w token : Nat) : State :=
  let s := updWin (s.bumpR Obj.DRAIN_BARRIERS) w fun x => { x with drain := some (token, s.wharf.nextSeq), drainState := 1 }
  settleDrain (holdOrComplete s r w 1 0) w

/-- The write of a mirror barrier's token (03 R73, 05 R138). In SPLIT and DIVERGED it reads FAULT at once by 05 R138, also with no asynchronously mirrored
berth, where R73 alone would have it read DONE (DESIGN CHOICE, log 124). -/
def cwMirror (s : State) (r : HostReq) (w token : Nat) : State :=
  let s := s.bumpR Obj.MIRROR_BARRIERS
  if mirState s = 4 ∨ mirState s = 5 then faultMirrorBarrier (cwComplete s r w) w token
  else if s.hc.ranges.any (fun p => p.2.mode == 3) then
    let s := updWin s w fun x => { x with mirror := some (token, s.hc.mirror.txSeq), mirrorState := 1 }
    settleMirrorBarrier (holdOrComplete s r w 2 0) w
  else cwComplete (cwSetState (updWin s w fun x => { x with mirrorDone := token }) w 2 2) r w

/-- Whether a reservation address names a word its agent's port may access, and the region that holds it (03 R78): host capacity in a
region that admits the port, or the berth window inside what is in use. -/
def resvTarget (s : State) (n addr : Nat) : Option Region :=
  if inBerthRange addr then (berthAdmits s (addr / 64) n).map fun _ => {}
  else
    let r := regionOfDpa s addr
    if r = 0 ∨ ¬ bitOf (s.obj U.ports (Obj.REGION_PORTS + r)) (n - 1) then none else some (getRegion s r)

/-- A read of RESV_LOAD (03 R76 to R78). While the reservation unit is in reset the load arms nothing and reads FAULT (DEDUCED from
Table MC-5, log 23). A load that is refused counts on no path of 08 R196 (DESIGN CHOICE, log 128). -/
def cwLoad (s : State) (r : HostReq) (w : Nat) : State :=
  let x := getWin s w
  let refuse (s : State) (result st : Nat) : State :=
    let s := releaseHeld (updWin s w fun x => { x with resv := none, loading := none, storing := none, result := result, loss := 0, resvState := st }) w 3
    respondDrs s r.port r.tag 0 false 0
  if blockInReset s 2 then refuse s 6 4
  else match resvTarget s r.port x.resvAddr with
    | none => refuse s 5 5
    | some g =>
      let a : Acc := { id := 0, port := r.port, src := r.src, tag := r.tag, kind := .resvLoad, line := x.resvAddr / 64, db := g.mode == 2, aliased := true, slot := 32, place := g.policy, metaVal := x.resvAddr / 8 % 8, win := w, excl := r.excl }
      let s := meetErrors s a.line r.errs
      let (s, a) := numberAcc s a
      let a := { a with at_ := r.at_ }
      if isBerthLine a.line then berthEnter s a else arriveBulk s a false

/-- A write of RESV_STORE (03 R76): the conditional store goes to the line of the reservation held, or of the load under way; with neither
it fails at once. `mask`: the bytes of the register written. -/
def cwStore (s : State) (r : HostReq) (w value : Nat) (mask : ByteMask) : State :=
  let s := holdOrComplete s r w 3 1
  let x := getWin s w
  let target := match x.resv with
    | some (l, db) => some (l, db, x.resvWord)
    | none => (resvTarget s r.port x.resvAddr).map fun g => (x.resvAddr / 64, g.mode == 2, x.resvAddr / 8 % 8)
  match target with
  | none => resvFail s w
  | some (l, db, k) =>
    let a : Acc := { id := 0, port := r.port, src := r.src, tag := r.tag, kind := .resvStore, line := l, data := BitVec.ofNat 512 value <<< (64 * k), mask := mask <<< (8 * k), poison := r.poison, db := db, aliased := true, slot := 32, win := w }
    let s := meetErrors s a.line r.errs
    let (s, a) := numberAcc s a
    if isBerthLine a.line then berthEnter s a else arriveBulk s a false

/-- A write of DISCARD_GO (03 R80). -/
def cwDiscardGo (s : State) (r : HostReq) (w token : Nat) : State :=
  let x := getWin s w
  if 8 ≤ x.queue.length ∨ x.discardPages = 0 ∨ 16777216 < x.discardPages
      ∨ ¬ portAdmitsPages s r.port 65 x.discardBase (x.discardBase + x.discardPages - 1) then
    cwComplete (cwSetState (s.bumpR Obj.CW_REJECTED) w 4 5) r w
  else
    let d : Discard := { base := x.discardBase, count := x.discardPages, token := token, started := s.now }
    holdOrComplete (updWin s w fun x => { x with queue := x.queue ++ [d], discardState := 1 }) r w 4 2

/-- A FAULT or REJECTED of a region ends with the next accepted write to it (03 R70, Table MC-5; DEDUCED for REJECTED, log 91). -/
def cwAccepted (x : Window) (region : Nat) : Window :=
  if region = 3 ∧ 4 ≤ x.resvState then { x with resvState := if x.resv.isSome then 1 else if x.result = 2 then 2 else 0 }
  else if region = 4 ∧ 4 ≤ x.discardState then { x with discardState := if !x.queue.isEmpty then 1 else if x.discardRan then 2 else 0 }
  else x

/-- A write to a window's register (03 R68 to R70, R76, R80). While its serving function is off, a write to a read-only or unlisted register still counts
in CW_REJECTED, and the drop comes before the refusal of a mask that writes no whole register (DESIGN CHOICE, log 91). -/
def cwWriteReg (s : State) (r : HostReq) (w off : Nat) : State :=
  let reg := off / 64 * 64
  let region := cwRegion reg
  let low : ByteMask := r.mask &&& 0xFF
  let value := r.data.toNat % 2^64
  if 0x100000 ≤ off ∨ region = 0 ∨ low = 0 ∨ cwReadOnly reg then cwComplete (s.bumpR Obj.CW_REJECTED) r w
  else if cwServerOff s reg then
    let s := record (s.bumpR Obj.CW_DROPPED) Ev.CW_WRITE_DROPPED U.root (0x100 + r.port) [w, if region ≤ 2 then 1 else region - 1, reg, r.port]
    cwComplete (cwSetState s w region 4) r w
  else if low ≠ 0xFF ∧ reg ≠ 0x1080 then cwComplete (cwSetState (s.bumpR Obj.CW_REJECTED) w region 5) r w
  else if reg = 0x0000 then cwDrain s r w (value % 2^32)
  else if reg = 0x0040 then cwMirror s r w (value % 2^32)
  else if reg = 0x1080 then cwStore s r w value low
  else if reg = 0x2080 then cwDiscardGo s r w (value % 2^32)
  else
    let s := updWin s w fun x =>
      let x := if reg = 0x1000 then { x with resvAddr := value % 2^57 / 8 * 8 }
        else if reg = 0x2000 then { x with discardBase := value % 2^47 / 4096 }
        else { x with discardPages := value % 2^25 }
      cwAccepted x region
    cwComplete s r w

/-- A request to the control window range (03 R67, R68): a read of a register line, or a write. Another request touches no register and
answers as on an HDM-H range. -/
def cwRequest (s : State) (r : HostReq) (w off : Nat) : State :=
  let reg := off / 64 * 64
  match r.op with
  | .write | .writePtl => cwWriteReg (giveCredit s r.port true) r w off
  | .read | .readData =>
    let s := giveCredit s r.port false
    if reg = 0x1040 then cwLoad s r w else cwReadDone s r w (if off < 0x100000 then cwValue (getWin s w) reg else 0)
  | .inv | .cleanEvict => respondNdr (giveCredit s r.port false) r.port r.tag 0
  | .specRead | .biConflict => giveCredit s r.port false

/-! ## Requests -/

/-- The BIConflict of an agent for a line (04 R101): its acknowledgement follows the responses to the agent's requests for the line that
entered before the snoop was generated. -/
def hostConflict (s : State) (r : HostReq) (line : LineNo) (db : Bool) : State :=
  let s := giveCredit (s.bumpR Obj.BICONFLICT) r.port false
  let mark := match s.dir.snoops.find? (fun q => q.port == r.port && q.src == r.src && q.line == line) with
    | some q => if db ∧ domainIsDown s then 0 else q.accMark
    | none => 0
  settleAcks (updDir s fun d => { d with acks := d.acks ++ [(r.port, r.src, line, r.tag, mark)] })

/-- A MemSpecRd (04 R92): a fill of the HBM page read cache, with no directory action and no response. -/
def hostSpec (s : State) (r : HostReq) (dpa : Nat) : State :=
  let s := giveCredit s r.port false
  if inBerthRange dpa then s
  else
    let pn := dpa % 2^48 / 4096
    if s.mc.discarding.contains pn ∨ mapLost s pn ∨ ¬ mapUsable s pn then s
    else match mapGet s pn with
      | some ppn => fillPage s pn ppn 8
      | none => s

/-- A request to a port in a loopback at depth 4 (18 Table TS-1): a read returns the last data written at the same bits of its address, a free value where
nothing was (log 84); nothing reaches a slice. -/
def reflectRequest (s : State) (r : HostReq) (dpa : Nat) : State :=
  let n := r.port
  let k := dpa / 64 % 64
  let buf := AMap.getD s.ts.reflect (U.port n) []
  match r.op with
  | .read | .readData =>
    let s := giveCredit s n false
    match AMap.get? buf k with
    | some d => respondDrs s n r.tag d false 0
    | none =>
      let (d, s) := s.draw (2^512)
      respondDrs s n r.tag (BitVec.ofNat 512 d) false 0
  | .write | .writePtl =>
    let (old, s) := match AMap.get? buf k with
      | some d => (d, s)
      | none =>
        let (d, s) := s.draw (2^512)
        (BitVec.ofNat 512 d, s)
    let line := overlay old r.data (if r.op = .write then fullMask else r.mask)
    let s := { s with ts := { s.ts with reflect := AMap.set s.ts.reflect (U.port n) (AMap.set buf k line) } }
    respondNdr (giveCredit s n true) n r.tag 0
  | .inv | .cleanEvict => respondNdr (giveCredit s n false) n r.tag 0
  | .specRead => giveCredit s n false
  | .biConflict => let s := giveCredit s n false
    sendS2m s n 0 (.biConflictAck n r.tag (devLoad s n))

/-- The lowest cause of Table ML-2 that delays a request as its port admits it (08 R197): one that it met before (`was`), 5 while media or HBM leave standby,
8 while POWER_STEP slows the slices (11 R251), and 9 for a write at a port whose RwD credits a thermal request cuts (13 R309). Every request that arrives
under 8 or 9 is taken to be delayed (DEDUCED, log 114). -/
def arrivalCause (s : State) (n : Nat) (wr : Bool) (was : Nat) : Nat :=
  let cs := [(was, decide (was ≠ 0)), (5, s.cs.p2Exit), (8, decide (0 < s.obj U.power Obj.POWER_STEP)), (9, wr && decide ((getPort s n).thermCut < 4))]
  ((cs.filter (·.2)).map (·.1)).foldl (fun a c => if a = 0 then c else min a c) 0

/-- A request that its port admits (02 R49, 03 R57): it is dropped by a fence, or decoded and sent to the control window, the berths or the
slice of its line. One that no committed decoder of its agent holds is dropped (DESIGN CHOICE, log 16). A request for ownership or a clean evict through
a placement alias is granted and recorded nothing (03 R82, log 16). -/
def admitRequest (r : HostReq) (was : Nat) (s : State) : State :=
  let n := r.port
  let wr := decide (r.op = .write ∨ r.op = .writePtl)
  if !portServes s n then giveCredit s n wr
  else match decodeHpa s n r.src r.addr with
    | none => giveCredit s n wr
    | some (dpa, d) =>
      let s := noteTraffic s
      if reflecting s n then reflectRequest s r dpa
      else
      let r := { r with excl := arrivalCause s n wr was }
      let line := if inBerthRange dpa then dpa / 64 else dpa % 2^48 / 64
      let sl := some (sliceOfLine line)
      let s := if wr then bwAdd (pcCount s 0x03 (U.port n) sl 1) n 0 64
        else if r.op = .read ∨ r.op = .readData then pcCount s 0x02 (U.port n) sl 1 else s
      let s := if wr ∧ r.poison then s.bump (U.port n) Obj.POISON_RX else s
      if inCwRange dpa then
        match windowOf s n r.src with
        | some w => cwRequest s r w (dpa - cwBase)
        | none => giveCredit s n wr
      else
        let s := meetErrors s line r.errs
        let go (kind : AccKind) : State :=
          let (s, a) := numberAcc s (reqAcc s r kind dpa d)
          let a := { a with at_ := r.at_ }
          if inBerthRange dpa then berthEnter s a
          else arriveBulk s a r.bypass
        let db := (getRegion s d.region).mode == 2
        match r.op with
        | .read | .readData => go .read
        | .write | .writePtl => go .write
        | .inv =>
          if !db then respondNdr (giveCredit s n false) n r.tag 0
          else if d.hint = 0 then go .inv
          else if domainIsDown s then giveCredit s n false
          else respondNdr (giveCredit s n false) n r.tag 0
        | .cleanEvict =>
          let s := s.bumpR Obj.CLEAN_EVICTS
          let (s, a) := numberAcc s (reqAcc s r .cleanEvict dpa d)
          if db ∧ d.hint = 0 then arriveBulk s { a with at_ := r.at_ } false else respondNdr (giveCredit s n false) n r.tag 0
        | .specRead => hostSpec s r dpa
        | .biConflict => hostConflict s r line db

/-- A CXL.mem request arrives at a port (02 R45, R49): it takes its credit; a fence drops it; a firmware pause holds it with its credit (18
R403). Nothing can arrive where the link carries no CXL.mem. -/
def hostRequest (r : HostReq) (s : State) : State :=
  let n := r.port
  let wr := decide (r.op = .write ∨ r.op = .writePtl)
  if !linkMem s n ∨ portAbsent s n then s
  else
    let r := { r with src := srcOf s n r.src, at_ := s.now }
    let s := takeCredit s n wr
    if s.ts.activating = 2 ∧ portServes s n then { s with ts := { s.ts with paused := s.ts.paused ++ [r] } }
    else settle (admitRequest r 0 s)

/-- A live activation's pause ends (18 R403): the requests it held are admitted in the order of their arrival, excluded under cause 6 of Table ML-2. -/
def endPause (s : State) : State :=
  let held := s.ts.paused
  settle (held.foldl (fun s r => admitRequest r 6 s) { s with ts := { s.ts with activating := 0, paused := [] } })

/-- The host physical address by which an agent reaches an offset of its control window (03 R67). -/
def cwHpa (s : State) (n src off : Nat) : Option Nat :=
  match findAgent s n (srcOf s n src) with
  | none => none
  | some a => (a.decoders.find? fun d => inCwRange d.2.dpa).map fun d => d.2.hpa + (cwBase + off - d.2.dpa)

/-- A request to an offset of the agent's control window. Without a decoder on it none can arrive (03 R68). -/
def cwArrive (op : ReqOp) (n src tag off : Nat) (data : LineData) (mask : ByteMask) (errs : List ArrayErr) (s : State) : State :=
  match cwHpa s n src off with
  | some a => hostRequest { op := op, port := n, src := src, tag := tag, addr := a, data := data, mask := mask, errs := errs } s
  | none => s

end Sys2Proof.Machine
end

