-- ==== Sys2Proof/Machine/HostCmd.lean ====
section
/-! DEFINITION. The meanings of the CXL.mem commands: requests, responses to snoops, credits, retry stores and the domain-down procedure
(02 R45, chapter 04). -/
namespace Sys2Proof.Machine
open Sys2Proof

/-- A request without data as it arrives. -/
def plainReq (op : ReqOp) (port : Fin 16) (src : BitVec 12) (tag : BitVec 14) (addr : BitVec 64) (mv : Nat) (errs : List ArrayErr) : HostReq :=
  { op := op, port := port.val + 1, src := src.toNat, tag := tag.toNat, addr := addr.toNat, metaVal := mv, errs := errs }

/-- Meaning of MEM_RD (04 R93, 01 R17). -/
def execMemRd (port : Fin 16) (src : BitVec 12) (tag : BitVec 14) (addr : BitVec 64) (mv : MetaValue) (errs : List ArrayErr) (s : State) : Host.Outcome State Fault Refusal :=
  .next (hostRequest (plainReq .read port src tag addr mv.code errs) s)

/-- Meaning of MEM_RD_DATA (04 R93): as Read-S, but a line in I is granted in E. -/
def execMemRdData (port : Fin 16) (src : BitVec 12) (tag : BitVec 14) (addr : BitVec 64) (errs : List ArrayErr) (s : State) : Host.Outcome State Fault Refusal :=
  .next (hostRequest (plainReq .readData port src tag addr 3 errs) s)

/-- Meaning of MEM_SPEC_RD (04 R92). -/
def execMemSpecRd (port : Fin 16) (src : BitVec 12) (tag : BitVec 14) (addr : BitVec 64) (errs : List ArrayErr) (s : State) : Host.Outcome State Fault Refusal :=
  .next (hostRequest (plainReq .specRead port src tag addr 0 errs) s)

/-- Meaning of MEM_INV, and of MemInvNT (04 R93). -/
def execMemInv (port : Fin 16) (src : BitVec 12) (tag : BitVec 14) (addr : BitVec 64) (errs : List ArrayErr) (s : State) : Host.Outcome State Fault Refusal :=
  .next (hostRequest (plainReq .inv port src tag addr 2 errs) s)

/-- Meaning of MEM_CLN_EVCT (04 R100). -/
def execMemClnEvct (port : Fin 16) (src : BitVec 12) (tag : BitVec 14) (addr : BitVec 64) (errs : List ArrayErr) (s : State) : Host.Outcome State Fault Refusal :=
  .next (hostRequest (plainReq .cleanEvict port src tag addr 0 errs) s)

/-- Meaning of BI_CONFLICT (04 R101). -/
def execBiConflict (port : Fin 16) (src : BitVec 12) (tag : BitVec 14) (addr : BitVec 64) (s : State) : Host.Outcome State Fault Refusal :=
  .next (hostRequest (plainReq .biConflict port src tag addr 0 []) s)

/-- Meaning of MEM_WR (01 R15). -/
def execMemWr (port : Fin 16) (src : BitVec 12) (tag : BitVec 14) (addr : BitVec 64) (mv : MetaValue) (data : LineData) (poison : Bool) (errs : List ArrayErr) (s : State) : Host.Outcome State Fault Refusal :=
  .next (hostRequest { plainReq .write port src tag addr mv.code errs with data := data, mask := fullMask, poison := poison } s)

/-- Meaning of MEM_WR_PTL (03 R62). `bypass`: every combining entry of the slice is being appended in this cycle. -/
def execMemWrPtl (port : Fin 16) (src : BitVec 12) (tag : BitVec 14) (addr : BitVec 64) (mv : MetaValue) (data : LineData) (mask : ByteMask) (poison : Bool) (bypass : Bool) (errs : List ArrayErr) (s : State) : Host.Outcome State Fault Refusal :=
  .next (hostRequest { plainReq .writePtl port src tag addr mv.code errs with data := data, mask := mask, poison := poison, bypass := bypass } s)

/-- Meaning of COMBINING_TIMEOUT (03 R62). -/
def execCombiningTimeout (line : Nat) (s : State) : Host.Outcome State Fault Refusal :=
  .next (if s.phase = .running then settle (appendCb (if AMap.has s.mc.cb line then leaveP2 s else s) line) else s)

/-- Whether a snoop allows a response (04 R92). -/
def rspAllowed (kind : Nat) (rsp : BiRsp) : Bool :=
  match rsp with
  | .i => true
  | .s => kind != 1
  | .e => kind == 3

/-- A BIRsp arrives (04 R92, R99). -/
def biRsp (n src line : Nat) (rsp : BiRsp) (block : Bool) (s : State) : State :=
  let src := srcOf s n src
  if !linkMem s n then s
  else if fencedWhole s n ∨ s.phase ≠ .running then birspCredit (birspCredit s n true) n false
  else
    let s := birspCredit (birspCredit s n true) n false
    let kind := match rsp with
      | .i => 1
      | .s => 2
      | .e => 3
    let bad (s : State) : State :=
      let slot := (slotOf s n src).getD 0xFF
      record (s.bumpR Obj.BIRSP_PROTO) Ev.BIRSP_PROTOCOL (U.port n) (0x100 + n) [line * 64, slot, kind]
    match s.dir.snoops.find? (fun q => q.port == n && q.src == src && q.line == line && q.sent) with
    | none => bad s
    | some q =>
      if block ∨ ¬ rspAllowed q.kind rsp then
        bad (updDir s fun d => { d with snoops := d.snoops.map fun x => if x.id = q.id then { x with proto := true } else x })
      else
        let s := s.bumpR (match rsp with
          | .i => Obj.BIRSP_I
          | .s => Obj.BIRSP_S
          | .e => Obj.BIRSP_E)
        let s := updDir s fun d => { d with
          snoops := d.snoops.filter (fun x => x.id != q.id), txs := d.txs.map fun t => if t.id = q.tx then { t with anyE := t.anyE || rsp == .e, anyS := t.anyS || rsp == .s } else t }
        match findTx s q.tx with
        | some t =>
          let s := if t.kind ≠ 0 ∧ ¬ (txSnoops s t.id).any fun x => x.line == q.line then clearLine s q.line else s
          if (txSnoops s t.id).isEmpty then settle (completeTx s t) else s
        | none => s

/-- Meaning of BI_RSP (04 R99). -/
def execBiRsp (port : Fin 16) (src : BitVec 12) (line : Nat) (rsp : BiRsp) (block : Bool) (s : State) : Host.Outcome State Fault Refusal :=
  .next (biRsp (port.val + 1) src.toNat line rsp block s)

/-- Meaning of BISNP_SEND (04 R102). -/
def execBisnpSend (snoop : Nat) (s : State) : Host.Outcome State Fault Refusal :=
  .next (match s.dir.snoops.find? (fun q => q.id == snoop) with
    | some q => trySnoop s q
    | none => s)

/-- Send the held snoops of a port that may leave, oldest first (04 R102). -/
def sendHeld (s : State) (n : Nat) : State :=
  (s.dir.snoops.filter fun q => q.port == n && !q.sent).foldl trySnoop s

/-- Meaning of S2M_CREDIT_RETURN (02 R45): the host's credits let waiting responses leave, then held snoops. -/
def execS2mCreditReturn (port : Fin 16) (ndr : BitVec 16) (drs : BitVec 16) (bisnp : BitVec 16) (s : State) : Host.Outcome State Fault Refusal :=
  let n := port.val + 1
  if linkMem s n then
    let p := getPort s n
    let s := putPort s n { p with ndr := p.ndr + ndr.toNat, drs := p.drs + drs.toNat, bisnp := p.bisnp + bisnp.toNat }
    .next (if responds s n then sendHeld (pumpPort s n) n else s)
  else .next s

/-- Meaning of RETRY_STORE_RELEASE (04 R96): the oldest request waiting for a set with a way not busy retries. -/
def execRetryStoreRelease (slice : Fin 16) (set : Nat) (s : State) : Host.Outcome State Fault Refusal :=
  .next (match s.dir.retry.find? (fun r => sliceOfLine r.acc.line == slice.val && dirSet (sectorOfLine r.acc.line) == set) with
    | some r =>
      let x := sectorOfLine r.acc.line
      if (dirWay s x).isSome ∨ dirFree s x ∨ (dirVictim s x).isSome then
        let s := updDir s fun d => { d with retry := d.retry.filter fun q => q.acc.id != r.acc.id }
        settle (resumeAcc (s.raiseTo U.root Obj.RETRY_WAIT_MAX (usBetween r.since s.now)) r.acc)
      else s
    | none => s)

/-- Meaning of RETRY_TIMEOUT (04 R96, R105): the domain goes down with cause 2. -/
def execRetryTimeout (acc : Nat) (s : State) : Host.Outcome State Fault Refusal :=
  .next (match s.dir.retry.find? (fun r => r.acc.id == acc) with
    | some r => startDown (s.raiseTo U.root Obj.RETRY_WAIT_MAX (usBetween r.since s.now)) 2 0xFF 0 r.acc.line
    | none => s)

/-- Meaning of SNOOP_TIMEOUT (04 R103, R105): the domain goes down with cause 1, or 3 after a response that was a protocol error. -/
def execSnoopTimeout (snoop : Nat) (s : State) : Host.Outcome State Fault Refusal :=
  .next (match s.dir.snoops.find? (fun q => q.id == snoop) with
    | some q =>
      if s.phase = .running then
        let s := record s Ev.SNOOP_TIMEOUT U.root (0x300 + q.slot) [q.line * 64, q.slot, q.port, q.kind]
        startDown s (if q.proto then 3 else 1) q.slot q.port q.line
      else s
    | none => s)

/-- Meaning of DOMAIN_DOWN_WALK_DONE (04 R105, Table CD-5). -/
def execDomainDownWalkDone (s : State) : Host.Outcome State Fault Refusal := .next (walkDone s)

/-- What DOMAIN_RECOVER does as a run (04 R109). -/
def domainRecoverEffect : KEffect := runCommand false (fun _ => false) fun _ _ s => recoverDomain staleLines s

/-- Meaning of DOMAIN_RECOVER (04 R109). -/
def execDomainRecover (req : KReq) (arg : BitVec 32) (s : State) : Host.Outcome State Fault Refusal :=
  .next (kdpObject req (.domainRecover req arg) 0x1203 (.exec arg.toNat) domainRecoverEffect s)

end Sys2Proof.Machine
end

