-- ==== Sys2Proof/Machine/PortCmd.lean ====
section
/-! DEFINITION. The meanings of the port commands (chapter 02): links, resets, agents and decoders, the mailbox, IDE, viral, and the port
objects with a rule of their own. -/
namespace Sys2Proof.Machine
open Sys2Proof

/-! ## Links -/

/-- Whether a port's link may train (02 R36, R52, R53): the SerDes are powered, its enable is on, its reset is released, the host has
not disabled it, and its connector's copy of REFCLK is good (12 R279, 14 R328: J1 serves ports 1 to 8 and J2 ports 9 to 16). -/
def canTrain (s : State) (n : Nat) : Bool :=
  (s.phase == .booting || s.phase == .loading || s.phase == .running || s.phase == .halted) && decide (s.robj Obj.PSTATE_NOW < 3) && s.cs.reset_ == 0
    && !portAbsent s n && preg s n Obj.PORT_ENABLE_STATE == 1 && !(getPort s n).rstLow && !(getPort s n).hostDisabled
    && (!AMap.has s.ts.loops (U.port n) || reflecting s n) && !(if n ≤ 8 then s.cs.lost1 else s.cs.lost2)

/-- A port's link starts to train, or stays down. -/
def startTraining (s : State) (n : Nat) : State :=
  if preg s n Obj.LINK_STATE ≤ 1 then s.setObj (U.port n) Obj.LINK_STATE (if canTrain s n then 1 else 0) else s

/-- The link leaves L0 (02 R43, R56): DL_Down is counted and logged where the link was up. A reset of Table HP-9 or a disable that takes a link down
counts and logs as one too; the SerDes that a flush turns off do not (DESIGN CHOICE, log 25). -/
def dropLink (s : State) (n : Nat) : State :=
  let u := U.port n
  let was := preg s n Obj.LINK_STATE
  let s := if 2 ≤ was then
      record (s.bump u Obj.LINK_DOWN) Ev.PORT_LINK_DOWN u (0x100 + n) [n, was, preg s n Obj.RATE_NOW, preg s n Obj.WIDTH_NOW]
    else s
  let s := (((s.setObj u Obj.LINK_STATE 0).setObj u Obj.RATE_NOW 0).setObj u Obj.WIDTH_NOW 0).setObj u Obj.FLIT_NOW 0
  putPort s n { getPort s n with degraded := false, outq := [] }

/-- A port's credits and DevLoad are initialised again (02 Table HP-9). -/
def resetCredits (s : State) (n : Nat) : State :=
  let s := putPort (s.setObj (U.port n) Obj.DEVLOAD_NOW 0) n { getPort s n with rwdFree := 0, rwdUsed := 0, reqFree := 0, reqUsed := 0, biFree := 0, pace := 0, ndr := 0, drs := 0, bisnp := 0, outq := [] }
  if linkMem s n then grantCredits (putPort s n { getPort s n with reqFree := rwdPool s n, biFree := rwdPool s n / 4, pace := paceAllowance s n }) n else s

/-- The requests of a port whose responses will not be sent (02 R49, R52): those that have entered a conflict table lose their port, so that
they complete inside the module; those held ahead of it are dropped, and their credits return (R45). -/
def silencePort (s : State) (n : Nat) : State :=
  let f (a : Acc) : Acc := if a.port = n ∧ a.kind ≠ .discard ∧ a.kind ≠ .agentRecall then { a with port := 0, holds := false } else a
  let keep (a : Acc) : Bool := a.port != n
  let s := returnDropped s (· == n)
  let s := updDir s fun d => { d with
    txs := d.txs.map (fun t => { t with accs := t.accs.map f }), waiting := d.waiting.map f, retry := d.retry.filter (fun r => keep r.acc), acks := d.acks.filter (fun k => k.1 != n) }
  let s := { s with
    ml := { s.ml with reads := s.ml.reads.map fun r => { r with accs := r.accs.map f } },
    wharf := { s.wharf with held := s.wharf.held.filter keep }, ts := { s.ts with paused := s.ts.paused.filter fun r => r.port != n } }
  updMirror s fun m => { m with heldSync := m.heldSync.map (fun p => (p.1, f p.2)), heldAsync := m.heldAsync.filter keep }

/-- Whether a window has operations that run on when its binding ends (03 R69). -/
def Window.runsOn (x : Window) : Bool := !x.queue.isEmpty || x.drain.isSome || x.mirror.isSome

/-- Detach the accesses of a window from it (03 R69): its discards go to another entry of the table, and its reservation's load and store run to
their end for no window. -/
def moveAccs (s : State) (w v : Nat) : State :=
  let f (a : Acc) : Acc := if a.win = w then { a with win := if a.kind = .discard then v else 0 } else a
  let s := updDir s fun d => { d with
    txs := d.txs.map (fun t => { t with accs := t.accs.map f }), waiting := d.waiting.map f, retry := d.retry.map fun r => { r with acc := f r.acc } }
  let s := { s with
    ml := { s.ml with reads := s.ml.reads.map fun r => { r with accs := r.accs.map f } }, wharf := { s.wharf with held := s.wharf.held.map f } }
  updMirror s fun m => { m with heldSync := m.heldSync.map (fun p => (p.1, f p.2)), heldAsync := m.heldAsync.map f }

/-- A window's binding ends (03 R67, R69): its reservation is lost with cause 10 (R79). The completions it holds are sent at once where the
host cleared Commit (`answer`), and not after a reset. Its barriers and the descriptors of its discard queue run to their end. -/
def unbindWindow (s : State) (w : Nat) (answer : Bool) : State :=
  let s := loseResv s w 10
  let s := if answer then [1, 2, 3, 4].foldl (fun s r => releaseHeld s w r) s else s
  let x := getWin s w
  let s := { s with mc := { s.mc with windows := AMap.del s.mc.windows w } }
  if x.runsOn then
    match ((List.range (s.mc.windows.length + 1)).map fun k => w + 32 * (k + 1)).find? fun v => !AMap.has s.mc.windows v with
    | some v =>
      let s := { s with mc := { s.mc with windows := AMap.set s.mc.windows v { queue := x.queue, drain := x.drain, mirror := x.mirror } } }
      moveAccs s w v
    | none => s
  else moveAccs s w 0

/-- Unbind the windows of an agent's control-window decoder. -/
def unbindAgent (s : State) (n src : Nat) (answer : Bool) : State :=
  match windowOf s n src with
  | some w => unbindWindow s w answer
  | none => s

/-- Recall every line of the agents of a port (02 R43): an agent that the directory records as holding a line waits in state 3; another's
slot is settled at once. -/
def recallPort (s : State) (n : Nat) : State :=
  (s.hp.slots.filter fun p => p.2.port == n).foldl (fun s p =>
    let holds := s.dir.entries.any fun e => bitOf e.2.sharers p.1 && e.2.lstate != 0
    let s := if holds then { s with hp := { s.hp with slots := AMap.set s.hp.slots p.1 { p.2 with state := 3, recalled := 0 } } } else s
    recallAgent s p.1 fun _ => true) s

/-- What uncommits every decoder of a port (02 R43, Table HP-9): windows are released without completions, and agents with lines are
recalled. -/
def uncommitPort (s : State) (n : Nat) : State :=
  let mine := s.hp.agents.filter fun a => a.port == n
  let s := mine.foldl (fun s a => unbindAgent s n a.src false) s
  let s := { s with hp := { s.hp with agents := s.hp.agents.map fun a => if a.port = n then { a with decoders := [], commitErr := [] } else a } }
  recallPort s n

/-- The means of Table HP-9 that reset a port. -/
inductive ResetMeans where
  | conventional | hot | disable | cxl
  deriving DecidableEq, Repr

/-- A reset of a port (02 R52, Table HP-9): its keys and the port-local reasons of its fence are cleared. A link disable, of which Table HP-9 says that
configuration space is kept and R38 that it resets the agent's configuration state, drops the agent with its BI decoder (DESIGN CHOICE, log 90). -/
def resetPort (s : State) (n : Nat) (m : ResetMeans) : State :=
  let u := U.port n
  let s := losePortResv (abortLoop (openGate s (100 + n)) u) n 10
  let s := if m = .cxl then s else dropLink s n
  let s := silencePort s n
  let s := uncommitPort s n
  let s := if m = .cxl then { s with hp := { s.hp with agents := s.hp.agents.map fun a => if a.port = n then { a with biEnabled := false, biId := 0, commitErr := [] } else a } }
    else { s with hp := { s.hp with agents := s.hp.agents.filter fun a => a.port != n } }
  let s := (s.setObj u Obj.IDE_NOW 0).setObj u Obj.FENCE_REASON (preg s n Obj.FENCE_REASON &&& 0x0F)
  let p := getPort s n
  let p := { p with viral := p.viral && preg s n Obj.FENCE_REASON != 0, ioIde := false, ioRefresh := false, memRefresh := false, hostDisabled := m == .disable || (p.hostDisabled && m == .cxl), failed := p.failed && m == .cxl }
  let p := if m = .conventional then { p with attachNow := preg s n Obj.ATTACH_MODE, aerSticky := 0 } else p
  let s := resetCredits (putPort s n p) n
  settle (sendHeld (startTraining s n) n)

/-- The units whose state a port's change can move. -/
def portUnits (n : Nat) : List Nat := [U.port n, U.ports, U.root]

/-- The fence of a link's second port as the port comes present or goes (02 Table HP-9a): the reasons that fence all ports, with viral for INTEGRITY_HALT, or
none. -/
def fenceSecond (s : State) (odd : Nat) : State :=
  let n := odd + 1
  if portAbsent s n then putPort (s.setObj (U.port n) Obj.FENCE_REASON 0) n { getPort s n with viral := false }
  else
    let why := preg s odd Obj.FENCE_REASON
    [0, 1, 2].foldl (fun s b => if bitOf why b then fencePort (if b = 2 then raiseViral s n else s) n b else s) s

/-- Take the pending bifurcation of a link (02 R28): both its units are reset as by PORT_RST_N. -/
def takeBifurcation (s : State) (odd : Nat) : State :=
  let want := preg s odd Obj.PORT_BIFURCATE
  let s := resetPort s odd .conventional
  let s := if portAbsent s (odd + 1) then s else resetPort s (odd + 1) .conventional
  let s := fenceSecond (s.setObj (U.port odd) Obj.BIFURCATE_NOW want) odd
  startTraining (startTraining s odd) (odd + 1)

/-- Meaning of PORT_RST_N_ASSERT (02 R28, R29, R52): the second pin of an unbifurcated link is ignored. -/
def execPortRstNAssert (pin : Fin 16) (s : State) : Host.Outcome State Fault Refusal :=
  let n := pin.val + 1
  let s0 := s
  let s := putPort s n { getPort s n with rstLow := true }
  if portAbsent s n then .next s
  else
    let s := if n % 2 = 1 ∧ preg s n Obj.PORT_BIFURCATE ≠ preg s n Obj.BIFURCATE_NOW then takeBifurcation s n else resetPort s n .conventional
    .next (track (portUnits n) s0 s)

/-- Meaning of HOT_RESET (02 R52). -/
def execHotReset (port : Fin 16) (s : State) : Host.Outcome State Fault Refusal :=
  let n := port.val + 1
  .next (if 2 ≤ preg s n Obj.LINK_STATE then track (portUnits n) s (resetPort s n .hot) else s)

/-- Meaning of LINK_DISABLE (02 R52): the link is down until the host enables it again, when it trains. -/
def execLinkDisable (port : Fin 16) (s : State) : Host.Outcome State Fault Refusal :=
  let n := port.val + 1
  .next (if 2 ≤ preg s n Obj.LINK_STATE then track (portUnits n) s (resetPort s n .disable) else s)

/-- Meaning of CXL_RESET (02 R52). -/
def execCxlReset (port : Fin 16) (s : State) : Host.Outcome State Fault Refusal :=
  let n := port.val + 1
  .next (if 2 ≤ preg s n Obj.LINK_STATE then track (portUnits n) s (resetPort s n .cxl) else s)

/-- A link is lost (02 R43, R49, R56): LINK_ACTIVE_LOST fences the port, and each agent with lines is recalled. -/
def linkLost (s : State) (n : Nat) : State :=
  if 2 ≤ preg s n Obj.LINK_STATE then
    let s0 := s
    let s := fencePort (dropLink s n) n 6
    let s := uncommitPort (silencePort s n) n
    track (portUnits n) s0 (settle (startTraining (resetCredits s n) n))
  else s

/-- Note whether a port's receivers detect a far end (02 R31). -/
def noteFarEnd (s : State) (n : Nat) (farEnd : Bool) : State :=
  let s0 := s
  track (portUnits n) s0 (putPort s n { getPort s n with farEnd := farEnd, failed := (getPort s n).failed && farEnd })

/-- Meaning of PORT_LINK_DOWN (02 R31, R43, R49, R56): the link is lost where it was up, and the port's receivers detect a far end or no longer do; a port
without one stops reading FAILED and reads OFF. -/
def execPortLinkDown (link : LinkDown) (s : State) : Host.Outcome State Fault Refusal :=
  .next (noteFarEnd (linkLost s (link.port.val + 1)) (link.port.val + 1) link.farEnd)

/-- Meaning of LINK_RETRAIN_RECOVERY (02 R54): only reservations are lost. -/
def execLinkRetrainRecovery (port : Fin 16) (s : State) : Host.Outcome State Fault Refusal :=
  let n := port.val + 1
  .next (if 2 ≤ preg s n Obj.LINK_STATE then losePortResv s n 4 else s)

/-- A link reaches L0 (02 R30, R31): with CXL.mem at a point of Table HP-1, with CXL.io only below it. -/
def reachL0 (s : State) (n rate width flit farRate farWidth ndr drs bisnp : Nat) : State :=
  let u := U.port n
  let ioOnly := decide (rate ≤ 8 ∨ width ≤ 2)
  let capRate := min (preg s n Obj.RATE_CAP) farRate
  let capWidth := min (fullWidth s n) farWidth
  let short := decide (rate < capRate ∨ width < capWidth)
  let s := ((s.setObj u Obj.LINK_STATE (if ioOnly then 2 else 3)).setObj u Obj.RATE_NOW rate).setObj u Obj.WIDTH_NOW width
  let s := unfencePort (s.setObj u Obj.FLIT_NOW flit) n 6
  let s := putPort s n { getPort s n with farEnd := true, failed := false, degraded := short || ioOnly, hostDisabled := false }
  let s := if short ∨ ioOnly then record s Ev.PORT_DEGRADED u (0x100 + n) [n, rate, width, flit] else s
  let s := resetCredits s n
  let s := putPort s n { getPort s n with ndr := ndr, drs := drs, bisnp := bisnp }
  let s := if !ioOnly ∧ s.phase = .running ∧ s.robj Obj.PSTATE_NOW < 3 ∧ s.robj Obj.ENTRY_STATE < 2 ∧ s.cs.reset_ = 0 then releasePins s else s
  settle (sendHeld s n)

/-- The state with both copies of REFCLK present: what a link's training shows of its own (14 R324, R328). -/
def clockBack (s : State) : State := { s with cs := { s.cs with lost1 := false, lost2 := false } }

/-- Meaning of LINK_REACHES_L0 (02 R31). A point that the port's caps exclude cannot be reached: no rate above RATE_CAP or the far end's, no
width beyond the port's lanes or the far end's, 68-byte flits at 16 and 32 GT/s only (R32). A host that had disabled the link has enabled
it again, and a copy of REFCLK under which a link trains is present again, its 100 ms of good clock not yet over (12 R279; DEDUCED, log 134). -/
def execLinkReachesL0 (port : Fin 16) (rate : LinkRate) (width : LinkWidth) (flit : FlitMode) (farRate : LinkRate) (farWidth : LinkWidth) (ndr : BitVec 16) (drs : BitVec 16) (bisnp : BitVec 16) (s : State) : Host.Outcome State Fault Refusal :=
  let n := port.val + 1
  let up := canTrain (clockBack (putPort s n { getPort s n with hostDisabled := false })) n
  let fits := decide (rate.code ≤ preg s n Obj.RATE_CAP ∧ rate.code ≤ farRate.code ∧ width.code ≤ fullWidth s n ∧ width.code ≤ farWidth.code)
    && (flit != .b68 || rate == .g16 || rate == .g32)
  .next (if up ∧ fits ∧ preg s n Obj.LINK_STATE ≤ 1 then
      track (portUnits n) s (reachL0 s n rate.code width.code flit.code farRate.code farWidth.code ndr.toNat drs.toNat bisnp.toNat)
    else s)

/-- Meaning of PORT_FAILED (02 R31). -/
def execPortFailed (port : Fin 16) (rate : LinkRate) (width : LinkWidth) (s : State) : Host.Outcome State Fault Refusal :=
  let n := port.val + 1
  if canTrain (clockBack s) n ∧ preg s n Obj.LINK_STATE ≤ 1 ∧ ¬ (getPort s n).failed then
    let s0 := s
    let s := putPort s n { getPort s n with failed := true, farEnd := true }
    let s := record s Ev.PORT_FAILED (U.port n) (0x100 + n) [n, rate.code, width.code, 1]
    .next (track (portUnits n) s0 s)
  else .next s

/-! ## Configuration -/

/-- Whether a port answers on CXL.io (02 Table HP-9a, R36): not while a freeze stops its clocks (12 R296). -/
def ioAnswers (s : State) (n : Nat) : Bool :=
  let r := preg s n Obj.FENCE_REASON
  s.robj Obj.FROZEN == 0 && decide (2 ≤ preg s n Obj.LINK_STATE) && r &&& 0x43 == 0 && !(bitOf r 4 && (getPort s n).ioIde)

/-- An agent's access to its configuration state (02 R38): the agent is counted from its first one, and one more agent than the port admits receives
Unsupported Request. The programming of a decoder is such an access (DEDUCED, log 90). -/
def configAccess (s : State) (n src tag : Nat) : State × Bool :=
  if (findAgent s n src).isSome then (s, true)
  else if (if (getPort s n).attachNow = 1 then 4 else 1) ≤ (s.hp.agents.filter fun a => a.port == n).length then
    let s := s.bump U.ports Obj.ENROLL_REFUSED
    let s := record s Ev.ENROLL_REFUSED (U.port n) (0x100 + n) [n, src, 1, slotsUsed s]
    ((aerRecord s n 20).emit (.ioCompletion n tag true 0), false)
  else ({ s with hp := { s.hp with agents := s.hp.agents ++ [{ port := n, src := src }] } }, true)

/-- What a configuration request does once it is accepted. -/
def configOp (s : State) (n src : Nat) (op : CfgOp) : State :=
  match op with
  | .access | .read _ => s
  | .setBi en id =>
    let s := updAgent s n src fun a => { a with biEnabled := en, biId := id % 65536 }
    match slotOf s n src with
    | some k => { s with hp := { s.hp with slots := AMap.upd s.hp.slots k { state := 1, port := n, src := src, biId := 0, enrolledAt := 0 } fun x => { x with biId := id % 65536 } } }
    | none => s

/-- Media status of Table HP-5: 0 Not Ready, 1 Ready, 2 Error; in FLUSHING it is unchanged, which is Ready from service and Error from
HALTED. -/
def mediaStatus (s : State) : Nat :=
  match s.phase with
  | .running => 1
  | .halted => 2
  | .flushing => if s.hm.latchHalted then 2 else match s.pw.flush with
    | some f => if 4 ≤ f.state ∧ f.state ≤ 5 ∨ f.state = 9 then 1 else 0
    | none => 0
  | _ => 0

/-- Memory_Active of Table HP-5: 1 where Media Status reads Ready. -/
def memoryActive (s : State) : Nat := b2n (mediaStatus s == 1)

/-- What a read of configuration space or of a component register returns (02 R33, R34, R36, R37, R40, Tables HP-2, HP-3, HP-5): the size of BAR0 in bytes,
the GPF phase 2 duration in µs, a decoder's Committed in bit 0 and Commit Error in bit 1 (the places are the model's own, log 101). -/
def cfgValue (s : State) (n src : Nat) (f : CfgField) : Nat :=
  match f with
  | .capability c => b2n c.supported
  | .serial => (Config.serial (readUnit.ownPart U.root)).foldl (fun v b => v * 256 + b.toNat) 0
  | .barSize => 0x40000
  | .msixVectors => 4
  | .aerStatus => (getPort s n).aerSticky
  | .memoryActive => memoryActive s
  | .activeTimeout => 1
  | .mediaStatus => mediaStatus s
  | .gpfDuration => 1
  | .decoder d => match findAgent s n src with
    | some a => b2n (AMap.has a.decoders d.val) + 2 * b2n (a.commitErr.contains d.val)
    | none => 0

/-- The value in the completion of a configuration request. -/
def cfgAnswer (s : State) (n src : Nat) : CfgOp → Nat
  | .read f => cfgValue s n src f
  | .access | .setBi _ _ => 0

/-- Meaning of CONFIG_REQUEST (02 R38). -/
def execConfigRequest (port : Fin 16) (src : BitVec 12) (tag : BitVec 14) (op : CfgOp) (s : State) : Host.Outcome State Fault Refusal :=
  let n := port.val + 1
  let src := srcOf s n src.toNat
  .next (if !ioAnswers s n then s
    else
      let p := configAccess s n src tag.toNat
      if p.2 then (configOp p.1 n src op).emit (.ioCompletion n tag.toNat false (cfgAnswer p.1 n src op)) else p.1)

/-- Where a decoder's device range lies (02 Table HP-6 check 3). -/
inductive Placement where
  | region (r : Nat)
  | alias_ (r h : Nat)
  | window
  | berth
  deriving DecidableEq, Repr

/-- Whether a range lies wholly inside a region in use. -/
def insideRegion (s : State) (dpa size : Nat) : Option Nat :=
  let r := regionOfDpa s dpa
  let g := getRegion s r
  if r ≠ 0 ∧ dpa + size ≤ g.base + g.size then some r else none

/-- The placement of a decoder's range, none where check 3 fails. -/
def placeDecoder (s : State) (n src dpa size : Nat) : Option Placement :=
  if inCwRange dpa then
    if dpa + size ≤ cwBase + 0x10000000 ∧ ((windowOf s n src).isSome ∨ (s.mc.windows.filter fun p => p.2.port != 0).length < 32) then some .window else none
  else if inBerthRange dpa then (if dpa = berthBase ∧ size = 0x10000000 then some .berth else none)
  else
    let h := dpa / 2^48
    if h = 0 then (insideRegion s dpa size).map .region
    else if h ≤ 3 then
      match insideRegion s (dpa % 2^48) size with
      | some r => if bitOf (getRegion s r).aliased h then some (.alias_ r h) else none
      | none => none
    else none

/-- The first check of Table HP-6 that a decoder commit fails, 0 where all pass. A decoder of size 0, which R39 does not name, fails check 2 (DESIGN CHOICE,
log 90). -/
def commitCheck (s : State) (a : Agent) (hpa dpa size ways : Nat) (bi : Bool) : Nat :=
  let n := a.port
  if s.phase ≠ .running ∨ ¬ linkMem s n then 1
  else if hpa % 2^28 ≠ 0 ∨ size % 2^28 ≠ 0 ∨ size = 0 ∨ ways ≠ 1 then 2
  else
    -- check 3 is skipped in a loopback at depth 4 (18 Table TS-1); an address that no range holds then has no access or mode to check
    let place := placeDecoder s n a.src dpa size
    if place.isNone ∧ ¬ reflecting s n then 3
    else
      let access := match place with
        | some (.region r) | some (.alias_ r _) => bitOf (s.obj U.ports (Obj.REGION_PORTS + r)) (n - 1)
        | some .window | none => true
        | some .berth => s.hc.ranges.any fun q => q.2.mode != 0 && bitOf q.2.ports (n - 1)
      let db := match place with
        | some (.region r) => (getRegion s r).mode == 2
        | _ => false
      if !access then 4
      else if a.decoders.any (fun d => decide (hpa < d.2.hpa + d.2.size ∧ d.2.hpa < hpa + size)) then 5
      else if bi ≠ db then 6
      else if db ∧ (preg s n Obj.FLIT_NOW = 1 ∨ ¬ a.biEnabled ∨ domainIsDown s) then 7
      else if db ∧ (slotOf s n a.src).isNone ∧ 32 ≤ slotsUsed s then 8
      else 0

/-- The lowest number from 0 below a bound that has no entry. -/
def lowestFree {α : Type} (m : AMap α) (lo n : Nat) : Option Nat := ((List.range n).map (· + lo)).find? fun i => !AMap.has m i

/-- Enroll an agent in a free slot (02 R41): the lowest one (DESIGN CHOICE, log 11). -/
def enroll (s : State) (a : Agent) : State :=
  if (slotOf s a.port a.src).isSome then s
  else match lowestFree s.hp.slots 0 32 with
    | some k => { s with hp := { s.hp with slots := AMap.set s.hp.slots k { state := 1, port := a.port, src := a.src, biId := a.biId, enrolledAt := s.hm.opsec } } }
    | none => s

/-- Bind a free window to an agent (03 R67): the lowest-numbered one (DESIGN CHOICE, log 11). Operations of an earlier binding of that number run on beside it. -/
def bindWindow (s : State) (a : Agent) : State :=
  if (windowOf s a.port a.src).isSome then s
  else match lowestFree s.mc.windows 1 32 with
    | some w => { s with mc := { s.mc with windows := AMap.set s.mc.windows w { port := a.port, src := a.src } } }
    | none => s

/-- A host sets Commit (02 R40): the checks of Table HP-6 in order, of which a failed one sets Commit Error, or the decoder commits. -/
def commitDecoder (s : State) (a : Agent) (num hpa dpa size ways : Nat) (bi : Bool) : State :=
  let n := a.port
  let c := commitCheck s a hpa dpa size ways bi
  if c ≠ 0 then
    let s := updAgent s n a.src fun a => { a with commitErr := num :: a.commitErr.filter (· != num) }
    let s := s.bump (U.port n) Obj.COMMIT_FAIL
    let s := record s Ev.COMMIT_FAILED (U.port n) (0x100 + n) [n, a.src, num, c]
    if c = 8 then record (s.bump U.ports Obj.ENROLL_REFUSED) Ev.ENROLL_REFUSED (U.port n) (0x100 + n) [n, a.src, 2, slotsUsed s] else s
  else match placeDecoder s n a.src dpa size with
    | none => updAgent s n a.src fun a => { a with decoders := AMap.set a.decoders num { hpa := hpa, dpa := dpa, size := size, bi := bi }, commitErr := a.commitErr.filter (· != num) }
    | some p =>
      let d : Decoder := match p with
        | .region r => { hpa := hpa, dpa := dpa, size := size, bi := bi, region := r }
        | .alias_ r h => { hpa := hpa, dpa := dpa, size := size, bi := bi, region := r, hint := h }
        | .window => { hpa := hpa, dpa := dpa, size := size, bi := bi, binds := (windowOf s n a.src).isNone }
        | .berth => { hpa := hpa, dpa := dpa, size := size, bi := bi }
      let s := updAgent s n a.src fun a => { a with decoders := AMap.set a.decoders num d, commitErr := a.commitErr.filter (· != num) }
      match p with
      | .region _ => if bi then enroll s a else s
      | .window => bindWindow s a
      | _ => s

/-- Meaning of HDM_DECODER_COMMIT (02 R40). The commit of a decoder that is committed changes nothing. -/
def execHdmDecoderCommit (port : Fin 16) (src : BitVec 12) (decoder : Fin 16) (hpa : BitVec 64) (dpa : BitVec 64) (size : BitVec 64) (ways : Nat) (bi : Bool) (s : State) : Host.Outcome State Fault Refusal :=
  let n := port.val + 1
  .next (if !ioAnswers s n then s
    else
      let p := configAccess s n (srcOf s n src.toNat) 0
      match findAgent p.1 n (srcOf s n src.toNat) with
      | some a => if AMap.has a.decoders decoder.val then p.1 else commitDecoder p.1 a decoder.val hpa.toNat dpa.toNat size.toNat ways bi
      | none => p.1)

/-- A host clears Commit (02 R42, 03 R69). An HDM-DB decoder leaves the committed state once its lines are recalled. -/
def uncommitDecoder (s : State) (a : Agent) (num : Nat) (d : Decoder) : State :=
  if d.bi then
    let s := updAgent s a.port a.src fun a => { a with decoders := AMap.set a.decoders num { d with withdrawing := true } }
    match slotOf s a.port a.src with
    | some k =>
      let last := match findAgent s a.port a.src with
        | some a => a.decoders.all fun d => !d.2.bi || d.2.withdrawing
        | none => true
      let s := if last then { s with hp := { s.hp with slots := AMap.upd s.hp.slots k { state := 2, port := a.port, src := a.src, biId := a.biId, enrolledAt := 0 } fun x => { x with state := 2, recalled := 0 } } } else s
      settle (recallAgent s k d.covers)
    | none => updAgent s a.port a.src fun a => { a with decoders := AMap.del a.decoders num }
  else
    let s := updAgent s a.port a.src fun a => { a with decoders := AMap.del a.decoders num }
    if d.binds then unbindAgent s a.port a.src true else s

/-- Meaning of HDM_DECODER_UNCOMMIT (02 R42). -/
def execHdmDecoderUncommit (port : Fin 16) (src : BitVec 12) (decoder : Fin 16) (s : State) : Host.Outcome State Fault Refusal :=
  let n := port.val + 1
  if !ioAnswers s n then .next s
  else match findAgent s n (srcOf s n src.toNat) with
    | some a => match AMap.get? a.decoders decoder.val with
      | some d => .next (if d.withdrawing then s else uncommitDecoder s a decoder.val d)
      | none => .next s
    | none => .next s

/-! ## CXL.io services -/

/-- Meaning of GPF_PHASE1 (02 R34): it completes at once. -/
def execGpfPhase1 (port : Fin 16) (s : State) : Host.Outcome State Fault Refusal :=
  .next (if ioAnswers s (port.val + 1) then s.emit (.gpf (port.val + 1) 1 true) else s)

/-- Meaning of GPF_PHASE2 (02 R34). -/
def execGpfPhase2 (port : Fin 16) (s : State) : Host.Outcome State Fault Refusal :=
  .next (if ioAnswers s (port.val + 1) then s.emit (.gpf (port.val + 1) 2 true) else s)

/-- A mailbox answer (02 R33, R35): return code 0 Success, 3 Unsupported (PRESUMED from CXL 3.1, log 24). -/
def mailAnswer (port : Fin 16) (code : Nat) (payload : List Nat) (s : State) : State :=
  if ioAnswers s (port.val + 1) then s.emit (.mailbox (port.val + 1) code payload) else s

/-- Bytes of host capacity (00 Table SC-1). -/
def capacityBytes (s : State) : Nat := capacityPages s * 4096

/-- Meaning of IDENTIFY_MEMORY_DEVICE (02 R35): total, persistent and volatile capacity, and label storage, in bytes. -/
def execIdentifyMemoryDevice (port : Fin 16) (s : State) : Host.Outcome State Fault Refusal :=
  .next (mailAnswer port 0 [capacityBytes s, capacityBytes s, 0, 0] s)

/-- Get Health Info (02 R35): health status, media status, life used, temperature, dirty shutdowns, and the low 32 bits of the corrected
errors of /1 and /4. -/
def healthInfo (s : State) : List Nat :=
  let st := moduleState s
  let degraded := b2n (st == 5 || st == 9)
  let life := s.robj Obj.MODULE_LIFE_USED
  [degraded + 2 * b2n (decide (9000 ≤ life)), mediaStatus s, life / 100, tempObj (tempMax s U.root), s.obj U.power Obj.DIRTY_SHUTDOWNS, sumUnder s U.ctl Obj.ERR_CORRECTED % 2^32, sumUnder s U.media Obj.ERR_CORRECTED % 2^32]

/-- Meaning of GET_HEALTH_INFO (02 R35). -/
def execGetHealthInfo (port : Fin 16) (s : State) : Host.Outcome State Fault Refusal := .next (mailAnswer port 0 (healthInfo s) s)

/-- Meaning of GET_SUPPORTED_LOGS (02 Table HP-3): the command effects log only, listed as log 1. -/
def execGetSupportedLogs (port : Fin 16) (s : State) : Host.Outcome State Fault Refusal := .next (mailAnswer port 0 [1] s)

/-- The mailbox opcodes supported (02 Table HP-3), with the codes of CXL 3.1 (PRESUMED, log 24): Get FW Info, Get Timestamp, Get Supported
Logs, Get Log, Identify Memory Device, Get Health Info. -/
def mailOpcodes : List Nat := [0x0200, 0x0300, 0x0400, 0x0401, 0x4000, 0x4200]

/-- Meaning of GET_LOG (02 Table HP-3). -/
def execGetLog (port : Fin 16) (log : MailLog) (s : State) : Host.Outcome State Fault Refusal :=
  .next (match log with
    | .effects => mailAnswer port 0 mailOpcodes s
    | .other => mailAnswer port 3 [] s)

/-- Meaning of GET_FW_INFO (02 Table HP-3): the image in use and the versions of both slots (18 Table TS-6). -/
def execGetFwInfo (port : Fin 16) (s : State) : Host.Outcome State Fault Refusal :=
  .next (mailAnswer port 0 [s.ts.image + 1, s.ts.slotA.version, s.ts.slotB.version] s)

/-- Meaning of GET_TIMESTAMP (02 Table HP-3). The spec gives the timestamp no source: its value is free (log 24). -/
def execGetTimestamp (port : Fin 16) (s : State) : Host.Outcome State Fault Refusal :=
  let (t, s) := s.draw (2^64)
  .next (mailAnswer port 0 [t] s)

/-- Meaning of MAILBOX_UNSUPPORTED (02 R33). -/
def execMailboxUnsupported (port : Fin 16) (opcode : BitVec 16) (s : State) : Host.Outcome State Fault Refusal :=
  .next (if mailOpcodes.contains opcode.toNat then s else mailAnswer port 3 [] s)

/-- Meaning of UNSUPPORTED_REQUEST (02 R33). -/
def execUnsupportedRequest (port : Fin 16) (tag : BitVec 14) (s : State) : Host.Outcome State Fault Refusal :=
  let n := port.val + 1
  .next (if ioAnswers s n then (aerRecord s n 20).emit (.ioCompletion n tag.toNat true 0) else s)

/-- Meaning of CDAT_READ (02 Table HP-4): DSMAS number, read and write latency in ns, read and write bandwidth in MB/s. The payload rate is
110 GB/s at x16 and 64 GT/s (R32), in proportion to the trained rate and width (DEDUCED, log 24). -/
def execCdatRead (port : Fin 16) (s : State) : Host.Outcome State Fault Refusal :=
  let n := port.val + 1
  let bw := 110000 * preg s n Obj.RATE_NOW * preg s n Obj.WIDTH_NOW / (64 * 16)
  .next (if ioAnswers s n then s.emit (.cdat n [[0, 1600, 150, bw, bw], [1, 160, 150, bw, bw]]) else s)

/-! ## IDE and viral -/

/-- Meaning of IDE_KEY_PROGRAMMING (02 R48): skid mode is refused unless it is permitted. -/
def execIdeKeyProgramming (port : Fin 16) (mem : Bool) (skid : Bool) (refresh : Bool) (s : State) : Host.Outcome State Fault Refusal :=
  let n := port.val + 1
  let mode := if skid then 2 else 1
  if !ioAnswers s n ∨ (mem ∧ skid ∧ preg s n Obj.IDE_SKID_PERMIT = 0) then .next s
  else
    let p := getPort s n
    if mem then
      if preg s n Obj.IDE_NOW = 0 then .next (if refresh then s else s.setObj (U.port n) Obj.IDE_NOW mode)
      else .next (putPort s n { p with memRefresh := true, memNext := mode })
    else if p.ioIde then .next (putPort s n { p with ioRefresh := true })
    else .next (if refresh then s else putPort s n { p with ioIde := true })

/-- Meaning of IDE_KEY_SWITCH (02 R48). -/
def execIdeKeySwitch (port : Fin 16) (mem : Bool) (s : State) : Host.Outcome State Fault Refusal :=
  let n := port.val + 1
  let p := getPort s n
  if mem then .next (if p.memRefresh then putPort (s.setObj (U.port n) Obj.IDE_NOW p.memNext) n { p with memRefresh := false } else s)
  else .next (if p.ioRefresh then putPort s n { p with ioRefresh := false } else s)

/-- Count and log an IDE failure (02 R56); the port records it in AER. -/
def ideFailed (s : State) (n stream mode kind : Nat) : State :=
  let s := aerRecord s n 28
  record (s.bump (U.port n) Obj.IDE_FAIL) Ev.IDE_FAILED (U.port n) (0x100 + n) [n, stream, mode, kind]

/-- Meaning of IDE_MAC_FAIL_CONTAIN (02 R48, Table HP-8): viral, the fence, and the recalls of R43. -/
def execIdeMacFailContain (port : Fin 16) (mem : Bool) (sequence : Bool) (s : State) : Host.Outcome State Fault Refusal :=
  let n := port.val + 1
  let on := if mem then preg s n Obj.IDE_NOW == 1 else (getPort s n).ioIde
  if on ∧ 2 ≤ preg s n Obj.LINK_STATE then
    let s0 := s
    let s := ideFailed s n (if mem then 2 else 1) 1 (if sequence then 2 else 1)
    let s := fencePort (raiseViral s n) n 4
    .next (track (portUnits n) s0 (settle (recallPort (silencePort s n) n)))
  else .next s

/-- Meaning of IDE_MAC_FAIL_SKID (02 R48, 10 R243): the module halts with cause IDE_SKID. -/
def execIdeMacFailSkid (port : Fin 16) (sequence : Bool) (s : State) : Host.Outcome State Fault Refusal :=
  let n := port.val + 1
  if preg s n Obj.IDE_NOW = 2 ∧ 2 ≤ preg s n Obj.LINK_STATE then
    .next (haltIntegrity (ideFailed s n 2 2 (if sequence then 2 else 1)) { cause := 6, port := n, delivered := true })
  else .next s

/-- Meaning of IDE_KEY_SETUP_FAIL (02 Table HP-8): the stream stays off. Which mode the event names the spec does not state (log 67). -/
def execIdeKeySetupFail (port : Fin 16) (mem : Bool) (s : State) : Host.Outcome State Fault Refusal :=
  let n := port.val + 1
  .next (if ioAnswers s n then ideFailed s n (if mem then 2 else 1) (Config.unstated 17 [n]) 3 else s)

/-- Meaning of VIRAL_RX (02 R51, Table HP-9a): the port is fenced, viral is sent on it, and R43 governs its agents' lines. -/
def execViralRx (port : Fin 16) (s : State) : Host.Outcome State Fault Refusal :=
  let n := port.val + 1
  if 2 ≤ preg s n Obj.LINK_STATE then
    let s0 := s
    let s := fencePort (raiseViral (s.bump (U.port n) Obj.VIRAL_RX) n) n 5
    .next (track (portUnits n) s0 (settle (recallPort (silencePort s n) n)))
  else .next s

/-! ## Port objects -/

/-- PORT_ENABLE's own rule (02 R53, 12 R298). -/
def portEnableRule : KEffect := fun c v s =>
  let n := c.unit / 2^20 % 64
  let value := match v with
    | .num x => x
    | .bytes _ => 0
  let st := preg s n Obj.PORT_ENABLE_STATE
  let s0 := s
  let s := s.setObj c.unit Obj.PORT_ENABLE value
  let s := if value = 0 then (if st = 1 then s.setObj c.unit Obj.PORT_ENABLE_STATE 2
      else if st = 3 then s.setObj c.unit Obj.PORT_ENABLE_STATE (if (getPort s n).offDone then 2 else 0) else s)
    else if st = 0 then
      if (getPort s n).offDone then startTraining (s.setObj c.unit Obj.PORT_ENABLE_STATE 1) n else s.setObj c.unit Obj.PORT_ENABLE_STATE 3
    else if st = 2 then s.setObj c.unit Obj.PORT_ENABLE_STATE 3 else s
  (track (portUnits n) s0 s, .ok)

/-- Meaning of PORT_ENABLE (02 R53). -/
def execPortEnable (req : KReq) (value : BitVec 8) (s : State) : Host.Outcome State Fault Refusal :=
  .next (kdpObject req (.portEnable req value) 0x1000 (.write (.num value.toNat)) portEnableRule s)

/-- PORT_BIFURCATE's own rule (02 R28). -/
def bifurcateRule : KEffect := fun c v s =>
  let n := c.unit / 2^20 % 64
  let value := match v with
    | .num x => x
    | .bytes _ => 0
  if value ≠ preg s n Obj.PORT_BIFURCATE ∧ (portHasDecoder s n ∨ portHasDecoder s (n + 1)) then (s, .state)
  else (s.setObj c.unit Obj.PORT_BIFURCATE value, .ok)

/-- Meaning of PORT_BIFURCATE (02 R28). -/
def execPortBifurcate (req : KReq) (value : BitVec 8) (s : State) : Host.Outcome State Fault Refusal :=
  .next (kdpObject req (.portBifurcate req value) 0x1001 (.write (.num value.toNat)) bifurcateRule s)

/-- Meaning of PORT_SHUTDOWN_DONE (02 R53): the link reaches Disabled and is lost as by a link disable (R43); the minimum off time of 10 ms
begins. -/
def execPortShutdownDone (port : Fin 16) (s : State) : Host.Outcome State Fault Refusal :=
  let n := port.val + 1
  let u := U.port n
  let st := preg s n Obj.PORT_ENABLE_STATE
  if (st = 2 ∨ st = 3) ∧ (getPort s n).offDone then
    let s0 := s
    let s := resetPort s n .disable
    let s := putPort s n { getPort s n with hostDisabled := false, offDone := false }
    let s := if st = 2 then s.setObj u Obj.PORT_ENABLE_STATE 0 else s
    .next (track (portUnits n) s0 s)
  else .next s

/-- The minimum off time of a port has passed (02 R53, 12 R298): a queued enable is carried out. -/
def portOffDone (s : State) (n : Nat) : State :=
  if (getPort s n).offDone then s
  else
    let s0 := s
    let s := putPort s n { getPort s n with offDone := true }
    let s := if preg s n Obj.PORT_ENABLE_STATE = 3 then startTraining (s.setObj (U.port n) Obj.PORT_ENABLE_STATE 1) n else s
    track (portUnits n) s0 s

/-- Meaning of RWD_CREDIT_PACE (02 R46): a new 1 µs interval of the pace. -/
def execRwdCreditPace (port : Fin 16) (s : State) : Host.Outcome State Fault Refusal :=
  let n := port.val + 1
  .next (if linkMem s n then grantCredits (putPort s n { getPort s n with pace := paceAllowance s n }) n else s)

end Sys2Proof.Machine
end

