-- ==== Sys2Proof/Machine/ContractCmd.lean ====
section
/-! DEFINITION. The meanings of the memory contract's commands (chapter 03): regions, the control window's registers, barriers, reservations
and discards; and the drawing of domain keys (10 R238). -/
namespace Sys2Proof.Machine
open Sys2Proof

/-! ## Domain keys -/

/-- Draw a key from the TRNG (10 R238): its value is free. The key's number is the model's own. -/
def drawKey (s : State) : Nat × State :=
  let (k, s) := s.draw (2^256)
  let n := s.dp.nextKey
  (n, { s with dp := { s.dp with nextKey := n + 1, keys := AMap.set s.dp.keys n (BitVec.ofNat 256 k) } })

/-- Destroy a key (10 R238, R239). -/
def destroyKey (s : State) (k : Option Nat) : State :=
  match k with
  | some n => { s with dp := { s.dp with keys := AMap.del s.dp.keys n } }
  | none => s

/-- A domain's key registers. -/
def putDom (s : State) (r : Nat) (d : KeyDom) : State := { s with dp := { s.dp with doms := AMap.set s.dp.doms r d } }

/-- Create a domain's key (10 R238): it becomes ACTIVE, and KEY_START_SEQ takes the value of WSEQ. -/
def createDomain (s : State) (r : Nat) : State :=
  let (n, s) := drawKey s
  let s := (putDom s r { cur := some n }).setR (Obj.KEY_STATE + r) 1
  syncRecs (s.setR (Obj.KEY_START_SEQ + r) s.dp.wseq) [11, 12]

/-! ## Regions -/

/-- The definition staged for a region (03 R58). -/
def stagedRegion (s : State) (r : Nat) : Region :=
  { base := s.robj (Obj.REGION_BASE + r), size := s.robj (Obj.REGION_SIZE + r), mode := s.robj (Obj.REGION_MODE + r), policy := s.robj (Obj.REGION_POLICY + r), aliased := s.robj (Obj.REGION_ALIAS + r), staleRead := s.robj (Obj.REGION_STALE_READ + r) }

/-- Bits set in a number below 2^n. -/
def popCount (n v : Nat) : Nat := ((List.range n).filter (bitOf v)).length

/-- Whether two definitions differ in base, size or mode. -/
def regionMoves (a b : Region) : Bool := a.base != b.base || a.size != b.size || a.mode != b.mode

/-- Pages of a region with a staged line, a stale marker or a combining-buffer entry. -/
def regionPages (s : State) (r : Nat) : List PageNo :=
  (s.wharf.entries.map (fun p => pageOfLine p.1) ++ s.wharf.markers.map (fun p => pageOfSector p.1) ++ s.mc.cb.map (fun p => pageOfLine p.1)).filter
    fun pn => regionOfPage s pn == r

/-- The first condition by which an apply is refused, in the order of R58, and its status; 0 where none holds. Definitions whose drain
runs count as in use. -/
def applyCheck (s : State) (r : Nat) (d : Region) : Nat × Status :=
  let cur := getRegion s r
  let used := (s.mc.regions.filter fun p => p.1 != r && p.2.mode != 0).map (·.2) ++ (s.mc.applying.filter fun p => p.region != r).map (·.def_)
  let hints := [1, 2, 3].filter fun h => bitOf cur.aliased h && !bitOf d.aliased h
  if d.mode ≠ 0 ∧ (d.base % 2^28 ≠ 0 ∨ d.size % 2^28 ≠ 0) then (1, .range)
  else if d.mode ≠ 0 ∧ capacityBytes s < d.base + d.size then (2, .range)
  else if d.mode ≠ 0 ∧ used.any (fun g => g.mode != 0 && decide (d.base < g.base + g.size ∧ g.base < d.base + d.size)) then (3, .range)
  else if d.mode = 1 ∧ 1 < popCount 16 (s.obj U.ports (Obj.REGION_PORTS + r)) then (4, .range)
  else if regionMoves cur d ∧ regionDecoders s r ≠ 0 then (5, .state)
  else if hints.any (fun h => s.hp.agents.any fun a => a.decoders.any fun x => x.2.region == r && x.2.hint == h) then (6, .state)
  else if regionMoves cur d ∧ (regionPages s r).any (fun pn => s.wharf.pinned.contains pn) then (7, .state)
  else (0, .ok)

/-- A definition takes effect (03 R58): its domain gets a key where it has none (10 R238), and a move invalidates the home cache's copies of
the old and new ranges (05 R114); with the cache off any apply sets HC_STALE_RISK (05 R119). -/
def putRegion (s : State) (r : Nat) (d : Region) : State :=
  let old := getRegion s r
  let s := { s with mc := { s.mc with regions := if d.mode = 0 then AMap.del s.mc.regions r else AMap.set s.mc.regions r d } }
  let s := if d.mode ≠ 0 ∧ s.robj (Obj.KEY_STATE + r) = 0 then createDomain s r else s
  let inside (g : Region) (x : SectorNo) : Bool := decide (g.base ≤ x * 512 ∧ x * 512 < g.base + g.size)
  let s := if regionMoves old d then hcDrop s (fun x => inside old x || inside d x) else staleRisk s
  record (configChanged s) Ev.REGION_APPLIED U.root 0xFFFF [r, d.base, d.size, d.mode]

/-- A refused apply (03 R85). -/
def refuseRegion (s : State) (r cond : Nat) (st : Status) : State := record s Ev.REGION_REFUSED U.root 0xFFFF [r, st.code, cond]

/-- REGION_APPLY's own rule (03 R58, 10 R240). -/
def regionApply (c : KCtx) (_ : Nat) (s : State) : State × Status :=
  let r := c.sub
  let d := stagedRegion s r
  let (k, st) := applyCheck s r d
  if k ≠ 0 then (refuseRegion s r k st, st)
  else if regionMoves (getRegion s r) d ∧ ¬ (regionPages s r).isEmpty then
    ({ s with mc := { s.mc with applying := s.mc.applying ++ [⟨r, d⟩] } }, .pending)
  else (putRegion s r d, .ok)

/-- What REGION_APPLY does as a run (03 R58). -/
def regionApplyEffect : KEffect := runCommand false (fun _ => false) regionApply

/-- Meaning of REGION_APPLY (03 R58). -/
def execRegionApply (req : KReq) (arg : BitVec 32) (s : State) : Host.Outcome State Fault Refusal :=
  .next (kdpObject req (.regionApply req arg) 0x1106 (.exec arg.toNat) regionApplyEffect s)

/-- Meaning of REGION_APPLY_DRAIN_DONE (10 R240): the definition takes effect once nothing of the region is staged, or the apply is abandoned
because a page of it is pinned. -/
def execRegionApplyDrainDone (region : Fin 64) (s : State) : Host.Outcome State Fault Refusal :=
  let r := region.val + 1
  .next (match s.mc.applying.find? (fun p => p.region == r) with
    | some p =>
      let pages := regionPages s r
      let stop (s : State) : State := { s with mc := { s.mc with applying := s.mc.applying.filter fun p => p.region != r } }
      if pages.any (fun pn => s.wharf.pinned.contains pn) then endRun U.root (Obj.REGION_APPLY + r) .state (refuseRegion (stop s) r 7 .state)
      else if pages.isEmpty then endRun U.root (Obj.REGION_APPLY + r) .ok (putRegion (stop s) r p.def_)
      else s
    | none => s)

/-! ## The control window -/

/-- A write to a register by its offset: the register's 8 bytes as one value. -/
def cwValueWrite (port : Fin 16) (src : BitVec 12) (tag : BitVec 14) (off : Nat) (value : BitVec 64) (mask : ByteMask) (errs : List ArrayErr) (s : State) : State :=
  cwArrive .writePtl (port.val + 1) src.toNat tag.toNat off (value.setWidth 512) mask errs s

/-- Meaning of DRAIN_BARRIER (03 R72). -/
def execDrainBarrier (port : Fin 16) (src : BitVec 12) (tag : BitVec 14) (value : BitVec 64) (mask : ByteMask) (s : State) : Host.Outcome State Fault Refusal :=
  .next (cwValueWrite port src tag 0x0000 value mask [] s)

/-- Meaning of MIRROR_BARRIER (03 R73). -/
def execMirrorBarrier (port : Fin 16) (src : BitVec 12) (tag : BitVec 14) (value : BitVec 64) (mask : ByteMask) (s : State) : Host.Outcome State Fault Refusal :=
  .next (cwValueWrite port src tag 0x0040 value mask [] s)

/-- Meaning of RESV_ADDR (03 R76). -/
def execResvAddr (port : Fin 16) (src : BitVec 12) (tag : BitVec 14) (value : BitVec 64) (mask : ByteMask) (s : State) : Host.Outcome State Fault Refusal :=
  .next (cwValueWrite port src tag 0x1000 value mask [] s)

/-- Meaning of RESV_LOAD (03 R76, R78). -/
def execResvLoad (port : Fin 16) (src : BitVec 12) (tag : BitVec 14) (errs : List ArrayErr) (s : State) : Host.Outcome State Fault Refusal :=
  .next (cwArrive .read (port.val + 1) src.toNat tag.toNat 0x1040 0 0 errs s)

/-- Meaning of RESV_STORE (03 R76). -/
def execResvStore (port : Fin 16) (src : BitVec 12) (tag : BitVec 14) (value : BitVec 64) (mask : ByteMask) (errs : List ArrayErr) (s : State) : Host.Outcome State Fault Refusal :=
  .next (cwValueWrite port src tag 0x1080 value mask errs s)

/-- Meaning of DISCARD_GO (03 R80). -/
def execDiscardGo (port : Fin 16) (src : BitVec 12) (tag : BitVec 14) (value : BitVec 64) (mask : ByteMask) (s : State) : Host.Outcome State Fault Refusal :=
  .next (cwValueWrite port src tag 0x2080 value mask [] s)

/-- Meaning of CW_WRITE (03 R68): a write of any bytes at any offset of the control window range. -/
def execCwWrite (port : Fin 16) (src : BitVec 12) (tag : BitVec 14) (offset : BitVec 28) (data : LineData) (mask : ByteMask) (s : State) : Host.Outcome State Fault Refusal :=
  .next (cwArrive .writePtl (port.val + 1) src.toNat tag.toNat offset.toNat data mask [] s)

/-- Meaning of BARRIER_HOLD_TIMEOUT (03 R69): the completion is sent, and the state keeps reading PENDING. `region`: 0 drain barrier, 1 mirror
barrier, 2 reservation, 3 discard. -/
def execBarrierHoldTimeout (window : Fin 32) (region : Fin 4) (tag : BitVec 14) (s : State) : Host.Outcome State Fault Refusal :=
  let w := window.val + 1
  let x := getWin s w
  let h := (region.val + 1, tag.toNat)
  if x.heldCmp.contains h then
    let s := updWin s w fun x => { x with heldCmp := x.heldCmp.erase h, heldLow := x.heldLow.filter fun q => !(q.1 == h.1 && q.2.1 == h.2) }
    .next (countPath (respondNdr s x.port tag.toNat 0) 4 (cwAcc x s (heldCause x h.1 h.2) h.2))
  else .next s

/-- Meaning of RESERVATION_EXPIRY (03 R79, cause 9). -/
def execReservationExpiry (window : Fin 32) (s : State) : Host.Outcome State Fault Refusal := .next (loseResv s (window.val + 1) 9)

/-- Cancel a page's host descriptors whose plates have not been programmed (06 R157, Table WH-5): of a discard, and of a key
destruction. -/
def cancelDescs (s : State) (pn : PageNo) : State :=
  setLighters s (s.wharf.lighters.map fun l => { l with pages := l.pages.map fun d =>
    if d.pn = pn ∧ d.srcPpn.isNone ∧ ¬ d.committed ∧ ¬ (l.state = 2 ∧ bitOf l.programming (d.place / 4)) then { d with cancelled := true } else d })

/-- The discard engine takes up the next page of a window's first descriptor (03 R81): a discard of each of its lines enters the line's
conflict table, and the page is kept out of lighters. -/
def discardPage (s : State) (w : Nat) : State :=
  match (getWin s w).queue with
  | [] => s
  | d :: _ =>
    if d.active ∨ blockInReset s 3 ∨ s.phase ≠ .running then s
    else
      let pn := d.base + d.next
      let g := getRegion s (regionOfPage s pn)
      let staged := pageStaged s pn || s.mc.cb.any (fun p => pageOfLine p.1 == pn)
      let s := updDiscard s w fun d => { d with active := true, left := 64, staged := staged }
      let s := cancelDescs { s with mc := { s.mc with discarding := pn :: s.mc.discarding.filter (· != pn) } } pn
      settle ((List.range 64).foldl (fun s i =>
        let (s, a) := numberAcc s { id := 0, kind := .discard, line := pn * 64 + i, db := g.mode == 2, aliased := true, win := w }
        enterTable s a false) s)

/-- The entry of a window whose discards come next: the operations of an ended binding before those of the present one. -/
def discardEntry (s : State) (w : Nat) : Nat :=
  match s.mc.windows.find? fun p => cwNum p.1 == w && decide (32 < p.1) && !p.2.queue.isEmpty with
  | some p => p.1
  | none => w

/-- Meaning of DISCARD_PAGE (03 R81). -/
def execDiscardPage (window : Fin 32) (s : State) : Host.Outcome State Fault Refusal := .next (discardPage s (discardEntry s (window.val + 1)))

end Sys2Proof.Machine
end

