-- ==== Sys2Proof/Machine/HcCmd.lean ====
section
/-! DEFINITION. The meanings of the home-cache, berth and mirror commands (chapter 05). -/
namespace Sys2Proof.Machine
open Sys2Proof

/-- A configuration register written by its own rule: the register and the configuration record (16 Table HM-2). -/
def storeConfig (s : State) (u o v : Nat) : State := configChanged (s.setObj u o v)

/-! ## Home cache -/

/-- HC_ENABLE's own rule (05 R118, R120). -/
def hcEnableRule : KEffect := fun c v s =>
  if v.toNat = 1 ∧ s.robj Obj.HC_STALE_RISK = 1 then (s, .state) else (storeConfig s c.unit c.obj v.toNat, .ok)

/-- Meaning of HC_ENABLE (05 R118, R120). -/
def execHcEnable (req : KReq) (value : BitVec 8) (s : State) : Host.Outcome State Fault Refusal :=
  .next (kdpObject req (.hcEnable req value) 0x1300 (.write (.num value.toNat)) hcEnableRule s)

/-- What HC_INVALIDATE does as a run (05 R121). -/
def hcInvalidateEffect : KEffect := runCommand false (fun _ => false) fun _ _ s => ({ s with hc := { s.hc with invalidating := true } }, .pending)

/-- Meaning of HC_INVALIDATE (05 R121): KDP returns PENDING until the valid bits are clear. -/
def execHcInvalidate (req : KReq) (arg : BitVec 32) (s : State) : Host.Outcome State Fault Refusal :=
  .next (kdpObject req (.hcInvalidate req arg) 0x1301 (.exec arg.toNat)
    hcInvalidateEffect s)

/-- Meaning of HC_INVALIDATE_DONE (05 R119, R121): the side buffer's copies go with the cache's (R117). -/
def execHcInvalidateDone (s : State) : Host.Outcome State Fault Refusal :=
  .next (if s.hc.invalidating then
      endRun U.root Obj.HC_INVALIDATE .ok ({ s with hc := { s.hc with invalidating := false, sectors := [], pbuf := [] } }.setR Obj.HC_STALE_RISK 0)
    else s)

/-- What HC_ENABLE_FORCE does as a run (05 R122). -/
def hcEnableForceEffect : KEffect := runCommand false (fun _ => false) fun c _ s =>
  (record (storeConfig s U.root Obj.HC_ENABLE 1) Ev.HC_FORCED_STALE U.root 0xFFFF [s.robj Obj.HC_STALE_RISK, sessionSource s c.sid], .ok)

/-- Meaning of HC_ENABLE_FORCE (05 R122). -/
def execHcEnableForce (req : KReq) (arg : BitVec 32) (s : State) : Host.Outcome State Fault Refusal :=
  .next (kdpObject req (.hcEnableForce req arg) 0x1302 (.exec arg.toNat) hcEnableForceEffect s)

/-- HC_WAY_REENABLE's own rule (05 R124). -/
def wayReenable (arg : Nat) (s : State) : State × Status :=
  let sl := arg / 16
  let w := arg % 16
  if wayDisabled s sl w ∧ s.hc.passed.contains arg then
    let s := s.setR (Obj.HC_WAY_DISABLED + sl + 1) (setBit (s.robj (Obj.HC_WAY_DISABLED + sl + 1)) w false)
    ({ s with hc := { s.hc with errs := AMap.del s.hc.errs arg, passed := s.hc.passed.filter (· != arg) } }, .ok)
  else (s, .state)

/-- What HC_WAY_REENABLE does as a run (05 R124). -/
def hcWayReenableEffect : KEffect := runCommand false (fun _ => false) fun _ a s => let (s', st) := wayReenable a s; (track [U.ctl, U.root] s s', st)

/-- Meaning of HC_WAY_REENABLE (05 R124). -/
def execHcWayReenable (req : KReq) (arg : BitVec 32) (s : State) : Host.Outcome State Fault Refusal :=
  .next (kdpObject req (.hcWayReenable req arg) 0x1305 (.exec arg.toNat)
    hcWayReenableEffect s)

/-- Meaning of BERTH_WAY_COPY_DONE (05 R132): the copy becomes the berth way, and the failing way is disabled. -/
def execBerthWayCopyDone (slice : Fin 16) (s : State) : Host.Outcome State Fault Refusal :=
  let sl := slice.val
  .next (match s.hc.copies.find? (fun c => c.1 == sl) with
    | some (_, w, v) =>
      let ways := (berthWaysOf s sl).map fun x => if x = w then v else x
      let s := { s with hc := { s.hc with copies := s.hc.copies.erase (sl, w, v), berthWays := AMap.set s.hc.berthWays sl ways } }
      disableWay s sl w
    | none => s)

/-- A prefetched sector goes into its slice's side buffer (05 R117), where the map still names the page read and no discard has reached it. -/
def prefetchIn (s : State) (r : MediaRead) : State :=
  match r.page with
  | some p =>
    if mapGet s r.pn ≠ some r.ppn ∨ s.mc.discarding.contains r.pn then s
    else pbufPut s (r.pn * 8 + r.sector) ((List.range 8).map fun i => storedLine s p (r.sector * 8 + i))
  | none => s

/-- Meaning of PREFETCH_FILL (05 R116, R117): a prefetch read returns, or is dropped because its die was busy. The sector waits for its tag check, apart from
an erased one (10 R238, R242). One that is poisoned for every read (08 R208) or marked by INTEGRITY_RECOVER (10 R244) is left to the demand read that
wants it. -/
def execPrefetchFill (read : Nat) (dieBusy : Bool) (s : State) : Host.Outcome State Fault Refusal :=
  .next (match s.ml.reads.find? (fun r => r.id == read && r.why == .prefetch && r.stage != 3) with
    | some r =>
      let k := r.ppn * 8 + r.sector
      let gone := { s with ml := { s.ml with reads := s.ml.reads.filter fun q => q.id != read } }
      match r.page with
      | some p =>
        if dieBusy ∨ s.dp.poisonAt.contains k then gone
        else if sectorErased s p then prefetchIn gone r
        else if s.dp.markedAt.contains k then gone
        else putRead s { r with stage := 3, members := [] }
      | none => gone
    | none => s)

/-! ## Berths -/

/-- The ways of a slice that a grow to `v` berth ways would take: its highest-numbered enabled non-berth ways (05 R125). -/
def growWays (s : State) (sl v : Nat) : List Nat := ((cachingWays s sl).reverse).take (v - (berthWaysOf s sl).length)

/-- Convert ways (05 R125): the chosen ways are invalidated and stop caching. -/
def startGrow (s : State) (v : Nat) : State :=
  let s := (List.range 16).foldl (fun s sl =>
    let ways := growWays s sl v
    let s := ways.foldl (fun s w => dropWay s sl w) s
    { s with hc := { s.hc with berthWays := AMap.set s.hc.berthWays sl (berthWaysOf s sl ++ ways) } }) s
  { s with hc := { s.hc with growing := some v } }

/-- Give up berth ways (05 R125): the freed ways return to caching, empty, and the berth's contents beyond the new size are gone. -/
def shrinkBerth (s : State) (v : Nat) : State :=
  let s := (List.range 16).foldl (fun s sl => { s with hc := { s.hc with berthWays := AMap.set s.hc.berthWays sl ((berthWaysOf s sl).take v) } }) s
  let size := berthWayBytes * v
  let s := { s with hc := { s.hc with berth := s.hc.berth.filter fun p => decide (berthOff p.1 < size) } }
  let s := updMirror s fun m => { m with bitmap := m.bitmap.filter fun p => decide (p * 4096 < size) }
  syncRec ((s.setR Obj.BERTH_WAYS_NOW v).setR Obj.BERTH_INTACT 0) 5

/-- BERTH_WAYS's own rule (05 R125). A write while a grow runs is refused with STATE (DESIGN CHOICE, log 26). -/
def berthWaysRule : KEffect := fun _ v s =>
  let n := v.toNat
  let now := s.robj Obj.BERTH_WAYS_NOW
  if s.hc.growing.isSome then (s, .state)
  else if now < n then
    if (List.range 16).any (fun sl => decide ((cachingWays s sl).length < n - now)) then (s, .state)
    else (syncRec (startGrow (s.setR Obj.BERTH_WAYS n) n) 5, .ok)
  else if n < now then
    if s.hc.ranges.any (fun p => p.2.mode != 0 && decide (berthWayBytes * n < p.2.base + p.2.size)) then (s, .state)
    else (shrinkBerth (s.setR Obj.BERTH_WAYS n) n, .ok)
  else (s.setR Obj.BERTH_WAYS n, .ok)

/-- Meaning of BERTH_WAYS (05 R125). -/
def execBerthWays (req : KReq) (value : BitVec 8) (s : State) : Host.Outcome State Fault Refusal :=
  .next (kdpObject req (.berthWays req value) 0x1310 (.write (.num value.toNat)) berthWaysRule s)

/-- Meaning of BERTH_GROW_DONE (05 R125). -/
def execBerthGrowDone (s : State) : Host.Outcome State Fault Refusal :=
  .next (match s.hc.growing with
    | some v =>
      let s := { s with hc := { s.hc with growing := none } }
      syncRec ((s.setR Obj.BERTH_WAYS_NOW v).setR Obj.BERTH_INTACT 0) 5
    | none => s)

/-- BERTH_RANGE_APPLY's own rule (05 R127). -/
def berthApply (c : KCtx) (_ : Nat) (s : State) : State × Status :=
  let i := c.sub
  let d : BerthRange := { base := s.robj (Obj.BERTH_RANGE_BASE + i), size := s.robj (Obj.BERTH_RANGE_SIZE + i), mode := s.robj (Obj.BERTH_RANGE_MODE + i), early := s.robj (Obj.BERTH_RANGE_EARLY_CMP + i), ports := s.robj (Obj.BERTH_RANGE_PORTS + i) }
  let cur := AMap.getD s.hc.ranges i {}
  let mirrored (m : Nat) : Bool := m == 2 || m == 3 || m == 4
  let clash := s.hc.ranges.any fun p => p.1 != i && p.2.mode != 0 && decide (d.base < p.2.base + p.2.size ∧ p.2.base < d.base + d.size)
  if d.base % 2^20 ≠ 0 ∨ d.size % 2^20 ≠ 0 ∨ berthSize s < d.base + d.size ∨ clash then (s, .range)
  else if s.robj Obj.MIRROR_ENABLE = 1 ∧ ((mirrored cur.mode ∧ cur ≠ d) ∨ (mirrored d.mode ∧ cur.mode ≠ d.mode)) then (s, .state)
  else
    let s := { s with hc := { s.hc with ranges := if d.mode = 0 then AMap.del s.hc.ranges i else AMap.set s.hc.ranges i d } }
    (syncRec (configChanged s) 5, .ok)

/-- What BERTH_RANGE_APPLY does as a run (05 R127). -/
def berthRangeApplyEffect : KEffect := runCommand false (fun _ => false) berthApply

/-- Meaning of BERTH_RANGE_APPLY (05 R127). -/
def execBerthRangeApply (req : KReq) (arg : BitVec 32) (s : State) : Host.Outcome State Fault Refusal :=
  .next (kdpObject req (.berthRangeApply req arg) 0x1317 (.exec arg.toNat) berthRangeApplyEffect s)

/-- Whether a berth range in use takes part in the mirror. -/
def mirrorHasRange (s : State) : Bool := s.hc.ranges.any fun p => p.2.mode == 2 || p.2.mode == 3 || p.2.mode == 4

/-- BERTH_PROMOTE's own rule (05 R140). With no mirrored range left the state is OFF (Table HC-3). -/
def berthPromote (s : State) : State × Status :=
  if mirState s = 0 ∨ mirState s = 4 then
    let f (p : Nat × BerthRange) : Nat × BerthRange := if p.2.mode = 4 then (p.1, { p.2 with mode := 1 }) else p
    let s := { s with hc := { s.hc with ranges := s.hc.ranges.map f } }
    let s := if mirrorHasRange s then s else setMirState s 0
    (syncRec (configChanged (s.bumpR Obj.PAIR_GENERATION)) 5, .ok)
  else (s, .state)

/-- What BERTH_PROMOTE does as a run (05 R140). -/
def berthPromoteEffect : KEffect := runCommand false (fun _ => false) fun _ _ s => berthPromote s

/-- Meaning of BERTH_PROMOTE (05 R140). -/
def execBerthPromote (req : KReq) (arg : BitVec 32) (s : State) : Host.Outcome State Fault Refusal :=
  .next (kdpObject req (.berthPromote req arg) 0x1318 (.exec arg.toNat) berthPromoteEffect s)

/-! ## The mirror -/

/-- The range table as the handshake carries it: base, size and mode (05 R133). -/
def mirrorTable (s : State) : List (Nat × Nat × Nat) := s.hc.ranges.map fun p => (p.2.base, p.2.size, p.2.mode)

/-- Open a mirror handshake (05 R133): a fresh nonce goes out with the generation, BERTH_INTACT and the range table; without a READY port MIRROR_FAULT
reads NO_PORT. This module takes the part of the side that opens (DESIGN CHOICE, log 102). -/
def openMirror (s : State) : State :=
  let p := mirrorPort s
  if p = 0 then s.setR Obj.MIRROR_FAULT 3
  else
    let (n, s) := s.draw (2^128)
    let s := updMirror s fun m => { m with nonce := BitVec.ofNat 128 n }
    s.emit (.mirrorOpen p (BitVec.ofNat 128 n) (s.robj Obj.PAIR_GENERATION) (s.robj Obj.BERTH_INTACT) (mirrorTable s))

/-- The mirror starts to connect (05 R133), or stays OFF without a mirrored range (Table HC-3). -/
def mirrorConnect (s : State) : State :=
  let s := updMirror s fun m => { m with everUp := false }
  if mirrorHasRange s then openMirror (setMirState s 1) else setMirState s 0

/-- MIRROR_ENABLE's own rule (05 R133, R141, 12 Table CS-5). -/
def mirrorEnableRule : KEffect := fun c v s =>
  let st := mirState s
  if v.toNat = 1 then
    if blockInReset s 5 then (s, .state)
    else
      let s := storeConfig s c.unit c.obj 1
      (if st = 0 then (if s.hc.mirror.offDone then mirrorConnect s else setMirState s 7) else if st = 6 then setMirState s 7 else s, .ok)
  else
    let s := storeConfig s c.unit c.obj 0
    (if st = 7 then setMirState s (if s.hc.mirror.offDone then 6 else 0)
      else if 1 ≤ st ∧ st ≤ 5 then settle (endMirrorSession s 6) else s, .ok)

/-- Meaning of MIRROR_ENABLE (05 R141). -/
def execMirrorEnable (req : KReq) (value : BitVec 8) (s : State) : Host.Outcome State Fault Refusal :=
  .next (kdpObject req (.mirrorEnable req value) 0x1320 (.write (.num value.toNat)) mirrorEnableRule s)

/-- Meaning of MIRROR_STOP_DONE (05 R141): the minimum off time of 10 ms begins. -/
def execMirrorStopDone (s : State) : Host.Outcome State Fault Refusal :=
  .next (if mirState s = 6 then setMirState (updMirror s fun m => { m with offDone := false }) 0
    else if mirState s = 7 then updMirror s fun m => { m with offDone := false } else s)

/-- The mirror's minimum off time has passed (05 R141, 12 R298). -/
def mirrorOffDone (s : State) : State :=
  if s.hc.mirror.offDone then s
  else
    let s := updMirror s fun m => { m with offDone := true }
    if mirState s = 7 then mirrorConnect s else s

/-- The pages of the primary ranges in use, ascending (05 R139). -/
def primaryPages (s : State) : List Nat :=
  let has (pg : Nat) : Bool := s.hc.ranges.any fun p => (p.2.mode == 2 || p.2.mode == 3) && decide (p.2.base ≤ pg * 4096 ∧ pg * 4096 < p.2.base + p.2.size)
  (List.range 18432).filter has

/-- RESYNC_DONE follows the last page (05 R139); with the peer's in, the mirror is IN_SYNC. -/
def resyncStep (s : State) : State :=
  let m := s.hc.mirror
  let s := if mirState s = 2 ∧ m.resyncing ∧ m.toSend.isEmpty ∧ m.inFlight.isEmpty then
      emitMirror (updMirror s fun m => { m with resyncing := false }) 5 false m.txSeq []
    else s
  settleSync s

/-- A session comes up (05 R133, R139) with the pages to send. -/
def sessionUp (s : State) (pages : List Nat) : State :=
  let replica := s.hc.ranges.any fun p => p.2.mode == 4
  let s := updMirror s fun m => { m with
    txSeq := 0, acked := 0, rxSeq := 0, ackOwed := false, unacked := [], waitSend := [], inFlight := [], toSend := pages, sentPages := 0, resyncing := true, rxDone := !replica, everUp := true }
  let s := (s.setR Obj.MIRROR_FAULT 0).setR Obj.MIRROR_PORT_NOW (mirrorPort s)
  resyncStep (setMirState s 2)

/-- Whether every primary range of one side matches a replica range of equal base and size on the other (05 R133). -/
def rangesMatch (mine peer : List (Nat × Nat × Nat)) : Bool :=
  let ok (a b : List (Nat × Nat × Nat)) : Bool := a.all fun x => !(x.2.2 == 2 || x.2.2 == 3) || b.any fun y => y.2.2 == 4 && y.1 == x.1 && y.2.1 == x.2.1
  ok mine peer && ok peer mine

/-- MIRROR_PAIR_KEY, none while none has been written: no handshake verifies then, as for a role without a key (DEDUCED, log 102). -/
def pairKey (s : State) : Option (BitVec 256) :=
  let bs := s.blob U.root Obj.MIRROR_PAIR_KEY
  if bs.isEmpty then none else some (BitVec.ofNat 256 (beNat bs))

/-- What the proofs of a mirror handshake are computed over (15 R351): this module's nonce, the peer's and its SESSION_ID; the role byte is 0, since the
pair key stands in place of a role's (DESIGN CHOICE, log 102). -/
def mirrorShake (s : State) (sid : Nat) (peerNonce : BitVec 128) : Handshake :=
  { id := sid, role := 0, nc := s.hc.mirror.nonce, nd := peerNonce, netPort := mirrorPort s, src := 0, srcPort := 0 }

/-- Whether the peer's proof verifies under the pair key (05 R133, 15 R351). -/
def peerProves (s : State) (sid : Nat) (peerNonce : BitVec 128) (proof : BitVec 256) : Bool :=
  match pairKey s with
  | some k => proof == proofD k (mirrorShake s sid peerNonce)
  | none => false

/-- The resynchronisation of a session of equal generations (05 R139, R140): the marked pages where the peer is intact and owes no full one, else
every page of every primary range. -/
def resyncPages (s : State) (intact : Bool) : List Nat :=
  let all := primaryPages s
  if intact && !s.hc.mirror.fullOwed then all.filter (fun p => s.hc.mirror.bitmap.contains p) else all

/-- The two range tables do not match: no session (05 R133). `gen`: the peer's generation. -/
def refusePair (s : State) (gen : Nat) : State := record (s.setR Obj.MIRROR_FAULT 1) Ev.MIRROR_PAIR_REFUSED U.root 0xFFFF [1, gen]

/-- A mirror handshake whose proofs verify ends (05 R133, R139, R140). The generations are compared before the ranges, since MIRROR_ACCEPT_PEER presupposes a
session of two primaries (DEDUCED, log 27). The side with the higher generation waits for the peer to accept, and then resynchronises it in full. -/
def sessionOpens (s : State) (gen : Nat) (intact : Bool) (ranges : List (Nat × Nat × Nat)) : State :=
  let mine := s.robj Obj.PAIR_GENERATION
  let s := updMirror s fun m => { m with peerGen := gen, peerRanges := ranges }
  if mine < gen then record (setMirState s 5) Ev.MIRROR_DIVERGED U.root 0xFFFF [mine, gen]
  else if gen < mine then updMirror s fun m => { m with fullOwed := true }
  else if !rangesMatch (mirrorTable s) ranges then
    refusePair s gen
  else sessionUp s (resyncPages s intact)

/-- A mirror handshake ends (05 R133): this module's proof goes out, and the peer's is checked. -/
def handshakeDone (s : State) (sid : Nat) (peerNonce : BitVec 128) (proof : BitVec 256) (gen : Nat) (intact : Bool) (ranges : List (Nat × Nat × Nat)) : State :=
  if mirState s ≠ 1 ∧ mirState s ≠ 4 then s
  else if mirrorPort s = 0 then s.setR Obj.MIRROR_FAULT 3
  else match pairKey s with
    | none => s.setR Obj.MIRROR_FAULT 2
    | some k =>
      let h := mirrorShake s sid peerNonce
      let ok := peerProves s sid peerNonce proof
      let s := s.emit (.mirrorProve (mirrorPort s) sid (proofC k h))
      if !ok then s.setR Obj.MIRROR_FAULT 2
      else sessionOpens (updMirror s fun m => { m with key := sessionKey k h }) gen intact ranges

/-- Meaning of MIRROR_HANDSHAKE (05 R133): the peer has answered with its SESSION_ID, nonce and proof, and the two sides have exchanged generations,
BERTH_INTACT flags and range tables. -/
def execMirrorHandshake (peer : PeerProof) (peerGeneration : BitVec 32) (peerIntact : Bool) (peerRanges : List (Nat × Nat × Nat)) (s : State) : Host.Outcome State Fault Refusal :=
  .next (handshakeDone s peer.sid.toNat peer.nonce peer.proof peerGeneration.toNat peerIntact peerRanges)

/-- MIRROR_ACCEPT_PEER's own rule (05 R140): primaries that match a peer primary become replicas, the peer's generation is adopted, and a
full resynchronisation begins, if the two range tables now match (R133). -/
def acceptPeer (s : State) : State × Status :=
  if mirState s ≠ 5 then (s, .state)
  else
    let peer := s.hc.mirror.peerRanges
    let f (p : Nat × BerthRange) : Nat × BerthRange :=
      if (p.2.mode = 2 ∨ p.2.mode = 3) ∧ peer.any (fun y => (y.2.2 == 2 || y.2.2 == 3) && y.1 == p.2.base && y.2.1 == p.2.size) then (p.1, { p.2 with mode := 4 }) else p
    let s := { s with hc := { s.hc with ranges := s.hc.ranges.map f } }
    let s := s.setR Obj.PAIR_GENERATION s.hc.mirror.peerGen
    let s := updMirror s fun m => { m with bitmap := m.bitmap.filter fun p => (primaryPages s).contains p }
    let s := if rangesMatch (mirrorTable s) peer then sessionUp s (primaryPages s) else refusePair (setMirState s 1) s.hc.mirror.peerGen
    (syncRec (configChanged s) 5, .ok)

/-- What MIRROR_ACCEPT_PEER does as a run (05 R140). -/
def mirrorAcceptPeerEffect : KEffect := runCommand false (fun _ => false) fun _ _ s => acceptPeer s

/-- Meaning of MIRROR_ACCEPT_PEER (05 R140). -/
def execMirrorAcceptPeer (req : KReq) (arg : BitVec 32) (s : State) : Host.Outcome State Fault Refusal :=
  .next (kdpObject req (.mirrorAcceptPeer req arg) 0x1328 (.exec arg.toNat) mirrorAcceptPeerEffect s)

/-- Meaning of MIRROR_CONNECT_RETRY (05 R133): the handshake is tried again; without a READY port MIRROR_FAULT reads NO_PORT. -/
def execMirrorConnectRetry (s : State) : Host.Outcome State Fault Refusal :=
  .next (if mirState s = 1 ∨ mirState s = 4 then openMirror s else s)

/-- Receive a frame of a type in a session (05 R134): a bad HMAC or another generation is discarded and counted; a valid frame's ACK_SEQ counts, and `f`
is what its type brings about. -/
def mirrorFrame (type : Nat) (fr : MirrorFrame) (f : State → State) (s : State) : State :=
  if !mirrorUp s then s
  else
    let s := s.frameIn (s.robj Obj.MIRROR_PORT_NOW)
    if !frameOk s type fr ∨ fr.generation.toNat ≠ s.robj Obj.PAIR_GENERATION then s.bumpR Obj.MIRROR_AUTH_FAIL
    else settle (resyncStep (f (ackAdvance s fr.ackSeq.toNat)))

/-- Send an ACK frame (05 R135). -/
def sendAck (s : State) : State :=
  emitMirror (updMirror s fun m => { m with ackOwed := false }) 2 false s.hc.mirror.txSeq []

/-- Apply a record into the replica range that holds it (05 R135); it is a write that loses reservations on the line (03 R79). -/
def applyMirRec (s : State) (r : MirRec) : State :=
  let line := berthBase / 64 + r.line
  match rangeOf s (berthOff line) with
  | some (_, g) =>
    if g.mode = 4 ∧ berthOff line < berthSize s then loseLineResv (putBerth s line ((berthLine s line).write r.data r.mask false)) line 0 0 1 else s
  | none => s

/-- A DATA or RESYNC_DATA frame is applied in SEQ order and acknowledged (05 R135). -/
def applyFrame (fr : MirrorFrame) (s : State) : State :=
  if fr.seq.toNat ≠ s.hc.mirror.rxSeq + 1 then s
  else
    let s := (frameRecs fr).foldl applyMirRec s
    let s := updMirror s fun m => { m with rxSeq := m.rxSeq + 1, ackOwed := true }
    if fr.sync then sendAck s else s

/-- Meaning of MIRROR_DATA (05 R135). -/
def execMirrorData (frame : MirrorFrame) (s : State) : Host.Outcome State Fault Refusal := .next (mirrorFrame 1 frame (applyFrame frame) s)
/-- Meaning of MIRROR_RESYNC_DATA (05 R139). -/
def execMirrorResyncData (frame : MirrorFrame) (s : State) : Host.Outcome State Fault Refusal := .next (mirrorFrame 4 frame (applyFrame frame) s)
/-- Meaning of MIRROR_ACK (05 R136). -/
def execMirrorAck (frame : MirrorFrame) (s : State) : Host.Outcome State Fault Refusal := .next (mirrorFrame 2 frame id s)
/-- Meaning of MIRROR_HEARTBEAT (05 R135). -/
def execMirrorHeartbeat (frame : MirrorFrame) (s : State) : Host.Outcome State Fault Refusal := .next (mirrorFrame 3 frame id s)
/-- Meaning of MIRROR_RESYNC_DONE (05 R139). -/
def execMirrorResyncDone (frame : MirrorFrame) (s : State) : Host.Outcome State Fault Refusal :=
  .next (mirrorFrame 5 frame (fun s => updMirror s fun m => { m with rxDone := true }) s)

/-- The record of a line of a page being resent, its poisoned bytes left out (10 Table DP-3). -/
def resyncRec (s : State) (line : LineNo) : MirRec :=
  { line := berthOff line / 64, mask := ~~~ (berthLine s line).poison, data := (berthLine s line).data }

/-- Whether a page of the berth lies in a range in use of a mode: 2 synchronous, 3 asynchronous (05 Table HC-2). -/
def pageMode (s : State) (page mode : Nat) : Bool :=
  match rangeOf s (page * 4096) with
  | some (_, g) => g.mode == mode
  | none => false

/-- Meaning of MIRROR_RESYNC_PAGE_SEND (05 R139): four frames of 16 lines, with SYNC where the range is synchronous (Table HC-4),
which count in MIRROR_LAG where it is asynchronous (R137). -/
def execMirrorResyncPageSend (s : State) : Host.Outcome State Fault Refusal :=
  .next (match mirState s, s.hc.mirror.toSend with
    | 2, p :: t =>
      let s := updMirror s fun m => { m with toSend := t, sentPages := m.sentPages + 1 }
      let s := (List.range 4).foldl (fun s k =>
        let recs := (List.range 16).map fun i => resyncRec s (berthBase / 64 + p * 64 + k * 16 + i)
        sendFrame s { seq := 0, resync := true, sync := pageMode s p 2, async := pageMode s p 3, recs := recs }) s
      updMirror (s.bumpR Obj.RESYNC_PAGES) fun m => { m with inFlight := AMap.set m.inFlight p m.txSeq }
    | _, _ => s)

/-- Meaning of MIRROR_ACK_TIMER (05 R135). -/
def execMirrorAckTimer (s : State) : Host.Outcome State Fault Refusal :=
  .next (if mirrorUp s ∧ s.hc.mirror.ackOwed then sendAck s else s)

/-- Meaning of MIRROR_RETRANSMIT (05 R135): every frame from the oldest unacknowledged on is sent again. -/
def execMirrorRetransmit (s : State) : Host.Outcome State Fault Refusal :=
  .next (if mirrorUp s ∧ ¬ s.hc.mirror.unacked.isEmpty then
      let fs := s.hc.mirror.unacked
      let s := fs.foldl emitFrame (s.bumpN U.root Obj.MIRROR_RETRANSMITS fs.length)
      updMirror s fun m => { m with unacked := m.unacked.map fun f => { f with last := s.now } }
    else s)

/-- Meaning of MIRROR_HEARTBEAT_TIMER (05 R135). -/
def execMirrorHeartbeatTimer (s : State) : Host.Outcome State Fault Refusal :=
  .next (if mirrorUp s then emitMirror s 3 false s.hc.mirror.txSeq [] else s)

/-- The peer is lost (05 R138). -/
def mirrorSplit (s : State) : State :=
  if mirrorUp s then
    let s := record (s.bumpR Obj.MIRROR_SPLITS) Ev.MIRROR_SPLIT U.root 0xFFFF [s.hc.mirror.acked, mirrorLag s, s.robj Obj.MIRROR_PORT_NOW]
    settle (endMirrorSession s 4)
  else s

/-- Meaning of MIRROR_SPLIT (05 R138). -/
def execMirrorSplit (s : State) : Host.Outcome State Fault Refusal := .next (mirrorSplit s)

/-- Meaning of MIRROR_LAG_RELEASE (05 R137): held writes enter in order while the lag allows. -/
def execMirrorLagRelease (s : State) : Host.Outcome State Fault Refusal :=
  .next (settle (releaseBerth s))

end Sys2Proof.Machine
end

