-- ==== Sys2Proof/Machine/WharfCmd.lean ====
section
/-! DEFINITION. The meanings of the wharf's commands (chapter 06). -/
namespace Sys2Proof.Machine
open Sys2Proof

/-! ## Lighters -/

/-- Meaning of LIGHTER_CLOSE_TIMEOUT (06 R154). -/
def execLighterCloseTimeout (slice : Fin 16) (prio : Fin 5) (s : State) : Host.Outcome State Fault Refusal :=
  .next (match s.wharf.lighters.find? (fun l => l.slice == slice.val && l.prio == prio.val && l.state == 0) with
    | some l => updLighter s l.id fun x => x.close s.now true
    | none => s)

/-- Meaning of LIGHTER_TAKE (06 R156, R158): the queue pointers are compared at the access, and a mismatch resets the slice's queue.
While the slice re-forms its queue, while the drain engines are in reset (12 Table CS-5) and through a service reset (12 R284) no lighter
is taken; an entry to P3 or P4 admits none of P3 and P4 (12 R290). The priority of QUEUE_MISMATCH, of which R158 says no more, is that of the lighter
taken next, 2 where there is none (DESIGN CHOICE, log 109). -/
def execLighterTake (slice : Fin 16) (pointersDiffer : Option (Nat × Nat)) (s : State) : Host.Outcome State Fault Refusal :=
  .next (match pointersDiffer with
    | some (a, b) =>
      let prio := match nextLighter s slice with
        | some l => l.prio
        | none => 2
      resetQueue s slice prio a b
    | none =>
      let idle : Bool := match nextLighter s slice with
        | some l => decide (s.robj Obj.ENTRY_STATE = 1 ∧ 3 ≤ l.prio)
        | none => true
      if drainRuns s ∧ ¬ s.wharf.queueReset.contains slice.val ∧ ¬ blockInReset s 1 ∧ s.cs.reset_ = 0 ∧ ¬ idle then settle (takeLighter (leaveP2 s) slice) else s)

/-- Whether programs already issued still complete and commit: in service, in a flush (11 R268 step 3), and in HALTED until the dump is
complete (10 R243). -/
def drainEnds (s : State) : Bool := drainRuns s || s.phase == .flushing || (s.phase == .halted && !s.dp.dumpDone)

/-- The stack that takes a data plate of an executing lighter (07 R168). -/
def plateStack (s : State) (l : Lighter) (j : Nat) : Nat :=
  (placement (getStripe s (stripeKey (l.group - 1) l.stripe)).live (l.stripe / 256) (l.stripe % 256)).2.getD j 0

/-- Meaning of PLATE_PROGRAM_DONE (07 R175, R192), which a program that is parked or stands behind another cannot bring about (08 R199, R200). -/
def execPlateProgramDone (lighter : Nat) (plate : Fin 15) (result : PlateResult) (s : State) : Host.Outcome State Fault Refusal :=
  .next (match findLighter s lighter with
    | some l =>
      if drainEnds s ∧ l.state = 2 ∧ bitOf l.plates plate ∧ bitOf l.programming plate ∧ ¬ l.waitCommit.contains plate.val ∧ opRuns s (l.group - 1) (plateStack s l plate) (l.stripe / 256) (programTok (stripeKey (l.group - 1) l.stripe)) then
        settle (plateDone s l plate result)
      else s
    | none => s)

/-- Meaning of PARITY_PROGRAM_DONE (07 R172), which a program that is parked or stands behind another cannot bring about (08 R199, R200). -/
def execParityProgramDone (lighter : Nat) (ok : Bool) (s : State) : Host.Outcome State Fault Refusal :=
  .next (match findLighter s lighter with
    | some l => if drainEnds s ∧ l.state = 2 ∧ l.parityPending ∧ opRuns s (l.group - 1) (getStripe s (stripeKey (l.group - 1) l.stripe)).parity (l.stripe / 256) (programTok (stripeKey (l.group - 1) l.stripe)) then settle (parityDone s l ok) else s
    | none => s)

/-- Closed P0 lighters with PINNED set, up to 60 pages each (06 R157). -/
def formPinned (sl : Nat) : Nat → List PageNo → State → State
  | 0, _, s => s
  | n + 1, ps, s =>
    if ps.isEmpty ∨ 4096 ≤ queueLength s sl then s
    else
      let l : Lighter := { id := s.wharf.nextLighter, slice := sl, prio := 0, state := 1, pages := (ps.take 60).map (hostDesc s), replay := (ps.take 60).any (pageReplay s), pinned := true, openedAt := s.now, closedAt := s.now }
      formPinned sl n (ps.drop 60) { s with wharf := { s.wharf with lighters := s.wharf.lighters ++ [l], nextLighter := s.wharf.nextLighter + 1 } }

/-- The pinned pages of a slice that a lighter may take, oldest first. -/
def pinnedPages (s : State) (sl : Nat) : List PageNo :=
  (stagedPages s sl).filter fun pn => s.wharf.pinned.contains pn && pageDrainable s pn && !pageInLighter s pn && !s.mc.discarding.contains pn

/-- Form the P0 lighters of a slice's pinned pages, where a stripe can be opened (06 R157). -/
def pinnedLighters (s : State) (sl : Nat) : State :=
  let ps := pinnedPages s sl
  if noSpare s (drainGroup s) ∨ s.wharf.queueReset.contains sl ∨ s.cs.reset_ ≠ 0 ∨ ¬ drainRuns s then s else formPinned sl (ps.length / 60 + 1) ps s

/-- Meaning of PINNED_LIGHTER_FORM (06 R157): once a stripe can be opened again, oldest page first. -/
def execPinnedLighterForm (slice : Fin 16) (s : State) : Host.Outcome State Fault Refusal := .next (pinnedLighters s slice)

/-! ## Held writes and the queue's reset -/

/-- A held access enters its conflict table where nothing holds it any longer (06 R160). -/
def releaseOne (s : State) (id : Nat) : State :=
  match s.wharf.held.find? (fun a => a.id == id) with
  | some a =>
    if wharfHolds s a (s.wharf.held.takeWhile fun b => b.id != id) then s
    else enterTable { s with wharf := { s.wharf with held := s.wharf.held.filter fun b => b.id != id } } a false
  | none => s

/-- Held accesses of a slice, in order of arrival. -/
def heldOf (s : State) (sl : Nat) : List Acc := s.wharf.held.filter fun a => sliceOfLine a.line == sl

/-- An episode at a slice's live limit is over once the slice stands below it as HELD_WRITE_ENTRY looks: what ends one 06 R149 does not say
(DESIGN CHOICE, log 106). -/
def endSliceFull (s : State) (sl : Nat) : State :=
  if sliceAtLimit s sl 1 then s else { s with wharf := { s.wharf with sliceFull := s.wharf.sliceFull.filter (· != sl) } }

/-- Meaning of HELD_WRITE_ENTRY (06 R160): the oldest held write of the slice enters, and the reads that waited behind it. -/
def execHeldWriteEntry (slice : Fin 16) (s : State) : Host.Outcome State Fault Refusal :=
  let s := endSliceFull s slice
  let s := match (heldOf s slice).find? (fun a => a.kind == .write || a.kind == .resvStore) with
    | some a => releaseOne s a.id
    | none => s
  .next (settle (((heldOf s slice).filter fun a => a.kind != .write && a.kind != .resvStore).foldl (fun s a => releaseOne s a.id) s))

/-- Meaning of QUEUE_REBUILD_DONE (06 R158): the lighters are formed again, P0 and P2 from the index and the copies from block metadata, and the held
writes released. -/
def execQueueRebuildDone (slice : Fin 16) (s : State) : Host.Outcome State Fault Refusal :=
  if s.wharf.queueReset.contains slice.val then
    let s := { s with wharf := { s.wharf with queueReset := s.wharf.queueReset.filter (· != slice.val) } }
    let s := reissueCopies (refill (pinnedLighters s slice) slice)
    .next (settle ((heldOf s slice).foldl (fun s a => releaseOne s a.id) s))
  else .next s

/-! ## Pins -/

/-- Meaning of PIN_LOW_MINIMUM (06 R161). -/
def execPinLowMinimum (pin : StagePin) (s : State) : Host.Outcome State Fault Refusal :=
  .next (drivePins (match pin with
    | .slow => { s with pins := { s.pins with slowMin := false } }
    | .stop => { s with pins := { s.pins with stopMin := false } }))

/-! ## The dirty cap -/

/-- The temperature of the hold-up bank now in 0.01 °C; a free value where its sensor has given none (06 R151). -/
def bankTemp (s : State) : Int × State :=
  match tempNow s (U.rail 17) with
  | some t => (t, s)
  | none => let (v, s) := s.draw 65536; (decI16 v, s)

/-- e_used in 10^-5 mJ (06 R151), from the energy in mJ and the temperatures in 0.01 °C. -/
def usedEnergy (e : Nat) (tMeas tNow : Int) : Nat := e * (100000 - 2 * (tMeas - tNow).toNat)

/-- cap_gib in MiB, rounded down (06 R151); 0 where it falls below 1 GiB (R152). -/
def capMib (used : Nat) : Nat :=
  let m := (((6 * used : Nat) : Int) - 8000000000).toNat * 1024 / 580000000
  if m < 1024 then 0 else m

/-- Recompute DIRTY_CAP (06 R151, R152): the cap and the levels take effect together. HOLDUP_INSUFFICIENT is logged at the first recomputation below the
floor, and again only after one above it: how often 06 R152 does not say (DESIGN CHOICE, log 107). -/
def recomputeCap (s : State) : State :=
  let s0 := s
  let (t, s) := bankTemp s
  let used := usedEnergy (s.obj U.power Obj.HOLDUP_ENERGY) s.pw.tMeas t
  let m := capMib used
  let old := s.robj Obj.DIRTY_CAP
  let new := if m = 0 then 0 else min (s.robj Obj.DIRTY_CAP_LIMIT) (1048576 * m)
  let low := decide (m = 0)
  let noted := s.pw.lowNoted
  let s := ((s.setR Obj.DIRTY_CAP new).setR Obj.CAP_ENERGY (used / 100000)).setR Obj.CAP_UPDATED s.hm.opsec
  let s := { s with pw := { s.pw with lowNoted := low } }
  let s := if 268435456 < max old new - min old new then
      record s Ev.CAP_CHANGED U.root 0xFFFF [old, new, used / 100000] else s
  let s := if low ∧ ¬ noted then
      record s Ev.HOLDUP_INSUFFICIENT U.root 0xFFFF [used / 100000, s.obj U.power Obj.HOLDUP_ENERGY, encI16 t] else s
  track [U.root] s0 (settleLevel s)

/-- Meaning of DIRTY_CAP_RECOMPUTE (06 R151): every 60 operating seconds, once the start measurement has set the cap (11 R264). -/
def execDirtyCapRecompute (s : State) : Host.Outcome State Fault Refusal :=
  .next (if s.pw.measured then settle (recomputeCap s) else s)

/-- DIRTY_CAP_LIMIT's own rule (06 R151). -/
def dirtyCapLimitRule : KEffect := fun c v s =>
  let s := storeConfig s c.unit c.obj v.toNat
  (if s.pw.measured then settle (recomputeCap s) else s, .ok)

/-- Meaning of DIRTY_CAP_LIMIT (06 R151). -/
def execDirtyCapLimit (req : KReq) (value : BitVec 64) (s : State) : Host.Outcome State Fault Refusal :=
  .next (kdpObject req (.dirtyCapLimit req value) 0x1401 (.write (.num value.toNat)) dirtyCapLimitRule s)

/-! ## Filter and index -/

/-- The staged pages of a slice. -/
def stagedSet (s : State) (sl : Nat) : List PageNo := stagedPages s sl

/-- Meaning of FILTER_REBUILD_DONE (06 R148): the fresh filter counts each page's index record once. -/
def execFilterRebuildDone (slice : Fin 16) (s : State) : Host.Outcome State Fault Refusal :=
  if s.wharf.rebuilding.contains slice.val then
    let others := s.wharf.filter.filter fun p => p.1 / 4194304 != slice.val
    let f := (stagedSet s slice).foldl (fun m pn => filterStep (filterStep m (filterKeys pn).1 true) (filterKeys pn).2 true) others
    .next ({ s with wharf := { s.wharf with filter := f, rebuilding := s.wharf.rebuilding.filter (· != slice.val) } }.bumpR Obj.FILTER_REBUILDS)
  else .next s

/-- Meaning of WHARF_INDEX_REPAIRED (10 Table DP-2): waiting accesses to the bucket's pages proceed. -/
def execWharfIndexRepaired (page : Nat) (s : State) : Host.Outcome State Fault Refusal :=
  .next (settle (settleWaiting { s with wharf := { s.wharf with badIndex := s.wharf.badIndex.filter fun q => !sameBucket q page } }))

end Sys2Proof.Machine
end

