-- ==== Sys2Proof/Machine/MediaCmd.lean ====
section
/-! DEFINITION. The meanings of the map's commands (07 R178 to R181). -/
namespace Sys2Proof.Machine
open Sys2Proof

/-- Meaning of RECLAIM_VICTIM_SELECT (07 R183), a firmware duty (12 R286). -/
def execReclaimVictimSelect (group : Fin 2) (s : State) : Host.Outcome State Fault Refusal :=
  .next (if (s.variant = .p064 ∧ group = 1) ∨ ¬ firmwareOn s then s else reclaimSelect (leaveP2 s) group)

/-- What a chunk's newest copy and the ring records at or above its FRONTIER give a page (07 R181). -/
def reloadEntry (s : State) (pn : PageNo) : Option Nat :=
  let base := match newestCopy s (segOf pn) with
    | some c => AMap.get? c.entries pn
    | none => none
  let recs := (s.media.journal.filter fun r => r.ofMap && r.a == pn && decide (chunkFrontier s (chunkOf pn) ≤ r.jpos)).reverse
  let m : AMap Nat := match base with
    | some p => [(pn, p)]
    | none => []
  AMap.get? (recs.foldl (fun m r => applyRecord m r.kind r.a r.b r.c) m) pn

/-- Reload the entries of a chunk that have a reserved bit set (07 R181). -/
def reloadReserved (s : State) (chunk : Nat) : State :=
  let bad := (s.media.map.filter fun p => chunkOf p.1 == chunk && decide (2^35 ≤ p.2)).map (·.1)
  let m := bad.foldl (fun m pn => match reloadEntry s pn with
    | some p => AMap.set m pn p
    | none => AMap.del m pn) s.media.map
  { s with media := { s.media with map := m } }

/-- Meaning of MAP_REPAIRED (07 R181): the chunk is reloaded and its records applied again, and waiting accesses proceed; where the copy
cannot be read, the chunk's pages read poison. -/
def execMapRepaired (chunk : Nat) (copyReadable : Bool) (s : State) : Host.Outcome State Fault Refusal :=
  .next (match AMap.get? s.media.badMap chunk with
    | none => s
    | some t0 =>
      let f := chunkFrontier s chunk
      let n := (s.media.journal.filter fun r => decide (1 ≤ r.kind ∧ r.kind ≤ 3 ∧ r.a / 800 = chunk ∧ f ≤ r.jpos)).length
      let s := s.bumpR Obj.MAP_REPAIRS
      let s := { s with media := { s.media with
        badMap := AMap.del s.media.badMap chunk,
        badChunks := if copyReadable ∨ s.media.badChunks.contains chunk then s.media.badChunks else chunk :: s.media.badChunks,
        regained := if copyReadable then s.media.regained else s.media.regained.filter fun pn => chunkOf pn != chunk } }
      let s := reloadReserved s chunk
      let s := record s Ev.MAP_REPAIRED U.root 0xFFFF [chunk, n, usBetween t0 s.now]
      settle (settleWaiting s))

/-- The rekey passes record their positions with a checkpoint (10 R238). -/
def saveRekey (s : State) : State :=
  { s with dp := { s.dp with doms := s.dp.doms.map fun p => (p.1, { p.2 with saved := p.2.pos }) } }

/-- The map entry of a page as it stood when a chunk with FRONTIER `f` was copied: what the first record at or after it replaced (07 Table MT-5). -/
def entryBefore (s : State) (f : Nat) (pn : PageNo) : Option Nat :=
  match (s.media.journal.filter fun r => r.ofMap && r.a == pn && decide (f ≤ r.jpos)).getLast? with
  | some r => if r.c = unmapped then none else some r.c
  | none => mapGet s pn

/-- Draw the FRONTIER of each chunk changed while its segment was copied: each is written as it stands at its own moment, which the spec does not give
(07 R178; a free value, log 110). -/
def drawFrontiers (start : Nat) (cs : List Nat) (s : State) : AMap Nat × State :=
  cs.foldl (fun acc c =>
    let (v, t) := acc.2.draw (acc.2.media.jnext - start + 1)
    (AMap.set acc.1 c (start + v), t)) ([], s)

/-- The set and stripe records, the erase counts and the clocks' snapshots go into the log area with a checkpoint round (07 R179, 08 R205, R206, 09
R224). -/
def takeSnap (s : State) : State :=
  { s with media := { s.media with ckpt := { s.media.ckpt with snap :=
    { seq := s.media.ckpt.snap.seq + 1, jpos := s.media.jnext, at_ := s.hm.opsec, sets := s.media.sets, stripes := s.media.stripes, minutes := s.ml.minutes, hours := s.ml.hours } } } }

/-- A chunk page as it stands in a segment's copy (07 Table MT-7). -/
def chunkBytes (s : State) (c : SegCopy) (chunk : Nat) : List Byte :=
  let es := ((List.range 800).map fun i => leBytes 5 (match AMap.get? c.entries (800 * chunk + i) with
    | some p => physPpn s p
    | none => unmapped)).flatten
  let body := es ++ leBytes 4 chunk ++ leBytes 8 (c.frontierOf chunk) ++ leBytes 4 c.snapSeq ++ List.replicate 76 0
  body ++ leBytes 4 (crc32c body)

/-- The new copy of a segment, in the slot of its older one (07 R178). -/
def newCopy (s : State) (seg area : Nat) (chunks : AMap Nat) : SegCopy :=
  let c : SegCopy := { area := area, frontier := s.media.ckpt.start, entries := [], chunks := chunks, snapSeq := s.media.ckpt.snap.seq }
  let recs := s.media.journal.filter fun r => r.ofMap && segOf r.a == seg
  let pns := (s.media.map.map (·.1) ++ recs.map (·.a)).filter fun pn => segOf pn == seg
  { c with entries := pns.foldl (fun m pn => match entryBefore s (c.frontierOf (chunkOf pn)) pn with
    | some p => AMap.set m pn p
    | none => AMap.del m pn) [] }

/-- Meaning of CHECKPOINT_SEGMENT_DONE (07 R178, R179): once every P0 lighter of the segment being copied has been executed, the slot reset for it holds a
new copy that the catalogue names, the set snapshot is taken, and the ring positions below the lowest FRONTIER may be reused. -/
def execCheckpointSegmentDone (segment : Nat) (s : State) : Host.Outcome State Fault Refusal :=
  if s.media.ckpt.seg ≠ some segment ∨ segCount s.variant ≤ segment ∨ ¬ drainEnds s ∨ s.media.ckpt.stripe ≤ segLighters s.variant segment then .next s
  else
    let old := newestCopy s segment
    let area := slotArea s segment
    let start := s.media.ckpt.start
    let busy := ((s.media.journal.filter fun r => r.ofMap && segOf r.a == segment && decide (start ≤ r.jpos)).map fun r => chunkOf r.a).eraseDups
    let (chunks, s) := drawFrontiers start busy s
    let c := newCopy s segment area chunks
    let done := if s.media.ckptAll ∧ ¬ s.media.ckptDone.contains segment then segment :: s.media.ckptDone else s.media.ckptDone
    let all := decide (segCount s.variant ≤ done.length)
    let s := s.bumpR Obj.CKPT_WRITTEN
    let s := takeSnap { s with media := { s.media with
      segs := AMap.set s.media.segs segment (c :: old.toList), ckptAll := s.media.ckptAll && !all, ckptDone := if all then [] else done
      ckpt := { s.media.ckpt with seg := none } } }
    let f := lowestFrontier s
    let keep (l : List JRec) : List JRec := l.filter fun r => decide (f ≤ r.jpos)
    let s := { s with media := { s.media with journal := keep s.media.journal, journal2 := keep s.media.journal2, jbad := s.media.jbad.filter fun p => decide (f ≤ p) } }
    .next (settle (startCkpt (resumeCommits (saveRekey s))))

end Sys2Proof.Machine
end

