-- ==== Sys2Proof/Machine/ReadOps.lean ====
section
/-! DEFINITION. Media reads under way (08 R199 to R210): die scheduling, read-around, the retry ladder, and what a sector's return
brings about for the read that waits on it. -/
namespace Sys2Proof.Machine
open Sys2Proof

/-! ## Read-around -/

/-- Whether a read's sector can be reconstructed: its stripe is not left without parity and every other member is live (08 R201, Table
ML-6). -/
def reconstructible (s : State) (r : MediaRead) : Bool :=
  !(getStripe s (ppnStripeKey r.ppn)).unprotected &&
    (membersOf s r).all fun i => !memberGone s (ppnGroup r.ppn) i (ppnDie r.ppn)

/-- Whether a stack has room in its budget of 256 member reads in any 1024 read slots of 608 bytes at 26 GB/s (08 R201). -/
def budgetRoom (s : State) (u : Nat) : Bool :=
  decide (((AMap.getD s.ml.budget u []).filter fun t => decide (s.now < t + 9578)).length < 256)

/-- Whether every member stack of a read has budget room. -/
def aroundBudget (s : State) (r : MediaRead) : Bool :=
  (membersOf s r).all fun i => budgetRoom s (U.stack (ppnGroup r.ppn + 1) (i + 1))

/-- Remove a read. -/
def endRead (s : State) (r : MediaRead) : State :=
  resumeOps { s with ml := { s.ml with reads := s.ml.reads.filter fun q => q.id != r.id } }

/-- Count a die wait above SUSPEND_FAST (08 R200, R203). -/
def noteLongWait (s : State) (u : Nat) : State :=
  let s := s.bump u Obj.LONG_WAITS
  { s with ml := { s.ml with wins := AMap.upd s.ml.wins u {} fun w => { w with long := w.long + 1 } } }

/-- A read's own plane. -/
def MediaRead.plane (s : State) (r : MediaRead) : Nat := r.planeOn s (ppnStack r.ppn)

/-- The class of a read at its own die (08 R199): 1 demand, 3 retry, 5 prefetch, copy and proof; the module's other reads stand in 5 (DESIGN CHOICE, log
115). A proof read stays in 5 on every rung (09 R212). -/
def MediaRead.cls (r : MediaRead) : Nat := if r.why = .proof then 5 else if r.rung ≠ 0 then 3 else if r.why = .demand then 1 else 5

/-- Whether another read goes before one on a plane (08 R199): of a lower class, or an earlier demand read before a demand read. A member read is of class
2. -/
def goesBefore (s : State) (k cls id : Nat) (q : MediaRead) : Bool :=
  (q.stage == 1 && q.plane s == k && (decide (q.cls < cls) || (cls == 1 && q.cls == 1 && decide (q.id < id)))) ||
    (decide (2 < cls) && q.id != id && q.members.any fun st => q.planeOn s st == k)

/-- Demand reads ahead of a read on its plane (08 R199). -/
def readsAhead (s : State) (r : MediaRead) : Nat :=
  (s.ml.reads.filter fun q => q.stage == 1 && q.cls == 1 && q.plane s == r.plane s && (r.cls != 1 || decide (q.id < r.id))).length

/-- The operation running on a read's plane, 0 where none runs or it is parked (08 R199, R200). -/
def runsOn (s : State) (r : MediaRead) (st : Nat) : Nat :=
  let g := ppnGroup r.ppn
  if parked s g st (ppnSet r.ppn) then 0 else planeOp s g st (ppnDie r.ppn) (planeOf s g st (ppnSet r.ppn))

/-- Whether a read's own sense can end now: nothing goes before it and no operation runs on its plane, nor is one parked there ahead of a read of class 5
(08 R199). -/
def senseEnds (s : State) (r : MediaRead) : Bool :=
  runsOn s r (ppnStack r.ppn) == 0 && !(decide (4 < r.cls) && parked s (ppnGroup r.ppn) (ppnStack r.ppn) (ppnSet r.ppn)) &&
    !s.ml.reads.any (goesBefore s (r.plane s) r.cls r.id)

/-- Whether a member read can end now (08 R199). -/
def memberEnds (s : State) (r : MediaRead) (st : Nat) : Bool := runsOn s r st == 0 && !s.ml.reads.any (goesBefore s (r.planeOn s st) 2 r.id)

/-- The longest suspend estimate that a base die reports for a read (08 R200, R203): the time to park the operation, or the remaining time of the read ahead,
the two together at most the die wait of a plane's waiting read; and 1.2 µs for each further read ahead. -/
def estimateBound (s : State) (r : MediaRead) : Nat :=
  let fine := decide (s.obj (U.stack (ppnGroup r.ppn + 1) (ppnStack r.ppn + 1)) Obj.FINE_MODE = 1)
  let op := runsOn s r (ppnStack r.ppn)
  let n := readsAhead s r
  if n = 0 then (if op = 1 then (if fine then 500 else 1500) else if op = 2 then (if fine then 800 else 2000) else 0)
  else (if op = 0 ∨ fine then 1200 else 2000) + 1200 * (n - 1)

/-- Whether a read finds its plane busy (08 R199, R200): an operation runs, or a demand read is ahead; one beyond the 8 that the base die queues is not sent
to it yet. -/
def findsBusy (s : State) (r : MediaRead) : Bool :=
  decide (readsAhead s r < 10) && (runsOn s r (ppnStack r.ppn) != 0 || decide (1 ≤ readsAhead s r))

/-- The controller's decision for a read that finds its plane busy (08 R200, R202). The die wait is the estimate reported. The first read behind the one for
which an operation has been parked queues there (08, corner cases). -/
def decideRead (s : State) (r : MediaRead) (estimate : Nat) : State :=
  let g := ppnGroup r.ppn
  let u := U.stack (g + 1) (ppnStack r.ppn + 1)
  let fast := decide (estimate ≤ s.robj Obj.SUSPEND_FAST)
  let overdue := (planeRec s (r.plane s)).overdue
  let r := { r with decided := true }
  let wait (s : State) : State :=
    let s := suspendOp (putRead s r) g (ppnStack r.ppn) (ppnSet r.ppn)
    if fast then s else noteLongWait s u
  if ¬ overdue ∧ (fast ∨ (parked s g (ppnStack r.ppn) (ppnSet r.ppn) ∧ readsAhead s r = 1)) then wait s
  else if r.noAround ∨ ¬ reconstructible s r then wait s
  else if aroundBudget s r then resumeOps (sendMembers s { r with around := true })
  else wait (s.bump u Obj.BUDGET_REFUSALS)

/-! ## Re-engraving -/

/-- A set is due for re-engraving (08 R209, R210): a closed set's valid pages are copied at P3, an open one's once it closes. `force`: whatever its age. -/
def markDue (s : State) (k : Nat) (force : Bool) : State :=
  let r := getSet s k
  let r' := { r with due := max 1 r.due, forced := r.forced || force }
  let st := setStateOf s k
  if st = 2 then makeVictim (putSet s k r') k 2 3 else if st = 1 ∧ force then putSet s k r' else s

/-- A sector read has reached rung 2 or higher: the set is due at once at the REENGRAVE_AFTER_SOFT-th within 3600 s (08 R210). -/
def noteSoft (s : State) (k : Nat) : State :=
  let r := getSet s k
  let now := s.hm.opsec
  let ts := now :: r.softAt.filter fun t => decide (now < t + 3600)
  let s := putSet s k { r with softAt := ts.take 64 }
  if s.robj Obj.REENGRAVE_AFTER_SOFT ≤ ts.length then markDue s k true else s

/-! ## The read's end -/

/-- The lines of a read's sector as it decodes and decrypts; poisoned where it could not be decoded. -/
def sectorLines (s : State) (r : MediaRead) (bad : Bool) : List StoredLine :=
  (List.range 8).map fun i =>
    if bad then { mark := 1 }
    else match r.page with
      | some p => storedLine s p (r.sector * 8 + i)
      | none => {}

/-- Whether a read's sector is erased, so that it is neither decrypted nor checked (10 R238). -/
def readErased (s : State) (r : MediaRead) : Bool :=
  match r.page with
  | some p => sectorErased s p
  | none => true

/-- Deliver a demand read's data to the accesses that wait on it (01 R17, 08 R208): the staged bytes each saw at its entry lie over the
sector's. A transaction closes with its response (04 R93), and what waited behind it starts; a response that waits in the port's queue for the host's
credits counts as sent (DESIGN CHOICE, log 123). -/
def deliverDemand (s : State) (r : MediaRead) (bad : Bool) : State :=
  let ls := sectorLines s r bad
  let u := U.stack (ppnGroup r.ppn + 1) (ppnStack r.ppn + 1)
  let more := (if r.around then [(0x12, u)] else []) ++ (if 1 ≤ r.rung then [(0x17, ppnDiePath r.ppn)] else [])
  settleAcks (settleWaiting (r.accs.foldl (fun s a =>
    let b := ls.getD (a.line % 8) {}
    deliverReadX s a 3 (overlay b.data a.data a.mask) (a.poison || markPoison b.mark (staleReadOf s a.line)) a.metaVal more) s))

/-- Whether a read's contents may still fill a cache: the map still names the page read, and no discard has reached it. -/
def fillFits (s : State) (r : MediaRead) : Bool := mapGet s r.pn == some r.ppn && !s.mc.discarding.contains r.pn

/-- Fill the caches by the placements of a read's accesses, once its tag has verified (10 R242, 05 R112). -/
def fillDemand (s : State) (r : MediaRead) : State :=
  if !fillFits s r then s
  else
    let ls := sectorLines s r false
    let x := r.pn * 8 + r.sector
    let one (s : State) (place : Nat) : State := match r.accs.find? (fun a => a.place == place) with
      | some a => fillFor s a x ls false
      | none => s
    one (one s 1) 2

/-- A sector of a merge base or of a copy's source arrives (06 R157, 07 R184): a plate whose pages are ready is programmed. A copy carries
what is stored unchanged, a rekey what it decrypts. -/
def baseIn (s : State) (r : MediaRead) (bad : Bool) : State :=
  match findLighter s r.lighter with
  | none => s
  | some l =>
    let rekey := l.pages.any fun d => d.pn == r.pn && d.rekey && !d.cancelled
    let ls : List (Nat × StoredLine) := (List.range 8).map fun i =>
      (r.sector * 8 + i, if bad then { mark := 1 } else if r.why = .copy ∧ ¬ rekey then (match r.page with
        | some p => p.line (r.sector * 8 + i)
        | none => {}) else (sectorLines s r false).getD i {})
    let f (d : PageDesc) : PageDesc :=
      if d.pn = r.pn ∧ ¬ d.cancelled ∧ ¬ d.baseReady then
        let b := d.base ++ ls
        { d with base := b, baseReady := decide (64 ≤ b.length) }
      else d
    startPrograms (updLighter s l.id fun x => { x with pages := x.pages.map f }) l.id

/-- Issue the rekey pass's next read (10 R238): the first sector of the next mapped page. -/
def rekeyNext (s : State) (dom : Nat) : State :=
  match AMap.get? s.dp.doms dom with
  | none => s
  | some x =>
    if s.robj (Obj.KEY_STATE + dom) ≠ 2 ∨ s.ml.reads.any (fun r => r.why == .rekeyScan && r.lighter == dom) then s
    else match s.media.map.find? (fun p => decide (x.pos ≤ p.1)) with
      | some (pn, ppn) => issueRead s { id := 0, why := .rekeyScan, lighter := dom, pn := pn, sector := 0, ppn := ppn }
      | none => s

/-- Every rekey pass goes on from its position (10 R238). -/
def resumeRekeys (s : State) : State := (s.dp.doms.map (·.1)).foldl rekeyNext s

/-- An interruption ends the scans of the rekey passes: each goes on from its last recorded position (10 R238). -/
def interruptRekeys (s : State) : State :=
  { s with
    ml := { s.ml with reads := s.ml.reads.filter fun r => r.why != .rekeyScan }
    dp := { s.dp with doms := s.dp.doms.map fun p => (p.1, if p.2.prev.isSome then { p.2 with pos := p.2.saved } else p.2) } }

/-- The rekey pass has scanned a page (10 R238): a page of the domain under the previous key is copied under the current one. -/
def rekeyScanned (s : State) (r : MediaRead) : State :=
  let dom := r.lighter
  match AMap.get? s.dp.doms dom with
  | none => s
  | some x =>
    let s := { s with dp := { s.dp with doms := AMap.set s.dp.doms dom { x with pos := r.pn + 1 } } }
    let s := match r.page with
      | some p => if p.domain = dom ∧ rekeyOwed s r.pn r.ppn ∧ mapGet s r.pn = some r.ppn then enqueueCopy s 4 0 true r.pn r.ppn else s
      | none => s
    rekeyNext s dom

/-- A read that needs no further check ends. `bad`: it ended at rung 4. -/
def completeRead (s : State) (r : MediaRead) (bad : Bool) : State :=
  let s := endRead s r
  match r.why with
  | .demand =>
    let s := if r.delivered then s else deliverDemand s r bad
    if bad then s else fillDemand s r
  | .merge | .copy => baseIn s r bad
  | .rekeyScan => rekeyScanned s r
  | .fill =>
    if bad ∨ ¬ fillFits s r then s
    else pcachePut s (r.pn * 8 + r.sector) (sectorLines s r false)
  | .proof => proofRead s r bad
  | .prefetch => if bad then s else prefetchIn s r
  | .scrub => s

/-- Whether a decoded sector's tag is checked (10 R242, R243): not of an erased sector, a proof read or a copy that keeps its ciphertext. -/
def tagChecked (s : State) (r : MediaRead) : Bool :=
  !readErased s r && (match r.why with
    | .copy => match findLighter s r.lighter with
      | some l => l.pages.any fun d => d.pn == r.pn && d.rekey && !d.cancelled
      | none => false
    | .proof => false
    | _ => true)

/-- A sector has decoded (08 R208, 10 R242): speculative delivery sends a demand read's data before its tag check ends. The lines of a sector that
INTEGRITY_RECOVER marked are poisoned and nothing of them is checked (10 R244), unless the sector has been erased since (R239). -/
def sectorDecoded (s : State) (r : MediaRead) : State :=
  let u := U.stack (ppnGroup r.ppn + 1) (ppnStack r.ppn + 1)
  let s := if r.around then pcCount (s.bump u Obj.READAROUNDS) 0x12 u (some (sliceOf r.pn)) 1 else s
  if s.dp.markedAt.contains (r.ppn * 8 + r.sector) ∧ r.why ≠ .proof ∧ ¬ readErased s r then completeRead s r true
  else if tagChecked s r then
    let early := decide (r.why = .demand ∧ s.robj Obj.SPEC_DELIVERY = 1)
    let s := putRead s { r with stage := 3, members := [], delivered := early }
    resumeOps (if early then deliverDemand s r false else s)
  else completeRead s r false

/-- A read reaches a rung (08 R208, R210). -/
def reachRung (s : State) (r : MediaRead) (n : Nat) : State :=
  let die := ppnDiePath r.ppn
  let s := s.bump die (Obj.RUNG_COUNT + n)
  let s := if r.rung = 0 then pcCount s 0x17 die (some (sliceOf r.pn)) 1 else s
  if 2 ≤ n ∧ r.rung < 2 then noteSoft s (ppnSetKey r.ppn) else s

/-- Rung 4 (08 Table ML-6): the sector is poisoned for this read and every later one (R208). -/
def poisonRead (s : State) (r : MediaRead) : State :=
  let die := ppnDiePath r.ppn
  let k := r.ppn * 8 + r.sector
  let s := reachRung s r 4
  let s := (s.bumpR Obj.MEDIA_UNCORRECTABLE).bump die Obj.ERR_UNCORRECTABLE
  let s := if s.dp.poisonAt.contains k then s else { s with dp := { s.dp with poisonAt := k :: s.dp.poisonAt } }
  let s := record s Ev.READ_POISONED die 0xFFFF [r.ppn, r.pn, r.sector, r.bin]
  let s := if r.why = .copy then record s Ev.COPY_POISONED die 0xFFFF [physPpn s r.ppn, r.pn, r.sector] else s
  completeRead s { r with rung := 4 } true

/-- Whether a member that a degraded read lacks is merely unavailable: its stack is off and not dead (07 R187, 11 R260). -/
def lacksUnavailable (s : State) (r : MediaRead) : Bool :=
  let g := ppnGroup r.ppn
  (ppnStack r.ppn :: membersOf s r).any fun i => s.media.offStacks.contains (U.stack (g + 1) (i + 1)) && !s.media.deadStacks.contains (U.stack (g + 1) (i + 1))

/-- A degraded read that lacks further members which are off (11 R260): a demand read is answered with poison that is not stored, and
counts; a page whose merge needs it is pinned; a copy leaves its lighter until the bank returns, and a rekey scan waits there. -/
def unavailableRead (s : State) (r : MediaRead) : State :=
  let drop (p : MediaRead → Bool) (s : State) : State := resumeOps { s with ml := { s.ml with reads := s.ml.reads.filter fun q => !p q } }
  match r.why with
  | .demand => (if r.delivered then endRead s r else deliverDemand (endRead s r) r true).bump U.power Obj.UNAVAILABLE_READS
  | .merge => startPrograms (pinPage (drop (fun q => q.why == .merge && q.pn == r.pn) s) (ppnGroup r.ppn) r.pn) r.lighter
  | .copy =>
    let s := drop (fun q => q.why == .copy && q.lighter == r.lighter && q.pn == r.pn) s
    startPrograms (updLighter s r.lighter fun l => { l with pages := l.pages.map fun d => if d.pn = r.pn ∧ d.srcPpn.isSome then { d with cancelled := true } else d }) r.lighter
  | .proof => proofRead (endRead s r) r true
  | .rekeyScan | .fill | .scrub | .prefetch => endRead s r

/-- A read goes on at a rung of its own die: it senses again, with the plan in force now (08 R208, corner cases). -/
def senseAgain (s : State) (r : MediaRead) (rung : Nat) : State :=
  putRead s { r with stage := 1, rung := rung, decided := false, refs := refsOn s r (ppnStack r.ppn) rung }

/-- A sector has failed to decode at its rung (08 R208). A proof sample that rung 3 cannot decode is dropped, and nothing is poisoned (09 R213); nor is
anything where the members that rung 3 needs are merely off (11 R260). -/
def climb (s : State) (r : MediaRead) : State :=
  if r.degraded then
    if ¬ reconstructible s r ∧ lacksUnavailable s r then unavailableRead s r
    else if r.repeated ∨ ¬ reconstructible s r then poisonRead s r else sendMembers s { r with repeated := true }
  else if r.around then
    let s := if r.rung = 0 then reachRung s r 1 else s
    resumeOps (senseAgain s { r with around := false, noAround := true, members := [] } (max 1 r.rung))
  else if r.rung < 2 then senseAgain (reachRung s r (r.rung + 1)) r (r.rung + 1)
  else if r.rung = 2 ∧ reconstructible s r then sendMembers (reachRung s r 3) { r with rung := 3 }
  else if r.why = .proof then completeRead s r true
  else if r.rung = 2 ∧ ¬ (getStripe s (ppnStripeKey r.ppn)).unprotected ∧ lacksUnavailable s r then unavailableRead s r
  else poisonRead s r

/-- Whether a sector stays unreadable on its own die and by reconstruction (08 R208). -/
def unreadable (s : State) (r : MediaRead) : Bool := s.dp.poisonAt.contains (r.ppn * 8 + r.sector)

/-- Reads left with no member to wait for by the loss of members fail their reconstruction (08, corner cases). -/
def settleLost (s : State) : State :=
  (s.ml.reads.filter fun r => r.stage == 2 && r.members.isEmpty).foldl climb s

end Sys2Proof.Machine
end

