-- ==== Sys2Proof/Machine/ReadCmd.lean ====
section
/-! DEFINITION. The meanings of the media read commands and of the equivalent-age clock (chapter 08). -/
namespace Sys2Proof.Machine
open Sys2Proof

/-- Meaning of SUSPEND_ESTIMATE (08 R200): a demand read finds its plane busy. No estimate exceeds its bound. -/
def execSuspendEstimate (read : Nat) (estimateNs : Nat) (s : State) : Host.Outcome State Fault Refusal :=
  .next (match s.ml.reads.find? (fun r => r.id == read) with
    | some r => if r.stage = 1 ∧ r.why = .demand ∧ ¬ r.decided ∧ findsBusy s r then decideRead s r (min estimateNs (estimateBound s r)) else s
    | none => s)

/-- Meaning of SECTOR_READ_DONE (08 R199, R208): `decoded` tells whether the rung's decode succeeded, `corrected` whether it corrected errors. A read for
which others go first cannot have ended. -/
def execSectorReadDone (read : Nat) (decoded : Bool) (corrected : Bool) (s : State) : Host.Outcome State Fault Refusal :=
  .next (match s.ml.reads.find? (fun r => r.id == read) with
    | some r =>
      if r.stage ≠ 1 ∨ ¬ senseEnds s r then s
      else if decoded ∧ ¬ unreadable s r then
        let die := ppnDiePath r.ppn
        let s := if corrected then pcCount ((s.bumpR Obj.MEDIA_CORRECTED).bump die Obj.ERR_CORRECTED) 0x18 die none 1 else s
        settle (sectorDecoded s r)
      else settle (climb s r)
    | none => s)

/-- A sector that failed on its own die and was recovered by reconstruction counts as a corrected error (10 R230, Table DP-7). -/
def noteRecovered (s : State) (r : MediaRead) : State :=
  let die := ppnDiePath r.ppn
  if r.rung = 3 then pcCount ((s.bumpR Obj.MEDIA_CORRECTED).bump die Obj.ERR_CORRECTED) 0x18 die none 1 else s

/-- Meaning of MEMBER_READ_DONE (08 R201, R204): `decoded` tells, with the last member, whether the reconstruction decodes. -/
def execMemberReadDone (read : Nat) (stack : Fin 16) (decoded : Bool) (s : State) : Host.Outcome State Fault Refusal :=
  .next (match s.ml.reads.find? (fun r => r.id == read) with
    | some r =>
      if r.stage ≠ 2 ∨ (¬ r.members.isEmpty ∧ ¬ (r.members.contains stack.val ∧ memberEnds s r stack.val)) then s
      else
        let r := { r with members := r.members.filter (· != stack.val) }
        let s := resumeOps (putRead s r)
        if !r.members.isEmpty then s
        else if decoded ∧ reconstructible s r ∧ ¬ unreadable s r then settle (sectorDecoded (noteRecovered s r) r)
        else settle (climb s r)
    | none => s)

/-- The integrity record of a media read whose tag failed (10 Table DP-6). -/
def readFailure (r : MediaRead) (cause : Nat) : IntegrityRec :=
  let p : StoredPage := r.page.getD { pn := r.pn }
  { cause := cause, delivered := r.delivered, port := if cause = 1 then (match r.accs with
      | a :: _ => a.port
      | [] => 0) else 0, slice := sliceOf r.pn, pn := r.pn, ppn := r.ppn, sector := r.sector, wseq := p.wseq, domain := p.domain }

/-- The cause of a tag failure by what the read is for (10 Table DP-6): a merge of a sector under a partially staged line is
PARTIAL_MERGE. -/
def tagCause (s : State) (r : MediaRead) : Nat :=
  match r.why with
  | .merge => if s.wharf.entries.any fun p => sectorOfLine p.1 == r.pn * 8 + r.sector && p.2.mask != fullMask then 3 else 2
  | .copy | .rekeyScan => 4
  | .scrub => 5
  | _ => 1

/-- Whether a read's sector was stored at the page it is read at: the tag covers the page number, so a sector presented at another page fails it (10 R236). -/
def atOwnPage (r : MediaRead) : Bool := match r.page with
  | some p => p.pn == r.pn
  | none => true

/-- Meaning of TAG_CHECK_DONE (10 R242, R243). -/
def execTagCheckDone (read : Nat) (ok : Bool) (s : State) : Host.Outcome State Fault Refusal :=
  .next (match s.ml.reads.find? (fun r => r.id == read) with
    | some r =>
      if r.stage ≠ 3 then s
      else if ok ∧ atOwnPage r then settle (completeRead s r false)
      else settle (haltIntegrity (endRead s r) (readFailure r (tagCause s r)))
    | none => s)

/-- Meaning of OP_OVERDUE (08 R202). -/
def execOpOverdue (group : Fin 2) (stack : Fin 16) (die : Fin 32) (plane : Fin 4) (reset : Bool) (s : State) : Host.Outcome State Fault Refusal :=
  let k := planeKey group stack die plane
  .next (match AMap.get? s.ml.ops k with
    | some x =>
      if x.overdue ∨ ¬ x.suspended ∨ x.kind ≠ (if reset then 2 else 1) then s
      else
        let u := U.stack (group + 1) (stack + 1)
        let s := { s.bump u Obj.OPS_OVERDUE with ml := { s.ml with ops := AMap.set s.ml.ops k { x with overdue := true } } }
        record s Ev.OP_OVERDUE (U.die (group + 1) (stack + 1) (die + 1)) 0xFFFF [group + 1, stack + 1, die + 1, x.kind]
    | none => s)

/-- Meaning of FINE_SUSPEND_ON (08 R203): a window has ended with more than FINE_ENTER long waits. -/
def execFineSuspendOn (group : Fin 2) (stack : Fin 16) (s : State) : Host.Outcome State Fault Refusal :=
  let u := U.stack (group + 1) (stack + 1)
  let w := AMap.getD s.ml.wins u {}
  if !w.endedOver then .next s
  else
    let first := decide (s.obj u Obj.FINE_MODE = 0)
    let s := { s with ml := { s.ml with wins := AMap.set s.ml.wins u { w with endedOver := false, fineAt := if first then s.hm.opsec else w.fineAt } } }
    .next (if first then record (s.setObj u Obj.FINE_MODE 1) Ev.FINE_SUSPEND_ON u 0xFFFF [group + 1, stack + 1, w.last] else s)

/-- Meaning of FINE_SUSPEND_OFF (08 R203): FINE_HOLD seconds have passed with no window above FINE_ENTER. -/
def execFineSuspendOff (group : Fin 2) (stack : Fin 16) (s : State) : Host.Outcome State Fault Refusal :=
  let u := U.stack (group + 1) (stack + 1)
  let w := AMap.getD s.ml.wins u {}
  if s.obj u Obj.FINE_MODE = 0 ∨ w.endedOver ∨ s.hm.opsec < max w.overAt w.fineAt + s.robj Obj.FINE_HOLD then .next s
  else .next (record (s.setObj u Obj.FINE_MODE 0) Ev.FINE_SUSPEND_OFF u 0xFFFF [group + 1, stack + 1, s.hm.opsec - w.fineAt])

/-- Meaning of DEGRADED_OVERLOAD (08 R204): an episode begins, and the group's reads are excluded under cause 7, or it ends. -/
def execDegradedOverload (group : Fin 2) (rate : Nat) (begins : Bool) (s : State) : Host.Outcome State Fault Refusal :=
  let g := group.val
  if begins then
    if s.ml.overloaded.contains g ∨ (s.variant = .p064 ∧ g = 1) then .next s
    else
      let mark (r : MediaRead) : MediaRead := if ppnGroup r.ppn = g then { r with accs := r.accs.map fun a => a.delayed 7 } else r
      let s := { s with ml := { s.ml with overloaded := g :: s.ml.overloaded, reads := s.ml.reads.map mark } }
      .next (record s Ev.DEGRADED_OVERLOAD (U.group (g + 1)) 0xFFFF [g + 1, rate, s.obj (U.group (g + 1)) Obj.REBUILD_STATE])
  else .next { s with ml := { s.ml with overloaded := s.ml.overloaded.filter (· != g) } }

/-! ## The equivalent-age clock -/

/-- The largest number of at most `bits` bits whose q-th power, times `den`, is at most `num`. -/
def rootFloor (q den num : Nat) (bits : Nat) : Nat :=
  (List.range bits).reverse.foldl (fun m i => if (m + 2^i) ^ q * den ≤ num then m + 2^i else m) 0

/-- The acceleration factor 2^((t − t_ref) / d) in thousandths, fractions cut (08 R205). Temperatures in 0.01 °C. -/
def afMilli (t tRef : Int) (d : Nat) : Nat :=
  let e := (t - tRef).natAbs
  let g := max 1 (Nat.gcd e d)
  let p := e / g
  let q := max 1 (d / g)
  if tRef ≤ t then rootFloor q 1 (1000 ^ q * 2 ^ p) (12 + p / q) else rootFloor q (2 ^ p) (1000 ^ q) 11

/-- t_stack of the second that ends (08 R205): the higher of the stack's working sensors' averages; 75 °C with both failed. A sensor that
has given no reading in the second counts with its last one; with no reading at all the temperature is a free value. -/
def stackTemp (s : State) (u : Nat) : Int :=
  let xs := [sensorOf s u 1, sensorOf s u 2].filter fun x => !x.failed
  if xs.isEmpty then 7500
  else
    let avg (x : Sensor) : Option Int := if x.count = 0 then x.last else some (x.sum / x.count)
    match xs.foldl (fun b x => maxOpt b (avg x)) none with
    | some t => t
    | none => decI16 (Config.unstated 1 [u, s.hm.opsec] % 65536)

/-- Advance one die's clock by a second, with its snapshots (08 R205). -/
def tickDie (s : State) (g st d : Nat) : State :=
  let u := U.die (g + 1) (st + 1) (d + 1)
  let rec_ := dieRec s g st d
  let af := afMilli (stackTemp s (U.stack (g + 1) (st + 1))) rec_.tRef rec_.doubling
  let f := AMap.getD s.ml.eqFrac u 0 + af
  let s := (s.bumpN u Obj.EQ_CLOCK (f / 1000)).setObj u Obj.AF_NOW af
  let now := s.hm.opsec
  let snap := (now, s.obj u Obj.EQ_CLOCK)
  let add (m : AMap (List (Nat × Nat))) (n : Nat) : AMap (List (Nat × Nat)) := AMap.upd m u [] fun l => (snap :: l).take n
  let m := if now % 60 = 0 then add s.ml.minutes 1440 else s.ml.minutes
  let h := if now % 3600 = 0 then add s.ml.hours 65536 else s.ml.hours
  { s with ml := { s.ml with eqFrac := AMap.set s.ml.eqFrac u (f % 1000), minutes := m, hours := h } }

/-- The re-engraving copies of a set leave the lighters that wait at a priority above `keep`. -/
def dropCopies (s : State) (k keep : Nat) : State :=
  let mine (d : PageDesc) : Bool := d.why == 2 && !d.rekey && (match d.srcPpn with
    | some p => ppnSetKey p == k
    | none => false)
  setLighters s (s.wharf.lighters.map fun l => if l.state = 2 ∨ l.prio ≤ keep then l
    else { l with pages := l.pages.map fun d => if mine d then { d with cancelled := true } else d })

/-- The copies of an overdue set run at P1 (08 R209). -/
def hurryCopies (s : State) (k : Nat) : State := (pagesOfSet s k).foldl (fun s q => enqueueCopy s 1 2 false q.1 q.2) (dropCopies s k 1)

/-- A set's age over its horizon in thousandths (08 R209). -/
def horizonRatio (s : State) (k : Nat) : Nat := setAge s (k / 2^20) (k % 2^20) * 1000 / max 1 (setHorizon s (k / 2^20) (k % 2^20))

/-- A set that was due by age under a shorter horizon ceases to be due, or to be overdue (09 R218): its copies not yet executing are dropped. -/
def ceaseDue (s : State) (k : Nat) : State :=
  let r := getSet s k
  if r.why ≠ 2 ∨ r.state ≠ 3 ∨ r.due = 0 then s
  else if horizonRatio s k < 1000 ∧ ¬ r.forced then
    let s := dropCopies s k 0
    setState (putSet s k { r with due := 0, why := 0 }) k 2
  else if r.due = 2 ∧ horizonRatio s k < s.robj Obj.REENGRAVE_OVERDUE * 10 then putSet s k { r with due := 1 }
  else s

/-- Sets that cease to be due, sets that fall due, in order of age over horizon, and sets that become overdue (08 R209, 09 R218). -/
def judgeSets (s : State) : State :=
  let s := (s.media.sets.map (·.1)).foldl ceaseDue s
  let ratio (k : Nat) : Nat := horizonRatio s k
  let due := (s.media.sets.filter fun p => p.2.state == 2 && decide (1000 ≤ ratio p.1)).map fun p => (ratio p.1, p.1)
  let sorted := due.foldl (fun (l : List (Nat × Nat)) x => (l.filter fun y => decide (x.1 ≤ y.1)) ++ x :: l.filter fun y => decide (y.1 < x.1)) []
  let s := sorted.foldl (fun s x => markDue s x.2 false) s
  let late := (s.media.sets.filter fun p => p.2.due == 1 && p.2.state == 3 && decide (s.robj Obj.REENGRAVE_OVERDUE * 10 ≤ ratio p.1)).map (·.1)
  late.foldl (fun s k =>
    let g := k / 2^20
    let n := k % 2^20
    let r := getSet s k
    let s := hurryCopies (putSet s k { r with due := 2, lateLogged := true }) k
    if r.lateLogged then s else record s Ev.REENGRAVE_OVERDUE (U.group (g + 1)) 0xFFFF [g + 1, n, setAge s g n, setHorizon s g n]) s

/-- Meaning of EQ_CLOCK_TICK (08 R205): one operating second passes (16 R369), every die's clock advances, and the sets that fall due are
taken (R209). -/
def execEqClockTick (s : State) : Host.Outcome State Fault Refusal :=
  if !s.hm.running then .next s
  else
    let s := opSecond s
    let dies := ((List.range (groupCount s.variant)).map fun g => ((List.range 16).map fun st => (List.range 32).map fun d => (g, st, d)).flatten).flatten
    let s := dies.foldl (fun s x => tickDie s x.1 x.2.1 x.2.2) s
    let s := { s with th := { s.th with sensors := s.th.sensors.map fun p => (p.1, { p.2 with sum := 0, count := 0 }) } }
    .next (if drainRuns s then settle (judgeSets s) else s)

/-! ## The loss of members -/

/-- Meaning of DIE_FAILED (07 R187 to R189): the die is dead and reads FAILED; its sets are rebuilt. A confirmatory pass
of it is dropped (09 R222). -/
def execDieFailed (group : Fin 2) (stack : Fin 16) (die : Fin 32) (cause : Nat) (s : State) : Host.Outcome State Fault Refusal :=
  .next (settle (settleLost (dieFailed s group stack die cause)))

/-- Meaning of STACK_FAILED (07 R187 to R189): the stack is dead and reads FAILED; the group is rebuilt. -/
def execStackFailed (group : Fin 2) (stack : Fin 16) (cause : Nat) (s : State) : Host.Outcome State Fault Refusal :=
  .next (settle (settleLost (stackFailed s group stack cause)))

end Sys2Proof.Machine
end

