-- ==== Sys2Proof/Machine/AgeOps.lean ====
section
/-! DEFINITION. Self-measurement, margin plans, fallbacks and end-of-life prediction (chapter 09). -/
namespace Sys2Proof.Machine
open Sys2Proof

/-! ## The measurement log -/

/-- Append a measurement (09 R215): a ring of 16,777,216 records. -/
def appendMeas (s : State) (kind index unit samples : Nat) (payload : List Byte) : State :=
  let r : Meas := { kind := kind, planSlot := if s.ag.active.id = 0 then 0 else 1, index := index, unit := unit, at_ := s.hm.opsec, samples := samples, payload := payload }
  { s with ag := { s.ag with log := ((s.ag.next, r) :: s.ag.log).take 16777216, next := s.ag.next + 1 } }

/-- Whether a unit is OFF, FAILED or ABSENT, so that its measurement is skipped (09 R212). -/
def measSkips (s : State) (u : Nat) : Bool :=
  let st := unitState s u
  st == 0 || st == 1 || st == 5

/-- Take a measurement of a unit, or skip it (09 R212). -/
def measure (s : State) (u : Nat) (f : State → State) : State := if measSkips s u then s.bumpR Obj.MEAS_SKIPPED else f s

/-! ## Proof passes -/

/-- The sectors of valid pages in sealed stripes of a die, each with its drift bin (09 R213): physical page × 8 + sector, and bin. -/
def proofSectors (s : State) (g st d : Nat) : List (Nat × Nat) :=
  let die := U.die (g + 1) (st + 1) (d + 1)
  ((s.media.map.filter fun p => ppnDiePath p.2 == die && (getStripe s (ppnStripeKey p.2)).sealed).map fun p =>
    (List.range 8).map fun i => (p.2 * 8 + i, driftBin (eqAge s die (getStripe s (ppnStripeKey p.2)).programmedAt))).flatten

/-- Draw `n` of some sectors at random (09 R213): which is a free value. -/
def drawSectors (l : List (Nat × Nat)) (n : Nat) (s : State) : List (Nat × Nat) × State :=
  if l.isEmpty then ([], s)
  else (List.range n).foldl (fun acc _ =>
    let (v, s) := acc.2.draw l.length
    (acc.1 ++ (l.drop v).take 1, s)) ([], s)

/-- The samples of each drift bin (09 R213): 64 shared among the bins in which the die holds data, the remaining ones to the highest. -/
def proofShares (bins : List Nat) : List (Nat × Nat) :=
  let b := bins.length
  (bins.zip (List.range b)).map fun p => (p.1, 64 / b + b2n (decide (b - 64 % b ≤ p.2)))

/-- The samples of a pass (09 R213, R222): 64 shared among the bins, or the 256 of a confirmatory pass, from the blocks whose stripes lie in the bin of a
marked sample. -/
def drawSamples (s : State) (g st d : Nat) (confirm : Bool) : List (Nat × Nat) × State :=
  let all := proofSectors s g st d
  if confirm then
    let bins := (s.ag.marked.filter fun m => m.1 == U.die (g + 1) (st + 1) (d + 1)).map (·.2.2)
    drawSectors (all.filter fun x => bins.contains x.2) 256 s
  else
    let bins := (List.range 9).filter fun b => all.any (·.2 == b)
    (proofShares bins).foldl (fun acc q =>
      let (l, s) := drawSectors (all.filter (·.2 == q.1)) q.2 acc.2
      (acc.1 ++ l, s)) ([], s)

/-- The page a physical page holds, by the map. -/
def pageAt (s : State) (ppn : Nat) : Nat := ((s.media.map.find? fun p => p.2 == ppn).map (·.1)).getD 0

/-- A die's pass no longer keeps a PROOF_NOW waiting: the run ends with its last die (09 R228, 15 R342). -/
def proofServed (s : State) (die : Nat) : State :=
  s.ag.proofNow.foldl (fun s p =>
    if p.2.contains die then
      let left := p.2.filter (· != die)
      if left.isEmpty then endRun p.1 Obj.PROOF_NOW .ok { s with ag := { s.ag with proofNow := AMap.del s.ag.proofNow p.1 } }
      else { s with ag := { s.ag with proofNow := AMap.set s.ag.proofNow p.1 left } }
    else s) s

/-- Start a pass on a die (09 R213): its samples are drawn, and each is read in class 5. A die that is gone is not read: its proof pass is skipped (R212), and
a confirmatory pass that its marks call for waits until it returns. -/
def startPass (s : State) (g st d : Nat) (confirm : Bool) : State :=
  let die := U.die (g + 1) (st + 1) (d + 1)
  if memberGone s g st d then (if confirm then s else proofServed (s.bumpR Obj.MEAS_SKIPPED) die)
  else
    let (picks, s) := drawSamples s g st d confirm
    let p : ProofPass := { confirm := confirm, left := picks.length, picks := picks }
    let s := { s with ag := { s.ag with passes := AMap.set s.ag.passes die p } }
    picks.foldl (fun s q => issueRead s { id := 0, why := .proof, pn := pageAt s (q.1 / 8), sector := q.1 % 8, ppn := q.1 / 8 }) s

/-- Group, stack and die index of a die's path. -/
def dieIndices (die : Nat) : Nat × Nat × Nat := (field die 25 20 - 1, field die 19 14 - 1, field die 13 8 - 1)

/-- Abandon the passes that run and start them again (09 R218, R222). -/
def restartPasses (s : State) : State :=
  let old := s.ag.passes
  let s := { s with ag := { s.ag with passes := [] }, ml := { s.ml with reads := s.ml.reads.filter fun r => r.why != .proof } }
  old.foldl (fun s p =>
    let (g, st, d) := dieIndices p.1
    startPass s g st d p.2.confirm) s

/-- Start the confirmatory passes that marked blocks call for and that a reset, a low-power state or an absence of the die has cut short (09 R222; DEDUCED, log
116). -/
def resumeConfirms (s : State) : State :=
  ((s.ag.marked.map (·.1)).eraseDups.filter fun die => !AMap.has s.ag.passes die).foldl (fun s die =>
    let (g, st, d) := dieIndices die
    startPass s g st d true) s

/-- The samples of a pass as they were measured, each with the bin and the block it was drawn from (09 R213, R214). One without a measurement is dropped. -/
def passSamples (s : State) (g st d : Nat) (p : ProofPass) (xs : List ProofSample) : List ProofSample :=
  (p.picks.zip (List.range p.picks.length)).map fun q =>
    { bin := q.1.2, block := blockOf s g st (32768 * d + ppnBlock (q.1.1 / 8)), errors := match xs[q.2]? with
      | some x => x.errors
      | none => [] }

/-- The raw bit errors of a reference at offset `k` from -7 to 7: entry k + 7. -/
def errAt (errs : List Nat) (k : Int) : Nat := errs.getD (k + 7).toNat 0
/-- An offset is open when its errors number at most 8 (09 R214). -/
def openAt (errs : List Nat) (k : Int) : Bool := decide (errAt errs k ≤ 8)

/-- The open offsets next to 0 on one side (`dir` 1 or -1), up to 7. -/
def openRun (errs : List Nat) (dir : Int) : Nat → Int → Nat
  | 0, _ => 0
  | n + 1, k => if openAt errs k then openRun errs dir n (k + dir) + 1 else 0

/-- The side margin of a reference (09 R214): 8 with every offset of the side open, otherwise one less than the distance of the first that
is not. -/
def sideMargin (errs : List Nat) (dir : Int) : Nat :=
  let n := openRun errs dir 7 dir
  if n = 7 then 8 else n

/-- The margin of a reference (09 R214). -/
def refMargin (errs : List Nat) : Nat := if openAt errs 0 then min (sideMargin errs 1) (sideMargin errs (-1)) else 0

/-- The valley position (09 R214): the offset with the fewest errors, a tie to the nearest 0. Between k and -k the lower is taken
(DESIGN CHOICE, log 28). -/
def valley (errs : List Nat) : Int :=
  let order : List Int := [0, -1, 1, -2, 2, -3, 3, -4, 4, -5, 5, -6, 6, -7, 7]
  order.foldl (fun b k => if errAt errs k < errAt errs b then k else b) 0

/-- The width (09 R214): consecutive open offsets that include the valley position, within the 15 probed. -/
def width (errs : List Nat) : Nat :=
  let v := valley errs
  if openAt errs v then 1 + openRun errs 1 (7 - v).toNat (v + 1) + openRun errs (-1) (7 + v).toNat (v - 1) else 0

/-- The margin of a sample: the least over its references. -/
def sampleMargin (x : ProofSample) : Nat := x.errors.foldl (fun m e => min m (refMargin e)) 8

/-- Whether a sample was decoded: three references of 15 counts. One that rung 3 could not decode is dropped (09 R213). -/
def sampleGood (x : ProofSample) : Bool := x.errors.length == 3 && x.errors.all (fun e => e.length == 15) && decide (x.bin < 9)

/-- The margin of a die in a bin over a pass; none where it was not sampled. -/
def binMargin (xs : List ProofSample) (bin : Nat) : Option Nat :=
  (xs.filter fun x => x.bin == bin).foldl (fun b x => match b with
    | none => some (sampleMargin x)
    | some m => some (min m (sampleMargin x))) none

/-- 15 entries of 6 bits, saturating, the first in the low bits (09 Table AG-2). -/
def pack6 (xs : List Nat) : List Byte :=
  leBytes 12 ((xs.zip (List.range 15)).foldl (fun a p => a + min 63 p.1 * 64 ^ p.2) 0)

/-- The payload of a kind 1 record (09 Table AG-2): per reference the valley, width and margin of the bin's sample with the lowest margin at
that reference (DESIGN CHOICE, log 28), and the errors summed. -/
def proofPayload (xs : List ProofSample) : List Byte :=
  ((List.range 3).map fun r =>
    let es := xs.map fun x => x.errors.getD r []
    let worst := es.foldl (fun b e => if refMargin e < refMargin b then e else b) (es.headD [])
    let sums := (List.range 15).map fun i => (es.map fun e => e.getD i 0).sum
    [BitVec.ofInt 8 (valley worst), BitVec.ofNat 8 (width worst), BitVec.ofNat 8 (refMargin worst), 0] ++ pack6 sums).flatten

/-- Count the samples that were dropped. -/
def noteDropped (s : State) (xs : List ProofSample) : State :=
  s.bumpN U.root Obj.PROOF_DROPPED (xs.filter fun x => !sampleGood x).length

/-- Whether a sample's margin marks its block (09 R222). -/
def marksBlock (r : DieRec) (m : Nat) : Bool := decide (m < r.retireMargin) || decide (2 * m < r.marginFloor)

/-- The fallback of R221 after a pass: the lowest sampled bin below the floor halves the horizon once more. -/
def applyFallback (s : State) (die : Nat) (r : DieRec) (bins : List (Nat × Nat)) : State :=
  let low := bins.filter fun b => decide (b.2 < r.marginFloor)
  match low.foldl (fun b x => match b with
    | none => some x
    | some y => if x.2 < y.2 then some x else some y) none with
  | some (bin, m) =>
    let h := min 255 (s.obj die Obj.FALLBACK_HALVINGS + 1)
    record (s.setObj die Obj.FALLBACK_HALVINGS h) Ev.MARGIN_LOW die 0xFFFF [die, bin, m, h]
  | none => if bins.isEmpty then s else s.setObj die Obj.FALLBACK_HALVINGS 0

/-- The end of a proof pass on a die (09 R214, R221, R222). -/
def proofDone (s : State) (g st d : Nat) (xs : List ProofSample) : State :=
  let die := U.die (g + 1) (st + 1) (d + 1)
  let r := dieRec s g st d
  let s := noteDropped s xs
  let good := xs.filter sampleGood
  let bins := (List.range 9).filterMap fun b => (binMargin good b).map fun m => (b, m)
  let s := (List.range 9).foldl (fun s b => s.setObj die (Obj.MARGIN_NOW + b + 1) ((binMargin good b).getD 255)) s
  let s := bins.foldl (fun s b =>
    let mine := good.filter fun x => x.bin == b.1
    appendMeas s 1 b.1 die mine.length (proofPayload mine)) s
  let s := match bins.foldl (fun m b => min m b.2) 8, bins with
    | _, [] => s
    | w, _ => { s with ag := { s.ag with dies := AMap.upd s.ag.dies die {} fun x => { x with margins := (s.hm.opsec, w) :: x.margins.filter fun p => decide (s.hm.opsec < p.1 + 2592000) } } }
  let s := applyFallback s die r bins
  let marks := (good.filter fun x => marksBlock r (sampleMargin x)).map fun x => (die, x.block, x.bin)
  let s := { s with ag := { s.ag with passes := AMap.del s.ag.passes die, marked := s.ag.marked.filter (fun m => m.1 != die) ++ marks } }
  proofServed (if marks.isEmpty then s else startPass s g st d true) die

/-- The confirming pass of a die is over: the mark that called for it is gone (09 R222). -/
def endConfirm (s : State) (die : Nat) : State :=
  { s with ag := { s.ag with passes := AMap.del s.ag.passes die, marked := s.ag.marked.filter (fun m => m.1 != die) } }

/-- The end of a confirmatory pass (09 R222): every block with a sample below either limit is retired for margin, and its set is due at
once. The pass judges blocks and leaves MARGIN_NOW as the proof pass set it (DEDUCED, log 28). -/
def confirmDone (s : State) (g st d : Nat) (xs : List ProofSample) : State :=
  let die := U.die (g + 1) (st + 1) (d + 1)
  let r := dieRec s g st d
  let s := noteDropped s xs
  let good := xs.filter sampleGood
  let bad := (good.filter fun x => marksBlock r (sampleMargin x)).foldl (fun l x => if l.contains x.block then l else l ++ [x.block]) []
  let s := bad.foldl (fun s b =>
    let n := setOfBlock s g st d b
    markDue (retireBlock s g st n 3) (setKey g n) true) s
  let worst := good.foldl (fun (b : Nat × Nat) x => if sampleMargin x < b.2 then (x.bin, sampleMargin x) else b) ((s.ag.marked.find? (fun m => m.1 == die)).elim 0 (·.2.2), 8)
  endConfirm (record s Ev.MARGIN_CRITICAL die 0xFFFF [die, worst.1, worst.2, bad.length]) die

/-! ## Margin plans -/

/-- The dies of a plan of the variant (09 Table AG-5, check 2). -/
def planDies (v : Variant) : Nat := 512 * groupCount v

/-- A signed byte. -/
def int8 (b : Byte) : Int := b.toInt
/-- Byte `i` of a list of bytes, 0 past its end. -/
def byteAt (bs : List Byte) (i : Nat) : Byte := bs.getD i 0
/-- The little-endian number of `n` bytes from byte `i` on. -/
def fieldAt (bs : List Byte) (i n : Nat) : Nat := leNat ((bs.drop i).take n)
/-- The die records of a staged plan. -/
def dieBytes (bs : List Byte) (i : Nat) : List Byte := (bs.drop (64 + 64 * i)).take 64

/-- A die record as read from its bytes (09 Table AG-4). -/
def parseDie (r : List Byte) : DieRec :=
  { offsets := (r.take 27).map int8, softStep := (byteAt r 27).toNat, probeStep := (byteAt r 28).toNat,
    marginFloor := (byteAt r 29).toNat, retireMargin := (byteAt r 30).toNat, horizon := fieldAt r 32 4, tRef := fieldAt r 36 2,
    doubling := fieldAt r 38 2, trimStart := (byteAt r 40).toNat, trimStep := (byteAt r 41).toNat, trimMax := (byteAt r 42).toNat,
    verify := [int8 (byteAt r 43), int8 (byteAt r 44), int8 (byteAt r 45)] }

/-- A plan as read from its bytes (09 Table AG-3). -/
def parsePlan (bs : List Byte) : Plan :=
  { id := fieldAt bs 8 4, crc := fieldAt bs 60 4, basis := fieldAt bs 20 4, dies := (List.range (fieldAt bs 6 2)).map fun i => parseDie (dieBytes bs i) }

/-- The CRC of a plan: over the header before it and every die record (09 Table AG-3). -/
def planCrc (bs : List Byte) : Nat := crc32c (bs.take 60 ++ bs.drop 64)

/-- A failed check (09 Table AG-5, PLAN_CHECK_RESULT): check, die index, field offset, bin. -/
abbrev PlanFault := Nat × Nat × Nat × Nat

/-- The first element that a test picks, as a fault. -/
def firstFault (l : List (Bool × PlanFault)) : Option PlanFault := (l.find? (·.1)).map (·.2)

/-- The fields of a die record that a check from 4 to 10 finds wrong, in order of their offset (09 Table AG-5). -/
def dieFault (active : Plan) (chk i : Nat) (r : List Byte) : Option PlanFault :=
  let b (k : Nat) : Nat := (byteAt r k).toNat
  let off (k : Nat) : Int := int8 (byteAt r k)
  match chk with
  | 4 => firstFault (([31] ++ (List.range 18).map (46 + ·)).map fun k => (b k != 0, (4, i, k, 0)))
  | 5 => firstFault ((List.range 27).map fun k =>
      (decide (off k < -96) || decide (96 < off k) || (decide (3 ≤ k) && decide (off k < off (k - 3))) ||
        decide (32 < (off k - planOffset active i k).natAbs), (5, i, k, k / 3)))
  | 6 => firstFault [(decide (b 27 < 1 ∨ 16 < b 27), (6, i, 27, 0)), (decide (b 28 < 1 ∨ 8 < b 28), (6, i, 28, 0))]
  | 7 => firstFault [(decide (b 29 < 2 ∨ 8 < b 29), (7, i, 29, 0)), (decide (b 29 < b 30), (7, i, 30, 0))]
  | 8 => firstFault [(decide (fieldAt r 32 4 < 86400 ∨ 31536000 < fieldAt r 32 4), (8, i, 32, 0))]
  | 9 => firstFault [(decide (fieldAt r 36 2 < 2000 ∨ 6000 < fieldAt r 36 2), (9, i, 36, 0)), (decide (fieldAt r 38 2 < 500 ∨ 2000 < fieldAt r 38 2), (9, i, 38, 0))]
  | 10 => firstFault ([(decide (63 < b 40), (10, i, 40, 0)), (decide (b 41 < 1 ∨ 32 < b 41), (10, i, 41, 0)), (decide (b 42 < 4 ∨ 32 < b 42), (10, i, 42, 0))]
      ++ [43, 44, 45].map fun k => (decide (off k < -32) || decide (32 < off k), (10, i, k, 0)))
  | _ => none

/-- A check from 4 to 10 over every die record. -/
def diesFault (active : Plan) (chk : Nat) (bs : List Byte) : Option PlanFault :=
  (List.range (fieldAt bs 6 2)).findSome? fun i => dieFault active chk i (dieBytes bs i)

/-- The checks of Table AG-5 in order: the first that fails. -/
def planFault (s : State) (bs : List Byte) : Option PlanFault :=
  let dies := fieldAt bs 6 2
  (firstFault [(fieldAt bs 0 4 != 0x4B504D31, (1, 0, 0, 0)), (fieldAt bs 4 2 != 1, (1, 0, 4, 0)),
    (bs.length != 64 + 64 * dies, (1, 0, 6, 0)), (fieldAt bs 60 4 != planCrc bs, (1, 0, 60, 0)),
    (dies != planDies s.variant, (2, 0, 6, 0)), (fieldAt bs 8 4 == 0 || fieldAt bs 8 4 == s.ag.active.id, (3, 0, 8, 0))])
  <|> firstFault (([18, 19] ++ (List.range 36).map (24 + ·)).map fun k => (byteAt bs k != 0, (4, 0, k, 0)))
  <|> ((List.range 7).findSome? fun c => diesFault s.ag.active (c + 4) bs)

/-- PLAN_CHECK_RESULT (09 Table AG-7). -/
def faultBytes : Option PlanFault → List Byte
  | none => List.replicate 8 0
  | some (c, i, f, b) => leBytes 1 c ++ leBytes 2 i ++ leBytes 1 f ++ leBytes 1 b ++ [0, 0, 0]

/-- Whether an apply or rollback is on its way (09 R217). -/
def planBusy (s : State) : Bool := s.ag.applying.isSome

/-- PLAN_APPLY's own rule (09 R217). -/
def planApply (s : State) : State × Status :=
  if planBusy s then (s, .busy)
  else
    let bs := s.blob U.root Obj.PLAN_STAGE
    let f := planFault s bs
    let s := s.setBlob U.root Obj.PLAN_CHECK_RESULT (faultBytes f)
    match f with
    | some _ => (record s Ev.PLAN_REFUSED U.root 0xFFFF [fieldAt bs 8 4, leNat (faultBytes f)], .range)
    | none => ({ s with ag := { s.ag with applying := some (parsePlan bs, false) } }, .pending)

/-- PLAN_ROLLBACK's own rule (09 R220). -/
def planRollback (s : State) : State × Status :=
  if planBusy s then (s, .busy)
  else match s.ag.previous with
    | none => (s, .state)
    | some p => ({ s with ag := { s.ag with applying := some (p, true) } }, .pending)

/-- The log area's plans once a new one has been written in two copies (09 R219): the pair that it replaces stays until the store record names the new
one. Copies are told apart as the record tells them, by PLAN_ID and CRC. -/
def logPlan (s : State) (p : Plan) : List (Plan × Plan) :=
  let same (x y : Plan) : Bool := x.id == y.id && x.crc == y.crc
  let kept := s.ag.planLog.filter fun q => same q.1 s.ag.active || (match s.ag.previous with
    | some x => same q.1 x
    | none => false)
  (p, p) :: kept.filter fun q => !same q.1 p

/-- The plan has reached every base die (09 R218, R219): the pair changes, running passes start again, sets may cease to be due, and the store record
follows the log area's copies. -/
def planApplied (s : State) : State :=
  match s.ag.applying with
  | none => s
  | some (p, back) =>
    let old := s.ag.active
    let s := { s with ag := { s.ag with active := p, previous := some old, applying := none, planLog := if back then s.ag.planLog else logPlan s p } }
    let s := restartPasses s
    let s := if drainRuns s then judgeSets s else s
    let s := syncRecs (s.setR Obj.PLAN_APPLIED_AT s.hm.opsec) [4]
    if back then endRun U.root Obj.PLAN_ROLLBACK .ok (record s Ev.PLAN_ROLLED_BACK U.root 0xFFFF [p.id, old.id])
    else endRun U.root Obj.PLAN_APPLY .ok (record s Ev.PLAN_APPLIED U.root 0xFFFF [p.id, old.id, p.basis])

/-! ## Wear and end of life -/

/-- Days until a rising quantity reaches a limit at its rate since the oldest record of the last 30 operating days; none where it is not
rising (09 R226). A history shorter than 30 days gives the rate over what it covers (DESIGN CHOICE, log 29). -/
def daysTo (now : Nat) (cur lim : Nat) (hist : List (Nat × Nat)) : Option Nat :=
  match (hist.filter fun p => decide (now ≤ p.1 + 2592000)).getLast? with
  | some (t0, v0) => if v0 < cur ∧ t0 < now then some ((lim - cur) * (now - t0) / (86400 * (cur - v0))) else none
  | none => none

/-- Days until a least-squares line through points (operating second, margin) falls to a level (09 R226); none where it does not fall. -/
def daysLine (now level : Nat) (pts : List (Nat × Nat)) : Option Nat :=
  let ps : List (Int × Int) := (pts.filter fun p => decide (now ≤ p.1 + 2592000)).map fun p => ((p.1 : Int) - now, (p.2 : Int))
  let n : Int := ps.length
  let sx := (ps.map (·.1)).sum
  let sy := (ps.map (·.2)).sum
  let sxx := (ps.map fun p => p.1 * p.1).sum
  let sxy := (ps.map fun p => p.1 * p.2).sum
  let dd := n * sxx - sx * sx
  let bb := n * sxy - sx * sy
  if dd ≤ 0 ∨ 0 ≤ bb then none
  else some ((sy * dd - bb * sx - (level : Int) * n * dd) / (n * (-bb)) / 86400).toNat

/-- The least of some day counts. -/
def minDays (l : List (Option Nat)) : Option Nat :=
  l.foldl (fun a b => match a, b with
    | some x, some y => some (min x y)
    | some x, none => some x
    | none, y => y) none

/-- Resets of a die's 32,768 blocks that bring its erase mean to the endurance limit. -/
def wearLimit (s : State) : Nat := 32768 * s.robj Obj.ENDURANCE_LIMIT

/-- LIFE_USED and REMAINING_DAYS of a die (09 R226). -/
def judgeDie (s : State) (g st d : Nat) : State :=
  let u := U.die (g + 1) (st + 1) (d + 1)
  let x := AMap.getD s.ag.dies u {}
  let now := s.hm.opsec
  let used := sparesUsed s u
  let life := max (10000 * x.eraseSum / wearLimit s) (10000 * used / 656)
  let days := minDays [daysTo now used 656 (x.hist.map fun h => (h.1, h.2.2)), daysTo now x.eraseSum (wearLimit s) (x.hist.map fun h => (h.1, h.2.1)),
    daysLine now (dieRec s g st d).retireMargin x.margins]
  let keep := (now, x.eraseSum, used) :: x.hist.filter fun h => decide (now ≤ h.1 + 2592000)
  let s := (s.setObj u Obj.LIFE_USED (min 65535 life)).setObj u Obj.REMAINING_DAYS (min 0xFFFFFFFF (days.getD 0xFFFFFFFF))
  { s with ag := { s.ag with dies := AMap.set s.ag.dies u { x with hist := keep } } }

/-- Resets of every die's blocks. -/
def eraseTotal (s : State) : Nat := (s.ag.dies.map fun p => p.2.eraseSum).sum
/-- Spare blocks used in a group. -/
def groupSpares (s : State) (g : Nat) : Nat := ((s.media.spares.filter fun p => field p.1 25 20 == g + 1).map (·.2)).sum

/-- The five fractions of R227 in 0.01 %, by their codes. With HOLDUP_BOL at or below 14.30 J the hold-up fraction is not stated (a free value). -/
def lifeFractions (s : State) : List (Nat × Nat) :=
  let bol := s.robj Obj.HOLDUP_BOL
  let e := s.obj U.power Obj.HOLDUP_ENERGY
  let hold := if bol ≤ 14300 then (if s.ag.bolSet then Config.unstated 3 [bol, e] % 65536 else 0) else 10000 * (bol - e) / (bol - 14300)
  let dies := planDies s.variant
  [(1, 10000 * s.hm.opsec / s.robj Obj.RATED_LIFE), (2, hold), (3, 10000 * groupSpares s 0 / 335872), (4, 10000 * groupSpares s 1 / 335872),
   (5, 10000 * eraseTotal s / (wearLimit s * dies))]

/-- MODULE_REMAINING_DAYS (09 R227). -/
def moduleDays (s : State) : Nat :=
  let now := s.hm.opsec
  let e := s.obj U.power Obj.HOLDUP_ENERGY
  let fall := s.ag.energyHist.map fun p => (p.1, 2^32 - p.2)
  (minDays [some ((s.robj Obj.RATED_LIFE - now) / 86400), daysTo now (2^32 - e) (2^32 - 14300) fall,
    daysTo now (groupSpares s 0) 335872 (s.ag.spareHist.map fun h => (h.1, h.2.1)), daysTo now (groupSpares s 1) 335872 (s.ag.spareHist.map fun h => (h.1, h.2.2)),
    daysTo now (eraseTotal s) (wearLimit s * planDies s.variant) s.ag.wearHist]).getD 0

/-- The module's own prediction (09 R227): ties go to the lower code (DESIGN CHOICE, log 29). -/
def judgeModule (s : State) : State :=
  let best := (lifeFractions s).foldl (fun (b : Nat × Nat) x => if b.2 < x.2 then x else b) (1, 10000 * s.hm.opsec / s.robj Obj.RATED_LIFE)
  let days := moduleDays s
  let now := s.hm.opsec
  let recent (t : Nat) : Bool := decide (now ≤ t + 2592000)
  let s := { s with ag := { s.ag with
    energyHist := (now, s.obj U.power Obj.HOLDUP_ENERGY) :: s.ag.energyHist.filter (fun p => recent p.1),
    spareHist := (now, groupSpares s 0, groupSpares s 1) :: s.ag.spareHist.filter (fun p => recent p.1),
    wearHist := (now, eraseTotal s) :: s.ag.wearHist.filter (fun p => recent p.1) } }
  let used := min 65535 best.2
  let s := ((s.setR Obj.MODULE_LIFE_USED used).setR Obj.LIFE_LIMITER best.1).setR Obj.MODULE_REMAINING_DAYS (min 0xFFFFFFFF days)
  if 9000 ≤ used ∧ ¬ s.ag.life90 then
    record { s with ag := { s.ag with life90 := true } } Ev.LIFE_90 U.root 0xFFFF [used, best.1, days]
  else s

end Sys2Proof.Machine
end

