-- ==== Sys2Proof/Machine/AgeCmd.lean ====
section
/-! DEFINITION. The meanings of the ageing commands (chapter 09). -/
namespace Sys2Proof.Machine
open Sys2Proof

/-- Meaning of PROOF_PASS_START (09 R212, R213): a pass of 64 samples starts, or is skipped on a die that is OFF, FAILED or ABSENT, and where memory service
does not run (DESIGN CHOICE, log 116). -/
def execProofPassStart (group : Fin 2) (stack : Fin 16) (die : Fin 32) (s : State) : Host.Outcome State Fault Refusal :=
  let u := U.die (group + 1) (stack + 1) (die + 1)
  if ¬ s.hm.running ∨ (s.variant = .p064 ∧ group = 1) ∨ ¬ firmwareOn s then .next s
  else if measSkips s u ∨ s.phase ≠ .running then .next (proofServed (s.bumpR Obj.MEAS_SKIPPED) u)
  else if AMap.has s.ag.passes u then .next s
  else .next (startPass (leaveP2 s) group stack die false)

/-- Meaning of PROOF_PASS_DONE (09 R214, R221, R222), once every sample has been read: the raw bit errors of the samples in the order they were drawn. -/
def execProofPassDone (group : Fin 2) (stack : Fin 16) (die : Fin 32) (samples : List ProofSample) (s : State) : Host.Outcome State Fault Refusal :=
  .next (match AMap.get? s.ag.passes (U.die (group + 1) (stack + 1) (die + 1)) with
    | some p => if p.confirm ∨ p.left ≠ 0 then s else proofDone s group stack die (passSamples s group stack die p samples)
    | none => s)

/-- Meaning of CONFIRM_PASS_DONE (09 R222), once every sample has been read. -/
def execConfirmPassDone (group : Fin 2) (stack : Fin 16) (die : Fin 32) (samples : List ProofSample) (s : State) : Host.Outcome State Fault Refusal :=
  .next (match AMap.get? s.ag.passes (U.die (group + 1) (stack + 1) (die + 1)) with
    | some p => if p.confirm ∧ p.left = 0 then settle (confirmDone s group stack die (passSamples s group stack die p samples)) else s
    | none => s)

/-- The dies of the variant. -/
def allDies (v : Variant) : List (Nat × Nat × Nat) :=
  ((List.range (groupCount v)).map fun g => ((List.range 16).map fun st => (List.range 32).map fun d => (g, st, d)).flatten).flatten

/-- Begin a new hour of a die's verify-loop counts (09 Table AG-1). -/
def clearLoops (s : State) (u : Nat) : State :=
  { s with ag := { s.ag with dies := AMap.upd s.ag.dies u {} fun x => { x with loops := [], loopSum := 0, loopCount := 0 } } }

/-- The records of kinds 2 and 3 of a die for the hour (09 Table AG-1, AG-2), each skipped where the die is OFF or FAILED; VERIFY_LOOPS_MEAN
and the die's end of life follow. -/
def hourDie (s : State) (g st d : Nat) : State :=
  let u := U.die (g + 1) (st + 1) (d + 1)
  let x := AMap.getD s.ag.dies u {}
  let hist := (((x.loops ++ List.replicate 16 0).take 16).map fun n => leBytes 2 (min 65535 n)).flatten ++ leBytes 4 x.loopCount
  let s := measure s u fun s => appendMeas s 2 0 u 0 hist
  let s := measure s u fun s => appendMeas s 3 0 u 0 (leBytes 4 (x.eraseSum / 32768) ++ leBytes 4 (s.obj u Obj.ERASE_MAX) ++ leBytes 2 (sparesUsed s u))
  let s := s.setObj u Obj.VERIFY_LOOPS_MEAN (if x.loopCount = 0 then 0 else min 65535 (x.loopSum * 100 / x.loopCount))
  judgeDie (clearLoops s u) g st d

/-- The unit of a power stage of Table TH-1: rails 1 to 15, then the input phases and the converter on /3. -/
def stageUnit (i : Nat) : Nat := if i < 15 then U.rail (i + 1) else U.power

/-- Whether a power stage is off, so that its measurement is skipped (09 R212): a rail by its own state, an input phase once it is lost, the converter with
V_HOLD. -/
def stageSkips (s : State) (i : Nat) : Bool :=
  if i < 15 then measSkips s (stageUnit i) else if i < 17 then s.pw.lostPhases.contains (i - 14) else !railOn s 17

/-- Meaning of HOURLY_MEASUREMENT (09 R212, R226, R227). A power stage without a sample in the hour is skipped. -/
def execHourlyMeasurement (s : State) : Host.Outcome State Fault Refusal :=
  if ¬ s.hm.running then .next s
  else
    let s := (allDies s.variant).foldl (fun s x => hourDie s x.1 x.2.1 x.2.2) s
    let corr (k : Nat) : Nat := AMap.getD s.ag.corrHour k 0
    let s := (List.range 128).foldl (fun s k => measure s (U.hbmStack (k / 16 + 1)) fun s => appendMeas s 6 (k % 16 + 1) (U.hbmStack (k / 16 + 1)) 0 (leBytes 4 (corr k))) s
    let s := (List.range 256).foldl (fun s k => measure s U.ctl fun s => appendMeas s 6 k U.ctl 0 (leBytes 4 (corr (1024 + k)))) s
    let s := (List.range 18).foldl (fun s i =>
      match AMap.get? s.ag.effSum i with
      | some (n, e, p) => if n = 0 then s.bumpR Obj.MEAS_SKIPPED else appendMeas s 7 0 (stageUnit i) 0 (leBytes 2 (e / n) ++ leBytes 4 (p / n))
      | none => s.bumpR Obj.MEAS_SKIPPED) s
    let s := { s with ag := { s.ag with corrHour := [], effSum := [] } }
    .next (judgeModule s)

/-- Whether a unit has lanes: a host port, a media stack or a network port (09 Table AG-1). -/
def hasLanes (u : Nat) : Bool :=
  match unitType u with
  | .hostPort | .stack | .netPort => true
  | _ => false

/-- Meaning of EYE_MARGIN_MEASUREMENT (09 R212): the timing and voltage margins of each side of a lane's eye. -/
def execEyeMarginMeasurement (unit : BitVec 32) (lane : BitVec 16) (timing1 : BitVec 16) (voltage1 : BitVec 16) (timing2 : BitVec 16) (voltage2 : BitVec 16) (s : State) :
    Host.Outcome State Fault Refusal :=
  let u := unit.toNat
  let ok : Bool := match expandPath s.variant u with
    | .ok [v] => v == u && hasLanes u
    | _ => false
  if ok ∧ s.hm.running then
    let bytes := ([timing1, voltage1, timing2, voltage2].map fun v => leBytes 2 v.toNat).flatten
    .next (measure s u fun s => appendMeas s 5 lane.toNat u 0 bytes)
  else .next s

/-- Meaning of EFFICIENCY_SAMPLE (09 R212): output over input power in 0.01 %; with no input power the ratio is not stated (a free value). -/
def execEfficiencySample (rail : Fin 18) (outMw : BitVec 32) (inMw : BitVec 32) (s : State) : Host.Outcome State Fault Refusal :=
  if ¬ s.hm.running then .next s
  else
    let e := if inMw = 0 then Config.unstated 4 [rail, outMw.toNat] % 65536 else min 65535 (10000 * outMw.toNat / inMw.toNat)
    .next (if stageSkips s rail then s.bumpR Obj.MEAS_SKIPPED else
      { s with ag := { s.ag with effSum := AMap.upd s.ag.effSum rail (0, 0, 0) fun x => (x.1 + 1, x.2.1 + e, x.2.2 + inMw.toNat) } })

/-- PROOF_NOW's own rule (09 R212, R228): every die at or below the unit is owed a pass. -/
def proofNow (c : KCtx) (s : State) : State × Status :=
  let dies := ((allDies s.variant).map fun x => U.die (x.1 + 1) (x.2.1 + 1) (x.2.2 + 1)).filter fun d => unitUnder d c.unit
  let skip := dies.filter (measSkips s)
  let go := dies.filter fun d => !measSkips s d
  let s := s.bumpN U.root Obj.MEAS_SKIPPED skip.length
  if go.isEmpty then (s, .ok) else ({ s with ag := { s.ag with proofNow := AMap.set s.ag.proofNow c.unit go } }, .pending)

/-- What PROOF_NOW does as a run (09 R228). -/
def proofNowEffect : KEffect := runCommand false (fun _ => false) fun c _ s => proofNow c s

/-- Meaning of PROOF_NOW (09 R228). -/
def execProofNow (req : KReq) (arg : BitVec 32) (s : State) : Host.Outcome State Fault Refusal :=
  .next (kdpObject req (.proofNow req arg) 0x1706 (.exec arg.toNat) proofNowEffect s)

/-- Meaning of AGE_EXPORT (09 R215). -/
def execAgeExport (req : KReq) (s : State) : Host.Outcome State Fault Refusal :=
  .next (kdpObject req (.ageExport req) 0x1707 .read plainWrite s)

/-- What PLAN_APPLY does as a run (09 R217). -/
def planApplyEffect : KEffect := runCommand false (fun _ => false) fun _ _ s => planApply s

/-- Meaning of PLAN_APPLY (09 R217). -/
def execPlanApply (req : KReq) (arg : BitVec 32) (s : State) : Host.Outcome State Fault Refusal :=
  .next (kdpObject req (.planApply req arg) 0x1701 (.exec arg.toNat) planApplyEffect s)

/-- Meaning of PLAN_APPLIED (09 R218). -/
def execPlanApplied (s : State) : Host.Outcome State Fault Refusal := .next (planApplied s)

/-- What PLAN_ROLLBACK does as a run (09 R220). -/
def planRollbackEffect : KEffect := runCommand false (fun _ => false) fun _ _ s => planRollback s

/-- Meaning of PLAN_ROLLBACK (09 R220). -/
def execPlanRollback (req : KReq) (arg : BitVec 32) (s : State) : Host.Outcome State Fault Refusal :=
  .next (kdpObject req (.planRollback req arg) 0x1702 (.exec arg.toNat) planRollbackEffect s)

end Sys2Proof.Machine
end

