-- ==== Sys2Proof/Machine/ProtCmd.lean ====
section
/-! DEFINITION. The meanings of the data-protection commands but for the integrity halt's (chapter 10): scrubs, keys and protected
ranges. -/
namespace Sys2Proof.Machine
open Sys2Proof

/-! ## Scrubs -/

/-- The bytes of HBM (10 R246). -/
def hbmBytes : Nat := 288 * 2^30

/-- Whether a scrub's range is one that its target has (10 R246). A start outside it is refused with RANGE (DEDUCED, log 30). -/
def scrubRangeOk (s : State) (target base size : Nat) : Bool :=
  if target = 1 then decide (base % 64 = 0) && decide (size % 64 = 0) && decide (base + size ≤ hbmBytes)
  else if target = 3 then decide (base % 4096 = 0) && decide (size % 4096 = 0) && decide (base + size ≤ capacityBytes s)
  else true

/-- SCRUB_START's own rule (10 R246). -/
def scrubStart (c : KCtx) (_ : Nat) (s : State) : State × Status :=
  let target := s.robj Obj.SCRUB_TARGET
  let base := s.robj Obj.SCRUB_BASE
  let size := s.robj Obj.SCRUB_SIZE
  if s.dp.scrub.isSome ∨ blockInReset s 4 then (s, .busy)
  else if !scrubRangeOk s target base size then (s, .range)
  else
    let x : Scrub := { target := target, base := base, size := size, started := s.hm.opsec, startedNow := s.now, unit := c.unit }
    let s := leaveP2 s
    ({ s with dp := { s.dp with scrub := some x } }.setR Obj.SCRUB_STATE 1, .ok)

/-- What SCRUB_START does as a run (10 R246). -/
def scrubStartEffect : KEffect := runCommand true (fun _ => false) scrubStart

/-- Meaning of SCRUB_START (10 R246). -/
def execScrubStart (req : KReq) (arg : BitVec 32) (s : State) : Host.Outcome State Fault Refusal :=
  .next (kdpObject req (.scrubStart req arg) 0x180B (.exec arg.toNat) scrubStartEffect s)

/-- Read one unit of a scrub that holds an error: it counts and is handled as at any other read (10 R230, R231, R246, 08 R208). -/
def scrubMeets (s : State) (x : ScrubErr) : State :=
  match x with
  | .array line _ e => meetErrors s line [e]
  | .sector pn sec rung =>
    match mapGet s pn with
    | none => s
    | some ppn =>
      let r : MediaRead := { id := s.ml.nextRead, why := .scrub, pn := pn, sector := sec, ppn := ppn, page := AMap.get? s.media.store ppn }
      let s := ((List.range rung.val).filter (· < 3)).foldl (fun s i => reachRung s { r with rung := i } (i + 1)) s
      if rung = 4 then poisonRead s { r with rung := 3 }
      else (s.bumpR Obj.MEDIA_CORRECTED).bump (ppnDiePath ppn) Obj.ERR_CORRECTED

/-- The pages of a media scrub: mapped, not erased, of its range (10 R246). -/
def scrubPages (s : State) (x : Scrub) : List StoredPage :=
  (s.media.map.filter fun p => decide (x.base ≤ p.1 * 4096 ∧ p.1 * 4096 < x.base + x.size)).filterMap fun p =>
    match AMap.get? s.media.store p.2 with
    | some pg => if sectorErased s pg then none else some pg
    | none => none

/-- SCRUB_SUMMARY (10 Table DP-7). -/
def scrubSummary (x : Scrub) (st elapsed units corr unc poisoned firstBad : Nat) : List Byte :=
  leBytes 1 x.target ++ leBytes 1 st ++ leBytes 2 0 ++ leBytes 4 elapsed ++ leBytes 6 x.started ++ leBytes 2 0 ++ leBytes 8 units
    ++ leBytes 8 corr ++ leBytes 8 unc ++ leBytes 8 poisoned ++ leBytes 8 firstBad

/-- A scrub ends at the end of its range or at SCRUB_ABORT, with what it found (10 R246). The units and poisoned lines of a finished media
scrub, and the units of a finished HBM scrub, follow from its range; those of others are as reported. -/
def endScrub (s : State) (x : Scrub) (st : Nat) (f : ScrubFound) : State :=
  let pages := if x.target = 3 then scrubPages s x else []
  let whole := decide (st = 2)
  let units := if whole ∧ x.target = 3 then 8 * pages.length else if whole ∧ x.target = 1 then x.size / 32 else f.unitsRead
  let poisoned := if whole ∧ x.target = 3 then (pages.map fun p => (p.lines.filter fun l => l.2.mark == 1 || l.2.mark == 3).length).sum else f.poisoned
  let s := f.errs.foldl scrubMeets { s with dp := { s.dp with scrub := none } }
  let bad := f.errs.filter ScrubErr.bad
  let corr := f.errs.length - bad.length
  let first := match bad with
    | b :: _ => b.place
    | [] => 2^64 - 1
  let s := (s.setR Obj.SCRUB_STATE st).setBlob U.root Obj.SCRUB_SUMMARY (scrubSummary x st (usBetween x.startedNow s.now / 1000) units corr bad.length poisoned first)
  record s Ev.SCRUB_DONE U.root 0xFFFF [x.target, units, corr, bad.length, poisoned]

/-- What SCRUB_ABORT does as a run (10 R246): the running scrub ends with what it has found; with none running nothing changes. -/
def scrubAbortEffect (found : ScrubFound) : KEffect := runCommand false (fun _ => false) fun _ _ s =>
  match s.dp.scrub with
  | some x => (endScrub s x 3 found, .ok)
  | none => (s, .ok)

/-- Meaning of SCRUB_ABORT (10 R246). -/
def execScrubAbort (req : KReq) (arg : BitVec 32) (found : ScrubFound) (s : State) : Host.Outcome State Fault Refusal :=
  .next (settle (kdpObject req (.scrubAbort req arg found) 0x180C (.exec arg.toNat) (scrubAbortEffect found) s))

/-- Meaning of SCRUB_DONE (10 R246): the scrub's range is done; or a sector of a media scrub fails its tag, which halts the module with
cause SCRUB (R243). -/
def execScrubDone (found : ScrubFound) (tagFail : Option (Nat × Fin 8)) (s : State) : Host.Outcome State Fault Refusal :=
  .next (match s.dp.scrub with
    | none => s
    | some x => match tagFail with
      | none => settle (endScrub s x 2 found)
      | some (pn, sec) =>
        match mapGet s pn with
        | some ppn =>
          if x.target = 3 then
            let s := found.errs.foldl scrubMeets s
            settle (haltIntegrity s (readFailure { id := 0, why := .scrub, pn := pn, sector := sec, ppn := ppn, page := AMap.get? s.media.store ppn } 5))
          else s
        | none => s)

/-- A scrub ended by a reset or a power failure (10 R246): ABORTED with a zero summary, and not resumed. -/
def abortScrub (s : State) : State :=
  match s.dp.scrub with
  | none => s
  | some x =>
    let s := ({ s with dp := { s.dp with scrub := none } }.setR Obj.SCRUB_STATE 3).setBlob U.root Obj.SCRUB_SUMMARY (List.replicate 56 0)
    record s Ev.SCRUB_DONE U.root 0xFFFF [x.target, 0, 0, 0, 0]

/-- CUSTODIAN_KEY's own rule (10 R240): the key is stored, CUSTODIAN_CHECK follows it, and every domain key is wrapped again. -/
def custodianRule : KEffect := fun _ v s =>
  match v with
  | .bytes bs =>
    let k := BitVec.ofNat 256 (beNat bs)
    let s := { s with dp := { s.dp with custodian := some k } }
    (syncRecs (s.setR Obj.CUSTODIAN_CHECK ((Config.sha256 (beBytes 32 k.toNat)).toNat / 2^224)) [11, 12], .ok)
  | .num _ => (s, .range)

/-- Meaning of CUSTODIAN_KEY (10 R240). -/
def execCustodianKey (req : KReq) (key : BitVec 256) (s : State) : Host.Outcome State Fault Refusal :=
  .next (kdpObject req (.custodianKey req key) 0x1810 (.write (.bytes (beBytes 32 key.toNat))) custodianRule s)

/-- KEY_ROTATE's own rule (10 R238). -/
def keyRotate (c : KCtx) (_ : Nat) (s : State) : State × Status :=
  let r := c.sub
  let st := s.robj (Obj.KEY_STATE + r)
  if st = 2 then (s, .busy)
  else if st = 0 then (s, .state)
  else
    let old := AMap.getD s.dp.doms r {}
    let (n, s) := drawKey s
    let s := (putDom s r { cur := some n, prev := old.cur, since := s.hm.opsec }).setR (Obj.KEY_STATE + r) 2
    let s := syncRecs (s.setR (Obj.KEY_START_SEQ + r) s.dp.wseq) [11, 12]
    (rekeyNext (record s Ev.KEY_ROTATED U.root 0xFFFF [r, s.dp.wseq]) r, .ok)

/-- What KEY_ROTATE does as a run (10 R238). -/
def keyRotateEffect : KEffect := runCommand true (fun _ => false) keyRotate

/-- Meaning of KEY_ROTATE (10 R238). -/
def execKeyRotate (req : KReq) (arg : BitVec 32) (s : State) : Host.Outcome State Fault Refusal :=
  .next (settle (kdpObject req (.keyRotate req arg) 0x1813 (.exec arg.toNat) keyRotateEffect s))

/-- Whether a domain's rekey pass has scanned and rewritten all it has to (10 R238). -/
def rekeyFinished (s : State) (r : Nat) : Bool :=
  let x := AMap.getD s.dp.doms r {}
  s.robj (Obj.KEY_STATE + r) == 2 && !s.media.map.any (fun p => decide (x.pos ≤ p.1)) &&
    !s.ml.reads.any (fun q => q.why == .rekeyScan && q.lighter == r) &&
    !s.media.map.any (fun p => rekeyOwed s p.1 p.2 && (match AMap.get? s.media.store p.2 with
      | some pg => pg.domain == r
      | none => false))

/-- Meaning of REKEY_DONE (10 R238): the pass has ended; the previous key is destroyed and the domain is ACTIVE again. -/
def execRekeyDone (domain : Fin 64) (s : State) : Host.Outcome State Fault Refusal :=
  let r := domain.val + 1
  if !rekeyFinished s r then .next s
  else
    let x := AMap.getD s.dp.doms r {}
    let s := (putDom (destroyKey s x.prev) r { x with prev := none }).setR (Obj.KEY_STATE + r) 1
    .next (record (syncRecs s [11, 12]) Ev.REKEY_DONE U.root 0xFFFF [r, x.rewritten, s.hm.opsec - x.since])

/-- Drop the staged lines, stale markers and combining-buffer entries of a page (10 R239 step 3). A marker's lines count in STALE_LINES
until they are rewritten or discarded. -/
def dropStaged (s : State) (pn : PageNo) : State :=
  let before := pageStaged s pn
  let marks := ((s.wharf.markers.filter fun p => pageOfSector p.1 == pn && !p.2.hidden).map fun p => ((List.range 8).filter (bitOf p.2.mask)).map (p.1 * 8 + ·)).flatten
  let kept := marks.filter fun l => !s.dp.staleKept.contains l
  let es := s.wharf.entries.filter fun p => pageOfLine p.1 != pn
  let ms := s.wharf.markers.filter fun p => pageOfSector p.1 != pn
  let cb := s.mc.cb.filter fun p => pageOfLine p.1 != pn
  let s := { s with dp := { s.dp with staleKept := kept ++ s.dp.staleKept }, wharf := { s.wharf with entries := es, markers := ms }, mc := { s.mc with cb := cb } }
  let s := cancelDescs (indexChange before pn s) pn
  if s.wharf.pinned.contains pn then unpin s pn else s

/-- Cancel the rekey copies of a domain whose programs have not begun, and end its scan (10 R239 step 1). -/
def stopRekey (s : State) (r : Nat) : State :=
  let mine (d : PageDesc) : Bool := d.rekey && ((d.srcPpn.bind fun p => AMap.get? s.media.store p).any fun p => p.domain == r)
  let stop (l : Lighter) (d : PageDesc) : PageDesc :=
    if mine d ∧ ¬ d.committed ∧ ¬ (l.state = 2 ∧ bitOf l.programming (d.place / 4)) then { d with cancelled := true } else d
  let s := setLighters s (s.wharf.lighters.map fun l => { l with pages := l.pages.map (stop l) })
  let reads := s.ml.reads.filter fun q => !(q.why == .rekeyScan && q.lighter == r)
  { s with ml := { s.ml with reads := reads } }

/-- Sectors leave the page read cache (10 R239). -/
def dropPlates (s : State) (p : SectorNo → Bool) : State :=
  { s with media := { s.media with pcache := s.media.pcache.filter fun q => !p q.1 } }

/-- KEY_DESTROY's own rule (10 R239). -/
def keyDestroy (c : KCtx) (_ : Nat) (s : State) : State × Status :=
  let r := c.sub
  if regionDecoders s r ≠ 0 ∨ s.robj (Obj.KEY_STATE + r) = 0 then (s, .state)
  else
    let x := AMap.getD s.dp.doms r {}
    let g := getRegion s r
    let s := stopRekey (destroyKey (destroyKey s x.cur) x.prev) r
    let e := s.dp.wseq
    let s := ((putDom s r {}).setR (Obj.KEY_STATE + r) 0).setR (Obj.KEY_ERASE_SEQ + r) e
    let inside (y : SectorNo) : Bool := decide (g.mode ≠ 0 ∧ g.base ≤ y * 512 ∧ y * 512 < g.base + g.size)
    let s := (regionPages s r).eraseDups.foldl dropStaged s
    let s := dropPlates (hcDrop s inside) inside
    let s := if g.mode ≠ 0 then createDomain s r else syncRecs s [11, 12]
    let s := record s Ev.KEY_DESTROYED U.root 0xFFFF [r, e]
    (settle (settleLevel s), .ok)

/-- What KEY_DESTROY does as a run (10 R239). -/
def keyDestroyEffect : KEffect := runCommand false (fun _ => false) keyDestroy

/-- Meaning of KEY_DESTROY (10 R239). -/
def execKeyDestroy (req : KReq) (arg : BitVec 32) (s : State) : Host.Outcome State Fault Refusal :=
  .next (kdpObject req (.keyDestroy req arg) 0x1814 (.exec arg.toNat) keyDestroyEffect s)

/-! ## Protected ranges -/

/-- PROT_APPLY's own rule (10 R247). -/
def protApply (c : KCtx) (_ : Nat) (s : State) : State × Status :=
  let i := c.sub
  let base := s.robj (Obj.PROT_BASE + i)
  let size := s.robj (Obj.PROT_SIZE + i)
  if size = 0 then (configChanged { s with dp := { s.dp with protApplied := AMap.del s.dp.protApplied i } }, .ok)
  else if base % 4096 ≠ 0 ∨ size % 4096 ≠ 0 then (s, .range)
  else if base + size ≤ capacityBytes s ∨ (berthBase ≤ base ∧ base + size ≤ berthBase + 0x10000000) then
    (configChanged { s with dp := { s.dp with protApplied := AMap.set s.dp.protApplied i (base, size) } }, .ok)
  else (s, .range)

/-- What PROT_APPLY does as a run (10 R247). -/
def protApplyEffect : KEffect := runCommand false (fun _ => false) protApply

/-- Meaning of PROT_APPLY (10 R247). -/
def execProtApply (req : KReq) (arg : BitVec 32) (s : State) : Host.Outcome State Fault Refusal :=
  .next (kdpObject req (.protApply req arg) 0x1842 (.exec arg.toNat) protApplyEffect s)

end Sys2Proof.Machine
end

