-- ==== Sys2Proof/Machine/PowerOps.lean ====
section
/-! DEFINITION. Operations of power (chapter 11): rails and banks, the loss of what is volatile, taking a dump, a power failure or
critical shutdown in each state, and its end. -/
namespace Sys2Proof.Machine
open Sys2Proof

/-! ## Units -/

/-- Every unit of the variant: all of them can change state with the module's. -/
def allUnits (v : Variant) : List Nat :=
  let stks := ((List.range (groupCount v)).map fun g => (List.range 16).map fun st => (g + 1, st + 1)).flatten
  [U.root, U.ctl, U.hm, U.power, U.media, U.ports, U.net, U.hbm] ++ (List.range 18).map (fun i => U.rail (i + 1))
    ++ (List.range (groupCount v)).map (fun g => U.group (g + 1)) ++ (List.range 16).map (fun i => U.port (i + 1)) ++ [U.netPort 1, U.netPort 2]
    ++ (List.range 8).map (fun i => U.hbmStack (i + 1)) ++ stks.map (fun p => U.stack p.1 p.2)
    ++ (stks.map fun p => (List.range 32).map fun d => U.die p.1 p.2 (d + 1)).flatten

/-- Count the changes of UNIT_STATE that a change of the whole module brings (15 R345). -/
def trackAll (s0 s : State) : State := track (allUnits s.variant) s0 s

/-! ## Rails and banks -/

/-- The rails of the variant. -/
def fittedRails (v : Variant) : List Nat := ((List.range 18).map (· + 1)).filter (railFitted v)
/-- Up step of a rail (11 Table PW-1). -/
def upStep (n : Nat) : Nat := [3, 4, 5, 6, 7, 8, 9, 11, 10, 11, 10, 11, 10, 11, 10, 1, 2, 0].getD (n - 1) 0
/-- The rails of a step that a start turns on: a bank that BANK_ENABLE keeps off stays off. -/
def stepRails (s : State) (step : Nat) : List Nat :=
  (fittedRails s.variant).filter fun n => upStep n == step && !(decide (8 ≤ n ∧ n ≤ 15) && s.obj U.power (Obj.BANK_ENABLE + (n - 8) / 2 + 1) == 0)
/-- The two rails of a bank: 3.3 V and 1.2 V. -/
def bankRails (b : Nat) : List Nat := [8 + 2 * b, 9 + 2 * b]
/-- The bank of a media rail. -/
def railBank (n : Nat) : Option Nat := if 8 ≤ n ∧ n ≤ 15 then some ((n - 8) / 2) else none
/-- The stacks of a bank, group and stack index (11 R255). -/
def bankStacks (b : Nat) : List (Nat × Nat) := (List.range 8).map fun i => (b / 2, b % 2 * 8 + i)
/-- BANK_STATE of a bank: 0 on, 1 retrying, 2 stopping, 3 off, 4 ENABLE_PENDING. -/
def bankState (s : State) (b : Nat) : Nat := s.obj U.power (Obj.BANK_STATE + b + 1)
/-- Set BANK_STATE. -/
def setBankState (s : State) (b v : Nat) : State := s.setObj U.power (Obj.BANK_STATE + b + 1) v
/-- Whether a bank is fitted. -/
def bankFitted (s : State) (b : Nat) : Bool := decide (b < bankCount s)
/-- Units whose state a bank's change can move. -/
def bankUnits (b : Nat) : List Nat :=
  let stks := (bankStacks b).map fun p => U.stack (p.1 + 1) (p.2 + 1)
  (bankRails b).map U.rail ++ stks ++ ((bankStacks b).map fun p => (List.range 32).map fun d => U.die (p.1 + 1) (p.2 + 1) (d + 1)).flatten
    ++ [U.group (b / 2 + 1), U.media, U.power, U.root]

/-- Stacks leave service, their bank or load switch off (11 R260): what runs on them is lost as a dead member's is, but nothing is marked
on the media. -/
def stacksAway (s : State) (l : List (Nat × Nat)) : State :=
  let us := (l.map fun p => U.stack (p.1 + 1) (p.2 + 1)).filter fun u => !s.media.offStacks.contains u
  let s := { s with media := { s.media with offStacks := s.media.offStacks ++ us } }
  if s.phase = .running then settle (settleLost (holdRebuilds (degradeReads (voidDeadPlates (voidDeadPlates s 0) 1)))) else s

/-- The stacks whose bank is not on, or whose load switch is off (11 R255, R260). -/
def stacksNotOn (s : State) : List Nat :=
  let banks := (List.range (bankCount s)).filter fun b => bankState s b ≠ 0
  let off := (banks.map fun b => (bankStacks b).map fun p => U.stack (p.1 + 1) (p.2 + 1)).flatten
  off ++ s.pw.switchOff.filter fun u => !off.contains u

/-- The stacks that are out of service where no loopback runs: those not powered, and those whose links have not trained (11 R260). -/
def stacksOut (s : State) : List Nat :=
  let off := stacksNotOn s
  let link := (s.pw.bankLink.map fun b => (bankStacks b).map fun p => U.stack (p.1 + 1) (p.2 + 1)).flatten
  off ++ link.filter fun u => !off.contains u

/-- Stacks return to service (11 R260), where nothing else keeps them out: copies that left their lighters, rekey scans and confirmatory passes that waited
start again. -/
def stacksBack (s : State) (l : List (Nat × Nat)) : State :=
  let us := (l.map fun p => U.stack (p.1 + 1) (p.2 + 1)).filter fun u => !(stacksOut s).contains u && !AMap.has s.ts.loops u
  let s := { s with media := { s.media with offStacks := s.media.offStacks.filter fun u => !us.contains u } }
  if s.phase = .running then
    let s := resumeRekeys (reissueCopies s)
    settle (resumeConfirms s)
  else s

/-- Turn off both rails of a bank in shutdown order (11 R263), the bank reading a state meanwhile. -/
def bankOff (s : State) (b st : Nat) : State :=
  let s := { s with pw := { s.pw with railsUp := s.pw.railsUp.filter (fun n => !(bankRails b).contains n), bankLink := s.pw.bankLink.filter (· != b) } }
  let us := (bankStacks b).map fun p => U.stack (p.1 + 1) (p.2 + 1)
  let s := us.foldl abortStackTest (us.foldl abortLoop s)
  stacksAway (setBankState s b st) (bankStacks b)

/-- Turn a bank on: its rails are up, with them the load switches that a fault had turned off, and its links train (11 R260, R261). -/
def bankOn (s : State) (b : Nat) : State :=
  let sw := (bankStacks b).map fun p => U.stack (p.1 + 1) (p.2 + 1)
  let s := { s with pw := { s.pw with switchOff := s.pw.switchOff.filter fun u => !sw.contains u, retryWait := s.pw.retryWait.filter fun u => !sw.contains u } }
  setBankState { s with pw := { s.pw with railsUp := s.pw.railsUp ++ bankRails b, bankLink := b :: s.pw.bankLink.filter (· != b) } } b 0

/-- FLUSH_AREA_PENDING (11 Table PW-11): the state of each buffer in a byte, and the banks that are off as a mask (the places are the model's own, log 53). -/
def notePending (s : State) : State :=
  let st (b : Nat) : Nat := s.obj U.power (Obj.FLUSH_BUFFER_STATE + b)
  let off := (List.range (bankCount s)).foldl (fun a b => if bankState s b = 0 then a else setBit a b true) 0
  recordHm { s with pw := { s.pw with pendingNoted := true } } Ev.FLUSH_AREA_PENDING U.power 0xFFFF [st 1 + 256 * st 2, off]

/-- Log FLUSH_AREA_PENDING where a hold of bulk and berth writes begins, and note its end (11 R271). -/
def settleFlushArea (s : State) : State :=
  let blocked := s.phase == .running && dumpBlocked s
  if blocked = s.pw.pendingNoted then s
  else if blocked then notePending s
  else settle (releaseBerth { s with pw := { s.pw with pendingNoted := false } })

/-! ## What is lost -/

/-- Scalar registers returned to their defaults on every unit. -/
def clearObjs (p : Nat → Bool) (s : State) : State := { s with objs := s.objs.filter fun q => !p (q.1 % 2^24) }

/-- Whether an object says what a port does now (02 Table HP-11). -/
def portNow (o : Nat) : Bool :=
  (decide (o / 256 = 0x1008) || decide (o / 256 = 0x1009) || decide (o / 256 = 0x100A) || decide (o = 0x100001) || decide (o = 0x100101) || decide (o = 0x101101))

/-- Ports as their reset leaves them, their links down (12 Table CS-3): the pins and the far ends stand as they are. The pending bifurcation and
attachment take effect at a cold start alone (`cold`; 02 R28, Table HP-11). -/
def resetPorts (cold : Bool) (s : State) : State :=
  let now (n : Nat) : Nat := preg s n Obj.BIFURCATE_NOW
  let s := clearObjs portNow s
  let one (s : State) (n : Nat) : State :=
    let p := getPort s n
    let s := putPort s n { farEnd := p.farEnd, rstLow := p.rstLow, attachNow := if cold then preg s n Obj.ATTACH_MODE else p.attachNow }
    let s := s.setObj (U.port n) Obj.PORT_ENABLE_STATE (preg s n Obj.PORT_ENABLE)
    if n % 2 = 1 then s.setObj (U.port n) Obj.BIFURCATE_NOW (if cold then preg s n Obj.PORT_BIFURCATE else now n) else s
  let s := allPorts.foldl one s
  { s with hp := { s.hp with agents := [], slots := [] } }

/-- A port's addressing as it comes into use (15 R359): a static address at once, one by SLAAC or DHCPv4 when it is obtained. -/
def NetPort.enabled (n : NetPort) : NetPort :=
  if n.mode = 0 then { n with addrHeld := n.ipv6 != 0 } else { n with addrHeld := false, ipv6 := 0, ipv4 := 0 }

/-- The network ports as a reset of the management cores and of their hardware leaves them (15 R358, R359). -/
def resetNets (s : State) : State :=
  let s := clearObjs (fun o => decide (o = Obj.NET_ENABLE_STATE) || decide (o = Obj.NET_LINK)) s
  let one (s : State) (p : Nat) : State := s.setObj (U.netPort p) Obj.NET_ENABLE_STATE (s.obj (U.netPort p) Obj.NET_ENABLE)
  let s := one (one s 1) 2
  let f (p : Nat) (n : NetPort) : NetPort := ({ n with phyFault := false, offTimerDone := true, shut := false, pmd := s.obj (U.netPort p) Obj.NET_PMD } : NetPort).enabled
  { s with kdp := { s.kdp with net1 := f 1 s.kdp.net1, net2 := f 2 s.kdp.net2 } }

/-- The KDP service after a restart of the management cores (12 Table CS-3): every session, handshake and transfer is gone. The runs go on and their results
stay readable (15 R342), but no session receives a status of them. -/
def resetSessions (s : State) : State :=
  let s := { s with kdp := { s.kdp with
    sessions := [], handshakes := [], expired := [], bulk := none, bulkExpired := []
    runs := s.kdp.runs.map fun (p : Nat × Run) => (p.1, { p.2 with sid := 0, owed := [], merged := [] }) } }
  let s := { s with recorder := { s.recorder with freezeSid := none }, ts := { s.ts with unlocker := none } }
  s.setR Obj.RECORDER_FREEZE 0

/-- The KDP service after a reset that ends the operations in progress: a run that it cuts reads STATE (DESIGN CHOICE, log 138). -/
def resetKdp (s : State) : State :=
  let s := resetSessions s
  { s with kdp := { s.kdp with runs := s.kdp.runs.map fun (p : Nat × Run) => (p.1, if p.2.status = .pending then { p.2 with status := .state } else p.2) } }

/-- The slices, the ports, the directory and the management cores lose what they hold (12 Table CS-9): berth SRAM, HBM, the media and the
stores that survive stand as they are. HC_STALE_RISK is cleared only with the registers of a power loss (05 R119, log 129). -/
def loseFabric (cold : Bool) (s : State) : State :=
  let s := resetKdp (resetNets (resetPorts cold s))
  let m := s.hc.mirror
  let s := { s with
    mc := { regions := s.mc.regions },
    dir := { downRec := s.dir.downRec, nextAcc := s.dir.nextAcc, nextId := s.dir.nextId },
    hc := { s.hc with sectors := [], plru := [], failingLogged := [], copies := [], invalidating := false, growing := none, pbuf := [], trackers := [], mirror := { bitmap := m.bitmap } },
    ml := { s.ml with reads := [], ops := [], queues := [], budget := [], overloaded := [] },
    ag := { s.ag with passes := [], applying := none, proofNow := [] },
    ts := { s.ts with loops := [], reflect := [], sramTest := none, stackTests := [], hbmTests := [], activating := 0, paused := [], staged := [] },
    wharf := { s.wharf with held := [], queueReset := [], rebuilding := [], lighters := [] } }
  let s := interruptRekeys { s with dp := { s.dp with scrub := none }, kdp := { s.kdp with runs := if cold then [] else s.kdp.runs } }
  clearObjs (fun o => decide (o = Obj.MIRROR_STATE) || decide (o = Obj.MIRROR_PORT_NOW) || decide (o = Obj.MIRROR_FAULT) || decide (o / 256 = 0x1A07)
    || (cold && decide (o = Obj.HC_STALE_RISK)) || decide (o = Obj.FINE_MODE) || decide (o = Obj.BERTH_WAYS_NOW)) s

/-- HBM loses what it holds (12 Table CS-3): the wharf, the map and its journal, the page read cache and the recorder's buffer. The staging
order and the journal's position go on, and pages of lost segments and chunks stay lost (DESIGN CHOICE, log 78). -/
def loseHbm (s : State) : State :=
  let s := { s with
    wharf := { nextSeq := s.wharf.nextSeq, nextLighter := s.wharf.nextLighter },
    media := { s.media with map := [], badMap := [], journal := [], journal2 := [], jbad := [], jwait := [], jfull := false, ckptAll := false, ckptDone := [], pcache := [], ckpt := { s.media.ckpt with seg := none } },
    recorder := { s.recorder with buffer := [], flushedTo := s.recorder.next, lostBefore := false, accepting := false, logOpen := false },
    dp := { s.dp with staleKept := [] },
    cs := { s.cs with hbmTrained := false } }
  clearObjs (fun o => decide (o = Obj.WHARF_LEVEL) || decide (o = Obj.HELD_PAGES)) s

/-- Berth SRAM and the resynchronisation bitmap are lost. -/
def loseBerth (s : State) : State :=
  { s with hc := { s.hc with berth := [], berthWays := [], mirror := { s.hc.mirror with bitmap := [] } } }

/-! ## Dumps -/

/-- The contents of flush buffer 0 or 1. -/
def getDump (s : State) (b : Nat) : Option Dump := if b = 0 then s.pw.dump0 else s.pw.dump1
/-- Change the contents of a flush buffer. -/
def putDump (s : State) (b : Nat) (d : Option Dump) : State :=
  if b = 0 then { s with pw := { s.pw with dump0 := d } } else { s with pw := { s.pw with dump1 := d } }
/-- FLUSH_BUFFER_STATE of buffer 0 or 1: 0 ERASED, 1 HOLDING, 2 ERASING. -/
def bufState (s : State) (b : Nat) : Nat := s.obj U.power (Obj.FLUSH_BUFFER_STATE + b + 1)
/-- Set FLUSH_BUFFER_STATE. -/
def setBufState (s : State) (b v : Nat) : State := s.setObj U.power (Obj.FLUSH_BUFFER_STATE + b + 1) v

/-- Stripes whose parity accumulator is live: their parity program has not begun (07 R172). -/
def openAccs (s : State) : List Nat :=
  (s.media.stripes.filter fun p => !p.2.sealed && !p.2.unprotected &&
    !(s.wharf.lighters.any fun l => l.parityPending && stripeKey (l.group - 1) l.stripe == p.1)).map (·.1)

/-- The pages that the dumped resynchronisation bitmap marks: those set, and those with records not yet acknowledged (05 R139). -/
def dumpBitmap (s : State) : List Nat :=
  let m := s.hc.mirror
  ((m.unacked ++ m.waitSend).foldl (fun s f => f.recs.foldl (fun s r => markPage s (r.line / 64)) s) s).hc.mirror.bitmap

/-- The journal tail as a dump writes it (10 R232): the first copies, a damaged one replaced from the second. -/
def tailRecords (s : State) : List JRec :=
  s.media.journal.map fun r => if s.media.jbad.contains r.jpos then (s.media.journal2.find? fun q => q.jpos == r.jpos).getD r else r

/-- A berth line as it leaves for another store (10 R233): poison widens from bytes to the whole line. -/
def BerthLine.leaves (l : BerthLine) : BerthLine := if l.poison = 0 then l else { l with poison := BitVec.allOnes 64 }

/-- What a dump holds of the stores it takes (11 R268 step 4, 06 R164): 1 wharf, 2 combining buffers, 3 journal tail, 4 accumulators, 5
berths and bitmap, 6 recorder. -/
def makeDump (s : State) (stores : List Nat) (seq cause at_ : Nat) (isSealed spill : Bool) : Dump :=
  let has (n : Nat) : Bool := stores.contains n
  { seq := seq, cause := cause, latches := b2n s.hm.latchHalted + 2 * b2n s.hm.latchDomainDown, at_ := at_, cycle := s.hm.powerCycles
    sealed := isSealed, spill := spill, stores := stores
    entries := if has 1 then s.wharf.entries else []
    markers := if has 1 then s.wharf.markers else []
    cb := if has 2 then s.mc.cb else []
    tail := if has 3 then tailRecords s else []
    jnext := s.media.jnext
    accs := if has 4 then openAccs s else []
    ways := if has 5 then s.robj Obj.BERTH_WAYS else 0
    berth := if has 5 then s.hc.berth.map (fun p => (p.1, p.2.leaves)) else []
    bitmap := if has 5 then dumpBitmap s else []
    recs := if has 6 then s.recorder.buffer.filter (fun p => decide (s.recorder.flushedTo ≤ p.1)) else []
    recNext := s.recorder.next }

/-- The buffer that a dump is written into: the first that is ERASED (11 R271), none where none is. -/
def dumpTarget (s : State) : Option Nat := if bufState s 0 = 0 then some 0 else if bufState s 1 = 0 then some 1 else none

/-- Write a dump (11 R271, R272): it takes a HOLDING buffer with the next DUMP_SEQ, and continues in the second while a bank is off and the
dump does not fit one. The number of the dump written, and its buffer. With no ERASED buffer nothing is written. -/
def captureDump (s : State) (stores : List Nat) (cause at_ mib : Nat) (isSealed : Bool) : State × Option (Nat × Nat) :=
  match dumpTarget s with
  | none => (s, none)
  | some b =>
    let seq := (s.obj U.power Obj.DUMP_SEQ_LAST + 1) % 2^32
    let away := (List.range (bankCount s)).any fun k => bankState s k ≠ 0
    let spill := away && decide (65536 < mib) && decide (bufState s (1 - b) = 0)
    let s := setBufState (putDump s b (some (makeDump s stores seq cause at_ isSealed spill))) b 1
    let s := if spill then setBufState s (1 - b) 1 else s
    let s := if isSealed then s.setObj U.power Obj.DUMP_SEQ_LAST seq else s
    (syncRec s 7, some (seq, b))

/-- LAST_FLUSH (11 Table PW-10). ENERGY is c/2 × (v0² − v1²) in mJ, fractions cut. -/
def lastFlush (s : State) (f : Flush) (buffer seq mib duration vEnd : Nat) : List Byte :=
  let c := s.obj U.power Obj.HOLDUP_C
  leBytes 1 f.cause ++ leBytes 1 buffer ++ leBytes 2 0 ++ leBytes 4 seq ++ leBytes 6 f.at_ ++ leBytes 2 0 ++ leBytes 4 mib ++ leBytes 4 duration
    ++ leBytes 2 (f.vhold / 10) ++ leBytes 2 (vEnd / 10) ++ leBytes 4 (c * (f.vhold * f.vhold - vEnd * vEnd) / 2000000000)

/-- LAST_POWER_DOWN (16 Table HM-3). -/
def lastPowerDown (s : State) (f : Flush) (result seq vEnd : Nat) : List Byte :=
  leBytes 1 f.cause ++ leBytes 1 f.state ++ leBytes 1 result ++ leBytes 1 0 ++ leBytes 6 f.at_ ++ leBytes 4 s.hm.powerCycles ++ leBytes 4 seq
    ++ leBytes 2 (f.vin / 10) ++ leBytes 2 (vEnd / 10) ++ leBytes 2 f.tempMax ++ leBytes 40 0

/-! ## Going down -/

/-- Everything volatile is gone with the rails (12 Table CS-3): the module stands in COLD or LATCHED_OFF with VDD_AON alone. -/
def railsDown (s : State) (latchedOff : Bool) : State :=
  let s := loseBerth (loseHbm (loseFabric true s))
  let s := clearObjs (fun o => decide (o = Obj.PSTATE_NOW) || decide (o = Obj.ENTRY_STATE) || decide (o = Obj.PAD_HOLD) || decide (o = Obj.FROZEN)
    || decide (o = Obj.POWER_STEP) || decide (o = Obj.CLOCK_SOURCE) || decide (o = Obj.THERM_STEP) || decide (o = Obj.THERM_REQUEST)
    || decide (o = Obj.STEP_IN_FORCE) || decide (o = Obj.THERM_ENFORCED)) s
  { s with
    phase := if latchedOff then .latchedOff else .cold
    pw := { s.pw with
      orOpen := true, discharging := false, railsUp := s.pw.railsUp.filter (· == 18), seqDone := false, attempts := [], retryWait := [], rawPg := [], bankMin := [], bankLink := [], switchOff := [], charged := false, measuring := false, recharge := false, measDue := false, deferSince := none, measured := false, replayed := false, drainedAt := none, pendingNoted := false, incomplete := false, flush := none, under := 0,
      vinRemoved := s.pw.vinRemoved && !latchedOff }
    cs := { lost1 := s.cs.lost1, lost2 := s.cs.lost2, lostAt := s.cs.lostAt, mrstLow := s.cs.mrstLow, wdTimes := s.cs.wdTimes }
    th := { sensors := s.th.sensors.filter fun p => decide (p.1 / 64 = 0 ∨ p.1 / 64 / 2^26 = 3) }
    pins := { tapIr := s.pins.tapIr, tapDrive := s.pins.tapDrive, slowLow := true, stopLow := true }
    ts := { s.ts with retryWait := false, pauseAt := 0 } }

/-- The harbourmaster's last record and its store at a power-down (11 R268 step 7, 16 R363, R369). -/
def lastRecord (s : State) (f : Flush) (result seq vEnd : Nat) : State :=
  let s := syncRec { s with hm := { s.hm with lastPd := lastPowerDown s f result seq vEnd } } 10
  storeNow (writeOpsec s)

/-- A power-down record for a detection now. -/
def mkFlush (s : State) (cause what vin vhold : Nat) (latchOff : Bool) : Flush :=
  { cause := cause, state := moduleState s, at_ := s.hm.opsec, what := what, latchOff := latchOff, vin := vin, vhold := vhold, tempMax := tempObj (tempMax s U.root) }

/-- Rails down with nothing dumped, into COLD (11 Table PW-6, 01 R25): a power-down with no flush, whose record gives cause 0 (16 Table HM-3), or THERMAL for a
critical shutdown (13 R311). -/
def downCold (s : State) (thermal : Bool) (vin vhold : Nat) : State :=
  let s := abortScrub (if s.phase = .running then addResidency s else s)
  let f := mkFlush s (if thermal then 5 else 0) 0 vin vhold false
  railsDown (lastRecord s f 1 0 vhold) false

/-- A port's SerDes are turned off (11 R268 step 2). -/
def serdesOff (s : State) (n : Nat) : State :=
  let s := (((s.setObj (U.port n) Obj.LINK_STATE 0).setObj (U.port n) Obj.RATE_NOW 0).setObj (U.port n) Obj.WIDTH_NOW 0).setObj (U.port n) Obj.FLIT_NOW 0
  putPort s n { getPort s n with degraded := false, outq := [] }

/-- Detection in memory service (11 R268 steps 1 to 3, 13 R311). -/
def beginFlush (s : State) (f : Flush) : State :=
  let s := abortTests (walkDone s)
  let s := (presentPorts s).foldl (fun s n => fencePort s n (if f.cause = 5 then 1 else 0)) s
  let s := endHostWork finishSome (abortScrub s)
  let s := allPorts.foldl serdesOff s
  let s := setPstate (addResidency s) 0
  let s := ((setFrozen s 0).setR Obj.ENTRY_STATE 0).bump U.power Obj.FLUSH_COUNT
  let s := { s with ml := { s.ml with reads := [], ops := [] }, ts := { s.ts with activating := 0 }, cs := { s.cs with p2Exit := false, wdRunning := false, reset_ := 0 }, pins := { s.pins with held := false }, recorder := { s.recorder with logOpen := false } }
  drivePins { s with phase := .flushing, pw := { s.pw with flush := some f, measuring := false } }

/-- A power failure or critical shutdown in the state it finds (11 R267, R270, Table PW-6; 13 R311): a critical shutdown in P0 to P2 leaves the ORing switches
closed. `cause`: of Table PW-7; 5 is the
critical shutdown, whose latches its caller sets. A second detection during a flush has no effect (R269). -/
def powerFailure (s0 : State) (cause vin vhold : Nat) : State :=
  let thermal := decide (cause = 5)
  let s := { s0 with pw := { s0.pw with vinGood := s0.pw.vinGood && decide (6000 ≤ vin ∧ vin ≤ 60000) } }
  let again := decide (s.phase = .flushing) || s.pw.flush.isSome
  let s := if thermal ∨ again then s else recordHm s Ev.POWER_FAIL U.power 0xFFFF [cause, vin, vhold, dirtyNow s]
  let closed := thermal && decide (s.phase = .running ∧ s.robj Obj.PSTATE_NOW < 3)
  let opened (s : State) : State := if closed then s else { s with pw := { s.pw with orOpen := true, discharging := true } }
  match s.phase with
  | .cold | .latchedOff => s
  | .sequencing | .booting | .loading => trackAll s0 (downCold (opened s) thermal vin vhold)
  | .running =>
    let p := s.robj Obj.PSTATE_NOW
    if p = 4 then trackAll s0 (downCold (opened s) thermal vin vhold)
    else
      let berthsSafe := decide (2 ≤ s.robj Obj.ENTRY_STATE ∧ s.cs.target = 4)
      let what := if p = 3 then 2 else if berthsSafe then 3 else 1
      trackAll s0 (beginFlush (opened s) (mkFlush s cause what vin vhold (thermal && decide (p < 3))))
  | .flushing => match s.pw.flush with
    | some f => { s with pw := { s.pw with flush := some { f with latchOff := f.latchOff || thermal } } }
    | none => s
  | .halted => match s.pw.flush with
    | some _ => s
    | none =>
      let x := setFrozen (abortScrub s) 0
      opened { x with pw := { x.pw with flush := some (mkFlush s cause 0 vin vhold false) } }

/-- The stores that a flush dumps. -/
def flushStores (what : Nat) : List Nat :=
  match what with
  | 1 => [1, 2, 3, 4, 5, 6]
  | 2 => [5, 6]
  | 3 => [6]
  | _ => []

/-- The end of a flush, or of a power-down from HALTED (11 R268 steps 4 to 7, R269). -/
def flushDone (s : State) (duration vEnd mib : Nat) (isSealed : Bool) : State :=
  match s.pw.flush with
  | none => s
  | some f =>
    let s0 := s
    let s := s.setObj U.power Obj.V_HOLD_NOW vEnd
    if s.phase = .halted then
      let (s, d) := if s.dp.dumpDone then (s, none) else captureDump s [1, 2, 3, 4, 5, 6] 6 s.dp.integrity.at_ mib isSealed
      let seq := match d with
        | some x => if isSealed then x.1 else 0
        | none => 0
      let result := if s.dp.dumpDone then 1 else if isSealed ∧ d.isSome then 0 else 2
      let s := { s with dp := { s.dp with dumpDone := s.dp.dumpDone || (isSealed && d.isSome) } }
      let f := { f with cause := if f.cause = 5 then 5 else if d.isSome then 6 else 0 }
      trackAll s0 (railsDown (lastRecord s f result seq vEnd) false)
    else if s.phase = .flushing then
      let (s, d) := captureDump s (flushStores f.what) f.cause f.at_ mib isSealed
      let good := isSealed && d.isSome
      let (seq, b) := d.getD (0, 0)
      let s := s.setBlob U.power Obj.LAST_FLUSH (lastFlush s f b (if good then seq else 0) mib duration vEnd)
      let s := if good then recordHm s Ev.FLUSH_DONE U.power 0xFFFF [seq, mib, duration, vEnd] else s
      trackAll s0 (railsDown (lastRecord s f (if good then 0 else 2) (if good then seq else 0) vEnd) f.latchOff)
    else s

end Sys2Proof.Machine
end

