-- ==== Sys2Proof/Machine/PowerCmd.lean ====
section
/-! DEFINITION. The meanings of the commands of power (chapter 11). -/
namespace Sys2Proof.Machine
open Sys2Proof

/-! ## Loss and return of the input -/

/-- Note the input and the hold-up bank as a detection finds them. -/
def noteVolts (s : State) (vin vhold : Nat) : State := (s.setObj U.power Obj.VIN_NOW vin).setObj U.power Obj.V_HOLD_NOW vhold

/-- Meaning of POWER_FAIL (11 R267): VIN has stayed below VIN_FAIL for 20 µs. -/
def execPowerFail (vin vhold : BitVec 32) (s : State) : Host.Outcome State Fault Refusal :=
  .next (if s.hm.running ∧ vin.toNat < vinFail s then powerFailure (noteVolts s vin.toNat vhold.toNat) 1 vin.toNat vhold.toNat else s)

/-- Meaning of PWRFAIL_N_ASSERT (11 R267, 14 R323): an accepted assertion. -/
def execPwrfailNAssert (vin vhold : BitVec 32) (s : State) : Host.Outcome State Fault Refusal :=
  .next (if s.hm.running ∧ ¬ s.pw.pwrfailLow then
    powerFailure (noteVolts { s with pw := { s.pw with pwrfailLow := true } } vin.toNat vhold.toNat) 2 vin.toNat vhold.toNat else s)

/-- Meaning of OVERVOLTAGE (11 R267): VIN has stayed above 63.0 V for 20 µs. -/
def execOvervoltage (vin vhold : BitVec 32) (s : State) : Host.Outcome State Fault Refusal :=
  .next (if s.hm.running ∧ 63000 < vin.toNat then
    powerFailure ((noteVolts s vin.toNat vhold.toNat).bump U.power Obj.OVERVOLTAGE_EVENTS) 3 vin.toNat vhold.toNat else s)

/-- Meaning of FLUSH_DONE (11 R268, R269): the microseconds from detection to seal, V_HOLD at the end, the MiB dumped, and whether the seal was
programmed and verified. -/
def execFlushDone (duration vholdEnd dumpMib : BitVec 32) (isSealed : Bool) (s : State) : Host.Outcome State Fault Refusal :=
  .next (flushDone s duration.toNat vholdEnd.toNat dumpMib.toNat isSealed)

/-- Meaning of VIN_DIP (11 R253). -/
def execVinDip (s : State) : Host.Outcome State Fault Refusal := .next (if s.hm.running then s.bump U.power Obj.VIN_DIPS else s)

/-- Meaning of VBUS_BELOW_11V (11 R253). -/
def execVbusBelow11v (s : State) : Host.Outcome State Fault Refusal :=
  .next (if railOn s 17 then { s with pw := { s.pw with discharging := true } } else s)

/-- Meaning of HOLDUP_CHARGE_RESUME (11 R253). During a flush the ORing switches stay open (R269). -/
def execHoldupChargeResume (s : State) : Host.Outcome State Fault Refusal :=
  .next (if s.pw.vinGood ∧ s.pw.flush.isNone then { s with pw := { s.pw with discharging := false } } else s)

/-- Meaning of VIN_RETURN (11 R269). -/
def execVinReturn (vin : BitVec 32) (s : State) : Host.Outcome State Fault Refusal :=
  .next (if 6000 ≤ vin.toNat ∧ vin.toNat ≤ 60000 then { s.setObj U.power Obj.VIN_NOW vin.toNat with pw := { s.pw with vinGood := true } } else s)

/-- Meaning of PWRFAIL_N_DEASSERT (11 R269, 14 R323). -/
def execPwrfailNDeassert (s : State) : Host.Outcome State Fault Refusal := .next { s with pw := { s.pw with pwrfailLow := false } }

/-! ## The power cap and the phases -/

/-- POWER_CAP in mW (11 R250), from VIN averaged over 10 ms in mV; fractions cut. Below 6.0 V the line stands at 300 W (DEDUCED, log 120). -/
def powerCap (phases vin : Nat) : Nat := min (min 700000 (300000 + (vin - 6000) * 8333 / 100)) (phases * 60 * vin)

/-- The readings and the step of a tick of the power cap (11 R250, R251). -/
def noteCap (s : State) (cap step pin under : Nat) : State :=
  let s := ((s.setObj U.power Obj.POWER_CAP_NOW cap).setObj U.power Obj.POWER_STEP step).setObj U.power Obj.PIN_NOW pin
  { s with pw := { s.pw with under := under } }

/-- Meaning of POWER_CAP_TICK (11 R250, R251): VIN averaged over the last 10 ms and input power over the last 1 ms. POWER_STEP falls at every tick
that ends 100 ms below 95 % of the cap. As it leaves 0, the accesses under way are slowed with those to come (log 114). -/
def execPowerCapTick (vinAvg10ms pin : BitVec 32) (s : State) : Host.Outcome State Fault Refusal :=
  .next (
    if railOn s 16 ∧ s.pw.flush.isNone then
      let cap := powerCap (s.obj U.power Obj.PHASES_OK) vinAvg10ms.toNat
      let step := s.obj U.power Obj.POWER_STEP
      let under := if pin.toNat * 100 < cap * 95 then min 100 (s.pw.under + 1) else 0
      let new := if cap < pin.toNat then min 16 (step + 1) else if 100 ≤ under then step - 1 else step
      let s := noteCap s cap new pin.toNat under
      if step = 0 ∧ new ≠ 0 then recordHm (delayUnderWay s 8) Ev.POWER_CAP_ON U.power 0xFFFF [vinAvg s, cap, pin.toNat] else s
    else s)

/-- Total phases of a multiphase rail, its spare included (11 Table PW-1). -/
def railPhases (n : Nat) : Nat := [11, 3, 4, 3, 5].getD (n - 1) 0

/-! ## Rail faults -/

/-- The key of what a reaction turns off: a rail's index, or a stack's path for its load switch. -/
def retryKey : RetryTarget → Nat
  | .rail n => n.val + 1
  | .switch g st => U.stack (g.val + 1) (st.val + 1)
/-- The rail whose reaction and counters apply: for a load switch, its bank's 3.3 V rail, the first of the bank's two (DESIGN CHOICE, log 54). -/
def retryRail : RetryTarget → Nat
  | .rail n => n.val + 1
  | .switch g st => 8 + 2 * bankOf g.val st.val
/-- What a bank's change leads to: the states of its units, and the hold of the flush area. -/
def bankChanged (s0 s : State) (b : Nat) : State := track (bankUnits b) s0 (settleFlushArea s)

/-- A failed sequencing attempt (01 Table AX-8): rails down, COLD, and LATCHED_OFF after the third of one input application. -/
def seqFail (s0 : State) : State :=
  let n := s0.pw.seqTries + 1
  let s := { s0 with pw := { s0.pw with seqTries := n } }
  let f := mkFlush s 0 0 (s.obj U.power Obj.VIN_NOW) (s.obj U.power Obj.V_HOLD_NOW) false
  trackAll s0 (railsDown (lastRecord s f 1 0 (s.obj U.power Obj.V_HOLD_NOW)) (decide (3 ≤ n)))

/-- GROUP_OFF (11 Table PW-4) of a bank because of a rail. What the event's cause reads the spec does not state. -/
def groupOff (s : State) (b rail : Nat) : State :=
  bankOff (recordHm s Ev.BANK_OFF U.power 0xFFFF [b + 1, rail, Config.unstated 10 [rail]]) b 2

/-- A load switch opens: its stack is unavailable (11 R255). -/
def switchOpen (s : State) (u : Nat) : State :=
  let s := { s with pw := { s.pw with switchOff := if s.pw.switchOff.contains u then s.pw.switchOff else u :: s.pw.switchOff } }
  stacksAway s [(field u 25 20 - 1, field u 19 14 - 1)]

/-- The turn-off of RETRY_RAIL, until the retry 50 ms later (11 Table PW-4): both rails of a bank, V_HOLD, or a load switch. -/
def retryOff (s : State) (t : RetryTarget) : State :=
  let s := { s with pw := { s.pw with retryWait := if s.pw.retryWait.contains (retryKey t) then s.pw.retryWait else (retryKey t) :: s.pw.retryWait } }
  match t with
  | .switch _ _ => s
  | .rail n =>
    match railBank (n.val + 1) with
    | some b => bankOff s b 1
    | none => { s with pw := { s.pw with railsUp := s.pw.railsUp.filter (· != n.val + 1), charged := false } }

/-- The last attempt of an episode has failed (11 Table PW-4, R266): a media rail goes to GROUP_OFF, a load switch stays off, and V_HOLD leaves the
bank unusable. -/
def retryExhausted (s : State) (t : RetryTarget) : State :=
  let s := { s with pw := { s.pw with retryWait := s.pw.retryWait.filter (· != (retryKey t)) } }
  match t with
  | .switch _ _ => s
  | .rail n =>
    match railBank (n.val + 1) with
    | some b => groupOff s b (n.val + 1)
    | none =>
      let s := { s with pw := { s.pw with bankDead := true, charged := false, measuring := false, railsUp := s.pw.railsUp.filter (· != n.val + 1) } }
      settle (recomputeCap (s.setObj U.power Obj.HOLDUP_ENERGY 0))

/-- The reaction to a fault (11 R259, Table PW-4). -/
def react (s : State) (t : RetryTarget) (reaction attempt : Nat) : State :=
  match reaction with
  | 0 => s
  | 1 => if 3 ≤ attempt then retryExhausted s t else retryOff s t
  | 2 => match t, railBank (retryRail t) with
    | .rail _, some b => groupOff s b (retryRail t)
    | _, _ => s
  | _ =>
    if s.phase = .sequencing then seqFail s
    else powerFailure s 4 (s.obj U.power Obj.VIN_NOW) (s.obj U.power Obj.V_HOLD_NOW)

/-- A fault of a rail is counted and logged (11 R259). -/
def noteFault (s : State) (n attempt : Nat) : State :=
  recordHm (s.bump (U.rail n) Obj.RAIL_FAULTS) Ev.RAIL_FAULT (U.rail n) 0xFFFF [n, AMap.getD s.pw.statusWords n 0, s.obj (U.rail n) Obj.RAIL_REACTION, attempt]

/-- A fault of a rail or load switch (11 R255, R259). While a flush or power-down runs it is only logged and counted (R269). -/
def railFault (s0 : State) (t : RetryTarget) : State :=
  let n := retryRail t
  let attempt := AMap.getD s0.pw.attempts (retryKey t) 0
  let reaction := s0.obj (U.rail n) Obj.RAIL_REACTION
  let s := noteFault s0 n attempt
  let s := match t with
    | .switch _ _ => switchOpen s (retryKey t)
    | .rail _ => s
  if s.phase = .flushing ∨ s.pw.flush.isSome then s
  else
    let s := react s t reaction attempt
    match railBank n with
    | some b => bankChanged s0 s b
    | none => track [U.rail n, U.power, U.root] s0 s

/-- Meaning of PHASE_LOST (11 R252): `rail` 15 is V_BUS, whose phases are the input phases. A phase of a rail without a spare is a fault of that
rail. During a flush the event of an input phase waits for the next start (11, corner cases). -/
def execPhaseLost (rail : Fin 18) (phase : Fin 11) (s : State) : Host.Outcome State Fault Refusal :=
  .next (
    let n := rail.val + 1
    let p := phase.val + 1
    if ¬ railOn s n then s
    else if n = 16 then
      if 2 < p ∨ s.pw.lostPhases.contains p then s
      else
        let s0 := s
        let s := { s with pw := { s.pw with lostPhases := p :: s.pw.lostPhases } }
        let s := (s.bump (U.rail 16) Obj.PHASES_LOST).setObj U.power Obj.PHASES_OK (s.obj U.power Obj.PHASES_OK - 1)
        let s := if s.phase = .flushing ∨ s.pw.flush.isSome then { s with pw := { s.pw with owedPhases := s.pw.owedPhases ++ [p] } }
          else recordHm s Ev.PHASE_LOST (U.rail 16) 0xFFFF [16, p, s.obj U.power Obj.PHASES_OK]
        track [U.rail 16, U.power, U.root] s0 s
    else if n ≤ 5 then
      if railPhases n ≤ s.obj (U.rail n) Obj.PHASES_LOST ∨ railPhases n < p then s
      else
        let s' := s.bump (U.rail n) Obj.PHASES_LOST
        track [U.rail n, U.power, U.root] s (recordHm s' Ev.PHASE_LOST (U.rail n) 0xFFFF [n, p, s.obj U.power Obj.PHASES_OK])
    else if n ≤ 15 then railFault (s.bump (U.rail n) Obj.PHASES_LOST) (.rail rail)
    else s)

/-! ## PMBus -/

/-- Whether a rail is fitted (00 Table SC-1) and its devices all answer. -/
def railReached (s : State) (n : Nat) : Bool := railFitted s.variant n && !(railDevices n).any fun d => s.pw.unreachable.contains d
/-- Whether a PMBus device is fitted: the KLR-P064 has no sequencers S3 and S4 (00 Table SC-1, 11 R254). -/
def deviceFitted (v : Variant) (d : Nat) : Bool := !(v == .p064 && (d == 0x43 || d == 0x44))
/-- A device has answered, so the transaction's failures so far count no longer. -/
def pmAnswered (s : State) (n : Nat) : State :=
  { s with pw := { s.pw with pmTries := (railDevices n).foldl (fun m d => AMap.del m d) s.pw.pmTries } }

/-- Meaning of PMBUS_POLL (11 R257): STATUS_WORD of each rail read. -/
def execPmbusPoll (words : List (Fin 18 × BitVec 16)) (s : State) : Host.Outcome State Fault Refusal :=
  .next (if s.hm.running then
    words.foldl (fun s w => if railReached s (w.1.val + 1) then
      pmAnswered { s with pw := { s.pw with statusWords := AMap.set s.pw.statusWords (w.1.val + 1) w.2.toNat } } (w.1.val + 1) else s) s
    else s)

/-- A rail's telemetry (11 R257): a reading outside its plausibility window is discarded, and the third in succession marks the reading FAILED, which
lasts until the next cold start (DESIGN CHOICE, log 55). -/
def takeReading (s : State) (r : RailReading) : State :=
  let n := r.rail.val + 1
  if ¬ railReached s n ∨ s.pw.failedReads.contains n then s
  else
    let s := pmAnswered s n
    if r.plausible then
      let s := (s.setObj (U.rail n) Obj.RAIL_VOUT r.vout.toNat).setObj (U.rail n) Obj.RAIL_IOUT r.iout.toNat
      { s with pw := { s.pw with badReads := AMap.del s.pw.badReads n } }
    else
      let k := AMap.getD s.pw.badReads n 0 + 1
      if 3 ≤ k then { s with pw := { s.pw with badReads := AMap.del s.pw.badReads n, failedReads := n :: s.pw.failedReads } }
      else { s with pw := { s.pw with badReads := AMap.set s.pw.badReads n k } }

/-- Meaning of PMBUS_TELEMETRY (11 R257). VIN and input current are readings of the input phases; PIN_NOW is their product (DEDUCED, log 55). -/
def execPmbusTelemetry (vin iin : BitVec 32) (readings : List RailReading) (s : State) : Host.Outcome State Fault Refusal :=
  .next (if s.hm.running then
    let s := if railReached s 16 then
        let s := (s.setObj U.power Obj.VIN_NOW vin.toNat).setObj U.power Obj.IIN_NOW iin.toNat
        let s := s.setObj U.power Obj.PIN_NOW (vin.toNat * iin.toNat / 1000 % 2^32)
        { s with pw := { s.pw with vinWindow := (vin.toNat :: s.pw.vinWindow).take 10 } }
      else s
    readings.foldl takeReading s
    else s)

/-- The rails whose units a device serves. -/
def deviceRails (d : Nat) : List Nat := ((List.range 18).map (· + 1)).filter fun n => (railDevices n).contains d

/-- Meaning of PMBUS_TIMEOUT (11 R257): one transaction has failed; the third failure marks the device unreachable. In SEQUENCING that is a fault of
the step's rail. -/
def execPmbusTimeout (device : PmDev) (command page : BitVec 8) (s : State) : Host.Outcome State Fault Refusal :=
  .next (
    let d := device.addr
    if ¬ s.hm.running ∨ ¬ deviceFitted s.variant d ∨ s.pw.unreachable.contains d then s
    else
      let k := AMap.getD s.pw.pmTries d 0 + 1
      if k < 3 then { s with pw := { s.pw with pmTries := AMap.set s.pw.pmTries d k } }
      else
        let s0 := s
        let s := { s.bump U.power Obj.PMBUS_ERRORS with pw := { s.pw with pmTries := AMap.del s.pw.pmTries d, unreachable := d :: s.pw.unreachable } }
        let s := recordHm s Ev.PMBUS_TIMEOUT U.power 0xFFFF [d, command.toNat, page.toNat]
        let s := track ((deviceRails d).map U.rail ++ [U.power, U.root]) s0 s
        if s.phase = .sequencing then
          match (stepRails s s.pw.step).filter fun n => (railDevices n).contains d with
          | n :: _ => railFault s (.rail (Fin.ofNat 18 (n - 1)))
          | [] => s
        else s)

/-- Meaning of PMBUS_DEVICE_RETRY (11 R257). -/
def execPmbusDeviceRetry (device : PmDev) (answered : Bool) (s : State) : Host.Outcome State Fault Refusal :=
  .next (if answered ∧ s.hm.running then
    track ((deviceRails device.addr).map U.rail ++ [U.power, U.root]) s { s with pw := { s.pw with unreachable := s.pw.unreachable.filter (· != device.addr) } }
    else s)

/-! ## Power-good and reactions -/

/-- Meaning of POWER_GOOD_DEASSERT (11 R258): a debounced deassertion, or a raw one. A raw one counts in PG_GLITCHES as it comes, and is taken out of
the count where the third within 1 ms, or within the rail's sequencing step, makes them a fault. -/
def execPowerGoodDeassert (rail : Fin 18) (debounced : Bool) (s : State) : Host.Outcome State Fault Refusal :=
  .next (
    let n := rail.val + 1
    let inStep := decide (s.phase = .sequencing) && (stepRails s s.pw.step).contains n && decide (s.pw.step ≠ 0)
    if ¬ railOn s n ∧ ¬ inStep then s
    else if debounced ∧ ¬ inStep then
      railFault { s with pw := { s.pw with rawPg := AMap.del s.pw.rawPg n } } (.rail rail)
    else
      let old := (AMap.getD s.pw.rawPg n []).filter fun t => inStep || decide (s.now < t + 400000)
      if 2 ≤ old.length then
        let s := s.setObj (U.rail n) Obj.PG_GLITCHES (s.obj (U.rail n) Obj.PG_GLITCHES - 2)
        railFault { s with pw := { s.pw with rawPg := AMap.del s.pw.rawPg n } } (.rail rail)
      else { s.bump (U.rail n) Obj.PG_GLITCHES with pw := { s.pw with rawPg := AMap.set s.pw.rawPg n (s.now :: old) } })

/-- One more attempt at a rail or a switch (11 R259). -/
def noteAttempt (s : State) (key k : Nat) : State := { s with pw := { s.pw with attempts := AMap.set s.pw.attempts key k } }

/-- An attempt succeeds (11 R259): the rail, its bank or the switch's stack is on again. -/
def retryUp (s : State) (target : RetryTarget) : State :=
  let s := { s with pw := { s.pw with retryWait := s.pw.retryWait.filter (· != (retryKey target)) } }
  match target, railBank (retryRail target) with
  | .switch g st, _ => stacksBack { s with pw := { s.pw with switchOff := s.pw.switchOff.filter (· != (retryKey target)) } } [(g.val, st.val)]
  | .rail _, some b => bankOn s b
  | .rail _, none => { s with pw := { s.pw with railsUp := s.pw.railsUp ++ [retryRail target] } }

/-- Meaning of RAIL_RETRY (11 R259, Table PW-4): the rail or load switch is turned on again, and comes up or faults once more (16 Example HM-2). What the
event's result reads the spec does not state. -/
def execRailRetry (target : RetryTarget) (ok : Bool) (s : State) : Host.Outcome State Fault Refusal :=
  .next (
    if ¬ s.pw.retryWait.contains (retryKey target) ∨ s.pw.flush.isSome then s
    else
      let s0 := s
      let n := retryRail target
      let k := AMap.getD s.pw.attempts (retryKey target) 0 + 1
      let s := noteAttempt (s.bump (U.rail n) Obj.RAIL_RETRIES) (retryKey target) k
      let s := recordHm s Ev.RAIL_RETRY (U.rail n) 0xFFFF [n, k, Config.unstated 11 [b2n ok]]
      let s := if ok then retryUp s target
        else if 3 ≤ k then retryExhausted (noteFault s n k) target else noteFault s n k
      match railBank n with
      | some b => bankChanged s0 s b
      | none => track [U.rail n, U.power, U.root] s0 s)

/-- Meaning of FAULT_EPISODE_END (11 R259). -/
def execFaultEpisodeEnd (target : RetryTarget) (s : State) : Host.Outcome State Fault Refusal :=
  .next (if s.pw.retryWait.contains (retryKey target) ∨ ¬ railOn s (retryRail target) then s
    else { s with pw := { s.pw with attempts := AMap.del s.pw.attempts (retryKey target) } })

/-- Meaning of LOAD_SWITCH_TRIP (11 R255): the bank's reaction, applied to the switch. -/
def execLoadSwitchTrip (group : Fin 2) (stack : Fin 16) (s : State) : Host.Outcome State Fault Refusal :=
  .next (
    let t := RetryTarget.switch group stack
    if groupCount s.variant ≤ group.val ∨ ¬ railOn s (retryRail t) ∨ s.pw.switchOff.contains (retryKey t) then s else railFault s t)

/-! ## Media banks -/

/-- BANK_ENABLE's own rule (11 R261, 12 R298). -/
def bankEnableRule : KEffect := fun c v s0 =>
  let b := c.sub - 1
  let s := storeConfig s0 c.unit c.obj v.toNat
  let st := bankState s b
  let forget (s : State) : State :=
    { s with pw := { s.pw with retryWait := s.pw.retryWait.filter fun k => !(bankRails b).contains k } }
  let s := if v.toNat = 0 then
      if st = 0 ∨ st = 1 then bankOff (forget s) b 2
      else if st = 4 then setBankState s b (if s.pw.bankMin.contains b then 3 else 2)
      else s
    else if st = 2 then setBankState s b 4
    else if st = 3 then (if s.pw.bankMin.contains b then setBankState s b 4 else bankOn s b)
    else s
  (bankChanged s0 s b, .ok)

/-- Meaning of BANK_ENABLE (11 R261). -/
def execBankEnable (req : KReq) (value : BitVec 8) (s : State) : Host.Outcome State Fault Refusal :=
  .next (kdpObject req (.bankEnable req value) 0x1908 (.write (.num value.toNat)) bankEnableRule s)

/-- Meaning of BANK_SHUTDOWN_DONE (11 R261, 12 Table CS-10): both rails are below 10 %, and the minimum off time begins. -/
def execBankShutdownDone (bank : Fin 4) (s : State) : Host.Outcome State Fault Refusal :=
  .next (
    let st := bankState s bank
    if (st = 2 ∨ st = 4) ∧ ¬ s.pw.bankMin.contains bank.val then
      let s' := { s with pw := { s.pw with bankMin := bank.val :: s.pw.bankMin } }
      if st = 2 then bankChanged s (setBankState s' bank 3) bank else s'
    else s)

/-- The minimum off time of a bank has passed (11 R261): a queued enable is carried out. -/
def bankOffDone (s : State) (b : Nat) : State :=
  if s.pw.bankMin.contains b then
    let s' := { s with pw := { s.pw with bankMin := s.pw.bankMin.filter (· != b) } }
    if bankState s b = 4 then bankChanged s (bankOn s' b) b else s'
  else s

/-- Meaning of BANK_LINKS_TRAINED (11 R260): the stacks leave the unavailable state, and a rebuild that waited goes on. -/
def execBankLinksTrained (bank : Fin 4) (s : State) : Host.Outcome State Fault Refusal :=
  .next (
    if s.pw.bankLink.contains bank.val ∧ bankState s bank = 0 then
      let s' := { s with pw := { s.pw with bankLink := s.pw.bankLink.filter (· != bank.val) } }
      bankChanged s (resumeRebuilds (stacksBack s' (bankStacks bank))) bank
    else s)

/-- Meaning of RAIL_FALL_TIMEOUT (11 R263): the voltage left on a rail that was turned off 10 ms before. -/
def execRailFallTimeout (rail : Fin 18) (millivolts : BitVec 32) (s : State) : Host.Outcome State Fault Refusal :=
  .next (
    let n := rail.val + 1
    if s.hm.running ∧ railFitted s.variant n ∧ (¬ railOn s n ∨ s.pw.flush.isSome ∨ 2 ≤ s.robj Obj.ENTRY_STATE) then
      recordHm (s.bump (U.rail n) Obj.FALL_TIMEOUTS) Ev.RAIL_FALL_TIMEOUT (U.rail n) 0xFFFF [n, millivolts.toNat]
    else s)

/-! ## The hold-up bank -/

/-- v_min in mV (11 R265). -/
def vMin (esr : Nat) : Nat := 20000 + 19 * esr / 1000
/-- Energy of the bank above v_min at a voltage in mV, in mJ (11 R265, R266); fractions cut. -/
def bankEnergy (s : State) (mv : Nat) : Nat :=
  let lo := vMin (s.obj U.power Obj.HOLDUP_ESR)
  s.obj U.power Obj.HOLDUP_C * (mv * mv - lo * lo) / 2000000000
/-- HOLDUP_ENERGY takes a value, and the cap follows it (06 R151, R152). -/
def setEnergy (s : State) (e : Nat) : State := settle (recomputeCap (s.setObj U.power Obj.HOLDUP_ENERGY e))

/-- Whether a hold-up measurement may run now: in a start, in service in P0 to P2, and in HALTED (11 R264, R265). -/
def measureRuns (s : State) : Bool :=
  match s.phase with
  | .booting | .loading | .halted => s.pw.flush.isNone
  | .running => decide (s.robj Obj.PSTATE_NOW < 3) || decide (2 ≤ s.cs.wakeStep)
  | _ => false

/-- HOLDUP_MEASURE's own rule (11 R265). -/
def holdupMeasure (_ : KCtx) (_ : Nat) (s : State) : State × Status :=
  let good := (s.phase = .running ∧ s.robj Obj.PSTATE_NOW < 3 ∧ s.robj Obj.ENTRY_STATE = 0) ∨ s.phase = .halted
  if ¬ good then (s, .state)
  else ({ s with pw := { s.pw with measDue := s.pw.measDue || !s.pw.measuring } }, .pending)

/-- What HOLDUP_MEASURE does as a run (11 R265). -/
def holdupMeasureEffect : KEffect := runCommand true (fun _ => false) holdupMeasure

/-- Meaning of HOLDUP_MEASURE (11 R265). -/
def execHoldupMeasure (req : KReq) (arg : BitVec 32) (s : State) : Host.Outcome State Fault Refusal :=
  .next (kdpObject req (.holdupMeasure req arg) 0x1905 (.exec arg.toNat) holdupMeasureEffect s)

/-- Meaning of HOLDUP_INTERVAL_EXPIRY (11 R265). -/
def execHoldupIntervalExpiry (s : State) : Host.Outcome State Fault Refusal :=
  .next (if s.phase = .running ∨ s.phase = .halted then { s with pw := { s.pw with measDue := s.pw.measDue || !s.pw.measuring } } else s)

/-- Begin a discharge down to `vEnd` mV (11 R265). -/
def beginMeasure (s : State) (vEnd : Nat) : State :=
  { s with pw := { s.pw with measuring := true, measDue := false, charged := false, deferSince := none, measEnd := vEnd } }

/-- A discharge is deferred (11 R266). -/
def deferMeasure (s : State) (since : Nat) : State := { s with pw := { s.pw with deferSince := some since } }

/-- Start the discharge, or defer it (11 R265, R266). The first measurement of all has no earlier capacitance to lower the energy by. -/
def startMeasure (s : State) : State :=
  if s.obj U.power Obj.HOLDUP_C = 0 then beginMeasure s 48000
  else
    let low := setEnergy s (bankEnergy s 48000)
    if dirtyNow s ≤ low.robj Obj.DIRTY_CAP then beginMeasure low 48000
    else
      let since := s.pw.deferSince.getD s.hm.opsec
      if since + 3600 ≤ s.hm.opsec then beginMeasure (setEnergy s (bankEnergy s 52000)) 52000
      else deferMeasure (s.bump U.power Obj.HOLDUP_DEFERRED) since

/-- Whether a measurement that is due can begin: the bank is fully charged (11 R265). -/
def measureReady (s : State) : Bool :=
  s.pw.measDue && s.pw.charged && !s.pw.measuring && !s.pw.recharge && !s.pw.discharging && railOn s 17 && measureRuns s

/-- Meaning of HOLDUP_MEASUREMENT_START (11 R266). A deferred measurement waits for its retry. -/
def execHoldupMeasurementStart (s : State) : Host.Outcome State Fault Refusal :=
  .next (if measureReady s ∧ s.pw.deferSince.isNone then startMeasure s else s)

/-- Meaning of HOLDUP_DEFERRAL_RETRY (11 R266). -/
def execHoldupDeferralRetry (s : State) : Host.Outcome State Fault Refusal :=
  .next (if measureReady s ∧ s.pw.deferSince.isSome then startMeasure s else s)

/-- Meaning of HOLDUP_MEASURED (11 R265, R266): the discharge time in µs, the voltage drop of the first 10 µs in µV and the bank temperature.
The module, whose measurement it is, is there to take it (09 R212).
HOLDUP_ENERGY stands as lowered until the recharge is complete; after the first measurement it is the energy at v_end. Fractions are cut. -/
def execHoldupMeasured (tTestUs vStepUv : BitVec 32) (temp : BitVec 16) (s : State) : Host.Outcome State Fault Refusal :=
  .next (
    if ¬ s.pw.measuring then s
    else
      let first := decide (s.obj U.power Obj.HOLDUP_C = 0)
      let c := 4000 * tTestUs.toNat / (56000 - s.pw.measEnd) % 2^32
      let esr := vStepUv.toNat / 4
      let s := ((s.setObj U.power Obj.HOLDUP_C c).setObj U.power Obj.HOLDUP_ESR esr).setObj U.power Obj.HOLDUP_MEAS_AT s.hm.opsec
      let e := bankEnergy s 56000
      let payload := leBytes 4 c ++ leBytes 4 esr ++ leBytes 4 e ++ leBytes 2 temp.toNat ++ leBytes 34 0
      let s := appendMeas s 4 0 U.root 0 payload
      let s := recordHm s Ev.HOLDUP_MEASURED U.power 0xFFFF [c, esr, e, (decI16 temp.toNat % 2^64).toNat]
      let s := if s.ag.bolSet then s
        else
          let s := s.setR Obj.HOLDUP_BOL e
          { s with ag := { s.ag with bolSet := true } }
      let s := { s with pw := { s.pw with measuring := false, recharge := true, measured := true, bankDead := false, tMeas := decI16 temp.toNat } }
      endRun U.power Obj.HOLDUP_MEASURE .ok (setEnergy s (if first then bankEnergy s s.pw.measEnd else s.obj U.power Obj.HOLDUP_ENERGY)))

/-- Meaning of HOLDUP_CHARGE_DONE (11 R264, R266): the bank is at 56.0 V, and HOLDUP_ENERGY is what it holds there. -/
def execHoldupChargeDone (s : State) : Host.Outcome State Fault Refusal :=
  .next (
    if ¬ railOn s 17 ∨ s.pw.measuring ∨ s.pw.discharging then s
    else
      let s := { s.setObj U.power Obj.V_HOLD_NOW 56000 with pw := { s.pw with charged := true, recharge := false } }
      if s.pw.measured ∧ ¬ s.pw.bankDead then setEnergy s (bankEnergy s 56000) else s)

/-- Meaning of VHOLD_RECOMPUTE_TICK (11 R266): V_HOLD in mV. -/
def execVholdRecomputeTick (vhold : BitVec 32) (s : State) : Host.Outcome State Fault Refusal :=
  .next (
    if vhold.toNat < 55000 ∧ s.hm.running ∧ ¬ s.pw.measuring then
      let s := { s.setObj U.power Obj.V_HOLD_NOW vhold.toNat with pw := { s.pw with charged := false } }
      if ¬ s.pw.recharge ∧ ¬ s.pw.bankDead then setEnergy s (bankEnergy s vhold.toNat) else s
    else s)

/-- Give a flush buffer a fresh dump key (10 R241). -/
def newDumpKey (s : State) (b : Nat) : State :=
  let (k, s) := s.draw (2^256)
  let s := if b = 0 then { s with dp := { s.dp with dumpKey0 := some (BitVec.ofNat 256 k) } } else { s with dp := { s.dp with dumpKey1 := some (BitVec.ofNat 256 k) } }
  syncRec s 7

/-- The sets of a flush buffer are reset (11 R271), in each group: their blocks, all of die 1, count one erasure more (09 R224, Table AG-1), and those that
have reached their limit or belong to a dead member are replaced. -/
def eraseBuffer (s : State) (b : Nat) : State :=
  let n := bufferSets s.variant
  let groups : List Nat := if s.variant = .p064 then [0] else [0, 1]
  let e := AMap.getD s.media.flushErase b 0
  let worn (g : Nat) : Bool := decide (s.robj Obj.ENDURANCE_LIMIT ≤ e) || (List.range 16).any fun st => memberDead s g st 0
  let s := (groups.filter worn).foldl (fun s g => (List.range n).foldl (fun s i => retireWorn s g (n * b + i)) s) s
  let reset (p : Nat × SetRec) : Nat × SetRec :=
    if p.1 % 2^20 / n = b then (p.1, { p.2.wasReset (liveMembers s (p.1 / 2^20) (p.1 % 2^20)) with state := 5 }) else p
  let s := { s with media := { s.media with sets := s.media.sets.map reset, flushErase := AMap.set s.media.flushErase b (e + 1) } }
  groups.foldl (fun s g =>
    ((List.range 16).filter fun st => !memberGone s g st 0).foldl (fun s st =>
      let die := U.die (g + 1) (st + 1) 1
      noteErases (pcCount s 0x16 die none n) die n (e + 1)) (s.bumpN (U.group (g + 1)) Obj.SETS_RESET n)) s

/-- Meaning of FLUSH_BUFFER_ERASED (11 R271, 10 R241): the sets of a released buffer are reset. -/
def execFlushBufferErased (buffer : Fin 2) (s : State) : Host.Outcome State Fault Refusal :=
  .next (if bufState s buffer = 2 ∧ (s.phase = .loading ∨ s.phase = .running ∨ s.phase = .halted) then
      settleFlushArea (newDumpKey (putDump (setBufState (eraseBuffer s buffer) buffer 0) buffer none) buffer)
    else s)

end Sys2Proof.Machine
end

