-- ==== Sys2Proof/Machine/StartOps.lean ====
section
/-! DEFINITION. Operations of a start (01 R23 to R25, 12 R300): the harbourmaster's reading of its store, the power-on reset, the steps of
BOOTING, and the map load, the replay of the flush area and the end of LOADING. -/
namespace Sys2Proof.Machine
open Sys2Proof

/-! ## The record of resets and steps -/

/-- Note a module-level reset (12 Table CS-12, Table CS-13). `code`: of RESET_LAST; `found`: the MODULE_STATE that the reset found. -/
def noteResetIn (s : State) (code found : Nat) : State :=
  let s := ((s.setR Obj.RESET_LAST code).setR Obj.RESET_AT s.hm.opsec).bumpR (Obj.RESET_COUNT + code)
  recordHm s Ev.MODULE_RESET U.root 0xFFFF [code, found, s.robj Obj.PSTATE_NOW]

/-- Note a module-level reset that begins now. -/
def noteReset (s : State) (code : Nat) : State := noteResetIn s code (moduleState s)

/-- Whole milliseconds between two times in CLK_CTL cycles of 2.5 ns. -/
def msBetween (t0 t1 : Nat) : Nat := (t1 - t0) / 400000

/-- Maximum of a start step in ms, 1 to 7 (12 Table CS-11). -/
def startMax (k : Nat) : Nat := [120, 300, 200, 50, 700, 80, 550].getD (k - 1) 0

/-- A step of a start ends (12 R300): its duration, and START_SLOW where it overran. The next step begins. -/
def noteStart (s : State) (k : Nat) : State :=
  let d := min 65535 (msBetween s.cs.stepAt s.now)
  let s := s.setR (Obj.START_LAST_MS + k) d
  let s := if startMax k < d then record s Ev.START_SLOW U.root 0xFFFF [k, d, startMax k] else s
  { s with cs := { s.cs with stepAt := s.now } }

/-! ## The counter unit -/

/-- Clear the counter unit (17 R391): counters, PC_CONFIG, PC_SNAP, samples, windows and the freeze. -/
def clearCounterUnit (s : State) : State :=
  let hit (o : Nat) : Bool := [0x1E03, 0x1E04, 0x1E06, 0x1E08, 0x1E10, 0x1E12].contains (o / 256)
  { (clearObjs hit s).setBlob U.ctl Obj.PC_SNAP [] with pc := {} }

/-- PC_CYCLES starts again at 0 (17 R380). -/
def clearCycles (s : State) : State := s.setObj U.ctl Obj.PC_CYCLES 0

/-! ## The harbourmaster's start -/

/-- The payload of a record's newest valid slot, empty where none is valid. -/
def payloadOf (s : State) (id : Nat) : List Byte := ((chooseSlot s.hm.sram id).2.map (·.payload)).getD []

/-- The value of a counter's cells (16 R369): the highest valid one, or that of LAST_POWER_DOWN's bytes `at_`. -/
def counterValue (s : State) (at_ n : Nat) (cells : AMap Nat) : Nat :=
  match cellTop cells with
  | some c => c.2
  | none => fieldAt (payloadOf s 10) at_ n

/-- A counter none of whose cells is valid has been restored: COUNTER_RESTORED (16 R369). -/
def noteRestored (s : State) (counter value : Nat) (cells : AMap Nat) : State :=
  if (cellTop cells).isNone then recordHm s Ev.COUNTER_RESTORED U.hm 0xFFFF [counter, value] else s

/-- The store SRAM is loaded from the shadow, in which some slots may have lost their check, and VDD_AON is up (16 R362, R367). -/
def loadStore (s : State) (badSlots badPower badOpsec : List Nat) : State :=
  let sh := s.hm.shadow
  let slots := sh.slots.map fun (p : Nat × HmSlot) => (p.1, if badSlots.contains p.1 then { p.2 with valid := false } else p.2)
  let good (l : List Nat) (m : AMap Nat) : AMap Nat := m.filter fun p => !l.contains p.1
  { s with
    hm := { s.hm with
      running := true, sram := { sh with slots := slots }, storeRunning := false, storeWaiting := false, storeSpaced := true, badPages := [], opsecSince := 0,
      powerCells := good badPower s.hm.powerCells, opsecCells := good badOpsec s.hm.opsecCells }
    pw := { s.pw with railsUp := s.pw.railsUp.filter (· != 18) ++ [18], seqTries := 0 }
    pins := { s.pins with slowLow := true, stopLow := true } }

/-- The operating seconds and the power-cycle count are taken from their cells, and the count rises by one (16 R369, R370). -/
def startCounters (s : State) : State :=
  let secs := s.hm.opsecCells
  let cells := s.hm.powerCells
  let sec := counterValue s 4 6 secs
  let cyc := counterValue s 10 4 cells
  let s := { s with hm := { s.hm with opsec := sec } }
  let s := if 4294967295 ≤ cyc then saturate { s with hm := { s.hm with powerCycles := 4294967295 } } 1 4294967295
    else { s with hm := { s.hm with powerCycles := cyc + 1, powerCells := writeCell cells (cyc + 1) } }
  noteRestored (noteRestored s 1 cyc cells) 2 sec secs

/-- Every record is read (16 R368). -/
def readRecs (s : State) : State := [1, 2, 3, 4, 5, 6, 7, 8, 9, 10, 11, 12].foldl readRec s

/-- What the records bring about as the harbourmaster starts: a recovery choice to apply (10 R244), and THERMAL_LATCH cleared where input power has
been away (13 R312). -/
def recordsRead (s : State) : State :=
  let s := { s with dp := { s.dp with recoverOwed := decide (s.hm.recoverValue ≠ 0) } }
  if s.pw.vinRemoved ∧ s.hm.latchThermal then syncRec { s with hm := { s.hm with latchThermal := false } } 1 else s

/-- The harbourmaster starts from VIN (16 R362, R367 to R370): the store is loaded, the counters are taken and the records are read. -/
def harbourmasterStart (s : State) (badSlots badPower badOpsec : List Nat) : State :=
  track [U.hm, U.rail 18, U.power, U.root] s (recordsRead (readRecs (startCounters (loadStore s badSlots badPower badOpsec))))

/-! ## Entry to SEQUENCING -/

/-- The objects that a power-on reset returns to their defaults (15 R406, Table OD-5, 17 R391). -/
def powerOnObj (o : Nat) : Bool :=
  let i := o / 256
  let sub := o % 256
  [0x0102, 0x0110, 0x0111, 0x0120, 0x0121, 0x0122, 0x1010, 0x1042, 0x1130, 0x1340, 0x1420, 0x1601, 0x1602, 0x1603, 0x1604, 0x1605, 0x1630, 0x1641, 0x1642, 0x1709, 0x1800, 0x1843, 0x1912, 0x1A17, 0x1C28, 0x1C38, 0x1D05, 0x1D21].contains i
    || (i == 0x1210 && sub != 15) || (i == 0x1903 && sub == 6) || (i == 0x1920 && decide (3 ≤ sub)) || (i == 0x1A00 && sub == 2) || (i == 0x1B40 && sub != 5)
    || (i == 0x1D00 && sub == 3) || (i == 0x1D12 && decide (2 ≤ sub)) || (decide (0x1E00 ≤ i) && decide (i ≤ 0x1E24))

/-- A copy of REFCLK absent at entry to SEQUENCING is a loss from the start (14 R328): counted and logged. Its offset, of a clock that is absent, the spec does not
state. -/
def clockAbsent (s : State) (copy : Nat) (lost : Bool) : State :=
  if lost then recordHm (s.bumpR Obj.REF_FAULTS) Ev.REF_CLOCK_LOST U.root 0xFFFF [Config.unstated 29 [copy], 0] else s

/-- A start begins (01 Table AX-8, 12 Table CS-3): the power-on reset of everything but the harbourmaster. PHASE_LOST of the input phases that
failed during the last flush is logged now (11, corner cases), and the write sequence goes on from its reserved limit (10 R237). -/
def enterSequencing (s0 : State) (moduleId : Nat) : State :=
  let s := s0.pw.owedPhases.foldl (fun s p => recordHm s Ev.PHASE_LOST (U.rail 16) 0xFFFF [16, p, s.obj U.power Obj.PHASES_OK]) s0
  let s := clearObjs (fun o => powerOnObj o || decide (o = Obj.PHASES_OK)) s
  let s := { s with
    phase := .sequencing
    th := {}
    pc := {}
    kdp := { s.kdp with net1 := { s.kdp.net1 with rxFrames := 0, txFrames := 0 }, net2 := { s.kdp.net2 with rxFrames := 0, txFrames := 0 } }
    pw := { s.pw with owedPhases := [], lostPhases := [], attempts := [], retryWait := [], rawPg := [], failedReads := [], badReads := [], vinRemoved := false, measDue := true, step := 0, seqDone := false, bankDead := false, switchOff := [] }
    dp := { s.dp with errCounts := [], wseq := s.dp.wseqLimit, wseqLimit := s.dp.wseqLimit + 2^32, wseqEnded := false }
    cs := { s.cs with stepAt := s.now, offDone := true, wakeQueued := false, wakeStep := 0, trafficAt := s.now } }
  let bank (s : State) (b : Nat) : State := setBankState s b (if s.obj U.power (Obj.BANK_ENABLE + b + 1) = 0 then 3 else 0)
  let s := (List.range (bankCount s)).foldl bank s
  let s := { s with media := { s.media with offStacks := stacksNotOn s } }
  let s := (s.setR Obj.MODULE_ID moduleId).setR Obj.CLOCK_SOURCE (b2n s.cs.lost1)
  let s := clockAbsent (clockAbsent s 1 s.cs.lost1) 2 s.cs.lost2
  trackAll s0 (noteResetIn (syncRecs s [6, 11]) 1 (moduleState s0))

/-! ## BOOTING -/

/-- The firmware's part of a start begins again: nothing runs, and no step of BOOTING or LOADING is done. -/
def resetStart (s : State) : State :=
  { s with
    recorder := { s.recorder with accepting := false, logOpen := false }
    cs := { s.cs with fwRunning := false, hbmTrained := false, linksTrained := false, bootHeld := false, mapLoaded := false, replayDone := false, stepAt := s.now }
    pw := { s.pw with seqDone := false } }

/-- BOOTING begins (01 Table AX-8): with the other image after an activation at next start (18 R402), where a start or an integrity restart leads here. -/
def enterBooting (s0 : State) (fresh : Bool) : State :=
  let s := resetStart { s0 with phase := .booting }
  let s := if fresh ∧ s.ts.nextStart then syncRec { s with ts := { s.ts with nextStart := false, image := 1 - s.ts.image } } 9 else s
  trackAll s0 (allPorts.foldl startTraining s)

/-- The next rails of a start are up (11 R262): those of banks that are on, and V_HOLD where its reaction has not given it up. -/
def stepUp (s : State) : List Nat :=
  (stepRails s s.pw.step).filter fun n => (match railBank n with
    | some b => bankState s b == 0
    | none => true) && !(n == 17 && s.pw.bankDead) && !s.pw.railsUp.contains n

/-- Whether a sequencing step can run: V_HOLD's waits while the rail is off for a retry. -/
def stepRuns (s : State) : Bool := s.phase == .sequencing && !s.pw.seqDone && !(s.pw.step == 2 && s.pw.retryWait.contains 17)

/-- A step that cannot reach its device is a fault of the step's rail (11 R257). -/
def stepFaults (s : State) : State :=
  ((stepUp s).filter fun n => !railReached s n).foldl (fun s n => if s.phase = .sequencing then railFault s (.rail (Fin.ofNat 18 (n - 1))) else s) s

/-- A sequencing step is done (11 R262); what its rails' power-good did within it counts no longer (R258). The controller is held in reset while MRST_N is
low (12 R282). -/
def sequencingStep (sIn : State) : State :=
  let s0 := if stepRuns sIn then stepFaults sIn else sIn
  if ¬ stepRuns s0 then s0
  else
    let ups := (stepUp s0).filter (railReached s0)
    let s := { s0 with pw := { s0.pw with railsUp := s0.pw.railsUp ++ ups, orOpen := s0.pw.orOpen && decide (s0.pw.step ≠ 1), step := s0.pw.step + 1, rawPg := s0.pw.rawPg.filter fun p => !ups.contains p.1 } }
    let s := track (ups.map U.rail ++ [U.power, U.root]) s0 s
    if s.pw.step ≤ 11 then s
    else
      let s := clearCycles (noteStart s 1)
      if s.cs.mrstLow then { s with pw := { s.pw with seqDone := true } } else enterBooting s true

/-- The plan in force as the log area's copies leave it (09 R219): the active one, else the previous, else the factory's. No previous plan is left then, and
the store record follows (DEDUCED, log 117). -/
def planFallback (s : State) (activeBad prevBad : Nat) : State :=
  if s.ag.active.id = 0 ∨ activeBad < 2 then s
  else
    let (p, failed) : Plan × Nat := match s.ag.previous with
      | some q => if q.id ≠ 0 ∧ 2 ≤ prevBad then ({}, 4) else (q, 2)
      | none => ({}, 2)
    syncRec (record { s with ag := { s.ag with active := p, previous := none } } Ev.PLAN_UNREADABLE U.root 0xFFFF [p.id, failed]) 4

/-- The slot in use, and the other. -/
def slotNow (s : State) : FwSlot := if s.ts.image = 0 then s.ts.slotA else s.ts.slotB

/-- Failed boots of an image, 0 A and 1 B. -/
def bootFails (s : State) (i : Nat) : Nat := if i = 0 then s.ts.failsA else s.ts.failsB
/-- Set them. -/
def setBootFails (s : State) (i v : Nat) : State :=
  if i = 0 then { s with ts := { s.ts with failsA := v } } else { s with ts := { s.ts with failsB := v } }

/-- A boot fails (18 R404). What FW_FALLBACK gives as the failed slot the spec does not encode. -/
def bootFailed (s0 : State) : State :=
  let i := s0.ts.image
  let s := setBootFails (s0.bumpR Obj.BOOT_FAILS) i (min 255 (bootFails s0 i + 1))
  let n := bootFails s i
  let s := resetKdp (resetStart s)
  let s := if n = 2 then recordHm s Ev.FW_FALLBACK U.root 0xFFFF [Config.unstated 13 [i], s.ts.failsA, s.ts.failsB] else s
  let s := if 2 ≤ n then { s with ts := { s.ts with image := 1 - i } } else s
  let s := { s with ts := { s.ts with retryWait := decide (2 ≤ s.ts.failsA ∧ 2 ≤ s.ts.failsB) } }
  trackAll s0 (syncRec s 9)

/-- LOADING begins (01 Table AX-8): the image's count returns to 0, and a higher security version is fused by its second LOADING on starts 24
operating hours apart, which leaves slots of lower versions invalid (18 R401, R404). -/
def enterLoading (s0 : State) : State :=
  let i := s0.ts.image
  let slot := if i = 0 then s0.ts.slotA else s0.ts.slotB
  let s := setBootFails { s0 with phase := .loading, cs := { s0.cs with bootHeld := false, stepAt := s0.now } } i 0
  let fused := s.robj Obj.FW_SVN_FUSED
  let s := if fused < slot.svn then
      match s.ts.loadingAt with
      | some (v, t) =>
        if v ≠ slot.svn then { s with ts := { s.ts with loadingAt := some (slot.svn, s.hm.opsec) } }
        else if t + 86400 ≤ s.hm.opsec then
          let low (x : FwSlot) : FwSlot := { x with valid := x.valid && decide (slot.svn ≤ x.svn) }
          let s := s.setR Obj.FW_SVN_FUSED slot.svn
          { s with ts := { s.ts with loadingAt := none, slotA := low s.ts.slotA, slotB := low s.ts.slotB } }
        else s
      | none => { s with ts := { s.ts with loadingAt := some (slot.svn, s.hm.opsec) } }
    else s
  trackAll s0 (syncRec s 9)

/-- BOOTING ends once firmware runs and HBM and the media links are trained (01 Table AX-8). With BOOT_HOLD set the start stops there (18 R399). -/
def finishBoot (s : State) : State :=
  if s.phase = .booting ∧ s.cs.fwRunning ∧ s.cs.hbmTrained ∧ s.cs.linksTrained ∧ ¬ s.cs.bootHeld then
    if s.robj Obj.BOOT_HOLD = 1 then syncRec { s.setR Obj.BOOT_HOLD 0 with cs := { s.cs with bootHeld := true } } 9
    else enterLoading s
  else s

/-! ## LOADING: the map -/

/-- Serial-number order of DUMP_SEQ (16 R367): whether `a` is newer than `b`. -/
def serialNewer (a b : Nat) : Bool := decide (1 ≤ (a + 2^32 - b) % 2^32) && decide ((a + 2^32 - b) % 2^32 < 2^31)

/-- The HOLDING buffers with a dump that a test picks, and the newest of them (11 R273). -/
def newestDump (s : State) (p : Dump → Bool) : Option (Nat × Dump) :=
  let held (b : Nat) : Option (Nat × Dump) := if bufState s b = 1 then (getDump s b).bind fun d => if p d then some (b, d) else none else none
  match held 0, held 1 with
  | some x, some y => if serialNewer y.2.seq x.2.seq then some y else some x
  | some x, none => some x
  | none, y => y

/-- A segment's copy that reads back whole. -/
def goodCopy (cs : List SegCopy) : Option SegCopy := (cs.filter (·.crcOk)).head?

/-- The map as the checkpoint copies and the journal tail give it (07 R180). `bad`: copies that do not read back. A segment that has been
copied and has no good copy is lost; one never copied has no page mapped but by the tail. -/
def loadMap (s : State) (d : Option Dump) (bad : List (Nat × Fin 2)) : State :=
  let mark (seg : Nat) (c : SegCopy) : SegCopy := { c with crcOk := c.crcOk && !(bad.any fun q => q.1 == seg && q.2.val + 1 == c.area) }
  let segs : AMap (List SegCopy) := s.media.segs.map fun p => (p.1, p.2.map (mark p.1))
  let lost := (segs.filter fun p => !p.2.isEmpty && (goodCopy p.2).isNone).map (·.1)
  let frontier (chunk : Nat) : Nat := match (AMap.get? segs (chunk / 15360)).bind goodCopy with
    | some c => c.frontierOf chunk
    | none => 0
  let base : AMap Nat := ((segs.map fun p => match goodCopy p.2 with
    | some c => c.entries
    | none => []).flatten).foldl (fun m q => AMap.set m q.1 q.2) []
  let journal := match d with
    | some x => if x.stores.contains 3 then (s.media.journal.filter fun r => decide (x.jnext ≤ r.jpos)) ++ x.tail else s.media.journal
    | none => s.media.journal
  let applies (r : JRec) : Bool := r.ofMap && decide (frontier (chunkOf r.a) ≤ r.jpos)
  let recs := journal.reverse.filter applies
  let map := recs.foldl (fun m r => applyRecord m r.kind r.a r.b r.c) base
  let back := (recs.filter fun r => decide (r.kind ≠ 2) && lost.contains (segOf r.a)).map (·.a)
  let fresh := lost.filter fun x => !s.media.lostSegs.contains x
  let s := { s with media := { s.media with
    map := map, segs := segs, journal := journal, lostSegs := s.media.lostSegs ++ fresh,
    regained := (s.media.regained.filter fun pn => !lost.contains (segOf pn)) ++ back } }
  fresh.foldl (fun s x => record s Ev.MAP_SEGMENT_LOST U.root 0xFFFF [x, Config.unstated 12 [x, 1], Config.unstated 12 [x, 2]]) s

/-- Interrupted stripes (07 Table MT-9): one whose accumulator was dumped gets its parity and its SEAL, another is left without parity. Open sets
that are full are closed. -/
def finishStripes (s : State) (accs : List Nat) : State :=
  let open_ := s.media.stripes.filter fun p => !p.2.sealed && !p.2.unprotected && decide (p.2.verified ≠ 0)
  let s := open_.foldl (fun s p =>
    if accs.contains p.1 then
      let mem := setBit p.2.verified p.2.parity true
      appendRecord (putStripe s p.1 { p.2 with programmedAt := s.media.ckpt.snap.at_ }) 4 p.1 mem p.2.parity
    else unprotect s p.1) s
  (s.media.sets.filter fun p => p.2.state == 1 && decide (255 < p.2.next)).foldl (fun s p => setState s p.1 2) s

/-- The map is loaded, the resets and stripes that were interrupted are settled (07 Table MT-9) and the log area can be programmed; every ERASED buffer has a dump key (10 R241). -/
def mapReady (s : State) (d : Option Dump) (bad : List (Nat × Fin 2)) : State :=
  let s := loadMap { s with wharf := { s.wharf with lighters := [] } } d bad
  let s := startCkpt (if d.isSome then loadSets s else s)
  let s := ((s.media.sets.filter fun p => p.2.state == 4).map (·.1)).foldl startResets s
  let s := finishStripes s (match d with
    | some x => x.accs
    | none => [])
  let s := { s with cs := { s.cs with mapLoaded := true }, recorder := { s.recorder with logOpen := true } }
  let key (s : State) (b : Nat) : State := if bufState s b = 0 ∧ (if b = 0 then s.dp.dumpKey0 else s.dp.dumpKey1).isNone then newDumpKey s b else s
  flushIfOpen (key (key s 0) 1)

/-- The map step of LOADING (07 R180, 11 R273): with the newest dump unsealed the start goes no further (01 Table AX-8). The blocks found are a free value. -/
def mapLoad (s0 : State) (bad : List (Nat × Fin 2)) : State :=
  let d := newestDump s0 fun _ => true
  match d with
  | some (b, x) =>
    if x.sealed then noteStart (mapReady s0 (some x) bad) 5
    else
      let (k, s) := { s0.bump U.power Obj.DIRTY_SHUTDOWNS with pw := { s0.pw with incomplete := true } }.draw (2^24)
      recordHm s Ev.DUMP_INCOMPLETE U.power 0xFFFF [b, x.seq, k]
  | none => noteStart (mapReady s0 none bad) 5

/-! ## LOADING: the flush area -/

/-- Restore a live entry into its slice's ring (06 R164). Its age is that of its place in the dump. -/
def restoreEntry (s : State) (line : LineNo) (e : WEntry) : State :=
  let pn := pageOfLine line
  let sl := sliceOf pn
  let before := pageStaged s pn
  let t := ringTail s sl
  let q := s.wharf.nextSeq
  indexChange before pn { s with wharf := { s.wharf with
    entries := AMap.set s.wharf.entries line { e with pos := t, seq := q, first := q, replay := true, hidden := false }
    tails := AMap.set s.wharf.tails sl (t + e.slots), nextSeq := q + 1 } }

/-- Restore a stale marker. -/
def restoreMarker (s : State) (sector : SectorNo) (m : WMarker) : State :=
  let pn := pageOfSector sector
  let sl := sliceOf pn
  let before := pageStaged s pn
  let t := ringTail s sl
  let q := s.wharf.nextSeq
  indexChange before pn { s with wharf := { s.wharf with
    markers := AMap.set s.wharf.markers sector { m with pos := t, seq := q, replay := true, hidden := false }
    tails := AMap.set s.wharf.tails sl (t + 1), nextSeq := q + 1 } }

/-- Restore the wharf and the combining buffers of a dump (11 R274, 06 R164): the slots in dump order, and a combining-buffer entry as a wharf entry. -/
def restoreWharf (s : State) (d : Dump) : State :=
  let s := { s with wharf := { nextSeq := s.wharf.nextSeq, nextLighter := s.wharf.nextLighter } }
  let s := d.ringOrder.foldl (fun s p => match p.2 with
    | .inl q => restoreEntry s q.1 q.2
    | .inr q => restoreMarker s q.1 q.2) s
  d.cb.foldl (fun s p =>
    let s := if p.2.mask = fullMask ∨ staleReadOf s p.1 = 1 then clearMarker s p.1 else s
    restoreEntry s p.1 (mergedEntry (AMap.get? s.wharf.entries p.1) p.2.data p.2.mask (p.2.poison ≠ 0) s.wharf.nextSeq 0)) s

/-- The choice of INTEGRITY_RECOVER takes effect on the failing page (10 R244), and the record of it is done with. The failing sector is the page's as the map
names it now: a copy that committed during the halt carries it, write sequence and all, to another place. -/
def applyRecovery (s : State) : State :=
  if ¬ s.dp.recoverOwed then s
  else
    let r := s.dp.integrity
    let v := s.hm.recoverValue
    let page := decide (1 ≤ r.cause ∧ r.cause ≤ 5)
    let s := if page ∧ v = 1 then
        match mapGet s r.pn with
        | some ppn =>
          let same := ppn == r.ppn || (match AMap.get? s.media.store ppn with
            | some p => p.wseq == r.wseq
            | none => false)
          if same ∧ ¬ s.dp.markedAt.contains (ppn * 8 + r.sector) then { s with dp := { s.dp with markedAt := (ppn * 8 + r.sector) :: s.dp.markedAt } } else s
        | none => s
      else if page ∧ v = 2 then
        match mapGet s r.pn with
        | some ppn => appendRecord s 3 r.pn unmapped ppn
        | none => s
      else s
    let s := { s with dp := { s.dp with recoverOwed := false, recoverAccepted := false }, hm := { s.hm with recoverValue := 0 } }
    syncRec (record s Ev.INTEGRITY_RECOVERED U.ctl 0xFFFF [v, r.pn * 4096]) 1

/-- The berths and the bitmap as a dump holds them (05 R130, 11 R274). -/
def loadBerths (s : State) (x : Dump) : State :=
  { s with hc := { s.hc with berth := x.berth, mirror := { s.hc.mirror with bitmap := x.bitmap } } }

/-- The berths of the newest dump that holds them, where there is one; with the BERTH record lost, BERTH_WAYS is the dump's (16 R367). -/
def berthsFrom (s : State) (d : Option (Nat × Dump)) : State :=
  match d with
  | some (_, x) => loadBerths (if s.obj U.hm (Obj.RECORD_STATE + 5) = 0 then s.setR Obj.BERTH_WAYS x.ways else s) x
  | none => s

/-- The berths and their ways as a start leaves them (05 R125, R130, 16 Table HM-2): from the newest sealed dump that holds them. Berths that
were lost with none to restore them read BERTH_INTACT 0. -/
def restoreBerths (s : State) : State :=
  let lost := s.hc.berthWays.isEmpty
  let d := newestDump s fun d => d.sealed && d.stores.contains 5
  let s := berthsFrom s d
  let ways := s.robj Obj.BERTH_WAYS
  let s := if lost then (List.range 16).foldl (fun s sl =>
      { s with hc := { s.hc with berthWays := AMap.set s.hc.berthWays sl (growWays s sl ways) } }) s else s
  let s := s.setR Obj.BERTH_WAYS_NOW ways
  if lost ∧ d.isNone ∧ ways ≠ 0 then syncRec (s.setR Obj.BERTH_INTACT 0) 5 else s

/-- Insert a replayed record into the media log at its position. -/
def insertRec (p : Nat × EvRec) : List (Nat × EvRec) → List (Nat × EvRec)
  | [] => [p]
  | q :: t => if p.1 < q.1 then q :: insertRec p t else if p.1 = q.1 then q :: t else p :: q :: t

/-- The flush area is replayed (11 R273, R274): the newest sealed dump's stores, the recovery of an integrity halt, and the drain of what is restored. -/
def replayDump (s : State) : State :=
  let s := match newestDump s fun d => d.sealed with
    | some (_, d) =>
      let s := if d.stores.contains 1 then restoreWharf s d else s
      let recs := d.recs.reverse.map fun (p : Nat × EvRec) => (p.1, { p.2 with replayed := true })
      { s with
        recorder := { s.recorder with log := (recs.foldl (fun l p => insertRec p l) s.recorder.log).take 1048576 }
        pw := { s.pw with replayed := true, drainedAt := none } }
    | none => s
  let s := restoreBerths (applyRecovery s)
  let s := if s.hm.latchHalted then s else
    { s with wharf := { s.wharf with entries := s.wharf.entries.map fun (p : Nat × WEntry) => (p.1, { p.2 with marked := false }) } }
  let s := reissueCopies ((List.range 16).foldl refill s)
  let s := if bufState s 0 = 1 ∧ bufState s 1 = 1 ∧ ¬ s.pw.pendingNoted then notePending s else s
  settle (settleLevel { s with cs := { s.cs with replayDone := true } })

/-- The replay step of LOADING (11 R274, 12 R300). -/
def replayFlushArea (s : State) : State := noteStart (replayDump s) 6

/-! ## The end of LOADING -/

/-- The records of the recent ring that the media log does not hold are appended to it (16 R374). -/
def appendRecent (s : State) : State :=
  let s := flushBuffer s
  let same (a b : EvRec) : Bool := a.code == b.code && a.unit == b.unit && a.source == b.source && a.at_ == b.at_ && a.powerCycle == b.powerCycle
  let fresh := s.hm.sram.recent.reverse.filter fun e => !(s.recorder.log.any fun p => same p.2 e)
  let add (s : State) (e : EvRec) : State :=
    let r := s.recorder
    { s with recorder := { r with log := ((r.next, { e with replayed := true }) :: r.log).take 1048576, next := r.next + 1, flushedTo := r.next + 1 } }
  fresh.foldl add s

/-- Whether Memory_Active may rise (12 R300): everything is replayed, the start measurement has set DIRTY_CAP, and a flush buffer is ERASED. Into
HALTED, where no write is taken, a start goes without an ERASED buffer (DEDUCED, log 79). -/
def gateOpen (s : State) : Bool :=
  s.phase == .loading && s.cs.replayDone && s.pw.measured && !s.pw.incomplete && ((dumpTarget s).isSome || s.hm.latchHalted)

/-- What happens as memory service begins (02 R37, 05 R133, 12 R285, R297): residency counts in P0, the mirror connects, the pins follow their functions,
and the hosts are told. -/
def serviceBegins (s : State) : State :=
  let s := { s.setR Obj.PSTATE_NOW 0 with cs := { s.cs with resAt := s.now, trafficAt := s.now } }
  let s := if s.robj Obj.MIRROR_ENABLE = 1 then mirrorConnect s else s
  let s := drivePins { s with pins := { s.pins with held := false } }
  let up := allPorts.filter fun n => decide (2 ≤ preg s n Obj.LINK_STATE)
  let s := record s Ev.MEDIA_READY U.root 0xFFFF [moduleState s, Config.unstated 14 up]
  s.emits (up.map fun n => Out.msix n 2)

/-- The latches are applied and Memory_Active rises, or the module comes up HALTED (01 Table AX-8, R24, 12 R300). -/
def raiseMemoryActive (s0 : State) : State :=
  let s := noteStart (appendRecent s0) 7
  let s := if s.hm.latchHalted then
      let s := { s with phase := .halted, dp := { s.dp with dumpDone := true }, pins := { s.pins with held := false } }
      drivePins ((presentPorts s).foldl (fun s n => fencePort (raiseViral s n) n 2) s)
    else
      let s := resumeRekeys (resumeConfirms (serviceBegins { s with phase := .running }))
      settleFlushArea (settle (settleVictims s))
  trackAll s0 s

end Sys2Proof.Machine
end

