-- ==== Sys2Proof/Machine/ResetOps.lean ====
section
/-! DEFINITION. Operations of resets and power states (chapter 12): the service reset, the integrity restart, warm resets by the state they find,
the refusers of the low-power states, and the steps of an entry and of a wake. -/
namespace Sys2Proof.Machine
open Sys2Proof

/-! ## Service reset -/

/-- Close every session (15 R353). `tell`: a CLOSE is sent. The reason of a close by a reset or an entry is taken to be STATE (DESIGN CHOICE, log 82). -/
def closeAll (s : State) (tell : Bool) : State :=
  (s.kdp.sessions.map (·.id)).foldl (fun s sid => closeSession s sid tell .state) s

/-- Hold the sideband outputs at their present levels through a warm reset (12 R285). -/
def holdPins (s : State) : State :=
  let s := capturePads s
  { s with pins := { s.pins with held := true } }

/-- Every host link is taken to Disabled, and each port shows LINK_ACTIVE_LOST (12 R284 step 1). -/
def disableLinks (s : State) : State :=
  (presentPorts s).foldl (fun s n => dropLink (if bitOf (preg s n Obj.FENCE_REASON) 6 then s else showReason s n 6) n) s

/-- The links and the requests are ended, the combining buffers appended, and then the reservations, the sessions and the mirror ended (12 R284 steps 1
to 3): a conditional store that had entered its conflict table completes under its reservation. -/
def endHostSide (s : State) : State :=
  let s := walkDone s
  let s := endHostWork finishAll (abortScrub (disableLinks s))
  let s := (s.mc.cb.map (·.1)).foldl appendCb s
  let s := loseResvWhere s 7 fun _ => true
  let s := if mirState s = 0 then s else endMirrorSession s 0
  resetKdp (closeAll (endFreeze s 4) false)

/-- Slice and port logic, the directory and the non-berth home cache after their reset (12 R284 steps 3 to 5). Reasons of a fence that are
not the port's own stand. The firmware's operations in progress are abandoned (DESIGN CHOICE, log 73); rekey passes are interrupted (10 R238). -/
def resetLogic (s : State) : State :=
  let s := interruptRekeys (abortTests s)
  let old := allPorts.map fun n => (n, preg s n Obj.FENCE_REASON &&& 0x0F)
  let s := resetPorts false s
  let s := (old.filter fun p => !portAbsent s p.1).foldl (fun s p => s.setObj (U.port p.1) Obj.FENCE_REASON (p.2 + 0x40)) s
  let s := { s with
    mc := { regions := s.mc.regions },
    dir := { downRec := s.dir.downRec, nextAcc := s.dir.nextAcc, nextId := s.dir.nextId },
    hc := { s.hc with sectors := [], plru := [], pbuf := [], trackers := [], invalidating := false, mirror := { s.hc.mirror with offDone := true } },
    ag := { s.ag with passes := [], applying := none, proofNow := [] },
    ts := { s.ts with loops := [], reflect := [], sramTest := none, stackTests := [], hbmTests := [], activating := 0, paused := [], staged := [], unlocker := none },
    media := { s.media with offStacks := stacksOut s },
    wharf := { s.wharf with held := [], queueReset := [], lighters := s.wharf.lighters.filter fun l => l.state == 2 } }
  s

/-- The drain queues are formed again from what is staged and from the copies that are due (06 R158, 12 R284 step 5). -/
def reformQueues (s : State) : State := reissueCopies ((List.range 16).foldl refill s)

/-- A service reset begins (12 R284). `code`: of RESET_LAST, 6 by MRST_N or 7 by WARM_RESET. -/
def serviceReset (s0 : State) (code : Nat) : State :=
  let s := endHostSide (noteReset (holdPins s0) code)
  let s := setPstate (reformQueues (resetLogic s)) 0
  let s := (setFrozen s 0).setR Obj.ENTRY_STATE 0
  trackAll s0 (settle { s with cs := { s.cs with reset_ := code, p2Exit := false, wdRunning := false, trafficAt := s.now, wakeQueued := false } })

/-- What the firmware takes up again once it runs (09 R222, 10 R238): confirmatory passes of marked blocks, and rekey passes from their recorded positions. -/
def resumeFirmware (s : State) : State := resumeRekeys (resumeConfirms s)

/-- A service reset ends (12 R284 step 6): the links are enabled again, the mirror connects, and blocks in reset are released with the slice
logic (12, corner cases). -/
def serviceResetDone (s0 : State) : State :=
  let s := clearObjs (fun o => decide (o / 256 = 0x1A07)) { s0 with cs := { s0.cs with reset_ := 0, trafficAt := s0.now } }
  let s := allPorts.foldl startTraining s
  let s := if s.robj Obj.MIRROR_ENABLE = 1 then mirrorConnect s else s
  trackAll s0 (settle (resumeFirmware s))

/-! ## Integrity restart -/

/-- An integrity restart (12 R283, Table CS-3; 01 Table AX-8): the controller and HBM are reset, the berths are kept, and BOOTING begins. The write sequence goes on
from its reserved limit (10 R237). -/
def integrityRestart (s0 : State) : State :=
  let s := endFreeze (holdPins (noteReset (abortScrub s0) 5)) 4
  let s := clearCycles (clearCounterUnit (loseHbm (loseFabric false s)))
  let s := { s with
    pw := { s.pw with measured := false, measDue := true },
    dp := { s.dp with wseq := s.dp.wseqLimit, wseqLimit := s.dp.wseqLimit + 2^32, wseqEnded := false, dumpDone := false } }
  let s := (setFrozen (syncRecs s [6, 11]) 0).setR Obj.ENTRY_STATE 0
  trackAll s0 (enterBooting (s.setR Obj.PSTATE_NOW 0) true)

/-! ## Warm resets -/

/-- LOADING begins again at its map step (12 Table CS-4, 01 R25): what its map step and its replay had put into place is found again. -/
def restartLoading (s : State) : State :=
  let s := resetKdp (setPstate s 0)
  { s with
    cs := { s.cs with mapLoaded := false, replayDone := false, stepAt := s.now }
    recorder := { s.recorder with logOpen := false }
    pw := { s.pw with replayed := false, drainedAt := none }
    ml := { s.ml with reads := [], ops := [] }
    wharf := { s.wharf with lighters := [] } }

/-- A wake is asked for (12 R292, R298): it starts once the entry has ended and the minimum off time of the state has passed, and is queued until then. -/
def wakeAsked (s : State) : State :=
  let p := s.robj Obj.PSTATE_NOW
  if 3 ≤ p ∧ s.cs.wakeStep ≠ 0 then s
  else if 3 ≤ p ∧ s.cs.offDone then
    { s.setR Obj.ENTRY_STATE 0 with cs := { s.cs with wakeQueued := false, wakeStep := 1, stepAt := s.now } }
  else if 3 ≤ p ∨ 2 ≤ s.robj Obj.ENTRY_STATE then { s.setR Obj.ENTRY_STATE 3 with cs := { s.cs with wakeQueued := true } }
  else s

/-- An entry that is preparing is aborted, PSTATE_NOW standing as it is; the request's run ends with STATE (DESIGN CHOICE, log 71). -/
def abortEntry (s : State) : State := endRun U.root Obj.PSTATE_REQUEST .state (s.setR Obj.ENTRY_STATE 0)

/-- A warm reset that is ignored or refused (12 R283). How its event encodes the source the spec does not say. -/
def warmIgnored (s : State) (pin : Bool) : State :=
  let snap := [moduleState s, Config.unstated 15 [b2n pin]]
  if pin then recordHm s Ev.WARM_RESET_IGNORED U.root 0xFFFF snap else record s Ev.WARM_RESET_IGNORED U.root 0xFFFF snap

/-- A warm reset by the state it finds (12 Table CS-4). `pin`: by MRST_N. -/
def warmReset (s : State) (pin : Bool) : State × Status :=
  let code := if pin then 2 else 3
  match s.phase with
  | .cold | .latchedOff | .sequencing => (warmIgnored s pin, .state)
  | .booting => (enterBooting (resetKdp (noteReset (setFrozen s 0) code)) false, .ok)
  | .loading => (trackAll s (restartLoading (noteReset (setFrozen s 0) code)), .ok)
  | .running =>
    let s := if s.robj Obj.FROZEN = 1 then setFrozen s 0 else s
    if 3 ≤ s.robj Obj.PSTATE_NOW ∨ 2 ≤ s.robj Obj.ENTRY_STATE then (wakeAsked s, .ok)
    else if s.robj Obj.ENTRY_STATE = 1 then (abortEntry s, .ok)
    else (serviceReset s (if pin then 6 else 7), .ok)
  | .flushing => (warmIgnored s pin, .state)
  | .halted =>
    if s.dp.recoverAccepted ∧ s.pw.flush.isNone then (integrityRestart s, .ok) else (warmIgnored s pin, .state)

/-! ## Power states -/

/-- Whether a refuser holds (12 Table CS-7). -/
def refuserHolds (s : State) (r : Nat) : Bool :=
  match r with
  | 1 => dirtyNow s != 0 || journalTail s != 0 || !s.wharf.pinned.isEmpty
  | 2 => s.kdp.bulk.isSome
  | 3 => s.dp.scrub.isSome
  | 4 => allPorts.any (portHasDecoder s)
  | 5 => (List.range (groupCount s.variant)).any fun g => decide (3 ≤ reclaimStep s g)
  | 6 => s.obj U.power Obj.POWER_STEP != 0 || s.th.parts.any fun p => p.2.steps != 0
  | 7 => mirrorLag s != 0
  | 8 => s.media.rebuild1.running || s.media.rebuild2.running
  | _ => false

/-- The lowest of some refusers that holds. -/
def firstRefuser (s : State) (rs : List Nat) : Option Nat := rs.find? (refuserHolds s)

/-- Count a refusal or an abort (12 R291). -/
def noteRefusal (s : State) (st r : Nat) : State :=
  let s := ((s.bumpR (Obj.REFUSALS + r)).setR Obj.LAST_REFUSER r).setR Obj.LAST_REFUSED_STATE st
  record s Ev.PSTATE_REFUSED U.root 0xFFFF [st, r, s.robj Obj.ENTRY_STATE]

/-- Whether the module is READY or DEGRADED with its clocks running, so that a power state may be entered (12 R289). -/
def pstateOpen (s : State) : Bool :=
  s.phase == .running && !domainIsDown s && decide (s.robj Obj.PSTATE_NOW < 3) && firmwareOn s

/-- An entry to P3 or P4 is asked for (12 R290): refused by an immediate refuser, or preparing. A request for the other state while one is preparing
changes its target only (12, corner cases). -/
def askEntry (target : Nat) (s : State) : State × Status :=
  if ¬ pstateOpen s ∨ 2 ≤ s.robj Obj.ENTRY_STATE then (s, .state)
  else if s.robj Obj.ENTRY_STATE = 1 then ({ s with cs := { s.cs with target := target } }, .pending)
  else match firstRefuser s [2, 3, 4, 8] with
    | some r => (noteRefusal s target r, .state)
    | none => ({ s.setR Obj.ENTRY_STATE 1 with cs := { s.cs with target := target } }, .pending)

/-- PSTATE_REQUEST's own rule (12 R290). -/
def pstateRequest (arg : Nat) (s : State) : State × Status :=
  if arg = 0 then (if s.robj Obj.ENTRY_STATE = 1 then (abortEntry s, .ok) else (s, .ok)) else askEntry arg s

/-- Whether an entry's preparation is done (12 R290): nothing is staged, every changed segment is checkpointed, no waiting refuser holds, no lighter
executes, and for P4 a flush buffer can take the berths. -/
def prepDone (s : State) : Bool :=
  s.robj Obj.ENTRY_STATE == 1 && (firstRefuser s [1, 5, 6, 7]).isNone && !(s.wharf.lighters.any fun l => l.state == 2)
    && (s.cs.target == 3 || (dumpTarget s).isSome) && pstateOpen s

/-- The entry moves to entering (12 R290, R294): the pads are held, the mirror session and the KDP sessions end, rekey positions are recorded (10 R238), and for P4 the recorder is flushed
(DESIGN CHOICE, log 81) and the berths and the bitmap are dumped and sealed with cause P4_ENTRY. -/
def startEntering (s0 : State) : State :=
  let s := (capturePads s0).setR Obj.PAD_HOLD 1
  let s := s.setR Obj.ENTRY_STATE 2
  let s := if mirState s = 0 then s else endMirrorSession s 0
  let s := saveRekey (closeAll s true)
  let s := if s.cs.target = 4 then (captureDump (flushIfOpen s) [5] 7 s.hm.opsec (berthSize s / 2^20) true).1 else s
  trackAll s0 s

/-- Rails that stay on in P3 and in P4 (12 Table CS-6; which controller rails hold the berths and HBM the spec does not say, log 69). -/
def keptRails (target : Nat) : List Nat := if target = 3 then [2, 5, 6, 16, 17, 18] else [16, 18]

/-- The rails are off and the module rests in P3 or P4 (12 R290, Table CS-6, Table CS-9). A wake that waits stays queued until the minimum off time
has passed. -/
def finishEntry (s0 : State) : State :=
  let t := s0.cs.target
  let s := setPstate (allPorts.foldl dropLink s0) t
  let s := loseFabric false s
  let s := if t = 4 then loseBerth (loseHbm s) else s
  let p4 := decide (t = 4)
  let s := { s with
    pw := { s.pw with railsUp := s.pw.railsUp.filter (fun n => (keptRails t).contains n), measuring := s.pw.measuring && !p4, recharge := s.pw.recharge && !p4, charged := s.pw.charged && !p4, measured := s.pw.measured && !p4, measDue := s.pw.measDue || p4 },
    recorder := { s.recorder with accepting := false, logOpen := false },
    cs := { s.cs with fwRunning := false, linksTrained := false, hbmTrained := false, p2Exit := false, wdRunning := false, offDone := false, wakeStep := 0 } }
  trackAll s0 (s.setR Obj.ENTRY_STATE (if s.cs.wakeQueued then 3 else 0))

/-! ## Wake -/

/-- Maximum of a wake step in ms (12 Table CS-8). -/
def wakeMax (from4 : Bool) (k : Nat) : Nat := (if from4 then [105, 1, 200, 300, 50, 780] else [60, 1, 40, 100, 50, 0]).getD (k - 1) 0

/-- A wake step ends (12 R293): its duration, and WAKE_SLOW where it overran. -/
def noteWake (s : State) (k : Nat) : State :=
  let d := min 65535 (msBetween s.cs.stepAt s.now)
  let s := s.setR (Obj.WAKE_LAST_MS + k) d
  let top := wakeMax (decide (s.robj Obj.PSTATE_NOW = 4)) k
  let s := if top < d then recordHm s Ev.WAKE_SLOW U.root 0xFFFF [k, d, top] else s
  { s with cs := { s.cs with stepAt := s.now, wakeStep := k + 1 } }

/-- The rails that a wake turns back on: every fitted one, but those of banks that are not on, a rail in a retry, and V_HOLD where its
reaction has given it up. -/
def wakeRails (s : State) : List Nat :=
  (fittedRails s.variant).filter fun n => (match railBank n with
    | some b => bankState s b == 0
    | none => true) && !s.pw.retryWait.contains n && !(n == 17 && s.pw.bankDead) && !s.pw.railsUp.contains n

/-- What a wake step's ready signal brings (12 R293, Table CS-8): power, memory, firmware, the media links; from P4 the map and the berths. -/
def wakeStepEffect (s : State) (k : Nat) (bad : List (Nat × Fin 2)) : State :=
  match k with
  | 1 => { s with pw := { s.pw with railsUp := s.pw.railsUp ++ wakeRails s } }
  | 3 => { s with cs := { s.cs with hbmTrained := true } }
  | 4 => clearCycles (clearCounterUnit { s with cs := { s.cs with fwRunning := true }, recorder := { s.recorder with accepting := true } })
  | 5 => { s with cs := { s.cs with linksTrained := true }, pw := { s.pw with bankLink := [] }, media := { s.media with offStacks := stacksNotOn s } }
  | 6 => replayDump (mapReady s ((newestDump s fun d => d.sealed).map (·.2)) bad)
  | _ => s

/-- The module is back in P0 (12 R293): it enables its host links, the mirror connects and drain goes on. -/
def finishWake (s : State) : State :=
  let s := setPstate s 0
  let s := { s.setR Obj.BERTH_WAYS_NOW (s.robj Obj.BERTH_WAYS) with
    cs := { s.cs with wakeStep := 0, trafficAt := s.now }, recorder := { s.recorder with logOpen := true } }
  let s := allPorts.foldl startTraining s
  let s := if s.robj Obj.MIRROR_ENABLE = 1 then mirrorConnect s else s
  settle (flushIfOpen (resumeFirmware (reformQueues s)))

/-- A wake step's ready signal asserts (12 R293). From P4 the module returns to P0 once the start measurement has set DIRTY_CAP (11 R264), which has no
step of its own where it has done so before the map and the replay. -/
def wakeStep (s0 : State) (bad : List (Nat × Fin 2)) : State :=
  let k := s0.cs.wakeStep
  let from4 := decide (s0.robj Obj.PSTATE_NOW = 4)
  if s0.phase ≠ .running ∨ k = 0 ∨ (k = 7 ∧ ¬ s0.pw.measured) then s0
  else if k = 7 then trackAll s0 (finishWake s0)
  else
    let s := noteWake (wakeStepEffect s0 k bad) k
    trackAll s0 (if k = 6 ∧ s.pw.measured then finishWake s else if k = 5 ∧ ¬ from4 then finishWake (s.setR (Obj.WAKE_LAST_MS + 6) 0) else s)

end Sys2Proof.Machine
end

