-- ==== Sys2Proof/Machine/ThermOps.lean ====
section
/-! DEFINITION. Operations of temperature and throttling (chapter 13): taking a sample, warning levels, steps and boosts, the thermal request and its
enforcement, and the critical shutdown. -/
namespace Sys2Proof.Machine
open Sys2Proof

/-- A signed value as a snapshot value of 64 bits (16 R372). -/
def snapInt (x : Int) : Nat := (x % 2^64).toNat
/-- A reading as a snapshot value. -/
def snapTemp (x : Option Int) : Nat := snapInt (x.getD (-32768))

/-! ## Sensors -/

/-- The parts of a unit. -/
def partsOf (u : Nat) : List Nat := if u = U.power then [u + 1, u + 2, u + 3] else [u]

/-- The governed parts with steps (13 Table TH-2): all but the hold-up bank and the coolant. -/
def steppedUnits (s : State) : List Nat :=
  let stks := ((List.range (groupCount s.variant)).map fun g => (List.range 16).map fun st => U.stack (g + 1) (st + 1)).flatten
  partsOf U.power ++ (((List.range 15).map (· + 1)).filter (railFitted s.variant)).map U.rail ++ [U.ctl] ++ stks ++ (List.range 8).map (fun i => U.hbmStack (i + 1))

/-- Whether the controller's sensor hub runs (13 R302, 12 R296). -/
def hubOn (s : State) : Bool :=
  match s.phase with
  | .cold | .sequencing | .latchedOff => false
  | .running => decide (s.robj Obj.PSTATE_NOW < 3 ∧ s.robj Obj.FROZEN = 0)
  | _ => s.robj Obj.FROZEN == 0

/-- Whether sensor `k` of a unit is read now (13 R302, R311, 15 R345): the harbourmaster reads the power stages that are on, the hold-up bank and the
coolant, the sensor hub the rest, a media stack's only while its bank is on. -/
def sensorsRead (s : State) (u k : Nat) : Bool :=
  match (pathLevels u).filter (· != 0) with
  | [] => s.hm.running
  | [3] => s.hm.running && railOn s (if k = 3 then 17 else 16)
  | [3, n] => s.hm.running && (n == 17 || railOn s n)
  | [4, g, st] => hubOn s && railOn s (8 + 2 * bankOf (g - 1) (st - 1)) && railOn s (9 + 2 * bankOf (g - 1) (st - 1)) && !s.pw.switchOff.contains u
  | _ => hubOn s

/-- Whether the harbourmaster reads a unit's sensors, and so records their events (16 R374). -/
def hmReads (u : Nat) : Bool := u == 0 || unitUnder u U.power

/-- Thresholds of a part (13 Table TH-2): warning, first step, highest step and critical; those of a power stage for /3. -/
def thermRow (s : State) (u : Nat) : Int × Int × Nat × Int :=
  let k := if partUnit u = U.power then U.rail 1 else u
  (decI16 (s.obj k Obj.THERM_WARN), decI16 (s.obj k Obj.THERM_STEP1), s.obj k Obj.THERM_STEPS, decI16 (s.obj k Obj.THERM_CRIT))

/-- Warning thresholds of the coolant sensors, 1 inlet and 2 outlet (13 Table TH-2). -/
def coolantWarn (k : Nat) : Int := if k = 1 then 4000 else 5500

/-- A reading in 0.01 °C at the resolution of 0.0625 °C (13 R302): the nearest step, cut to 0.01 °C as the objects give it. -/
def quantise (v : Int) : Int := (16 * v + 50) / 100 * 100 / 16

/-- Whether a reading is discarded (13 R303). The previous reading is taken to be the last one kept (DEDUCED, log 83). -/
def discards (x : Sensor) (v : Int) : Bool :=
  decide (v < -2000) || decide (15000 < v) || (match x.last with
    | some p => decide (p + 500 < v) || decide (v + 500 < p)
    | none => false)

/-- The rise of a sensor over 20 ms in 0.01 °C (13 R310). -/
def Sensor.rise20 (x : Sensor) : Int := match x.hist, x.hist[20]? with
  | t :: _, some t0 => t - t0
  | _, _ => 0

/-- A sensor's temperature of this millisecond, and the evaluation of its rise over 20 ms (13 R306, R310). -/
def noteTemp (x : Sensor) (v : Int) : Sensor :=
  let x := { x with hist := (v :: x.hist).take 251 }
  { x with fast := if 30 < x.rise20 then x.fast + 1 else 0 }

/-- A kept reading. `crit`: the part's critical temperature, none for the coolant. -/
def keepReading (x : Sensor) (v : Int) (crit : Option Int) : Sensor :=
  let x := noteTemp { x with last := some v, bad := 0, sum := x.sum + v, count := x.count + 1 } v
  match crit with
  | some c => { x with crit := if c ≤ v then x.crit + 1 else 0 }
  | none => x

/-- A discarded reading: the sensor's temperature stands at its last kept one (DEDUCED, log 83). -/
def discardReading (x : Sensor) : Sensor :=
  let x := { x with bad := x.bad + 1, crit := 0 }
  match x.last with
  | some p => noteTemp x p
  | none => x

/-- One reading of a sample (13 R303): the third successive reading discarded marks the sensor FAILED. -/
def takeTemp (s : State) (r : TempReading) : State :=
  let u := r.unit.toNat
  let k := r.sensor.val
  let v := quantise r.value
  if k = 0 ∨ sensorCount s.variant u < k ∨ ¬ sensorsRead s u k then s
  else
    let key := u * 64 + (k - 1)
    let x := AMap.getD s.th.sensors key {}
    let put (x : Sensor) : State := { s with th := { s.th with sensors := AMap.set s.th.sensors key x } }
    if x.failed then s
    else if discards x v then
      let y := discardReading x
      if y.bad < 3 then put y
      else track (unitAncestors u) s (recordWith (hmReads u) (put { y with failed := true }) Ev.SENSOR_FAILED u 0xFFFF [u, k, snapTemp x.last])
    else put (keepReading x v (if u = 0 then none else some (thermRow s u).2.2.2))

/-- The sensors of a part that work and have a reading. -/
def workingSensors (s : State) (u : Nat) : List (Nat × Sensor) :=
  s.th.sensors.filter fun p => partSensor u p.1 && !p.2.failed && !p.2.hist.isEmpty

/-- The hottest working sensor of a part and its reading, the lowest-numbered of equals. -/
def hottest (s : State) (u : Nat) : Option (Nat × Int) :=
  (workingSensors s u).foldl (fun a p => match p.2.hist.head?, a with
    | some t, some b => if b.2 < t then some (p.1 % 64 + 1, t) else a
    | some t, none => some (p.1 % 64 + 1, t)
    | none, _ => a) none

/-! ## Warning levels, steps and boosts -/

/-- A part. -/
def getPart (s : State) (u : Nat) : Part := AMap.getD s.th.parts u {}
/-- Write a part. -/
def putPart (s : State) (u : Nat) (p : Part) : State := { s with th := { s.th with parts := AMap.set s.th.parts u p } }

/-- Enter or leave a warning level (13 R304, R305). `key`: of the part, `u` and `k`: unit and sensor. -/
def judgeWarn (s : State) (key u k : Nat) (t warn : Int) : State :=
  let p := getPart s key
  if ¬ p.warn ∧ warn ≤ t then
    recordWith (hmReads u) ((putPart s key { p with warn := true }).bumpR Obj.WARN_EPISODES) Ev.THERM_WARN u 0xFFFF [u, k, snapInt t]
  else if p.warn ∧ t < warn - 200 then putPart s key { p with warn := false }
  else s

/-- The highest step entered and not left at a temperature (13 R304): from `old`, with entries every 2 °C from `first`. -/
def stepFor (first : Int) (top old : Nat) (t : Int) : Nat :=
  ((List.range top).filter fun (i : Nat) => decide (first + 200 * (i : Int) ≤ t) || (decide (i < old) && decide (first + 200 * (i : Int) - 200 ≤ t))).foldl (fun a i => max a (i + 1)) 0

/-- Note TEMP_PEAK of a unit and of every unit above it (15 Table OD-5). -/
def notePeak (s : State) (u : Nat) (t : Int) : State :=
  (unitAncestors u).foldl (fun s v => if decI16 (s.obj v Obj.TEMP_PEAK) < t then s.setObj v Obj.TEMP_PEAK (encI16 t) else s) s

/-- The hardware's part of judging a part: its latest temperature and its warning level. A part whose sensors are not read has neither (DESIGN
CHOICE, log 83). -/
def judgeUnit (s : State) (u : Nat) : State :=
  if ¬ sensorsRead s (partUnit u) (u - U.power) then
    { s with th := { s.th with parts := AMap.del s.th.parts u, sensors := s.th.sensors.map fun p => if partSensor u p.1 then (p.1, { p.2 with hist := [], last := none, crit := 0, fast := 0 }) else p } }
  else match hottest s u with
    | none => putPart s u { getPart s u with warn := false, steps := 0 }
    | some (k, t) =>
      let p := getPart s u
      let s := putPart s u { p with maxes := ((s.now, t) :: p.maxes).take 1000 }
      judgeWarn (notePeak s (partUnit u) t) u (partUnit u) k t (thermRow s u).1

/-- Whether outlet and inlet show low flow (13 R313). -/
def flowLow (s : State) : Bool :=
  match (sensorOf s 0 1).hist.head?, (sensorOf s 0 2).hist.head? with
  | some i, some o => !(sensorOf s 0 1).failed && !(sensorOf s 0 2).failed && decide (5500 < o) && decide (i ≤ 4000)
  | _, _ => false

/-- The coolant's warning levels, and COOLANT_WARN where low flow is first seen (13 R305, R313). `was`: low flow before the sample. -/
def judgeCoolant (was : Bool) (s : State) : State :=
  let one (s : State) (k : Nat) : State :=
    let x := sensorOf s 0 k
    match x.failed, x.hist.head? with
    | false, some t => judgeWarn s k 0 k t (coolantWarn k)
    | _, _ => putPart s k { getPart s k with warn := false }
  let s := one (one s 1) 2
  if flowLow s ∧ ¬ was then
    recordHm s Ev.COOLANT_WARN U.root 0xFFFF [snapTemp (sensorOf s 0 1).hist.head?, snapTemp (sensorOf s 0 2).hist.head?, s.obj U.power Obj.PIN_NOW]
  else s

/-- The sensor of a part that calls for a rate boost, with its rise and its reading (13 R306). -/
def boostCaller (s : State) (u : Nat) : Option (Nat × Int × Int) :=
  let warn := (thermRow s u).1
  ((workingSensors s u).filterMap fun p => match p.2.rise, p.2.hist.head? with
    | some r, some t => if 100 < r ∧ warn - 1000 ≤ t then some (p.1 % 64 + 1, r, t) else none
    | _, _ => none).head?

/-- Whether a sensor of a part rises by more than 1.0 °C in 250 ms (13 R306), at whatever temperature. -/
def risesFast (s : State) (u : Nat) : Bool := (workingSensors s u).any fun p => decide (100 < p.2.rise.getD 0)

/-- The firmware's part of judging a part (13 R304, R306): the step its temperature calls for, and its rate boost. -/
def judgeSteps (s : State) (u : Nat) : State :=
  let p := getPart s u
  let row := thermRow s u
  let p := match hottest s u with
    | some x => { p with steps := stepFor row.2.1 row.2.2.1 p.steps x.2 }
    | none => p
  match boostCaller s u with
  | some (k, r, t) =>
    let s' := putPart s u { p with boost := true, calm := 0 }
    if p.boost then s' else recordWith (hmReads u) (s'.bumpR Obj.RATE_BOOSTS) Ev.RATE_BOOST (partUnit u) 0xFFFF [partUnit u, k, snapInt (4 * r), snapInt t]
  | none => if p = {} then s else putPart s u { p with calm := if risesFast s u then 0 else p.calm + 1 }

/-- Whether a part has too few working sensors and is held at step 1 (13 R303). -/
def sensorsShort (s : State) (u : Nat) : Bool :=
  match (pathLevels u).filter (· != 0) with
  | [1] => decide (16 < failedSensors s u 64)
  | [4, _, _] => failedSensors s u 2 == 2
  | [7, _] => failedSensors s u 1 == 1
  | _ => false

/-- A part's own thermal step (13 R303, R304, R306). -/
def ownStep (s : State) (u : Nat) : Nat :=
  let p := getPart s u
  min (thermRow s u).2.2.1 (max p.steps (b2n (sensorsShort s u)) + (if p.boost then 2 else 0))

/-- The step that a part's own and the stages that feed it give (13 R304). -/
def thermStep (s : State) (u : Nat) : Nat :=
  let feed := ((partsOf U.power).map (ownStep s)).foldl max 0
  let rail (n : Nat) : Nat := max (ownStep s (U.rail n)) feed
  let fed := match (pathLevels u).filter (· != 0) with
    | [1] => ((List.range 7).map fun i => rail (i + 1)).foldl max 0
    | [4, g, st] => max (rail (8 + 2 * bankOf (g - 1) (st - 1))) (rail (9 + 2 * bankOf (g - 1) (st - 1)))
    | _ => feed
  min (thermRow s u).2.2.1 (max (ownStep s u) fed)

/-- Put a part's thermal step into force (13 R304, R305). -/
def settleStep (s : State) (u : Nat) : State :=
  let old := s.obj u Obj.THERM_STEP
  let new := thermStep s u
  if new = old then s
  else
    let s := s.setObj u Obj.THERM_STEP new
    let s := if old < new then s.bumpR Obj.STEP_RISES else s
    record s Ev.THERM_STEP (partUnit u) 0xFFFF [partUnit u, old, new, snapTemp ((hottest s u).map (·.2))]

/-! ## The thermal request -/

/-- Enforce the request on the ports (13 R309): f_thermal in quarters, THERM_ENFORCED, and the start of an episode. -/
def applyEnforce (s : State) : State :=
  let level := s.robj Obj.THERM_REQUEST
  let one (s : State) (n : Nat) : State :=
    let on := preg s n Obj.THERM_ENFORCE = 1
    let cut := if on ∧ level = 3 ∧ s.th.grace3 then 1 else if on ∧ 2 ≤ level ∧ s.th.grace2 then 2 else 4
    let was := (getPort s n).thermCut
    if portAbsent s n ∨ cut = was then s
    else
      let s := putPort (s.setObj (U.port n) Obj.THERM_ENFORCED (if cut = 1 then 2 else if cut = 2 then 1 else 0)) n { getPort s n with thermCut := cut }
      if was = 4 then record (s.bumpR Obj.ENFORCE_EPISODES) Ev.PORT_ENFORCED (U.port n) (0x100 + n) [n, level, rwdLimit s n] else s
  settleCredits (allPorts.foldl one s)

/-- The thermal request level follows the controller's step (13 R308); a grace ends with its level. -/
def settleRequest (s : State) : State :=
  let step := s.obj U.ctl Obj.THERM_STEP
  let level := if 6 ≤ step then 3 else if 3 ≤ step then 2 else 0
  applyEnforce { s.setR Obj.THERM_REQUEST level with th := { s.th with grace2 := s.th.grace2 && decide (2 ≤ level), grace3 := s.th.grace3 && decide (level = 3) } }

/-- Steps of every part and what follows from them. -/
def settleSteps (s : State) : State := settleRequest ((steppedUnits s).foldl settleStep s)

/-! ## Critical shutdown -/

/-- The sensor that calls for a critical shutdown, with the reason, its reading and its rise in 0.01 °C/s (13 R310). Its rise over 20 ms has exceeded the limit
at every evaluation of 100 ms after the first (DEDUCED, log 83). -/
def criticalSensor (s : State) : Option (Nat × Nat × Nat × Int × Int) :=
  (s.th.sensors.filterMap fun p =>
    let t := p.2.hist.head?.getD 0
    if p.2.failed ∨ p.1 / 64 = 0 then none
    else if 2 ≤ p.2.crit then some (p.1 / 64, p.1 % 64 + 1, 1, t, 4 * p.2.rise.getD 0)
    else if 101 ≤ p.2.fast then some (p.1 / 64, p.1 % 64 + 1, 2, t, 50 * p.2.rise20)
    else none).head?

/-- A value held to what 16 signed bits take. -/
def clampI16 (x : Int) : Nat := encI16 (max (-32768) (min 32767 x))

/-- A critical shutdown begins (13 R310 to R312). One that is latched goes on. -/
def criticalShutdown (s : State) (u k reason : Nat) (t rise : Int) : State :=
  if s.hm.latchThermal then s
  else
    let bytes := leBytes 4 u ++ leBytes 1 k ++ leBytes 1 reason ++ leBytes 2 (clampI16 t) ++ leBytes 2 (clampI16 rise) ++ leBytes 6 s.hm.opsec
    let s := (s.setBlob U.root Obj.LAST_CRITICAL bytes).bumpR Obj.CRITICAL_SHUTDOWNS
    let s := recordHm s Ev.THERM_CRITICAL u 0xFFFF [u, k, reason, snapInt t, snapInt rise]
    let s := syncRec { s with hm := { s.hm with latchThermal := true }, pw := { s.pw with vinRemoved := false } } 1
    powerFailure s 5 (s.obj U.power Obj.VIN_NOW) (s.obj U.power Obj.V_HOLD_NOW)

/-! ## A sample -/

/-- The sample of one millisecond (13 R302 to R310). Steps and the request are firmware's, which pauses in a restart (12 R286). -/
def sensorSample (s : State) (readings : List TempReading) : State :=
  let was := flowLow s
  let s := readings.foldl takeTemp s
  let s := (U.rail 17 :: steppedUnits s).foldl judgeUnit s
  let s := judgeCoolant was s
  let s := if hubOn s ∧ s.cs.fwRunning ∧ firmwareOn s then
      let s := settleSteps ((steppedUnits s).foldl judgeSteps s)
      if (steppedUnits s).any fun u => s.obj u Obj.THERM_STEP != 0 then s.bumpN U.root Obj.THROTTLE_TIME 1000 else s
    else s
  match criticalSensor s with
  | some (u, k, reason, t, rise) => criticalShutdown s u k reason t rise
  | none => s

/-- SENSOR_RETEST (13 R303). -/
def sensorRetest (s : State) : State :=
  let us := ((s.th.sensors.filter fun p => p.2.failed).map fun p => unitAncestors (p.1 / 64)).flatten.eraseDups
  track us s { s with th := { s.th with sensors := s.th.sensors.map fun p => if p.2.failed then (p.1, { p.2 with failed := false, bad := 0, last := none, hist := [] }) else p } }

end Sys2Proof.Machine
end

