-- ==== Sys2Proof/Machine/ThermCmd.lean ====
section
/-! DEFINITION. The meanings of the commands of temperature and throttling (chapter 13). -/
namespace Sys2Proof.Machine
open Sys2Proof

/-- Meaning of SENSOR_SAMPLE (13 R302 to R310): the readings of one millisecond. Nothing is sampled while the harbourmaster does not run. -/
def execSensorSample (readings : List TempReading) (s : State) : Host.Outcome State Fault Refusal :=
  .next (if s.hm.running then sensorSample s readings else s)

/-- A part's boost is removed (13 R306) once the rise has stayed at or below 1.0 °C for 1 s. -/
def endBoost (s : State) (u : Nat) : State :=
  let p := getPart s u
  if p.boost ∧ 1000 ≤ p.calm then settleSteps (putPart s u { p with boost := false }) else s

/-- Meaning of RATE_BOOST_END (13 R306): for each part of the unit. -/
def execRateBoostEnd (unit : BitVec 32) (s : State) : Host.Outcome State Fault Refusal :=
  .next (if firmwareOn s then (partsOf unit.toNat).foldl endBoost s else s)

/-- Meaning of THERM_GRACE_EXPIRY (13 R309): the request has been Severe, or Moderate or higher, for THERM_GRACE. -/
def execThermGraceExpiry (severe : Bool) (s : State) : Host.Outcome State Fault Refusal :=
  .next (
    let level := s.robj Obj.THERM_REQUEST
    if ¬ firmwareOn s ∨ level < (if severe then 3 else 2) then s
    else applyEnforce { s with th := { s.th with grace2 := true, grace3 := s.th.grace3 || severe } })

/-- What SENSOR_RETEST does as a run (13 R303). -/
def sensorRetestEffect : KEffect := runCommand false (fun _ => false) fun _ _ s => (sensorRetest s, .ok)

/-- Meaning of SENSOR_RETEST (13 R303). -/
def execSensorRetest (req : KReq) (arg : BitVec 32) (s : State) : Host.Outcome State Fault Refusal :=
  .next (kdpObject req (.sensorRetest req arg) 0x1B06 (.exec arg.toNat) sensorRetestEffect s)

end Sys2Proof.Machine
end

