-- ==== Sys2Proof/Machine/KdpOps.lean ====
section
/-! DEFINITION. Operations of KDP sessions (chapter 15): role keys and proofs, back-off, the opening of a session, EVENT messages, and the network
ports that carry them. -/
namespace Sys2Proof.Machine
open Sys2Proof

/-! ## Keys and proofs -/

/-- The key of a role, none while it is unset (15 R352). -/
def roleKey (s : State) (role : Nat) : Option (BitVec 256) :=
  if s.robj (Obj.ROLE_KEY_SET + role) = 0 then none
  else some (AMap.getD s.kdp.roleKeys role (Config.deliveryKey role))

/-! ## Back-off -/

/-- The failure record of a source address (15 R354). -/
def backoffOf (s : State) (addr : Nat) : Backoff := (s.kdp.backoffs.find? fun b => b.addr == addr).getD { addr := addr }

/-- Whether entry `a` gives way before entry `b` when the table is full: the smaller B, then the older last failure (15 R354). -/
def yieldsTo (a b : Backoff) : Bool := decide (a.b < b.b) || (a.b == b.b && decide (a.lastFail < b.lastFail))

/-- The table with one entry put in, of at most 256 (15 R354). -/
def putBackoff (s : State) (x : Backoff) : State :=
  let rest := s.kdp.backoffs.filter fun b => b.addr != x.addr
  let kept := if rest.length < 256 then rest
    else match rest with
      | [] => []
      | e :: t => rest.erase (t.foldl (fun a b => if yieldsTo b a then b else a) e)
  { s with kdp := { s.kdp with backoffs := kept ++ [x] } }

/-- An address has no failures standing (15 R354). -/
def clearBackoff (s : State) (addr : Nat) : State := { s with kdp := { s.kdp with backoffs := s.kdp.backoffs.filter fun b => b.addr != addr } }

/-- The milliseconds that a running B has left, rounded up, 0 where none runs (15 R354). -/
def backoffLeft (s : State) (addr : Nat) : Nat := ((backoffOf s addr).until_ - s.now + 399999) / 400000

/-- A failed proof, or an OPEN for an unset role (15 R354): F rises, and at 5 B doubles. -/
def authFailed (s : State) (role netPort src : Nat) : State :=
  let x := backoffOf s src
  let f := x.f + 1
  let s := record (s.bumpR Obj.AUTH_FAILS) Ev.AUTH_FAILED U.root (0x200 + netPort) [role, netPort, src % 2^64, f]
  if f < 5 then putBackoff s { x with f := f, lastFail := s.now }
  else
    let b := if x.b = 0 then 1000 else min 600000 (2 * x.b)
    record (putBackoff s { x with f := 0, b := b, until_ := s.now + 400000 * b, lastFail := s.now }) Ev.KDP_BACKOFF U.root (0x200 + netPort) [src % 2^64, b]

/-! ## Opening a session -/

/-- Identifiers in use by sessions and handshakes. -/
def sidsUsed (s : State) : List Nat := s.kdp.sessions.map (·.id) ++ s.kdp.handshakes.map (·.id) ++ s.kdp.expired.map (·.id)
/-- A fresh SESSION_ID (15 R350): a free value, not 0 and not in use. -/
def freshSid (s : State) : Nat × State :=
  let (n, s) := s.draw (2^32)
  (if n ≠ 0 ∧ ¬ (sidsUsed s).contains n then n else (((List.range 32).map (· + 1)).find? fun i => !(sidsUsed s).contains i).getD 1, s)

/-- A refused OPEN or PROVE is answered outside any session. -/
def refuseOpen (s : State) (netPort src sid : Nat) (st : Status) (body : List Nat) : State := s.emit (.kdpHandshake netPort src sid st body)

/-- An OPEN (15 R350, R353, R354): refused in back-off, for a role without a key (DEDUCED to come before the limit, log 86), and at the limit of
sessions; else a handshake is pending and the oldest of nine is dropped. -/
def openRequest (s : State) (netPort : Nat) (via : NetAddr) (src srcPort role : Nat) (nc : BitVec 128) : State :=
  if s.now < (backoffOf s src).until_ then refuseOpen (s.bumpR Obj.BACKOFF_REFUSALS) netPort src 0 .auth [backoffLeft s src]
  else match roleKey s role with
    | none => refuseOpen (authFailed s role netPort src) netPort src 0 .auth []
    | some _ =>
      if s.robj Obj.SESSION_LIMIT ≤ s.kdp.sessions.length then refuseOpen (s.bumpR Obj.LIMIT_REFUSALS) netPort src 0 .limit []
      else
        let (id, s) := freshSid s
        let (nd, s) := s.draw (2^128)
        let h : Handshake := { id := id, role := role, nc := nc, nd := BitVec.ofNat 128 nd, netPort := netPort, src := src, srcPort := srcPort, via := via, udpPort := s.robj Obj.KDP_UDP_PORT }
        let kept := if s.kdp.handshakes.length < 8 then s.kdp.handshakes else s.kdp.handshakes.drop 1
        let s := { s with kdp := { s.kdp with handshakes := kept ++ [h] } }
        s.emit (.kdpHandshake netPort src id .ok [nd, Config.passphraseSalt.toNat, s.robj Obj.PBKDF2_ITERATIONS])

/-- A PROVE of a pending handshake (15 R350 to R354). The state of its network port may follow the new session (R345, R358). -/
def proveHandshake (s : State) (h : Handshake) (proof : BitVec 256) : State :=
  let s0 := s
  let s := { s with kdp := { s.kdp with handshakes := s.kdp.handshakes.filter fun x => x.id != h.id } }
  match roleKey s h.role with
  | none => refuseOpen (authFailed s h.role h.netPort h.src) h.netPort h.src h.id .auth []
  | some k =>
    if proof ≠ proofC k h then refuseOpen (authFailed s h.role h.netPort h.src) h.netPort h.src h.id .auth []
    else
      let s := clearBackoff s h.src
      if s.robj Obj.SESSION_LIMIT ≤ s.kdp.sessions.length then refuseOpen (s.bumpR Obj.LIMIT_REFUSALS) h.netPort h.src h.id .limit []
      else
        let x : Session := { id := h.id, role := h.role, netPort := h.netPort, src := h.src, srcPort := h.srcPort, via := h.via, udpPort := h.udpPort, opened := s.hm.opsec, key := sessionKey k h }
        let s := { s with kdp := { s.kdp with sessions := s.kdp.sessions ++ [x] } }
        let s := s.emit (.kdpHandshake h.netPort h.src h.id .ok [(proofD k h).toNat, s.robj Obj.IDLE_TIMEOUT])
        track (netUnits h.netPort) s0 (record (s.bumpR Obj.OPENS) Ev.SESSION_OPENED U.root (0x200 + h.netPort) [h.id, h.role, h.netPort, h.src % 2^64])

/-! ## EVENT messages -/

/-- Drop the oldest unacknowledged EVENT message (15 R357). -/
def dropEvent (s : State) (sid seq : Nat) : State :=
  match findSession s sid with
  | none => s
  | some x => match x.evUnacked.find? fun m => m.seq == seq with
    | none => s
    | some m =>
      let s := s.bumpN U.root Obj.EVENTS_DROPPED m.recs.length
      updSession s sid fun y => { y with evLost := y.evLost + m.recs.length, evUnacked := y.evUnacked.filter fun e => e.seq != seq }

/-- Send the first waiting records, up to 16, in an EVENT message (15 R357). -/
def sendEvent (s : State) (sid : Nat) : State :=
  match findSession s sid with
  | none => s
  | some x =>
    let s := if x.evUnacked.length < 64 then s else dropEvent s sid ((x.evUnacked.head?.map (·.seq)).getD 0)
    match findSession s sid with
    | none => s
    | some x =>
      let m : EvMsg := { seq := x.evSeq + 1, lost := x.evLost, recs := x.evWaiting.take 16, resends := 0 }
      let s := updSession s sid fun y => { y with evSeq := m.seq, evLost := 0, evWaiting := y.evWaiting.drop 16, evUnacked := y.evUnacked ++ [m] }
      s.emit (.kdpEvent sid m.seq m.lost m.recs)

/-! ## Network ports -/

/-- The port `p` of /6. -/
def netOf (s : State) (p : Nat) : NetPort := if p = 1 then s.kdp.net1 else s.kdp.net2
/-- Change a network port. -/
def updNet (s : State) (p : Nat) (f : NetPort → NetPort) : State :=
  if p = 1 then { s with kdp := { s.kdp with net1 := f s.kdp.net1 } } else { s with kdp := { s.kdp with net2 := f s.kdp.net2 } }

/-- The mirror session moves to the other permitted port when its port leaves READY (05 R134). -/
def mirrorMove (s : State) : State :=
  if 1 ≤ mirState s ∧ mirState s ≤ 3 ∧ unitState s (U.netPort (s.robj Obj.MIRROR_PORT_NOW)) ≠ 3 ∧ mirrorPort s ≠ 0 then
    s.setR Obj.MIRROR_PORT_NOW (mirrorPort s)
  else s

/-- The sessions that an address of a port carried close as it leaves use (15 R360). -/
def closeOn (s : State) (p : Nat) (gone : NetAddr → Bool) : State :=
  ((s.kdp.sessions.filter fun x => x.netPort == p && gone x.via).map (·.id)).foldl (fun s sid => closeSession s sid true .state) s

/-- Whether KDP is reachable on a READY port with NET_KDP 1 (15 R360). -/
def kdpReachable (s : State) : Bool := [1, 2].any fun p => unitState s (U.netPort p) == 3 && s.obj (U.netPort p) Obj.NET_KDP == 1

/-- A request that would leave KDP reachable on no READY port is refused with STATE (15 R360); else what follows a change of port `p`. -/
def netChange (s0 s : State) (p : Nat) : State × Status :=
  if kdpReachable s then (track (netUnits p) s0 (mirrorMove (configChanged s)), .ok) else (s0, .state)

/-- Turn a port on (15 R358, R359): the staged module type and the addressing in force come into use. -/
def netOn (s : State) (p : Nat) : State :=
  let s := updNet s p fun n => ({ n with pmd := s.obj (U.netPort p) Obj.NET_PMD } : NetPort).enabled
  s.setObj (U.netPort p) Obj.NET_ENABLE_STATE 1

/-- NET_ENABLE's own rule (15 R358, R360, 12 R298). -/
def netEnableRule : KEffect := fun c v s =>
  let u := c.unit
  let p := (pathLevels u).getD 1 0
  let st := s.obj u Obj.NET_ENABLE_STATE
  let s1 := s.setObj u Obj.NET_ENABLE v.toNat
  if v.toNat = 1 then
    let s1 := if st = 0 then (if (netOf s p).offTimerDone then netOn s1 p else s1.setObj u Obj.NET_ENABLE_STATE 3)
      else if st = 2 then s1.setObj u Obj.NET_ENABLE_STATE 3 else s1
    (track (netUnits p) s (mirrorMove (configChanged s1)), .ok)
  else
    let s1 := if st = 1 then
        closeOn (updNet (((abortLoop s1 u).setObj u Obj.NET_ENABLE_STATE 2).setObj u Obj.NET_LINK 0) p fun n => { n with addrHeld := false, offTimerDone := false }) p fun _ => true
      else if st = 3 then s1.setObj u Obj.NET_ENABLE_STATE (if (netOf s p).shut then 0 else 2) else s1
    netChange s s1 p

/-- The address part of a value under a prefix. -/
def netPrefix (bits plen addr : Nat) : Nat := addr / 2^(bits - plen)

/-- Whether a module address of a network port is in use (15 R346, R359): the link-local address always, the others once they are set or obtained. -/
def addrInUse (n : NetPort) : NetAddr → Bool
  | .linkLocal => true
  | .global6 => n.ipv6 != 0
  | .ipv4 => n.ipv4 != 0

/-- NET_APPLY's own rule (15 R359, R360): the staged addressing comes into force together. A gateway other than zero (log 86) is held against the staged
address and prefix of its family. -/
def netApply (c : KCtx) (_ : Nat) (s : State) : State × Status :=
  let u := c.unit
  let p := (pathLevels u).getD 1 0
  let num (o : Nat) : Nat := s.obj u o
  let blob (o : Nat) : Nat := beNat (s.blob u o)
  let mode := num Obj.NET_ADDR_MODE
  let ip6 := blob Obj.NET_IPV6
  let ip4 := blob Obj.NET_IPV4
  let p6 := num Obj.NET_IPV6_PREFIX
  let p4 := num Obj.NET_IPV4_PREFIX
  let gw6 := blob Obj.NET_GW6
  let gw4 := blob Obj.NET_GW4
  if (mode = 0 ∧ ip6 = 0) ∨ p6 < 1 ∨ 128 < p6 ∨ p4 < 1 ∨ 32 < p4 then (s, .range)
  else if (gw6 ≠ 0 ∧ netPrefix 128 p6 gw6 ≠ netPrefix 128 p6 ip6) ∨ (gw4 ≠ 0 ∧ netPrefix 32 p4 gw4 ≠ netPrefix 32 p4 ip4) then (s, .range)
  else
    let old := netOf s p
    let on := s.obj u Obj.NET_ENABLE_STATE = 1
    let s1 := updNet s p fun n =>
      let e := ({ n with mode := mode, ipv6 := ip6, prefix6 := p6, gw6 := gw6, ipv4 := ip4, prefix4 := p4, gw4 := gw4, vlan := num Obj.NET_VLAN, pcp := num Obj.NET_PCP } : NetPort).enabled
      if on then e else { e with addrHeld := false }
    let new := netOf s1 p
    let gone (a : NetAddr) : Bool := match a with
      | .linkLocal => false
      | .global6 => new.ipv6 != old.ipv6
      | .ipv4 => new.ipv4 != old.ipv4
    let (s2, st) := netChange s (closeOn s1 p gone) p
    if st = .ok then (record s2 Ev.NET_APPLIED u (0x200 + p) [p, mode, num Obj.NET_VLAN], .ok) else (s, st)

/-- A port's link comes up, trains or goes down, or its PHY reports a fault (15 R358). -/
def netLinkChange (s0 : State) (p link : Nat) (fault : Bool) : State :=
  let u := U.netPort p
  if ctlState s0 = 1 ∨ s0.obj u Obj.NET_ENABLE_STATE ≠ 1 ∨ AMap.has s0.ts.loops u then s0
  else
    let was := s0.obj u Obj.NET_LINK
    let s := (updNet s0 p fun n => { n with phyFault := fault }).setObj u Obj.NET_LINK link
    let s := if was = 2 ∧ link ≠ 2 then
        let s := s.bump u Obj.LINK_DOWNS
        record s Ev.NET_LINK_DOWN u (0x200 + p) [p, s.obj u Obj.LINK_DOWNS, s.obj u Obj.FEC_UNCORRECTABLE]
      else s
    track (netUnits p) s0 (mirrorMove s)

/-- SLAAC or DHCPv4 yields an address (15 R359). -/
def netObtained (s0 : State) (p addr : Nat) (v4 : Bool) : State :=
  let n := netOf s0 p
  if n.mode ≠ 1 ∨ s0.obj (U.netPort p) Obj.NET_ENABLE_STATE ≠ 1 ∨ s0.obj (U.netPort p) Obj.NET_LINK ≠ 2 ∨ addr = 0 then s0
  else
    let old := if v4 then n.ipv4 else n.ipv6
    let s := updNet s0 p fun n => if v4 then { n with ipv4 := addr % 2^32, addrHeld := true } else { n with ipv6 := addr, addrHeld := true }
    let s := if old ≠ 0 ∧ old ≠ (if v4 then addr % 2^32 else addr) then closeOn s p fun a => a == (if v4 then .ipv4 else .global6) else s
    track (netUnits p) s0 (mirrorMove s)

/-- A network port's shutdown has ended: MAC and PHY are off, and the minimum off time of 10 ms begins (15 R358, 12 Table CS-10). -/
def netShut (s0 : State) (p : Nat) : State :=
  let u := U.netPort p
  let st := s0.obj u Obj.NET_ENABLE_STATE
  if (st = 2 ∨ st = 3) ∧ ¬ (netOf s0 p).shut then
    let s := updNet s0 p fun n => { n with shut := true, phyFault := false }
    track (netUnits p) s0 (if st = 2 then s.setObj u Obj.NET_ENABLE_STATE 0 else s)
  else s0

/-- A network port's minimum off time has passed (12 R298): a queued enable is carried out. -/
def netOffDone (s0 : State) (p : Nat) : State :=
  let u := U.netPort p
  if (netOf s0 p).shut ∧ ¬ (netOf s0 p).offTimerDone then
    let s := updNet s0 p fun n => { n with offTimerDone := true, shut := false }
    if s.obj u Obj.NET_ENABLE_STATE = 3 then track (netUnits p) s0 (mirrorMove (netOn s p)) else s
  else s0

end Sys2Proof.Machine
end

