-- ==== Sys2Proof/Machine/KdpCmd.lean ====
section
/-! DEFINITION. The meanings of the session, event and network commands (chapter 15), and of the deferred enables that end here (12 R298). -/
namespace Sys2Proof.Machine
open Sys2Proof

/-! ## Sessions -/

/-- Meaning of OPEN (15 R346, R350, R353, R354): a role code outside R339 makes the body ill-formed. A datagram to another UDP port, or to an address that is
not in use, is none of the service's, and one that is no KDP message is discarded. -/
def execOpenSession (netPort : Fin 2) (via : NetAddr) (src : BitVec 128) (gram : Datagram) (role : BitVec 8) (nc : BitVec 128) (wellFormed : Bool)
    (s : State) : Host.Outcome State Fault Refusal :=
  let p := netPort.val + 1
  .next (if !kdpAnswers s || !netServes s p || !addrInUse (netOf s p) via then s
    else
      let s := s.frameIn p
      if gram.dstPort.toNat ≠ s.robj Obj.KDP_UDP_PORT then s
      else if !gram.fit then s.bumpR Obj.DISCARDS
      else if !wellFormed || role.toNat == 0 || decide (4 < role.toNat) then refuseOpen s p src.toNat 0 .range []
      else openRequest s p via src.toNat gram.srcPort.toNat role.toNat nc)

/-- The course of a PROVE of a handshake, pending or expired, up to its check (15 R346, R347). -/
def proveArrives (gram : Datagram) (h : Handshake) (f : State → State) (s : State) : State :=
  if !netServes s h.netPort then s
  else
    let s := s.frameIn h.netPort
    if gram.dstPort.toNat ≠ h.udpPort then s
    else if !gram.fit then s.bumpR Obj.DISCARDS
    else f s

/-- Meaning of PROVE (15 R350, R351, Table OD-17): an expired handshake gets TIMEOUT, and an identifier that names none is discarded. `proof`: none where the
body has not its form. -/
def execProve (sid : BitVec 32) (proof : Option (BitVec 256)) (gram : Datagram) (s : State) : Host.Outcome State Fault Refusal :=
  .next (if !kdpAnswers s then s
    else match s.kdp.handshakes.find? fun h => h.id == sid.toNat with
      | some h => proveArrives gram h (fun s => match proof with
        | some p => proveHandshake s h p
        | none => refuseOpen s h.netPort h.src h.id .range []) s
      | none => match s.kdp.expired.find? fun h => h.id == sid.toNat with
        | some h => proveArrives gram h (fun s =>
          refuseOpen { s with kdp := { s.kdp with expired := s.kdp.expired.filter fun x => x.id != h.id } } h.netPort h.src h.id .timeout []) s
        | none => s.bumpR (if gram.fit then Obj.MAC_FAILS else Obj.DISCARDS))

/-- Meaning of HANDSHAKE_EXPIRY (15 R350). -/
def execHandshakeExpiry (sid : BitVec 32) (s : State) : Host.Outcome State Fault Refusal :=
  .next (match s.kdp.handshakes.find? fun h => h.id == sid.toNat with
    | some x => { s with kdp := { s.kdp with
        handshakes := s.kdp.handshakes.filter fun h => h.id != sid.toNat
        expired := (x :: s.kdp.expired).take 8 } }
    | none => s)

/-- Meaning of CLOSE from the station (15 R353): the response, and then the close. -/
def execCloseSession (req : KReq) (s : State) : Host.Outcome State Fault Refusal :=
  .next (kdpRequest req (.closeSession req) (fun x s => (closeSession s x.id false .ok, {})) s)

/-- Meaning of KEEPALIVE (15 R353): a request that does nothing else. -/
def execKeepalive (req : KReq) (s : State) : Host.Outcome State Fault Refusal :=
  .next (kdpRequest req (.keepalive req) (fun _ s => (s, {})) s)

/-- Meaning of IDLE_TIMEOUT (15 R353). -/
def execIdleTimeout (sid : BitVec 32) (s : State) : Host.Outcome State Fault Refusal :=
  .next (match findSession s sid.toNat with
    | some _ => closeSession (s.bumpR Obj.IDLE_CLOSES) sid.toNat true .timeout
    | none => s)

/-- Meaning of BACKOFF_EXPIRY (15 R354): an hour without a further doubling clears F and B. -/
def execBackoffExpiry (addr : BitVec 128) (s : State) : Host.Outcome State Fault Refusal := .next (clearBackoff s addr.toNat)

/-- SESSION_KILL's own rule (15 R353). For an identifier that names no session, RANGE, and as the reason sent, STATE (DESIGN CHOICE, log 82). -/
def sessionKill (c : KCtx) (arg : Nat) (s : State) : State × Status :=
  match findSession s arg with
  | none => (s, .range)
  | some x => if 3 ≤ x.role ∧ c.role ≠ x.role then (s, .denied) else (closeSession s arg true .state, .ok)

/-- What SESSION_KILL does as a run (15 R353). -/
def sessionKillEffect : KEffect := runCommand false (fun _ => false) sessionKill

/-- Meaning of SESSION_KILL (15 R353). -/
def execSessionKill (req : KReq) (arg : BitVec 32) (s : State) : Host.Outcome State Fault Refusal :=
  .next (kdpObject req (.sessionKill req arg) 0x1C21 (.exec arg.toNat) sessionKillEffect s)

/-- ROLE_KEY's own rule (15 R352): 32 zero bytes unset the key; the role's other sessions close. -/
def roleKeyRule : KEffect := fun c v s =>
  let key := match v with
    | .bytes bs => beNat bs
    | .num n => n
  let s := { s with kdp := { s.kdp with roleKeys := AMap.set s.kdp.roleKeys c.sub (BitVec.ofNat 256 key) } }
  let s := configChanged (s.setR (Obj.ROLE_KEY_SET + c.sub) (b2n (key != 0)))
  let others := (s.kdp.sessions.filter fun x => x.role == c.sub && x.id != c.sid).map (·.id)
  let s := others.foldl (fun s sid => closeSession s sid true .auth) s
  (record s Ev.ROLE_KEY_CHANGED U.root 0xFFFF [c.sub, c.sid, others.length], .ok)

/-- Meaning of ROLE_KEY (15 R352). -/
def execRoleKey (req : KReq) (key : BitVec 256) (s : State) : Host.Outcome State Fault Refusal :=
  .next (kdpObject req (.roleKey req key) 0x1C10 (.write (.bytes (beBytes 32 key.toNat))) roleKeyRule s)

/-- Meaning of UNKNOWN_OPCODE (15 R341, Table OD-9): a code that the table gives stations names another command; EVENT is no request, and a station that
sends it is answered as for an unknown one (DEDUCED, log 137). -/
def execUnknownOpcode (req : KReq) (opcode : BitVec 8) (s : State) : Host.Outcome State Fault Refusal :=
  .next (if [0x01, 0x02, 0x03, 0x04, 0x10, 0x11, 0x12, 0x20, 0x21, 0x22, 0x23, 0x24, 0x30, 0x32].contains opcode.toNat then s
    else kdpRequest req (.unknownOpcode req opcode) (fun _ s => (s, { status := .range })) s)

/-! ## Events -/

/-- Meaning of SUBSCRIBE (15 R356, Table OD-13). -/
def execSubscribe (req : KReq) (slot minSev : BitVec 8) (subsystems : BitVec 16) (tree : BitVec 32) (s : State) : Host.Outcome State Fault Refusal :=
  .next (kdpRequest req (.subscribe req slot minSev subsystems tree) (fun x s =>
    if slot.toNat = 0 ∨ 4 < slot.toNat ∨ 4 < minSev.toNat then (s, { status := .range })
    else match expandPath s.variant tree.toNat with
      | .error e => (s, { status := e })
      | .ok _ =>
        let f : Filter := { minSev := minSev.toNat, subsystems := subsystems.toNat, unit := tree.toNat }
        (updSession s x.id fun y =>
          { y with filters := if subsystems = 0 then AMap.del y.filters slot.toNat else AMap.set y.filters slot.toNat f }, {})) s)

/-- Meaning of EVENT_SEND (15 R357). -/
def execEventSend (sid : BitVec 32) (s : State) : Host.Outcome State Fault Refusal :=
  .next (match findSession s sid.toNat with
    | some x => if x.evWaiting.isEmpty || !kdpAnswers s || !netServes s x.netPort then s else sendEvent s sid.toNat
    | none => s)

/-- Meaning of EVENT_RESEND (15 R357): an EVENT unacknowledged for 200 ms is sent again, and dropped after 5 times. -/
def execEventResend (sid : BitVec 32) (seq : BitVec 64) (s : State) : Host.Outcome State Fault Refusal :=
  .next (match findSession s sid.toNat with
    | some x =>
      if !kdpAnswers s || !netServes s x.netPort then s
      else match x.evUnacked.find? fun m => m.seq == seq.toNat with
        | some m =>
          if m.resends < 5 then
            let again (e : EvMsg) : EvMsg := if e.seq = m.seq then { e with resends := e.resends + 1 } else e
            (updSession s x.id fun y => { y with evUnacked := y.evUnacked.map again }).emit (.kdpEvent x.id m.seq m.lost m.recs)
          else dropEvent s x.id m.seq
        | none => s
    | none => s)

/-- Meaning of EVENT_ACK (15 R357): every EVENT up to ACK_SEQ is acknowledged; a number not yet sent acknowledges all that was sent. -/
def execEventAck (req : KReq) (ackSeq : BitVec 64) (s : State) : Host.Outcome State Fault Refusal :=
  .next (kdpRequest req (.eventAck req ackSeq) (fun x s =>
    (updSession s x.id fun y => { y with evUnacked := y.evUnacked.filter fun m => decide (ackSeq.toNat < m.seq) }, {})) s)

/-! ## Network ports -/

/-- Meaning of NET_ENABLE (15 R358, R360). -/
def execNetEnable (req : KReq) (value : BitVec 8) (s : State) : Host.Outcome State Fault Refusal :=
  .next (kdpObject req (.netEnable req value) 0x1C30 (.write (.num value.toNat)) netEnableRule s)

/-- Meaning of NET_SHUTDOWN_DONE (15 R358, 12 Table CS-10). -/
def execNetShutdownDone (port : Fin 2) (s : State) : Host.Outcome State Fault Refusal := .next (netShut s (port.val + 1))

/-- What NET_APPLY does as a run (15 R359, R360). -/
def netApplyEffect : KEffect := runCommand false (fun _ => false) netApply

/-- Meaning of NET_APPLY (15 R359, R360). -/
def execNetApply (req : KReq) (arg : BitVec 32) (s : State) : Host.Outcome State Fault Refusal :=
  .next (kdpObject req (.netApply req arg) 0x1C35 (.exec arg.toNat) netApplyEffect s)

/-- Meaning of NET_LINK_CHANGE (15 R358). -/
def execNetLinkChange (port : Fin 2) (link : Fin 3) (phyFault : Bool) (s : State) : Host.Outcome State Fault Refusal :=
  .next (netLinkChange s (port.val + 1) link.val phyFault)

/-- Meaning of NET_ADDRESS_OBTAINED (15 R359). -/
def execNetAddressObtained (port : Fin 2) (addr : BitVec 128) (v4 : Bool) (s : State) : Host.Outcome State Fault Refusal :=
  .next (netObtained s (port.val + 1) addr.toNat v4)

/-! ## Deferred enables and a port's release -/

/-- Meaning of ENABLE_PENDING_DONE (12 R298, Table CS-10): the minimum off time of a function has passed, and an enable that waited for it is
carried out. -/
def execEnablePendingDone (fn : PendFn) (s : State) : Host.Outcome State Fault Refusal :=
  .next (match fn with
    | .port n => portOffDone s (n.val + 1)
    | .mirror => mirrorOffDone s
    | .bank b => bankOffDone s b
    | .net p => netOffDone s (p.val + 1)
    | .wake =>
      if 3 ≤ s.robj Obj.PSTATE_NOW ∧ ¬ s.cs.offDone then
        let s := { s with cs := { s.cs with offDone := true } }
        if s.cs.wakeQueued then wakeAsked s else s
      else s)

/-- Meaning of PORT_RST_N_DEASSERT (02 R53, 12 R292): the port trains again; in P3 or P4, or while the module enters one of them, it asks for a
wake. -/
def execPortRstNDeassert (port : Fin 16) (s : State) : Host.Outcome State Fault Refusal :=
  let n := port.val + 1
  .next (if (getPort s n).rstLow then
      let s := putPort s n { getPort s n with rstLow := false }
      if 3 ≤ s.robj Obj.PSTATE_NOW ∨ 2 ≤ s.robj Obj.ENTRY_STATE then wakeAsked s
      else track (portUnits n) s (startTraining s n)
    else s)

/-! ## The end of an integrity halt -/

/-- Meaning of INTEGRITY_DUMP_DONE (10 R243 step 3): the stores are in the flush area, and the event recorder's buffer is flushed from now on
(16 R373). `dumpMib`: the dump's length. -/
def execIntegrityDumpDone (dumpMib : BitVec 32) (s : State) : Host.Outcome State Fault Refusal :=
  .next (if s.phase = .halted ∧ ¬ s.dp.dumpDone ∧ s.pw.flush.isNone then
      let (s1, d) := captureDump s [1, 2, 3, 4, 5, 6] 6 s.dp.integrity.at_ dumpMib.toNat true
      if d.isSome then
        let s2 := { s1 with dp := { s1.dp with dumpDone := true }, recorder := { s1.recorder with logOpen := true } }
        track [U.ctl, U.root] s (flushIfOpen s2)
      else s
    else s)

/-- INTEGRITY_RECOVER's own rule (10 R244): the HALTED latch clears and the value is recorded. -/
def integrityRecover (arg : Nat) (s : State) : State × Status :=
  if s.phase = .halted ∧ s.dp.dumpDone then
    let s1 := { s with
      hm := { s.hm with latchHalted := false, recoverValue := arg }
      dp := { s.dp with integrity := { s.dp.integrity with recovery := arg }, recoverAccepted := true, recoverOwed := true } }
    (syncRecs s1 [1, 2], .ok)
  else (s, .state)

/-- What INTEGRITY_RECOVER does as a run (10 R244). -/
def integrityRecoverEffect : KEffect := runCommand false (fun _ => false) fun _ a s => integrityRecover a s

/-- Meaning of INTEGRITY_RECOVER (10 R244). -/
def execIntegrityRecover (req : KReq) (arg : BitVec 32) (s : State) : Host.Outcome State Fault Refusal :=
  .next (kdpObject req (.integrityRecover req arg) 0x1830 (.exec arg.toNat) integrityRecoverEffect s)

end Sys2Proof.Machine
end

