-- ==== Sys2Proof/Machine/HmCmd.lean ====
section
/-! DEFINITION. The meanings of the commands of the harbourmaster store and the event recorder (chapter 16). -/
namespace Sys2Proof.Machine
open Sys2Proof

/-! ## The store -/

/-- HM_STORE_NOW's own rule (16 R363): a store at once, or PENDING and merged with the store that waits. -/
def storeNowRule (_ : KCtx) (_ : Nat) (s : State) : State × Status :=
  if s.hm.storeRunning ∨ ¬ s.hm.storeSpaced then
    let s' := requestStore s
    ({ s' with hm := { s'.hm with cmdWaits := true } }, .pending)
  else (requestStore s, .pending)

/-- What HM_STORE_NOW does as a run (16 R363). -/
def hmStoreNowEffect : KEffect := runCommand true (fun _ => false) storeNowRule

/-- Meaning of HM_STORE_NOW (16 R363). -/
def execHmStoreNow (req : KReq) (arg : BitVec 32) (s : State) : Host.Outcome State Fault Refusal :=
  .next (kdpObject req (.hmStoreNow req arg) 0x1D01 (.exec arg.toNat) hmStoreNowEffect s)

/-- Meaning of SHADOW_STORE_START (16 R363): 10 s have passed since the start of the previous store, and a request that waits runs. -/
def execShadowStoreStart (s : State) : Host.Outcome State Fault Refusal :=
  .next (if s.hm.running ∧ ¬ s.hm.storeSpaced then
      let s := { s with hm := { s.hm with storeSpaced := true } }
      if s.hm.storeWaiting ∧ ¬ s.hm.storeRunning then startStore s else s
    else s)

/-- Meaning of SHADOW_STORE_DONE (16 R364). `bad`: the pages whose second verify failed. -/
def execShadowStoreDone (bad : List (Fin 256)) (s : State) : Host.Outcome State Fault Refusal :=
  .next (if s.hm.storeRunning then storeDone s (bad.map (·.val)) else s)

/-- Meaning of VDD_AON_LOW (16 R363): the harbourmaster stores at once; with the module down it stops, and its next start is the next from VIN; the TAP,
which VDD_AON powers (14 R321), loses its instruction. While the
module is up only the store follows (DESIGN CHOICE, log 85). -/
def execVddAonLow (s : State) : Host.Outcome State Fault Refusal :=
  .next (if s.hm.running then
      let s1 := storeNow (writeOpsec s)
      if s.phase = .cold ∨ s.phase = .latchedOff then
        let s2 := { s1 with
          hm := { s1.hm with running := false, storeRunning := false, storeWaiting := false, cmdWaits := false }
          pins := { s1.pins with tapIr := 0, tapDrive := 0 } }
        track [U.hm, U.rail 18, U.power, U.root] s1 s2
      else s1
    else s)

/-- HM_WINDOW_DATA's own rule (16 R365). -/
def windowRule : KEffect := fun _ v s =>
  let a := s.obj U.hm Obj.HM_WINDOW_ADDR
  match v with
  | .bytes bs => if windowOpen a then (windowWrite s a bs, .ok) else (s, .denied)
  | .num _ => (s, .range)

/-- Meaning of HM_WINDOW_DATA (16 R365). -/
def execHmWindowData (req : KReq) (data : List Byte) (s : State) : Host.Outcome State Fault Refusal :=
  .next (kdpObject req (.hmWindowData req data) 0x1D03 (.write (.bytes data)) windowRule s)

/-- Meaning of OPERATING_SECONDS_WRITE (16 R369). -/
def execOperatingSecondsWrite (s : State) : Host.Outcome State Fault Refusal := .next (if s.hm.running then writeOpsec s else s)

/-! ## The recorder -/

/-- Meaning of RECORDER_FLUSH (16 R373): where the log area can be programmed. -/
def execRecorderFlush (s : State) : Host.Outcome State Fault Refusal := .next (if s.recorder.accepting then flushIfOpen s else s)

/-- RECORDER_FREEZE's own rule (16 R377). -/
def freezeRule : KEffect := fun c v s =>
  if v.toNat = 0 then (endFreeze s 1, .ok)
  else if s.recorder.freezeSid.isSome then (s, .ok)
  else ({ s.setR Obj.RECORDER_FREEZE 1 with recorder := { s.recorder with freezeSid := some c.sid, freezeLost := s.robj Obj.FROZEN_LOST } }, .ok)

/-- Meaning of RECORDER_FREEZE (16 R377). -/
def execRecorderFreeze (req : KReq) (value : BitVec 8) (s : State) : Host.Outcome State Fault Refusal :=
  .next (kdpObject req (.recorderFreeze req value) 0x1D10 (.write (.num value.toNat)) freezeRule s)

/-- Meaning of FREEZE_MAX_EXPIRY (16 R377). -/
def execFreezeMaxExpiry (s : State) : Host.Outcome State Fault Refusal := .next (endFreeze s 2)

/-- Meaning of LOG_EXPORT (16 R376). -/
def execLogExport (req : KReq) (s : State) : Host.Outcome State Fault Refusal :=
  .next (kdpObject req (.logExport req) 0x1D14 .read plainWrite s)

/-- Whether the reserved bits of a trigger's object are clear (00 R8): bits 1:0 of its unit path (15 Table OD-1) and its last byte (16 Table HM-6). -/
def triggerReservedOk (e : List Byte) : Bool := leNat (e.take 4) % 4 == 0 && e.getD 7 0 == 0

/-- Whether an object that a trigger names is of a scalar type (16 R378): unit path, index, subindex and a reserved byte. -/
def triggerObjectOk (e : List Byte) : Bool :=
  let o := leNat ((e.drop 4).take 2) * 256 + (e.getD 6 0).toNat
  (match objRow? o with
    | some r => r.type != .blob && r.type != .text && r.type != .cmd
    | none => false)

/-- TRIGGER's own rule (16 R378, Table HM-6). -/
def triggerRule : KEffect := fun c v s =>
  match v with
  | .num _ => (s, .range)
  | .bytes b =>
    let n := (b.getD 3 0).toNat
    if 2 < (b.getD 2 0).toNat ∨ 5 < n ∨ (b.drop 4).take 4 ≠ [0, 0, 0, 0] then (s, .range)
    else if !(List.range 5).all (fun k => triggerReservedOk ((b.drop (8 + 8 * k)).take 8)) then (s, .range)
    else if (List.range n).all (fun k => triggerObjectOk ((b.drop (8 + 8 * k)).take 8)) then (s.setBlob c.unit c.obj b, .ok)
    else (s, .range)

/-- Meaning of TRIGGER (16 R378). -/
def execTrigger (req : KReq) (data : List Byte) (s : State) : Host.Outcome State Fault Refusal :=
  .next (kdpObject req (.trigger req data) 0x1D20 (.write (.bytes data)) triggerRule s)

end Sys2Proof.Machine
end

