-- ==== Sys2Proof/Machine/PcCmd.lean ====
section
/-! DEFINITION. The meanings of the commands of the performance counters (chapter 17). -/
namespace Sys2Proof.Machine
open Sys2Proof

/-- The types of unit in which an event arises (17 Table PC-1): `none` where any unit's does. NONE arises in no unit and is scoped to the module. -/
def pcScopeType (code : Nat) : Option UnitType :=
  if 0x02 ≤ code ∧ code ≤ 0x0D then some .hostPort
  else if 0x12 ≤ code ∧ code ≤ 0x14 then some .stack
  else if 0x15 ≤ code ∧ code ≤ 0x17 then some .die
  else if code = 0x18 then none
  else if code = 0x19 then some .hbmStack
  else if code = 0x1A then some .netPort
  else some .module

/-- Whether Table PC-1 marks an event as sampled. -/
def pcSampled (code : Nat) : Bool := (0x02 ≤ code && code ≤ 0x0A) || code == 0x12 || code == 0x17

/-- Whether a scope names the module, a unit of the event's scope type, or a group unit above such units (17 R382). -/
def pcScopeOk (s : State) (code scope : Nat) : Bool :=
  match expandPath s.variant scope with
  | .error _ => false
  | .ok us => us.all fun u =>
    u == 0 || (match pcScopeType code with
      | none => true
      | some .hostPort => u == U.ports || unitType u == .hostPort
      | some .stack => u == U.media || unitType u == .parityGroup || unitType u == .stack
      | some .die => u == U.media || unitType u == .parityGroup || unitType u == .stack || unitType u == .die
      | some .hbmStack => u == U.hbm || unitType u == .hbmStack
      | some .netPort => u == U.net || unitType u == .netPort
      | some _ => false)

/-- PC_CONFIG's own rule (17 R382, Table PC-2): OVF is read-only. While the counter unit is in reset, a write that R382 does not refuse answers BUSY
(12 R288; DESIGN CHOICE, log 133). -/
def pcConfigRule : KEffect := fun c v s =>
  let n := c.sub
  let x := v.toNat
  let ev := pcReg s Obj.PC_EVENT n
  if bitOf x 0 ∧ (¬ pcScopeOk s ev (pcReg s Obj.PC_SCOPE n) ∨ (bitOf x 3 ∧ ¬ pcSampled ev)) then (s, .range)
  else if counterUnitReset s then (s, .busy)
  else (s.setObj U.ctl c.obj (setBit x 2 (bitOf (pcReg s Obj.PC_CONFIG n) 2)), .ok)

/-- Meaning of PC_CONFIG (17 R382). -/
def execPcConfig (req : KReq) (value : BitVec 32) (s : State) : Host.Outcome State Fault Refusal :=
  .next (kdpObject req (.pcConfig req value) 0x1E03 (.write (.num value.toNat)) pcConfigRule s)

/-- PC_COUNT's own rule (17 R383): the value is preset at once (DESIGN CHOICE, log 139) and OVF clears. -/
def pcCountRule : KEffect := fun c v s =>
  if counterUnitReset s then (s, .busy)
  else
  let s := s.setObj U.ctl c.obj v.toNat
  (s.setObj U.ctl (Obj.PC_CONFIG + c.sub) (setBit (pcReg s Obj.PC_CONFIG c.sub) 2 false), .ok)

/-- Meaning of PC_COUNT (17 R383). -/
def execPcCount (req : KReq) (value : BitVec 64) (s : State) : Host.Outcome State Fault Refusal :=
  .next (kdpObject req (.pcCount req value) 0x1E04 (.write (.num value.toNat)) pcCountRule s)

/-- Meaning of PC_OVERFLOW (17 R384): `count` further occurrences of the counter's event, in a slice where it has one, that carry it past 2^48 − 1. -/
def execPcOverflow (counter : Fin 8) (count : Fin 65) (slice : Option (Fin 16)) (s : State) : Host.Outcome State Fault Refusal :=
  let n := counter.val + 1
  let counts := bitOf (pcReg s Obj.PC_CONFIG n) 0 && s.obj U.ctl Obj.PC_FREEZE == 0 && !counterUnitReset s
  .next (if counts && decide (2^48 ≤ pcReg s Obj.PC_COUNT n + count.val) then pcAdd s n count.val (slice.map (·.val)) else s)

/-- PC_FREEZE's own rule (17 R385, R387), at once (DESIGN CHOICE, log 139). -/
def pcFreezeRule : KEffect := fun c v s =>
  if counterUnitReset s then (s, .busy)
  else if v.toNat = 0 then (s.setObj c.unit c.obj 0, .ok)
  else if s.obj U.ctl Obj.PC_FREEZE = 1 then (s, .ok)
  else (abandonSamples (s.setObj c.unit c.obj 1), .ok)

/-- Meaning of PC_FREEZE (17 R385). -/
def execPcFreeze (req : KReq) (value : BitVec 8) (s : State) : Host.Outcome State Fault Refusal :=
  .next (kdpObject req (.pcFreeze req value) 0x1E08 (.write (.num value.toNat)) pcFreezeRule s)

/-- PC_SNAP as the present cycle gives it (17 Table PC-3). -/
def pcSnapBytes (s : State) : List Byte :=
  let ovf := (List.range 8).foldl (fun a i => if bitOf (pcReg s Obj.PC_CONFIG (i + 1)) 2 then a + 2^i else a) 0
  leBytes 8 (s.obj U.ctl Obj.PC_CYCLES) ++ ((List.range 8).map fun i => leBytes 8 (pcReg s Obj.PC_COUNT (i + 1))).flatten
    ++ leBytes 1 (s.obj U.ctl Obj.PC_FREEZE) ++ leBytes 1 ovf ++ leBytes 6 0

/-- What PC_SNAPSHOT does as a run (17 R386). -/
def pcSnapshotEffect : KEffect := runCommand false (fun _ => false) fun _ _ s => (s.setBlob U.ctl Obj.PC_SNAP (pcSnapBytes s), .ok)

/-- Meaning of PC_SNAPSHOT (17 R386). -/
def execPcSnapshot (req : KReq) (arg : BitVec 32) (s : State) : Host.Outcome State Fault Refusal :=
  .next (kdpObject req (.pcSnapshot req arg) 0x1E09 (.exec arg.toNat)
    pcSnapshotEffect s)

/-- Meaning of SAMPLE_TAKEN (17 R387): a transaction of an armed slice completes. `port`: 0 for an internal agent; `event` and `unit`: what Table PC-1
makes of the transaction, and where it arises. -/
def execSampleTaken (slice : Fin 16) (port : Fin 17) (src : BitVec 16) (line : BitVec 51) (write : Bool) (event : Fin 27) (unit : BitVec 32)
    (s : State) : Host.Outcome State Fault Refusal :=
  .next (sampleStep s slice port src.toNat line.toNat write [(event.val, unit.toNat)])

/-- Meaning of SAMPLE_EXPORT (17 R388). -/
def execSampleExport (req : KReq) (s : State) : Host.Outcome State Fault Refusal :=
  .next (kdpObject req (.sampleExport req) 0x1E11 .read plainWrite s)

/-- Append a completed window to the history of a port unit, 0 for /5 (17 R390). While frozen it counts as missed instead. -/
def appendWindow (s : State) (key unit : Nat) (w : BwWindow) : State :=
  if s.obj U.ctl Obj.PC_FREEZE = 1 then s.bump unit Obj.BW_MISSED
  else
    let s := { s with pc := { s.pc with hist := AMap.upd s.pc.hist key [] fun h => (w :: h).take 32 } }
    (s.raiseTo unit Obj.BW_READ_MAX w.read).raiseTo unit Obj.BW_WRITE_MAX w.write

/-- The windows that end at the present cycle are appended (17 R389, R390). -/
def windowsEnd (s : State) : State :=
  let c := s.obj U.ctl Obj.PC_CYCLES
  let start := c - bwLength s
  let win (n : Nat) : BwWindow :=
    let w := AMap.getD s.pc.bw n {}
    if w.start = start then w else { start := start }
  let ws := allPorts.map fun n => (n, win n)
  let total : BwWindow := { start := start, read := (ws.map (·.2.read)).sum, write := (ws.map (·.2.write)).sum }
  let s := ws.foldl (fun s p => appendWindow s p.1 (U.port p.1) p.2) s
  let s := appendWindow s 0 U.ports total
  { s with pc := { s.pc with bw := [], bwFrom := c } }

/-- Meaning of BW_WINDOW_BOUNDARY (17 R389, R390): PC_CYCLES stands at a multiple of L, and the windows since the last one are complete. A window in
progress at a write of BW_WINDOW_US was discarded and is not appended. -/
def execBwWindowBoundary (s : State) : Host.Outcome State Fault Refusal :=
  let c := s.obj U.ctl Obj.PC_CYCLES
  .next (if c % bwLength s = 0 ∧ s.pc.bwFrom + bwLength s ≤ c ∧ ¬ counterUnitReset s then windowsEnd s else s)

/-- BW_WINDOW_US's own rule (17 R390): the history clears, and windows count from the next boundary of the new length. -/
def bwWindowRule : KEffect := fun c v s =>
  let s := s.setObj c.unit c.obj v.toNat
  let l := bwLength s
  ({ s with pc := { s.pc with bw := [], hist := [], bwFrom := (s.obj U.ctl Obj.PC_CYCLES / l + 1) * l } }, .ok)

/-- Meaning of BW_WINDOW_US (17 R390). -/
def execBwWindowUs (req : KReq) (value : BitVec 32) (s : State) : Host.Outcome State Fault Refusal :=
  .next (kdpObject req (.bwWindowUs req value) 0x1E20 (.write (.num value.toNat)) bwWindowRule s)

end Sys2Proof.Machine
end

