-- ==== Sys2Proof/Machine/ResetCmd.lean ====
section
/-! DEFINITION. The meanings of the commands of clocks, resets and power states (chapter 12). -/
namespace Sys2Proof.Machine
open Sys2Proof

/-! ## Clocks -/

/-- Ports whose SerDes take a copy of REFCLK (14 R328): J1 those of links 0 to 3, J2 those of links 4 to 7. -/
def copyPorts (copy : Fin 2) : List Nat := allPorts.filter fun n => decide ((n ≤ 8) = (copy = 0))

/-- Meaning of REF_CLOCK_LOST (12 R279, 14 R328): the copy on J1 (0) or J2 (1), its measured offset, and the ports that cannot hold lock. The loss of
J1's copy puts the root PLL on the backup reference. -/
def execRefClockLost (copy : Fin 2) (ppm : BitVec 16) (unlocked : List (Fin 16)) (s : State) : Host.Outcome State Fault Refusal :=
  .next (
    if (if copy = 0 then s.cs.lost1 else s.cs.lost2) then s
    else
      let mine := (copyPorts copy).filter fun n => unlocked.any fun q => q.val + 1 == n
      let s0 := s
      let s := if copy = 0 then { s.setR Obj.CLOCK_SOURCE 1 with cs := { s.cs with lost1 := true, lostAt := s.now } } else { s with cs := { s.cs with lost2 := true } }
      let gone := (mine.filter fun n => decide (2 ≤ preg s n Obj.LINK_STATE)).length
      let s := (copyPorts copy).foldl startTraining (mine.foldl linkLost (s.bumpR Obj.REF_FAULTS))
      let s := if s.hm.running then recordHm s Ev.REF_CLOCK_LOST U.root 0xFFFF [ppm.toNat, gone] else s
      track (allPorts.map U.port ++ [U.ports, U.root]) s0 s)

/-- Meaning of REF_CLOCK_RESTORED (12 R279, 14 R328). -/
def execRefClockRestored (copy : Fin 2) (s : State) : Host.Outcome State Fault Refusal :=
  .next (
    if ¬ (if copy = 0 then s.cs.lost1 else s.cs.lost2) then s
    else
      let s0 := s
      let s := if copy = 0 then
          let s := { s.setR Obj.CLOCK_SOURCE 0 with cs := { s.cs with lost1 := false } }
          if s.hm.running then recordHm s Ev.REF_CLOCK_RESTORED U.root 0xFFFF [usBetween s.cs.lostAt s.now] else s
        else { s with cs := { s.cs with lost2 := false } }
      track (allPorts.map U.port ++ [U.ports, U.root]) s0 ((copyPorts copy).foldl startTraining s))

/-! ## Resets -/

/-- Meaning of MRST_N_ACCEPT (12 R282, R283): once per low period. -/
def execMrstNAccept (s : State) : Host.Outcome State Fault Refusal :=
  .next (if s.hm.running ∧ ¬ s.cs.mrstLow then (warmReset { s with cs := { s.cs with mrstLow := true } } true).1 else s)

/-- Meaning of MRST_N_RELEASE (12 R282): a controller held in reset at the end of SEQUENCING goes on to BOOTING. -/
def execMrstNRelease (s : State) : Host.Outcome State Fault Refusal :=
  let s := { s with cs := { s.cs with mrstLow := false } }
  .next (if s.phase = .sequencing ∧ s.pw.seqDone then enterBooting s true else s)

/-- What WARM_RESET does as a run (12 R283). -/
def warmResetEffect : KEffect := runCommand false (fun _ => false) fun _ _ s => warmReset s false

/-- Meaning of WARM_RESET (12 R283). -/
def execWarmReset (req : KReq) (arg : BitVec 32) (s : State) : Host.Outcome State Fault Refusal :=
  .next (kdpObject req (.warmReset req arg) 0x1A02 (.exec arg.toNat) warmResetEffect s)

/-- Meaning of SERVICE_RESET_DONE (12 R284). -/
def execServiceResetDone (s : State) : Host.Outcome State Fault Refusal :=
  .next (if s.phase = .running ∧ s.cs.reset_ ≠ 0 then serviceResetDone s else s)

/-- The five ordinary cores restart (12 R286), their gates opened where a freeze has closed them (R280): sessions close, rekey passes are interrupted (10 R238), and the third restart within 3600 operating seconds takes the other image where it is valid. -/
def watchdogRestart (s0 : State) (core : Nat) : State :=
  let s := interruptRekeys (openGate (resetSessions (closeAll (endFreeze (noteReset s0 4) 4) false)) 0)
  let times := s.hm.opsec :: s.cs.wdTimes.filter fun t => decide (s.hm.opsec < t + 3600)
  let other := if s.ts.image = 0 then s.ts.slotB else s.ts.slotA
  let s := if s.ts.activating = 0 then s else endPause (endRun U.root Obj.FW_ACTIVATE .state s)
  let s := { s with cs := { s.cs with wdTimes := times, wdRunning := true } }
  let s := if 3 ≤ times.length ∧ other.valid then syncRec { s with ts := { s.ts with image := 1 - s.ts.image } } 9 else s
  trackAll s0 (record s Ev.WATCHDOG_RESTART U.root 0xFFFF [core + 1, times.length, s.ts.image + 1])

/-- Meaning of WATCHDOG_RESTART (12 R286, Table CS-3). -/
def execWatchdogRestart (core : Fin 5) (s : State) : Host.Outcome State Fault Refusal :=
  .next (match s.phase with
    | .booting => if s.cs.fwRunning then bootFailed s else s
    | .loading => trackAll s (restartLoading (noteReset s 4))
    | .running => if s.robj Obj.PSTATE_NOW < 3 ∧ s.cs.reset_ = 0 then watchdogRestart s core else s
    | .halted | .flushing => watchdogRestart s core
    | .cold | .sequencing | .latchedOff => s)

/-- Meaning of WATCHDOG_RESTART_DONE (12 R286): the firmware's duties go on. -/
def execWatchdogRestartDone (s : State) : Host.Outcome State Fault Refusal :=
  let s' := { s with cs := { s.cs with wdRunning := false } }
  .next (if s.cs.wdRunning ∧ s.phase = .running then resumeRekeys s' else s')

/-- Meaning of FLUSH_CORE_WATCHDOG (12 R281, Table CS-3): the flush core runs again from its image; nothing else is reached. -/
def execFlushCoreWatchdog (s : State) : Host.Outcome State Fault Refusal := .next s

/-- Whether a block reports idle (12 Table CS-5). -/
def blockIdle (s : State) (b : Nat) : Bool :=
  match b with
  | 1 => !(s.wharf.lighters.any fun l => l.state == 2)
  | 2 => s.mc.windows.all fun p => p.2.resv.isNone
  | 3 => s.mc.windows.all fun p => p.2.queue.isEmpty
  | 4 => s.dp.scrub.isNone
  | 5 => mirState s == 0
  | 6 => s.obj U.ctl Obj.PC_FREEZE == 0
  | _ => false

/-- BLOCK_RESET's own rule (12 R287). -/
def blockReset (b : Nat) (s : State) : State × Status :=
  if blockInReset s b then (s, .busy)
  else if ¬ blockIdle s b then (s, .state)
  else
    let s := if b = 6 then clearCounterUnit s else s
    let s := openGate s b
    (s.setR (Obj.BLOCK_STATE + b) 1, .pending)

/-- What BLOCK_RESET does as a run (12 R287). -/
def blockResetEffect : KEffect := runCommand false (fun _ => false) fun _ b s => blockReset b s

/-- Meaning of BLOCK_RESET (12 R287). -/
def execBlockReset (req : KReq) (arg : BitVec 32) (s : State) : Host.Outcome State Fault Refusal :=
  .next (kdpObject req (.blockReset req arg) 0x1A06 (.exec arg.toNat) blockResetEffect s)

/-- Meaning of BLOCK_RELEASE (12 R288): while the block's clock-ready is deasserted the release is held. In a service reset the block is released with the slice
logic (12, corner cases). -/
def execBlockRelease (block : Fin 6) (clockReady : Bool) (s : State) : Host.Outcome State Fault Refusal :=
  let b := block.val + 1
  .next (
    if ¬ blockInReset s b ∨ s.cs.reset_ ≠ 0 then s
    else if clockReady then settle (endRun U.root Obj.BLOCK_RESET .ok (s.setR (Obj.BLOCK_STATE + b) 0))
    else s.setR (Obj.BLOCK_STATE + b) 2)

/-! ## Power states -/

/-- Meaning of P1_IDLE_EXPIRY (12 R289 to R291). -/
def execP1IdleExpiry (s : State) : Host.Outcome State Fault Refusal :=
  .next (
    if ¬ pstateOpen s ∨ s.robj Obj.PSTATE_NOW ≠ 0 ∨ s.robj Obj.PSTATE_AUTO_MAX = 0 ∨ s.robj Obj.ENTRY_STATE ≠ 0 then s
    else match firstRefuser s [7] with
      | some r => noteRefusal s 1 r
      | none => setPstate s 1)

/-- Whether a media command, a queued lighter or a proof read is pending (12 Table CS-6). -/
def mediaPending (s : State) : Bool :=
  !s.ml.reads.isEmpty || !s.ml.queues.all (·.2.isEmpty) || !s.wharf.lighters.isEmpty || !s.ag.passes.isEmpty

/-- Meaning of P2_IDLE_EXPIRY (12 R289 to R291, Table CS-6): in P1. The refusers are tested first, and counted. -/
def execP2IdleExpiry (s : State) : Host.Outcome State Fault Refusal :=
  .next (
    if ¬ pstateOpen s ∨ s.robj Obj.PSTATE_NOW ≠ 1 ∨ s.robj Obj.PSTATE_AUTO_MAX ≠ 2 ∨ s.robj Obj.ENTRY_STATE ≠ 0 then s
    else match firstRefuser s [1, 3, 5, 6, 7, 8] with
      | some r => noteRefusal s 2 r
      | none => if mediaPending s then s else setPstate s 2)

/-- Meaning of P2_EXIT_DONE (12 R289): accesses wait on the exit no longer. -/
def execP2ExitDone (s : State) : Host.Outcome State Fault Refusal := .next { s with cs := { s.cs with p2Exit := false } }

/-- What PSTATE_REQUEST does as a run (12 R290): an abort and a retarget are taken from any session (log 10). -/
def pstateEffect : KEffect := runCommand false (fun a => a == 0 || a == 4) fun _ a s => pstateRequest a s

/-- PSTATE_REQUEST with an argument (12 R290). -/
def pstateExec (req : KReq) (i : Instr) (arg : Nat) (s : State) : State := kdpObject req i 0x1A10 (.exec arg) pstateEffect s

/-- Meaning of PSTATE_REQUEST 0 (12 R290). -/
def execPstateRequest0 (req : KReq) (s : State) : Host.Outcome State Fault Refusal := .next (pstateExec req (.pstateRequest0 req) 0 s)
/-- Meaning of PSTATE_REQUEST 3 (12 R290). -/
def execPstateRequest3 (req : KReq) (s : State) : Host.Outcome State Fault Refusal := .next (pstateExec req (.pstateRequest3 req) 3 s)
/-- Meaning of PSTATE_REQUEST 4 (12 R290). -/
def execPstateRequest4 (req : KReq) (s : State) : Host.Outcome State Fault Refusal := .next (pstateExec req (.pstateRequest4 req) 4 s)

/-- Meaning of PSTATE_PREP_DONE (12 R290). -/
def execPstatePrepDone (s : State) : Host.Outcome State Fault Refusal := .next (if prepDone s then startEntering s else s)

/-- Meaning of PSTATE_PREP_TIMEOUT (12 R290): while a waiting refuser holds, the entry is aborted, and the one that held longest is counted, of those that
hold; with none the preparation is over. The timer pauses with the firmware (R286). -/
def execPstatePrepTimeout (longest : WaitRefuser) (s : State) : Host.Outcome State Fault Refusal :=
  .next (
    if s.robj Obj.ENTRY_STATE ≠ 1 ∨ ¬ firmwareOn s then s
    else match firstRefuser s [longest.id, 1, 5, 6, 7] with
      | some r => noteRefusal (abortEntry s) s.cs.target r
      | none => if prepDone s then startEntering s else s)

/-- Meaning of PSTATE_ENTRY_DONE (12 R290). -/
def execPstateEntryDone (s : State) : Host.Outcome State Fault Refusal :=
  .next (if s.phase = .running ∧ 2 ≤ s.robj Obj.ENTRY_STATE ∧ s.robj Obj.PSTATE_NOW < 3 then finishEntry s else s)

/-- Meaning of PSTATE_WAKE_TIMER (12 R292). -/
def execPstateWakeTimer (s : State) : Host.Outcome State Fault Refusal :=
  .next (if s.phase = .running ∧ 3 ≤ s.robj Obj.PSTATE_NOW ∧ s.robj Obj.PSTATE_WAKE_TIMER ≠ 0 then wakeAsked s else s)

/-- Meaning of WAKE_STEP_DONE (12 R293). `bad`: of the map load from P4, the segments and areas whose copies do not read back. -/
def execWakeStepDone (bad : List (Nat × Fin 2)) (s : State) : Host.Outcome State Fault Refusal := .next (wakeStep s bad)

/-- What PAD_HOLD_RELEASE does as a run (12 R294). -/
def padHoldReleaseEffect : KEffect := runCommand false (fun _ => false) fun _ _ s =>
  (if s.robj Obj.PAD_HOLD = 1 then drivePins (s.setR Obj.PAD_HOLD 0) else s, .ok)

/-- Meaning of PAD_HOLD_RELEASE (12 R294). -/
def execPadHoldRelease (req : KReq) (arg : BitVec 32) (s : State) : Host.Outcome State Fault Refusal :=
  .next (kdpObject req (.padHoldRelease req arg) 0x1A20 (.exec arg.toNat) padHoldReleaseEffect s)

/-- What RETENTION_FREEZE does as a run (12 R296). -/
def retentionFreezeEffect : KEffect := runCommand false (fun _ => false) fun _ _ s =>
  if (refuserHolds s 4 ∧ s.phase ≠ .halted) ∨ s.phase = .flushing then (s, .state) else if s.robj Obj.FROZEN = 1 then (s, .ok) else (setFrozen s 1, .ok)

/-- Meaning of RETENTION_FREEZE (12 R296). -/
def execRetentionFreeze (req : KReq) (arg : BitVec 32) (s : State) : Host.Outcome State Fault Refusal :=
  .next (kdpObject req (.retentionFreeze req arg) 0x1A22 (.exec arg.toNat) retentionFreezeEffect s)

/-- What RETENTION_RESUME does as a run (12 R296). -/
def retentionResumeEffect : KEffect := runCommand false (fun _ => false) fun _ _ s =>
  (settle (setFrozen s 0), .ok)

/-- Meaning of RETENTION_RESUME (12 R296). -/
def execRetentionResume (req : KReq) (arg : BitVec 32) (s : State) : Host.Outcome State Fault Refusal :=
  .next (kdpObject req (.retentionResume req arg) 0x1A23 (.exec arg.toNat) retentionResumeEffect s)

end Sys2Proof.Machine
end

