-- ==== Sys2Proof/Machine/StartCmd.lean ====
section
/-! DEFINITION. The meanings of the commands of a start (01 R23, 12 R300, 16 R369, 18 R404). -/
namespace Sys2Proof.Machine
open Sys2Proof

/-- Meaning of VIN_GOOD_500MS (01 Table AX-8, 13 R312): from COLD, and from LATCHED_OFF once input power has been away, with THERMAL_LATCH clear and
PWRFAIL_N deasserted. `moduleId`: the straps as sampled (14 R326). -/
def execVinGood500ms (moduleId : Fin 16) (s : State) : Host.Outcome State Fault Refusal :=
  .next (
    if s.hm.running ∧ ¬ s.pw.pwrfailLow ∧ ¬ s.hm.latchThermal ∧ (s.phase = .cold ∨ (s.phase = .latchedOff ∧ s.pw.vinRemoved)) then
      enterSequencing { s with pw := { s.pw with vinGood := true } } moduleId
    else s)

/-- Meaning of THERMAL_LATCH_CLEAR (13 R312, 01 Table AX-8): VIN has been below 4.0 V for 2 s. A new input application begins. While the harbourmaster
does not run, it clears the latch as it starts (DEDUCED, log 68). -/
def execThermalLatchClear (s : State) : Host.Outcome State Fault Refusal :=
  .next (
    if s.phase ≠ .cold ∧ s.phase ≠ .latchedOff then s
    else
      let s := { s with pw := { s.pw with vinGood := false, vinRemoved := true, seqTries := 0 } }
      if s.hm.running ∧ s.hm.latchThermal then syncRec { s with hm := { s.hm with latchThermal := false } } 1 else s)

/-- Meaning of HARBOURMASTER_START (16 R369): slots whose check does not hold, by 2 × record (A) and 2 × record + 1 (B), and the counters' cells whose
check does not hold. -/
def execHarbourmasterStart (badSlots : List (Fin 26)) (badPower badOpsec : List (Fin 16)) (s : State) : Host.Outcome State Fault Refusal :=
  .next (if s.hm.running then s else harbourmasterStart s (badSlots.map (·.val)) (badPower.map (·.val)) (badOpsec.map (·.val)))

/-- Meaning of SEQUENCING_STEP_DONE (11 R262). -/
def execSequencingStepDone (s : State) : Host.Outcome State Fault Refusal := .next (sequencingStep s)

/-- Meaning of SEQUENCING_STEP_TIMEOUT (11 R262): a fault of a rail of the step under way. -/
def execSequencingStepTimeout (rail : Fin 18) (s : State) : Host.Outcome State Fault Refusal :=
  .next (if s.phase = .sequencing ∧ ¬ s.pw.seqDone ∧ (stepUp s).contains (rail.val + 1) then railFault s (.rail rail) else s)

/-- Meaning of FIRMWARE_RUNNING (18 R404, 12 R300), which no invalid image brings about (R400, 00 R5): the copies of the active and of the previous plan that cannot be read (09 R219). The recorder takes
records from now on (16 R373), and the key records are read again (16 R368). -/
def execFirmwareRunning (activeBad prevBad : Fin 3) (s : State) : Host.Outcome State Fault Refusal :=
  .next (
    if s.phase ≠ .booting ∨ s.cs.fwRunning ∨ s.ts.retryWait ∨ ¬ (slotNow s).valid then s
    else
      let s := { s with cs := { s.cs with fwRunning := true }, recorder := { s.recorder with accepting := true } }
      finishBoot (noteStart (planFallback (readRec (readRec s 11) 12) activeBad prevBad) 2))

/-- Meaning of BOOT_FAILED (18 R404). -/
def execBootFailed (cause : BootFail) (s : State) : Host.Outcome State Fault Refusal :=
  .next (
    let can := match cause with
      | .invalidImage | .noFirmware => !s.cs.fwRunning
      | .watchdog => s.cs.fwRunning
      | .hbmTraining => !s.cs.hbmTrained
    if s.phase = .booting ∧ ¬ s.ts.retryWait ∧ ¬ s.cs.bootHeld ∧ can = true then bootFailed s else s)

/-- Meaning of BOOT_RETRY_TIMER (18 R404). -/
def execBootRetryTimer (s : State) : Host.Outcome State Fault Refusal :=
  .next (if s.phase = .booting ∧ s.ts.retryWait then { s with ts := { s.ts with retryWait := false }, cs := { s.cs with stepAt := s.now } } else s)

/-- Meaning of HBM_TRAINED (12 R300, 10 R245): the remap tables of the store are applied. -/
def execHbmTrained (s : State) : Host.Outcome State Fault Refusal :=
  .next (if s.phase = .booting ∧ s.cs.fwRunning ∧ ¬ s.cs.hbmTrained then
      finishBoot (noteStart (track ((List.range 8).map (fun i => U.hbmStack (i + 1)) ++ [U.hbm, U.root]) s { s with cs := { s.cs with hbmTrained := true } }) 3)
    else s)

/-- Meaning of MEDIA_LINKS_TRAINED (12 R300): the stacks of banks that are on are in service. -/
def execMediaLinksTrained (s : State) : Host.Outcome State Fault Refusal :=
  .next (if s.phase = .booting ∧ s.cs.fwRunning ∧ ¬ s.cs.linksTrained then
      let s' := { s with cs := { s.cs with linksTrained := true }, pw := { s.pw with bankLink := [] }, media := { s.media with offStacks := stacksNotOn s } }
      finishBoot (noteStart (trackAll s s') 4)
    else s)

/-- Meaning of MAP_LOAD_DONE (07 R180, 11 R273): the segments and areas whose copies do not read back. -/
def execMapLoadDone (bad : List (Nat × Fin 2)) (s : State) : Host.Outcome State Fault Refusal :=
  .next (if s.phase = .loading ∧ ¬ s.cs.mapLoaded ∧ ¬ s.pw.incomplete then mapLoad s bad else s)

/-- Meaning of FLUSH_AREA_REPLAY_DONE (11 R274). -/
def execFlushAreaReplayDone (s : State) : Host.Outcome State Fault Refusal :=
  .next (if s.phase = .loading ∧ s.cs.mapLoaded ∧ ¬ s.cs.replayDone then replayFlushArea s else s)

/-- Meaning of MEMORY_ACTIVE_RAISE (12 R300, 01 R24). -/
def execMemoryActiveRaise (s : State) : Host.Outcome State Fault Refusal := .next (if gateOpen s then raiseMemoryActive s else s)

end Sys2Proof.Machine
end

