-- ==== Sys2Proof/Machine/TestOps.lean ====
section
/-! DEFINITION. Operations of loopbacks, self-tests, the service header and firmware activation (chapter 18), and of the TAP (14 R321). -/
namespace Sys2Proof.Machine
open Sys2Proof

/-! ## Loopbacks -/

/-- The depths that an interface unit offers (18 Table TS-1). -/
def loopDepths (u : Nat) : Nat :=
  match unitType u with
  | .hostPort => 4
  | .stack | .netPort => 3
  | .hbmStack => 2
  | _ => 1

/-- Whether a unit's loopback is permitted now (18 Table TS-1). -/
def loopAllowed (s : State) (u : Nat) : Bool :=
  let lv := pathLevels u
  match unitType u with
  | .hostPort => !portHasDecoder s (lv.getD 1 0)
  | .stack =>
    let g := lv.getD 1 0 - 1
    (List.range 16).all fun i => decide (i + 1 = lv.getD 2 0) || !(stackGone s g i || AMap.has s.ts.loops (U.stack (g + 1) (i + 1)))
  | .netPort =>
    let q := if lv.getD 1 0 = 1 then 2 else 1
    unitState s (U.netPort q) == 3 && s.obj (U.netPort q) Obj.NET_KDP == 1
  | .hbmStack => s.cs.bootHeld
  | _ => true

/-- The units whose state a loopback of a unit changes. -/
def loopUnits (u : Nat) : List Nat := unitAncestors u

/-- The group and stack indices, from 0, of a stack's path. -/
def stackIdx (u : Nat) : Nat × Nat := ((pathLevels u).getD 1 0 - 1, (pathLevels u).getD 2 0 - 1)

/-- A loopback of a unit begins (18 R394). -/
def putLoop (s : State) (u : Nat) (l : Loopback) : State := { s with ts := { s.ts with loops := AMap.set s.ts.loops u l } }

/-- A loopback begins (18 R393, R394): the unit leaves service. -/
def startLoop (s0 : State) (u ms : Nat) : State :=
  let l : Loopback := { depth := s0.obj u Obj.LB_DEPTH, at_ := s0.hm.opsec, since := s0.now, ms := ms }
  let n := (pathLevels u).getD 1 0
  let s := match unitType u with
    | .hostPort =>
      let s := putLoop (resetPort s0 n .hot) u l
      startTraining (s.setObj u Obj.LINK_STATE 0) n
    | .stack => stacksAway (putLoop s0 u l) [stackIdx u]
    | .netPort => mirrorMove ((putLoop s0 u l).setObj u Obj.NET_LINK 0)
    | _ => putLoop s0 u l
  track (loopUnits u) s0 s

/-- A unit returns to service after its loopback (18 R394): a host link trains again, a stack leaves the unavailable state. -/
def loopToService (s : State) (u : Nat) : State :=
  match unitType u with
  | .hostPort => resetPort s ((pathLevels u).getD 1 0) .hot
  | .stack => if (stacksOut s).contains u then s else stacksBack s [stackIdx u]
  | _ => s

/-- LB_RUN's own rule (18 R394, 15 R342). -/
def loopRun (c : KCtx) (arg : Nat) (s : State) : State × Status :=
  let u := c.unit
  if arg = 0 then
    if AMap.has s.ts.loops u then (track (loopUnits u) s (loopToService (abortLoop s u) u), .ok) else (s, .ok)
  else if AMap.has s.ts.loops u then (s, .busy)
  else if !loopAllowed s u then (s, .state)
  else if 4 ≤ s.ts.loops.length then (s, .busy)
  else (startLoop s u arg, .pending)

/-- A loopback has ended by itself (18 Table TS-2). -/
def loopEnds (s : State) (u : Nat) (noLock : Bool) (duration checked errors lane : Nat) : State :=
  match AMap.get? s.ts.loops u with
  | none => s
  | some l =>
    let st := if noLock then 2 else if errors = 0 then 0 else 1
    let r := lbResult l.depth st (if noLock then duration else l.ms) checked errors (if errors = 0 then 0xFFFF else lane) l.at_
    track (loopUnits u) s (loopToService (endLoop s u r) u)

/-! ## Self-tests -/

/-- Log SELFTEST_FAILED (18 Table TS-7). How it encodes the test the spec does not say. -/
def logSelftest (s : State) (u test count first : Nat) : State :=
  record s Ev.SELFTEST_FAILED u 0xFFFF [u, Config.unstated 16 [test], count, first]

/-- SRAM_SELFTEST's own rule (18 R395, R397). -/
def sramSelftest (_ : KCtx) (arg : Nat) (s : State) : State × Status :=
  let go (s : State) : State × Status :=
    (({ s with ts := { s.ts with sramTest := some arg } } : State).setBlob U.ctl Obj.SRAM_RESULT (testResult 3 0 0 0), .pending)
  if arg = 0xFFFF then
    if s.cs.bootHeld then go (loseBerth { s with hc := { s.hc with sectors := [], plru := [], pbuf := [] } }) else (s, .state)
  else if wayDisabled s (arg / 16) (arg % 16) then go s else (s, .state)

/-- An SRAM self-test has finished (18 R395, R397): the mark of a way follows the result; a test of every array offers each failing word group to
the remap tables. `failing`: slice and word group. -/
def sramDone (s : State) (passed : Nat) (failing : List (Nat × Nat)) (ms : Nat) : State :=
  match s.ts.sramTest with
  | none => s
  | some arg =>
    let bad := !failing.isEmpty
    let s := ({ s with ts := { s.ts with sramTest := none } }).setBlob U.ctl Obj.SRAM_RESULT (testResult (b2n bad) passed failing.length ms)
    let s := if arg = 0xFFFF then failing.foldl (fun s f => remapGroup s (sramTable f.1) U.ctl f.2 1) s
      else
        let rest := s.hc.passed.filter (· != arg)
        { s with hc := { s.hc with passed := if bad then rest else rest ++ [arg] } }
    let s := if bad then logSelftest s U.ctl 1 failing.length ((failing.head?.map (·.2)).getD 0) else s
    endRun U.ctl Obj.SRAM_SELFTEST .ok s

/-- STACK_SELFTEST's own rule (18 R396). On a stack that is dead or unavailable it is refused (DEDUCED, log 84). -/
def stackSelftest (c : KCtx) (_ : Nat) (s : State) : State × Status :=
  let (g, st) := stackIdx c.unit
  if stackGone s g st then (s, .state)
  else (({ s with ts := { s.ts with stackTests := s.ts.stackTests ++ [c.unit] } } : State).setBlob c.unit Obj.STACK_RESULT (testResult 3 0 0 0), .pending)

/-- A bit mask over the dies of a stack. -/
def dieMask (p : Nat → Bool) : Nat := (List.range 32).foldl (fun a d => if p d then a + 2^d else a) 0

/-- The 256 plate programs and the block reset of a stack self-test on a die (18 R396), as Table PC-1 of 17 and Table AG-1 of 09 count them. The spare block
taken is the one that the die gives next (DESIGN CHOICE, log 84), and its erase count rises (09 R224). -/
def countDieTest (s : State) (g st d : Nat) : State :=
  let u := U.die (g + 1) (st + 1) (d + 1)
  let limit := (dieRec s g st d).trimMax
  let s := (List.range 256).foldl (fun s _ => noteLoops s u limit) (pcCount (pcCount s 0x15 u none 256) 0x16 u none 1)
  match nextSpare s g st (32768 * d) with
  | some b =>
    let s := { s with ag := { s.ag with dies := AMap.upd s.ag.dies u {} fun x => { x with tested := AMap.set x.tested b (AMap.getD x.tested b 0 + 1) } } }
    noteErases s u 1 (spareErase s g st d b)
  | none => s

/-- The work of a stack self-test on the dies that it took. -/
def countStackTest (s : State) (g st mask : Nat) : State := ((List.range 32).filter (bitOf mask)).foldl (fun s d => countDieTest s g st d) s

/-- A stack self-test has finished (18 R396): live dies without a spare block were skipped. `failed`: bit d − 1 for die d. -/
def stackTestDone (s : State) (g st failed : Nat) : State :=
  let u := U.stack (g + 1) (st + 1)
  if s.ts.stackTests.contains u then
    let live (d : Nat) : Bool := !s.media.deadDies.contains (U.die (g + 1) (st + 1) (d + 1))
    let spare (d : Nat) : Bool := !lacksSpare s g st (32768 * d)
    let bad := dieMask fun d => live d && spare d && bitOf failed d
    let good := dieMask fun d => live d && spare d && !bitOf failed d
    let skipped := dieMask fun d => live d && !spare d
    let s := ({ s with ts := { s.ts with stackTests := s.ts.stackTests.filter (· != u) } }).setBlob u Obj.STACK_RESULT (testResult (b2n (bad != 0)) good bad skipped)
    let dies := (List.range 32).filter (bitOf bad)
    let s := countStackTest s g st (bad + good)
    let s := if bad = 0 then s else logSelftest s u 2 dies.length (dies.headD 0 + 1)
    endRun u Obj.STACK_SELFTEST .ok s
  else s

/-- HBM_SELFTEST's own rule (18 R397). -/
def hbmSelftest (c : KCtx) (_ : Nat) (s : State) : State × Status :=
  if s.cs.bootHeld then
    (({ s with ts := { s.ts with hbmTests := s.ts.hbmTests ++ [c.unit] } } : State).setBlob c.unit Obj.HBM_RESULT (testResult 3 0 0 0), .pending)
  else (s, .state)

/-- An HBM self-test has finished (18 R397). `failing`: channel and word group. -/
def hbmDone (s : State) (n passed : Nat) (failing : List (Nat × Nat)) (ms : Nat) : State :=
  let u := U.hbmStack n
  if s.ts.hbmTests.contains u then
    let bad := !failing.isEmpty
    let s := ({ s with ts := { s.ts with hbmTests := s.ts.hbmTests.filter (· != u) } }).setBlob u Obj.HBM_RESULT (testResult (b2n bad) passed failing.length ms)
    let s := failing.foldl (fun s f => remapGroup s (hbmTable n (f.1 + 1)) u f.2 1) s
    let s := if bad then logSelftest s u 3 failing.length ((failing.head?.map (·.2)).getD 0) else s
    endRun u Obj.HBM_SELFTEST .ok s
  else s

/-! ## The hold at the end of BOOTING -/

/-- A held start continues into LOADING (18 R399). -/
def leaveHold (s : State) : State := if s.phase = .booting ∧ s.cs.bootHeld then enterLoading (abortDestructive s) else s

/-! ## The service header and the TAP -/

/-- JTAG_UNLOCK's own rule (18 R398). -/
def jtagUnlock (c : KCtx) (arg : Nat) (s : State) : State × Status :=
  if moduleState s = 6 then (s, .state)
  else if arg = 0 then ({ s with ts := { s.ts with unlocker := none } }, .ok)
  else (record { s with ts := { s.ts with unlocker := some c.sid } } Ev.JTAG_UNLOCKED U.root 0xFFFF [arg, sessionSource s c.sid], .ok)

/-- Whether a debug read is refused by the protected ranges (10 R247): a store that may hold bytes of any range whole, the media by address. -/
def tapDenied (s : State) (store : TapStore) (addr size : Nat) : Bool :=
  !s.dp.protApplied.isEmpty && (match store with
    | .homeCache | .berth | .combining | .prefetch | .wharf | .readCache | .flushArea => true
    | .media => s.dp.protApplied.any fun p => decide (addr < p.2.1 + p.2.2) && decide (p.2.1 < addr + size)
    | .map | .metadata | .journal | .recorder => false)

/-- The sideband cells as SAMPLE/PRELOAD captures them (14 R321, Table MB-3), in an order of the model's own (log 84): the outputs' levels, then
PWRFAIL_N, MRST_N, PORT_RST_N from port 1 on, a low pin as 1, and the MODULE_ID pins, whose straps may have changed since they were sampled (R326). -/
def tapCells (s : State) (straps : Nat) : Nat :=
  let bits := [stageSlow s, stageStop s, alertLow s, thermLow s, s.pw.pwrfailLow, s.cs.mrstLow] ++ allPorts.map fun n => (getPort s n).rstLow
  bits.foldr (fun b a => b2n b + 2 * a) 0 + 2^22 * straps

/-- Load an instruction into the TAP and shift its result out. -/
def tapLoad (s : State) (ir value : Nat) : State := ({ s with pins := { s.pins with tapIr := ir } }).emit (.jtag ir value)

/-- Capture the cells and shift them out under an instruction. The levels of the MODULE_ID pins, which no command gives, are a free value (log 84). -/
def tapCapture (s : State) (ir : Nat) : State :=
  let (straps, s) := s.draw 16
  tapLoad s ir (tapCells s straps)

/-- A TAP instruction (14 R321, 10 R247). What a debug read shows is a free value (log 84); an instruction that the TAP does not accept is
executed as BYPASS. -/
def tapInstruction (s : State) (ir : TapIr) : State :=
  match ir with
  | .bypass | .other => tapLoad s 0 0
  | .idcode => tapLoad s 1 0x1D4B2473
  | .sample => tapCapture s 2
  | .extest drive =>
    if s.phase = .cold ∨ s.phase = .latchedOff then
      tapCapture { s with pins := { s.pins with tapDrive := drive.toNat } } 3
    else tapCapture s 2
  | .debug store addr size =>
    match s.ts.unlocker with
    | none => tapLoad s 0 0
    | some sid =>
      if tapDenied s store addr.toNat size.toNat then
        let s := (s.bumpR Obj.PROT_DENIED).setBlob U.root Obj.PROT_LAST_DENIED (leBytes 1 1 ++ leBytes 7 0 ++ leBytes 8 addr.toNat)
        let s := record s Ev.PROTECTED_ACCESS_DENIED U.root 0xFFFF [1, addr.toNat, sessionSource s sid]
        { s with pins := { s.pins with tapIr := 4 } }
      else
        let (v, s) := s.draw (2^(8 * size.toNat))
        tapLoad s 4 v

/-! ## Firmware -/

/-- Whether an image is valid (18 R400, Table TS-4). -/
def imageValid (s : State) (img : List Byte) : Bool :=
  let body := img.drop 256
  decide (256 ≤ img.length) && leNat (img.take 4) == 0x4B465749 && leNat ((img.drop 4).take 2) == 1 && leNat ((img.drop 12).take 4) == body.length
    && decide (body.length ≤ 67108608) && (img.drop 16).take 48 == Config.sha384 body
    && Config.signatureOk (img.take 112) ((img.drop 112).take 96) && decide (s.robj Obj.FW_SVN_FUSED ≤ leNat ((img.drop 6).take 2))

/-- The slot not in use. -/
def slotOther (s : State) : FwSlot := if s.ts.image = 0 then s.ts.slotB else s.ts.slotA
/-- Change the slot not in use. -/
def putOther (s : State) (x : FwSlot) : State :=
  if s.ts.image = 0 then { s with ts := { s.ts with slotB := x } } else { s with ts := { s.ts with slotA := x } }

/-- FW_INSTALL's own rule (18 R401). With the other slot the target of an activation, at the next start or under way, no slot is free: STATE (DESIGN CHOICE, log 88).
`verified`: the written copy verifies; where it does not the slot is invalid. -/
def fwInstall (verified : Bool) (s : State) : State × Status :=
  let img := s.ts.staged
  if s.ts.nextStart ∨ s.ts.activating ≠ 0 then (s, .state)
  else if !imageValid s img then (s, .integrity)
  else if !verified then (syncRec (putOther s {}) 9, .integrity)
  else
    let x : FwSlot := { valid := true, svn := leNat ((img.drop 6).take 2), version := leNat ((img.drop 8).take 4), at_ := s.hm.opsec }
    (syncRec (putOther s x) 9, .ok)

/-- FW_ACTIVATE 1's own rule (18 R402, R403). -/
def fwActivateLive (s : State) : State × Status :=
  if s.phase ≠ .running ∨ s.robj Obj.ENTRY_STATE ≠ 0 ∨ 3 ≤ s.robj Obj.PSTATE_NOW then (s, .state)
  else if s.ag.applying.isSome ∨ s.ts.activating ≠ 0 ∨ (List.range 6).any (fun b => blockInReset s (b + 1)) then (s, .busy)
  else if !(slotOther s).valid then (s, .integrity)
  else ({ s with ts := { s.ts with activating := 1 } }, .pending)

/-- FW_ACTIVATE 2's own rule (18 R402). -/
def fwActivateNext (s : State) : State × Status := (syncRec { s with ts := { s.ts with nextStart := true } } 9, .ok)

/-- The module pauses for a live activation (18 R403 step 3). -/
def beginPause (s : State) : State := if s.ts.activating = 1 then { s with ts := { s.ts with activating := 2, pauseAt := s.now } } else s

/-- The old image resumes (18 R403). The run's final status is TIMEOUT (DESIGN CHOICE, log 88). -/
def fwFailed (s : State) (stage : Nat) : State :=
  if s.ts.activating = 0 then s
  else
    let s := beginPause s
    let us := usBetween s.ts.pauseAt s.now
    let s := s.setR Obj.FW_LAST_PAUSE us
    endPause (endRun U.root Obj.FW_ACTIVATE .timeout (record s Ev.FW_ACTIVATION_FAILED U.root 0xFFFF [(slotOther s).version, us, stage]))

/-- The new image has taken over (18 R403 steps 4 and 5). Where the image of the other slot is not valid by R400 no other image runs (R5): the check of
step 1 fails and the old image resumes, its stage 1 of R403. -/
def fwActivated (s : State) : State :=
  if s.ts.activating = 0 then s
  else if !(slotOther s).valid then fwFailed s 1
  else
    let s := beginPause s
    let us := usBetween s.ts.pauseAt s.now
    let old := (slotNow s).version
    let s := syncRec { s with ts := { s.ts with image := 1 - s.ts.image, nextStart := false } } 9
    let s := (s.setR Obj.FW_LAST_PAUSE us).bumpR Obj.FW_ACTIVATIONS
    endPause (endRun U.root Obj.FW_ACTIVATE .ok (record s Ev.FW_ACTIVATED U.root 0xFFFF [old, (slotNow s).version, us]))

end Sys2Proof.Machine
end

