-- ==== Sys2Proof/Machine/TestCmd.lean ====
section
/-! DEFINITION. The meanings of the test and firmware commands (chapter 18), and of the TAP's instructions (14 R321). -/
namespace Sys2Proof.Machine
open Sys2Proof

/-- What LB_RUN does as a run (18 R393, R394). -/
def lbRunEffect : KEffect := runCommand true (· == 0) loopRun

/-- Meaning of LB_RUN (18 R393, R394). -/
def execLbRun (req : KReq) (arg : BitVec 32) (s : State) : Host.Outcome State Fault Refusal :=
  .next (kdpObject req (.lbRun req arg) 0x1F01 (.exec arg.toNat) lbRunEffect s)

/-- Meaning of LB_RUN_END (18 R394). -/
def execLbRunEnd (unit : BitVec 32) (noLock : Bool) (duration : BitVec 32) (checked errors : BitVec 64) (firstLane : BitVec 16) (s : State) :
    Host.Outcome State Fault Refusal :=
  .next (loopEnds s unit.toNat noLock duration.toNat checked.toNat errors.toNat firstLane.toNat)

/-- What SRAM_SELFTEST does as a run (18 R395, R397). -/
def sramSelftestEffect : KEffect := runCommand false (fun _ => false) sramSelftest

/-- Meaning of SRAM_SELFTEST (18 R395, R397). -/
def execSramSelftest (req : KReq) (arg : BitVec 32) (s : State) : Host.Outcome State Fault Refusal :=
  .next (kdpObject req (.sramSelftest req arg) 0x1F08 (.exec arg.toNat) sramSelftestEffect s)

/-- Meaning of SRAM_SELFTEST_DONE (18 R395). -/
def execSramSelftestDone (passed : BitVec 32) (failing : List (Fin 16 × BitVec 32)) (ms : BitVec 32) (s : State) : Host.Outcome State Fault Refusal :=
  .next (sramDone s passed.toNat (failing.map fun f => (f.1.val, f.2.toNat)) ms.toNat)

/-- What STACK_SELFTEST does as a run (18 R396). -/
def stackSelftestEffect : KEffect := runCommand false (fun _ => false) stackSelftest

/-- Meaning of STACK_SELFTEST (18 R396). -/
def execStackSelftest (req : KReq) (arg : BitVec 32) (s : State) : Host.Outcome State Fault Refusal :=
  .next (kdpObject req (.stackSelftest req arg) 0x1F0A (.exec arg.toNat) stackSelftestEffect s)

/-- Meaning of STACK_SELFTEST_DONE (18 R396). -/
def execStackSelftestDone (group : Fin 2) (stack : Fin 16) (failed : BitVec 32) (s : State) : Host.Outcome State Fault Refusal :=
  .next (stackTestDone s group stack failed.toNat)

/-- What HBM_SELFTEST does as a run (18 R397). -/
def hbmSelftestEffect : KEffect := runCommand false (fun _ => false) hbmSelftest

/-- Meaning of HBM_SELFTEST (18 R397). -/
def execHbmSelftest (req : KReq) (arg : BitVec 32) (s : State) : Host.Outcome State Fault Refusal :=
  .next (kdpObject req (.hbmSelftest req arg) 0x1F0C (.exec arg.toNat) hbmSelftestEffect s)

/-- Meaning of HBM_SELFTEST_DONE (18 R397). -/
def execHbmSelftestDone (stack : Fin 8) (passed : BitVec 32) (failing : List (Fin 16 × BitVec 32)) (ms : BitVec 32) (s : State) :
    Host.Outcome State Fault Refusal :=
  .next (hbmDone s (stack.val + 1) passed.toNat (failing.map fun f => (f.1.val, f.2.toNat)) ms.toNat)

/-- What JTAG_UNLOCK does as a run (18 R398). -/
def jtagUnlockEffect : KEffect := runCommand false (fun _ => false) jtagUnlock

/-- Meaning of JTAG_UNLOCK (18 R398). -/
def execJtagUnlock (req : KReq) (arg : BitVec 32) (s : State) : Host.Outcome State Fault Refusal :=
  .next (kdpObject req (.jtagUnlock req arg) 0x1F14 (.exec arg.toNat) jtagUnlockEffect s)

/-- Meaning of JTAG_UNLOCK_EXPIRY (18 R398). -/
def execJtagUnlockExpiry (s : State) : Host.Outcome State Fault Refusal := .next { s with ts := { s.ts with unlocker := none } }

/-- Meaning of JTAG_INSTRUCTION (14 R321): the port is powered from VDD_AON. -/
def execJtagInstruction (ir : TapIr) (s : State) : Host.Outcome State Fault Refusal := .next (tapInstruction s ir)

/-- What BOOT_RELEASE does as a run (18 R399). -/
def bootReleaseEffect : KEffect := runCommand false (fun _ => false) fun _ _ s => (leaveHold s, .ok)

/-- Meaning of BOOT_RELEASE (18 R399). Outside a hold it has nothing to release. -/
def execBootRelease (req : KReq) (arg : BitVec 32) (s : State) : Host.Outcome State Fault Refusal :=
  .next (kdpObject req (.bootRelease req arg) 0x1F12 (.exec arg.toNat) bootReleaseEffect s)

/-- Meaning of BOOT_HOLD_MAX_EXPIRY (18 R399). -/
def execBootHoldMaxExpiry (s : State) : Host.Outcome State Fault Refusal := .next (leaveHold s)

/-- What FW_INSTALL does as a run (18 R401). -/
def fwInstallEffect (verified : Bool) : KEffect := runCommand false (fun _ => false) fun _ _ s => fwInstall verified s

/-- Meaning of FW_INSTALL (18 R401). -/
def execFwInstall (req : KReq) (arg : BitVec 32) (verified : Bool) (s : State) : Host.Outcome State Fault Refusal :=
  .next (kdpObject req (.fwInstall req arg verified) 0x1F21 (.exec arg.toNat) (fwInstallEffect verified) s)

/-- What FW_ACTIVATE does as a run: 1 activates live, 2 at the next start (18 R402, R403). -/
def fwActivateEffect : KEffect := runCommand false (fun _ => false) fun _ a s => if a = 1 then fwActivateLive s else fwActivateNext s

/-- Meaning of FW_ACTIVATE_LIVE (18 R402, R403). -/
def execFwActivateLive (req : KReq) (s : State) : Host.Outcome State Fault Refusal :=
  .next (kdpObject req (.fwActivateLive req) 0x1F22 (.exec 1) fwActivateEffect s)

/-- Meaning of FW_ACTIVATE_NEXT_START (18 R402). -/
def execFwActivateNextStart (req : KReq) (s : State) : Host.Outcome State Fault Refusal :=
  .next (kdpObject req (.fwActivateNextStart req) 0x1F22 (.exec 2) fwActivateEffect s)

/-- Meaning of FW_ACTIVATED (18 R403). -/
def execFwActivated (s : State) : Host.Outcome State Fault Refusal := .next (fwActivated s)

/-- Meaning of FW_ACTIVATION_FAILED (18 R403). -/
def execFwActivationFailed (stage : BitVec 8) (s : State) : Host.Outcome State Fault Refusal := .next (fwFailed s stage.toNat)

end Sys2Proof.Machine
end

