-- ==== Sys2Proof/Machine/WriteCmd.lean ====
section
/-! DEFINITION. The meanings of READ, WRITE and the bulk transfers (15 R340, R344, R355), with the rules of the objects whose writes have no command of
their own. -/
namespace Sys2Proof.Machine
open Sys2Proof

/-! ## Objects without a command of their own -/

/-- REGION_PORTS's own rule (02 R44, 03 R58). -/
def regionPortsRule : KEffect := fun c v s =>
  let r := c.sub
  let old := s.obj U.ports c.obj
  let new := v.toNat
  let removed := allPorts.any fun n => bitOf old (n - 1) && !bitOf new (n - 1) && portOnRegion s n r
  if (getRegion s r).mode = 1 ∧ 1 < popCount 16 new then (s, .range)
  else if removed then (s, .state)
  else (s.setObj U.ports c.obj new, .ok)

/-- RAIL_REACTION's own rule (11 R259, Table PW-1). -/
def railReactionRule : KEffect := fun c v s =>
  let n := (pathLevels c.unit).getD 1 0
  let listed := if n ≤ 7 then [0, 3] else if n ≤ 15 then [0, 1, 2, 3] else if n = 17 then [0, 1] else [3]
  if !listed.contains v.toNat then (s, .range)
  else if v.toNat = 0 ∧ c.role ≠ 4 then (s, .denied)
  else (s.setObj c.unit c.obj v.toNat, .ok)

/-- What a write of an object without a command of its own does (check 9 of 15 R341): the rules that its chapter gives it, and then the new value. -/
def writeRule : KEffect := fun c v s =>
  let n := v.toNat
  match c.obj / 256 with
  | 0x1002 | 0x1003 => if n ≠ s.obj c.unit c.obj ∧ portHasDecoder s ((pathLevels c.unit).getD 1 0) then (s, .state) else plainWrite c v s
  | 0x1050 => regionPortsRule c v s
  | 0x1208 => if capacityBytes s ≤ n then (s, .range) else plainWrite c v s
  | 0x1321 | 0x1322 | 0x1323 | 0x1325 | 0x1326 | 0x1327 | 0x1505 | 0x1C31 =>
    let (s', st) := plainWrite c v s
    (configChanged s', st)
  | 0x1324 => (mirrorMove (storeConfig s c.unit c.obj n), .ok)
  | 0x1502 =>
    let low := if c.sub = 1 then n else s.robj Obj.REC_LOW_MARK
    let fg := if c.sub = 2 then n else s.robj Obj.REC_FG_MARK
    if c.sub ≤ 2 ∧ low < fg + 100 + 1 then (s, .range) else plainWrite c v s
  | 0x1911 => railReactionRule c v s
  | 0x1B10 | 0x1B12 => (applyEnforce (s.setObj c.unit c.obj n), .ok)
  | 0x1C32 =>
    let s' := s.setObj c.unit c.obj n
    if n = 0 then netChange s s' ((pathLevels c.unit).getD 1 0) else (configChanged s', .ok)
  | 0x1E01 | 0x1E07 => if bitOf (pcReg s Obj.PC_CONFIG c.sub) 0 then (s, .state) else plainWrite c v s
  | 0x1E02 =>
    if bitOf (pcReg s Obj.PC_CONFIG c.sub) 0 then (s, .state)
    else match expandPath s.variant n with
      | .error _ => (s, .range)
      | .ok _ => plainWrite c v s
  | 0x1F00 => if 1 ≤ n ∧ n ≤ loopDepths c.unit then plainWrite c v s else (s, .range)
  | 0x1F10 => (syncRec (s.setR c.obj n) 9, .ok)
  | 0x1F20 => match v with
    | .bytes bs => ({ s with ts := { s.ts with staged := bs } }, .ok)
    | .num _ => (s, .range)
  | _ => plainWrite c v s

/-- The rules of the objects whose writes and commands have a command of this model in their own right, by index: a WRITE of a CMD object is handled as the
EXEC with the same argument (15 R340). -/
def commandRule (index : Nat) : Option KEffect :=
  match index with
  | 0x1000 => some portEnableRule
  | 0x1001 => some bifurcateRule
  | 0x1106 => some regionApplyEffect
  | 0x1203 => some domainRecoverEffect
  | 0x1300 => some hcEnableRule
  | 0x1301 => some hcInvalidateEffect
  | 0x1302 => some hcEnableForceEffect
  | 0x1305 => some hcWayReenableEffect
  | 0x1310 => some berthWaysRule
  | 0x1317 => some berthRangeApplyEffect
  | 0x1318 => some berthPromoteEffect
  | 0x1320 => some mirrorEnableRule
  | 0x1328 => some mirrorAcceptPeerEffect
  | 0x1401 => some dirtyCapLimitRule
  | 0x1701 => some planApplyEffect
  | 0x1702 => some planRollbackEffect
  | 0x1706 => some proofNowEffect
  | 0x180B => some scrubStartEffect
  | 0x1810 => some custodianRule
  | 0x1813 => some keyRotateEffect
  | 0x1814 => some keyDestroyEffect
  | 0x1830 => some integrityRecoverEffect
  | 0x1842 => some protApplyEffect
  | 0x1905 => some holdupMeasureEffect
  | 0x1908 => some bankEnableRule
  | 0x1A02 => some warmResetEffect
  | 0x1A06 => some blockResetEffect
  | 0x1A10 => some pstateEffect
  | 0x1A20 => some padHoldReleaseEffect
  | 0x1A22 => some retentionFreezeEffect
  | 0x1A23 => some retentionResumeEffect
  | 0x1B06 => some sensorRetestEffect
  | 0x1C10 => some roleKeyRule
  | 0x1C21 => some sessionKillEffect
  | 0x1C30 => some netEnableRule
  | 0x1C35 => some netApplyEffect
  | 0x1D01 => some hmStoreNowEffect
  | 0x1D03 => some windowRule
  | 0x1D10 => some freezeRule
  | 0x1D20 => some triggerRule
  | 0x1E03 => some pcConfigRule
  | 0x1E04 => some pcCountRule
  | 0x1E08 => some pcFreezeRule
  | 0x1E09 => some pcSnapshotEffect
  | 0x1E20 => some bwWindowRule
  | 0x1F01 => some lbRunEffect
  | 0x1F08 => some sramSelftestEffect
  | 0x1F0A => some stackSelftestEffect
  | 0x1F0C => some hbmSelftestEffect
  | 0x1F12 => some bootReleaseEffect
  | 0x1F14 => some jtagUnlockEffect
  | 0x1F22 => some fwActivateEffect
  | _ => none

/-- What a write of an object does: its own command's effect, or the write rules. A read-only subindex of a command's index has no command. SCRUB_ABORT and
FW_INSTALL act on the facts that the body brings (log 96). -/
def writeEffect (o : Nat) (w : WriteBody) : KEffect :=
  if o / 256 = 0x180C then scrubAbortEffect w.found
  else if o / 256 = 0x1F21 then fwInstallEffect w.verified
  else match commandRule (o / 256), objRow? o with
    | some e, some r => if r.access = .ro then writeRule else e
    | _, _ => writeRule

/-- What the body asks of the object (15 R340): a write of its value, or an EXEC with it as the argument. -/
def bodyOp (w : WriteBody) : KOp := if w.isExec then .exec w.value.toNat else .write w.value

/-! ## READ and WRITE -/

/-- Meaning of READ (15 R340, R341). -/
def execRead (req : KReq) (index : BitVec 16) (s : State) : Host.Outcome State Fault Refusal :=
  .next (kdpObject req (.read req index) index.toNat .read plainWrite s)

/-- Meaning of WRITE (15 R340, R344). A write of an object with a command of its own does as that command does, and so does an EXEC; an EXEC of an object that
is no CMD is refused by R341's check 6. -/
def execWrite (req : KReq) (index : BitVec 16) (body : WriteBody) (s : State) : Host.Outcome State Fault Refusal :=
  let o := index.toNat * 256 + req.sub.toNat
  let s' := kdpObject req (.write req index body) index.toNat (bodyOp body) (writeEffect o body) s
  .next (if index = 0x1813 ∨ index = 0x180C then settle s' else s')

/-! ## Bulk transfers -/

/-- Whether TOTAL lies within an object's Range (15 R355). -/
def totalOk (r : ObjRow) (total : Nat) : Bool :=
  match r.range with
  | .bytes lo hi => decide (lo ≤ total) && decide (total ≤ hi)
  | .bytesOneOf ns => ns.contains total
  | _ => true

/-- BULK_OPEN's course (15 R341, R355): the checks of a write or a read of the object, its type and TOTAL, and the one transfer at a time. -/
def bulkOpen (x : Session) (path o direction total : Nat) (s : State) : State × Status :=
  let op : KOp := if direction = 1 then .write (.bytes []) else .read
  if direction ≠ 1 ∧ direction ≠ 2 then (s, .range)
  else match expandPath s.variant path with
    | .error e => (s, e)
    | .ok us =>
      let u := us.headD 0
      if isWild path then (s, .range)
      else match objPresent s u o with
        | none => (s, .noObject)
        | some r =>
          if !roleMeets x.role r.role then (s, .denied)
          else if direction = 1 ∧ r.access = .ro then (s, .readOnly)
          else if direction = 2 ∧ r.access = .wo then (s, .denied)
          else match stateGate s u o (decide (op ≠ .read)) with
            | some e => (s, e)
            | none =>
              if r.type ≠ .blob ∨ !totalOk r total then (s, .range)
              else if s.kdp.bulk.isSome then (s, .busy)
              else if direction = 1 then
                if unitAbsent s u then (s, .state)
                else ({ s with kdp := { s.kdp with bulk := some { sid := x.id, key := objKey u o, write := true, total := total } } }, .ok)
              else match exportRead s u o with
                | (s', .ok (.bytes bs)) => ({ s' with kdp := { s'.kdp with bulk := some { sid := x.id, key := objKey u o, write := false, total := total, copy := bs } } }, .ok)
                | (_, .ok (.num _)) => (s, .range)
                | (_, .error e) => (s, e)

/-- The session's transfer, or the status that a BULK message without one receives: TIMEOUT once after an expiry, else STATE (DESIGN CHOICE, log 89). In
FLUSHING a write transfer's messages receive STATE (15, corner cases). -/
def bulkOf (x : Session) (s : State) : State × Except Status Bulk :=
  if s.kdp.bulkExpired.contains x.id then
    ({ s with kdp := { s.kdp with bulkExpired := s.kdp.bulkExpired.filter (· != x.id) } }, .error .timeout)
  else match s.kdp.bulk with
    | some b =>
      if b.sid ≠ x.id then (s, .error .state)
      else if b.write ∧ s.phase = .flushing then (s, .error .state) else (s, .ok b)
    | none => (s, .error .state)

/-- A BULK message of a session's transfer. -/
def bulkStep (f : Bulk → State → State × KResp) (x : Session) (s : State) : State × KResp :=
  match bulkOf x s with
  | (s', .ok b) => f b s'
  | (s', .error e) => (s', { status := e })

/-- Meaning of BULK_OPEN (15 R355). -/
def execBulkOpen (req : KReq) (index : BitVec 16) (direction : BitVec 8) (total : BitVec 32) (s : State) : Host.Outcome State Fault Refusal :=
  .next (kdpRequest req (.bulkOpen req index direction total) (fun x s =>
    let s := { s with kdp := { s.kdp with bulkExpired := s.kdp.bulkExpired.filter (· != x.id) } }
    let (s', st) := bulkOpen x req.unit.toNat (index.toNat * 256 + req.sub.toNat) direction.toNat total.toNat s
    (s', { status := st })) s)

/-- The bytes of a span put into a transfer. -/
def putSpan (b : Bulk) (offset : Nat) (data : List Byte) : Bulk :=
  { b with data := (data.zip (List.range data.length)).foldl (fun m p => AMap.set m (offset + p.2) p.1) b.data }

/-- Meaning of BULK_DATA (15 R355). -/
def execBulkData (req : KReq) (offset : BitVec 32) (data : List Byte) (s : State) : Host.Outcome State Fault Refusal :=
  .next (kdpRequest req (.bulkData req offset data) (bulkStep fun b s =>
    if !b.write ∨ data.length = 0 ∨ 1024 < data.length ∨ b.total < offset.toNat + data.length then (s, { status := .range })
    else ({ s with kdp := { s.kdp with bulk := some (putSpan b offset.toNat data) } }, {})) s)

/-- Meaning of BULK_READ (15 R355). -/
def execBulkRead (req : KReq) (offset : BitVec 32) (count : BitVec 16) (s : State) : Host.Outcome State Fault Refusal :=
  .next (kdpRequest req (.bulkRead req offset count) (bulkStep fun b s =>
    let n := count.toNat
    if b.write ∨ n = 0 ∨ 1024 < n ∨ b.copy.length < offset.toNat + n then (s, { status := .range })
    else (s, { value := some (.bytes ((b.copy.drop offset.toNat).take n)) })) s)

/-- The bytes of a transfer, none while one is missing. -/
def bulkBytes (b : Bulk) : Option (List Byte) := if b.data.length = b.total then some (b.data.map (·.2)) else none

/-- Meaning of BULK_COMMIT (15 R355): the object is replaced whole and the transfer is over; on any other status it stays open. -/
def execBulkCommit (req : KReq) (crc : BitVec 32) (s : State) : Host.Outcome State Fault Refusal :=
  .next (kdpRequest req (.bulkCommit req crc) (fun x => bulkStep (fun b s =>
    if !b.write then (s, { status := .range })
    else match bulkBytes b with
      | none => (s, { status := .range })
      | some bs =>
        if crc32c bs ≠ crc.toNat then (s, { status := .integrity })
        else
          let c : KCtx := { sid := x.id, role := x.role, netPort := x.netPort, unit := b.key / 2^24, obj := b.key % 2^24 }
          let (s', st) := writeEffect c.obj { value := .bytes bs } c (.bytes bs) s
          if st = .ok then ({ s' with kdp := { s'.kdp with bulk := none } }, {}) else (s, { status := st })) x) s)

/-- Meaning of BULK_END (15 R355): an uncommitted write is discarded. With no transfer open it has nothing to end. -/
def execBulkEnd (req : KReq) (s : State) : Host.Outcome State Fault Refusal :=
  .next (kdpRequest req (.bulkEnd req) (fun x s =>
    match bulkOf x s with
    | (s', .error .timeout) => (s', { status := .timeout })
    | (s', _) => match s'.kdp.bulk with
      | some b => if b.sid = x.id then ({ s' with kdp := { s'.kdp with bulk := none } }, {}) else (s', {})
      | none => (s', {})) s)

/-- Meaning of BULK_IDLE_TIMEOUT (15 R355): the transfer ends, and its session's next BULK message receives TIMEOUT. -/
def execBulkIdleTimeout (s : State) : Host.Outcome State Fault Refusal :=
  .next (match s.kdp.bulk with
    | some b => { s with kdp := { s.kdp with bulk := none, bulkExpired := b.sid :: s.kdp.bulkExpired.filter (· != b.sid) } }
    | none => s)

end Sys2Proof.Machine
end

