-- ==== Sys2Proof/Machine/Dispatch.lean ====
section
/-! DEFINITION. One arm for each command: its meaning. -/
namespace Sys2Proof.Machine
open Sys2Proof

/-- The effect of a command on everything but the queue. -/
def exec (i : Instr) (s : State) : Host.Outcome State Fault Refusal :=
  match i with
  | .vinGood500ms moduleId => Sys2Proof.Machine.execVinGood500ms moduleId s
  | .thermalLatchClear => Sys2Proof.Machine.execThermalLatchClear s
  | .harbourmasterStart badSlots badPower badOpsec => Sys2Proof.Machine.execHarbourmasterStart badSlots badPower badOpsec s
  | .sequencingStepDone => Sys2Proof.Machine.execSequencingStepDone s
  | .sequencingStepTimeout rail => Sys2Proof.Machine.execSequencingStepTimeout rail s
  | .firmwareRunning activeBad prevBad => Sys2Proof.Machine.execFirmwareRunning activeBad prevBad s
  | .bootFailed cause => Sys2Proof.Machine.execBootFailed cause s
  | .bootRetryTimer => Sys2Proof.Machine.execBootRetryTimer s
  | .hbmTrained => Sys2Proof.Machine.execHbmTrained s
  | .mediaLinksTrained => Sys2Proof.Machine.execMediaLinksTrained s
  | .mapLoadDone bad => Sys2Proof.Machine.execMapLoadDone bad s
  | .flushAreaReplayDone => Sys2Proof.Machine.execFlushAreaReplayDone s
  | .memoryActiveRaise => Sys2Proof.Machine.execMemoryActiveRaise s
  | .portRstNAssert pin => Sys2Proof.Machine.execPortRstNAssert pin s
  | .portRstNDeassert pin => Sys2Proof.Machine.execPortRstNDeassert pin s
  | .hotReset port => Sys2Proof.Machine.execHotReset port s
  | .linkDisable port => Sys2Proof.Machine.execLinkDisable port s
  | .cxlReset port => Sys2Proof.Machine.execCxlReset port s
  | .portLinkDown link => Sys2Proof.Machine.execPortLinkDown link s
  | .linkRetrainRecovery port => Sys2Proof.Machine.execLinkRetrainRecovery port s
  | .linkReachesL0 port rate width flit farRate farWidth ndr drs bisnp => Sys2Proof.Machine.execLinkReachesL0 port rate width flit farRate farWidth ndr drs bisnp s
  | .portFailed port rate width => Sys2Proof.Machine.execPortFailed port rate width s
  | .configRequest port src tag op => Sys2Proof.Machine.execConfigRequest port src tag op s
  | .hdmDecoderCommit port src decoder hpa dpa size ways bi => Sys2Proof.Machine.execHdmDecoderCommit port src decoder hpa dpa size ways bi s
  | .hdmDecoderUncommit port src decoder => Sys2Proof.Machine.execHdmDecoderUncommit port src decoder s
  | .memRd port src tag addr mv errs => Sys2Proof.Machine.execMemRd port src tag addr mv errs s
  | .memRdData port src tag addr errs => Sys2Proof.Machine.execMemRdData port src tag addr errs s
  | .memSpecRd port src tag addr errs => Sys2Proof.Machine.execMemSpecRd port src tag addr errs s
  | .memInv port src tag addr errs => Sys2Proof.Machine.execMemInv port src tag addr errs s
  | .memClnEvct port src tag addr errs => Sys2Proof.Machine.execMemClnEvct port src tag addr errs s
  | .biConflict port src tag addr => Sys2Proof.Machine.execBiConflict port src tag addr s
  | .memWr port src tag addr mv data poison errs => Sys2Proof.Machine.execMemWr port src tag addr mv data poison errs s
  | .memWrPtl port src tag addr mv data mask poison bypass errs => Sys2Proof.Machine.execMemWrPtl port src tag addr mv data mask poison bypass errs s
  | .combiningTimeout line => Sys2Proof.Machine.execCombiningTimeout line s
  | .biRsp port src line rsp block => Sys2Proof.Machine.execBiRsp port src line rsp block s
  | .bisnpSend snoop => Sys2Proof.Machine.execBisnpSend snoop s
  | .s2mCreditReturn port ndr drs bisnp => Sys2Proof.Machine.execS2mCreditReturn port ndr drs bisnp s
  | .retryStoreRelease slice set => Sys2Proof.Machine.execRetryStoreRelease slice set s
  | .retryTimeout acc => Sys2Proof.Machine.execRetryTimeout acc s
  | .snoopTimeout snoop => Sys2Proof.Machine.execSnoopTimeout snoop s
  | .domainDownWalkDone => Sys2Proof.Machine.execDomainDownWalkDone s
  | .domainRecover req arg => Sys2Proof.Machine.execDomainRecover req arg s
  | .gpfPhase1 port => Sys2Proof.Machine.execGpfPhase1 port s
  | .gpfPhase2 port => Sys2Proof.Machine.execGpfPhase2 port s
  | .identifyMemoryDevice port => Sys2Proof.Machine.execIdentifyMemoryDevice port s
  | .getHealthInfo port => Sys2Proof.Machine.execGetHealthInfo port s
  | .getSupportedLogs port => Sys2Proof.Machine.execGetSupportedLogs port s
  | .getLog port log => Sys2Proof.Machine.execGetLog port log s
  | .getFwInfo port => Sys2Proof.Machine.execGetFwInfo port s
  | .getTimestamp port => Sys2Proof.Machine.execGetTimestamp port s
  | .mailboxUnsupported port opcode => Sys2Proof.Machine.execMailboxUnsupported port opcode s
  | .unsupportedRequest port tag => Sys2Proof.Machine.execUnsupportedRequest port tag s
  | .cdatRead port => Sys2Proof.Machine.execCdatRead port s
  | .ideKeyProgramming port mem skid refresh => Sys2Proof.Machine.execIdeKeyProgramming port mem skid refresh s
  | .ideKeySwitch port mem => Sys2Proof.Machine.execIdeKeySwitch port mem s
  | .ideMacFailContain port mem sequence => Sys2Proof.Machine.execIdeMacFailContain port mem sequence s
  | .ideMacFailSkid port sequence => Sys2Proof.Machine.execIdeMacFailSkid port sequence s
  | .ideKeySetupFail port mem => Sys2Proof.Machine.execIdeKeySetupFail port mem s
  | .viralRx port => Sys2Proof.Machine.execViralRx port s
  | .portEnable req value => Sys2Proof.Machine.execPortEnable req value s
  | .portShutdownDone port => Sys2Proof.Machine.execPortShutdownDone port s
  | .enablePendingDone fn => Sys2Proof.Machine.execEnablePendingDone fn s
  | .portBifurcate req value => Sys2Proof.Machine.execPortBifurcate req value s
  | .regionApply req arg => Sys2Proof.Machine.execRegionApply req arg s
  | .regionApplyDrainDone region => Sys2Proof.Machine.execRegionApplyDrainDone region s
  | .drainBarrier port src tag value mask => Sys2Proof.Machine.execDrainBarrier port src tag value mask s
  | .mirrorBarrier port src tag value mask => Sys2Proof.Machine.execMirrorBarrier port src tag value mask s
  | .barrierHoldTimeout window region tag => Sys2Proof.Machine.execBarrierHoldTimeout window region tag s
  | .resvAddr port src tag value mask => Sys2Proof.Machine.execResvAddr port src tag value mask s
  | .resvLoad port src tag errs => Sys2Proof.Machine.execResvLoad port src tag errs s
  | .resvStore port src tag value mask errs => Sys2Proof.Machine.execResvStore port src tag value mask errs s
  | .reservationExpiry window => Sys2Proof.Machine.execReservationExpiry window s
  | .discardGo port src tag value mask => Sys2Proof.Machine.execDiscardGo port src tag value mask s
  | .discardPage window => Sys2Proof.Machine.execDiscardPage window s
  | .cwWrite port src tag offset data mask => Sys2Proof.Machine.execCwWrite port src tag offset data mask s
  | .hcEnable req value => Sys2Proof.Machine.execHcEnable req value s
  | .hcInvalidate req arg => Sys2Proof.Machine.execHcInvalidate req arg s
  | .hcInvalidateDone => Sys2Proof.Machine.execHcInvalidateDone s
  | .hcEnableForce req arg => Sys2Proof.Machine.execHcEnableForce req arg s
  | .hcWayReenable req arg => Sys2Proof.Machine.execHcWayReenable req arg s
  | .berthWayCopyDone slice => Sys2Proof.Machine.execBerthWayCopyDone slice s
  | .prefetchFill read dieBusy => Sys2Proof.Machine.execPrefetchFill read dieBusy s
  | .berthWays req value => Sys2Proof.Machine.execBerthWays req value s
  | .berthGrowDone => Sys2Proof.Machine.execBerthGrowDone s
  | .berthRangeApply req arg => Sys2Proof.Machine.execBerthRangeApply req arg s
  | .berthPromote req arg => Sys2Proof.Machine.execBerthPromote req arg s
  | .mirrorEnable req value => Sys2Proof.Machine.execMirrorEnable req value s
  | .mirrorStopDone => Sys2Proof.Machine.execMirrorStopDone s
  | .mirrorAcceptPeer req arg => Sys2Proof.Machine.execMirrorAcceptPeer req arg s
  | .mirrorHandshake peer peerGeneration peerIntact peerRanges => Sys2Proof.Machine.execMirrorHandshake peer peerGeneration peerIntact peerRanges s
  | .mirrorConnectRetry => Sys2Proof.Machine.execMirrorConnectRetry s
  | .mirrorData frame => Sys2Proof.Machine.execMirrorData frame s
  | .mirrorAck frame => Sys2Proof.Machine.execMirrorAck frame s
  | .mirrorHeartbeat frame => Sys2Proof.Machine.execMirrorHeartbeat frame s
  | .mirrorResyncData frame => Sys2Proof.Machine.execMirrorResyncData frame s
  | .mirrorResyncDone frame => Sys2Proof.Machine.execMirrorResyncDone frame s
  | .mirrorResyncPageSend => Sys2Proof.Machine.execMirrorResyncPageSend s
  | .mirrorAckTimer => Sys2Proof.Machine.execMirrorAckTimer s
  | .mirrorRetransmit => Sys2Proof.Machine.execMirrorRetransmit s
  | .mirrorHeartbeatTimer => Sys2Proof.Machine.execMirrorHeartbeatTimer s
  | .mirrorSplit => Sys2Proof.Machine.execMirrorSplit s
  | .mirrorLagRelease => Sys2Proof.Machine.execMirrorLagRelease s
  | .lighterCloseTimeout slice prio => Sys2Proof.Machine.execLighterCloseTimeout slice prio s
  | .lighterTake slice pointersDiffer => Sys2Proof.Machine.execLighterTake slice pointersDiffer s
  | .plateProgramDone lighter plate result => Sys2Proof.Machine.execPlateProgramDone lighter plate result s
  | .parityProgramDone lighter ok => Sys2Proof.Machine.execParityProgramDone lighter ok s
  | .pinnedLighterForm slice => Sys2Proof.Machine.execPinnedLighterForm slice s
  | .heldWriteEntry slice => Sys2Proof.Machine.execHeldWriteEntry slice s
  | .pinLowMinimum pin => Sys2Proof.Machine.execPinLowMinimum pin s
  | .dirtyCapRecompute => Sys2Proof.Machine.execDirtyCapRecompute s
  | .dirtyCapLimit req value => Sys2Proof.Machine.execDirtyCapLimit req value s
  | .filterRebuildDone slice => Sys2Proof.Machine.execFilterRebuildDone slice s
  | .queueRebuildDone slice => Sys2Proof.Machine.execQueueRebuildDone slice s
  | .checkpointSegmentDone segment => Sys2Proof.Machine.execCheckpointSegmentDone segment s
  | .setResetDone group set failedStack => Sys2Proof.Machine.execSetResetDone group set failedStack s
  | .reclaimVictimSelect group => Sys2Proof.Machine.execReclaimVictimSelect group s
  | .mapRepaired chunk copyReadable => Sys2Proof.Machine.execMapRepaired chunk copyReadable s
  | .dieFailed group stack die cause => Sys2Proof.Machine.execDieFailed group stack die cause s
  | .stackFailed group stack cause => Sys2Proof.Machine.execStackFailed group stack cause s
  | .suspendEstimate read estimateNs => Sys2Proof.Machine.execSuspendEstimate read estimateNs s
  | .sectorReadDone read decoded corrected => Sys2Proof.Machine.execSectorReadDone read decoded corrected s
  | .memberReadDone read stack decoded => Sys2Proof.Machine.execMemberReadDone read stack decoded s
  | .opOverdue group stack die plane reset => Sys2Proof.Machine.execOpOverdue group stack die plane reset s
  | .fineSuspendOn group stack => Sys2Proof.Machine.execFineSuspendOn group stack s
  | .fineSuspendOff group stack => Sys2Proof.Machine.execFineSuspendOff group stack s
  | .degradedOverload group rate begins => Sys2Proof.Machine.execDegradedOverload group rate begins s
  | .eqClockTick => Sys2Proof.Machine.execEqClockTick s
  | .proofPassStart group stack die => Sys2Proof.Machine.execProofPassStart group stack die s
  | .proofPassDone group stack die samples => Sys2Proof.Machine.execProofPassDone group stack die samples s
  | .confirmPassDone group stack die samples => Sys2Proof.Machine.execConfirmPassDone group stack die samples s
  | .hourlyMeasurement => Sys2Proof.Machine.execHourlyMeasurement s
  | .eyeMarginMeasurement unit lane timing1 voltage1 timing2 voltage2 => Sys2Proof.Machine.execEyeMarginMeasurement unit lane timing1 voltage1 timing2 voltage2 s
  | .efficiencySample rail outMw inMw => Sys2Proof.Machine.execEfficiencySample rail outMw inMw s
  | .proofNow req arg => Sys2Proof.Machine.execProofNow req arg s
  | .ageExport req => Sys2Proof.Machine.execAgeExport req s
  | .planApply req arg => Sys2Proof.Machine.execPlanApply req arg s
  | .planApplied => Sys2Proof.Machine.execPlanApplied s
  | .planRollback req arg => Sys2Proof.Machine.execPlanRollback req arg s
  | .scrubStart req arg => Sys2Proof.Machine.execScrubStart req arg s
  | .scrubAbort req arg found => Sys2Proof.Machine.execScrubAbort req arg found s
  | .scrubDone found tagFail => Sys2Proof.Machine.execScrubDone found tagFail s
  | .custodianKey req key => Sys2Proof.Machine.execCustodianKey req key s
  | .keyRotate req arg => Sys2Proof.Machine.execKeyRotate req arg s
  | .rekeyDone domain => Sys2Proof.Machine.execRekeyDone domain s
  | .keyDestroy req arg => Sys2Proof.Machine.execKeyDestroy req arg s
  | .protApply req arg => Sys2Proof.Machine.execProtApply req arg s
  | .tagCheckDone read ok => Sys2Proof.Machine.execTagCheckDone read ok s
  | .integrityDumpDone dumpMib => Sys2Proof.Machine.execIntegrityDumpDone dumpMib s
  | .integrityRecover req arg => Sys2Proof.Machine.execIntegrityRecover req arg s
  | .powerFail vin vhold => Sys2Proof.Machine.execPowerFail vin vhold s
  | .pwrfailNAssert vin vhold => Sys2Proof.Machine.execPwrfailNAssert vin vhold s
  | .overvoltage vin vhold => Sys2Proof.Machine.execOvervoltage vin vhold s
  | .flushDone duration vholdEnd dumpMib isSealed => Sys2Proof.Machine.execFlushDone duration vholdEnd dumpMib isSealed s
  | .vinDip => Sys2Proof.Machine.execVinDip s
  | .vbusBelow11v => Sys2Proof.Machine.execVbusBelow11v s
  | .holdupChargeResume => Sys2Proof.Machine.execHoldupChargeResume s
  | .powerCapTick vinAvg pin => Sys2Proof.Machine.execPowerCapTick vinAvg pin s
  | .phaseLost rail phase => Sys2Proof.Machine.execPhaseLost rail phase s
  | .pmbusPoll words => Sys2Proof.Machine.execPmbusPoll words s
  | .pmbusTelemetry vin iin readings => Sys2Proof.Machine.execPmbusTelemetry vin iin readings s
  | .pmbusTimeout device command page => Sys2Proof.Machine.execPmbusTimeout device command page s
  | .pmbusDeviceRetry device answered => Sys2Proof.Machine.execPmbusDeviceRetry device answered s
  | .powerGoodDeassert rail debounced => Sys2Proof.Machine.execPowerGoodDeassert rail debounced s
  | .railRetry target ok => Sys2Proof.Machine.execRailRetry target ok s
  | .faultEpisodeEnd target => Sys2Proof.Machine.execFaultEpisodeEnd target s
  | .loadSwitchTrip group stack => Sys2Proof.Machine.execLoadSwitchTrip group stack s
  | .bankEnable req value => Sys2Proof.Machine.execBankEnable req value s
  | .bankShutdownDone bank => Sys2Proof.Machine.execBankShutdownDone bank s
  | .railFallTimeout rail millivolts => Sys2Proof.Machine.execRailFallTimeout rail millivolts s
  | .holdupMeasure req arg => Sys2Proof.Machine.execHoldupMeasure req arg s
  | .holdupIntervalExpiry => Sys2Proof.Machine.execHoldupIntervalExpiry s
  | .holdupMeasurementStart => Sys2Proof.Machine.execHoldupMeasurementStart s
  | .holdupDeferralRetry => Sys2Proof.Machine.execHoldupDeferralRetry s
  | .holdupMeasured tTestUs vStepUv temp => Sys2Proof.Machine.execHoldupMeasured tTestUs vStepUv temp s
  | .holdupChargeDone => Sys2Proof.Machine.execHoldupChargeDone s
  | .vholdRecomputeTick vhold => Sys2Proof.Machine.execVholdRecomputeTick vhold s
  | .flushBufferErased buffer => Sys2Proof.Machine.execFlushBufferErased buffer s
  | .refClockLost copy ppm unlocked => Sys2Proof.Machine.execRefClockLost copy ppm unlocked s
  | .refClockRestored copy => Sys2Proof.Machine.execRefClockRestored copy s
  | .mrstNAccept => Sys2Proof.Machine.execMrstNAccept s
  | .warmReset req arg => Sys2Proof.Machine.execWarmReset req arg s
  | .serviceResetDone => Sys2Proof.Machine.execServiceResetDone s
  | .watchdogRestart core => Sys2Proof.Machine.execWatchdogRestart core s
  | .flushCoreWatchdog => Sys2Proof.Machine.execFlushCoreWatchdog s
  | .blockReset req arg => Sys2Proof.Machine.execBlockReset req arg s
  | .blockRelease block clockReady => Sys2Proof.Machine.execBlockRelease block clockReady s
  | .p1IdleExpiry => Sys2Proof.Machine.execP1IdleExpiry s
  | .p2IdleExpiry => Sys2Proof.Machine.execP2IdleExpiry s
  | .p2ExitDone => Sys2Proof.Machine.execP2ExitDone s
  | .pstateRequest0 req => Sys2Proof.Machine.execPstateRequest0 req s
  | .pstateRequest3 req => Sys2Proof.Machine.execPstateRequest3 req s
  | .pstateRequest4 req => Sys2Proof.Machine.execPstateRequest4 req s
  | .pstatePrepDone => Sys2Proof.Machine.execPstatePrepDone s
  | .pstatePrepTimeout longest => Sys2Proof.Machine.execPstatePrepTimeout longest s
  | .pstateEntryDone => Sys2Proof.Machine.execPstateEntryDone s
  | .pstateWakeTimer => Sys2Proof.Machine.execPstateWakeTimer s
  | .wakeStepDone bad => Sys2Proof.Machine.execWakeStepDone bad s
  | .padHoldRelease req arg => Sys2Proof.Machine.execPadHoldRelease req arg s
  | .retentionFreeze req arg => Sys2Proof.Machine.execRetentionFreeze req arg s
  | .retentionResume req arg => Sys2Proof.Machine.execRetentionResume req arg s
  | .sensorSample readings => Sys2Proof.Machine.execSensorSample readings s
  | .rateBoostEnd unit => Sys2Proof.Machine.execRateBoostEnd unit s
  | .thermGraceExpiry severe => Sys2Proof.Machine.execThermGraceExpiry severe s
  | .sensorRetest req arg => Sys2Proof.Machine.execSensorRetest req arg s
  | .jtagInstruction ir => Sys2Proof.Machine.execJtagInstruction ir s
  | .openSession netPort via src gram role nc wellFormed => Sys2Proof.Machine.execOpenSession netPort via src gram role nc wellFormed s
  | .prove sid proof gram => Sys2Proof.Machine.execProve sid proof gram s
  | .handshakeExpiry sid => Sys2Proof.Machine.execHandshakeExpiry sid s
  | .closeSession req => Sys2Proof.Machine.execCloseSession req s
  | .keepalive req => Sys2Proof.Machine.execKeepalive req s
  | .read req index => Sys2Proof.Machine.execRead req index s
  | .write req index body => Sys2Proof.Machine.execWrite req index body s
  | .bulkOpen req index direction total => Sys2Proof.Machine.execBulkOpen req index direction total s
  | .bulkData req offset data => Sys2Proof.Machine.execBulkData req offset data s
  | .bulkRead req offset count => Sys2Proof.Machine.execBulkRead req offset count s
  | .bulkCommit req crc => Sys2Proof.Machine.execBulkCommit req crc s
  | .bulkEnd req => Sys2Proof.Machine.execBulkEnd req s
  | .bulkIdleTimeout => Sys2Proof.Machine.execBulkIdleTimeout s
  | .subscribe req slot minSev subsystems tree => Sys2Proof.Machine.execSubscribe req slot minSev subsystems tree s
  | .eventSend sid => Sys2Proof.Machine.execEventSend sid s
  | .eventResend sid seq => Sys2Proof.Machine.execEventResend sid seq s
  | .eventAck req ackSeq => Sys2Proof.Machine.execEventAck req ackSeq s
  | .idleTimeout sid => Sys2Proof.Machine.execIdleTimeout sid s
  | .backoffExpiry addr => Sys2Proof.Machine.execBackoffExpiry addr s
  | .sessionKill req arg => Sys2Proof.Machine.execSessionKill req arg s
  | .roleKey req key => Sys2Proof.Machine.execRoleKey req key s
  | .netEnable req value => Sys2Proof.Machine.execNetEnable req value s
  | .netShutdownDone port => Sys2Proof.Machine.execNetShutdownDone port s
  | .netApply req arg => Sys2Proof.Machine.execNetApply req arg s
  | .netLinkChange port link phyFault => Sys2Proof.Machine.execNetLinkChange port link phyFault s
  | .netAddressObtained port addr v4 => Sys2Proof.Machine.execNetAddressObtained port addr v4 s
  | .hmStoreNow req arg => Sys2Proof.Machine.execHmStoreNow req arg s
  | .shadowStoreStart => Sys2Proof.Machine.execShadowStoreStart s
  | .shadowStoreDone bad => Sys2Proof.Machine.execShadowStoreDone bad s
  | .vddAonLow => Sys2Proof.Machine.execVddAonLow s
  | .hmWindowData req data => Sys2Proof.Machine.execHmWindowData req data s
  | .operatingSecondsWrite => Sys2Proof.Machine.execOperatingSecondsWrite s
  | .recorderFlush => Sys2Proof.Machine.execRecorderFlush s
  | .recorderFreeze req value => Sys2Proof.Machine.execRecorderFreeze req value s
  | .freezeMaxExpiry => Sys2Proof.Machine.execFreezeMaxExpiry s
  | .logExport req => Sys2Proof.Machine.execLogExport req s
  | .trigger req data => Sys2Proof.Machine.execTrigger req data s
  | .pcConfig req value => Sys2Proof.Machine.execPcConfig req value s
  | .pcCount req value => Sys2Proof.Machine.execPcCount req value s
  | .pcOverflow counter count slice => Sys2Proof.Machine.execPcOverflow counter count slice s
  | .pcFreeze req value => Sys2Proof.Machine.execPcFreeze req value s
  | .pcSnapshot req arg => Sys2Proof.Machine.execPcSnapshot req arg s
  | .sampleTaken slice port src line write event unit => Sys2Proof.Machine.execSampleTaken slice port src line write event unit s
  | .sampleExport req => Sys2Proof.Machine.execSampleExport req s
  | .bwWindowBoundary => Sys2Proof.Machine.execBwWindowBoundary s
  | .bwWindowUs req value => Sys2Proof.Machine.execBwWindowUs req value s
  | .lbRun req arg => Sys2Proof.Machine.execLbRun req arg s
  | .lbRunEnd unit noLock duration checked errors firstLane => Sys2Proof.Machine.execLbRunEnd unit noLock duration checked errors firstLane s
  | .sramSelftest req arg => Sys2Proof.Machine.execSramSelftest req arg s
  | .sramSelftestDone passed failing ms => Sys2Proof.Machine.execSramSelftestDone passed failing ms s
  | .stackSelftest req arg => Sys2Proof.Machine.execStackSelftest req arg s
  | .stackSelftestDone group stack failed => Sys2Proof.Machine.execStackSelftestDone group stack failed s
  | .hbmSelftest req arg => Sys2Proof.Machine.execHbmSelftest req arg s
  | .hbmSelftestDone stack passed failing ms => Sys2Proof.Machine.execHbmSelftestDone stack passed failing ms s
  | .jtagUnlock req arg => Sys2Proof.Machine.execJtagUnlock req arg s
  | .jtagUnlockExpiry => Sys2Proof.Machine.execJtagUnlockExpiry s
  | .bootRelease req arg => Sys2Proof.Machine.execBootRelease req arg s
  | .bootHoldMaxExpiry => Sys2Proof.Machine.execBootHoldMaxExpiry s
  | .fwInstall req arg verified => Sys2Proof.Machine.execFwInstall req arg verified s
  | .fwActivateLive req => Sys2Proof.Machine.execFwActivateLive req s
  | .fwActivateNextStart req => Sys2Proof.Machine.execFwActivateNextStart req s
  | .fwActivationFailed stage => Sys2Proof.Machine.execFwActivationFailed stage s
  | .fwActivated => Sys2Proof.Machine.execFwActivated s
  | .vinReturn vin => Sys2Proof.Machine.execVinReturn vin s
  | .pwrfailNDeassert => Sys2Proof.Machine.execPwrfailNDeassert s
  | .mrstNRelease => Sys2Proof.Machine.execMrstNRelease s
  | .bankLinksTrained bank => Sys2Proof.Machine.execBankLinksTrained bank s
  | .wharfIndexRepaired page => Sys2Proof.Machine.execWharfIndexRepaired page s
  | .watchdogRestartDone => Sys2Proof.Machine.execWatchdogRestartDone s
  | .rwdCreditPace port => Sys2Proof.Machine.execRwdCreditPace port s
  | .unknownOpcode req opcode => Sys2Proof.Machine.execUnknownOpcode req opcode s

end Sys2Proof.Machine
end

