-- ==== Sys2Proof/Machine/Tick.lean ====
section
/-! DEFINITION. What the module does by itself where no command waits: a held KDP request whose turn has come is taken up (15 R349), else one cycle of
CLK_CTL passes (17 R380; DESIGN CHOICE, logs 2 and 3). -/
namespace Sys2Proof.Machine
open Sys2Proof

/-- Whether CLK_CTL runs: the controller is out of reset, on its rails and not frozen (12 R277, 17 R380). -/
def clockRuns (s : State) : Bool :=
  (match s.phase with
   | .cold | .sequencing | .latchedOff => false
   | .booting | .loading | .running | .flushing | .halted => true)
    && decide (s.robj Obj.PSTATE_NOW < 3) && s.robj Obj.FROZEN == 0

/-- Whether a port withholds RwD credits (02 R46): fewer are outstanding than RWD_POOL. -/
def withholdsRwd (s : State) (n : Nat) : Bool :=
  linkMem s n && decide ((getPort s n).rwdFree + (getPort s n).rwdUsed < rwdPool s n)

/-- Whether a write of a slice is held (06 R160). -/
def writeHeld (s : State) (sl : Nat) : Bool :=
  s.wharf.held.any fun a => (a.kind == .write || a.kind == .resvStore) && sliceOfLine a.line == sl

/-- Whether a counter counts the accesses of an HBM stack (17 R381). -/
def beatsCounted (s : State) (n : Nat) : Bool :=
  s.cs.hbmTrained && (List.range 8).any fun i => pcMatches s (i + 1) 0x19 (U.hbmStack n) none

/-- The 64-byte accesses of an HBM stack in a cycle (17 Table PC-1). How many a cycle has the spec does not state: a free value (log 97). -/
def hbmBeats (s : State) (n : Nat) : State :=
  let (v, s) := s.draw 65536
  pcCount s 0x19 (U.hbmStack n) none v

/-- The flits that the link layer of a port replays in a cycle (02 Table HP-11). How many a cycle has the spec does not state: a free value (log 103). -/
def flitReplays (s : State) (n : Nat) : State :=
  let (v, s) := s.draw 65536
  s.bumpN (U.port n) Obj.FLIT_REPLAY v

/-- The events of Table PC-1 that count cycles, and the accesses of the HBM stacks in one (17 R381). -/
def cycleEvents (s : State) : State :=
  let s := pcCount s 0x01 U.root none 1
  let s := (allPorts.filter (withholdsRwd s)).foldl (fun s n => pcCount s 0x0C (U.port n) none 1) s
  let s := (allPorts.filter fun n => linkMem s n && s.obj (U.port n) Obj.DEVLOAD_NOW == 3).foldl (fun s n => pcCount s 0x0D (U.port n) none 1) s
  let s := ((List.range 16).filter (writeHeld s)).foldl (fun s sl => pcCount s 0x0F U.root (some sl) 1) s
  ((List.range 8).filter fun i => beatsCounted s (i + 1)).foldl (fun s i => hbmBeats s (i + 1)) s

/-- Whether a network port's link is up. -/
def netUp (s : State) (p : Nat) : Bool := s.obj (U.netPort p) Obj.NET_ENABLE_STATE == 1 && s.obj (U.netPort p) Obj.NET_LINK == 2

/-- The frames that the MAC of a network port discards in a cycle, and the codewords that its RS-FEC corrects or cannot correct (15 Table OD-14). How many the
spec does not state: free values (log 87). -/
def netErrors (s : State) (p : Nat) : State :=
  [Obj.RX_DROPPED, Obj.FEC_CORRECTED, Obj.FEC_UNCORRECTABLE].foldl (fun s o =>
    let (v, s) := s.draw 65536
    s.bumpN (U.netPort p) o v) s

/-- One cycle of CLK_CTL, in which links that are up may replay flits and network ports meet errors. A live activation that was accepted pauses the module here (18 R403, DESIGN CHOICE, log 88). -/
def tick (s : State) : State :=
  let s := beginPause { s with now := s.now + 1 }
  let s := (allPorts.filter (linkMem s)).foldl flitReplays s
  let s := ([1, 2].filter (netUp s)).foldl netErrors s
  if clockRuns s then cycleEvents (s.setObj U.ctl Obj.PC_CYCLES ((s.obj U.ctl Obj.PC_CYCLES + 1) % 2^64)) else s

/-- The held request to take up now (15 R344, R349). -/
def heldDue (s : State) : Option Instr :=
  if !kdpAnswers s || s.ts.activating == 2 then none
  else match dueSession s with
    | some x => (AMap.get? x.held (x.lastSeq + 1)).map (·.2)
    | none => none

/-- The state in which a held request is taken up: it leaves its session's window, and its frame counts no more. -/
def takeHeld (s : State) : State :=
  match dueSession s with
  | some x =>
    let s := updSession s x.id fun y => { y with held := AMap.del y.held (x.lastSeq + 1) }
    { s with kdp := { s.kdp with again := true } }
  | none => s

end Sys2Proof.Machine
end

