-- ==== Sys2Proof/Machine/Step.lean ====
section
/-! DEFINITION. One step: the command at the front of the queue, or, where none waits, what the module does by itself. -/
namespace Sys2Proof.Machine
open Sys2Proof

/-- One step. The front command runs on the state with the queue's rest; on an empty queue a held KDP request whose turn has come runs, else one
cycle of CLK_CTL passes (DESIGN CHOICE, logs 2 and 3). -/
def step (s : State) : Host.Outcome State Fault Refusal :=
  match s.pending with
  | c :: rest => exec c { s with pending := rest }
  | [] => match heldDue s with
    | some c => exec c (takeHeld s)
    | none => .next (tick s)

/-- The state with the command that a word spells at the front of its queue; unchanged where the word spells none. -/
def State.withFetchWord (s : State) (nbits w : Nat) : State :=
  match decodeTableWord nbits w with
  | some c => { s with pending := c :: s.pending }
  | none => s

end Sys2Proof.Machine
end

