-- ==== Sys2Proof/Machine/KdpWire.lean ====
section
/-! DEFINITION. The bytes of the messages that the KDP service sends (15 R338, R347, R348, R350, R357; big-endian by 00 R7). A message of `State.out` carries
its fields; these are the datagrams that they make. -/
namespace Sys2Proof.Machine
open Sys2Proof

/-- What a response repeats of its request's header (15 Table OD-8): OPCODE, UNIT, INDEX and SUB. -/
structure KHead where
  /-- OPCODE (15 Table OD-9). -/
  opcode : Nat
  /-- UNIT (15 Table OD-8). -/
  unit : Nat := 0
  /-- INDEX (15 Table OD-8). -/
  index : Nat := 0
  /-- SUB (15 Table OD-8). -/
  sub : Nat := 0
  deriving DecidableEq, Repr

/-- The 28-byte header of a message (15 Table OD-8). `more`: further fragments follow. -/
def kdpHeader (h : KHead) (response more entries : Bool) (status : Status) (length sid seq frag : Nat) : List Byte :=
  beBytes 2 0x4B44 ++ beBytes 1 1 ++ beBytes 1 h.opcode ++ beBytes 1 (b2n response + 2 * b2n more + 4 * b2n entries) ++ beBytes 1 status.code
    ++ beBytes 2 length ++ beBytes 4 sid ++ beBytes 8 seq ++ beBytes 4 h.unit ++ beBytes 2 h.index ++ beBytes 1 h.sub ++ beBytes 1 frag

/-- A message with its MAC (15 R347). -/
def withMac (key : BitVec 256) (bytes : List Byte) : List Byte := bytes ++ beBytes 16 (macOf key bytes).toNat

/-- The datagrams of a response in a session (15 R347, R348). -/
def responseBytes (key : BitVec 256) (h : KHead) (sid seq : Nat) (r : KResp) : List (List Byte) :=
  let o := h.index * 256 + h.sub
  let bodies := if r.entriesFlag then packEntries (r.entries.map (entryBytes o)) [] else [match r.value with
    | some v => valueBytes o v
    | none => []]
  (bodies.zip (List.range bodies.length)).map fun p =>
    withMac key (kdpHeader h true (decide (p.2 + 1 < bodies.length)) r.entriesFlag r.status p.1.length sid seq p.2 ++ p.1)

/-- The body of an answer to OPEN or PROVE by its fields (15 Table OD-12, R354): ND, SALT and ITERATIONS; PROOF_D and IDLE_TIMEOUT; or the milliseconds of a
running back-off. -/
def handshakeBody : List Nat → List Byte
  | [nd, salt, n] => beBytes 16 nd ++ beBytes 16 salt ++ beBytes 4 n
  | [proof, idle] => beBytes 32 proof ++ beBytes 2 idle
  | [ms] => beBytes 4 ms
  | _ => []

/-- The answer to OPEN (`opcode` 1) or PROVE (2), which carries SEQ 0 and no MAC (15 R347, R350). -/
def handshakeBytes (opcode sid : Nat) (status : Status) (body : List Nat) : List Byte :=
  let b := handshakeBody body
  kdpHeader { opcode := opcode } true false false status b.length sid 0 0 ++ b

/-- A CLOSE from the module (15 Table OD-9). -/
def closeBytes (key : BitVec 256) (sid : Nat) (reason : Status) : List Byte :=
  withMac key (kdpHeader { opcode := 3 } false false false reason 0 sid 0 0)

/-- An EVENT message (15 R357): its records stand in their own byte order (16 Table HM-4). -/
def eventMessage (key : BitVec 256) (sid seq lost : Nat) (recs : List EvRec) : List Byte :=
  let b := beBytes 1 recs.length ++ beBytes 3 0 ++ beBytes 4 lost ++ (recs.map eventBytes).flatten
  withMac key (kdpHeader { opcode := 0x31 } false false false .ok b.length sid seq 0 ++ b)

/-! ## Requests -/

/-- The message of a request: its header's own fields and its body (15 Tables OD-8, OD-9). -/
structure KMsg where
  /-- what its response repeats (15 Table OD-8). -/
  head : KHead
  /-- the body (15 Table OD-9). -/
  body : List Byte := []

/-- The message of a request of an object. -/
def objMsg (r : KReq) (opcode index : Nat) (body : List Byte) : KMsg := ⟨⟨opcode, r.unit.toNat, index, r.sub.toNat⟩, body⟩

/-- The message that a command of a session brings (15 Table OD-9): a write of a register as a WRITE, a start of a command as an EXEC. Other commands bring
none. -/
def requestMsg : Instr → Option (KReq × KMsg)
  | .closeSession r => some (r, ⟨{ opcode := 0x03 }, []⟩)
  | .keepalive r => some (r, ⟨{ opcode := 0x04 }, []⟩)
  | .unknownOpcode r o => some (r, ⟨{ opcode := o.toNat }, []⟩)
  | .read r i => some (r, objMsg r 0x10 i.toNat [])
  | .write r i w => some (r, objMsg r (if w.isExec then 0x12 else 0x11) i.toNat (valueBytes (i.toNat * 256 + r.sub.toNat) w.value))
  | .bulkOpen r i d n => some (r, objMsg r 0x20 i.toNat (beBytes 1 d.toNat ++ beBytes 3 0 ++ beBytes 4 n.toNat))
  | .bulkData r o d => some (r, ⟨{ opcode := 0x21 }, beBytes 4 o.toNat ++ d⟩)
  | .bulkRead r o n => some (r, ⟨{ opcode := 0x22 }, beBytes 4 o.toNat ++ beBytes 2 n.toNat⟩)
  | .bulkCommit r k => some (r, ⟨{ opcode := 0x23 }, beBytes 4 k.toNat⟩)
  | .bulkEnd r => some (r, ⟨{ opcode := 0x24 }, []⟩)
  | .subscribe r slot sev subs tree => some (r, ⟨{ opcode := 0x30 }, beBytes 1 slot.toNat ++ beBytes 1 sev.toNat ++ beBytes 2 subs.toNat ++ beBytes 4 tree.toNat⟩)
  | .eventAck r a => some (r, ⟨{ opcode := 0x32 }, beBytes 8 a.toNat⟩)
  | .ageExport r => some (r, objMsg r 0x10 0x1707 [])
  | .logExport r => some (r, objMsg r 0x10 0x1D14 [])
  | .sampleExport r => some (r, objMsg r 0x10 0x1E11 [])
  | .hcEnable r v => some (r, objMsg r 0x11 0x1300 (beBytes 1 v.toNat))
  | .berthWays r v => some (r, objMsg r 0x11 0x1310 (beBytes 1 v.toNat))
  | .mirrorEnable r v => some (r, objMsg r 0x11 0x1320 (beBytes 1 v.toNat))
  | .hmWindowData r v => some (r, objMsg r 0x11 0x1D03 v)
  | .recorderFreeze r v => some (r, objMsg r 0x11 0x1D10 (beBytes 1 v.toNat))
  | .trigger r v => some (r, objMsg r 0x11 0x1D20 v)
  | .roleKey r v => some (r, objMsg r 0x11 0x1C10 (beBytes 32 v.toNat))
  | .netEnable r v => some (r, objMsg r 0x11 0x1C30 (beBytes 1 v.toNat))
  | .pcConfig r v => some (r, objMsg r 0x11 0x1E03 (beBytes 4 v.toNat))
  | .pcCount r v => some (r, objMsg r 0x11 0x1E04 (beBytes 8 v.toNat))
  | .pcFreeze r v => some (r, objMsg r 0x11 0x1E08 (beBytes 1 v.toNat))
  | .bwWindowUs r v => some (r, objMsg r 0x11 0x1E20 (beBytes 4 v.toNat))
  | .portEnable r v => some (r, objMsg r 0x11 0x1000 (beBytes 1 v.toNat))
  | .portBifurcate r v => some (r, objMsg r 0x11 0x1001 (beBytes 1 v.toNat))
  | .bankEnable r v => some (r, objMsg r 0x11 0x1908 (beBytes 1 v.toNat))
  | .custodianKey r v => some (r, objMsg r 0x11 0x1810 (beBytes 32 v.toNat))
  | .dirtyCapLimit r v => some (r, objMsg r 0x11 0x1401 (beBytes 8 v.toNat))
  | .proofNow r a => some (r, objMsg r 0x12 0x1706 (beBytes 4 a.toNat))
  | .planApply r a => some (r, objMsg r 0x12 0x1701 (beBytes 4 a.toNat))
  | .planRollback r a => some (r, objMsg r 0x12 0x1702 (beBytes 4 a.toNat))
  | .regionApply r a => some (r, objMsg r 0x12 0x1106 (beBytes 4 a.toNat))
  | .hcInvalidate r a => some (r, objMsg r 0x12 0x1301 (beBytes 4 a.toNat))
  | .hcEnableForce r a => some (r, objMsg r 0x12 0x1302 (beBytes 4 a.toNat))
  | .hcWayReenable r a => some (r, objMsg r 0x12 0x1305 (beBytes 4 a.toNat))
  | .berthRangeApply r a => some (r, objMsg r 0x12 0x1317 (beBytes 4 a.toNat))
  | .berthPromote r a => some (r, objMsg r 0x12 0x1318 (beBytes 4 a.toNat))
  | .mirrorAcceptPeer r a => some (r, objMsg r 0x12 0x1328 (beBytes 4 a.toNat))
  | .hmStoreNow r a => some (r, objMsg r 0x12 0x1D01 (beBytes 4 a.toNat))
  | .domainRecover r a => some (r, objMsg r 0x12 0x1203 (beBytes 4 a.toNat))
  | .sessionKill r a => some (r, objMsg r 0x12 0x1C21 (beBytes 4 a.toNat))
  | .netApply r a => some (r, objMsg r 0x12 0x1C35 (beBytes 4 a.toNat))
  | .integrityRecover r a => some (r, objMsg r 0x12 0x1830 (beBytes 4 a.toNat))
  | .pcSnapshot r a => some (r, objMsg r 0x12 0x1E09 (beBytes 4 a.toNat))
  | .holdupMeasure r a => some (r, objMsg r 0x12 0x1905 (beBytes 4 a.toNat))
  | .scrubStart r a => some (r, objMsg r 0x12 0x180B (beBytes 4 a.toNat))
  | .scrubAbort r a _ => some (r, objMsg r 0x12 0x180C (beBytes 4 a.toNat))
  | .keyRotate r a => some (r, objMsg r 0x12 0x1813 (beBytes 4 a.toNat))
  | .keyDestroy r a => some (r, objMsg r 0x12 0x1814 (beBytes 4 a.toNat))
  | .protApply r a => some (r, objMsg r 0x12 0x1842 (beBytes 4 a.toNat))
  | .warmReset r a => some (r, objMsg r 0x12 0x1A02 (beBytes 4 a.toNat))
  | .blockReset r a => some (r, objMsg r 0x12 0x1A06 (beBytes 4 a.toNat))
  | .padHoldRelease r a => some (r, objMsg r 0x12 0x1A20 (beBytes 4 a.toNat))
  | .retentionFreeze r a => some (r, objMsg r 0x12 0x1A22 (beBytes 4 a.toNat))
  | .retentionResume r a => some (r, objMsg r 0x12 0x1A23 (beBytes 4 a.toNat))
  | .lbRun r a => some (r, objMsg r 0x12 0x1F01 (beBytes 4 a.toNat))
  | .sramSelftest r a => some (r, objMsg r 0x12 0x1F08 (beBytes 4 a.toNat))
  | .stackSelftest r a => some (r, objMsg r 0x12 0x1F0A (beBytes 4 a.toNat))
  | .hbmSelftest r a => some (r, objMsg r 0x12 0x1F0C (beBytes 4 a.toNat))
  | .jtagUnlock r a => some (r, objMsg r 0x12 0x1F14 (beBytes 4 a.toNat))
  | .bootRelease r a => some (r, objMsg r 0x12 0x1F12 (beBytes 4 a.toNat))
  | .fwInstall r a _ => some (r, objMsg r 0x12 0x1F21 (beBytes 4 a.toNat))
  | .fwActivateLive r => some (r, objMsg r 0x12 0x1F22 (beBytes 4 1))
  | .fwActivateNextStart r => some (r, objMsg r 0x12 0x1F22 (beBytes 4 2))
  | .sensorRetest r a => some (r, objMsg r 0x12 0x1B06 (beBytes 4 a.toNat))
  | _ => none

/-- The bytes of a request, without its MAC (15 R347). -/
def requestBytes (r : KReq) (m : KMsg) : List Byte :=
  kdpHeader m.head false false false .ok m.body.length r.sid.toNat r.seq.toNat 0 ++ m.body

/-- The MAC that a request must end with (15 R347): `KReq.macOk` says that it does (log 135). -/
def requestMac (key : BitVec 256) (r : KReq) (m : KMsg) : BitVec 128 := macOf key (requestBytes r m)

/-! ## Datagrams sent -/

/-- The session key under which a message to a session leaves; the answer to a CLOSE, and the module's own CLOSE, leave while the session is open. -/
def keyOf (s : State) (sid : Nat) : BitVec 256 := ((s.kdp.sessions.find? fun x => x.id == sid).map (·.key)).getD 0

/-- What the answer to a command repeats of its header (15 Table OD-8). -/
def headOf (c : Instr) : KHead :=
  match c with
  | .openSession _ _ _ _ _ _ _ => { opcode := 0x01 }
  | .prove _ _ _ => { opcode := 0x02 }
  | c => ((requestMsg c).map fun m => m.2.head).getD { opcode := 0 }

/-- The datagrams of a message of the KDP service that leaves in a state, in answer to a command or, for a CLOSE and an EVENT, by itself. Messages of other
interfaces have none. -/
def datagrams (s : State) (c : Instr) : Out → List (List Byte)
  | .kdp sid seq r => responseBytes (keyOf s sid) (headOf c) sid seq r
  | .kdpHandshake _ _ sid status body => [handshakeBytes (headOf c).opcode sid status body]
  | .kdpClose sid reason => [closeBytes (keyOf s sid) sid reason]
  | .kdpEvent sid seq lost recs => [eventMessage (keyOf s sid) sid seq lost recs]
  | _ => []

end Sys2Proof.Machine
end

