-- ==== Sys2Proof/Machine/MediaWire.lean ====
section
/-! DEFINITION. The bytes that stand on the media and in HBM: a sector's codeword with its metadata field (10 R235, R236), a journal record (07 R174), and
a dump with its blocks and its seal (10 R241, 11 R272). The state carries their fields; these are the bytes that they make. -/
namespace Sys2Proof.Machine
open Sys2Proof

/-! ## A sector's codeword -/

/-- The metadata field of a sector (10 Table DP-5), from the marks of its eight lines, its key domain and the write sequence of its page. -/
def metadataField (marks : List Nat) (domain wseq : Nat) : Nat :=
  2^48 * ((List.range 8).map fun i => 2^(2 * i) * (marks.getD i 0 % 4)).sum + 2^42 * ((domain - 1) % 64) + wseq / 2^32 % 2^32

/-- The nonce of a sector (10 R236): the write sequence in 64 bits and the sector's index in 32, big-endian. -/
def sectorNonce (wseq sector : Nat) : BitVec 96 := BitVec.ofNat 96 (wseq % 2^64 * 2^32 + sector)

/-- The additional authenticated data of a sector, 14 bytes (10 R236). -/
def sectorAad (pn sector metadata : Nat) : List Byte := leBytes 5 pn ++ leBytes 1 sector ++ leBytes 8 metadata

/-- The marks of a stored sector's lines (10 Table DP-5). -/
def sectorMarks (p : StoredPage) (sector : Nat) : List Nat := (List.range 8).map fun i => (AMap.getD p.lines (8 * sector + i) {}).mark

/-- The 512 bytes of a stored sector before encryption. -/
def sectorPlain (p : StoredPage) (sector : Nat) : List Byte :=
  ((List.range 8).map fun i => leBytes 64 ((AMap.getD p.lines (8 * sector + i) {}).data.toNat)).flatten

/-- The 608-byte codeword of a stored sector under its page's key (10 Table DP-4): ciphertext, tag, WSEQ_LO, metadata and parity. -/
def sectorCodeword (key : BitVec 256) (p : StoredPage) (sector : Nat) : List Byte :=
  let m := metadataField (sectorMarks p sector) p.domain p.wseq
  let aad := sectorAad p.pn sector m
  let nonce := sectorNonce p.wseq sector
  let plain := sectorPlain p sector
  let body := Config.gcmCipher key nonce aad plain ++ (beBytes 16 (Config.gcmTag key nonce aad plain).toNat).take 12 ++ leBytes 4 p.wseq ++ leBytes 8 m
  body ++ Config.mediaParity body

/-! ## The map journal and the wharf in HBM -/

/-- A journal record, 24 bytes (07 Table MT-4): COMMIT, the last byte, is written last. A record that changes the map names its PPNs as they lie on the media,
with the spares substituted (log 113). -/
def JRec.bytes (s : State) (r : JRec) : List Byte :=
  let ppn (p : Nat) : Nat := if r.ofMap then physPpn s p else p
  let head := leBytes 5 r.a ++ leBytes 5 (ppn r.b) ++ leBytes 5 (ppn r.c) ++ leBytes 1 r.kind ++ leBytes 4 (r.jpos / 2^27)
  head ++ leBytes 3 (crc32c head) ++ [0x5A]

/-- The bytes of a slice's log ring that the HBM controller still holds in its write queue (10 R229): a slot takes 72 bytes, a code word 32, and the code word
in which the last append ended waits for the next. In HBM it is written whole, its bytes not yet written zero, once the tail moves on. -/
def queuedBytes (s : State) (sl : Nat) : Nat := 72 * ringTail s sl % 32

/-! ## A dump -/

/-- The plaintext of a store that a dump holds, where the spec lays it out: the wharf's slots, slice by slice (06 R164), the journal tail (07 Table MT-4) and the
recorder's records (16 Table HM-4), oldest first. -/
def Dump.storePlain (s : State) (d : Dump) : Nat → Option (List Byte)
  | 1 => some ((List.range 16).map fun sl => (d.sliceSlots sl).flatten).flatten
  | 3 => some (d.tail.reverse.map (JRec.bytes s)).flatten
  | 6 => some (d.recs.reverse.map fun p => eventBytes p.2).flatten
  | _ => none

/-- Length of a store in blocks of 4 KiB: of the parity accumulators by their number (07 R172), of combining buffers and of berths with the bitmap an unstated
value of the dump (log 121). -/
def Dump.storeBlocks (s : State) (d : Dump) (store : Nat) : Nat :=
  match d.storePlain s store with
  | some bs => (bs.length + 4095) / 4096
  | none => if store = 4 then (19456 * d.accs.length + 4095) / 4096 else Config.unstated 25 [d.seq, store]

/-- First block of a store: the stores follow one another in the order in which they are dumped, after the seal's block (DESIGN CHOICE, log 121). -/
def Dump.firstBlock (s : State) (d : Dump) (store : Nat) : Nat := 1 + ((d.stores.filter (· < store)).map (d.storeBlocks s)).sum

/-- The nonce of a 4 KiB block of a dump (10 R241): DUMP_SEQ in 32 bits and the block's offset in 64, big-endian. -/
def dumpNonce (seq offset : Nat) : BitVec 96 := BitVec.ofNat 96 (seq % 2^32 * 2^64 + offset % 2^64)

/-- A dumped block as it lies in a buffer, ciphertext and tag, under the buffer's dump key (10 R241). Its offset is taken in bytes (DESIGN CHOICE, log 121). -/
def dumpBlock (key : BitVec 256) (seq block : Nat) (plain : List Byte) : List Byte × BitVec 128 :=
  let nonce := dumpNonce seq (4096 * block)
  (Config.gcmCipher key nonce [] plain, Config.gcmTag key nonce [] plain)

/-- The blocks of a store of a dump as they lie in a buffer (10 R241): those of a store that the spec lays out. -/
def Dump.storeCipher (s : State) (d : Dump) (key : BitVec 256) (store : Nat) : List (List Byte × BitVec 128) :=
  match d.storePlain s store with
  | none => []
  | some bs => (List.range (d.storeBlocks s store)).map fun i =>
    dumpBlock key d.seq (d.firstBlock s store + i) (((bs.drop (4096 * i)).take 4096 ++ List.replicate 4096 0).take 4096)

/-- An entry of STORES (11 Table PW-7). The CRC over a store whose layout the spec does not state is an unstated value (log 121). -/
def sealStore (s : State) (d : Dump) (store : Nat) : List Byte :=
  leBytes 1 store ++ leBytes 3 0 ++ leBytes 4 (d.firstBlock s store) ++ leBytes 4 (d.storeBlocks s store) ++ leBytes 4 (match d.storePlain s store with
    | some bs => crc32c bs
    | none => Config.unstated 26 [d.seq, store])

/-- The seal of a dump, 4096 bytes (11 Table PW-7). How KEY_SLOT numbers the slots of the harbourmaster store the spec does not state (log 121). -/
def dumpSeal (s : State) (d : Dump) : List Byte :=
  let stores := ((d.stores.take 6).map (sealStore s d)).flatten
  let head := leBytes 4 0x4B464C44 ++ leBytes 4 d.seq ++ leBytes 1 d.cause ++ leBytes 1 d.latches ++ leBytes 6 d.at_ ++ leBytes 4 d.cycle
    ++ leBytes 4 (Config.unstated 27 [d.seq]) ++ stores
  let body := head ++ List.replicate (4092 - head.length) 0
  body ++ leBytes 4 (crc32c body)

end Sys2Proof.Machine
end

