-- ==== Sys2Proof/Safety.lean ====
section
/-! DEFINITION. What counts as a safe state and a safe step, in the terms that the claims use. -/
namespace Sys2Proof.Machine
open Sys2Proof

/-- The register file is canonical: the registers and the BLOBs are listed by strictly rising key, so that each register has one value. -/
def State.regsWf (s : State) : Bool := AMap.wf s.objs && AMap.wf s.blobs

/-- Berth SRAM is canonical (05 R125, R131): lines strictly rising, and none listed that reads as an unlisted line does, zero and unpoisoned. -/
def berthMemWf (m : AMap BerthLine) : Bool := AMap.wf m && m.all fun p => decide (p.2 ≠ {})

/-- The station area of the harbourmaster's store is canonical (16 R365): offsets strictly rising, and no zero byte listed. -/
def stationWf (m : AMap Byte) : Bool := AMap.wf m && m.all fun p => decide (p.2 ≠ 0)

/-- The addressed memories are canonical: berth SRAM, the station area in the store's SRAM and its shadow, staged lines and stale markers (06 R143,
R146), the map and the pages on the media (07 R173). -/
def Memory.wf (s : State) : Bool :=
  berthMemWf s.hc.berth && stationWf s.hm.sram.station && stationWf s.hm.shadow.station && AMap.wf s.wharf.entries && AMap.wf s.wharf.markers
    && AMap.wf s.media.map && AMap.wf s.media.store

/-- Berth SRAM as the dump of a flush buffer holds it is canonical (05 R130). -/
def dumpWf (d : Option Dump) : Bool := match d with
  | none => true
  | some x => berthMemWf x.berth

/-- The directory lists its entries by strictly rising place, and none whose lines are all I: such an entry is freed (04 R94). -/
def Directory.wf (d : Directory) : Bool := AMap.wf d.entries && d.entries.all fun p => decide (p.2.lstate ≠ 0)

/-- Every table of the module that holds registers, memory, a dump or directory entries is canonical. -/
def State.canonical (s : State) : Bool :=
  s.regsWf && Memory.wf s && dumpWf s.pw.dump0 && dumpWf s.pw.dump1 && s.dir.wf

/-- An outcome is a next state: the machine goes on. -/
def Running (o : Host.Outcome State Fault Refusal) : Prop := ∃ t, o = .next t

/-! ## When a command runs to its own effect -/

/-- A host request reaches a device physical address (02 R39, R45, R49): its link carries CXL.mem, its port serves and is in no reflecting loopback, no
firmware pause holds it, and a committed decoder of its agent gives the address. -/
def hostReaches (s : State) (n src hpa dpa : Nat) (d : Decoder) : Bool :=
  linkMem s n && !portAbsent s n && s.ts.activating != 2 && portServes s n && decodeHpa s n (srcOf s n src) hpa == some (dpa, d) && !reflecting s n

/-- The line of a device physical address of host capacity (03 R57, R82). -/
def lineOfDpa (dpa : Nat) : LineNo := dpa % 2^48 / 64

/-- Nothing keeps an access to a line outside HDM-DB waiting at its conflict table (01 R14, 07 R181). -/
def tableOpen (s : State) (line : LineNo) : Bool := !(s.dir.waiting.any fun b => b.line == line) && !repairBlocks s (pageOfLine line)

/-- Nothing keeps an access of an agent slot to an HDM-DB line waiting, and the domain is up (04 R93, R106). -/
def domainOpen (s : State) (slot : Nat) (line : LineNo) : Bool :=
  tableOpen s line && !domainIsDown s && !txBlocks s line && !snoopedNow s slot line

/-- Nothing holds an access of a kind to a line ahead of its conflict table (06 R149, R160). -/
def entersNow (s : State) (kind : AccKind) (line : LineNo) : Bool := !wharfHolds s { id := 0, kind := kind, line := line } s.wharf.held

/-- A port can send a response of a class at once (02 R45): nothing is queued before it and the host grants a credit. -/
def sendsNow (s : State) (n cls : Nat) : Bool := (getPort s n).outq.isEmpty && decide (0 < (getPort s n).credit cls)

/-- A host request to an offset of its agent's control window reaches the window `w` (03 R67). -/
def reachesWindow (s : State) (n src off w : Nat) : Bool :=
  match cwHpa s n src off with
  | some a => linkMem s n && !portAbsent s n && s.ts.activating != 2 && portServes s n && !reflecting s n
      && ((decodeHpa s n (srcOf s n src) a).map (·.1)) == some (cwBase + off) && inCwRange (cwBase + off)
      && windowOf s n (srcOf s n src) == some w && AMap.has s.mc.windows w
  | none => false

/-- A KDP request is next in the turn of its session and is executed (15 R343, R344, R346, R347, R349). -/
def inTurn (s : State) (r : KReq) (x : Session) : Bool :=
  kdpAnswers s && findSession s r.sid.toNat == some x && netServes s x.netPort && !waitsTurn s && r.gram.dstPort.toNat == x.udpPort
    && r.gram.fit && r.macOk && r.wellFormed && r.seq.toNat == x.lastSeq + 1 && s.ts.activating != 2

/-- It names one object of one present unit, and the checks 3 to 8 of 15 R341 pass on it. -/
def admitted (s : State) (r : KReq) (x : Session) (index : Nat) (op : KOp) (u : Nat) : Bool :=
  inTurn s r x && !isWild r.unit.toNat
    && (match expandPath s.variant r.unit.toNat with
      | .ok us => us == [u]
      | .error _ => false)
    && (match checkObject s x.role u (index * 256 + r.sub.toNat) op with
      | .ok _ => true
      | .error _ => false)
    && (op == .read || !unitAbsent s u)

/-- The same with the gate of the management cores open: what a request that ends a freeze is held against (12 R296, log 132). -/
def thawed (s : State) : State := { s with cs := { s.cs with opened := 0 :: s.cs.opened } }

/-- It is admitted and starts a new run of its command (15 R342): none is in progress, and none owes its status to the session. -/
def startsRun (s : State) (r : KReq) (x : Session) (index arg u : Nat) : Bool :=
  admitted s r x index (.exec arg) u && (match AMap.get? s.kdp.runs (objKey u (index * 256 + r.sub.toNat)) with
    | none => true
    | some q => q.status != .pending && !q.owed.any fun p => p.1 == x.id)

/-! ## Messages sent -/

/-- A completion without data of an opcode has gone to a port for a tag, whatever DevLoad it carries (02 R47, 04 R100). -/
def sentNdr (s : State) (port tag op : Nat) : Bool := s.out.any fun m => match m with
  | .ndr p t o _ => p == port && t == tag && o == op
  | _ => false

/-- A completion with data, poison and a MetaValue has gone to a port for a tag, whatever DevLoad it carries (02 R47, 04 R100). -/
def sentDrs (s : State) (port tag : Nat) (data : LineData) (poison : Bool) (mv : Nat) : Bool := s.out.any fun m => match m with
  | .drs p t d z v _ => p == port && t == tag && d == data && z == poison && v == mv
  | _ => false

/-- The BI_ID of an agent slot, 0 where it holds no agent (02 R41, 04 R92). -/
def slotBiId (s : State) (slot : Nat) : Nat := match AMap.get? s.hp.slots slot with
  | some e => e.biId
  | none => 0

/-- The bytes of a mirror frame without records that the module sends (05 R134). -/
def mirrorFrameSent (s : State) (type : Nat) : List Byte :=
  let bs := mirFrameBytes type false (s.robj Obj.PAIR_GENERATION) s.hc.mirror.txSeq s.hc.mirror.rxSeq []
  bs ++ beBytes 16 (macOf s.hc.mirror.key bs).toNat

/-- The KDP request that a command is, none where it is no message of a session (15 R340): an unknown code that the table gives stations is none. -/
def requestOf : Instr → Option KReq
  | .unknownOpcode r o => if [1, 2, 3, 4, 16, 17, 18, 32, 33, 34, 35, 36, 48, 50].contains o.toNat then none else some r
  | .domainRecover r _ | .portEnable r _ | .portBifurcate r _ | .regionApply r _ | .hcEnable r _ | .hcInvalidate r _ | .hcEnableForce r _
  | .hcWayReenable r _ | .berthWays r _ | .berthRangeApply r _ | .berthPromote r _ | .mirrorEnable r _ | .mirrorAcceptPeer r _ | .dirtyCapLimit r _
  | .proofNow r _ | .ageExport r | .planApply r _ | .planRollback r _ | .scrubStart r _ | .scrubAbort r _ _ | .custodianKey r _ | .keyRotate r _
  | .keyDestroy r _ | .protApply r _ | .integrityRecover r _ | .bankEnable r _ | .holdupMeasure r _ | .warmReset r _ | .blockReset r _
  | .pstateRequest0 r | .pstateRequest3 r | .pstateRequest4 r | .padHoldRelease r _ | .retentionFreeze r _ | .retentionResume r _ | .sensorRetest r _
  | .closeSession r | .keepalive r | .read r _ | .write r _ _ | .bulkOpen r _ _ _ | .bulkData r _ _ | .bulkRead r _ _ | .bulkCommit r _ | .bulkEnd r
  | .subscribe r _ _ _ _ | .eventAck r _ | .sessionKill r _ | .roleKey r _ | .netEnable r _ | .netApply r _ | .hmStoreNow r _ | .hmWindowData r _
  | .recorderFreeze r _ | .logExport r | .trigger r _ | .pcConfig r _ | .pcCount r _ | .pcFreeze r _ | .pcSnapshot r _ | .sampleExport r
  | .bwWindowUs r _ | .lbRun r _ | .sramSelftest r _ | .stackSelftest r _ | .hbmSelftest r _ | .jtagUnlock r _ | .bootRelease r _ | .fwInstall r _ _
  | .fwActivateLive r | .fwActivateNextStart r => some r
  | _ => none

/-- Whether a command is a request that names an object of the unit in its header (15 R340, R355): not the requests about a session, an event or a transfer
already open, nor an opcode of no meaning or a BULK_OPEN of no direction. -/
def namesObject : Instr → Bool
  | .closeSession _ | .keepalive _ | .subscribe _ _ _ _ _ | .eventAck _ _ | .unknownOpcode _ _ => false
  | .bulkData _ _ _ | .bulkRead _ _ _ | .bulkCommit _ _ | .bulkEnd _ => false
  | .bulkOpen _ _ d _ => d == 1 || d == 2
  | c => (requestOf c).isSome

/-- Whether a message is the response to a KDP request. -/
def isResponse : Out → Bool
  | .kdp _ _ _ => true
  | _ => false

/-- The responses among the messages sent. -/
def responses (s : State) : List Out := s.out.filter isResponse

end Sys2Proof.Machine
end

