-- ==== Sys2Proof/Certificates/Slice0/Obligations.lean ====
section
/-! DEFINITION. The statements for the provers. -/
open Sys2Proof Sys2Proof.Machine

/-- Every step keeps every register table, memory, dump and the directory in canonical form. Rests on 01 R11, 04 R94, 05 R131, 06 R143, 07 R173, 16 R365. -/
def Obligations.EveryStepKeepsTheTablesCanonical : Prop :=
  ∀ s t : State, s.canonical = true → step s = .next t → t.canonical = true

/-- The tables of the module after reset are canonical. Rests on 01 R11, 04 R94, 05 R131. -/
def Obligations.ResetTablesCanonical : Prop :=
  State.reset.canonical = true

/-- A step runs the command at the front of the queue on the state with the rest of the queue. Rests on 15 R349. -/
def Obligations.StepRunsFrontCommand : Prop :=
  ∀ (s : State) (c : Instr) (rest : List Instr), s.pending = c :: rest → step s = exec c { s with pending := rest }

/-- With no command waiting, a held KDP request whose turn has come runs, and otherwise one cycle of CLK_CTL passes (log 2, log 3). Rests on 15 R349, 17 R380. -/
def Obligations.IdleStepRunsHeldRequestOrTicks : Prop :=
  (∀ (s : State) (c : Instr), s.pending = [] → heldDue s = some c → step s = exec c (takeHeld s)) ∧
    (∀ s : State, s.pending = [] → heldDue s = none → ∃ t, step s = .next t ∧ t.now = s.now + 1 ∧ t.pending = [] ∧ t.variant = s.variant)

/-- No command changes the variant, the queue of commands or the time (logs 1 to 3). Rests on 00 R2, 17 R380. -/
def Obligations.CommandsTakeNoTimeAndLeaveTheQueue : Prop :=
  ∀ (c : Instr) (s t : State), exec c s = .next t → t.variant = s.variant ∧ t.pending = s.pending ∧ t.now = s.now

/-- No command takes back a message that was sent, and free values are drawn in order (logs 4 and 5). Rests on 02 R45, 15 R346. -/
def Obligations.MessagesAreOnlyAdded : Prop :=
  ∀ (c : Instr) (s t : State), exec c s = .next t → s.out <:+ t.out ∧ s.free ≤ t.free

/-- No command ends in a fault or a refusal. Rests on 15 R341, 02 R49. -/
def Obligations.EveryCommandAnswersANextState : Prop :=
  ∀ (c : Instr) (s : State), ∃ t, exec c s = .next t

/-- What the commands that begin a start do: input power, the harbourmaster, the sequencing steps and their timeouts. Rests on 01 R23, 01 R24, 11 R262, 12 R282, 13 R312, 16 R369, 11 R259. -/
def Obligations.StartStepsOfTheHarbourmaster : Prop :=
  (∀ (m : Fin 16) (s : State), s.hm.running = true → s.pw.pwrfailLow = false → s.hm.latchThermal = false → (s.phase = .cold ∨ (s.phase = .latchedOff ∧
    s.pw.vinRemoved = true)) → ∃ t, exec (.vinGood500ms m) s = .next t ∧ t.phase = .sequencing ∧ t.pw.vinGood = true ∧ t.pw.step = 0 ∧ t.pw.seqDone =
    false ∧ t.robj Obj.MODULE_ID = m.val ∧ t.robj Obj.RESET_LAST = 1) ∧
    (∀ (s : State), (s.phase = .cold ∨ s.phase = .latchedOff) → ∃ t, exec .thermalLatchClear s = .next t ∧ t.pw.vinGood = false ∧ t.pw.vinRemoved =
      true ∧ t.pw.seqTries = 0 ∧ (s.hm.running = true → t.hm.latchThermal = false)) ∧
    (∀ (bs : List (Fin 26)) (bp bo : List (Fin 16)) (s : State), s.hm.running = false → ∃ t, exec (.harbourmasterStart bs bp bo) s = .next t ∧
      t.hm.running = true ∧ 18 ∈ t.pw.railsUp ∧ t.pw.seqTries = 0 ∧ t.phase = s.phase) ∧
    (∀ (s : State), s.phase = .sequencing → s.pw.seqDone = false → (¬ (s.pw.step = 2 ∧ 17 ∈ s.pw.retryWait)) → s.pw.step < 11 → ∃ t, exec
      .sequencingStepDone s = .next t ∧ t.phase = .sequencing ∧ t.pw.step = s.pw.step + 1 ∧ t.pw.railsUp = s.pw.railsUp ++ (stepUp s).filter (railReached s)) ∧
    (∀ (s : State), s.phase = .sequencing → s.pw.seqDone = false → 11 ≤ s.pw.step → ∃ t, exec .sequencingStepDone s = .next t ∧ (if s.cs.mrstLow =
      true then t.phase = .sequencing ∧ t.pw.seqDone = true else t.phase = .booting ∧ t.cs.fwRunning = false)) ∧
    (∀ (r : Fin 18) (s : State), s.phase = .sequencing → s.pw.seqDone = false → s.pw.flush = none → r.val + 1 ∈ stepUp s → s.obj (U.rail (r.val + 1))
      Obj.RAIL_REACTION = 3 → ∃ t, exec (.sequencingStepTimeout r) s = .next t ∧ t.pw.seqTries = s.pw.seqTries + 1 ∧ t.phase = (if s.pw.seqTries < 2
      then .cold else .latchedOff))

/-- States 14 R326: the straps are sampled as SEQUENCING begins and reported in MODULE_ID; a change while the module is powered does nothing. -/
def Obligations.ModuleIdIsSampledAtSequencing : Prop :=
  (∀ (m : Fin 16) (s : State), s.hm.running = true → s.pw.pwrfailLow = false → s.hm.latchThermal = false → (s.phase = .cold ∨ (s.phase = .latchedOff ∧
    s.pw.vinRemoved = true)) → ∃ t, exec (.vinGood500ms m) s = .next t ∧ t.phase = .sequencing ∧ t.robj Obj.MODULE_ID = m.val) ∧
    (∀ (m : Fin 16) (s : State), s.phase ≠ .cold → s.phase ≠ .latchedOff → exec (.vinGood500ms m) s = .next s) ∧
    (∀ (req : KReq) (x : Session) (s : State), admitted s req x 0x0013 .read U.root = true → ∃ t, exec (.read req 0x0013) s = .next t ∧ Out.kdp x.id
      req.seq.toNat { status := .ok, value := some (.num (s.robj Obj.MODULE_ID)) } ∈ t.out ∧ t.objs = s.objs)

/-- What the commands of BOOTING and LOADING do: firmware, boot failures, HBM and media training, the map load, the replay and the rise of Memory_Active. Rests on 18 R404, 18 R399, 12 R300, 01 R24, 11 R260, 07 R180, 11 R273, 11 R274. -/
def Obligations.StartStepsOfTheFirmware : Prop :=
  (∀ (a p : Fin 3) (s : State), s.phase = .booting → s.cs.fwRunning = false → s.ts.retryWait = false → (slotNow s).valid = true → ∃ t, exec
    (.firmwareRunning a p) s = .next t ∧ t.cs.fwRunning = true ∧ (t.phase = .booting ∨ t.phase = .loading)) ∧
    (∀ (c : BootFail) (s : State), s.phase = .booting → s.ts.retryWait = false → s.cs.bootHeld = false → ((c = .invalidImage ∨ c = .noFirmware) →
      s.cs.fwRunning = false) → (c = .watchdog → s.cs.fwRunning = true) → (c = .hbmTraining → s.cs.hbmTrained = false) → ∃ t, exec (.bootFailed c) s =
      .next t ∧ t.phase = .booting ∧ t.cs.fwRunning = false ∧ t.cs.hbmTrained = false ∧ t.cs.linksTrained = false ∧ bootFails t s.ts.image = min 255
      (bootFails s s.ts.image + 1) ∧ t.ts.image = (if 1 ≤ bootFails s s.ts.image then 1 - s.ts.image else s.ts.image) ∧ t.ts.retryWait = decide (2 ≤
      t.ts.failsA ∧ 2 ≤ t.ts.failsB)) ∧
    (∀ (s : State), s.phase = .booting → s.ts.retryWait = true → exec .bootRetryTimer s = .next
      { s with ts := { s.ts with retryWait := false }, cs := { s.cs with stepAt := s.now } }) ∧
    (∀ (s : State), s.phase = .booting → s.cs.fwRunning = true → s.cs.hbmTrained = false → ∃ t, exec .hbmTrained s = .next t ∧ t.cs.hbmTrained = true
      ∧ t.phase = (if s.cs.linksTrained = true ∧ s.cs.bootHeld = false ∧ s.robj Obj.BOOT_HOLD ≠ 1 then .loading else .booting)) ∧
    (∀ (s : State), s.phase = .booting → s.cs.fwRunning = true → s.cs.linksTrained = false → ∃ t, exec .mediaLinksTrained s = .next t ∧
      t.cs.linksTrained = true ∧ t.pw.bankLink = [] ∧ t.media.offStacks = stacksNotOn s ∧ t.phase = (if s.cs.hbmTrained = true ∧ s.cs.bootHeld = false
      ∧ s.robj Obj.BOOT_HOLD ≠ 1 then .loading else .booting)) ∧
    (∀ (bad : List (Nat × Fin 2)) (s : State), s.phase = .loading → s.cs.mapLoaded = false → s.pw.incomplete = false → (newestDump s fun _ =>
      true).all (fun p => p.2.sealed) = true → ∃ t, exec (.mapLoadDone bad) s = .next t ∧ t.cs.mapLoaded = true ∧ t.phase = .loading ∧ t.pw.incomplete
      = false) ∧
    (∀ (bad : List (Nat × Fin 2)) (s : State), s.phase = .loading → s.cs.mapLoaded = false → s.pw.incomplete = false → (newestDump s fun _ =>
      true).any (fun p => !p.2.sealed) = true → ∃ t, exec (.mapLoadDone bad) s = .next t ∧ t.pw.incomplete = true ∧ t.cs.mapLoaded = false ∧ t.phase =
      .loading ∧ t.media.map = s.media.map ∧ t.obj U.power Obj.DIRTY_SHUTDOWNS = (s.obj U.power Obj.DIRTY_SHUTDOWNS + 1) % 2^32) ∧
    (∀ (s : State), s.phase = .loading → s.cs.mapLoaded = true → s.cs.replayDone = false → ∃ t, exec .flushAreaReplayDone s = .next t ∧
      t.cs.replayDone = true ∧ t.phase = .loading) ∧
    (∀ (s : State), gateOpen s = true → ∃ t, exec .memoryActiveRaise s = .next t ∧ (if s.hm.latchHalted = true then t.phase = .halted ∧ t.dp.dumpDone
      = true else t.phase = .running ∧ t.cs.resAt = s.now)) ∧
    (∀ (a p : Fin 3) (s : State), (slotNow s).valid = false → exec (.firmwareRunning a p) s = .next s)

/-- Resets of a port: what each means of Table HP-9 does to the link, the fence, IDE and the agents. Rests on 02 R28, 02 R29, 02 R36, 02 R52, 02 R56, 12 R292. -/
def Obligations.PortResets : Prop :=
  (∀ (p : Fin 16) (s : State), portAbsent s (p.val + 1) = false → ((p.val + 1) % 2 = 1 → preg s (p.val + 1) Obj.PORT_BIFURCATE = preg s (p.val + 1)
    Obj.BIFURCATE_NOW) → ∃ t, exec (.portRstNAssert p) s = .next t ∧ t.obj (U.port (p.val + 1)) Obj.LINK_STATE = 0 ∧ t.obj (U.port (p.val + 1))
    Obj.IDE_NOW = 0 ∧ t.obj (U.port (p.val + 1)) Obj.FENCE_REASON = preg s (p.val + 1) Obj.FENCE_REASON &&& 0x0F ∧ (t.hp.agents.all fun a => a.port !=
    p.val + 1) = true ∧ t.media.store = s.media.store ∧ t.media.stripes = s.media.stripes ∧ t.phase = s.phase) ∧
    (∀ (p : Fin 16) (s : State), portAbsent s (p.val + 1) = false → (p.val + 1) % 2 = 1 → preg s (p.val + 1) Obj.PORT_BIFURCATE ≠ preg s (p.val + 1)
      Obj.BIFURCATE_NOW → ∃ t, exec (.portRstNAssert p) s = .next t ∧ t.obj (U.port (p.val + 1)) Obj.BIFURCATE_NOW = preg s (p.val + 1)
      Obj.PORT_BIFURCATE ∧ t.obj (U.port (p.val + 1)) Obj.IDE_NOW = 0 ∧ (t.hp.agents.all fun a => a.port != p.val + 1) = true ∧ t.media.store =
      s.media.store ∧ t.media.stripes = s.media.stripes ∧ t.phase = s.phase) ∧
    (∀ (p : Fin 16) (s : State), portAbsent s (p.val + 1) = true → exec (.portRstNAssert p) s = .next (putPort s (p.val + 1)
      { getPort s (p.val + 1) with rstLow := true })) ∧
    (∀ (p : Fin 16) (s : State), (getPort s (p.val + 1)).rstLow = true → s.robj Obj.PSTATE_NOW < 3 → s.robj Obj.ENTRY_STATE < 2 → ∃ t, exec
      (.portRstNDeassert p) s = .next t ∧ (getPort t (p.val + 1)).rstLow = false ∧ t.obj (U.port (p.val + 1)) Obj.LINK_STATE = (if 2 ≤ preg s (p.val +
      1) Obj.LINK_STATE then preg s (p.val + 1) Obj.LINK_STATE else if canTrain (putPort s (p.val + 1) { getPort s (p.val + 1) with rstLow := false })
      (p.val + 1) = true then 1 else 0) ∧ t.hp.agents = s.hp.agents ∧ t.wharf = s.wharf ∧ t.media = s.media) ∧
    (∀ (p : Fin 16) (s : State), (getPort s (p.val + 1)).rstLow = true → 3 ≤ s.robj Obj.PSTATE_NOW → s.cs.wakeStep = 0 → s.cs.offDone = true → ∃ t,
      exec (.portRstNDeassert p) s = .next t ∧ t.cs = { s.cs with wakeQueued := false, wakeStep := 1, stepAt := s.now } ∧ t.robj Obj.ENTRY_STATE = 0 ∧
      t.obj (U.port (p.val + 1)) Obj.LINK_STATE = preg s (p.val + 1) Obj.LINK_STATE) ∧
    (∀ (p : Fin 16) (s : State), 2 ≤ preg s (p.val + 1) Obj.LINK_STATE → ∃ t, exec (.hotReset p) s = .next t ∧ t.obj (U.port (p.val + 1))
      Obj.LINK_STATE ≤ 1 ∧ t.obj (U.port (p.val + 1)) Obj.RATE_NOW = 0 ∧ t.obj (U.port (p.val + 1)) Obj.IDE_NOW = 0 ∧ t.obj (U.port (p.val + 1))
      Obj.FENCE_REASON = preg s (p.val + 1) Obj.FENCE_REASON &&& 0x0F ∧ t.obj (U.port (p.val + 1)) Obj.LINK_DOWN = ((preg s (p.val + 1) Obj.LINK_DOWN)
      + 1) % objModulus Obj.LINK_DOWN ∧ (t.hp.agents.all fun a => a.port != p.val + 1) = true ∧ t.media.store = s.media.store ∧ t.media.stripes =
      s.media.stripes ∧ t.phase = s.phase) ∧
    (∀ (p : Fin 16) (s : State), 2 ≤ preg s (p.val + 1) Obj.LINK_STATE → ∃ t, exec (.linkDisable p) s = .next t ∧ t.obj (U.port (p.val + 1))
      Obj.LINK_STATE = 0 ∧ t.obj (U.port (p.val + 1)) Obj.WIDTH_NOW = 0 ∧ t.obj (U.port (p.val + 1)) Obj.IDE_NOW = 0 ∧ t.obj (U.port (p.val + 1))
      Obj.FENCE_REASON = preg s (p.val + 1) Obj.FENCE_REASON &&& 0x0F ∧ t.obj (U.port (p.val + 1)) Obj.LINK_DOWN = ((preg s (p.val + 1) Obj.LINK_DOWN)
      + 1) % objModulus Obj.LINK_DOWN ∧ (t.hp.agents.all fun a => a.port != p.val + 1) = true ∧ t.media.store = s.media.store ∧ t.media.stripes =
      s.media.stripes ∧ t.phase = s.phase) ∧
    (∀ (p : Fin 16) (s : State), 2 ≤ preg s (p.val + 1) Obj.LINK_STATE → ∃ t, exec (.cxlReset p) s = .next t ∧ t.obj (U.port (p.val + 1))
      Obj.LINK_STATE = preg s (p.val + 1) Obj.LINK_STATE ∧ t.obj (U.port (p.val + 1)) Obj.LINK_DOWN = preg s (p.val + 1) Obj.LINK_DOWN ∧ t.obj (U.port
      (p.val + 1)) Obj.IDE_NOW = 0 ∧ t.obj (U.port (p.val + 1)) Obj.FENCE_REASON = preg s (p.val + 1) Obj.FENCE_REASON &&& 0x0F ∧ (t.hp.agents.all fun
      a => a.port != p.val + 1 || (a.decoders == [] && !a.biEnabled && a.biId == 0)) = true ∧ t.hp.agents.map (fun a => (a.port, a.src)) =
      s.hp.agents.map (fun a => (a.port, a.src)) ∧ t.media.store = s.media.store ∧ t.media.stripes = s.media.stripes ∧ t.phase = s.phase)

/-- Link events: a loss, a retrain, a link that comes up and one that cannot. Rests on 02 R30, 02 R31, 02 R43, 02 R46, 02 R53, 02 R54, 02 R56. -/
def Obligations.LinkEvents : Prop :=
  (∀ (p : Fin 16) (fe : Bool) (s : State), 2 ≤ preg s (p.val + 1) Obj.LINK_STATE → ∃ t, exec (.portLinkDown { port := p, farEnd := fe }) s = .next t ∧
    (getPort t (p.val + 1)).farEnd = fe ∧ t.obj (U.port (p.val + 1))
    Obj.LINK_STATE ≤ 1 ∧ t.obj (U.port (p.val + 1)) Obj.FENCE_REASON = setBit (preg s (p.val + 1) Obj.FENCE_REASON) 6 true ∧ t.obj (U.port (p.val +
    1)) Obj.LINK_DOWN = ((preg s (p.val + 1) Obj.LINK_DOWN) + 1) % objModulus Obj.LINK_DOWN ∧ (t.hp.agents.all fun a => a.port != p.val + 1 ||
    a.decoders == []) = true ∧ t.hp.agents.map (fun a => (a.port, a.src)) = s.hp.agents.map (fun a => (a.port, a.src)) ∧ t.media.store = s.media.store
    ∧ t.media.stripes = s.media.stripes ∧ t.phase = s.phase) ∧
    (∀ (p : Fin 16) (w : Nat) (x : Window) (s : State), 2 ≤ preg s (p.val + 1) Obj.LINK_STATE → AMap.get? s.mc.windows w = some x → ∃ t, exec
      (.linkRetrainRecovery p) s = .next t ∧ t = { s with mc := { s.mc with windows := t.mc.windows } } ∧ AMap.get? t.mc.windows w = some (if x.port =
      p.val + 1 ∧ x.resv.isSome = true then { x with resv := none, result := 3, loss := 4, resvState := 0 } else x)) ∧
    (∀ (p : Fin 16) (r fr : LinkRate) (w fw : LinkWidth) (m : FlitMode) (a b c : BitVec 16) (s : State), canTrain (putPort s (p.val + 1)
      { getPort s (p.val + 1) with hostDisabled := false }) (p.val + 1) = true → r.code ≤ (preg s (p.val + 1) Obj.RATE_CAP) → r.code ≤ fr.code →
      w.code ≤ fullWidth s (p.val + 1) → w.code ≤ fw.code → (m = .b68 → r = .g16 ∨ r = .g32) → (preg s (p.val + 1) Obj.LINK_STATE) ≤ 1 → ∃ t, exec
      (.linkReachesL0 p r w m fr fw a b c) s = .next t ∧ t.obj (U.port (p.val + 1)) Obj.LINK_STATE = (if r.code ≤ 8 ∨ w.code ≤ 2 then 2 else 3) ∧
      t.obj (U.port (p.val + 1)) Obj.RATE_NOW = r.code ∧ t.obj (U.port (p.val + 1)) Obj.WIDTH_NOW = w.code ∧ t.obj (U.port (p.val + 1)) Obj.FLIT_NOW =
      m.code ∧ t.obj (U.port (p.val + 1)) Obj.FENCE_REASON = setBit (preg s (p.val + 1) Obj.FENCE_REASON) 6 false ∧ t.hp.agents = s.hp.agents ∧
      t.media.store = s.media.store ∧ t.media.stripes = s.media.stripes ∧ t.phase = s.phase) ∧
    (∀ (p : Fin 16) (r : LinkRate) (w : LinkWidth) (s : State), canTrain s (p.val + 1) = true → (preg s (p.val + 1) Obj.LINK_STATE) ≤ 1 → (getPort s
      (p.val + 1)).failed = false → ∃ t, exec (.portFailed p r w) s = .next t ∧ unitState t (U.port (p.val + 1)) = 5 ∧ (getPort t (p.val + 1)).farEnd
      = true ∧ t.obj (U.port (p.val + 1)) Obj.LINK_STATE = preg s (p.val + 1) Obj.LINK_STATE ∧ t.hp.agents = s.hp.agents ∧ t.wharf = s.wharf) ∧
    (∀ (p : Fin 16) (s : State), (preg s (p.val + 1) Obj.PORT_ENABLE_STATE = 2 ∨ preg s (p.val + 1) Obj.PORT_ENABLE_STATE = 3) → (getPort s (p.val +
      1)).offDone = true → ∃ t, exec (.portShutdownDone p) s = .next t ∧ t.obj (U.port (p.val + 1)) Obj.PORT_ENABLE_STATE = (if preg s (p.val + 1)
      Obj.PORT_ENABLE_STATE = 2 then 0 else 3) ∧ t.obj (U.port (p.val + 1)) Obj.LINK_STATE = 0 ∧ (getPort t (p.val + 1)).offDone = false ∧
      (t.hp.agents.all fun a => a.port != p.val + 1) = true ∧ t.media.store = s.media.store ∧ t.media.stripes = s.media.stripes ∧ t.phase = s.phase) ∧
    (∀ (p : Fin 16) (s : State), linkMem s (p.val + 1) = true → quarters s (p.val + 1) = 4 → ∃ t, exec (.rwdCreditPace p) s = .next t ∧ (getPort t
      (p.val + 1)).pace = paceAllowance s (p.val + 1) ∧ (getPort t (p.val + 1)).rwdFree = (getPort s (p.val + 1)).rwdFree + (rwdPool s (p.val + 1) -
      ((getPort s (p.val + 1)).rwdFree + (getPort s (p.val + 1)).rwdUsed)) ∧ (getPort t (p.val + 1)).rwdUsed = (getPort s (p.val + 1)).rwdUsed ∧
      t.objs = s.objs ∧ t.hp.agents = s.hp.agents)

/-- States 02 R54: a retrain through Recovery changes nothing but the windows, and of those only the reservations held by the port's agents (reported as 03 R79 has it). -/
def Obligations.RetrainLosesOnlyReservations : Prop :=
  (∀ (p : Fin 16) (s : State), 2 ≤ preg s (p.val + 1) Obj.LINK_STATE → ∃ t, exec (.linkRetrainRecovery p) s = .next t ∧ t =
    { s with mc := { s.mc with windows := t.mc.windows } } ∧ ∀ w, AMap.get? t.mc.windows w = (AMap.get? s.mc.windows w).map (fun x => if x.port =
    p.val + 1 ∧ x.resv.isSome = true then { x with resv := none, result := 3, loss := 4, resvState := 0 } else x)) ∧
    (∀ (p : Fin 16) (s : State), preg s (p.val + 1) Obj.LINK_STATE < 2 → exec (.linkRetrainRecovery p) s = .next s)

/-- Agents and their decoders: enrolment, configuration reads, commits, their errors and uncommits. Rests on 02 R38, 02 R40, 02 R41, 02 R42, 03 R67. -/
def Obligations.AgentConfiguration : Prop :=
  (∀ (p : Fin 16) (src : BitVec 12) (g : BitVec 14) (s : State), ioAnswers s (p.val + 1) = true → findAgent s (p.val + 1) (srcOf s (p.val + 1)
    src.toNat) = none → (s.hp.agents.filter fun a => a.port == p.val + 1).length < (if (getPort s (p.val + 1)).attachNow = 1 then 4 else 1) → ∃ t,
    exec (.configRequest p src g .access) s = .next t ∧ t.hp.agents = s.hp.agents ++ [{ port := p.val + 1, src := (srcOf s (p.val + 1) src.toNat) }] ∧
    Out.ioCompletion (p.val + 1) g.toNat false 0 ∈ t.out ∧ t.objs = s.objs) ∧
    (∀ (p : Fin 16) (src : BitVec 12) (g : BitVec 14) (o : CfgOp) (s : State), ioAnswers s (p.val + 1) = true → findAgent s (p.val + 1) (srcOf s
      (p.val + 1) src.toNat) = none → (if (getPort s (p.val + 1)).attachNow = 1 then 4 else 1) ≤ (s.hp.agents.filter fun a => a.port == p.val +
      1).length → ∃ t, exec (.configRequest p src g o) s = .next t ∧ t.hp.agents = s.hp.agents ∧ t.hp.slots = s.hp.slots ∧ bitOf (getPort t (p.val +
      1)).aerSticky 20 = true ∧ Out.ioCompletion (p.val + 1) g.toNat true 0 ∈ t.out ∧ t.obj U.ports Obj.ENROLL_REFUSED = (s.obj U.ports
      Obj.ENROLL_REFUSED + 1) % objModulus Obj.ENROLL_REFUSED) ∧
    (∀ (p : Fin 16) (src : BitVec 12) (g : BitVec 14) (en : Bool) (i : Nat) (a : Agent) (s : State), ioAnswers s (p.val + 1) = true → findAgent s
      (p.val + 1) (srcOf s (p.val + 1) src.toNat) = some a → ∃ t, exec (.configRequest p src g (.setBi en i)) s = .next t ∧ findAgent t (p.val + 1)
      (srcOf s (p.val + 1) src.toNat) = some { a with biEnabled := en, biId := i % 65536 } ∧ ((slotOf s (p.val + 1) (srcOf s (p.val + 1)
      src.toNat)).all fun k => (AMap.get? t.hp.slots k).map (·.biId) == some (i % 65536)) = true ∧ t.hp.agents.length = s.hp.agents.length ∧
      Out.ioCompletion (p.val + 1) g.toNat false 0 ∈ t.out) ∧
    (∀ (p : Fin 16) (src : BitVec 12) (d : Fin 16) (hpa dpa size : BitVec 64) (w c : Nat) (bi : Bool) (a : Agent) (s : State), ioAnswers s (p.val + 1)
      = true → findAgent s (p.val + 1) (srcOf s (p.val + 1) src.toNat) = some a → AMap.has a.decoders d.val = false → commitCheck s a hpa.toNat
      dpa.toNat size.toNat w bi = c → c ≠ 0 → ∃ t, exec (.hdmDecoderCommit p src d hpa dpa size w bi) s = .next t ∧ findAgent t (p.val + 1) (srcOf s
      (p.val + 1) src.toNat) = some { a with commitErr := d.val :: a.commitErr.filter (· != d.val) } ∧ t.hp.slots = s.hp.slots ∧ t.hp.ports =
      s.hp.ports ∧ t.mc = s.mc ∧ t.obj (U.port (p.val + 1)) Obj.COMMIT_FAIL = ((preg s (p.val + 1) Obj.COMMIT_FAIL) + 1) % objModulus Obj.COMMIT_FAIL)
      ∧
    (∀ (p : Fin 16) (src : BitVec 12) (d : Fin 16) (hpa dpa size : BitVec 64) (w r : Nat) (bi : Bool) (a : Agent) (s : State), ioAnswers s (p.val + 1)
      = true → findAgent s (p.val + 1) (srcOf s (p.val + 1) src.toNat) = some a → AMap.has a.decoders d.val = false → commitCheck s a hpa.toNat
      dpa.toNat size.toNat w bi = 0 → placeDecoder s (p.val + 1) (srcOf s (p.val + 1) src.toNat) dpa.toNat size.toNat = some (.region r) → ∃ t, exec
      (.hdmDecoderCommit p src d hpa dpa size w bi) s = .next t ∧ findAgent t (p.val + 1) (srcOf s (p.val + 1) src.toNat) = some
      { a with decoders := AMap.set a.decoders d.val { hpa := hpa.toNat, dpa := dpa.toNat, size := size.toNat, bi := bi, region := r }, commitErr := a.commitErr.filter (· != d.val) }
      ∧ t.objs = s.objs ∧ t.mc = s.mc ∧ (bi = true → (slotOf t (p.val + 1) (srcOf s (p.val + 1) src.toNat)).isSome = true)) ∧
    (∀ (p : Fin 16) (src : BitVec 12) (d : Fin 16) (hpa dpa size : BitVec 64) (w : Nat) (bi : Bool) (a : Agent) (s : State), ioAnswers s (p.val + 1) =
      true → findAgent s (p.val + 1) (srcOf s (p.val + 1) src.toNat) = some a → AMap.has a.decoders d.val = false → commitCheck s a hpa.toNat
      dpa.toNat size.toNat w bi = 0 → placeDecoder s (p.val + 1) (srcOf s (p.val + 1) src.toNat) dpa.toNat size.toNat = some .window →
      (s.mc.windows.length < 32 ∨ (windowOf s (p.val + 1) (srcOf s (p.val + 1) src.toNat)).isSome = true) → ∃ t, exec (.hdmDecoderCommit p src d hpa
      dpa size w bi) s = .next t ∧ windowOf t (p.val + 1) (srcOf s (p.val + 1) src.toNat) ≠ none ∧ t.mc.regions = s.mc.regions ∧ t.objs = s.objs) ∧
    (∀ (p : Fin 16) (src : BitVec 12) (d : Fin 16) (a : Agent) (x : Decoder) (s : State), ioAnswers s (p.val + 1) = true → findAgent s (p.val + 1)
      (srcOf s (p.val + 1) src.toNat) = some a → AMap.get? a.decoders d.val = some x → x.withdrawing = false → x.bi = false → ∃ t, exec
      (.hdmDecoderUncommit p src d) s = .next t ∧ findAgent t (p.val + 1) (srcOf s (p.val + 1) src.toNat) = some
      { a with decoders := AMap.del a.decoders d.val } ∧ (inCwRange x.dpa = false → t.mc = s.mc) ∧ t.media = s.media) ∧
    (∀ (p : Fin 16) (src : BitVec 12) (d : Fin 16) (a : Agent) (x : Decoder) (s : State), ioAnswers s (p.val + 1) = true → findAgent s (p.val + 1)
      (srcOf s (p.val + 1) src.toNat) = some a → AMap.get? a.decoders d.val = some x → x.withdrawing = false → x.bi = true → slotOf s (p.val + 1)
      (srcOf s (p.val + 1) src.toNat) = none → ∃ t, exec (.hdmDecoderUncommit p src d) s = .next t ∧ findAgent t (p.val + 1) (srcOf s (p.val + 1)
      src.toNat) = some { a with decoders := AMap.del a.decoders d.val } ∧ t.mc = s.mc ∧ t.dir = s.dir) ∧
    (∀ (p : Fin 16) (src : BitVec 12) (g : BitVec 14) (f : CfgField) (a : Agent) (s : State), ioAnswers s (p.val + 1) = true → findAgent s (p.val + 1)
      (srcOf s (p.val + 1) src.toNat) = some a → exec (.configRequest p src g (.read f)) s = .next (s.emit (.ioCompletion (p.val + 1) g.toNat false
      (cfgValue s (p.val + 1) (srcOf s (p.val + 1) src.toNat) f)))) ∧
    (∀ (p : Fin 16) (src : BitVec 12) (g : BitVec 14) (f : CfgField) (s : State), ioAnswers s (p.val + 1) = true → findAgent s (p.val + 1) (srcOf s
      (p.val + 1) src.toNat) = none → (s.hp.agents.filter fun a => a.port == p.val + 1).length < (if (getPort s (p.val + 1)).attachNow = 1 then 4 else
      1) → ∃ t, exec (.configRequest p src g (.read f)) s = .next t ∧ t.hp.agents = s.hp.agents ++
      [{ port := p.val + 1, src := (srcOf s (p.val + 1) src.toNat) }] ∧ Out.ioCompletion (p.val + 1) g.toNat false (cfgValue
      { s with hp := { s.hp with agents := s.hp.agents ++ [{ port := p.val + 1, src := (srcOf s (p.val + 1) src.toNat) }] } } (p.val + 1) (srcOf s
      (p.val + 1) src.toNat) f) ∈ t.out ∧ t.objs = s.objs) ∧
    (∀ (p : Fin 16) (src : BitVec 12) (g : BitVec 14) (en : Bool) (i : Nat) (s : State), ioAnswers s (p.val + 1) = true → findAgent s (p.val + 1)
      (srcOf s (p.val + 1) src.toNat) = none → (s.hp.agents.filter fun a => a.port == p.val + 1).length < (if (getPort s (p.val + 1)).attachNow = 1
      then 4 else 1) → ∃ t, exec (.configRequest p src g (.setBi en i)) s = .next t ∧ t.hp.agents = s.hp.agents ++
      [{ port := p.val + 1, src := (srcOf s (p.val + 1) src.toNat), biEnabled := en, biId := i % 65536 }] ∧ Out.ioCompletion (p.val + 1) g.toNat false
      0 ∈ t.out ∧ t.objs = s.objs) ∧
    (∀ (p : Fin 16) (src : BitVec 12) (d : Fin 16) (hpa dpa size : BitVec 64) (w r h : Nat) (bi : Bool) (a : Agent) (s : State), ioAnswers s (p.val +
      1) = true → findAgent s (p.val + 1) (srcOf s (p.val + 1) src.toNat) = some a → AMap.has a.decoders d.val = false → commitCheck s a hpa.toNat
      dpa.toNat size.toNat w bi = 0 → placeDecoder s (p.val + 1) (srcOf s (p.val + 1) src.toNat) dpa.toNat size.toNat = some (.alias_ r h) → ∃ t, exec
      (.hdmDecoderCommit p src d hpa dpa size w bi) s = .next t ∧ findAgent t (p.val + 1) (srcOf s (p.val + 1) src.toNat) = some
      { a with decoders := AMap.set a.decoders d.val { hpa := hpa.toNat, dpa := dpa.toNat, size := size.toNat, bi := bi, region := r, hint := h }, commitErr := a.commitErr.filter (· != d.val) }
      ∧ t.hp.slots = s.hp.slots ∧ t.objs = s.objs ∧ t.mc = s.mc) ∧
    (∀ (p : Fin 16) (src : BitVec 12) (d : Fin 16) (hpa dpa size : BitVec 64) (w : Nat) (bi : Bool) (a : Agent) (s : State), ioAnswers s (p.val + 1) =
      true → findAgent s (p.val + 1) (srcOf s (p.val + 1) src.toNat) = some a → AMap.has a.decoders d.val = false → commitCheck s a hpa.toNat
      dpa.toNat size.toNat w bi = 0 → placeDecoder s (p.val + 1) (srcOf s (p.val + 1) src.toNat) dpa.toNat size.toNat = some .berth → ∃ t, exec
      (.hdmDecoderCommit p src d hpa dpa size w bi) s = .next t ∧ findAgent t (p.val + 1) (srcOf s (p.val + 1) src.toNat) = some
      { a with decoders := AMap.set a.decoders d.val { hpa := hpa.toNat, dpa := dpa.toNat, size := size.toNat, bi := bi }, commitErr := a.commitErr.filter (· != d.val) }
      ∧ t.hp.slots = s.hp.slots ∧ t.objs = s.objs ∧ t.mc = s.mc) ∧
    (∀ (p : Fin 16) (src : BitVec 12) (d : Fin 16) (hpa dpa size : BitVec 64) (w : Nat) (bi : Bool) (a : Agent) (s : State), ioAnswers s (p.val + 1) =
      true → findAgent s (p.val + 1) (srcOf s (p.val + 1) src.toNat) = some a → AMap.has a.decoders d.val = true → exec (.hdmDecoderCommit p src d hpa
      dpa size w bi) s = .next s) ∧
    (∀ (p : Fin 16) (src : BitVec 12) (d : Fin 16) (k : Nat) (a : Agent) (x : Decoder) (s : State), ioAnswers s (p.val + 1) = true → findAgent s
      (p.val + 1) (srcOf s (p.val + 1) src.toNat) = some a → AMap.get? a.decoders d.val = some x → x.withdrawing = false → x.bi = true → slotOf s
      (p.val + 1) (srcOf s (p.val + 1) src.toNat) = some k → (a.decoders.all fun q => q.1 == d.val || !(q.2.bi || q.2.withdrawing)) = true →
      (s.dir.entries.all fun e => !bitOf e.2.sharers k) = true → recallLeft s k (fun _ => true) = false → ∃ t, exec (.hdmDecoderUncommit p src d) s =
      .next t ∧ findAgent t (p.val + 1) (srcOf s (p.val + 1) src.toNat) = some { a with decoders := a.decoders.filter fun q => q.1 != d.val } ∧
      AMap.get? t.hp.slots k = none ∧ t.wharf.entries = s.wharf.entries) ∧
    (∀ (p : Fin 16) (src : BitVec 12) (d : Fin 16) (k : Nat) (a : Agent) (x : Decoder) (s : State), ioAnswers s (p.val + 1) = true → findAgent s
      (p.val + 1) (srcOf s (p.val + 1) src.toNat) = some a → AMap.get? a.decoders d.val = some x → x.withdrawing = false → x.bi = true → slotOf s
      (p.val + 1) (srcOf s (p.val + 1) src.toNat) = some k → ∃ t, exec (.hdmDecoderUncommit p src d) s = .next t ∧ ((findAgent t (p.val + 1) (srcOf s
      (p.val + 1) src.toNat)).all fun b => (AMap.get? b.decoders d.val).all fun y => y.withdrawing) = true ∧ t.hp.agents.length = s.hp.agents.length)
      ∧
    (∀ (p : Fin 16) (src : BitVec 12) (d : Fin 16) (a : Agent) (s : State), ioAnswers s (p.val + 1) = true → findAgent s (p.val + 1) (srcOf s (p.val +
      1) src.toNat) = some a → ((AMap.get? a.decoders d.val).all fun x => x.withdrawing) = true → exec (.hdmDecoderUncommit p src d) s = .next s) ∧
    (∀ (p : Fin 16) (src : BitVec 12) (g : BitVec 14) (o : CfgOp) (s : State), ioAnswers s (p.val + 1) = false → exec (.configRequest p src g o) s =
      .next s) ∧
    (∀ (p : Fin 16) (src : BitVec 12) (g : BitVec 14) (a : Agent) (s : State), ioAnswers s (p.val + 1) = true → findAgent s (p.val + 1) (srcOf s
      (p.val + 1) src.toNat) = some a → exec (.configRequest p src g .access) s = .next (s.emit (.ioCompletion (p.val + 1) g.toNat false 0))) ∧
    (∀ (p : Fin 16) (src : BitVec 12) (d : Fin 16) (hpa dpa size : BitVec 64) (w : Nat) (bi : Bool) (s : State), ioAnswers s (p.val + 1) = false →
      exec (.hdmDecoderCommit p src d hpa dpa size w bi) s = .next s) ∧
    (∀ (p : Fin 16) (src : BitVec 12) (d : Fin 16) (s : State), ioAnswers s (p.val + 1) = false → exec (.hdmDecoderUncommit p src d) s = .next s)

/-- The CXL.io services of a port answer, and change nothing else. Rests on 02 R33, 02 R34, 02 R35. -/
def Obligations.PortServices : Prop :=
  (∀ (p : Fin 16) (s : State), ioAnswers s (p.val + 1) = true → exec (.gpfPhase1 p) s = .next (s.emit (.gpf (p.val + 1) 1 true))) ∧
    (∀ (p : Fin 16) (s : State), ioAnswers s (p.val + 1) = true → exec (.gpfPhase2 p) s = .next (s.emit (.gpf (p.val + 1) 2 true))) ∧
    (∀ (p : Fin 16) (s : State), ioAnswers s (p.val + 1) = true → exec (.identifyMemoryDevice p) s = .next (s.emit (.mailbox (p.val + 1) 0 [(if
      s.variant = .p128 then 109951162777600 else 54975581388800), (if s.variant = .p128 then 109951162777600 else 54975581388800), 0, 0]))) ∧
    (∀ (p : Fin 16) (s : State), ioAnswers s (p.val + 1) = true → exec (.getHealthInfo p) s = .next (s.emit (.mailbox (p.val + 1) 0 (healthInfo s))))
      ∧
    (∀ (p : Fin 16) (s : State), ioAnswers s (p.val + 1) = true → exec (.getSupportedLogs p) s = .next (s.emit (.mailbox (p.val + 1) 0 [1]))) ∧
    (∀ (p : Fin 16) (s : State), ioAnswers s (p.val + 1) = true → exec (.getLog p .effects) s = .next (s.emit (.mailbox (p.val + 1) 0 [0x0200, 0x0300,
      0x0400, 0x0401, 0x4000, 0x4200]))) ∧
    (∀ (p : Fin 16) (s : State), ioAnswers s (p.val + 1) = true → exec (.getLog p .other) s = .next (s.emit (.mailbox (p.val + 1) 3 []))) ∧
    (∀ (p : Fin 16) (s : State), ioAnswers s (p.val + 1) = true → exec (.getFwInfo p) s = .next (s.emit (.mailbox (p.val + 1) 0 [s.ts.image + 1,
      s.ts.slotA.version, s.ts.slotB.version]))) ∧
    (∀ (p : Fin 16) (s : State), ioAnswers s (p.val + 1) = true → ∃ t, exec (.getTimestamp p) s = .next t ∧ (∃ v, v < 2^64 ∧ t =
      { s with free := s.free + 1 }.emit (.mailbox (p.val + 1) 0 [v]))) ∧
    (∀ (p : Fin 16) (o : BitVec 16) (s : State), ioAnswers s (p.val + 1) = true → mailOpcodes.contains o.toNat = false → exec (.mailboxUnsupported p
      o) s = .next (s.emit (.mailbox (p.val + 1) 3 []))) ∧
    (∀ (p : Fin 16) (g : BitVec 14) (s : State), ioAnswers s (p.val + 1) = true → exec (.unsupportedRequest p g) s = .next ((aerRecord s (p.val + 1)
      20).emit (.ioCompletion (p.val + 1) g.toNat true 0))) ∧
    (∀ (p : Fin 16) (b : Nat) (s : State), ioAnswers s (p.val + 1) = true → b = 110000 * preg s (p.val + 1) Obj.RATE_NOW * preg s (p.val + 1)
      Obj.WIDTH_NOW / 1024 → exec (.cdatRead p) s = .next (s.emit (.cdat (p.val + 1) [[0, 1600, 150, b, b], [1, 160, 150, b, b]])))

/-- IDE keys and failures, and viral: modes, fences and the integrity halt. Rests on 02 R48, 02 R49, 02 R51, 02 R56, 10 R243. -/
def Obligations.IdeAndViral : Prop :=
  (∀ (p : Fin 16) (k : Bool) (s : State), ioAnswers s (p.val + 1) = true → preg s (p.val + 1) Obj.IDE_NOW = 0 → (k = true → preg s (p.val + 1)
    Obj.IDE_SKID_PERMIT ≠ 0) → exec (.ideKeyProgramming p true k false) s = .next (s.setObj (U.port (p.val + 1)) Obj.IDE_NOW (if k then 2 else 1))) ∧
    (∀ (p : Fin 16) (r : Bool) (s : State), preg s (p.val + 1) Obj.IDE_SKID_PERMIT = 0 → exec (.ideKeyProgramming p true true r) s = .next s) ∧
    (∀ (p : Fin 16) (k r : Bool) (s : State), ioAnswers s (p.val + 1) = true → preg s (p.val + 1) Obj.IDE_NOW ≠ 0 → (k = true → preg s (p.val + 1)
      Obj.IDE_SKID_PERMIT ≠ 0) → ∃ t, exec (.ideKeyProgramming p true k r) s = .next t ∧ (getPort t (p.val + 1)).memRefresh = true ∧ (getPort t (p.val
      + 1)).memNext = (if k then 2 else 1) ∧ t.objs = s.objs ∧ t.hp.agents = s.hp.agents) ∧
    (∀ (p : Fin 16) (k : Bool) (s : State), ioAnswers s (p.val + 1) = true → (getPort s (p.val + 1)).ioIde = false → exec (.ideKeyProgramming p false
      k false) s = .next (putPort s (p.val + 1) { (getPort s (p.val + 1)) with ioIde := true })) ∧
    (∀ (p : Fin 16) (s : State), (getPort s (p.val + 1)).memRefresh = true → ∃ t, exec (.ideKeySwitch p true) s = .next t ∧ t.obj (U.port (p.val + 1))
      Obj.IDE_NOW = (getPort s (p.val + 1)).memNext ∧ (getPort t (p.val + 1)).memRefresh = false ∧ t.hp.agents = s.hp.agents) ∧
    (∀ (p : Fin 16) (s : State), (getPort s (p.val + 1)).ioRefresh = true → exec (.ideKeySwitch p false) s = .next (putPort s (p.val + 1)
      { (getPort s (p.val + 1)) with ioRefresh := false })) ∧
    (∀ (p : Fin 16) (m q : Bool) (s : State), 2 ≤ preg s (p.val + 1) Obj.LINK_STATE → (if m = true then preg s (p.val + 1) Obj.IDE_NOW = 1 else
      (getPort s (p.val + 1)).ioIde = true) → ∃ t, exec (.ideMacFailContain p m q) s = .next t ∧ t.obj (U.port (p.val + 1)) Obj.FENCE_REASON = setBit
      (preg s (p.val + 1) Obj.FENCE_REASON) 4 true ∧ t.obj (U.port (p.val + 1)) Obj.IDE_FAIL = ((preg s (p.val + 1) Obj.IDE_FAIL) + 1) % objModulus
      Obj.IDE_FAIL ∧ t.media.store = s.media.store ∧ t.media.stripes = s.media.stripes ∧ t.phase = s.phase) ∧
    (∀ (p : Fin 16) (q : Bool) (s : State), 2 ≤ preg s (p.val + 1) Obj.LINK_STATE → preg s (p.val + 1) Obj.IDE_NOW = 2 → s.phase = .running →
      s.hm.latchHalted = false → ∃ t, exec (.ideMacFailSkid p q) s = .next t ∧ t.phase = .halted ∧ t.hm.latchHalted = true ∧ t.dp.integrity.cause = 6
      ∧ t.dp.integrity.port = p.val + 1 ∧ t.obj (U.port (p.val + 1)) Obj.IDE_FAIL = ((preg s (p.val + 1) Obj.IDE_FAIL) + 1) % objModulus Obj.IDE_FAIL
      ∧ t.robj Obj.INTEGRITY_HALTS = (s.robj Obj.INTEGRITY_HALTS + 1) % objModulus Obj.INTEGRITY_HALTS) ∧
    (∀ (p : Fin 16) (m : Bool) (s : State), ioAnswers s (p.val + 1) = true → ∃ t, exec (.ideKeySetupFail p m) s = .next t ∧ t.obj (U.port (p.val + 1))
      Obj.IDE_FAIL = ((preg s (p.val + 1) Obj.IDE_FAIL) + 1) % objModulus Obj.IDE_FAIL ∧ t.obj (U.port (p.val + 1)) Obj.IDE_NOW = preg s (p.val + 1)
      Obj.IDE_NOW ∧ t.hp.agents = s.hp.agents ∧ bitOf (getPort t (p.val + 1)).aerSticky 28 = true ∧ t.phase = s.phase) ∧
    (∀ (p : Fin 16) (s : State), 2 ≤ preg s (p.val + 1) Obj.LINK_STATE → ∃ t, exec (.viralRx p) s = .next t ∧ t.obj (U.port (p.val + 1))
      Obj.FENCE_REASON = setBit (preg s (p.val + 1) Obj.FENCE_REASON) 5 true ∧ t.obj (U.port (p.val + 1)) Obj.VIRAL_RX = ((preg s (p.val + 1)
      Obj.VIRAL_RX) + 1) % objModulus Obj.VIRAL_RX ∧ t.media.store = s.media.store ∧ t.media.stripes = s.media.stripes ∧ t.phase = s.phase)

/-- The end of a minimum off time: a queued enable is carried out, and none otherwise. Rests on 02 R53, 05 R141, 12 R292, 12 R298, 15 R358. -/
def Obligations.EnablesPending : Prop :=
  (∀ (n : Fin 16) (s : State), (getPort s (n.val + 1)).offDone = false → ∃ t, exec (.enablePendingDone (.port n)) s = .next t ∧ (getPort t (n.val +
    1)).offDone = true ∧ t.obj (U.port (n.val + 1)) Obj.PORT_ENABLE_STATE = (if preg s (n.val + 1) Obj.PORT_ENABLE_STATE = 3 then 1 else preg s (n.val
    + 1) Obj.PORT_ENABLE_STATE) ∧ t.hp.agents = s.hp.agents) ∧
    (∀ (s : State), s.hc.mirror.offDone = false → ∃ t, exec (.enablePendingDone .mirror) s = .next t ∧ t.hc.mirror.offDone = true ∧ mirState t = (if
      mirState s = 7 then (if mirrorHasRange s = true then 1 else 0) else mirState s) ∧ t.hc.berth = s.hc.berth) ∧
    (∀ (b : Fin 4) (s : State), s.pw.bankMin.contains b = true → ∃ t, exec (.enablePendingDone (.bank b)) s = .next t ∧ t.pw.bankMin =
      s.pw.bankMin.filter (· != b.val) ∧ (bankState s b ≠ 4 → t.objs = s.objs ∧ t.pw.railsUp = s.pw.railsUp)) ∧
    (∀ (p : Fin 2) (s : State), (netOf s (p.val + 1)).shut = true → (netOf s (p.val + 1)).offTimerDone = false → ∃ t, exec (.enablePendingDone (.net
      p)) s = .next t ∧ (netOf t (p.val + 1)).shut = false ∧ (netOf t (p.val + 1)).offTimerDone = true ∧ t.obj (U.netPort (p.val + 1))
      Obj.NET_ENABLE_STATE = (if s.obj (U.netPort (p.val + 1)) Obj.NET_ENABLE_STATE = 3 then 1 else s.obj (U.netPort (p.val + 1))
      Obj.NET_ENABLE_STATE)) ∧
    (∀ (s : State), 3 ≤ s.robj Obj.PSTATE_NOW → s.cs.offDone = false → s.cs.wakeStep = 0 → ∃ t, exec (.enablePendingDone .wake) s = .next t ∧ t.cs =
      (if s.cs.wakeQueued then { s.cs with offDone := true, wakeQueued := false, wakeStep := 1, stepAt := s.now } else { s.cs with offDone := true }))

/-- Drain and mirror barriers of a window: what is done at once, what waits, and the completion a hold time releases. Rests on 03 R69, 03 R72, 03 R73, 03 R75. -/
def Obligations.WindowBarriers : Prop :=
  (∀ (p : Fin 16) (src : BitVec 12) (g : BitVec 14) (w : Nat) (v : BitVec 64) (m : ByteMask) (s : State), reachesWindow s (p.val + 1) src.toNat 0x0000
    w = true → m &&& 0xFF = 0xFF → blockInReset s 1 = false → s.wharf.entries = [] → s.mc.cb = [] → ∃ t, exec (.drainBarrier p src g v m) s = .next t
    ∧ (getWin t w).drain = none ∧ (getWin t w).drainDone = v.toNat % 2^32 ∧ (getWin t w).drainState = 2 ∧ t.robj Obj.DRAIN_BARRIERS = (s.robj
    Obj.DRAIN_BARRIERS + 1) % objModulus Obj.DRAIN_BARRIERS) ∧
    (∀ (p : Fin 16) (src : BitVec 12) (g : BitVec 14) (w : Nat) (v : BitVec 64) (m : ByteMask) (s : State), reachesWindow s (p.val + 1) src.toNat
      0x0000 w = true → m &&& 0xFF = 0xFF → blockInReset s 1 = false → ((coveredPages s s.wharf.nextSeq).all fun pn => s.wharf.pinned.contains pn) =
      false → (s.mc.windows.all fun x => x.2.queue.isEmpty) = true → ∃ t, exec (.drainBarrier p src g v m) s = .next t ∧ (getWin t w).drain = some
      (v.toNat % 2^32, s.wharf.nextSeq) ∧ (getWin t w).drainState = 1 ∧ t.robj Obj.DRAIN_BARRIERS = (s.robj Obj.DRAIN_BARRIERS + 1) % objModulus
      Obj.DRAIN_BARRIERS ∧ (bitOf (s.robj Obj.CW_EARLY_CMP) 0 = false → (getWin t w).heldCmp = (getWin s w).heldCmp ++ [(1, g.toNat)])) ∧
    (∀ (p : Fin 16) (src : BitVec 12) (g : BitVec 14) (w : Nat) (v : BitVec 64) (m : ByteMask) (s : State), reachesWindow s (p.val + 1) src.toNat
      0x0040 w = true → m &&& 0xFF = 0xFF → (mirState s = 2 ∨ mirState s = 3) → mirrorPort s ≠ 0 → (s.hc.ranges.any fun x => x.2.mode == 3) = false →
      sendsNow s (p.val + 1) 0 = true → ∃ t, exec (.mirrorBarrier p src g v m) s = .next t ∧ (getWin t w).mirrorDone = v.toNat % 2^32 ∧ (getWin t
      w).mirrorState = 2 ∧ t.robj Obj.MIRROR_BARRIERS = (s.robj Obj.MIRROR_BARRIERS + 1) % objModulus Obj.MIRROR_BARRIERS ∧ sentNdr t (p.val + 1)
      g.toNat 0 = true) ∧
    (∀ (k : Fin 32) (r : Fin 4) (g : BitVec 14) (x : Window) (s : State), AMap.get? s.mc.windows (k.val + 1) = some x → x.heldCmp.contains (r.val + 1,
      g.toNat) = true → responds s x.port = true → sendsNow s x.port 0 = true → ∃ t, exec (.barrierHoldTimeout k r g) s = .next t ∧ getWin t (k.val +
      1) = { x with heldCmp := x.heldCmp.erase (r.val + 1, g.toNat) } ∧ sentNdr t x.port g.toNat 0 = true ∧ t.wharf = s.wharf) ∧
    (∀ (k : Fin 32) (r : Fin 4) (g : BitVec 14) (s : State), (getWin s (k.val + 1)).heldCmp.contains (r.val + 1, g.toNat) = false → exec
      (.barrierHoldTimeout k r g) s = .next s)

/-- Reservations of a window: the address, the load that arms, the conditional store and the losses. Rests on 03 R76, 03 R77, 03 R78, 03 R79, 03 R83. -/
def Obligations.Reservations : Prop :=
  (∀ (p : Fin 16) (src : BitVec 12) (g : BitVec 14) (w : Nat) (v : BitVec 64) (m : ByteMask) (s : State), reachesWindow s (p.val + 1) src.toNat 0x1000
    w = true → m &&& 0xFF = 0xFF → blockInReset s 2 = false → sendsNow s (p.val + 1) 0 = true → ∃ t, exec (.resvAddr p src g v m) s = .next t ∧
    (getWin t w).resvAddr = v.toNat % 2^57 / 8 * 8 ∧ (getWin t w).resv = (if s.robj Obj.PSTATE_NOW = 1 ∨ s.robj Obj.PSTATE_NOW = 2 then none else
    (getWin s w).resv) ∧ sentNdr t (p.val + 1) g.toNat 0 = true) ∧
    (∀ (p : Fin 16) (src : BitVec 12) (g : BitVec 14) (w : Nat) (gr : Region) (s : State), reachesWindow s (p.val + 1) src.toNat 0x1040 w = true →
      blockInReset s 2 = false → resvTarget s (p.val + 1) (getWin s w).resvAddr = some gr → gr.mode ≠ 2 → isBerthLine ((getWin s w).resvAddr / 64) =
      false → tableOpen s ((getWin s w).resvAddr / 64) = true → entersNow s .resvLoad ((getWin s w).resvAddr / 64) = true → sendsNow s (p.val + 1) 1 =
      true → hcLookup s ((getWin s w).resvAddr / 64) = none → AMap.get? s.mc.cb ((getWin s w).resvAddr / 64) = none → stagedEntry s ((getWin s
      w).resvAddr / 64) = none → markerCovers s ((getWin s w).resvAddr / 64) = false → (AMap.getD s.hc.pbuf (sliceOfLine ((getWin s w).resvAddr / 64))
      []) = [] → AMap.get? s.media.pcache (sectorOfLine ((getWin s w).resvAddr / 64)) = none → mapLost s (pageOfLine ((getWin s w).resvAddr / 64)) =
      false → mapGet s (pageOfLine ((getWin s w).resvAddr / 64)) = none → ∃ t, exec (.resvLoad p src g []) s = .next t ∧ (getWin t w).resv = some
      (((getWin s w).resvAddr / 64), false) ∧ (getWin t w).resvWord = (getWin s w).resvAddr / 8 % 8 ∧ (getWin t w).result = 1 ∧ (getWin t w).loss = 0
      ∧ (getWin t w).resvState = 1 ∧ sentDrs t (p.val + 1) g.toNat 0 false 0 = true) ∧
    (∀ (p : Fin 16) (src : BitVec 12) (g : BitVec 14) (w : Nat) (s : State), reachesWindow s (p.val + 1) src.toNat 0x1040 w = true → blockInReset s 2
      = false → resvTarget s (p.val + 1) (getWin s w).resvAddr = none → sendsNow s (p.val + 1) 1 = true → ∃ t, exec (.resvLoad p src g []) s = .next t
      ∧ (getWin t w).resv = none ∧ (getWin t w).result = 5 ∧ (getWin t w).resvState = 5 ∧ sentDrs t (p.val + 1) g.toNat 0 false 0 = true) ∧
    (∀ (p : Fin 16) (src : BitVec 12) (g : BitVec 14) (w : Nat) (v : BitVec 64) (m : ByteMask) (l : Nat) (s : State), reachesWindow s (p.val + 1)
      src.toNat 0x1080 w = true → m &&& 0xFF = 0xFF → blockInReset s 2 = false → (getWin s w).resv = some (l, false) → (getWin s w).resvWord < 8 →
      isBerthLine l = false → tableOpen s l = true → entersNow s .resvStore l = true → AMap.get? s.mc.cb l = none → (cbOf s (sliceOfLine l)).length <
      256 → s.robj Obj.PSTATE_NOW ≠ 1 → s.robj Obj.PSTATE_NOW ≠ 2 → ∃ t, exec (.resvStore p src g v m []) s = .next t ∧ (getWin t w).resv = none ∧
      (getWin t w).result = 2 ∧ (getWin t w).resvState = 2 ∧ t.robj Obj.RESV_SUCCESS = (s.robj Obj.RESV_SUCCESS + 1) % objModulus Obj.RESV_SUCCESS ∧
      t.robj Obj.RESV_FAIL = s.robj Obj.RESV_FAIL ∧ (AMap.get? t.mc.cb l).map (fun e => (e.data, e.mask)) = some (((v.setWidth 512) <<< (64 * (getWin
      s w).resvWord)) &&& maskBits ((0xFF : ByteMask) <<< (8 * (getWin s w).resvWord)), (0xFF : ByteMask) <<< (8 * (getWin s w).resvWord))) ∧
    (∀ (p : Fin 16) (src : BitVec 12) (g : BitVec 14) (w : Nat) (v : BitVec 64) (m : ByteMask) (s : State), reachesWindow s (p.val + 1) src.toNat
      0x1080 w = true → m &&& 0xFF = 0xFF → blockInReset s 2 = false → (getWin s w).resv = none → resvTarget s (p.val + 1) (getWin s w).resvAddr =
      none → ∃ t, exec (.resvStore p src g v m []) s = .next t ∧ (getWin t w).result = (if (getWin s w).result = 3 then 3 else 4) ∧ (getWin t
      w).resvState = 0 ∧ t.robj Obj.RESV_FAIL = (s.robj Obj.RESV_FAIL + 1) % objModulus Obj.RESV_FAIL ∧ t.robj Obj.RESV_SUCCESS = s.robj
      Obj.RESV_SUCCESS ∧ t.mc.cb = s.mc.cb) ∧
    (∀ (k : Fin 32) (x : Window) (s : State), AMap.get? s.mc.windows (k.val + 1) = some x → x.resv.isSome = true → ∃ t, exec (.reservationExpiry k) s
      = .next t ∧ getWin t (k.val + 1) = { x with resv := none, result := 3, loss := 9, resvState := 0 } ∧ { t with mc := s.mc } = s) ∧
    (∀ (k : Fin 32) (x : Window) (s : State), AMap.get? s.mc.windows (k.val + 1) = some x → x.resv = none → ∃ t, exec (.reservationExpiry k) s = .next
      t ∧ getWin t (k.val + 1) = x ∧ { t with mc := s.mc } = s)

/-- Discards and plain register writes of a window. Rests on 03 R68, 03 R70, 03 R80, 03 R81, 03 R83. -/
def Obligations.WindowDiscards : Prop :=
  (∀ (p : Fin 16) (src : BitVec 12) (g : BitVec 14) (w : Nat) (o : BitVec 28) (x : LineData) (m : ByteMask) (s : State), reachesWindow s (p.val + 1)
    src.toNat o.toNat w = true → o.toNat / 64 * 64 = 0x2000 → blockInReset s 3 = false → m &&& 0xFF = 0xFF → sendsNow s (p.val + 1) 0 = true → ∃ t,
    exec (.cwWrite p src g o x m) s = .next t ∧ (getWin t w).discardBase = x.toNat % 2^64 % 2^47 / 4096 ∧ (getWin t w).discardPages = (getWin s
    w).discardPages ∧ sentNdr t (p.val + 1) g.toNat 0 = true) ∧
    (∀ (p : Fin 16) (src : BitVec 12) (g : BitVec 14) (w : Nat) (o : BitVec 28) (x : LineData) (m : ByteMask) (s : State), reachesWindow s (p.val + 1)
      src.toNat o.toNat w = true → o.toNat / 64 * 64 = 0x2040 → blockInReset s 3 = false → m &&& 0xFF = 0xFF → sendsNow s (p.val + 1) 0 = true → ∃ t,
      exec (.cwWrite p src g o x m) s = .next t ∧ (getWin t w).discardPages = x.toNat % 2^64 % 2^25 ∧ (getWin t w).discardBase = (getWin s
      w).discardBase ∧ sentNdr t (p.val + 1) g.toNat 0 = true) ∧
    (∀ (p : Fin 16) (src : BitVec 12) (g : BitVec 14) (w : Nat) (o : BitVec 28) (x : LineData) (m : ByteMask) (s : State), reachesWindow s (p.val + 1)
      src.toNat o.toNat w = true → (0x100000 ≤ o.toNat ∨ cwRegion (o.toNat / 64 * 64) = 0 ∨ cwReadOnly (o.toNat / 64 * 64) = true ∨ m &&& 0xFF = 0) →
      sendsNow s (p.val + 1) 0 = true → ∃ t, exec (.cwWrite p src g o x m) s = .next t ∧ t.robj Obj.CW_REJECTED = (s.robj Obj.CW_REJECTED + 1) %
      objModulus Obj.CW_REJECTED ∧ ((getWin s w).drain = none → (getWin t w).drainState = (getWin s w).drainState) ∧ (getWin t w).resvAddr = (getWin s
      w).resvAddr ∧ sentNdr t (p.val + 1) g.toNat 0 = true) ∧
    (∀ (p : Fin 16) (src : BitVec 12) (g : BitVec 14) (w : Nat) (v : BitVec 64) (m : ByteMask) (s : State), reachesWindow s (p.val + 1) src.toNat
      0x2080 w = true → m &&& 0xFF = 0xFF → blockInReset s 3 = false → (getWin s w).discardPages = 0 → sendsNow s (p.val + 1) 0 = true → ∃ t, exec
      (.discardGo p src g v m) s = .next t ∧ (getWin t w).discardState = 5 ∧ t.robj Obj.CW_REJECTED = (s.robj Obj.CW_REJECTED + 1) % objModulus
      Obj.CW_REJECTED ∧ sentNdr t (p.val + 1) g.toNat 0 = true) ∧
    (∀ (p : Fin 16) (src : BitVec 12) (g : BitVec 14) (w : Nat) (v : BitVec 64) (m : ByteMask) (s : State), reachesWindow s (p.val + 1) src.toNat
      0x2080 w = true → m &&& 0xFF = 0xFF → blockInReset s 3 = false → (getWin s w).queue = [] → 0 < (getWin s w).discardPages → (getWin s
      w).discardPages ≤ 16777216 → portAdmitsPages s (p.val + 1) 65 (getWin s w).discardBase ((getWin s w).discardBase + (getWin s w).discardPages -
      1) = true → ∃ t, exec (.discardGo p src g v m) s = .next t ∧ (getWin t w).queue =
      [{ base := (getWin s w).discardBase, count := (getWin s w).discardPages, token := v.toNat % 2^32, started := s.now }] ∧ (getWin t
      w).discardState = 1) ∧
    (∀ (k : Fin 32) (x : Window) (d : Discard) (s : State), AMap.get? s.mc.windows (k.val + 1) = some x → x.queue = [d] → (s.mc.windows.all fun q =>
      q.1 == k.val + 1 || q.2.queue.isEmpty) = true → d.active = false → d.count = d.next + 1 → blockInReset s 3 = false → s.phase = .running →
      s.wharf.entries = [] → s.wharf.markers = [] → s.mc.cb = [] → s.mc.gone = [] → s.wharf.lighters = [] → s.dir.waiting = [] → s.hc.sectors = [] →
      (getRegion s (regionOfPage s (d.base + d.next))).mode ≠ 2 → isBerthLine ((d.base + d.next) * 64) = false → mapGet s (d.base + d.next) = none →
      mapLost s (d.base + d.next) = false → repairBlocks s (d.base + d.next) = false → ∃ t, exec (.discardPage k) s = .next t ∧ (getWin t (k.val + 1)).queue = [] ∧ (getWin t (k.val +
      1)).discardDone = d.token ∧ (getWin t (k.val + 1)).discardRan = true ∧ (getWin t (k.val + 1)).discardState = opEnds x.discardState 2 ∧
      t.media.map = s.media.map ∧ t.media.store = s.media.store)

/-- The end of the drain that a region apply waits for: abandoned, taken into effect, or still running. Rests on 03 R58, 10 R240. -/
def Obligations.RegionDrain : Prop :=
  (∀ (k : Fin 64) (a : RegionApply) (s : State), s.mc.applying.find? (fun q => q.region == k.val + 1) = some a → ((regionPages s (k.val + 1)).any fun
    pn => s.wharf.pinned.contains pn) = true → ∃ t, exec (.regionApplyDrainDone k) s = .next t ∧ t.mc.regions = s.mc.regions ∧ t.mc.applying =
    s.mc.applying.filter (fun q => q.region != k.val + 1) ∧ t.wharf = s.wharf) ∧
    (∀ (k : Fin 64) (a : RegionApply) (s : State), s.mc.applying.find? (fun q => q.region == k.val + 1) = some a → regionPages s (k.val + 1) = [] →
      a.def_.mode ≠ 0 → ∃ t, exec (.regionApplyDrainDone k) s = .next t ∧ AMap.get? t.mc.regions (k.val + 1) = some a.def_ ∧ (∀ q, q ≠ k.val + 1 →
      AMap.get? t.mc.regions q = AMap.get? s.mc.regions q) ∧ t.mc.applying = s.mc.applying.filter (fun q => q.region != k.val + 1) ∧ t.wharf =
      s.wharf) ∧
    (∀ (k : Fin 64) (a : RegionApply) (s : State), s.mc.applying.find? (fun q => q.region == k.val + 1) = some a → regionPages s (k.val + 1) ≠ [] →
      ((regionPages s (k.val + 1)).any fun pn => s.wharf.pinned.contains pn) = false → exec (.regionApplyDrainDone k) s = .next s)

/-- Writes of host capacity outside HDM-DB: a full line is staged and completes, a partial one waits in the combining buffer. Rests on 01 R14, 01 R15, 03 R60, 03 R62, 06 R144, 10 R233. -/
def Obligations.BulkWrites : Prop :=
  (∀ (p : Fin 16) (src : BitVec 12) (g : BitVec 14) (addr : BitVec 64) (dpa : Nat) (d : Decoder) (mv : MetaValue) (x : LineData) (z : Bool) (s :
    State), hostReaches s (p.val + 1) src.toNat addr.toNat dpa d = true → inCwRange dpa = false → inBerthRange dpa = false → (getRegion s
    d.region).mode ≠ 2 → tableOpen s (lineOfDpa dpa) = true → entersNow s .write (lineOfDpa dpa) = true → sendsNow s (p.val + 1) 0 = true → ∃ t, exec
    (.memWr p src g addr mv x z []) s = .next t ∧ (stagedEntry t (lineOfDpa dpa)).map (fun e => (e.data, e.mask, e.poison)) = some (x, fullMask, z) ∧
    sentNdr t (p.val + 1) g.toNat 0 = true ∧ t.media.store = s.media.store ∧ t.hc.berth = s.hc.berth ∧ (∀ y, y ≠ lineOfDpa dpa → (stagedEntry t y).map
    (fun e => (e.data, e.mask, e.poison)) = (stagedEntry s y).map (fun e => (e.data, e.mask, e.poison)) ∧ AMap.get? t.mc.cb y = AMap.get? s.mc.cb y))
    ∧
    (∀ (p : Fin 16) (src : BitVec 12) (g : BitVec 14) (addr : BitVec 64) (dpa : Nat) (d : Decoder) (mv : MetaValue) (x : LineData) (m : ByteMask) (z :
      Bool) (s : State), hostReaches s (p.val + 1) src.toNat addr.toNat dpa d = true → inCwRange dpa = false → inBerthRange dpa = false → (getRegion s
      d.region).mode ≠ 2 → tableOpen s (lineOfDpa dpa) = true → entersNow s .write (lineOfDpa dpa) = true → sendsNow s (p.val + 1) 0 = true → m ≠
      fullMask → AMap.get? s.mc.cb (lineOfDpa dpa) = none → (cbOf s (sliceOfLine (lineOfDpa dpa))).length < 256 → ∃ t, exec (.memWrPtl p src g addr mv
      x m z false []) s = .next t ∧ AMap.get? t.mc.cb (lineOfDpa dpa) = some
      { data := x &&& maskBits m, mask := m, poison := if z then m else 0, seq := s.wharf.nextSeq } ∧ sentNdr t (p.val + 1) g.toNat 0 = true ∧
      t.media.store = s.media.store ∧ (∀ y, y ≠ lineOfDpa dpa → (stagedEntry t y).map (fun e => (e.data, e.mask, e.poison)) = (stagedEntry s y).map
      (fun e => (e.data, e.mask, e.poison)) ∧ AMap.get? t.mc.cb y = AMap.get? s.mc.cb y)) ∧
    (∀ (p : Fin 16) (src : BitVec 12) (g : BitVec 14) (addr : BitVec 64) (dpa : Nat) (d : Decoder) (mv : MetaValue) (x : LineData) (m : ByteMask) (z :
      Bool) (e : CbEntry) (s : State), hostReaches s (p.val + 1) src.toNat addr.toNat dpa d = true → inCwRange dpa = false → inBerthRange dpa = false
      → (getRegion s d.region).mode ≠ 2 → tableOpen s (lineOfDpa dpa) = true → entersNow s .write (lineOfDpa dpa) = true → sendsNow s (p.val + 1) 0 =
      true → m ≠ fullMask → AMap.get? s.mc.cb (lineOfDpa dpa) = some e → e.mask ||| m ≠ fullMask → ∃ t, exec (.memWrPtl p src g addr mv x m z false
      []) s = .next t ∧ AMap.get? t.mc.cb (lineOfDpa dpa) = some
      { data := overlay e.data x m, mask := e.mask ||| m, poison := (e.poison &&& ~~~ m) ||| (if z then m else 0), seq := e.seq } ∧ sentNdr t (p.val +
      1) g.toNat 0 = true ∧ t.media.store = s.media.store ∧ (∀ y, y ≠ lineOfDpa dpa → (stagedEntry t y).map (fun e => (e.data, e.mask, e.poison)) =
      (stagedEntry s y).map (fun e => (e.data, e.mask, e.poison)) ∧ AMap.get? t.mc.cb y = AMap.get? s.mc.cb y)) ∧
    (∀ (l : Nat) (e : CbEntry) (s : State), s.phase = .running → AMap.get? s.mc.cb l = some e → e.mask = fullMask → ∃ t, exec (.combiningTimeout l) s
      = .next t ∧ t.mc.cb = AMap.del s.mc.cb l ∧ (stagedEntry t l).map (fun q => (q.data, q.mask, q.seq)) = some (e.data, fullMask, e.seq) ∧
      t.media.store = s.media.store ∧ (∀ y, y ≠ l → (stagedEntry t y).map (fun q => (q.data, q.mask, q.poison)) = (stagedEntry s y).map (fun q =>
      (q.data, q.mask, q.poison)))) ∧
    (∀ (l : Nat) (e : CbEntry) (s : State), s.phase = .running → AMap.get? s.mc.cb l = some e → AMap.get? s.wharf.entries l = none → ∃ t, exec
      (.combiningTimeout l) s = .next t ∧ t.mc.cb = AMap.del s.mc.cb l ∧ (stagedEntry t l).map (fun q => (q.data, q.mask, q.poison)) = some (e.data,
      e.mask, e.poison != 0) ∧ (∀ y, y ≠ l → (stagedEntry t y).map (fun q => (q.data, q.mask, q.poison)) = (stagedEntry s y).map (fun q => (q.data,
      q.mask, q.poison)))) ∧
    (∀ (p : Fin 16) (src : BitVec 12) (g : BitVec 14) (addr : BitVec 64) (dpa : Nat) (d : Decoder) (mv : MetaValue) (x : LineData) (m : ByteMask) (z :
      Bool) (e : CbEntry) (s : State), hostReaches s (p.val + 1) src.toNat addr.toNat dpa d = true → inCwRange dpa = false → inBerthRange dpa = false
      → (getRegion s d.region).mode ≠ 2 → tableOpen s (lineOfDpa dpa) = true → entersNow s .write (lineOfDpa dpa) = true → sendsNow s (p.val + 1) 0 =
      true → m ≠ fullMask → AMap.get? s.mc.cb (lineOfDpa dpa) = some e → e.mask ||| m = fullMask → ∃ t, exec (.memWrPtl p src g addr mv x m z false
      []) s = .next t ∧ AMap.get? t.mc.cb (lineOfDpa dpa) = none ∧ (stagedEntry t (lineOfDpa dpa)).map (fun q => (q.data, q.mask, q.poison)) = some
      (overlay e.data x m, fullMask, ((e.poison &&& ~~~ m) ||| (if z then m else 0)) != 0) ∧ sentNdr t (p.val + 1) g.toNat 0 = true ∧ t.media.store =
      s.media.store ∧ (∀ y, y ≠ lineOfDpa dpa → (stagedEntry t y).map (fun e => (e.data, e.mask, e.poison)) = (stagedEntry s y).map (fun e => (e.data,
      e.mask, e.poison)) ∧ AMap.get? t.mc.cb y = AMap.get? s.mc.cb y))

/-- Reads of host capacity outside HDM-DB by the read order: the home cache, a whole staged line, and an unmapped page. Rests on 01 R17, 03 R61, 05 R112, 05 R128, 05 R131, 06 R147. -/
def Obligations.BulkReads : Prop :=
  (∀ (p : Fin 16) (src : BitVec 12) (g : BitVec 14) (addr : BitVec 64) (dpa : Nat) (d : Decoder) (mv : MetaValue) (l : BerthLine) (w : Nat) (s :
    State), hostReaches s (p.val + 1) src.toNat addr.toNat dpa d = true → inCwRange dpa = false → inBerthRange dpa = false → (getRegion s
    d.region).mode ≠ 2 → tableOpen s (lineOfDpa dpa) = true → entersNow s .read (lineOfDpa dpa) = true → sendsNow s (p.val + 1) 1 = true → hcLookup s
    (lineOfDpa dpa) = some (l, w) → ∃ t, exec (.memRd p src g addr mv []) s = .next t ∧ sentDrs t (p.val + 1) g.toNat l.data (l.poison != 0) 0 = true
    ∧ t.media.store = s.media.store) ∧
    (∀ (p : Fin 16) (src : BitVec 12) (g : BitVec 14) (addr : BitVec 64) (dpa : Nat) (d : Decoder) (mv : MetaValue) (e : WEntry) (s : State),
      hostReaches s (p.val + 1) src.toNat addr.toNat dpa d = true → inCwRange dpa = false → inBerthRange dpa = false → (getRegion s d.region).mode ≠ 2
      → tableOpen s (lineOfDpa dpa) = true → entersNow s .read (lineOfDpa dpa) = true → sendsNow s (p.val + 1) 1 = true → hcLookup s (lineOfDpa dpa) =
      none → AMap.get? s.mc.cb (lineOfDpa dpa) = none → stagedEntry s (lineOfDpa dpa) = some e → e.mask = fullMask → ∃ t, exec (.memRd p src g addr mv
      []) s = .next t ∧ sentDrs t (p.val + 1) g.toNat e.data e.poison 0 = true ∧ t.media.store = s.media.store) ∧
    (∀ (p : Fin 16) (src : BitVec 12) (g : BitVec 14) (addr : BitVec 64) (dpa : Nat) (d : Decoder) (mv : MetaValue) (s : State), hostReaches s (p.val
      + 1) src.toNat addr.toNat dpa d = true → inCwRange dpa = false → inBerthRange dpa = false → (getRegion s d.region).mode ≠ 2 → tableOpen s
      (lineOfDpa dpa) = true → entersNow s .read (lineOfDpa dpa) = true → sendsNow s (p.val + 1) 1 = true → hcLookup s (lineOfDpa dpa) = none →
      AMap.get? s.mc.cb (lineOfDpa dpa) = none → stagedEntry s (lineOfDpa dpa) = none → markerCovers s (lineOfDpa dpa) = false → (AMap.getD s.hc.pbuf
      (sliceOfLine (lineOfDpa dpa)) []) = [] → AMap.get? s.media.pcache (sectorOfLine (lineOfDpa dpa)) = none → mapLost s (pageOfLine (lineOfDpa dpa))
      = false → mapGet s (pageOfLine (lineOfDpa dpa)) = none → ∃ t, exec (.memRd p src g addr mv []) s = .next t ∧ sentDrs t (p.val + 1) g.toNat 0
      false 0 = true ∧ t.ml.reads = s.ml.reads ∧ t.media.store = s.media.store) ∧
    (∀ (p : Fin 16) (src : BitVec 12) (g : BitVec 14) (addr : BitVec 64) (dpa : Nat) (d : Decoder) (s : State), hostReaches s (p.val + 1) src.toNat
      addr.toNat dpa d = true → inCwRange dpa = false → inBerthRange dpa = false → (getRegion s d.region).mode ≠ 2 → tableOpen s (lineOfDpa dpa) =
      true → entersNow s .read (lineOfDpa dpa) = true → sendsNow s (p.val + 1) 1 = true → hcLookup s (lineOfDpa dpa) = none → AMap.get? s.mc.cb
      (lineOfDpa dpa) = none → stagedEntry s (lineOfDpa dpa) = none → markerCovers s (lineOfDpa dpa) = false → (AMap.getD s.hc.pbuf (sliceOfLine
      (lineOfDpa dpa)) []) = [] → AMap.get? s.media.pcache (sectorOfLine (lineOfDpa dpa)) = none → mapLost s (pageOfLine (lineOfDpa dpa)) = false →
      mapGet s (pageOfLine (lineOfDpa dpa)) = none → ∃ t, exec (.memRdData p src g addr []) s = .next t ∧ sentDrs t (p.val + 1) g.toNat 0 false 0 =
      true ∧ t.ml.reads = s.ml.reads ∧ t.media.store = s.media.store) ∧
    (∀ (p : Fin 16) (src : BitVec 12) (g : BitVec 14) (addr : BitVec 64) (dpa : Nat) (d : Decoder) (mv : MetaValue) (r : BerthRange) (s : State),
      hostReaches s (p.val + 1) src.toNat addr.toNat dpa d = true → inCwRange dpa = false → inBerthRange dpa = true → berthAdmits s (dpa / 64) (p.val
      + 1) = some r → (s.hc.mirror.heldAsync.any fun b => b.line == dpa / 64) = false → sendsNow s (p.val + 1) 1 = true → ∃ t, exec (.memRd p src g
      addr mv []) s = .next t ∧ sentDrs t (p.val + 1) g.toNat (berthLine s (dpa / 64)).data ((berthLine s (dpa / 64)).poison != 0) 0 = true ∧
      t.hc.berth = s.hc.berth)

/-- Writes of a local berth range: the line takes the bytes under the mask, and no other line of the berth changes. Rests on 05 R125, 05 R127, 05 R131, 05 R128. -/
def Obligations.BerthWrites : Prop :=
  (∀ (p : Fin 16) (src : BitVec 12) (g : BitVec 14) (addr : BitVec 64) (dpa : Nat) (d : Decoder) (mv : MetaValue) (x : LineData) (z : Bool) (r :
    BerthRange) (s : State), Memory.wf s = true → hostReaches s (p.val + 1) src.toNat addr.toNat dpa d = true → inCwRange dpa = false → inBerthRange
    dpa = true → berthAdmits s (dpa / 64) (p.val + 1) = some r → r.mode = 1 → (s.hc.mirror.heldAsync.any fun b => b.line == dpa / 64) = false →
    dumpBlocked s = false → sendsNow s (p.val + 1) 0 = true → ∃ t, exec (.memWr p src g addr mv x z []) s = .next t ∧ berthLine t (dpa / 64) =
    (berthLine s (dpa / 64)).write x fullMask z ∧ (∀ y, y ≠ dpa / 64 → berthLine t y = berthLine s y) ∧ sentNdr t (p.val + 1) g.toNat 0 = true) ∧
    (∀ (p : Fin 16) (src : BitVec 12) (g : BitVec 14) (addr : BitVec 64) (dpa : Nat) (d : Decoder) (mv : MetaValue) (x : LineData) (m : ByteMask) (z :
      Bool) (r : BerthRange) (s : State), Memory.wf s = true → hostReaches s (p.val + 1) src.toNat addr.toNat dpa d = true → inCwRange dpa = false →
      inBerthRange dpa = true → berthAdmits s (dpa / 64) (p.val + 1) = some r → r.mode = 1 → (s.hc.mirror.heldAsync.any fun b => b.line == dpa / 64) =
      false → dumpBlocked s = false → sendsNow s (p.val + 1) 0 = true → ∃ t, exec (.memWrPtl p src g addr mv x m z false []) s = .next t ∧ berthLine t
      (dpa / 64) = (berthLine s (dpa / 64)).write x m z ∧ (∀ y, y ≠ dpa / 64 → berthLine t y = berthLine s y) ∧ sentNdr t (p.val + 1) g.toNat 0 =
      true)

/-- Requests for an HDM-DB line that nobody holds: the grants of ownership and of data, and the agents they record. Rests on 04 R92, 04 R93, 04 R94, 04 R100, 04 R101. -/
def Obligations.CoherentGrants : Prop :=
  (∀ (p : Fin 16) (src : BitVec 12) (g : BitVec 14) (addr : BitVec 64) (dpa : Nat) (d : Decoder) (k : Nat) (s : State), hostReaches s (p.val + 1)
    src.toNat addr.toNat dpa d = true → inCwRange dpa = false → inBerthRange dpa = false → (getRegion s d.region).mode = 2 → slotOf s (p.val + 1)
    (srcOf s (p.val + 1) src.toNat) = some k → k < 32 → domainOpen s k (lineOfDpa dpa) = true → (s.wharf.held.any fun b => b.line == (lineOfDpa dpa))
    = false → dirWay s (sectorOfLine (lineOfDpa dpa)) = none → dirFree s (sectorOfLine (lineOfDpa dpa)) = true → d.hint = 0 → sendsNow s (p.val + 1) 0
    = true → ∃ t, exec (.memInv p src g addr []) s = .next t ∧ dirState t (lineOfDpa dpa) = 2 ∧ dirSharers t (lineOfDpa dpa) = 2^k ∧ sentNdr t (p.val
    + 1) g.toNat 2 = true) ∧
    (∀ (p : Fin 16) (src : BitVec 12) (g : BitVec 14) (addr : BitVec 64) (dpa : Nat) (d : Decoder) (k : Nat) (s : State), hostReaches s (p.val + 1)
      src.toNat addr.toNat dpa d = true → inCwRange dpa = false → inBerthRange dpa = false → (getRegion s d.region).mode = 2 → slotOf s (p.val + 1)
      (srcOf s (p.val + 1) src.toNat) = some k → k < 32 → domainOpen s k (lineOfDpa dpa) = true → (s.wharf.held.any fun b => b.line == (lineOfDpa
      dpa)) = false → dirWay s (sectorOfLine (lineOfDpa dpa)) = none → dirFree s (sectorOfLine (lineOfDpa dpa)) = true → d.hint = 0 → ∃ t, exec
      (.memRdData p src g addr []) s = .next t ∧ dirState t (lineOfDpa dpa) = 2 ∧ dirSharers t (lineOfDpa dpa) = 2^k) ∧
    (∀ (p : Fin 16) (src : BitVec 12) (g : BitVec 14) (addr : BitVec 64) (dpa : Nat) (d : Decoder) (k : Nat) (s : State), hostReaches s (p.val + 1)
      src.toNat addr.toNat dpa d = true → inCwRange dpa = false → inBerthRange dpa = false → (getRegion s d.region).mode = 2 → slotOf s (p.val + 1)
      (srcOf s (p.val + 1) src.toNat) = some k → k < 32 → domainOpen s k (lineOfDpa dpa) = true → (s.wharf.held.any fun b => b.line == (lineOfDpa
      dpa)) = false → dirWay s (sectorOfLine (lineOfDpa dpa)) = none → dirFree s (sectorOfLine (lineOfDpa dpa)) = true → d.hint = 0 → ∃ t, exec
      (.memRd p src g addr .s []) s = .next t ∧ dirState t (lineOfDpa dpa) = 1 ∧ dirSharers t (lineOfDpa dpa) = 2^k) ∧
    (∀ (p : Fin 16) (src : BitVec 12) (g : BitVec 14) (addr : BitVec 64) (dpa : Nat) (d : Decoder) (s : State), hostReaches s (p.val + 1) src.toNat
      addr.toNat dpa d = true → inCwRange dpa = false → inBerthRange dpa = false → (getRegion s d.region).mode ≠ 2 → sendsNow s (p.val + 1) 0 = true →
      ∃ t, exec (.memInv p src g addr []) s = .next t ∧ sentNdr t (p.val + 1) g.toNat 0 = true ∧ t.dir = s.dir ∧ t.media.store = s.media.store) ∧
    (∀ (p : Fin 16) (src : BitVec 12) (g : BitVec 14) (addr : BitVec 64) (dpa : Nat) (d : Decoder) (s : State), hostReaches s (p.val + 1) src.toNat
      addr.toNat dpa d = true → inCwRange dpa = false → inBerthRange dpa = false → (getRegion s d.region).mode ≠ 2 → sendsNow s (p.val + 1) 0 = true →
      ∃ t, exec (.memClnEvct p src g addr []) s = .next t ∧ sentNdr t (p.val + 1) g.toNat 0 = true ∧ t.dir.entries = s.dir.entries ∧ t.robj
      Obj.CLEAN_EVICTS = (s.robj Obj.CLEAN_EVICTS + 1) % objModulus Obj.CLEAN_EVICTS) ∧
    (∀ (p : Fin 16) (src : BitVec 12) (g : BitVec 14) (addr : BitVec 64) (dpa : Nat) (d : Decoder) (s : State), hostReaches s (p.val + 1) src.toNat
      addr.toNat dpa d = true → inCwRange dpa = false → inBerthRange dpa = false → (getRegion s d.region).mode ≠ 2 → ∃ t, exec (.memSpecRd p src g
      addr []) s = .next t ∧ t.dir = s.dir ∧ t.mc.cb = s.mc.cb ∧ t.hc = s.hc ∧ t.media.store = s.media.store) ∧
    (∀ (p : Fin 16) (src : BitVec 12) (g : BitVec 14) (addr : BitVec 64) (dpa : Nat) (d : Decoder) (s : State), hostReaches s (p.val + 1) src.toNat
      addr.toNat dpa d = true → inCwRange dpa = false → sendsNow s (p.val + 1) 0 = true → s.dir.acks = [] → s.ml.reads = [] → s.dir.waiting = [] →
      s.dir.txs = [] → ∃ t, exec (.biConflict p src g addr) s = .next t ∧ (t.out.any fun m => match m with | .biConflictAck q u _ => q == p.val + 1 && u == g.toNat | _ => false) = true ∧ t.dir = s.dir ∧ t.robj
      Obj.BICONFLICT = (s.robj Obj.BICONFLICT + 1) % objModulus Obj.BICONFLICT)

/-- Snoops, their responses, credits and the retry store; and the domain that goes down on a retry or snoop timeout. Rests on 02 R45, 04 R92, 04 R96, 04 R99, 04 R102, 04 R103, 04 R105. -/
def Obligations.SnoopsAndRecalls : Prop :=
  (∀ (p : Fin 16) (src : BitVec 12) (l : Nat) (r : BiRsp) (b : Bool) (s : State), linkMem s (p.val + 1) = true → fencedWhole s (p.val + 1) = false →
    s.phase = .running → s.dir.snoops.find? (fun q => q.port == p.val + 1 && q.src == srcOf s (p.val + 1) src.toNat && q.line == l && q.sent) = none →
    ∃ t, exec (.biRsp p src l r b) s = .next t ∧ t.dir = s.dir ∧ t.robj Obj.BIRSP_PROTO = (s.robj Obj.BIRSP_PROTO + 1) % objModulus Obj.BIRSP_PROTO ∧
    t.phase = .running) ∧
    (∀ (p : Fin 16) (src : BitVec 12) (l : Nat) (r : BiRsp) (q : Snoop) (s : State), linkMem s (p.val + 1) = true → fencedWhole s (p.val + 1) = false
      → s.phase = .running → s.dir.snoops.find? (fun q => q.port == p.val + 1 && q.src == srcOf s (p.val + 1) src.toNat && q.line == l && q.sent) =
      some q → rspAllowed q.kind r = false → ∃ t, exec (.biRsp p src l r false) s = .next t ∧ t.dir =
      { s.dir with snoops := s.dir.snoops.map (fun x => if x.id = q.id then { (x) with proto := true } else x) } ∧ t.robj Obj.BIRSP_PROTO = (s.robj
      Obj.BIRSP_PROTO + 1) % objModulus Obj.BIRSP_PROTO) ∧
    (∀ (p : Fin 16) (src : BitVec 12) (l : Nat) (q : Snoop) (x : Tx) (a : Acc) (s : State), linkMem s (p.val + 1) = true → fencedWhole s (p.val + 1) =
      false → s.phase = .running → s.dir.snoops.find? (fun q => q.port == p.val + 1 && q.src == srcOf s (p.val + 1) src.toNat && q.line == l &&
      q.sent) = some q → findTx s q.tx = some x → x.kind = 0 → x.accs = [a] → a.kind = .inv → (s.dir.snoops.all fun y => y.id == q.id || y.tx != q.tx)
      = true → responds s a.port = true → sendsNow s a.port 0 = true → ∃ t, exec (.biRsp p src l .i false) s = .next t ∧ sentNdr t a.port a.tag 2 =
      true ∧ t.robj Obj.BIRSP_I = (s.robj Obj.BIRSP_I + 1) % objModulus Obj.BIRSP_I) ∧
    (∀ (i : Nat) (q : Snoop) (s : State), s.dir.snoops.find? (fun x => x.id == i) = some q → q.sent = false → linkMem s q.port = true → fencedLocal s
      q.port = false → sendsNow s q.port 2 = true → s.phase = .running → ∃ t, exec (.bisnpSend i) s = .next t ∧ Out.bisnp q.port q.src (slotBiId s
      q.slot) q.line q.kind q.id ∈ t.out ∧ t.dir =
      { s.dir with snoops := s.dir.snoops.map (fun x => if x.id = q.id then { (x) with sent := true } else x) } ∧ (getPort t q.port).bisnp = (getPort
      s q.port).bisnp - 1) ∧
    (∀ (p : Fin 16) (a b c : BitVec 16) (s : State), linkMem s (p.val + 1) = true → (getPort s (p.val + 1)).outq = [] → (s.dir.snoops.all fun q =>
      q.port != p.val + 1 || q.sent) = true → ∃ t, exec (.s2mCreditReturn p a b c) s = .next t ∧ (getPort t (p.val + 1)) =
      { (getPort s (p.val + 1)) with ndr := (getPort s (p.val + 1)).ndr + a.toNat, drs := (getPort s (p.val + 1)).drs + b.toNat, bisnp := (getPort s (p.val + 1)).bisnp + c.toNat }
      ∧ t.objs = s.objs ∧ t.dir = s.dir) ∧
    (∀ (p : Fin 16) (a b c : BitVec 16) (m : S2mMsg) (r : List S2mMsg) (s : State), responds s (p.val + 1) = true → (getPort s (p.val + 1)).outq = m
      :: r → 0 < (getPort s (p.val + 1)).credit m.cls + (if m.cls = 0 then a.toNat else if m.cls = 1 then b.toNat else c.toNat) → ∃ t, exec
      (.s2mCreditReturn p a b c) s = .next t ∧ m.msg ∈ t.out) ∧
    (∀ (sl : Fin 16) (n : Nat) (r : Retry) (s : State), s.dir.retry.find? (fun r => sliceOfLine r.acc.line == sl.val && dirSet (sectorOfLine
      r.acc.line) == n) = some r → dirFree s (sectorOfLine r.acc.line) = true → dirWay s (sectorOfLine r.acc.line) = none → r.acc.kind = .inv →
      r.acc.db = true → r.acc.slot < 32 → responds s r.acc.port = true → sendsNow s r.acc.port 0 = true → waitsBehind (updDir s fun x =>
      { x with retry := s.dir.retry.filter (fun q => q.acc.id != r.acc.id) }) r.acc [] = false → r.acc.tx = true → ∃ t, exec (.retryStoreRelease sl n)
      s = .next t ∧ sentNdr t r.acc.port r.acc.tag 2 = true ∧ dirState t r.acc.line = 2 ∧ t.dir.retry = s.dir.retry.filter (fun q => q.acc.id !=
      r.acc.id) ∧ t.robj Obj.RETRY_WAIT_MAX = max (s.robj Obj.RETRY_WAIT_MAX) (usBetween r.since s.now)) ∧
    (∀ (i : Nat) (r : Retry) (s : State), s.phase = .running → domainIsDown s = false → s.dir.walking = false → s.dir.retry.find? (fun r => r.acc.id
      == i) = some r → ∃ t, exec (.retryTimeout i) s = .next t ∧ t.robj Obj.DOMAIN_DOWN_LATCHED = 1 ∧ t.hm.latchDomainDown = true ∧ t.dir.walking =
      true ∧ t.dir.downRec = [2, 0xFF, 0, sliceOfLine r.acc.line, r.acc.line * 64, s.hm.opsec, 0] ∧ t.dir.txs = [] ∧ t.dir.snoops = [] ∧ t.dir.retry =
      [] ∧ t.phase = .running) ∧
    (∀ (i : Nat) (q : Snoop) (s : State), s.phase = .running → domainIsDown s = false → s.dir.walking = false → s.dir.snoops.find? (fun q => q.id ==
      i) = some q → ∃ t, exec (.snoopTimeout i) s = .next t ∧ t.robj Obj.DOMAIN_DOWN_LATCHED = 1 ∧ t.hm.latchDomainDown = true ∧ t.dir.walking = true
      ∧ t.dir.downRec = [(if q.proto then 3 else 1), q.slot, q.port, sliceOfLine q.line, q.line * 64, s.hm.opsec, 0] ∧ t.dir.txs = [] ∧ t.dir.snoops =
      [] ∧ t.dir.retry = [] ∧ t.phase = .running) ∧
    (∀ (s : State), s.dir.walking = true → ∃ t, exec .domainDownWalkDone s = .next t ∧ t.dir.walking = false ∧ t.dir.entries = [] ∧ t.dir.walkLines =
      [] ∧ t.robj Obj.DOMAIN_DOWN_LATCHED = s.robj Obj.DOMAIN_DOWN_LATCHED ∧ t.media.store = s.media.store)

/-- The ends of home-cache work: an invalidation, a berth way copy, a prefetch read and a berth grow. Rests on 05 R117, 05 R119, 05 R121, 05 R125, 05 R132. -/
def Obligations.HomeCacheCompletions : Prop :=
  (∀ (s : State), s.hc.invalidating = true → ∃ t, exec .hcInvalidateDone s = .next t ∧ t.hc =
    { s.hc with invalidating := false, sectors := [], pbuf := [] } ∧ t.robj Obj.HC_STALE_RISK = 0 ∧ ((AMap.get? t.kdp.runs (objKey U.root
    Obj.HC_INVALIDATE)).all fun r => r.status != .pending) = true ∧ t.wharf = s.wharf ∧ t.media = s.media) ∧
    (∀ (sl : Fin 16) (k w v : Nat) (s : State), s.hc.copies.find? (fun c => c.1 == sl.val) = some (k, w, v) → ∃ t, exec (.berthWayCopyDone sl) s =
      .next t ∧ t.hc.copies = s.hc.copies.erase (sl.val, w, v) ∧ AMap.get? t.hc.berthWays sl.val = some ((berthWaysOf s sl.val).map (fun x => if x = w
      then v else x)) ∧ t.hc.berth = s.hc.berth ∧ wayDisabled t sl.val w = true ∧ t.hc.sectors = s.hc.sectors.filter (fun e => !(e.1 / 24576 == sl.val
      && e.1 % 16 == w))) ∧
    (∀ (i : Nat) (r : MediaRead) (p : StoredPage) (s : State), s.ml.reads.find? (fun q => q.id == i && q.why == .prefetch && q.stage != 3) = some r → r.page = some p → sectorErased s p = false → s.dp.poisonAt.contains (r.ppn * 8 + r.sector) = false → s.dp.markedAt.contains (r.ppn * 8 + r.sector) = false → ∃ t, exec (.prefetchFill i false) s = .next t ∧ t.ml.reads = s.ml.reads.map (fun q => if q.id = r.id then { r with stage := 3, members := [] } else q) ∧ t.hc = s.hc ∧ t.media = s.media) ∧
    (∀ (i : Nat) (r : MediaRead) (p : StoredPage) (s : State), s.ml.reads.find? (fun q => q.id == i && q.why == .prefetch && q.stage != 3) = some r → r.page = some p → sectorErased s p = true → s.dp.poisonAt.contains (r.ppn * 8 + r.sector) = false → mapGet s r.pn = some r.ppn → s.mc.discarding.contains r.pn = false → ∃ t, exec (.prefetchFill i false) s = .next t ∧ t.ml.reads = s.ml.reads.filter (fun q => q.id != i) ∧ ((AMap.getD t.hc.pbuf (sliceOfSector (r.pn * 8 + r.sector)) []).any fun q => q.1 == r.pn * 8 + r.sector) = true ∧ t.media = s.media ∧ t.hc.sectors = s.hc.sectors) ∧
    (∀ (i : Nat) (r : MediaRead) (p : StoredPage) (s : State), s.ml.reads.find? (fun q => q.id == i) = some r → r.why = .prefetch → r.stage = 3 → r.page = some p → p.pn = r.pn → mapGet s r.pn = some r.ppn → s.mc.discarding.contains r.pn = false → s.dp.poisonAt.contains (r.ppn * 8 + r.sector) = false → s.dp.markedAt.contains (r.ppn * 8 + r.sector) = false → ∃ t, exec (.tagCheckDone i true) s = .next t ∧ ((AMap.getD t.hc.pbuf (sliceOfSector (r.pn * 8 + r.sector)) []).any fun q => q.1 == r.pn * 8 + r.sector) = true ∧ t.media.store = s.media.store ∧ t.hc.sectors = s.hc.sectors) ∧
    (∀ (i : Nat) (s : State), s.ml.reads.find? (fun q => q.id == i && q.why == .prefetch) ≠ none → exec (.prefetchFill i true) s = .next
      { s with ml := { s.ml with reads := s.ml.reads.filter (fun q => q.id != i) } }) ∧
    (∀ (v : Nat) (s : State), s.hc.growing = some v → ∃ t, exec .berthGrowDone s = .next t ∧ t.hc = { s.hc with growing := none } ∧ t.robj
      Obj.BERTH_WAYS_NOW = v ∧ t.robj Obj.BERTH_INTACT = 0 ∧ t.media = s.media) ∧
    (∀ (i : Nat) (b : Bool) (r : MediaRead) (s : State), s.ml.reads.find? (fun q => q.id == i && q.why == .prefetch) = some r →
      (s.dp.poisonAt.contains (r.ppn * 8 + r.sector) = true ∨ s.dp.markedAt.contains (r.ppn * 8 + r.sector) = true) → exec (.prefetchFill i b) s =
      .next { s with ml := { s.ml with reads := s.ml.reads.filter (fun q => q.id != i) } })

/-- The berth mirror: its handshake by its outcome, the connect retry and the end of its stop. Rests on 05 R133, 05 R134, 05 R139, 05 R140, 05 R141. -/
def Obligations.MirrorHandshakes : Prop :=
  (∀ (sid : BitVec 32) (n : BitVec 128) (f : BitVec 256) (g : BitVec 32) (i : Bool) (rs : List (Nat × Nat × Nat)) (s : State), (mirState s = 1 ∨
    mirState s = 4) → mirrorPort s ≠ 0 → peerProves s sid.toNat n f = false → ∃ t, exec (.mirrorHandshake ⟨sid, n, f⟩ g i rs) s = .next t ∧ t.robj
    Obj.MIRROR_FAULT = 2 ∧ t.hc = s.hc ∧ mirState t = mirState s) ∧
    (∀ (sid : BitVec 32) (n : BitVec 128) (f : BitVec 256) (g : BitVec 32) (i : Bool) (rs : List (Nat × Nat × Nat)) (s : State), (mirState s = 1 ∨
      mirState s = 4) → mirrorPort s = 0 → ∃ t, exec (.mirrorHandshake ⟨sid, n, f⟩ g i rs) s = .next t ∧ t.robj Obj.MIRROR_FAULT = 3 ∧ t.hc = s.hc ∧
      mirState t = mirState s) ∧
    (∀ (sid : BitVec 32) (n : BitVec 128) (f : BitVec 256) (g : BitVec 32) (i : Bool) (rs : List (Nat × Nat × Nat)) (s : State), (mirState s = 1 ∨
      mirState s = 4) → mirrorPort s ≠ 0 → peerProves s sid.toNat n f = true → s.robj Obj.PAIR_GENERATION < g.toNat → ∃ t, exec (.mirrorHandshake
      ⟨sid,
      n, f⟩ g i rs) s = .next t ∧ mirState t = 5 ∧ t.hc.mirror.peerGen = g.toNat ∧ t.hc.mirror.peerRanges = rs ∧ t.hc.berth = s.hc.berth ∧ t.hc.ranges
      =
      s.hc.ranges) ∧
    (∀ (sid : BitVec 32) (n : BitVec 128) (f : BitVec 256) (g : BitVec 32) (i : Bool) (rs : List (Nat × Nat × Nat)) (s : State), (mirState s = 1 ∨
      mirState s = 4) → mirrorPort s ≠ 0 → peerProves s sid.toNat n f = true → s.robj Obj.PAIR_GENERATION = g.toNat → rangesMatch (mirrorTable s) rs =
      false → ∃ t, exec (.mirrorHandshake ⟨sid, n, f⟩ g i rs) s = .next t ∧ t.robj Obj.MIRROR_FAULT = 1 ∧ mirState t = mirState s ∧ t.hc.ranges =
      s.hc.ranges) ∧
    (∀ (sid : BitVec 32) (n : BitVec 128) (f : BitVec 256) (g : BitVec 32) (i : Bool) (rs : List (Nat × Nat × Nat)) (s : State), (mirState s = 1 ∨
      mirState s = 4) → mirrorPort s ≠ 0 → peerProves s sid.toNat n f = true → s.robj Obj.PAIR_GENERATION = g.toNat → rangesMatch (mirrorTable s) rs =
      true → ∃ t, exec (.mirrorHandshake ⟨sid, n, f⟩ g i rs) s = .next t ∧ t.robj Obj.MIRROR_FAULT = 0 ∧ t.robj Obj.MIRROR_PORT_NOW = mirrorPort s ∧
      t.hc.mirror.txSeq = 0 ∧ t.hc.mirror.acked = 0 ∧ t.hc.mirror.rxSeq = 0 ∧ t.hc.mirror.unacked = [] ∧ t.hc.mirror.toSend = (if i = true ∧
      s.hc.mirror.fullOwed = false then (primaryPages s).filter (fun p => s.hc.mirror.bitmap.contains p) else primaryPages s) ∧ t.hc.mirror.bitmap =
      s.hc.mirror.bitmap ∧ (t.hc.mirror.toSend ≠ [] → mirState t = 2) ∧ t.hc.berth = s.hc.berth) ∧
    (∀ (s : State), (mirState s = 1 ∨ mirState s = 4) → mirrorPort s ≠ 0 → ∃ t, exec .mirrorConnectRetry s = .next t ∧ Out.mirrorOpen (mirrorPort s)
      (BitVec.ofNat 128 (Config.free s.free % 2^128)) (s.robj Obj.PAIR_GENERATION) (s.robj Obj.BERTH_INTACT) (mirrorTable s) ∈ t.out ∧
      t.hc.mirror.nonce = BitVec.ofNat 128 (Config.free s.free % 2^128) ∧ t.hc.berth = s.hc.berth ∧ t.hc.ranges = s.hc.ranges ∧ t.objs = s.objs) ∧
    (∀ (s : State), (mirState s = 1 ∨ mirState s = 4) → mirrorPort s = 0 → exec .mirrorConnectRetry s = .next (s.setR Obj.MIRROR_FAULT 3)) ∧
    (∀ (s : State), (mirState s = 6 ∨ mirState s = 7) → ∃ t, exec .mirrorStopDone s = .next t ∧ t.hc.mirror.offDone = false ∧ mirState t = (if
      mirState s = 6 then 0 else 7)) ∧
    (∀ (sid : BitVec 32) (n : BitVec 128) (f : BitVec 256) (g : BitVec 32) (i : Bool) (rs : List (Nat × Nat × Nat)) (s : State), (mirState s = 1 ∨
      mirState s = 4) → mirrorPort s ≠ 0 → peerProves s sid.toNat n f = true → g.toNat < s.robj Obj.PAIR_GENERATION → ∃ t, exec (.mirrorHandshake
      ⟨sid,
      n, f⟩ g i rs) s = .next t ∧ t.hc.mirror.fullOwed = true ∧ mirState t = mirState s ∧ t.hc.berth = s.hc.berth ∧ t.hc.ranges = s.hc.ranges)

/-- What a received mirror frame does: records in order reach the replica, acknowledgements release what they cover, others change nothing. Rests on 05 R134, 05 R135, 05 R136, 05 R139. -/
def Obligations.MirrorFramesReceived : Prop :=
  (∀ (f : MirrorFrame) (s : State), mirrorUp s = true → frameOk s 1 f = true → f.generation.toNat = s.robj Obj.PAIR_GENERATION → f.seq.toNat =
    s.hc.mirror.rxSeq + 1 → ∃ t, exec (.mirrorData f) s = .next t ∧ t.hc.mirror.rxSeq = s.hc.mirror.rxSeq + 1 ∧ t.hc.mirror.ackOwed = (!f.sync) ∧
    t.hc.ranges = s.hc.ranges ∧ t.hc.sectors = s.hc.sectors) ∧
    (∀ (f : MirrorFrame) (l : BitVec 21) (m : ByteMask) (d : LineData) (i : Nat) (g : BerthRange) (s : State), mirrorUp s = true → frameOk s 1 f =
      true → f.generation.toNat = s.robj Obj.PAIR_GENERATION → f.seq.toNat = s.hc.mirror.rxSeq + 1 → Memory.wf s = true → f.records = [(l, m, d)] →
      rangeOf s (berthOff (berthBase / 64 + l.toNat)) = some (i, g) → g.mode = 4 → berthOff (berthBase / 64 + l.toNat) < berthSize s → ∃ t, exec
      (.mirrorData f) s = .next t ∧ berthLine t (berthBase / 64 + l.toNat) = (berthLine s (berthBase / 64 + l.toNat)).write d m false ∧ ∀ x, x ≠
      berthBase / 64 + l.toNat → berthLine t x = berthLine s x) ∧
    (∀ (f : MirrorFrame) (s : State), mirrorUp s = true → frameOk s 1 f = true → f.generation.toNat = s.robj Obj.PAIR_GENERATION → f.seq.toNat ≠
      s.hc.mirror.rxSeq + 1 → ∃ t, exec (.mirrorData f) s = .next t ∧ t.hc.mirror.rxSeq = s.hc.mirror.rxSeq ∧ t.hc.berth = s.hc.berth) ∧
    (∀ (f : MirrorFrame) (s : State), mirrorUp s = true → frameOk s 4 f = true → f.generation.toNat = s.robj Obj.PAIR_GENERATION → f.seq.toNat =
      s.hc.mirror.rxSeq + 1 → ∃ t, exec (.mirrorResyncData f) s = .next t ∧ t.hc.mirror.rxSeq = s.hc.mirror.rxSeq + 1 ∧ t.hc.mirror.ackOwed =
      (!f.sync) ∧ t.hc.ranges = s.hc.ranges ∧ t.hc.sectors = s.hc.sectors) ∧
    (∀ (f : MirrorFrame) (l : BitVec 21) (m : ByteMask) (d : LineData) (i : Nat) (g : BerthRange) (s : State), mirrorUp s = true → frameOk s 4 f =
      true → f.generation.toNat = s.robj Obj.PAIR_GENERATION → f.seq.toNat = s.hc.mirror.rxSeq + 1 → Memory.wf s = true → f.records = [(l, m, d)] →
      rangeOf s (berthOff (berthBase / 64 + l.toNat)) = some (i, g) → g.mode = 4 → berthOff (berthBase / 64 + l.toNat) < berthSize s → ∃ t, exec
      (.mirrorResyncData f) s = .next t ∧ berthLine t (berthBase / 64 + l.toNat) = (berthLine s (berthBase / 64 + l.toNat)).write d m false ∧ ∀ x, x ≠
      berthBase / 64 + l.toNat → berthLine t x = berthLine s x) ∧
    (∀ (f : MirrorFrame) (s : State), mirrorUp s = true → frameOk s 4 f = true → f.generation.toNat = s.robj Obj.PAIR_GENERATION → f.seq.toNat ≠
      s.hc.mirror.rxSeq + 1 → ∃ t, exec (.mirrorResyncData f) s = .next t ∧ t.hc.mirror.rxSeq = s.hc.mirror.rxSeq ∧ t.hc.berth = s.hc.berth) ∧
    (∀ (f : MirrorFrame) (s : State), mirrorUp s = true → frameOk s 2 f = true → f.generation.toNat = s.robj Obj.PAIR_GENERATION → s.hc.mirror.acked <
      f.ackSeq.toNat → f.ackSeq.toNat ≤ s.hc.mirror.txSeq → ∃ t, exec (.mirrorAck f) s = .next t ∧ t.hc.mirror.acked = f.ackSeq.toNat ∧
      t.hc.mirror.heldSync = s.hc.mirror.heldSync.filter (fun p => decide (f.ackSeq.toNat < p.1)) ∧ t.hc.berth = s.hc.berth ∧ t.hc.mirror.rxSeq =
      s.hc.mirror.rxSeq) ∧
    (∀ (f : MirrorFrame) (s : State), mirrorUp s = true → frameOk s 2 f = true → f.generation.toNat = s.robj Obj.PAIR_GENERATION → (f.ackSeq.toNat ≤
      s.hc.mirror.acked ∨ s.hc.mirror.txSeq < f.ackSeq.toNat) → ∃ t, exec (.mirrorAck f) s = .next t ∧ t.hc.mirror.acked = s.hc.mirror.acked ∧
      t.hc.mirror.heldSync = s.hc.mirror.heldSync ∧ t.hc.berth = s.hc.berth) ∧
    (∀ (f : MirrorFrame) (s : State), mirrorUp s = true → frameOk s 3 f = true → f.generation.toNat = s.robj Obj.PAIR_GENERATION → s.hc.mirror.acked <
      f.ackSeq.toNat → f.ackSeq.toNat ≤ s.hc.mirror.txSeq → ∃ t, exec (.mirrorHeartbeat f) s = .next t ∧ t.hc.mirror.acked = f.ackSeq.toNat ∧
      t.hc.mirror.heldSync = s.hc.mirror.heldSync.filter (fun p => decide (f.ackSeq.toNat < p.1)) ∧ t.hc.berth = s.hc.berth ∧ t.hc.mirror.rxSeq =
      s.hc.mirror.rxSeq) ∧
    (∀ (f : MirrorFrame) (s : State), mirrorUp s = true → frameOk s 3 f = true → f.generation.toNat = s.robj Obj.PAIR_GENERATION → (f.ackSeq.toNat ≤
      s.hc.mirror.acked ∨ s.hc.mirror.txSeq < f.ackSeq.toNat) → ∃ t, exec (.mirrorHeartbeat f) s = .next t ∧ t.hc.mirror.acked = s.hc.mirror.acked ∧
      t.hc.mirror.heldSync = s.hc.mirror.heldSync ∧ t.hc.berth = s.hc.berth) ∧
    (∀ (f : MirrorFrame) (s : State), mirrorUp s = true → frameOk s 5 f = true → f.generation.toNat = s.robj Obj.PAIR_GENERATION → ∃ t, exec
      (.mirrorResyncDone f) s = .next t ∧ t.hc.mirror.rxDone = true ∧ t.hc.berth = s.hc.berth ∧ t.hc.mirror.rxSeq = s.hc.mirror.rxSeq) ∧
    (∀ (f : MirrorFrame) (s : State), mirrorUp s = true → (frameOk s 1 f = false ∨ f.generation.toNat ≠ s.robj Obj.PAIR_GENERATION) → ∃ t, exec
      (.mirrorData f) s = .next t ∧ t.hc = s.hc ∧ t.robj Obj.MIRROR_AUTH_FAIL = (s.robj Obj.MIRROR_AUTH_FAIL + 1) % objModulus Obj.MIRROR_AUTH_FAIL)

/-- What the mirror sends by itself: pages of a resynchronisation, acknowledgements, retransmissions and heartbeats; held writes; and the loss of the peer. Rests on 05 R135, 05 R137, 05 R139, 05 R138. -/
def Obligations.MirrorTimers : Prop :=
  (∀ (p : Nat) (r : List Nat) (s : State), mirState s = 2 → s.hc.mirror.toSend = p :: r → ∃ t, exec .mirrorResyncPageSend s = .next t ∧
    t.hc.mirror.toSend = r ∧ t.hc.mirror.sentPages = s.hc.mirror.sentPages + 1 ∧ t.hc.mirror.txSeq = s.hc.mirror.txSeq + 4 ∧ AMap.get?
    t.hc.mirror.inFlight p = some (s.hc.mirror.txSeq + 4) ∧ t.hc.berth = s.hc.berth ∧ t.robj Obj.RESYNC_PAGES = (s.robj Obj.RESYNC_PAGES + 1) %
    objModulus Obj.RESYNC_PAGES ∧ (t.hc.mirror.unacked ++ t.hc.mirror.waitSend).length = (s.hc.mirror.unacked ++ s.hc.mirror.waitSend).length + 4) ∧
    (∀ (s : State), mirrorUp s = true → s.hc.mirror.ackOwed = true → ∃ t, exec .mirrorAckTimer s = .next t ∧ t.hc.mirror =
      { s.hc.mirror with ackOwed := false } ∧ Out.mirror (mirrorFrameSent s 2) ∈ t.out ∧ t.objs = s.objs) ∧
    (∀ (s : State), mirrorUp s = true → s.hc.mirror.unacked ≠ [] → ∃ t, exec .mirrorRetransmit s = .next t ∧ t.hc.mirror =
      { s.hc.mirror with unacked := s.hc.mirror.unacked.map fun f => { f with last := s.now } } ∧ t.out.length = s.out.length +
      s.hc.mirror.unacked.length ∧ t.robj Obj.MIRROR_RETRANSMITS = (s.robj Obj.MIRROR_RETRANSMITS + s.hc.mirror.unacked.length) % objModulus
      Obj.MIRROR_RETRANSMITS) ∧
    (∀ (s : State), mirrorUp s = true → ∃ t, exec .mirrorHeartbeatTimer s = .next t ∧ t.hc = s.hc ∧ t.objs = s.objs ∧ Out.mirror (mirrorFrameSent s 3)
      ∈ t.out) ∧
    (∀ (a : Acc) (r : List Acc) (s : State), s.hc.mirror.heldAsync = a :: r → berthHolds s a [] = false → ∃ t, exec .mirrorLagRelease s = .next t ∧
      (t.hc.mirror.heldAsync.all fun b => b.id != a.id) = true ∧ t.hc.ranges = s.hc.ranges) ∧
    (∀ (s : State), mirrorUp s = true → ∃ t, exec .mirrorSplit s = .next t ∧ mirState t = 4 ∧ t.hc.mirror.unacked = [] ∧ t.hc.mirror.toSend = [] ∧
      t.hc.mirror.heldSync = [] ∧ t.hc.ranges = s.hc.ranges ∧ t.robj Obj.MIRROR_SPLITS = (s.robj Obj.MIRROR_SPLITS + 1) % objModulus
      Obj.MIRROR_SPLITS) ∧
    (∀ (s : State), mirrorUp s = false → exec .mirrorSplit s = .next s)

/-- What the commands of the wharf do: lighters, plates, held writes, the presence filter and the stage pins. Rests on 06 R148, 06 R151, 06 R152, 06 R154, 06 R156, 06 R157, 06 R158, 06 R160, 06 R161, 07 R172, 07 R175. -/
def Obligations.WharfCommands : Prop :=
  (∀ (sl : Fin 16) (p : Fin 5) (l : Lighter) (s : State), s.wharf.lighters.find? (fun x => x.slice == sl.val && x.prio == p.val && x.state == 0) =
    some l → exec (.lighterCloseTimeout sl p) s = .next
    { s with wharf := { s.wharf with lighters := s.wharf.lighters.map (fun x => if x.id = l.id then x.close s.now true else x) } }) ∧
    (∀ (sl : Fin 16) (a b : Nat) (s : State), ¬ sl.val ∈ s.wharf.queueReset → ∃ t, exec (.lighterTake sl (some (a, b))) s = .next t ∧
      t.wharf.queueReset = sl.val :: s.wharf.queueReset ∧ t.wharf.lighters = s.wharf.lighters.filter (fun l => l.slice != sl.val || l.state == 2) ∧
      t.wharf.entries = s.wharf.entries ∧ t.robj Obj.QUEUE_REBUILDS = (s.robj Obj.QUEUE_REBUILDS + 1) % 2^32) ∧
    (∀ (sl : Fin 16) (l : Lighter) (g n st : Nat) (s s1 : State), drainRuns s = true → ¬ sl.val ∈ s.wharf.queueReset → blockInReset s 1 = false →
      s.cs.reset_ = 0 → s.robj Obj.ENTRY_STATE ≠ 1 → nextLighter s sl.val = some l → s.dp.wseqEnded = false → (l.pages.filter fun d => !d.cancelled) ≠
      [] → lighterPurpose l = 0 → g = drainGroup (leaveP2 s) → noSpare (leaveP2 s) g = false → reclaimStep (leaveP2 s) g ≠ 6 → st = (((l.pages.filter
      fun d => !d.cancelled).head?.map (pageStream (leaveP2 s))).getD 0) → findOpenSet (leaveP2 s) sl.val g 0 st = (some n, s1) → ∃ t, exec
      (.lighterTake sl none) s = .next t ∧ AMap.has t.media.stripes (stripeKey g (n * 256 + (getSet s1 (setKey g n)).next)) = true ∧ t.media.store =
      s.media.store) ∧
    (∀ (i : Nat) (j : Fin 15) (l : Lighter) (s : State), findLighter s i = some l → drainEnds s = true → l.state = 2 → bitOf l.plates j = true → bitOf
      l.programming j = true → ¬ j.val ∈ l.waitCommit → opRuns s (l.group - 1) (plateStack s l j) (l.stripe / 256) (programTok (stripeKey (l.group - 1) l.stripe)) = true → ∃ t, exec
      (.plateProgramDone i j .verified) s = .next t ∧ (getStripe t (stripeKey (l.group - 1) l.stripe)).verified = setBit (getStripe s (stripeKey
      (l.group - 1) l.stripe)).verified (plateStack s l j) true) ∧
    (∀ (i : Nat) (j : Fin 15) (r : PlateResult) (l : Lighter) (s : State), findLighter s i = some l → drainEnds s = true → l.state = 2 → bitOf
      l.plates j = true → bitOf l.programming j = true → ¬ j.val ∈ l.waitCommit → r ≠ .verified → opRuns s (l.group - 1) (plateStack s l j) (l.stripe / 256) (programTok (stripeKey (l.group - 1) l.stripe)) = true → ∃ t, exec (.plateProgramDone i j r) s = .next t ∧ t.obj (U.group (l.group - 1 + 1)) Obj.PROGRAM_FAILS = (s.obj (U.group
      (l.group - 1 + 1)) Obj.PROGRAM_FAILS + 1) % 2^32 ∧ t.media.stripes = s.media.stripes ∧ t.media.store = s.media.store) ∧
    (∀ (i : Nat) (ok : Bool) (l : Lighter) (s : State), findLighter s i = some l → drainEnds s = true → l.state = 2 → l.parityPending = true → s.media.jwait = [] → journalRoom s = true → opRuns s (l.group - 1) (getStripe s (stripeKey (l.group - 1) l.stripe)).parity (l.stripe / 256) (programTok (stripeKey (l.group - 1) l.stripe)) = true → ∃ t, exec (.parityProgramDone i ok) s = .next
      t ∧ (if ok = true then (getStripe t (stripeKey (l.group - 1) l.stripe)).sealed = true else (getStripe t (stripeKey (l.group - 1)
      l.stripe)).unprotected = true)) ∧
    (∀ (sl : Fin 16) (ps : List PageNo) (s : State), noSpare s (drainGroup s) = false → ¬ sl.val ∈ s.wharf.queueReset → s.cs.reset_ = 0 → drainRuns s
      = true → queueLength s sl.val < 4096 → ps = ((stagedPages s sl.val).filter fun pn => s.wharf.pinned.contains pn && pageDrainable s pn &&
      !pageInLighter s pn && !s.mc.discarding.contains pn) → ps ≠ [] → ∃ t, exec (.pinnedLighterForm sl) s = .next t ∧ (t.wharf.lighters.any fun l =>
      l.id == s.wharf.nextLighter && l.slice == sl.val && l.prio == 0 && l.state == 1 && l.pinned && l.pages.map (·.pn) == ps.take 60) = true ∧
      t.wharf.entries = s.wharf.entries ∧ t.media = s.media) ∧
    (∀ (sl : Fin 16) (a : Acc) (s : State), (heldOf s sl.val).find? (fun x => x.kind == .write || x.kind == .resvStore) = some a → wharfHolds
      (endSliceFull s sl.val) a (s.wharf.held.takeWhile fun b => b.id != a.id) = false → s.wharf.held.find? (fun x => x.id == a.id) = some a → ∃ t,
      exec (.heldWriteEntry sl) s = .next t ∧ (t.wharf.held.all fun b => b.id != a.id) = true) ∧
    (∀ (sl : Fin 16) (s : State), sl.val ∈ s.wharf.queueReset → ∃ t, exec (.queueRebuildDone sl) s = .next t ∧ t.wharf.queueReset =
      s.wharf.queueReset.filter (· != sl.val)) ∧
    (∀ (sl : Fin 16) (s : State), sl.val ∈ s.wharf.rebuilding → ∃ t, exec (.filterRebuildDone sl) s = .next t ∧ t.wharf.rebuilding =
      s.wharf.rebuilding.filter (· != sl.val) ∧ t.wharf.entries = s.wharf.entries ∧ (t.wharf.filter.filter fun p => p.1 / 4194304 != sl.val) =
      (s.wharf.filter.filter fun p => p.1 / 4194304 != sl.val) ∧ t.robj Obj.FILTER_REBUILDS = (s.robj Obj.FILTER_REBUILDS + 1) % 2^32) ∧
    (∀ (pg : Nat) (s : State), pg ∈ s.wharf.badIndex → ∃ t, exec (.wharfIndexRepaired pg) s = .next t ∧ t.wharf.badIndex = s.wharf.badIndex.filter (·
      != pg)) ∧
    (∀ (p : StagePin) (s : State), s.pins.held = false → s.robj Obj.PAD_HOLD ≠ 1 → (p = .slow → s.pins.slowLow = true) → (p = .stop → s.pins.stopLow =
      true) → ∃ t, exec (.pinLowMinimum p) s = .next t ∧ (if p = .slow then t.pins.slowMin = false ∧ t.pins.slowLow = (!stagePinsFollow s || decide (1
      ≤ s.robj Obj.WHARF_LEVEL)) else t.pins.stopMin = false ∧ t.pins.stopLow = (!stagePinsFollow s || decide (3 ≤ s.robj Obj.WHARF_LEVEL)))) ∧
    (∀ (x : Int) (s : State), s.pw.measured = true → tempNow s (U.rail 17) = some x → ∃ t, exec .dirtyCapRecompute s = .next t ∧ t.pw.lowNoted =
      decide (capMib (usedEnergy (s.obj U.power Obj.HOLDUP_ENERGY) s.pw.tMeas x) = 0) ∧ t.free = s.free ∧ t.wharf.nextSeq = s.wharf.nextSeq) ∧
    (∀ (i : Nat) (j : Fin 15) (r : PlateResult) (l : Lighter) (s : State), findLighter s i = some l → opRuns s (l.group - 1) (plateStack s l j) (l.stripe / 256) (programTok (stripeKey (l.group - 1) l.stripe)) = false → exec (.plateProgramDone i j r) s = .next s)

/-- What the commands of the map and the media do: checkpoints, repairs, set resets and lost members. Rests on 07 R177, 07 R178, 07 R179, 07 R181, 07 R182, 07 R183, 07 R187, 07 R188, 07 R189, 09 R222. -/
def Obligations.MapAndMediaCommands : Prop :=
  (∀ (n : Nat) (s : State), s.media.ckpt.seg = some n → n < segCount s.variant → drainEnds s = true → segLighters s.variant n < s.media.ckpt.stripe → newestCopy s n = none → ∃ t, exec
    (.checkpointSegmentDone n) s = .next t ∧ (AMap.get? t.media.segs n).map (fun l => l.map fun q => (q.area, q.frontier, q.crcOk, q.snapSeq)) = some
    [(1, s.media.ckpt.start, true, s.media.ckpt.snap.seq)] ∧ ((s.media.journal.all fun r => !(r.ofMap && segOf r.a == n && decide (s.media.ckpt.start
    ≤ r.jpos))) = true → ∀ pn, segOf pn = n → (AMap.get? t.media.segs n).bind (fun l => l.head?.bind fun q => AMap.get? q.entries pn) = mapGet s pn) ∧
    t.media.lostSegs = s.media.lostSegs) ∧
    (∀ (n : Nat) (c : SegCopy) (s : State), s.media.ckpt.seg = some n → n < segCount s.variant → drainEnds s = true → segLighters s.variant n < s.media.ckpt.stripe → newestCopy s n = some c → ∃ t,
      exec (.checkpointSegmentDone n) s = .next t ∧ (AMap.get? t.media.segs n).map (fun l => l.map fun q => (q.area, q.frontier, q.crcOk, q.snapSeq))
      = some [(3 - c.area, s.media.ckpt.start, true, s.media.ckpt.snap.seq), (c.area, c.frontier, c.crcOk, c.snapSeq)] ∧ ((s.media.journal.all fun r
      => !(r.ofMap && segOf r.a == n && decide (s.media.ckpt.start ≤ r.jpos))) = true → ∀ pn, segOf pn = n → (AMap.get? t.media.segs n).bind (fun l =>
      l.head?.bind fun q => AMap.get? q.entries pn) = mapGet s pn) ∧ t.media.ckpt.snap.seq = s.media.ckpt.snap.seq + 1) ∧
    (∀ (n : Nat) (s : State), (s.media.ckpt.seg ≠ some n ∨ s.media.ckpt.stripe ≤ segLighters s.variant n ∨ drainEnds s = false) → exec (.checkpointSegmentDone n) s = .next s) ∧
    (∀ (g : Fin 2) (n : Nat) (s : State), s.phase = .running → setStateOf s (setKey g.val n) = 4 → (getSet s (setKey g.val n)).retired = 0 →
      s.media.deadDies = [] → s.media.deadStacks = [] → (getSet s (setKey g.val n)).erase + 1 < s.robj Obj.ENDURANCE_LIMIT → ((liveMembers s g.val n).any fun st => opIssued s g.val st n (resetTok (setKey g.val n)) && !opRuns s g.val st n (resetTok (setKey g.val n))) = false → ∃ t, exec (.setResetDone g n none) s = .next t ∧ (t.media.store.all fun p => ppnSetKey p.1 !=
      setKey g.val n) = true ∧ (t.media.stripes.all fun p => p.1 / 256 != setKey g.val n) = true ∧ (t.dp.poisonAt.all fun q => ppnSetKey (q / 8) !=
      setKey g.val n) = true) ∧
    (∀ (g : Fin 2) (n : Nat) (x : Fin 16) (s : State), s.phase = .running → setStateOf s (setKey g.val n) = 4 → opRuns s g.val x.val n (resetTok (setKey g.val n)) = true → ∃
      t, exec (.setResetDone g n (some x)) s = .next t ∧ t.obj (U.group (g.val + 1)) Obj.RESET_FAILS = (s.obj (U.group (g.val + 1)) Obj.RESET_FAILS +
      1) % 2^32 ∧ t.media.store = s.media.store ∧ t.media.stripes = s.media.stripes ∧ t.wharf.entries = s.wharf.entries ∧ t.wharf.markers = s.wharf.markers ∧ t.wharf.held = s.wharf.held ∧ (t.wharf.lighters.filter fun l => l.area == 0) = (s.wharf.lighters.filter fun l => l.area == 0)) ∧
    (∀ (g : Fin 2) (k : Nat) (s : State), s.robj Obj.PSTATE_NOW = 0 → s.variant = .p128 → firmwareOn s = true → noSpare s g.val = false → reclaimIdle
      s = true → chooseVictim (settleReclaim s g.val) g.val = some k → journalRoom (settleReclaim s g.val) = true → 0 < validPages s k → ∃ t, exec (.reclaimVictimSelect g) s = .next t ∧ (getSet t
      k).state = 3 ∧ (getSet t k).why = 1) ∧
    (∀ (n t0 : Nat) (ok : Bool) (s : State), AMap.get? s.media.badMap n = some t0 → ∃ t, exec (.mapRepaired n ok) s = .next t ∧ t.media.badMap =
      AMap.del s.media.badMap n ∧ (ok = false → n ∈ t.media.badChunks) ∧ (ok = true → t.media.badChunks = s.media.badChunks)) ∧
    (∀ (g : Fin 2) (st : Fin 16) (d : Fin 32) (c : Nat) (s : State), s.variant = .p128 → ¬ U.die (g.val + 1) (st.val + 1) (d.val + 1) ∈
      s.media.deadDies → ∃ t, exec (.dieFailed g st d c) s = .next t ∧ t.media.deadDies = U.die (g.val + 1) (st.val + 1) (d.val + 1) ::
      s.media.deadDies ∧ t.media.deadStacks = s.media.deadStacks ∧ t.ag.passes = AMap.del s.ag.passes (U.die (g.val + 1) (st.val + 1) (d.val + 1))) ∧
    (∀ (g : Fin 2) (st : Fin 16) (c : Nat) (s : State), s.variant = .p128 → ¬ U.stack (g.val + 1) (st.val + 1) ∈ s.media.deadStacks → ∃ t, exec
      (.stackFailed g st c) s = .next t ∧ t.media.deadStacks = U.stack (g.val + 1) (st.val + 1) :: s.media.deadStacks ∧ t.media.deadDies =
      s.media.deadDies)

/-- What the commands of media reads and their planes do. Rests on 08 R200, 08 R201, 08 R202, 08 R203, 08 R204, 08 R205, 08 R208, 10 R242, 10 R243, 16 R369. -/
def Obligations.MediaReadCommands : Prop :=
  (∀ (i e : Nat) (r : MediaRead) (s : State), s.ml.reads.find? (fun x => x.id == i) = some r → r.stage = 1 → r.why = .demand → r.decided = false →
    findsBusy s r = true → (planeRec s (r.plane s)).overdue = false → min e (estimateBound s r) ≤ s.robj Obj.SUSPEND_FAST → ∃ t, exec
    (.suspendEstimate i e) s = .next t ∧ t.ml.reads = s.ml.reads.map (fun q => if q.id = r.id then { r with decided := true } else q) ∧ (runsOn s r
    (ppnStack r.ppn) ≠ 0 → (planeRec t (r.plane s)).suspended = true) ∧ t.obj (U.stack (ppnGroup r.ppn + 1) (ppnStack r.ppn + 1)) Obj.LONG_WAITS =
    s.obj (U.stack (ppnGroup r.ppn + 1) (ppnStack r.ppn + 1)) Obj.LONG_WAITS) ∧
    (∀ (i : Nat) (c : Bool) (r : MediaRead) (s : State), s.ml.reads.find? (fun x => x.id == i) = some r → r.stage = 1 → unreadable s r = false → ¬
      r.ppn * 8 + r.sector ∈ s.dp.markedAt → tagChecked s r = true → (r.why ≠ .demand ∨ s.robj Obj.SPEC_DELIVERY ≠ 1) → senseEnds s r = true → ∃ t,
      exec (.sectorReadDone i true c) s = .next t ∧ t.ml.reads = s.ml.reads.map (fun q => if q.id = r.id then
      { r with stage := 3, members := [], delivered := false } else q)) ∧
    (∀ (i : Nat) (c : Bool) (r : MediaRead) (s : State), s.ml.reads.find? (fun x => x.id == i) = some r → r.stage = 1 → r.degraded = false → r.around
      = false → r.rung < 2 → senseEnds s r = true → ∃ t, exec (.sectorReadDone i false c) s = .next t ∧ t.ml.reads = s.ml.reads.map (fun q => if q.id
      = r.id then { r with rung := r.rung + 1, decided := false, refs := refsOn s r (ppnStack r.ppn) (r.rung + 1) } else q)) ∧
    (∀ (i : Nat) (st : Fin 16) (d : Bool) (r : MediaRead) (s : State), s.ml.reads.find? (fun x => x.id == i) = some r → r.stage = 2 → st.val ∈
      r.members → (r.members.filter (· != st.val)) ≠ [] → memberEnds s r st.val = true → ∃ t, exec (.memberReadDone i st d) s = .next t ∧ t.ml.reads =
      s.ml.reads.map (fun q => if q.id = r.id then { r with members := r.members.filter (· != st.val) } else q)) ∧
    (∀ (i : Nat) (r : MediaRead) (s : State), s.ml.reads.find? (fun x => x.id == i) = some r → r.stage = 3 → r.why = .demand → ∃ t, exec
      (.tagCheckDone i true) s = .next t ∧ (s.dir.waiting = [] → t.ml.reads = s.ml.reads.filter (fun q => q.id != r.id)) ∧ t.phase = s.phase) ∧
    (∀ (i : Nat) (r : MediaRead) (s : State), s.ml.reads.find? (fun x => x.id == i) = some r → r.stage = 3 → s.phase = .running → s.hm.latchHalted =
      false → ∃ t, exec (.tagCheckDone i false) s = .next t ∧ t.phase = .halted ∧ t.hm.latchHalted = true ∧ t.dp.integrity.pn = r.pn ∧
      t.dp.integrity.ppn = r.ppn ∧ t.dp.integrity.cause = tagCause (endRead s r) r ∧ t.dp.integrity.at_ = s.hm.opsec ∧ t.dp.dumpDone = false) ∧
    (∀ (g : Fin 2) (st : Fin 16) (d : Fin 32) (pl : Fin 4) (rs : Bool) (x : PlaneOp) (s : State), AMap.get? s.ml.ops (planeKey g.val st.val d.val
      pl.val) = some x → x.overdue = false → x.suspended = true → x.kind = (if rs = true then 2 else 1) → ∃ t, exec (.opOverdue g st d pl rs) s =
      .next t ∧ AMap.get? t.ml.ops (planeKey g.val st.val d.val pl.val) = some { x with overdue := true } ∧ t.obj (U.stack (g.val + 1) (st.val + 1))
      Obj.OPS_OVERDUE = (s.obj (U.stack (g.val + 1) (st.val + 1)) Obj.OPS_OVERDUE + 1) % 2^32) ∧
    (∀ (g : Fin 2) (st : Fin 16) (s : State), (AMap.getD s.ml.wins (U.stack (g.val + 1) (st.val + 1)) {}).endedOver = true → s.obj (U.stack (g.val +
      1) (st.val + 1)) Obj.FINE_MODE = 0 → ∃ t, exec (.fineSuspendOn g st) s = .next t ∧ t.obj (U.stack (g.val + 1) (st.val + 1)) Obj.FINE_MODE = 1 ∧
      (AMap.getD t.ml.wins (U.stack (g.val + 1) (st.val + 1)) {}).endedOver = false ∧ (AMap.getD t.ml.wins (U.stack (g.val + 1) (st.val + 1))
      {}).fineAt = s.hm.opsec) ∧
    (∀ (g : Fin 2) (st : Fin 16) (s : State), s.obj (U.stack (g.val + 1) (st.val + 1)) Obj.FINE_MODE ≠ 0 → (AMap.getD s.ml.wins (U.stack (g.val + 1)
      (st.val + 1)) {}).endedOver = false → max (AMap.getD s.ml.wins (U.stack (g.val + 1) (st.val + 1)) {}).overAt (AMap.getD s.ml.wins (U.stack
      (g.val + 1) (st.val + 1)) {}).fineAt + s.robj Obj.FINE_HOLD ≤ s.hm.opsec → ∃ t, exec (.fineSuspendOff g st) s = .next t ∧ t.obj (U.stack (g.val
      + 1) (st.val + 1)) Obj.FINE_MODE = 0 ∧ t.ml = s.ml) ∧
    (∀ (g : Fin 2) (q : Nat) (s : State), ¬ g.val ∈ s.ml.overloaded → s.variant = .p128 → ∃ t, exec (.degradedOverload g q true) s = .next t ∧
      t.ml.overloaded = g.val :: s.ml.overloaded ∧ t.ml.ops = s.ml.ops ∧ t.ml.reads.map (·.id) = s.ml.reads.map (·.id)) ∧
    (∀ (g : Fin 2) (q : Nat) (s : State), exec (.degradedOverload g q false) s = .next
      { s with ml := { s.ml with overloaded := s.ml.overloaded.filter (· != g.val) } }) ∧
    (∀ (s : State), s.hm.running = true → s.hm.opsec < 2^48 - 1 → ∃ t, exec .eqClockTick s = .next t ∧ t.hm.opsec = s.hm.opsec + 1 ∧ t.th.sensors =
      s.th.sensors.map (fun p => (p.1, { (p.2) with sum := 0, count := 0 })) ∧ t.phase = s.phase) ∧
    (∀ (i e : Nat) (r : MediaRead) (s : State), s.ml.reads.find? (fun x => x.id == i) = some r → r.stage = 1 → r.why = .demand → r.decided = false →
      findsBusy s r = true → (planeRec s (r.plane s)).overdue = false → s.robj Obj.SUSPEND_FAST < min e (estimateBound s r) → parked s (ppnGroup
      r.ppn) (ppnStack r.ppn) (ppnSet r.ppn) = false → r.noAround = false → reconstructible s r = true → aroundBudget s r = true → ∃ t, exec
      (.suspendEstimate i e) s = .next t ∧ (t.ml.reads.find? (fun x => x.id == i)).map (fun q => (q.stage, q.around, q.members)) = some (2, true,
      membersOf s r) ∧ (t.ml.reads.filter fun q => q.id != i) = (s.ml.reads.filter fun q => q.id != i)) ∧
    (∀ (i e : Nat) (r : MediaRead) (s : State), s.ml.reads.find? (fun x => x.id == i) = some r → (r.stage ≠ 1 ∨ r.why ≠ .demand ∨ r.decided = true ∨
      findsBusy s r = false) → exec (.suspendEstimate i e) s = .next s) ∧
    (∀ (i : Nat) (b c : Bool) (r : MediaRead) (s : State), s.ml.reads.find? (fun x => x.id == i) = some r → (r.stage ≠ 1 ∨ senseEnds s r = false) →
      exec (.sectorReadDone i b c) s = .next s) ∧
    (∀ (i : Nat) (r : MediaRead) (a : Acc) (s : State), s.ml.reads.find? (fun x => x.id == i) = some r → r.stage = 3 → r.why = .demand → atOwnPage r = true → r.delivered = false → r.accs = [a] → a.kind = .read → a.db = false → sendsNow s a.port 1 = true → responds s a.port = true → ∃ t, exec (.tagCheckDone i true)
      s = .next t ∧ sentDrs t a.port a.tag (overlay ((sectorLines s r false).getD (a.line % 8) {}).data a.data a.mask) (a.poison || markPoison
      ((sectorLines s r false).getD (a.line % 8) {}).mark (staleReadOf s a.line)) a.metaVal = true)

/-- What the measurements, the proof passes and the end of a plan change do. Rests on 09 R212, 09 R213, 09 R214, 09 R218, 09 R219, 09 R222. -/
def Obligations.AgeingCommands : Prop :=
  (∀ (g : Fin 2) (st : Fin 16) (d : Fin 32) (s : State), s.phase = .running → s.variant = .p128 → firmwareOn s = true → measSkips s (U.die (g.val + 1)
    (st.val + 1) (d.val + 1)) = false → AMap.has s.ag.passes (U.die (g.val + 1) (st.val + 1) (d.val + 1)) = false → s.hm.running = true → ∃ t, exec
    (.proofPassStart g st d) s = .next t ∧ (AMap.get? t.ag.passes (U.die (g.val + 1) (st.val + 1) (d.val + 1))).any (fun p => !p.confirm && decide
    (p.picks.length ≤ 64) && decide (p.left ≤ p.picks.length) && p.picks.all (proofSectors s g.val st.val d.val).contains) = true ∧ AMap.del
    t.ag.passes (U.die (g.val + 1) (st.val + 1) (d.val + 1)) = AMap.del s.ag.passes (U.die (g.val + 1) (st.val + 1) (d.val + 1)) ∧ t.ag.log =
    s.ag.log) ∧
    (∀ (g : Fin 2) (st : Fin 16) (d : Fin 32) (s : State), s.phase = .running → s.variant = .p128 → firmwareOn s = true → measSkips s (U.die (g.val +
      1) (st.val + 1) (d.val + 1)) = true → s.hm.running = true → ∃ t, exec (.proofPassStart g st d) s = .next t ∧ t.ag.passes = s.ag.passes ∧ t.robj
      Obj.MEAS_SKIPPED = (s.robj Obj.MEAS_SKIPPED + 1) % 2^64) ∧
    (∀ (g : Fin 2) (st : Fin 16) (d : Fin 32) (xs : List ProofSample) (p : ProofPass) (s : State), AMap.get? s.ag.passes (U.die (g.val + 1) (st.val +
      1) (d.val + 1)) = some p → p.confirm = false → p.left = 0 → ∃ t, exec (.proofPassDone g st d xs) s = .next t ∧ (if ((passSamples s g.val st.val
      d.val p xs).filter sampleGood).any (fun x => marksBlock (dieRec s g.val st.val d.val) (sampleMargin x)) = true then (AMap.get? t.ag.passes
      (U.die (g.val + 1) (st.val + 1) (d.val + 1))).map (·.confirm) = some true else AMap.has t.ag.passes (U.die (g.val + 1) (st.val + 1) (d.val + 1))
      = false) ∧ AMap.del t.ag.passes (U.die (g.val + 1) (st.val + 1) (d.val + 1)) = AMap.del s.ag.passes (U.die (g.val + 1) (st.val + 1) (d.val + 1))
      ∧ t.media.map = s.media.map ∧ t.media.sets = s.media.sets) ∧
    (∀ (g : Fin 2) (st : Fin 16) (d : Fin 32) (xs : List ProofSample) (p : ProofPass) (s : State), AMap.get? s.ag.passes (U.die (g.val + 1) (st.val +
      1) (d.val + 1)) = some p → p.confirm = true → p.left = 0 → ∃ t, exec (.confirmPassDone g st d xs) s = .next t ∧ t.ag.passes = AMap.del
      s.ag.passes (U.die (g.val + 1) (st.val + 1) (d.val + 1)) ∧ t.ag.marked = s.ag.marked.filter (fun m => m.1 != U.die (g.val + 1) (st.val + 1)
      (d.val + 1))) ∧
    (∀ (s : State), s.hm.running = true → ∃ t, exec .hourlyMeasurement s = .next t ∧ t.ag.corrHour = [] ∧ t.ag.effSum = [] ∧ t.ag.passes = s.ag.passes
      ∧ t.media = s.media) ∧
    (∀ (u : BitVec 32) (l a b c d : BitVec 16) (s : State), s.hm.running = true → (expandPath s.variant u.toNat).toOption = some [u.toNat] → hasLanes
      u.toNat = true → measSkips s u.toNat = false → ∃ t, exec (.eyeMarginMeasurement u l a b c d) s = .next t ∧ t.ag.next = s.ag.next + 1 ∧
      t.ag.log.head?.map (fun q => (q.1, q.2.kind, q.2.index, q.2.unit, q.2.payload)) = some (s.ag.next, 5, l.toNat, u.toNat, leBytes 2 a.toNat ++
      leBytes 2 b.toNat ++ leBytes 2 c.toNat ++ leBytes 2 d.toNat)) ∧
    (∀ (r : Fin 18) (o i : BitVec 32) (s : State), s.hm.running = true → measSkips s (stageUnit r.val) = false → i ≠ 0 → ∃ t, exec (.efficiencySample
      r o i) s = .next t ∧ AMap.getD t.ag.effSum r.val (0, 0, 0) = ((AMap.getD s.ag.effSum r.val (0, 0, 0)).1 + 1, (AMap.getD s.ag.effSum r.val (0, 0,
      0)).2.1 + min 65535 (10000 * o.toNat / i.toNat), (AMap.getD s.ag.effSum r.val (0, 0, 0)).2.2 + i.toNat)) ∧
    (∀ (p : Plan) (back : Bool) (s : State), s.ag.applying = some (p, back) → ∃ t, exec .planApplied s = .next t ∧ t.ag.active = p ∧ t.ag.previous =
      some s.ag.active ∧ t.ag.applying = none ∧ t.robj Obj.PLAN_APPLIED_AT = s.hm.opsec ∧ (t.ag.passes.all fun q => decide (q.2.left ≤
      q.2.picks.length) && decide (q.2.picks.length ≤ (if q.2.confirm then 256 else 64))) = true) ∧
    (∀ (p : Plan) (back : Bool) (g : Fin 2) (st : Fin 16) (d : Fin 32) (q : ProofPass) (s : State), s.ag.applying = some (p, back) → s.ag.passes = [((U.die (g.val + 1) (st.val + 1) (d.val + 1)), q)] → s.media.offStacks = [] → s.media.deadStacks = [] → s.media.deadDies = [] → ∃ t, exec .planApplied s = .next t ∧ t.ag.passes.map (fun x => (x.1, x.2.confirm)) =
      [((U.die (g.val + 1) (st.val + 1) (d.val + 1)), q.confirm)])

/-- What the commands of temperature do. Rests on 13 R302, 13 R303, 13 R306, 13 R309. -/
def Obligations.ThermalCommands : Prop :=
  (∀ (k : Fin 65) (v : Int) (s : State), s.hm.running = true → s.th.sensors = [] → (k.val = 1 ∨ k.val = 2) → -2000 ≤ v → v ≤ 15000 → ∃ t, exec
    (.sensorSample [⟨0, k, v⟩]) s = .next t ∧ AMap.get? t.th.sensors (k.val - 1) = some { hist := [v], last := some v, sum := v, count := 1 } ∧
    t.phase = s.phase) ∧
    (∀ (k : Fin 65) (v : Int) (s : State), s.hm.running = true → s.th.sensors = [] → (k.val = 1 ∨ k.val = 2) → (quantise v < -2000 ∨ 15000 < quantise v) → ∃ t, exec (.sensorSample [⟨0, k, v⟩]) s = .next t ∧ AMap.get? t.th.sensors (k.val - 1) = some { bad := 1 } ∧ t.phase = s.phase) ∧
    (∀ (u : BitVec 32) (s : State), (getPart s u.toNat).boost = true → 1000 ≤ (getPart s u.toNat).calm → firmwareOn s = true → ∃ t, exec
      (.rateBoostEnd u) s = .next t ∧ t.th.parts = AMap.set s.th.parts u.toNat { (getPart s u.toNat) with boost := false }) ∧
    (∀ (severe : Bool) (s : State), firmwareOn s = true → (if severe = true then 3 else 2) ≤ s.robj Obj.THERM_REQUEST → ∃ t, exec (.thermGraceExpiry
      severe) s = .next t ∧ t.th.grace2 = true ∧ t.th.grace3 = (s.th.grace3 || severe) ∧ t.th.sensors = s.th.sensors ∧ t.phase = s.phase)

/-- What a detected power failure does in service, in a start and while off, and what ends a flush. Rests on 11 R267, 11 R268, 11 R269, 11 R270, 11 R271, 01 R25. -/
def Obligations.PowerFailureDetections : Prop :=
  (∀ (vin vhold : BitVec 32) (s : State), s.hm.running = true → s.phase = .running → s.robj Obj.PSTATE_NOW ≠ 4 → s.pw.flush = none → vin.toNat <
    vinFail s → ∃ t, exec (.powerFail vin vhold) s = .next t ∧ t.phase = .flushing ∧ t.pw.orOpen = true ∧ t.pw.discharging = true ∧ t.pw.measuring =
    false ∧ t.pw.flush.map (·.cause) = some 1) ∧
    (∀ (vin vhold : BitVec 32) (s : State), s.hm.running = true → (s.phase = .sequencing ∨ s.phase = .booting ∨ s.phase = .loading) → vin.toNat <
      vinFail s → ∃ t, exec (.powerFail vin vhold) s = .next t ∧ t.phase = .cold ∧ t.pw.railsUp = s.pw.railsUp.filter (· == 18) ∧ t.hc.berth = [] ∧
      t.wharf.entries = [] ∧ t.media.store = s.media.store) ∧
    (∀ (vin vhold : BitVec 32) (s : State), s.hm.running = true → s.pw.pwrfailLow = false → s.phase = .running → s.robj Obj.PSTATE_NOW ≠ 4 →
      s.pw.flush = none → ∃ t, exec (.pwrfailNAssert vin vhold) s = .next t ∧ t.pw.pwrfailLow = true ∧ t.phase = .flushing ∧ t.pw.orOpen = true ∧
      t.pw.discharging = true ∧ t.pw.measuring = false ∧ t.pw.flush.map (·.cause) = some 2) ∧
    (∀ (vin vhold : BitVec 32) (s : State), s.hm.running = true → s.phase = .running → s.robj Obj.PSTATE_NOW ≠ 4 → s.pw.flush = none → 63000 <
      vin.toNat → ∃ t, exec (.overvoltage vin vhold) s = .next t ∧ t.phase = .flushing ∧ t.pw.orOpen = true ∧ t.pw.discharging = true ∧ t.pw.measuring
      = false ∧ t.pw.flush.map (·.cause) = some 3 ∧ t.pw.vinGood = false) ∧
    (∀ (vin vhold : BitVec 32) (s : State), s.hm.running = true → (s.phase = .cold ∨ s.phase = .latchedOff) → 63000 < vin.toNat → ∃ t, exec
      (.overvoltage vin vhold) s = .next t ∧ t.phase = s.phase ∧ t.pw.vinGood = false ∧ t.obj U.power Obj.VIN_NOW = vin.toNat ∧ t.obj U.power
      Obj.OVERVOLTAGE_EVENTS = (s.obj U.power Obj.OVERVOLTAGE_EVENTS + 1) % 2^32) ∧
    (∀ (d v m : BitVec 32) (ok : Bool) (f : Flush) (s : State), s.phase = .flushing → s.pw.flush = some f → ∃ t, exec (.flushDone d v m ok) s = .next
      t ∧ t.phase = (if f.latchOff = true then .latchedOff else .cold) ∧ t.pw.flush = none ∧ t.pw.orOpen = true ∧ t.pw.railsUp = s.pw.railsUp.filter
      (· == 18) ∧ t.wharf.entries = [] ∧ t.hc.berth = [] ∧ t.media.store = s.media.store) ∧
    (∀ (d v m : BitVec 32) (ok : Bool) (f : Flush) (b : Nat) (s : State), s.phase = .flushing → s.pw.flush = some f → dumpTarget s = some b → ∃ t,
      exec (.flushDone d v m ok) s = .next t ∧ (getDump t b).map (fun x => (x.sealed, x.cause, x.at_, x.stores)) = some (ok, f.cause, f.at_,
      flushStores f.what)) ∧
    (∀ (d v m : BitVec 32) (ok : Bool) (f : Flush) (s : State), s.phase = .halted → s.pw.flush = some f → ∃ t, exec (.flushDone d v m ok) s = .next t
      ∧ t.phase = .cold ∧ t.pw.flush = none)

/-- What the commands of the input and the hold-up converter do, whole. Rests on 11 R253, 11 R259, 11 R265, 11 R269, 14 R323. -/
def Obligations.PowerEventsOfOneRegister : Prop :=
  (∀ (s : State), s.hm.running = true → exec .vinDip s = .next (s.setObj U.power Obj.VIN_DIPS ((s.obj U.power Obj.VIN_DIPS + 1) % 2^64))) ∧
    (∀ (s : State), 17 ∈ s.pw.railsUp → exec .vbusBelow11v s = .next { s with pw := { s.pw with discharging := true } }) ∧
    (∀ (s : State), s.pw.vinGood = true → s.pw.flush = none → exec .holdupChargeResume s = .next { s with pw := { s.pw with discharging := false } })
      ∧
    (∀ (vin : BitVec 32) (s : State), 6000 ≤ vin.toNat → vin.toNat ≤ 60000 → exec (.vinReturn vin) s = .next
      { s.setObj U.power Obj.VIN_NOW vin.toNat with pw := { s.pw with vinGood := true } }) ∧
    (∀ (s : State), exec .pwrfailNDeassert s = .next { s with pw := { s.pw with pwrfailLow := false } }) ∧
    (∀ (x : RetryTarget) (s : State), ¬ retryKey x ∈ s.pw.retryWait → retryRail x ∈ s.pw.railsUp → exec (.faultEpisodeEnd x) s = .next
      { s with pw := { s.pw with attempts := AMap.del s.pw.attempts (retryKey x) } }) ∧
    (∀ (s : State), (s.phase = .running ∨ s.phase = .halted) → exec .holdupIntervalExpiry s = .next
      { s with pw := { s.pw with measDue := s.pw.measDue || !s.pw.measuring } })

/-- What the power cap, the phases and the PMBus do to the registers and devices they name. Rests on 11 R250, 11 R251, 11 R252, 11 R255, 11 R257, 11 R263. -/
def Obligations.PowerMonitoring : Prop :=
  (∀ (v p : BitVec 32) (s : State), 16 ∈ s.pw.railsUp → s.pw.flush = none → ∃ t, exec (.powerCapTick v p) s = .next t ∧ t.obj U.power
    Obj.POWER_CAP_NOW = powerCap (s.obj U.power Obj.PHASES_OK) v.toNat ∧ t.obj U.power Obj.PIN_NOW = p.toNat ∧ (powerCap (s.obj U.power Obj.PHASES_OK)
    v.toNat < p.toNat → t.obj U.power Obj.POWER_STEP = min 16 (s.obj U.power Obj.POWER_STEP + 1)) ∧ t.pw.under = (if p.toNat * 100 < powerCap (s.obj
    U.power Obj.PHASES_OK) v.toNat * 95 then min 100 (s.pw.under + 1) else 0)) ∧
    (∀ (ph : Fin 11) (s : State), 16 ∈ s.pw.railsUp → ph.val < 2 → ¬ ph.val + 1 ∈ s.pw.lostPhases → ∃ t, exec (.phaseLost 15 ph) s = .next t ∧
      t.pw.lostPhases = (ph.val + 1) :: s.pw.lostPhases ∧ t.obj U.power Obj.PHASES_OK = s.obj U.power Obj.PHASES_OK - 1 ∧ t.obj (U.rail 16)
      Obj.PHASES_LOST = (s.obj (U.rail 16) Obj.PHASES_LOST + 1) % 2^8) ∧
    (∀ (r : Fin 18) (ph : Fin 11) (s : State), r.val + 1 ∈ s.pw.railsUp → r.val < 5 → s.obj (U.rail (r.val + 1)) Obj.PHASES_LOST < railPhases (r.val +
      1) → ph.val + 1 ≤ railPhases (r.val + 1) → ∃ t, exec (.phaseLost r ph) s = .next t ∧ t.obj (U.rail (r.val + 1)) Obj.PHASES_LOST = (s.obj (U.rail
      (r.val + 1)) Obj.PHASES_LOST + 1) % 2^8 ∧ t.pw = s.pw) ∧
    (∀ (r : Fin 18) (ph : Fin 11) (s : State), r.val + 1 ∈ s.pw.railsUp → 5 ≤ r.val → r.val < 15 → s.pw.flush.isSome = true → ∃ t, exec (.phaseLost r
      ph) s = .next t ∧ t.obj (U.rail (r.val + 1)) Obj.PHASES_LOST = (s.obj (U.rail (r.val + 1)) Obj.PHASES_LOST + 1) % 2^8 ∧ t.obj (U.rail (r.val +
      1)) Obj.RAIL_FAULTS = (s.obj (U.rail (r.val + 1)) Obj.RAIL_FAULTS + 1) % 2^32 ∧ t.pw = s.pw) ∧
    (∀ (ws : List (Fin 18 × BitVec 16)) (s : State), s.hm.running = true → (ws.map (·.1)).Nodup → ∃ t, exec (.pmbusPoll ws) s = .next t ∧ (∀ w ∈ ws,
      railReached s (w.1.val + 1) = true → AMap.get? t.pw.statusWords (w.1.val + 1) = some w.2.toNat) ∧ t.objs = s.objs ∧ t.pw.railsUp = s.pw.railsUp)
      ∧
    (∀ (vin iin : BitVec 32) (rs : List RailReading) (s : State), s.hm.running = true → railReached s 16 = true → ∃ t, exec (.pmbusTelemetry vin iin
      rs) s = .next t ∧ t.obj U.power Obj.VIN_NOW = vin.toNat ∧ t.obj U.power Obj.IIN_NOW = iin.toNat ∧ t.obj U.power Obj.PIN_NOW = vin.toNat *
      iin.toNat / 1000 % 2^32 ∧ t.pw.vinWindow = (vin.toNat :: s.pw.vinWindow).take 10) ∧
    (∀ (d : PmDev) (c p : BitVec 8) (s : State), s.hm.running = true → ¬ d.addr ∈ s.pw.unreachable → AMap.getD s.pw.pmTries d.addr 0 < 2 → exec
      (.pmbusTimeout d c p) s = .next { s with pw := { s.pw with pmTries := AMap.set s.pw.pmTries d.addr (AMap.getD s.pw.pmTries d.addr 0 + 1) } }) ∧
    (∀ (d : PmDev) (c p : BitVec 8) (s : State), s.hm.running = true → s.phase ≠ .sequencing → ¬ d.addr ∈ s.pw.unreachable → 2 ≤ AMap.getD
      s.pw.pmTries d.addr 0 → deviceFitted s.variant d.addr = true → ∃ t, exec (.pmbusTimeout d c p) s = .next t ∧ t.pw.unreachable = d.addr ::
      s.pw.unreachable ∧ t.obj U.power Obj.PMBUS_ERRORS = (s.obj U.power Obj.PMBUS_ERRORS + 1) % 2^32 ∧ t.pw.railsUp = s.pw.railsUp) ∧
    (∀ (d : PmDev) (s : State), s.hm.running = true → ∃ t, exec (.pmbusDeviceRetry d true) s = .next t ∧ t.pw.unreachable = s.pw.unreachable.filter (·
      != d.addr) ∧ t.pw.railsUp = s.pw.railsUp) ∧
    (∀ (r : Fin 18) (mv : BitVec 32) (s : State), s.hm.running = true → railFitted s.variant (r.val + 1) = true → ¬ r.val + 1 ∈ s.pw.railsUp → ∃ t,
      exec (.railFallTimeout r mv) s = .next t ∧ t.obj (U.rail (r.val + 1)) Obj.FALL_TIMEOUTS = (s.obj (U.rail (r.val + 1)) Obj.FALL_TIMEOUTS + 1) %
      2^32 ∧ t.pw = s.pw) ∧
    (∀ (d : PmDev) (c p : BitVec 8) (s : State), deviceFitted s.variant d.addr = false → exec (.pmbusTimeout d c p) s = .next s)

/-- What faults of rails and load switches, their retries and the banks of media rails do. Rests on 11 R255, 11 R258, 11 R259, 11 R260, 11 R261, 11 R266. -/
def Obligations.RailFaultReactions : Prop :=
  (∀ (r : Fin 18) (s : State), s.phase ≠ .sequencing → r.val + 1 ∈ s.pw.railsUp → ((AMap.getD s.pw.rawPg (r.val + 1) []).filter fun x => decide (s.now
    < x + 400000)).length < 2 → ∃ t, exec (.powerGoodDeassert r false) s = .next t ∧ t.obj (U.rail (r.val + 1)) Obj.PG_GLITCHES = (s.obj (U.rail
    (r.val + 1)) Obj.PG_GLITCHES + 1) % 2^64 ∧ AMap.get? t.pw.rawPg (r.val + 1) = some (s.now :: (AMap.getD s.pw.rawPg (r.val + 1) []).filter fun x =>
    decide (s.now < x + 400000)) ∧ t.phase = s.phase) ∧
    (∀ (r : Fin 18) (s : State), s.phase = .running → s.robj Obj.PSTATE_NOW ≠ 4 → s.pw.flush = none → r.val + 1 ∈ s.pw.railsUp → s.obj (U.rail (r.val
      + 1)) Obj.RAIL_REACTION = 3 → ∃ t, exec (.powerGoodDeassert r true) s = .next t ∧ t.phase = .flushing ∧ t.pw.flush.map (·.cause) = some 4) ∧
    (∀ (x : RetryTarget) (s : State), retryKey x ∈ s.pw.retryWait → s.pw.flush = none → ∃ t, exec (.railRetry x true) s = .next t ∧ ¬ retryKey x ∈
      t.pw.retryWait ∧ AMap.getD t.pw.attempts (retryKey x) 0 = AMap.getD s.pw.attempts (retryKey x) 0 + 1 ∧ t.phase = s.phase) ∧
    (∀ (x : RetryTarget) (s : State), retryKey x ∈ s.pw.retryWait → s.pw.flush = none → AMap.getD s.pw.attempts (retryKey x) 0 < 2 → ∃ t, exec
      (.railRetry x false) s = .next t ∧ t.pw.retryWait = s.pw.retryWait ∧ t.pw.railsUp = s.pw.railsUp ∧ AMap.getD t.pw.attempts (retryKey x) 0 =
      AMap.getD s.pw.attempts (retryKey x) 0 + 1) ∧
    (∀ (s : State), 17 ∈ s.pw.retryWait → s.pw.flush = none → 2 ≤ AMap.getD s.pw.attempts 17 0 → ∃ t, exec (.railRetry (.rail 16) false) s = .next t ∧
      t.pw.bankDead = true ∧ t.pw.charged = false ∧ ¬ 17 ∈ t.pw.railsUp ∧ ¬ 17 ∈ t.pw.retryWait) ∧
    (∀ (g : Fin 2) (st : Fin 16) (s : State), g.val < groupCount s.variant → retryRail (.switch g st) ∈ s.pw.railsUp → ¬ U.stack (g.val + 1) (st.val +
      1) ∈ s.pw.switchOff → s.obj (U.rail (retryRail (.switch g st))) Obj.RAIL_REACTION ≤ 2 → ∃ t, exec (.loadSwitchTrip g st) s = .next t ∧ U.stack
      (g.val + 1) (st.val + 1) ∈ t.pw.switchOff ∧ t.phase = s.phase) ∧
    (∀ (b : Fin 4) (s : State), bankState s b.val = 2 → ¬ b.val ∈ s.pw.bankMin → ∃ t, exec (.bankShutdownDone b) s = .next t ∧ b.val ∈ t.pw.bankMin ∧
      t.pw.railsUp = s.pw.railsUp ∧ t.phase = s.phase) ∧
    (∀ (b : Fin 4) (s : State), bankState s b.val = 4 → ¬ b.val ∈ s.pw.bankMin → exec (.bankShutdownDone b) s = .next
      { s with pw := { s.pw with bankMin := b.val :: s.pw.bankMin } }) ∧
    (∀ (b : Fin 4) (s : State), b.val ∈ s.pw.bankLink → bankState s b.val = 0 → ∃ t, exec (.bankLinksTrained b) s = .next t ∧ t.pw.bankLink =
      s.pw.bankLink.filter (· != b.val) ∧ t.phase = s.phase)

/-- What the commands of the hold-up bank do: charge, measurement with the capacitance and resistance it computes, deferral and flush buffers. Rests on 11 R264, 11 R265, 11 R266, 11 R271, 10 R241. -/
def Obligations.HoldupMeasurements : Prop :=
  (∀ (s : State), measureReady s = true → s.pw.deferSince = none → s.pw.measured = false → ∃ t, exec .holdupMeasurementStart s = .next t ∧
    t.pw.measuring = true ∧ t.pw.measDue = false ∧ t.pw.charged = false ∧ t.pw.measEnd = 48000) ∧
    (∀ (s : State), measureReady s = true → s.pw.deferSince = none → s.pw.measured = true → s.obj U.power Obj.HOLDUP_C ≠ 0 → bankEnergy s 48000 = 0 →
      0 < dirtyNow s → ∃ t, exec .holdupMeasurementStart s = .next t ∧ t.pw.measuring = false ∧ t.pw.deferSince = some s.hm.opsec ∧ t.obj U.power
      Obj.HOLDUP_DEFERRED = (s.obj U.power Obj.HOLDUP_DEFERRED + 1) % 2^32) ∧
    (∀ (since : Nat) (s : State), measureReady s = true → s.pw.deferSince = some since → since + 3600 ≤ s.hm.opsec → ∃ t, exec .holdupDeferralRetry s
      = .next t ∧ t.pw.measuring = true ∧ t.pw.deferSince = none ∧ t.pw.measDue = false ∧ t.pw.charged = false) ∧
    (∀ (a b : BitVec 32) (c : BitVec 16) (s : State), s.pw.measuring = true → ∃ t, exec (.holdupMeasured a b c) s = .next t ∧ t.pw.measuring = false ∧
      t.pw.recharge = true ∧ t.pw.measured = true ∧ t.pw.bankDead = false ∧ t.pw.tMeas = decI16 c.toNat ∧ t.ag.bolSet = true) ∧
    (∀ (s : State), 17 ∈ s.pw.railsUp → s.pw.measuring = false → s.pw.discharging = false → ∃ t, exec .holdupChargeDone s = .next t ∧ t.pw.charged =
      true ∧ t.pw.recharge = false) ∧
    (∀ (v : BitVec 32) (s : State), v.toNat < 55000 → s.hm.running = true → s.pw.measuring = false → ∃ t, exec (.vholdRecomputeTick v) s = .next t ∧
      t.pw.charged = false ∧ t.pw.recharge = s.pw.recharge) ∧
    (∀ (b : Fin 2) (s : State), bufState s b.val = 2 → (s.phase = .loading ∨ s.phase = .running ∨ s.phase = .halted) → ∃ t, exec (.flushBufferErased
      b) s = .next t ∧ getDump t b.val = none ∧ t.free = s.free + 1) ∧
    (∀ (a b : BitVec 32) (c : BitVec 16) (s : State), s.pw.measuring = true → s.pw.measEnd < 56000 → ∃ t, exec (.holdupMeasured a b c) s = .next t ∧
      t.obj U.power Obj.HOLDUP_C = 4000 * a.toNat / (56000 - s.pw.measEnd) % 2^32 ∧ t.obj U.power Obj.HOLDUP_ESR = b.toNat / 4 ∧ t.obj U.power
      Obj.HOLDUP_MEAS_AT = s.hm.opsec)

/-- What a module reset, its end and a watchdog restart do in each phase; and what the loss and the return of the reference clock do. Rests on 12 R282, 12 R283, 12 R284, 12 R286, 12 R285, 12 R279, 14 R328. -/
def Obligations.ResetCommands : Prop :=
  (∀ (s : State), s.hm.running = true → s.cs.mrstLow = false → s.phase = .running → s.robj Obj.PSTATE_NOW < 3 → s.robj Obj.ENTRY_STATE = 0 → ∃ t, exec
    .mrstNAccept s = .next t ∧ t.cs.reset_ = 6 ∧ t.cs.mrstLow = true ∧ t.cs.trafficAt = s.now ∧ t.phase = .running ∧ t.ts.loops = [] ∧ t.ts.activating
    = 0 ∧ t.ts.unlocker = none ∧ t.ag.passes = [] ∧ t.wharf.held = [] ∧ t.wharf.queueReset = []) ∧
    (∀ (s : State), s.hm.running = true → s.cs.mrstLow = false → s.phase = .loading → ∃ t, exec .mrstNAccept s = .next t ∧ t.phase = .loading ∧
      t.cs.mapLoaded = false ∧ t.cs.replayDone = false ∧ t.kdp.sessions = [] ∧ t.robj Obj.RESET_LAST = 2 ∧ t.wharf.lighters = [] ∧ t.wharf.entries =
      s.wharf.entries) ∧
    (∀ (s : State), s.hm.running = true → s.cs.mrstLow = false → s.phase = .halted → s.dp.recoverAccepted = true → s.pw.flush = none → ∃ t, exec
      .mrstNAccept s = .next t ∧ t.phase = .booting ∧ t.robj Obj.RESET_LAST = 5 ∧ t.dp.wseq = s.dp.wseqLimit ∧ t.dp.wseqLimit = s.dp.wseqLimit + 2^32
      ∧ t.pw.measured = false ∧ t.hc.berth = s.hc.berth) ∧
    (∀ (s : State), s.hm.running = true → s.cs.mrstLow = false → (s.phase = .flushing ∨ s.phase = .cold ∨ s.phase = .latchedOff ∨ s.phase =
      .sequencing) → ∃ t, exec .mrstNAccept s = .next t ∧ t.phase = s.phase ∧ t.cs = { s.cs with mrstLow := true } ∧ t.wharf = s.wharf ∧ t.hc = s.hc ∧
      t.mc = s.mc) ∧
    (∀ (s : State), s.phase = .sequencing → s.pw.seqDone = true → ∃ t, exec .mrstNRelease s = .next t ∧ t.phase = .booting ∧ t.cs.mrstLow = false) ∧
    (∀ (s : State), (s.phase = .sequencing → s.pw.seqDone = false) → exec .mrstNRelease s = .next { s with cs := { s.cs with mrstLow := false } }) ∧
    (∀ (s : State), s.phase = .running → s.cs.reset_ ≠ 0 → ∃ t, exec .serviceResetDone s = .next t ∧ t.cs = { s.cs with reset_ := 0, trafficAt := s.now } ∧ t.phase = .running ∧ t.th = s.th ∧ t.ts = s.ts ∧ { t.ag with passes := s.ag.passes } = s.ag ∧ (s.ag.marked = [] → t.ag = s.ag)) ∧
    (∀ (c : Fin 5) (s : State), s.phase = .running → s.robj Obj.PSTATE_NOW < 3 → s.cs.reset_ = 0 → s.ts.activating = 0 → ∃ t, exec (.watchdogRestart
      c) s = .next t ∧ t.cs.wdRunning = true ∧ t.cs.wdTimes = s.hm.opsec :: s.cs.wdTimes.filter (fun x => decide (s.hm.opsec < x + 3600)) ∧
      t.kdp.sessions = [] ∧ t.robj Obj.RESET_LAST = 4 ∧ t.phase = .running ∧ t.wharf = s.wharf ∧ t.media = s.media ∧ t.mc = s.mc ∧ t.hc = s.hc ∧ t.dir
      = s.dir ∧ (t.ts.image = if 3 ≤ t.cs.wdTimes.length ∧ (if s.ts.image = 0 then s.ts.slotB else s.ts.slotA).valid = true then 1 - s.ts.image else
      s.ts.image)) ∧
    (∀ (c : Fin 5) (s : State), (s.phase = .halted ∨ s.phase = .flushing) → s.ts.activating = 0 → ∃ t, exec (.watchdogRestart c) s = .next t ∧
      t.cs.wdRunning = true ∧ t.phase = s.phase ∧ t.dp = s.dp ∧ t.pw = s.pw) ∧
    (∀ (c : Fin 5) (s : State), s.phase = .loading → ∃ t, exec (.watchdogRestart c) s = .next t ∧ t.phase = .loading ∧ t.cs.mapLoaded = false ∧
      t.cs.replayDone = false ∧ t.recorder.logOpen = false ∧ t.ml.reads = []) ∧
    (∀ (s : State), exec .watchdogRestartDone s = .next { s with cs := { s.cs with wdRunning := false } }) ∧
    (∀ (s : State), exec .flushCoreWatchdog s = .next s) ∧
    (∀ (c : Fin 2) (p : BitVec 16) (us : List (Fin 16)) (s : State), (if c = 0 then s.cs.lost1 else s.cs.lost2) = false → ∃ t, exec (.refClockLost c p
      us) s = .next t ∧ (if c = 0 then t.cs = { s.cs with lost1 := true, lostAt := s.now } ∧ t.robj Obj.CLOCK_SOURCE = 1 else t.cs =
      { s.cs with lost2 := true } ∧ t.robj Obj.CLOCK_SOURCE = s.robj Obj.CLOCK_SOURCE) ∧ t.robj Obj.REF_FAULTS = (s.robj Obj.REF_FAULTS + 1) %
      objModulus Obj.REF_FAULTS ∧ t.phase = s.phase ∧ (us.all fun q => !(copyPorts c).contains (q.val + 1) || t.obj (U.port (q.val + 1))
      Obj.LINK_STATE == 0) = true) ∧
    (∀ (c : Fin 2) (s : State), (if c = 0 then s.cs.lost1 else s.cs.lost2) = true → ∃ t, exec (.refClockRestored c) s = .next t ∧ (if c = 0 then t.cs
      = { s.cs with lost1 := false } ∧ t.robj Obj.CLOCK_SOURCE = 0 else t.cs = { s.cs with lost2 := false } ∧ t.robj Obj.CLOCK_SOURCE = s.robj
      Obj.CLOCK_SOURCE) ∧ t.phase = s.phase ∧ t.wharf = s.wharf ∧ t.media = s.media)

/-- A block release: the block is out of reset once its clock is ready, and is held until then. Rests on 12 R288. -/
def Obligations.BlockReleases : Prop :=
  (∀ (b : Fin 6) (c : Bool) (s : State), (blockInReset s (b.val + 1) = false ∨ s.cs.reset_ ≠ 0) → exec (.blockRelease b c) s = .next s) ∧
    (∀ (b : Fin 6) (s : State), blockInReset s (b.val + 1) = true → s.cs.reset_ = 0 → ∃ t, exec (.blockRelease b true) s = .next t ∧ t.robj (Obj.BLOCK_STATE + (b.val +
    1)) = 0 ∧ t.phase = s.phase ∧ t.cs = s.cs) ∧
    (∀ (b : Fin 6) (s : State), blockInReset s (b.val + 1) = true → s.cs.reset_ = 0 → exec (.blockRelease b false) s = .next (s.setR (Obj.BLOCK_STATE + (b.val + 1)) 2))

/-- Power states: what their idle timers, entries, exits and wakes do. Rests on 12 R289, 12 R290, 12 R291, 12 R292, 12 R293, 12 R298. -/
def Obligations.PowerStateCommands : Prop :=
  (∀ (s : State), pstateOpen s = true → s.robj Obj.PSTATE_NOW = 0 → s.robj Obj.PSTATE_AUTO_MAX ≠ 0 → s.robj Obj.ENTRY_STATE = 0 → mirrorLag s = 0 → ∃
    t, exec .p1IdleExpiry s = .next t ∧ t.robj Obj.PSTATE_NOW = 1 ∧ t.wharf = s.wharf ∧ t.media = s.media ∧ t.hc = s.hc ∧ t.phase = .running) ∧
    (∀ (s : State), pstateOpen s = true → s.robj Obj.PSTATE_NOW = 0 → s.robj Obj.PSTATE_AUTO_MAX ≠ 0 → s.robj Obj.ENTRY_STATE = 0 → mirrorLag s ≠ 0 →
      ∃ t, exec .p1IdleExpiry s = .next t ∧ t.robj Obj.PSTATE_NOW = 0 ∧ t.robj Obj.LAST_REFUSER = 7 ∧ t.robj Obj.LAST_REFUSED_STATE = 1 ∧ t.robj
      (Obj.REFUSALS + 7) = (s.robj (Obj.REFUSALS + 7) + 1) % objModulus (Obj.REFUSALS + 7) ∧ t.mc = s.mc) ∧
    (∀ (s : State), pstateOpen s = true → s.robj Obj.PSTATE_NOW = 1 → s.robj Obj.PSTATE_AUTO_MAX = 2 → s.robj Obj.ENTRY_STATE = 0 → s.ml.reads = [] →
      s.wharf.lighters = [] → s.ag.passes = [] → s.ml.queues = [] → firstRefuser s [1, 3, 5, 6, 7, 8] = none → ∃ t, exec .p2IdleExpiry s = .next t ∧ t.robj Obj.PSTATE_NOW = 2 ∧ t.wharf = s.wharf ∧ t.media = s.media ∧ t.phase = .running) ∧
    (∀ (r : Nat) (s : State), pstateOpen s = true → s.robj Obj.PSTATE_NOW = 1 → s.robj Obj.PSTATE_AUTO_MAX = 2 → s.robj Obj.ENTRY_STATE = 0 →
      s.ml.reads = [] → s.wharf.lighters = [] → s.ag.passes = [] → firstRefuser s [1, 3, 5, 6, 7, 8] = some r → ∃ t, exec .p2IdleExpiry s = .next t ∧
      t.robj Obj.PSTATE_NOW = 1 ∧ t.robj Obj.LAST_REFUSER = r ∧ t.robj Obj.LAST_REFUSED_STATE = 2 ∧ t.robj (Obj.REFUSALS + r) = (s.robj (Obj.REFUSALS
      + r) + 1) % objModulus (Obj.REFUSALS + r) ∧ t.mc = s.mc) ∧
    (∀ (s : State), exec .p2ExitDone s = .next { s with cs := { s.cs with p2Exit := false } }) ∧
    (∀ (s : State), prepDone s = true → ∃ t, exec .pstatePrepDone s = .next t ∧ t.robj Obj.ENTRY_STATE = 2 ∧ t.robj Obj.PAD_HOLD = 1 ∧ t.robj
      Obj.PSTATE_NOW = s.robj Obj.PSTATE_NOW ∧ t.kdp.sessions = [] ∧ t.cs = s.cs ∧ t.hc.berth = s.hc.berth) ∧
    (∀ (w : WaitRefuser) (s : State), s.robj Obj.ENTRY_STATE = 1 → firmwareOn s = true → firstRefuser s [w.id, 1, 5, 6, 7] = none → prepDone s = false → exec (.pstatePrepTimeout w) s = .next s) ∧
    (∀ (w : WaitRefuser) (s : State), s.robj Obj.ENTRY_STATE = 1 → firmwareOn s = true → refuserHolds s w.id = true → ∃ t, exec (.pstatePrepTimeout w) s = .next t ∧ t.robj Obj.ENTRY_STATE = 0 ∧ t.robj
      Obj.PSTATE_NOW = s.robj Obj.PSTATE_NOW ∧ t.robj Obj.LAST_REFUSER = w.id ∧ t.robj Obj.LAST_REFUSED_STATE = s.cs.target ∧ t.robj (Obj.REFUSALS +
      w.id) = (s.robj (Obj.REFUSALS + w.id) + 1) % objModulus (Obj.REFUSALS + w.id) ∧ t.cs = s.cs) ∧
    (∀ (s : State), s.phase = .running → 2 ≤ s.robj Obj.ENTRY_STATE → s.robj Obj.PSTATE_NOW < 3 → (s.cs.target = 3 ∨ s.cs.target = 4) → ∃ t, exec
      .pstateEntryDone s = .next t ∧ t.robj Obj.PSTATE_NOW = s.cs.target ∧ t.robj Obj.ENTRY_STATE = (if s.cs.wakeQueued then 3 else 0) ∧ t.cs.offDone
      = false ∧ t.cs.wakeStep = 0 ∧ t.cs.fwRunning = false ∧ t.recorder.accepting = false ∧ t.pw.railsUp = s.pw.railsUp.filter (fun n => (if
      s.cs.target = 3 then [2, 5, 6, 16, 17, 18] else [16, 18]).contains n) ∧ t.phase = .running) ∧
    (∀ (s : State), s.phase = .running → 3 ≤ s.robj Obj.PSTATE_NOW → s.robj Obj.PSTATE_WAKE_TIMER ≠ 0 → s.cs.wakeStep = 0 → s.cs.offDone = true → exec
      .pstateWakeTimer s = .next { s.setR Obj.ENTRY_STATE 0 with cs := { s.cs with wakeQueued := false, wakeStep := 1, stepAt := s.now } }) ∧
    (∀ (s : State), s.phase = .running → 3 ≤ s.robj Obj.PSTATE_NOW → s.robj Obj.PSTATE_WAKE_TIMER ≠ 0 → s.cs.wakeStep = 0 → s.cs.offDone = false →
      exec .pstateWakeTimer s = .next { s.setR Obj.ENTRY_STATE 3 with cs := { s.cs with wakeQueued := true } }) ∧
    (∀ (bad : List (Nat × Fin 2)) (s : State), s.phase = .running → 1 ≤ s.cs.wakeStep → s.cs.wakeStep ≤ 4 → ∃ t, exec (.wakeStepDone bad) s = .next t
      ∧ t.cs.wakeStep = s.cs.wakeStep + 1 ∧ t.cs.stepAt = s.now ∧ t.robj (Obj.WAKE_LAST_MS + s.cs.wakeStep) = min 65535 ((s.now - s.cs.stepAt) /
      400000) ∧ t.robj Obj.PSTATE_NOW = s.robj Obj.PSTATE_NOW ∧ (s.cs.wakeStep = 3 → t.cs.hbmTrained = true) ∧ (s.cs.wakeStep = 4 → t.cs.fwRunning =
      true ∧ t.recorder.accepting = true)) ∧
    (∀ (bad : List (Nat × Fin 2)) (s : State), s.phase = .running → s.cs.wakeStep = 5 → s.robj Obj.PSTATE_NOW = 3 → ∃ t, exec (.wakeStepDone bad) s =
      .next t ∧ t.cs = { s.cs with linksTrained := true, stepAt := s.now, wakeStep := 0, trafficAt := s.now, resAt := t.cs.resAt } ∧ t.phase =
      .running) ∧
    (∀ (bad : List (Nat × Fin 2)) (s : State), s.phase = .running → s.cs.wakeStep = 6 → s.pw.measured = true → ∃ t, exec (.wakeStepDone bad) s = .next
      t ∧ t.cs = { s.cs with stepAt := s.now, wakeStep := 0, trafficAt := s.now, resAt := t.cs.resAt } ∧ t.phase = .running) ∧
    (∀ (bad : List (Nat × Fin 2)) (s : State), s.phase = .running → s.cs.wakeStep = 6 → s.pw.measured = false → ∃ t, exec (.wakeStepDone bad) s = .next t ∧ t.cs.wakeStep = 7 ∧ t.cs.stepAt = s.now ∧ t.robj (Obj.WAKE_LAST_MS + 6) = min 65535 ((s.now - s.cs.stepAt) / 400000) ∧ t.robj Obj.PSTATE_NOW = s.robj Obj.PSTATE_NOW ∧ t.phase = .running) ∧
    (∀ (bad : List (Nat × Fin 2)) (s : State), s.phase = .running → s.cs.wakeStep = 7 → s.pw.measured = true → ∃ t, exec (.wakeStepDone bad) s = .next t ∧ t.cs = { s.cs with wakeStep := 0, trafficAt := s.now, resAt := t.cs.resAt } ∧ t.phase = .running) ∧
    (∀ (bad : List (Nat × Fin 2)) (s : State), s.cs.wakeStep = 7 → s.pw.measured = false → exec (.wakeStepDone bad) s = .next s)

/-- Requests of a session that only the session knows: keepalive, close, subscription, event acknowledgement and an unknown code. Rests on 15 R341, 15 R349, 15 R353, 15 R356, 15 R357. -/
def Obligations.SessionRequests : Prop :=
  (∀ (req : KReq) (x : Session) (s : State), inTurn s req x = true → ∃ t, exec (.keepalive req) s = .next t ∧ Out.kdp x.id req.seq.toNat
    { status := .ok } ∈ t.out ∧ (findSession t x.id).map (fun y => (y.lastSeq, y.executed)) = some (req.seq.toNat, x.executed + 1) ∧ t.objs = s.objs ∧
    t.media = s.media ∧ t.wharf = s.wharf) ∧
    (∀ (req : KReq) (x : Session) (s : State), inTurn s req x = true → ∃ t, exec (.closeSession req) s = .next t ∧ Out.kdp x.id req.seq.toNat
      { status := .ok } ∈ t.out ∧ findSession t x.id = none ∧ t.media = s.media ∧ t.wharf = s.wharf) ∧
    (∀ (req : KReq) (x : Session) (o : BitVec 8) (s : State), inTurn s req x = true → ¬ o.toNat ∈ [1, 2, 3, 4, 16, 17, 18, 32, 33, 34, 35, 36, 48, 50]
      → ∃ t, exec (.unknownOpcode req o) s = .next t ∧ Out.kdp x.id req.seq.toNat { status := .range } ∈ t.out ∧ t.objs = s.objs ∧ t.media =
      s.media) ∧
    (∀ (req : KReq) (x : Session) (a b : BitVec 8) (c : BitVec 16) (e : BitVec 32) (s : State), inTurn s req x = true → 1 ≤ a.toNat → a.toNat ≤ 4 →
      b.toNat ≤ 4 → c ≠ 0 → (expandPath s.variant e.toNat).toOption.isSome = true → ∃ t, exec (.subscribe req a b c e) s = .next t ∧ Out.kdp x.id
      req.seq.toNat { status := .ok } ∈ t.out ∧ (findSession t x.id).map (fun y => AMap.get? y.filters a.toNat) = some (some
      { minSev := b.toNat, subsystems := c.toNat, unit := e.toNat }) ∧ t.objs = s.objs) ∧
    (∀ (req : KReq) (x : Session) (a b : BitVec 8) (c : BitVec 16) (e : BitVec 32) (s : State), inTurn s req x = true → (a.toNat = 0 ∨ 4 < a.toNat ∨ 4
      < b.toNat) → ∃ t, exec (.subscribe req a b c e) s = .next t ∧ Out.kdp x.id req.seq.toNat { status := .range } ∈ t.out ∧ (findSession t x.id).map
      (·.filters) = some x.filters ∧ t.objs = s.objs) ∧
    (∀ (req : KReq) (x : Session) (k : BitVec 64) (s : State), inTurn s req x = true → ∃ t, exec (.eventAck req k) s = .next t ∧ Out.kdp x.id
      req.seq.toNat { status := .ok } ∈ t.out ∧ (findSession t x.id).map (·.evUnacked) = some (x.evUnacked.filter fun m => decide (k.toNat < m.seq)) ∧
      t.objs = s.objs) ∧
    (∀ (i : BitVec 32) (x : Session) (s : State), findSession s i.toNat = some x → ∃ t, exec (.idleTimeout i) s = .next t ∧ findSession t i.toNat =
      none ∧ Out.kdpClose i.toNat .timeout ∈ t.out ∧ t.robj Obj.IDLE_CLOSES = (s.robj Obj.IDLE_CLOSES + 1) % objModulus Obj.IDLE_CLOSES ∧ t.wharf =
      s.wharf) ∧
    (∀ (i : BitVec 32) (x : Session) (s : State), findSession s i.toNat = some x → x.evWaiting ≠ [] → x.evUnacked.length < 64 → kdpAnswers s = true →
      netServes s x.netPort = true → ∃ t, exec (.eventSend i) s = .next t ∧ Out.kdpEvent i.toNat (x.evSeq + 1) x.evLost (x.evWaiting.take 16) ∈ t.out
      ∧ (findSession t i.toNat).map (fun y => (y.evSeq, y.evLost, y.evWaiting, y.evUnacked)) = some (x.evSeq + 1, 0, x.evWaiting.drop 16, x.evUnacked
      ++ [{ seq := x.evSeq + 1, lost := x.evLost, recs := x.evWaiting.take 16 }]) ∧ t.objs = s.objs) ∧
    (∀ (i : BitVec 32) (q : BitVec 64) (x : Session) (m : EvMsg) (s : State), findSession s i.toNat = some x → x.evUnacked.find? (fun e => e.seq ==
      q.toNat) = some m → m.resends < 5 → kdpAnswers s = true → netServes s x.netPort = true → ∃ t, exec (.eventResend i q) s = .next t ∧ Out.kdpEvent
      i.toNat m.seq m.lost m.recs ∈ t.out ∧ (findSession t i.toNat).map (·.evUnacked) = some (x.evUnacked.map fun e => if e.seq = m.seq then
      { e with resends := e.resends + 1 } else e) ∧ t.objs = s.objs) ∧
    (∀ (i : BitVec 32) (q : BitVec 64) (x : Session) (m : EvMsg) (s : State), findSession s i.toNat = some x → x.evUnacked.find? (fun e => e.seq ==
      q.toNat) = some m → 5 ≤ m.resends → kdpAnswers s = true → netServes s x.netPort = true → ∃ t, exec (.eventResend i q) s = .next t ∧ t.robj
      Obj.EVENTS_DROPPED = (s.robj Obj.EVENTS_DROPPED + m.recs.length) % objModulus Obj.EVENTS_DROPPED ∧ (findSession t i.toNat).map (fun y =>
      (y.evLost, y.evUnacked)) = some (x.evLost + m.recs.length, x.evUnacked.filter fun e => e.seq != q.toNat))

/-- The handshake that opens a session, its refusals, its expiry, and the commands that end sessions or change a role key. Rests on 15 R350, 15 R351, 15 R352, 15 R353, 15 R354. -/
def Obligations.SessionOpening : Prop :=
  (∀ (p : Fin 2) (via : NetAddr) (a : BitVec 128) (b : Datagram) (r : BitVec 8) (nc : BitVec 128) (s : State), kdpAnswers s = true → netServes s
    (p.val + 1) = true → addrInUse (netOf s (p.val + 1)) via = true → b.dstPort.toNat = s.robj Obj.KDP_UDP_PORT → b.fit = true → 1 ≤ r.toNat → r.toNat
    ≤ 4 → (backoffOf s a.toNat).until_ ≤ s.now → (roleKey s r.toNat).isSome = true → s.kdp.sessions.length
    < s.robj Obj.SESSION_LIMIT → ∃ t, exec (.openSession p via a b r nc true) s = .next t ∧ (t.kdp.handshakes.getLast?).map (fun h => (h.role, h.nc,
    h.netPort, h.src, h.srcPort)) = some (r.toNat, nc, p.val + 1, a.toNat, b.srcPort.toNat) ∧ t.kdp.handshakes.length = min 8 (s.kdp.handshakes.length
    + 1) ∧
    t.kdp.sessions = s.kdp.sessions ∧ t.objs = s.objs) ∧
    (∀ (p : Fin 2) (via : NetAddr) (a : BitVec 128) (b : Datagram) (r : BitVec 8) (nc : BitVec 128) (s : State), kdpAnswers s = true → netServes s
      (p.val + 1) = true → addrInUse (netOf s (p.val + 1)) via = true → b.dstPort.toNat = s.robj Obj.KDP_UDP_PORT → b.fit = true → 1 ≤ r.toNat →
      r.toNat ≤ 4 → s.now < (backoffOf s a.toNat).until_ → ∃ t, exec (.openSession p via a b r nc true) s = .next t
      ∧ Out.kdpHandshake (p.val + 1) a.toNat 0 .auth [backoffLeft s a.toNat] ∈ t.out ∧ t.robj Obj.BACKOFF_REFUSALS = (s.robj Obj.BACKOFF_REFUSALS + 1)
      % objModulus Obj.BACKOFF_REFUSALS ∧ t.kdp.handshakes = s.kdp.handshakes ∧ t.kdp.sessions = s.kdp.sessions) ∧
    (∀ (p : Fin 2) (via : NetAddr) (a : BitVec 128) (b : Datagram) (r : BitVec 8) (nc : BitVec 128) (s : State), kdpAnswers s = true → netServes s
      (p.val + 1) = true → addrInUse (netOf s (p.val + 1)) via = true → b.dstPort.toNat = s.robj Obj.KDP_UDP_PORT → b.fit = true → 1 ≤ r.toNat →
      r.toNat ≤ 4 → (backoffOf s a.toNat).until_ ≤ s.now → (roleKey s r.toNat).isSome = true → s.robj
      Obj.SESSION_LIMIT ≤ s.kdp.sessions.length → ∃ t, exec (.openSession p via a b r nc true) s = .next t ∧ Out.kdpHandshake (p.val + 1) a.toNat 0
      .limit [] ∈ t.out ∧ t.robj Obj.LIMIT_REFUSALS = (s.robj Obj.LIMIT_REFUSALS + 1) % objModulus Obj.LIMIT_REFUSALS ∧ t.kdp.handshakes =
      s.kdp.handshakes ∧ t.kdp.sessions = s.kdp.sessions) ∧
    (∀ (i : BitVec 32) (k : BitVec 256) (h : Handshake) (b : Datagram) (s : State), kdpAnswers s = true → s.kdp.handshakes.find? (fun y => y.id ==
      i.toNat) = some h → netServes s h.netPort = true → b.dstPort.toNat = h.udpPort → b.fit = true → roleKey s h.role = some k →
      s.kdp.sessions.length < s.robj Obj.SESSION_LIMIT → ∃ t, exec (.prove i (some (proofC k h)) b) s = .next t ∧ t.kdp.sessions.map (·.id) =
      s.kdp.sessions.map (·.id) ++ [h.id] ∧ (t.kdp.sessions.getLast?).map (fun y => (y.role,
      y.netPort, y.src, y.key, y.lastSeq)) = some (h.role, h.netPort, h.src, sessionKey k h, 0) ∧ t.kdp.handshakes = s.kdp.handshakes.filter (fun y =>
      y.id != h.id) ∧ t.robj Obj.OPENS = (s.robj Obj.OPENS + 1) % objModulus Obj.OPENS) ∧
    (∀ (i : BitVec 32) (f : BitVec 256) (h : Handshake) (b : Datagram) (s : State), kdpAnswers s = true → s.kdp.handshakes.find? (fun y => y.id ==
      i.toNat) = some h → netServes s h.netPort = true → b.dstPort.toNat = h.udpPort → b.fit = true → ((roleKey s h.role).all fun k => f != proofC k
      h) = true → ∃ t, exec (.prove i (some f) b) s = .next t ∧
      t.kdp.sessions.map (·.id) = s.kdp.sessions.map (·.id) ∧ Out.kdpHandshake h.netPort h.src h.id .auth [] ∈ t.out ∧ t.kdp.handshakes =
      s.kdp.handshakes.filter (fun y => y.id != h.id) ∧ t.robj Obj.AUTH_FAILS = (s.robj Obj.AUTH_FAILS + 1) % objModulus Obj.AUTH_FAILS ∧ (backoffOf t
      h.src).f = (if (backoffOf s h.src).f + 1 < 5 then (backoffOf s h.src).f + 1 else 0) ∧ ((backoffOf s h.src).f = 4 → (backoffOf t h.src).until_ =
      s.now + 400000 * (if (backoffOf s h.src).b = 0 then 1000 else min 600000 (2 * (backoffOf s h.src).b)))) ∧
    (∀ (i : BitVec 32) (h : Handshake) (s : State), s.kdp.handshakes.find? (fun h => h.id == i.toNat) = some h → exec (.handshakeExpiry i) s = .next
      { s with kdp := { s.kdp with handshakes := s.kdp.handshakes.filter (fun h => h.id != i.toNat), expired := (h :: s.kdp.expired).take 8 } })
      ∧
    (∀ (i : BitVec 32) (f : Option (BitVec 256)) (h : Handshake) (b : Datagram) (s : State), kdpAnswers s = true → s.kdp.handshakes.find? (fun y =>
      y.id == i.toNat) = none → s.kdp.expired.find? (fun y => y.id == i.toNat) = some h → netServes s h.netPort = true → b.dstPort.toNat = h.udpPort →
      b.fit = true → ∃ t, exec (.prove i f b) s = .next t ∧ Out.kdpHandshake h.netPort h.src h.id .timeout [] ∈ t.out ∧ t.kdp.sessions =
      s.kdp.sessions ∧ t.objs = s.objs) ∧
    (∀ (p : Fin 2) (via : NetAddr) (a : BitVec 128) (b : Datagram) (r : BitVec 8) (nc : BitVec 128) (w : Bool) (s : State), kdpAnswers s = true →
      netServes s (p.val + 1) = true → addrInUse (netOf s (p.val + 1)) via = true → b.dstPort.toNat = s.robj Obj.KDP_UDP_PORT → b.fit = false → ∃ t,
      exec (.openSession p via a b r nc w) s = .next t ∧ t.robj Obj.DISCARDS = (s.robj Obj.DISCARDS + 1) % objModulus Obj.DISCARDS ∧ t.out = s.out ∧
      t.kdp.handshakes = s.kdp.handshakes ∧ t.kdp.sessions = s.kdp.sessions) ∧
    (∀ (p : Fin 2) (via : NetAddr) (a : BitVec 128) (b : Datagram) (r : BitVec 8) (nc : BitVec 128) (w : Bool) (s : State), (kdpAnswers s = false ∨
      addrInUse (netOf s (p.val + 1)) via = false) → exec (.openSession p via a b r nc w) s = .next s) ∧
    (∀ (a : BitVec 128) (s : State), ∃ t, exec (.backoffExpiry a) s = .next t ∧ backoffOf t a.toNat = { addr := a.toNat } ∧ (∀ b, b ≠ a.toNat →
      backoffOf t b = backoffOf s b) ∧ t.kdp.sessions = s.kdp.sessions ∧ t.objs = s.objs) ∧
    (∀ (req : KReq) (x : Session) (u : Nat) (arg : BitVec 32) (y : Session) (s : State), startsRun s req x 0x1C21 arg.toNat u = true → findSession s
      arg.toNat = some y → y.role < 3 → ∃ t, exec (.sessionKill req arg) s = .next t ∧ findSession t arg.toNat = none ∧ Out.kdpClose arg.toNat .state
      ∈ t.out ∧ Out.kdp x.id req.seq.toNat { status := .ok } ∈ t.out) ∧
    (∀ (req : KReq) (x : Session) (u : Nat) (k : BitVec 256) (s : State), admitted s req x 0x1C10 (.write (.bytes (beBytes 32 k.toNat))) u = true → ∃
      t, exec (.roleKey req k) s = .next t ∧ AMap.get? t.kdp.roleKeys req.sub.toNat = some k ∧ t.robj (Obj.ROLE_KEY_SET + req.sub.toNat) = (if k = 0
      then 0 else 1) ∧ (∀ y ∈ t.kdp.sessions, y.role = req.sub.toNat → y.id = x.id) ∧ Out.kdp x.id req.seq.toNat { status := .ok } ∈ t.out)

/-- READ, WRITE and the bulk transfers. Rests on 15 R340, 15 R341, 15 R344, 15 R355. -/
def Obligations.ReadsAndWrites : Prop :=
  (∀ (req : KReq) (x : Session) (u : Nat) (i : BitVec 16) (v : KVal) (s : State), admitted s req x i.toNat .read u = true → ¬ i.toNat * 256 +
    req.sub.toNat ∈ [Obj.AGE_EXPORT, Obj.LOG_EXPORT, Obj.SAMPLE_EXPORT, Obj.HM_WINDOW_DATA] → (readObject (countFrame s x.netPort) u (i.toNat * 256 +
    req.sub.toNat)).toOption = some v → (match v with | .bytes bs => decide (bs.length ≤ 1024) | .num _ => true) = true → ∃ t, exec (.read req i) s =
    .next t ∧ Out.kdp x.id req.seq.toNat { value := some v } ∈ t.out ∧ t.objs = s.objs ∧ t.blobs = s.blobs ∧ t.media = s.media) ∧
    (∀ (req : KReq) (x : Session) (u : Nat) (i : BitVec 16) (w : WriteBody) (e : Status) (s : State), inTurn s req x = true → isWild req.unit.toNat =
      false → (expandPath s.variant req.unit.toNat).toOption = some [u] → (match checkObject s x.role u (i.toNat * 256 + req.sub.toNat) (bodyOp w)
      with | .error q => q == e | .ok _ => false) = true → ∃ t, exec (.write req i w) s = .next t ∧
      Out.kdp x.id req.seq.toNat { status := e } ∈ t.out ∧ t.objs = s.objs ∧ t.blobs = s.blobs) ∧
    (∀ (req : KReq) (x : Session) (u : Nat) (i : BitVec 16) (n : Nat) (s : State), admitted s req x i.toNat (.write (.num n)) u = true → i.toNat =
      0x1E01 → bitOf (pcReg s Obj.PC_CONFIG req.sub.toNat) 0 = false → ∃ t, exec (.write req i { value := .num n }) s = .next t ∧ t.obj u (i.toNat *
      256 +
      req.sub.toNat) = n ∧ (∀ o, o ≠ objKey u (i.toNat * 256 + req.sub.toNat) → AMap.get? t.objs o = AMap.get? s.objs o) ∧ Out.kdp x.id req.seq.toNat
      { status := .ok } ∈ t.out) ∧
    (∀ (req : KReq) (x : Session) (u : Nat) (i : BitVec 16) (n : BitVec 32) (r : ObjRow) (s : State), inTurn s req x = true → (expandPath s.variant
      req.unit.toNat).toOption = some [u] → isWild req.unit.toNat = false → objPresent s u (i.toNat * 256 + req.sub.toNat) = some r → roleMeets x.role
      r.role = true → r.access ≠ .ro → stateGate s u (i.toNat * 256 + req.sub.toNat) true = none → r.type = .blob → totalOk r n.toNat = true →
      s.kdp.bulk = none → unitAbsent s u = false → ∃ t, exec (.bulkOpen req i 1 n) s = .next t ∧ t.kdp.bulk = some
      { sid := x.id, key := objKey u (i.toNat * 256 + req.sub.toNat), write := true, total := n.toNat } ∧ t.objs = s.objs ∧ Out.kdp x.id req.seq.toNat
      { status := .ok } ∈ t.out) ∧
    (∀ (req : KReq) (x : Session) (o : BitVec 32) (l : List Byte) (b : Bulk) (s : State), inTurn s req x = true → s.kdp.bulkExpired.contains x.id =
      false → s.kdp.bulk = some b → b.sid = x.id → s.phase ≠ .flushing → b.write = true → 0 < l.length → l.length ≤ 1024 → o.toNat + l.length ≤
      b.total → ∃ t, exec (.bulkData req o l) s = .next t ∧ (∀ k, k < l.length → (t.kdp.bulk.map fun c => AMap.get? c.data (o.toNat + k)) = some
      l[k]?) ∧ t.objs = s.objs ∧ Out.kdp x.id req.seq.toNat { status := .ok } ∈ t.out) ∧
    (∀ (req : KReq) (x : Session) (o : BitVec 32) (l : List Byte) (b : Bulk) (s : State), inTurn s req x = true → s.kdp.bulkExpired.contains x.id =
      false → s.kdp.bulk = some b → b.sid = x.id → s.phase ≠ .flushing → b.write = true → (l.length = 0 ∨ 1024 < l.length ∨ b.total < o.toNat +
      l.length) → ∃ t, exec (.bulkData req o l) s = .next t ∧ t.kdp.bulk = s.kdp.bulk ∧ Out.kdp x.id req.seq.toNat { status := .range } ∈ t.out) ∧
    (∀ (req : KReq) (x : Session) (o : BitVec 32) (n : BitVec 16) (b : Bulk) (s : State), inTurn s req x = true → s.kdp.bulkExpired.contains x.id =
      false → s.kdp.bulk = some b → b.sid = x.id → s.phase ≠ .flushing → b.write = false → 0 < n.toNat → n.toNat ≤ 1024 → o.toNat + n.toNat ≤
      b.copy.length → ∃ t, exec (.bulkRead req o n) s = .next t ∧ Out.kdp x.id req.seq.toNat
      { value := some (.bytes ((b.copy.drop o.toNat).take n.toNat)) } ∈ t.out ∧ t.kdp.bulk = s.kdp.bulk ∧ t.objs = s.objs) ∧
    (∀ (req : KReq) (x : Session) (k : BitVec 32) (b : Bulk) (l : List Byte) (s : State), inTurn s req x = true → s.kdp.bulkExpired.contains x.id =
      false → s.kdp.bulk = some b → b.sid = x.id → s.phase ≠ .flushing → b.write = true → b.key % 2^24 = Obj.FW_STAGE → bulkBytes b = some l → crc32c
      l = k.toNat → ∃ t, exec (.bulkCommit req k) s = .next t ∧ t.ts.staged = l ∧ t.kdp.bulk = none ∧ t.objs = s.objs ∧ Out.kdp x.id req.seq.toNat
      { status := .ok } ∈ t.out) ∧
    (∀ (req : KReq) (x : Session) (k : BitVec 32) (b : Bulk) (s : State), inTurn s req x = true → s.kdp.bulkExpired.contains x.id = false → s.kdp.bulk
      = some b → b.sid = x.id → s.phase ≠ .flushing → b.write = true → bulkBytes b = none → ∃ t, exec (.bulkCommit req k) s = .next t ∧ t.kdp.bulk =
      s.kdp.bulk ∧ t.objs = s.objs ∧ t.ts = s.ts ∧ Out.kdp x.id req.seq.toNat { status := .range } ∈ t.out) ∧
    (∀ (req : KReq) (x : Session) (k : BitVec 32) (b : Bulk) (l : List Byte) (s : State), inTurn s req x = true → s.kdp.bulkExpired.contains x.id =
      false → s.kdp.bulk = some b → b.sid = x.id → s.phase ≠ .flushing → b.write = true → bulkBytes b = some l → crc32c l ≠ k.toNat → ∃ t, exec
      (.bulkCommit req k) s = .next t ∧ t.kdp.bulk = s.kdp.bulk ∧ t.objs = s.objs ∧ t.ts = s.ts ∧ Out.kdp x.id req.seq.toNat { status := .integrity }
      ∈ t.out) ∧
    (∀ (req : KReq) (x : Session) (b : Bulk) (s : State), inTurn s req x = true → s.kdp.bulkExpired.contains x.id = false → s.kdp.bulk = some b →
      b.sid = x.id → s.phase ≠ .flushing → ∃ t, exec (.bulkEnd req) s = .next t ∧ t.kdp.bulk = none ∧ t.objs = s.objs ∧ t.ts = s.ts ∧ Out.kdp x.id
      req.seq.toNat { status := .ok } ∈ t.out) ∧
    (∀ (b : Bulk) (s : State), s.kdp.bulk = some b → exec .bulkIdleTimeout s = .next
      { s with kdp := { s.kdp with bulk := none, bulkExpired := b.sid :: s.kdp.bulkExpired.filter (· != b.sid) } })

/-- States 15 R336 and 00 R3: which paths name no unit and which answer RANGE; that no path of a KLR-P064 reaches under /4/2, also in the every-child form; and that every request that names a unit answers that status. Of a path that is wrong in both ways the rule does not say which status answers, and the statement leaves it open. -/
def Obligations.UnitPathsAreChecked : Prop :=
  (∀ (v : Variant) (p : BitVec 32) (us : List Nat), p.toNat % 4 ≠ 0 → expandPath v (p.toNat - p.toNat % 4) = .ok us → expandPath v p.toNat = .error
    .range) ∧ (∀ (v : Variant) (p : BitVec 32), p.toNat % 4 ≠ 0 → expandPath v p.toNat = .error .range ∨ expandPath v p.toNat = .error .noObject) ∧ (∀
    (v : Variant) (p : BitVec 32) (a b c d e : Nat), p.toNat % 4 = 0 → pathLevels p.toNat = [a, b, c, d, e] → isWild p.toNat = false → expandPath v
    p.toNat = (if (a = 0 ∧ (b ≠ 0 ∨ c ≠ 0 ∨ d ≠ 0)) ∨ (b = 0 ∧ (c ≠ 0 ∨ d ≠ 0)) ∨ (c = 0 ∧ d ≠ 0) ∨ e ≠ 0 ∨ childCount v [] < a ∨ childCount v [a] < b
    ∨ childCount v [a, b] < c ∨ childCount v [a, b, c] < d then .error .noObject else .ok [p.toNat])) ∧ (∀ (p : BitVec 32), p.toNat % 4 = 0 → p.toNat
    / 2^20 = 64 * 4 + 2 → expandPath .p064 p.toNat = .error .noObject) ∧ (∀ (p : BitVec 32) (us : List Nat) (u : Nat), expandPath .p064 p.toNat = .ok
    us → u ∈ us → unitUnder u (U.group 2) = false) ∧ (expandPath .p064 (U.enc 4 63 0 0) = .ok [U.group 1]) ∧ (∀ (c : Instr) (r : KReq) (x : Session)
    (e : Status) (s : State), namesObject c = true → requestOf c = some r → inTurn s r x = true → expandPath s.variant r.unit.toNat = .error e → ∃ t,
    exec c s = .next t ∧ Out.kdp x.id r.seq.toNat { status := e } ∈ t.out) ∧ (∀ (r : KReq) (slot minSev : BitVec 8) (subs : BitVec 16) (tree : BitVec
    32) (x : Session) (e : Status) (s : State), inTurn s r x = true → 1 ≤ slot.toNat → slot.toNat ≤ 4 → minSev.toNat ≤ 4 → expandPath s.variant
    tree.toNat = .error e → ∃ t, exec (.subscribe r slot minSev subs tree) s = .next t ∧ Out.kdp x.id r.seq.toNat { status := e } ∈ t.out)

/-- Network ports: enabling, the refusal to cut off the last KDP path, addressing, link changes and shutdown. Rests on 15 R358, 15 R359, 15 R360, 12 R298. -/
def Obligations.NetworkPorts : Prop :=
  (∀ (req : KReq) (x : Session) (u : Nat) (p : Fin 2) (s : State), admitted s req x 0x1C30 (.write (.num 1)) u = true → u = U.netPort (p.val + 1) →
    s.obj u Obj.NET_ENABLE_STATE = 0 → (netOf s (p.val + 1)).offTimerDone = true → ∃ t, exec (.netEnable req 1) s = .next t ∧ t.obj u Obj.NET_ENABLE =
    1 ∧ t.obj u Obj.NET_ENABLE_STATE = 1 ∧ Out.kdp x.id req.seq.toNat { status := .ok } ∈ t.out) ∧
    (∀ (req : KReq) (x : Session) (u : Nat) (p : Fin 2) (s : State), admitted s req x 0x1C30 (.write (.num 1)) u = true → u = U.netPort (p.val + 1) →
      s.obj u Obj.NET_ENABLE_STATE = 0 → (netOf s (p.val + 1)).offTimerDone = false → ∃ t, exec (.netEnable req 1) s = .next t ∧ t.obj u
      Obj.NET_ENABLE = 1 ∧ t.obj u Obj.NET_ENABLE_STATE = 3 ∧ Out.kdp x.id req.seq.toNat { status := .ok } ∈ t.out) ∧
    (∀ (req : KReq) (x : Session) (u : Nat) (p : Fin 2) (s : State), admitted s req x 0x1C30 (.write (.num 0)) u = true → u = U.netPort (p.val + 1) →
      s.obj u Obj.NET_ENABLE_STATE = 1 → (unitState s (U.netPort (2 - p.val)) ≠ 3 ∨ s.obj (U.netPort (2 - p.val)) Obj.NET_KDP ≠ 1) → ∃ t, exec
      (.netEnable req 0) s = .next t ∧ t.obj u Obj.NET_ENABLE = s.obj u Obj.NET_ENABLE ∧ t.obj u Obj.NET_ENABLE_STATE = 1 ∧ t.kdp.sessions.map (·.id)
      = s.kdp.sessions.map (·.id) ∧ Out.kdp x.id req.seq.toNat { status := .state } ∈ t.out) ∧
    (∀ (req : KReq) (x : Session) (u : Nat) (p : Fin 2) (arg : BitVec 32) (s : State), startsRun s req x 0x1C35 arg.toNat u = true → u = U.netPort
      (p.val + 1) → s.obj u Obj.NET_ADDR_MODE = 1 → 1 ≤ s.obj u Obj.NET_IPV6_PREFIX → s.obj u Obj.NET_IPV6_PREFIX ≤ 128 → 1 ≤ s.obj u
      Obj.NET_IPV4_PREFIX → s.obj u Obj.NET_IPV4_PREFIX ≤ 32 → s.obj u Obj.NET_ENABLE_STATE ≠ 1 → kdpReachable s = true → ∃ t, exec (.netApply req
      arg) s = .next t ∧ (netOf t (p.val + 1)).mode = 1 ∧ (netOf t (p.val + 1)).vlan = s.obj u Obj.NET_VLAN ∧ (netOf t (p.val + 1)).pcp = s.obj u
      Obj.NET_PCP ∧ (netOf t (p.val + 1)).addrHeld = false ∧ Out.kdp x.id req.seq.toNat { status := .ok } ∈ t.out) ∧
    (∀ (req : KReq) (x : Session) (u : Nat) (p : Fin 2) (arg : BitVec 32) (s : State), startsRun s req x 0x1C35 arg.toNat u = true → u = U.netPort
      (p.val + 1) → s.obj u Obj.NET_ADDR_MODE = 0 → beNat (s.blob u Obj.NET_IPV6) = 0 → ∃ t, exec (.netApply req arg) s = .next t ∧ (netOf t (p.val +
      1)).ipv6 = (netOf s (p.val + 1)).ipv6 ∧ (netOf t (p.val + 1)).mode = (netOf s (p.val + 1)).mode ∧ Out.kdp x.id req.seq.toNat
      { status := .range } ∈ t.out) ∧
    (∀ (p : Fin 2) (s : State), s.obj (U.netPort (p.val + 1)) Obj.NET_ENABLE_STATE = 2 → (netOf s (p.val + 1)).shut = false → ∃ t, exec
      (.netShutdownDone p) s = .next t ∧ (netOf t (p.val + 1)).shut = true ∧ t.obj (U.netPort (p.val + 1)) Obj.NET_ENABLE_STATE = 0) ∧
    (∀ (p : Fin 2) (l : Fin 3) (f : Bool) (s : State), ctlState s ≠ 1 → s.obj (U.netPort (p.val + 1)) Obj.NET_ENABLE_STATE = 1 → AMap.has s.ts.loops
      (U.netPort (p.val + 1)) = false → ∃ t, exec (.netLinkChange p l f) s = .next t ∧ t.obj (U.netPort (p.val + 1)) Obj.NET_LINK = l.val ∧ (netOf t
      (p.val + 1)).phyFault = f ∧ t.obj (U.netPort (p.val + 1)) Obj.LINK_DOWNS = (if s.obj (U.netPort (p.val + 1)) Obj.NET_LINK = 2 ∧ l.val ≠ 2 then
      (s.obj (U.netPort (p.val + 1)) Obj.LINK_DOWNS + 1) % objModulus Obj.LINK_DOWNS else s.obj (U.netPort (p.val + 1)) Obj.LINK_DOWNS)) ∧
    (∀ (p : Fin 2) (a : BitVec 128) (v4 : Bool) (s : State), (netOf s (p.val + 1)).mode = 1 → s.obj (U.netPort (p.val + 1)) Obj.NET_ENABLE_STATE = 1 →
      s.obj (U.netPort (p.val + 1)) Obj.NET_LINK = 2 → a ≠ 0 → ∃ t, exec (.netAddressObtained p a v4) s = .next t ∧ (netOf t (p.val + 1)).addrHeld =
      true ∧ (netOf t (p.val + 1)).ipv4 = (if v4 = true then a.toNat % 2^32 else (netOf s (p.val + 1)).ipv4) ∧ (netOf t (p.val + 1)).ipv6 = (if v4 =
      true then (netOf s (p.val + 1)).ipv6 else a.toNat))

/-- The harbourmaster store: the store command, the 10 s spacing, the end of a store, the window, VDD_AON and the operating seconds. Rests on 16 R362, 16 R363, 16 R364, 16 R365, 16 R369. -/
def Obligations.StoreCommands : Prop :=
  (∀ (req : KReq) (x : Session) (arg : BitVec 32) (s : State), startsRun s req x 0x1D01 arg.toNat (U.hm) = true → s.hm.storeRunning = false →
    s.hm.storeSpaced = true → ∃ t, exec (.hmStoreNow req arg) s = .next t ∧ t.hm =
    { s.hm with storeRunning := true, storeWaiting := false, storeSpaced := false, cmdWaits := false } ∧ t.obj U.hm Obj.HM_STORE_LAST = s.hm.opsec ∧
    (AMap.get? t.kdp.runs (objKey (U.hm) (Obj.HM_STORE_NOW))).map (fun r => (r.sid, r.status)) = some (x.id, .pending) ∧ Out.kdp x.id req.seq.toNat
    { status := .pending } ∈ t.out) ∧
    (∀ (req : KReq) (x : Session) (arg : BitVec 32) (s : State), startsRun s req x 0x1D01 arg.toNat (U.hm) = true → (s.hm.storeRunning = true ∨
      s.hm.storeSpaced = false) → ∃ t, exec (.hmStoreNow req arg) s = .next t ∧ t.hm = { s.hm with storeWaiting := true, cmdWaits := true } ∧ t.obj
      (U.hm) (Obj.HM_STORE_DEFERRED) = (s.obj (U.hm) (Obj.HM_STORE_DEFERRED) + 1) % objModulus (Obj.HM_STORE_DEFERRED) ∧ Out.kdp x.id req.seq.toNat
      { status := .pending } ∈ t.out) ∧
    (∀ (s : State), s.hm.running = true → s.hm.storeSpaced = false → s.hm.storeWaiting = true → s.hm.storeRunning = false → ∃ t, exec
      .shadowStoreStart s = .next t ∧ t.hm = { s.hm with storeRunning := true, storeWaiting := false, storeSpaced := false, cmdWaits := false } ∧
      t.obj U.hm Obj.HM_STORE_LAST = s.hm.opsec) ∧
    (∀ (s : State), s.hm.running = true → s.hm.storeSpaced = false → (s.hm.storeWaiting = false ∨ s.hm.storeRunning = true) → exec .shadowStoreStart s
      = .next { s with hm := { s.hm with storeSpaced := true } }) ∧
    (∀ (s : State), s.hm.storeRunning = true → ∃ t, exec (.shadowStoreDone []) s = .next t ∧ t.hm.sram.slots = s.hm.sram.slots ∧ t.hm.sram.generation
      = s.hm.sram.generation + 1 ∧ t.hm.shadow = { s.hm.sram with generation := s.hm.sram.generation + 1 } ∧ t.hm.badPages = [] ∧ t.obj (U.hm)
      (Obj.HM_STORES) = (s.obj (U.hm) (Obj.HM_STORES) + 1) % objModulus (Obj.HM_STORES) ∧ t.hm.storeRunning = (s.hm.storeWaiting && s.hm.storeSpaced))
      ∧
    (∀ (bad : List (Fin 256)) (s : State), s.hm.storeRunning = true → bad ≠ [] → ∃ t, exec (.shadowStoreDone bad) s = .next t ∧ t.hm.badPages =
      bad.map (·.val) ∧ AMap.get? t.hm.shadow.slots 2 = (if (1 : Fin 256) ∈ bad then AMap.get? s.hm.shadow.slots 2 else AMap.get? s.hm.sram.slots 2) ∧
      t.hm.shadow.generation = (if (0 : Fin 256) ∈ bad then s.hm.shadow.generation else s.hm.sram.generation + 1) ∧ t.hm.sram.slots = s.hm.sram.slots)
      ∧
    (∀ (req : KReq) (x : Session) (l : List Byte) (s : State), Memory.wf s = true → admitted s req x 0x1D03 (.write (.bytes l)) (U.hm) = true →
      windowOpen (s.obj U.hm Obj.HM_WINDOW_ADDR) = true → ∃ t, exec (.hmWindowData req l) s = .next t ∧ (∀ k, k < l.length → (AMap.get?
      t.hm.sram.station (s.obj U.hm Obj.HM_WINDOW_ADDR / 256 * 256 - 0xC000 + (s.obj U.hm Obj.HM_WINDOW_ADDR + k) % 256)).getD 0 = l.getD k 0) ∧
      t.hm.sram.slots = s.hm.sram.slots ∧ t.hm.shadow = s.hm.shadow ∧ t.objs = s.objs ∧ Out.kdp x.id req.seq.toNat { status := .ok } ∈ t.out) ∧
    (∀ (req : KReq) (x : Session) (l : List Byte) (s : State), admitted s req x 0x1D03 (.write (.bytes l)) (U.hm) = true → windowOpen (s.obj U.hm
      Obj.HM_WINDOW_ADDR) = false → ∃ t, exec (.hmWindowData req l) s = .next t ∧ t.hm = s.hm ∧ t.objs = s.objs ∧ Out.kdp x.id req.seq.toNat
      { status := .denied } ∈ t.out) ∧
    (∀ (s : State), s.hm.running = true → (s.phase = .cold ∨ s.phase = .latchedOff) → ∃ t, exec .vddAonLow s = .next t ∧ t.hm.running = false ∧
      t.hm.storeRunning = false ∧ t.hm.storeWaiting = false ∧ t.hm.shadow = t.hm.sram ∧ t.hm.sram.slots = s.hm.sram.slots ∧ t.phase = s.phase) ∧
    (∀ (s : State), s.hm.running = true → s.phase ≠ .cold → s.phase ≠ .latchedOff → ∃ t, exec .vddAonLow s = .next t ∧ t.hm.running = true ∧
      t.hm.storeRunning = false ∧ t.hm.shadow = t.hm.sram ∧ t.hm.sram.slots = s.hm.sram.slots ∧ t.phase = s.phase) ∧
    (∀ (i v : Nat) (s : State), s.hm.running = true → cellTop s.hm.opsecCells = some (i, v) → v ≠ s.hm.opsec → ∃ t, exec .operatingSecondsWrite s =
      .next t ∧ AMap.get? t.hm.opsecCells ((i + 1) % 16) = some s.hm.opsec ∧ t.hm.opsecSince = 0 ∧ { t with hm := s.hm } = s) ∧
    (∀ (i v : Nat) (s : State), s.hm.running = true → cellTop s.hm.opsecCells = some (i, v) → v = s.hm.opsec → exec .operatingSecondsWrite s = .next
      { s with hm := { s.hm with opsecSince := 0 } })

/-- The event recorder: flush, freeze, triggers and the exports of the rings. Rests on 09 R215, 16 R373, 16 R376, 16 R377, 16 R378, 17 R388. -/
def Obligations.RecorderCommands : Prop :=
  (∀ (s : State), s.recorder.accepting = true → s.recorder.logOpen = true → s.recorder.freezeSid = none → ((s.recorder.buffer.filter fun p => decide
    (s.recorder.flushedTo ≤ p.1)).isEmpty) = false → ∃ t, exec .recorderFlush s = .next t ∧ t.recorder.flushedTo = s.recorder.next ∧
    t.recorder.log.map (·.1) = (((s.recorder.buffer.filter fun p => decide (s.recorder.flushedTo ≤ p.1)).map (·.1)) ++ s.recorder.log.map (·.1)).take
    1048576 ∧ t.recorder.lostBefore = false ∧ t.obj (U.root) (Obj.LOG_FLUSHES) = (s.obj (U.root) (Obj.LOG_FLUSHES) + 1) % objModulus
    (Obj.LOG_FLUSHES)) ∧
    (∀ (s : State), (s.recorder.accepting = false ∨ s.recorder.logOpen = false ∨ s.recorder.freezeSid ≠ none) → exec .recorderFlush s = .next s) ∧
    (∀ (req : KReq) (x : Session) (s : State), admitted s req x 0x1D10 (.write (.num 1)) (U.root) = true → s.recorder.freezeSid = none → ∃ t, exec
      (.recorderFreeze req 1) s = .next t ∧ t.recorder.freezeSid = some x.id ∧ t.recorder.freezeLost = s.robj Obj.FROZEN_LOST ∧ t.robj
      Obj.RECORDER_FREEZE = 1 ∧ t.recorder.buffer = s.recorder.buffer ∧ Out.kdp x.id req.seq.toNat { status := .ok } ∈ t.out) ∧
    (∀ (req : KReq) (x : Session) (k : Nat) (s : State), admitted s req x 0x1D10 (.write (.num 0)) (U.root) = true → s.recorder.freezeSid = some k → ∃
      t, exec (.recorderFreeze req 0) s = .next t ∧ t.recorder.freezeSid = none ∧ t.robj Obj.RECORDER_FREEZE = 0 ∧ Out.kdp x.id req.seq.toNat
      { status := .ok } ∈ t.out) ∧
    (∀ (k : Nat) (s : State), s.recorder.freezeSid = some k → s.recorder.accepting = true → s.recorder.buffer = [] → triggerFor s Ev.FREEZE_ENDED =
      none → ∃ t, exec .freezeMaxExpiry s = .next t ∧ t.recorder.freezeSid = none ∧ t.robj Obj.RECORDER_FREEZE = 0 ∧ t.recorder.buffer.map (fun p =>
      (p.1, p.2.code, p.2.snap)) = [(s.recorder.next, Ev.FREEZE_ENDED, [2, s.robj Obj.FROZEN_LOST - s.recorder.freezeLost])]) ∧
    (∀ (req : KReq) (x : Session) (c l : Nat) (s : State), admitted s req x 0x1D14 .read (U.root) = true → cursorFix s.recorder.log (s.obj U.root
      Obj.LOG_CURSOR) = (c, l) → ((fromCursor s.recorder.log c).map fun p => eventBytes p.2).flatten.length ≤ 1024 → ∃ t, exec (.logExport req) s =
      .next t ∧ t.obj U.root Obj.LOG_CURSOR = cursorPast c (fromCursor s.recorder.log c) ∧ t.obj U.root Obj.LOG_LOST = (s.obj U.root Obj.LOG_LOST + l)
      % objModulus Obj.LOG_LOST) ∧
    (∀ (req : KReq) (x : Session) (c : Nat) (s : State), admitted s req x 0x1E11 .read (U.ctl) = true → cursorFix s.pc.samples (s.obj U.ctl
      Obj.SAMPLE_CURSOR) = (c, 0) → ((fromCursor s.pc.samples c).map fun p => sampleBytes p.2).flatten.length ≤ 1024 → ∃ t, exec (.sampleExport req) s
      = .next t ∧ Out.kdp x.id req.seq.toNat { value := some (.bytes ((fromCursor s.pc.samples c).map fun p => sampleBytes p.2).flatten) } ∈ t.out ∧
      t.obj U.ctl Obj.SAMPLE_CURSOR = cursorPast c (fromCursor s.pc.samples c) ∧ t.obj U.ctl Obj.SAMPLES_LOST = s.obj U.ctl Obj.SAMPLES_LOST %
      objModulus Obj.SAMPLES_LOST) ∧
    (∀ (req : KReq) (x : Session) (c l : Nat) (s : State), admitted s req x 0x1E11 .read (U.ctl) = true → cursorFix s.pc.samples (s.obj U.ctl
      Obj.SAMPLE_CURSOR) = (c, l) → ((fromCursor s.pc.samples c).map fun p => sampleBytes p.2).flatten.length ≤ 1024 → ∃ t, exec (.sampleExport req) s
      = .next t ∧ t.obj U.ctl Obj.SAMPLE_CURSOR = cursorPast c (fromCursor s.pc.samples c) ∧ t.obj U.ctl Obj.SAMPLES_LOST = (s.obj U.ctl
      Obj.SAMPLES_LOST + l) % objModulus Obj.SAMPLES_LOST) ∧
    (∀ (req : KReq) (x : Session) (c : Nat) (s : State), admitted s req x 0x1707 .read (U.root) = true → cursorFix s.ag.log (s.obj U.root
      Obj.AGE_CURSOR) = (c, 0) → ((fromCursor s.ag.log c).map fun p => measBytes p.2).flatten.length ≤ 1024 → ∃ t, exec (.ageExport req) s = .next t ∧
      Out.kdp x.id req.seq.toNat { value := some (.bytes ((fromCursor s.ag.log c).map fun p => measBytes p.2).flatten) } ∈ t.out ∧ t.obj U.root
      Obj.AGE_CURSOR = cursorPast c (fromCursor s.ag.log c) ∧ t.obj U.root Obj.MEAS_LOST = s.obj U.root Obj.MEAS_LOST % objModulus Obj.MEAS_LOST) ∧
    (∀ (req : KReq) (x : Session) (c l : Nat) (s : State), admitted s req x 0x1707 .read (U.root) = true → cursorFix s.ag.log (s.obj U.root
      Obj.AGE_CURSOR) = (c, l) → ((fromCursor s.ag.log c).map fun p => measBytes p.2).flatten.length ≤ 1024 → ∃ t, exec (.ageExport req) s = .next t ∧
      t.obj U.root Obj.AGE_CURSOR = cursorPast c (fromCursor s.ag.log c) ∧ t.obj U.root Obj.MEAS_LOST = (s.obj U.root Obj.MEAS_LOST + l) % objModulus
      Obj.MEAS_LOST) ∧
    (∀ (req : KReq) (x : Session) (l : List Byte) (s : State), admitted s req x 0x1D20 (.write (.bytes l)) (U.root) = true → (l.getD 2 0).toNat ≤ 2 →
      (l.getD 3 0).toNat ≤ 5 → (l.drop 4).take 4 = [0, 0, 0, 0] → ((List.range (l.getD 3 0).toNat).all fun k => triggerObjectOk ((l.drop (8 + 8 *
      k)).take 8)) = true → ∃ t, exec (.trigger req l) s = .next t ∧ t.blob U.root (Obj.TRIGGER + req.sub.toNat) = l ∧ t.objs = s.objs ∧ Out.kdp x.id
      req.seq.toNat { status := .ok } ∈ t.out) ∧
    (∀ (req : KReq) (x : Session) (l : List Byte) (s : State), admitted s req x 0x1D20 (.write (.bytes l)) (U.root) = true → (2 < (l.getD 2 0).toNat ∨
      5 < (l.getD 3 0).toNat ∨ (l.drop 4).take 4 ≠ [0, 0, 0, 0]) → ∃ t, exec (.trigger req l) s = .next t ∧ t.blobs = s.blobs ∧ t.objs = s.objs ∧
      Out.kdp x.id req.seq.toNat { status := .range } ∈ t.out)

/-- The performance counters: configuration, presets, overflow, freeze, snapshot, samples and bandwidth windows. Rests on 17 R382, 17 R383, 17 R384, 17 R385, 17 R386, 17 R387, 17 R389, 17 R390. -/
def Obligations.CounterCommands : Prop :=
  (∀ (req : KReq) (x : Session) (v : BitVec 32) (s : State), admitted s req x 0x1E03 (.write (.num v.toNat)) (U.ctl) = true → counterUnitReset s =
    false → (bitOf v.toNat 0 = false
    ∨ (pcScopeOk s (pcReg s Obj.PC_EVENT req.sub.toNat) (pcReg s Obj.PC_SCOPE req.sub.toNat) && (!bitOf v.toNat 3 || pcSampled (pcReg s Obj.PC_EVENT
    req.sub.toNat))) = true) → ∃ t, exec (.pcConfig req v) s = .next t ∧ pcReg t Obj.PC_CONFIG req.sub.toNat = setBit v.toNat 2 (bitOf (pcReg s
    Obj.PC_CONFIG req.sub.toNat) 2) ∧ Out.kdp x.id req.seq.toNat { status := .ok } ∈ t.out) ∧
    (∀ (req : KReq) (x : Session) (v : BitVec 32) (s : State), admitted s req x 0x1E03 (.write (.num v.toNat)) (U.ctl) = true → bitOf v.toNat 0 = true → (pcScopeOk s (pcReg s Obj.PC_EVENT req.sub.toNat) (pcReg s Obj.PC_SCOPE req.sub.toNat) && (!bitOf v.toNat 3 || pcSampled (pcReg s Obj.PC_EVENT
      req.sub.toNat))) = false → ∃ t, exec (.pcConfig req v) s = .next t ∧ t.objs = s.objs ∧ Out.kdp x.id req.seq.toNat { status := .range } ∈ t.out)
      ∧
    (∀ (req : KReq) (x : Session) (v : BitVec 64) (s : State), admitted s req x 0x1E04 (.write (.num v.toNat)) (U.ctl) = true → counterUnitReset s =
      false → ∃ t, exec (.pcCount
      req v) s = .next t ∧ pcReg t Obj.PC_COUNT req.sub.toNat = v.toNat ∧ pcReg t Obj.PC_CONFIG req.sub.toNat = setBit (pcReg s Obj.PC_CONFIG
      req.sub.toNat) 2 false ∧ Out.kdp x.id req.seq.toNat { status := .ok } ∈ t.out) ∧
    (∀ (req : KReq) (x : Session) (v : BitVec 64) (s : State), admitted s req x 0x1E04 (.write (.num v.toNat)) (U.ctl) = true → counterUnitReset s =
      true → ∃ t, exec (.pcCount req v) s = .next t ∧ t.objs = s.objs ∧ t.pc = s.pc ∧ Out.kdp x.id req.seq.toNat { status := .busy } ∈ t.out) ∧
    (∀ (c : Fin 8) (k : Fin 65) (s : State), bitOf (pcReg s Obj.PC_CONFIG (c.val + 1)) 0 = true → s.obj U.ctl Obj.PC_FREEZE = 0 → counterUnitReset s =
      false → 2^48 ≤ pcReg s Obj.PC_COUNT (c.val + 1) + k.val → bitOf (pcReg s Obj.PC_CONFIG (c.val + 1)) 4 = false → ∃ t, exec (.pcOverflow c k none)
      s = .next t ∧ pcReg t Obj.PC_COUNT (c.val + 1) = (if bitOf (pcReg s Obj.PC_CONFIG (c.val + 1)) 3 = true then (pcReg s Obj.PC_RELOAD (c.val + 1)
      + (pcReg s Obj.PC_COUNT (c.val + 1) + k.val - 2^48)) % 2^48 else pcReg s Obj.PC_COUNT (c.val + 1) + k.val - 2^48) ∧ bitOf (pcReg t Obj.PC_CONFIG
      (c.val + 1)) 2 = true ∧ pcReg t Obj.PC_OVF_COUNT (c.val + 1) = (pcReg s Obj.PC_OVF_COUNT (c.val + 1) + 1) % objModulus (Obj.PC_OVF_COUNT +
      (c.val + 1)) ∧ t.pc = s.pc ∧ t.obj U.ctl Obj.PC_FREEZE = 0) ∧
    (∀ (c : Fin 8) (k : Fin 65) (s : State), bitOf (pcReg s Obj.PC_CONFIG (c.val + 1)) 0 = true → s.obj U.ctl Obj.PC_FREEZE = 0 → counterUnitReset s =
      false → 2^48 ≤ pcReg s Obj.PC_COUNT (c.val + 1) + k.val → bitOf (pcReg s Obj.PC_CONFIG (c.val + 1)) 4 = true → ∃ t, exec (.pcOverflow c k none)
      s = .next t ∧ t.obj U.ctl Obj.PC_FREEZE = 1 ∧ t.pc.armed = [] ∧ bitOf (pcReg t Obj.PC_CONFIG (c.val + 1)) 2 = true ∧ t.obj (U.ctl)
      (Obj.SAMPLES_LOST) = (s.obj (U.ctl) (Obj.SAMPLES_LOST) + s.pc.armed.length) % objModulus (Obj.SAMPLES_LOST)) ∧
    (∀ (c : Fin 8) (k : Fin 65) (sl : Option (Fin 16)) (s : State), (bitOf (pcReg s Obj.PC_CONFIG (c.val + 1)) 0 = false ∨ s.obj U.ctl Obj.PC_FREEZE ≠
      0 ∨ counterUnitReset s = true ∨ pcReg s Obj.PC_COUNT (c.val + 1) + k.val < 2^48) → exec (.pcOverflow c k sl) s = .next s) ∧
    (∀ (req : KReq) (x : Session) (s : State), admitted s req x 0x1E08 (.write (.num 1)) (U.ctl) = true → s.obj U.ctl Obj.PC_FREEZE ≠ 1 →
      counterUnitReset s = false → ∃ t, exec (.pcFreeze req 1) s = .next t ∧ t.obj U.ctl Obj.PC_FREEZE = 1 ∧ t.pc.armed = [] ∧ t.obj (U.ctl)
      (Obj.SAMPLES_LOST) = (s.obj (U.ctl)
      (Obj.SAMPLES_LOST) + s.pc.armed.length) % objModulus (Obj.SAMPLES_LOST) ∧ Out.kdp x.id req.seq.toNat { status := .ok } ∈ t.out) ∧
    (∀ (req : KReq) (x : Session) (s : State), admitted s req x 0x1E08 (.write (.num 0)) (U.ctl) = true → counterUnitReset s = false → ∃ t, exec
      (.pcFreeze req 0) s = .next t ∧
      t.obj U.ctl Obj.PC_FREEZE = 0 ∧ t.pc = s.pc ∧ Out.kdp x.id req.seq.toNat { status := .ok } ∈ t.out) ∧
    (∀ (req : KReq) (x : Session) (arg : BitVec 32) (s : State), startsRun s req x 0x1E09 arg.toNat (U.ctl) = true → ∃ t, exec (.pcSnapshot req arg) s
      = .next t ∧ t.blob U.ctl Obj.PC_SNAP = pcSnapBytes s ∧ t.objs = s.objs ∧ t.pc = s.pc ∧ (AMap.get? t.kdp.runs (objKey (U.ctl)
      (Obj.PC_SNAPSHOT))).map (fun r => (r.sid, r.status)) = some (x.id, .ok) ∧ Out.kdp x.id req.seq.toNat { status := .ok } ∈ t.out) ∧
    (∀ (sl : Fin 16) (p : Fin 17) (src : BitVec 16) (l : BitVec 51) (w : Bool) (e : Fin 27) (u : BitVec 32) (a : Armed) (s : State), s.obj U.ctl
      Obj.PC_FREEZE ≠ 1 → counterUnitReset s = false → s.pc.armed = [a] → a.slice = sl.val → e.val = pcReg s Obj.PC_EVENT a.counter → unitUnder
      u.toNat (pcReg s Obj.PC_SCOPE a.counter) = true → ∃ t, exec (.sampleTaken sl p src l w e u) s = .next t ∧ t.pc.armed = [] ∧
      (t.pc.samples.head?).map (fun q => (q.1, q.2.line, q.2.counter, q.2.slice, q.2.port)) = some (s.pc.nextSample, l.toNat, a.counter, sl.val,
      p.val) ∧ (t.pc.samples.head?).map (fun q => (q.2.mismatch, q.2.skid)) = some (false, a.skid) ∧ t.obj (U.ctl) (Obj.SAMPLES_TAKEN) = (s.obj
      (U.ctl) (Obj.SAMPLES_TAKEN) + 1) % objModulus (Obj.SAMPLES_TAKEN)) ∧
    (∀ (sl : Fin 16) (p : Fin 17) (src : BitVec 16) (l : BitVec 51) (w : Bool) (e : Fin 27) (u : BitVec 32) (a : Armed) (s : State), s.obj U.ctl
      Obj.PC_FREEZE ≠ 1 → counterUnitReset s = false → s.pc.armed = [a] → a.slice = sl.val → (e.val ≠ pcReg s Obj.PC_EVENT a.counter ∨ unitUnder
      u.toNat (pcReg s Obj.PC_SCOPE a.counter) = false) → ∃ t, exec (.sampleTaken sl p src l w e u) s = .next t ∧ (if 63 ≤ a.skid then t.pc.armed = []
      ∧ (t.pc.samples.head?).map (fun q => (q.2.mismatch, q.2.skid)) = some (true, a.skid + 1) else t.pc.armed = [{ a with skid := a.skid + 1 }] ∧
      t.pc.samples = s.pc.samples)) ∧
    (∀ (s : State), s.obj U.ctl Obj.PC_CYCLES % bwLength s = 0 → s.pc.bwFrom + bwLength s ≤ s.obj U.ctl Obj.PC_CYCLES → counterUnitReset s = false →
      s.obj U.ctl Obj.PC_FREEZE ≠ 1 → ∃ t, exec .bwWindowBoundary s = .next t ∧ t.pc.bw = [] ∧ t.pc.bwFrom = s.obj U.ctl Obj.PC_CYCLES ∧ ((AMap.getD
      t.pc.hist 0 []).head?).map (·.start) = some (s.obj U.ctl Obj.PC_CYCLES - bwLength s) ∧ (AMap.getD t.pc.hist 0 []).length = min 32 ((AMap.getD
      s.pc.hist 0 []).length + 1)) ∧
    (∀ (s : State), s.obj U.ctl Obj.PC_CYCLES % bwLength s = 0 → s.pc.bwFrom + bwLength s ≤ s.obj U.ctl Obj.PC_CYCLES → counterUnitReset s = false →
      s.obj U.ctl Obj.PC_FREEZE = 1 → ∃ t, exec .bwWindowBoundary s = .next t ∧ t.pc.bw = [] ∧ t.pc.bwFrom = s.obj U.ctl Obj.PC_CYCLES ∧ t.pc.hist =
      s.pc.hist ∧ t.obj (U.ports) (Obj.BW_MISSED) = (s.obj (U.ports) (Obj.BW_MISSED) + 1) % objModulus (Obj.BW_MISSED)) ∧
    (∀ (req : KReq) (x : Session) (v : BitVec 32) (s : State), admitted s req x 0x1E20 (.write (.num v.toNat)) (U.ports) = true → ∃ t, exec
      (.bwWindowUs req v) s = .next t ∧ t.obj U.ports Obj.BW_WINDOW_US = v.toNat ∧ t.pc.hist = [] ∧ t.pc.bw = [] ∧ t.pc.bwFrom = (s.obj U.ctl
      Obj.PC_CYCLES / (400 * v.toNat) + 1) * (400 * v.toNat) ∧ Out.kdp x.id req.seq.toNat { status := .ok } ∈ t.out)

/-- States 17 R382: the refusals of PC_EVENT, PC_SCOPE and PC_SLICES while a counter is enabled, and of a write that would enable one whose scope or sampling does not fit its event. -/
def Obligations.CounterSetupIsChecked : Prop :=
  (∀ (req : KReq) (x : Session) (i : BitVec 16) (v : KVal) (s : State), (i = 0x1E01 ∨ i = 0x1E02 ∨ i = 0x1E07) → admitted s req x i.toNat (.write v)
    U.ctl = true → bitOf (pcReg s Obj.PC_CONFIG req.sub.toNat) 0 = true → ∃ t, exec (.write req i { value := v }) s = .next t ∧ t.objs = s.objs ∧ t.pc
    = s.pc ∧ Out.kdp x.id req.seq.toNat { status := .state } ∈ t.out) ∧
    (∀ (req : KReq) (x : Session) (v : BitVec 32) (s : State), admitted s req x 0x1E03 (.write (.num v.toNat)) U.ctl = true → bitOf v.toNat 0 = true →
      (pcScopeOk s (pcReg s Obj.PC_EVENT req.sub.toNat) (pcReg s Obj.PC_SCOPE req.sub.toNat) = false ∨ (bitOf v.toNat 3 = true ∧ pcSampled (pcReg s
      Obj.PC_EVENT req.sub.toNat) = false)) → (∃ t, exec (.pcConfig req v) s = .next t ∧ t.objs = s.objs ∧ t.pc = s.pc ∧ Out.kdp x.id req.seq.toNat { status := .range } ∈ t.out) ∧ ∃ t, exec (.write req 0x1E03 { value := .num v.toNat }) s = .next t ∧ t.objs
      = s.objs ∧ t.pc = s.pc ∧ Out.kdp x.id req.seq.toNat { status := .range } ∈ t.out)

/-- States 17 R384: what an overflow does, that an increment that does not carry past 2^48 − 1 is none, and that a counter loaded and reloaded with 2^48 − n under SAMPLE overflows once per n occurrences. -/
def Obligations.CounterOverflows : Prop :=
  (∀ (c : Fin 8) (k : Fin 65) (sl : Option (Fin 16)) (s : State), bitOf (pcReg s Obj.PC_CONFIG (c.val + 1)) 0 = true → s.obj U.ctl Obj.PC_FREEZE = 0 →
    counterUnitReset s = false → 2^48 ≤ pcReg s Obj.PC_COUNT (c.val + 1) + k.val → ∃ t, exec (.pcOverflow c k sl) s = .next t ∧ pcReg t Obj.PC_COUNT
    (c.val + 1) = (if bitOf (pcReg s Obj.PC_CONFIG (c.val + 1)) 3 = true then (pcReg s Obj.PC_RELOAD (c.val + 1) + (pcReg s Obj.PC_COUNT (c.val + 1) +
    k.val - 2^48)) % 2^48 else pcReg s Obj.PC_COUNT (c.val + 1) + k.val - 2^48) ∧ bitOf (pcReg t Obj.PC_CONFIG (c.val + 1)) 2 = true ∧ pcReg t
    Obj.PC_OVF_COUNT (c.val + 1) = (pcReg s Obj.PC_OVF_COUNT (c.val + 1) + 1) % objModulus (Obj.PC_OVF_COUNT + (c.val + 1))) ∧
    (∀ (c : Fin 8) (k : Nat) (sl : Option Nat) (s : State), pcReg s Obj.PC_COUNT (c.val + 1) + k < 2^48 → pcReg (pcAdd s (c.val + 1) k sl)
      Obj.PC_COUNT (c.val + 1) = pcReg s Obj.PC_COUNT (c.val + 1) + k ∧ pcReg (pcAdd s (c.val + 1) k sl) Obj.PC_CONFIG (c.val + 1) = pcReg s
      Obj.PC_CONFIG (c.val + 1) ∧ pcReg (pcAdd s (c.val + 1) k sl) Obj.PC_OVF_COUNT (c.val + 1) = pcReg s Obj.PC_OVF_COUNT (c.val + 1)) ∧
    (∀ (c : Fin 8) (n m j : Nat) (sl : Option Nat) (s : State), 0 < n → n ≤ 2^48 → j < n → pcReg s Obj.PC_COUNT (c.val + 1) = 2^48 - n → pcReg s
      Obj.PC_RELOAD (c.val + 1) = 2^48 - n → bitOf (pcReg s Obj.PC_CONFIG (c.val + 1)) 3 = true → pcReg s Obj.PC_OVF_COUNT (c.val + 1) < objModulus
      (Obj.PC_OVF_COUNT + (c.val + 1)) → pcReg (Nat.repeat (fun q => pcAdd q (c.val + 1) 1 sl) (m * n + j) s) Obj.PC_OVF_COUNT (c.val + 1) = (pcReg s
      Obj.PC_OVF_COUNT (c.val + 1) + m) % objModulus (Obj.PC_OVF_COUNT + (c.val + 1)) ∧ pcReg (Nat.repeat (fun q => pcAdd q (c.val + 1) 1 sl) (m * n +
      j) s) Obj.PC_COUNT (c.val + 1) = 2^48 - n + j)

/-- Loopbacks and self-tests: their start, refusal, end and abort. Rests on 18 R393, 18 R394, 18 R395, 18 R396, 18 R397. -/
def Obligations.LoopbacksAndSelftests : Prop :=
  (∀ (req : KReq) (x : Session) (u : Nat) (arg : BitVec 32) (s : State), startsRun s req x 0x1F01 arg.toNat u = true → arg ≠ 0 → AMap.has s.ts.loops u
    = false → loopAllowed s u = true → s.ts.loops.length < 4 → ∃ t, exec (.lbRun req arg) s = .next t ∧ (AMap.get? t.ts.loops u).map (fun l =>
    (l.depth, l.ms, l.at_)) = some (s.obj u Obj.LB_DEPTH, arg.toNat, s.hm.opsec) ∧ t.phase = s.phase ∧ Out.kdp x.id req.seq.toNat
    { status := .pending } ∈ t.out) ∧
    (∀ (req : KReq) (x : Session) (u : Nat) (arg : BitVec 32) (s : State), startsRun s req x 0x1F01 arg.toNat u = true → arg ≠ 0 → AMap.has s.ts.loops
      u = false → loopAllowed s u = false → ∃ t, exec (.lbRun req arg) s = .next t ∧ t.ts.loops = s.ts.loops ∧ t.objs = s.objs ∧ Out.kdp x.id
      req.seq.toNat { status := .state } ∈ t.out) ∧
    (∀ (req : KReq) (x : Session) (u : Nat) (s : State), admitted s req x 0x1F01 (.exec 0) u = true → runPending s u Obj.LB_RUN = true → AMap.wf
      s.ts.loops = true → AMap.has s.ts.loops u = true → ∃ t, exec (.lbRun req 0) s = .next t ∧ AMap.has t.ts.loops u = false ∧ t.phase = s.phase ∧
      Out.kdp x.id req.seq.toNat { status := .ok } ∈ t.out) ∧
    (∀ (u : BitVec 32) (n : Bool) (d : BitVec 32) (c e : BitVec 64) (f : BitVec 16) (l : Loopback) (s : State), AMap.wf s.ts.loops = true → AMap.get?
      s.ts.loops u.toNat = some l → ∃ t, exec (.lbRunEnd u n d c e f) s = .next t ∧ AMap.has t.ts.loops u.toNat = false ∧ t.blob u.toNat Obj.LB_RESULT
      = lbResult l.depth (if n = true then 2 else if e = 0 then 0 else 1) (if n = true then d.toNat else l.ms) c.toNat e.toNat (if e = 0 then 0xFFFF
      else f.toNat) l.at_ ∧ t.phase = s.phase) ∧
    (∀ (req : KReq) (x : Session) (arg : BitVec 32) (s : State), startsRun s req x 0x1F08 arg.toNat (U.ctl) = true → arg ≠ 0xFFFF → wayDisabled s
      (arg.toNat / 16) (arg.toNat % 16) = true → ∃ t, exec (.sramSelftest req arg) s = .next t ∧ t.ts.sramTest = some arg.toNat ∧ t.blob U.ctl
      Obj.SRAM_RESULT = testResult 3 0 0 0 ∧ t.hc.berth = s.hc.berth ∧ Out.kdp x.id req.seq.toNat { status := .pending } ∈ t.out) ∧
    (∀ (req : KReq) (x : Session) (arg : BitVec 32) (s : State), startsRun s req x 0x1F08 arg.toNat (U.ctl) = true → arg = 0xFFFF → s.cs.bootHeld =
      true → ∃ t, exec (.sramSelftest req arg) s = .next t ∧ t.ts.sramTest = some 0xFFFF ∧ t.hc.berth = [] ∧ t.hc.sectors = [] ∧ Out.kdp x.id
      req.seq.toNat { status := .pending } ∈ t.out) ∧
    (∀ (req : KReq) (x : Session) (arg : BitVec 32) (s : State), startsRun s req x 0x1F08 arg.toNat (U.ctl) = true → (if arg = 0xFFFF then
      s.cs.bootHeld else wayDisabled s (arg.toNat / 16) (arg.toNat % 16)) = false → ∃ t, exec (.sramSelftest req arg) s = .next t ∧ t.ts = s.ts ∧ t.hc
      = s.hc ∧ t.blobs = s.blobs ∧ Out.kdp x.id req.seq.toNat { status := .state } ∈ t.out) ∧
    (∀ (p : BitVec 32) (f : List (Fin 16 × BitVec 32)) (m : BitVec 32) (a : Nat) (s : State), s.ts.sramTest = some a → a ≠ 0xFFFF → ∃ t, exec
      (.sramSelftestDone p f m) s = .next t ∧ t.ts.sramTest = none ∧ t.hc.passed = (if f = [] then s.hc.passed.filter (· != a) ++ [a] else
      s.hc.passed.filter (· != a)) ∧ t.blob U.ctl Obj.SRAM_RESULT = testResult (if f = [] then 0 else 1) p.toNat f.length m.toNat ∧ t.hm.sram.remap =
      s.hm.sram.remap) ∧
    (∀ (req : KReq) (x : Session) (u : Nat) (arg : BitVec 32) (s : State), startsRun s req x 0x1F0A arg.toNat u = true → stackGone s (stackIdx u).1
      (stackIdx u).2 = false → ∃ t, exec (.stackSelftest req arg) s = .next t ∧ t.ts.stackTests = s.ts.stackTests ++ [u] ∧ t.blob u Obj.STACK_RESULT =
      testResult 3 0 0 0 ∧ t.media = s.media ∧ Out.kdp x.id req.seq.toNat { status := .pending } ∈ t.out) ∧
    (∀ (g : Fin 2) (k : Fin 16) (f : BitVec 32) (s : State), s.ts.stackTests.contains (U.stack (g.val + 1) (k.val + 1)) = true → ∃ t, exec
      (.stackSelftestDone g k f) s = .next t ∧ t.ts.stackTests = s.ts.stackTests.filter (· != U.stack (g.val + 1) (k.val + 1)) ∧ t.media = s.media ∧
      t.phase = s.phase) ∧
    (∀ (req : KReq) (x : Session) (u : Nat) (arg : BitVec 32) (s : State), startsRun s req x 0x1F0C arg.toNat u = true → s.cs.bootHeld = true → ∃ t,
      exec (.hbmSelftest req arg) s = .next t ∧ t.ts.hbmTests = s.ts.hbmTests ++ [u] ∧ t.blob u Obj.HBM_RESULT = testResult 3 0 0 0 ∧ Out.kdp x.id
      req.seq.toNat { status := .pending } ∈ t.out) ∧
    (∀ (req : KReq) (x : Session) (u : Nat) (arg : BitVec 32) (s : State), startsRun s req x 0x1F0C arg.toNat u = true → s.cs.bootHeld = false → ∃ t,
      exec (.hbmSelftest req arg) s = .next t ∧ t.ts = s.ts ∧ t.blobs = s.blobs ∧ Out.kdp x.id req.seq.toNat { status := .state } ∈ t.out) ∧
    (∀ (k : Fin 8) (p m : BitVec 32) (s : State), s.ts.hbmTests.contains (U.hbmStack (k.val + 1)) = true → ∃ t, exec (.hbmSelftestDone k p [] m) s =
      .next t ∧ t.ts.hbmTests = s.ts.hbmTests.filter (· != U.hbmStack (k.val + 1)) ∧ t.blob (U.hbmStack (k.val + 1)) Obj.HBM_RESULT = testResult 0
      p.toNat 0 m.toNat ∧ t.hm.sram.remap = s.hm.sram.remap)

/-- The service header, the TAP, the hold at the end of BOOTING, and the installation and activation of firmware. Rests on 10 R247, 14 R321, 18 R398, 18 R399, 18 R400, 18 R401, 18 R402, 18 R403. -/
def Obligations.ServiceAndFirmware : Prop :=
  (∀ (req : KReq) (x : Session) (arg : BitVec 32) (s : State), startsRun s req x 0x1F14 arg.toNat (U.root) = true → moduleState s ≠ 6 → ∃ t, exec
    (.jtagUnlock req arg) s = .next t ∧ t.ts.unlocker = (if arg = 0 then none else some x.id) ∧ t.phase = s.phase ∧ Out.kdp x.id req.seq.toNat
    { status := .ok } ∈ t.out) ∧
    (∀ (s : State), exec .jtagUnlockExpiry s = .next { s with ts := { s.ts with unlocker := none } }) ∧
    (∀ (s : State),  ∃ t, exec (.jtagInstruction .idcode) s = .next t ∧ Out.jtag 1 0x1D4B2473 ∈ t.out ∧ t.pins.tapIr = 1 ∧ t.objs
      = s.objs) ∧
    (∀ (i : TapIr) (s : State),  (i = .bypass ∨ i = .other) → ∃ t, exec (.jtagInstruction i) s = .next t ∧ Out.jtag 0 0 ∈ t.out ∧
      t.pins.tapIr = 0 ∧ t.objs = s.objs) ∧
    (∀ (st : TapStore) (a : BitVec 64) (z : BitVec 32) (s : State),  s.ts.unlocker = none → ∃ t, exec (.jtagInstruction (.debug
      st a z)) s = .next t ∧ Out.jtag 0 0 ∈ t.out ∧ t.pins.tapIr = 0 ∧ t.objs = s.objs) ∧
    (∀ (d : BitVec 4) (s : State),  ∃ t, exec (.jtagInstruction (.extest d)) s = .next t ∧ (if s.phase = .cold ∨ s.phase =
      .latchedOff then t.pins.tapDrive = d.toNat ∧ t.pins.tapIr = 3 else t.pins.tapDrive = s.pins.tapDrive ∧ t.pins.tapIr = 2) ∧ t.objs = s.objs) ∧
    (∀ (s : State),  ∃ t, exec (.jtagInstruction .sample) s = .next t ∧ (∃ k, k < 16 ∧ Out.jtag 2 (tapCells s k) ∈ t.out) ∧ t.pins.tapIr = 2 ∧
      t.objs = s.objs) ∧
    (∀ (st : TapStore) (a : BitVec 64) (z : BitVec 32) (k : Nat) (s : State),  s.ts.unlocker = some k → tapDenied s st a.toNat
      z.toNat = true → ∃ t, exec (.jtagInstruction (.debug st a z)) s = .next t ∧ t.pins.tapIr = 4 ∧ t.blob U.root Obj.PROT_LAST_DENIED = leBytes 1 1
      ++ leBytes 7 0 ++ leBytes 8 a.toNat ∧ t.obj (U.root) (Obj.PROT_DENIED) = (s.obj (U.root) (Obj.PROT_DENIED) + 1) % objModulus (Obj.PROT_DENIED))
      ∧
    (∀ (req : KReq) (x : Session) (arg : BitVec 32) (s : State), startsRun s req x 0x1F12 arg.toNat (U.root) = true → s.phase = .booting →
      s.cs.bootHeld = true → ∃ t, exec (.bootRelease req arg) s = .next t ∧ t.phase = .loading ∧ t.cs.bootHeld = false ∧ Out.kdp x.id req.seq.toNat
      { status := .ok } ∈ t.out) ∧
    (∀ (req : KReq) (x : Session) (arg : BitVec 32) (s : State), startsRun s req x 0x1F12 arg.toNat (U.root) = true → s.phase ≠ .booting → ∃ t, exec
      (.bootRelease req arg) s = .next t ∧ t.phase = s.phase ∧ t.cs = s.cs ∧ Out.kdp x.id req.seq.toNat { status := .ok } ∈ t.out) ∧
    (∀ (s : State), s.phase = .booting → s.cs.bootHeld = true → ∃ t, exec .bootHoldMaxExpiry s = .next t ∧ t.phase = .loading ∧ t.cs.bootHeld = false)
      ∧
    (∀ (req : KReq) (x : Session) (arg : BitVec 32) (v : Bool) (s : State), startsRun s req x 0x1F21 arg.toNat (U.root) = true → s.ts.nextStart = false → s.ts.activating = 0 → ∃ t, exec (.fwInstall req arg v) s = .next t ∧ (if imageValid s s.ts.staged = false then t.ts = s.ts ∧ Out.kdp x.id req.seq.toNat
      { status := .integrity } ∈ t.out else if v = false then (slotOther t).valid = false ∧ slotNow t = slotNow s ∧ Out.kdp x.id req.seq.toNat
      { status := .integrity } ∈ t.out else slotOther t =
      { valid := true, svn := leNat ((s.ts.staged.drop 6).take 2), version := leNat ((s.ts.staged.drop 8).take 4), at_ := s.hm.opsec } ∧ slotNow t =
      slotNow s ∧ Out.kdp x.id req.seq.toNat { status := .ok } ∈ t.out)) ∧
    (∀ (req : KReq) (x : Session) (s : State), startsRun s req x 0x1F22 1 U.root = true → s.phase = .running → s.robj Obj.ENTRY_STATE = 0 →
      s.ag.applying = none → s.ts.activating = 0 → ((List.range 6).any fun b => blockInReset s (b + 1)) = false → (slotOther s).valid = true → ∃ t,
      exec (.fwActivateLive req) s = .next t ∧ t.ts.activating = 1 ∧ t.ts.image = s.ts.image ∧ t.objs = s.objs ∧ Out.kdp x.id req.seq.toNat
      { status := .pending } ∈ t.out) ∧
    (∀ (req : KReq) (x : Session) (s : State), startsRun s req x 0x1F22 2 U.root = true → ∃ t, exec (.fwActivateNextStart req) s = .next t ∧
      t.ts.nextStart = true ∧ t.ts.image = s.ts.image ∧ Out.kdp x.id req.seq.toNat { status := .ok } ∈ t.out) ∧
    (∀ (s : State), s.ts.activating ≠ 0 → (slotOther s).valid = false → ∃ t, exec .fwActivated s = .next t ∧ t.ts.image = s.ts.image ∧ t.ts.activating = 0 ∧ t.ts.paused = [] ∧ slotNow t = slotNow s) ∧
    (∀ (s : State), s.ts.activating ≠ 0 → (slotOther s).valid = true → ∃ t, exec .fwActivated s = .next t ∧ t.ts.image = 1 - s.ts.image ∧ t.ts.nextStart = false ∧ t.ts.activating
      = 0 ∧ t.ts.paused = [] ∧ t.robj Obj.FW_LAST_PAUSE = (if s.ts.activating = 1 then 0 else usBetween s.ts.pauseAt s.now) ∧ t.obj (U.root)
      (Obj.FW_ACTIVATIONS) = (s.obj (U.root) (Obj.FW_ACTIVATIONS) + 1) % objModulus (Obj.FW_ACTIVATIONS)) ∧
    (∀ (k : BitVec 8) (s : State), s.ts.activating ≠ 0 → ∃ t, exec (.fwActivationFailed k) s = .next t ∧ t.ts.image = s.ts.image ∧ t.ts.activating = 0
      ∧ t.ts.paused = [] ∧ t.robj Obj.FW_ACTIVATIONS = s.robj Obj.FW_ACTIVATIONS)

/-- KDP requests on ports, regions and the dirty cap. Rests on 02 R28, 02 R53, 03 R58, 06 R151, 06 R152, 10 R238, 12 R298. -/
def Obligations.PortAndRegionRequests : Prop :=
  (∀ (req : KReq) (x : Session) (p : Fin 16) (s : State), admitted s req x 0x1000 (.write (.num 1)) ((U.port (p.val + 1))) = true → preg s (p.val + 1)
    Obj.PORT_ENABLE_STATE = 0 → ∃ t, exec (.portEnable req 1) s = .next t ∧ t.obj (U.port (p.val + 1)) Obj.PORT_ENABLE = 1 ∧ t.obj (U.port (p.val +
    1)) Obj.PORT_ENABLE_STATE = (if (getPort s (p.val + 1)).offDone = true then 1 else 3) ∧ Out.kdp x.id req.seq.toNat { status := .ok } ∈ t.out) ∧
    (∀ (req : KReq) (x : Session) (p : Fin 16) (s : State), admitted s req x 0x1000 (.write (.num 0)) ((U.port (p.val + 1))) = true → preg s (p.val +
      1) Obj.PORT_ENABLE_STATE = 1 → ∃ t, exec (.portEnable req 0) s = .next t ∧ t.obj (U.port (p.val + 1)) Obj.PORT_ENABLE = 0 ∧ t.obj (U.port (p.val
      + 1)) Obj.PORT_ENABLE_STATE = 2 ∧ t.hp = s.hp ∧ Out.kdp x.id req.seq.toNat { status := .ok } ∈ t.out) ∧
    (∀ (req : KReq) (x : Session) (p : Fin 16) (v : BitVec 8) (s : State), admitted s req x 0x1001 (.write (.num v.toNat)) ((U.port (p.val + 1))) =
      true → portHasDecoder s (p.val + 1) = false → portHasDecoder s (p.val + 2) = false → ∃ t, exec (.portBifurcate req v) s = .next t ∧ t.obj
      (U.port (p.val + 1)) Obj.PORT_BIFURCATE = v.toNat ∧ t.obj (U.port (p.val + 1)) Obj.BIFURCATE_NOW = s.obj (U.port (p.val + 1)) Obj.BIFURCATE_NOW
      ∧ t.hp = s.hp ∧ Out.kdp x.id req.seq.toNat { status := .ok } ∈ t.out) ∧
    (∀ (req : KReq) (x : Session) (p : Fin 16) (v : BitVec 8) (s : State), admitted s req x 0x1001 (.write (.num v.toNat)) ((U.port (p.val + 1))) =
      true → v.toNat ≠ s.obj (U.port (p.val + 1)) Obj.PORT_BIFURCATE → (portHasDecoder s (p.val + 1) = true ∨ portHasDecoder s (p.val + 2) = true) → ∃
      t, exec (.portBifurcate req v) s = .next t ∧ t.objs = s.objs ∧ t.hp = s.hp ∧ Out.kdp x.id req.seq.toNat { status := .state } ∈ t.out) ∧
    (∀ (req : KReq) (x : Session) (arg : BitVec 32) (k : Nat) (e : Status) (s : State), startsRun s req x 0x1106 arg.toNat (U.root) = true →
      applyCheck s req.sub.toNat (stagedRegion s req.sub.toNat) = (k, e) → k ≠ 0 → ∃ t, exec (.regionApply req arg) s = .next t ∧ t.mc = s.mc ∧ t.dp =
      s.dp ∧ Out.kdp x.id req.seq.toNat { status := e } ∈ t.out) ∧
    (∀ (req : KReq) (x : Session) (arg : BitVec 32) (e : Status) (s : State), startsRun s req x 0x1106 arg.toNat (U.root) = true → applyCheck s
      req.sub.toNat (stagedRegion s req.sub.toNat) = (0, e) → regionMoves (getRegion s req.sub.toNat) (stagedRegion s req.sub.toNat) = true →
      regionPages s req.sub.toNat ≠ [] → ∃ t, exec (.regionApply req arg) s = .next t ∧ t.mc =
      { s.mc with applying := s.mc.applying ++ [⟨req.sub.toNat, (stagedRegion s req.sub.toNat)⟩] } ∧ Out.kdp x.id req.seq.toNat { status := .pending }
      ∈ t.out) ∧
    (∀ (req : KReq) (x : Session) (arg : BitVec 32) (e : Status) (s : State), startsRun s req x 0x1106 arg.toNat (U.root) = true → applyCheck s
      req.sub.toNat (stagedRegion s req.sub.toNat) = (0, e) → (regionMoves (getRegion s req.sub.toNat) (stagedRegion s req.sub.toNat) = false ∨
      regionPages s req.sub.toNat = []) → (stagedRegion s req.sub.toNat).mode ≠ 0 → ∃ t, exec (.regionApply req arg) s = .next t ∧ AMap.get?
      t.mc.regions req.sub.toNat = some (stagedRegion s req.sub.toNat) ∧ t.mc.applying = s.mc.applying ∧ t.robj (Obj.KEY_STATE + req.sub.toNat) = (if
      s.robj (Obj.KEY_STATE + req.sub.toNat) = 0 then 1 else s.robj (Obj.KEY_STATE + req.sub.toNat)) ∧ Out.kdp x.id req.seq.toNat { status := .ok } ∈
      t.out) ∧
    (∀ (req : KReq) (x : Session) (v : BitVec 64) (s : State), admitted s req x 0x1401 (.write (.num v.toNat)) (U.root) = true → ∃ t, exec
      (.dirtyCapLimit req v) s = .next t ∧ t.robj Obj.DIRTY_CAP_LIMIT = v.toNat ∧ (if s.pw.measured = true then t.robj Obj.DIRTY_CAP ≤ v.toNat else
      t.robj Obj.DIRTY_CAP = s.robj Obj.DIRTY_CAP) ∧ Out.kdp x.id req.seq.toNat { status := .ok } ∈ t.out)

/-- KDP requests of the home cache, the berths and the mirror. Rests on 05 R118, 05 R120, 05 R121, 05 R122, 05 R124, 05 R125, 05 R127, 05 R133, 05 R140, 05 R141, 12 R287. -/
def Obligations.CacheAndBerthRequests : Prop :=
  (∀ (req : KReq) (x : Session) (v : BitVec 8) (s : State), admitted s req x 0x1300 (.write (.num v.toNat)) (U.root) = true → (v.toNat ≠ 1 ∨ s.robj
    Obj.HC_STALE_RISK ≠ 1) → ∃ t, exec (.hcEnable req v) s = .next t ∧ t.robj Obj.HC_ENABLE = v.toNat ∧ t.hc = s.hc ∧ Out.kdp x.id req.seq.toNat
    { status := .ok } ∈ t.out) ∧
    (∀ (req : KReq) (x : Session) (s : State), admitted s req x 0x1300 (.write (.num 1)) (U.root) = true → s.robj Obj.HC_STALE_RISK = 1 → ∃ t, exec
      (.hcEnable req 1) s = .next t ∧ t.objs = s.objs ∧ t.hc = s.hc ∧ Out.kdp x.id req.seq.toNat { status := .state } ∈ t.out) ∧
    (∀ (req : KReq) (x : Session) (arg : BitVec 32) (s : State), startsRun s req x 0x1301 arg.toNat (U.root) = true → ∃ t, exec (.hcInvalidate req
      arg) s = .next t ∧ t.hc = { s.hc with invalidating := true } ∧ t.objs = s.objs ∧ (AMap.get? t.kdp.runs (objKey (U.root)
      (Obj.HC_INVALIDATE))).map (fun r => (r.sid, r.status)) = some (x.id, .pending) ∧ Out.kdp x.id req.seq.toNat { status := .pending } ∈ t.out) ∧
    (∀ (req : KReq) (x : Session) (arg : BitVec 32) (s : State), startsRun s req x 0x1302 arg.toNat (U.root) = true → ∃ t, exec (.hcEnableForce req
      arg) s = .next t ∧ t.robj Obj.HC_ENABLE = 1 ∧ t.hc = s.hc ∧ Out.kdp x.id req.seq.toNat { status := .ok } ∈ t.out) ∧
    (∀ (req : KReq) (x : Session) (arg : BitVec 32) (s : State), startsRun s req x 0x1305 arg.toNat (U.root) = true → wayDisabled s (arg.toNat / 16)
      (arg.toNat % 16) = true → s.hc.passed.contains arg.toNat = true → ∃ t, exec (.hcWayReenable req arg) s = .next t ∧ wayDisabled t (arg.toNat /
      16) (arg.toNat % 16) = false ∧ t.hc.passed = s.hc.passed.filter (· != arg.toNat) ∧ Out.kdp x.id req.seq.toNat { status := .ok } ∈ t.out) ∧
    (∀ (req : KReq) (x : Session) (arg : BitVec 32) (s : State), startsRun s req x 0x1305 arg.toNat (U.root) = true → (wayDisabled s (arg.toNat / 16)
      (arg.toNat % 16) = false ∨ s.hc.passed.contains arg.toNat = false) → ∃ t, exec (.hcWayReenable req arg) s = .next t ∧ t.objs = s.objs ∧ t.hc =
      s.hc ∧ Out.kdp x.id req.seq.toNat { status := .state } ∈ t.out) ∧
    (∀ (req : KReq) (x : Session) (v : BitVec 8) (s : State), admitted s req x 0x1310 (.write (.num v.toNat)) (U.root) = true → s.hc.growing = none →
      s.robj Obj.BERTH_WAYS_NOW < v.toNat → ((List.range 16).any fun k => decide ((cachingWays s k).length < v.toNat - s.robj Obj.BERTH_WAYS_NOW)) =
      false → ∃ t, exec (.berthWays req v) s = .next t ∧ t.hc.growing = some v.toNat ∧ t.robj Obj.BERTH_WAYS = v.toNat ∧ t.robj Obj.BERTH_WAYS_NOW =
      s.robj Obj.BERTH_WAYS_NOW ∧ t.hc.berth = s.hc.berth ∧ Out.kdp x.id req.seq.toNat { status := .ok } ∈ t.out) ∧
    (∀ (req : KReq) (x : Session) (v : BitVec 8) (s : State), admitted s req x 0x1310 (.write (.num v.toNat)) (U.root) = true → s.hc.growing = none →
      v.toNat < s.robj Obj.BERTH_WAYS_NOW → (s.hc.ranges.any fun p => p.2.mode != 0 && decide (berthWayBytes * v.toNat < p.2.base + p.2.size)) = false
      → ∃ t, exec (.berthWays req v) s = .next t ∧ t.robj Obj.BERTH_WAYS = v.toNat ∧ t.robj Obj.BERTH_WAYS_NOW = v.toNat ∧ t.robj Obj.BERTH_INTACT = 0
      ∧ (∀ l, berthLine t l = if berthOff l < berthWayBytes * v.toNat then berthLine s l else {}) ∧ Out.kdp x.id req.seq.toNat { status := .ok } ∈
      t.out) ∧
    (∀ (req : KReq) (x : Session) (v : BitVec 8) (s : State), admitted s req x 0x1310 (.write (.num v.toNat)) (U.root) = true → s.hc.growing ≠ none →
      ∃ t, exec (.berthWays req v) s = .next t ∧ t.hc = s.hc ∧ t.objs = s.objs ∧ Out.kdp x.id req.seq.toNat { status := .state } ∈ t.out) ∧
    (∀ (req : KReq) (x : Session) (arg : BitVec 32) (d : BerthRange) (s : State), d =
      { base := s.robj (Obj.BERTH_RANGE_BASE + req.sub.toNat), size := s.robj (Obj.BERTH_RANGE_SIZE + req.sub.toNat), mode := s.robj (Obj.BERTH_RANGE_MODE + req.sub.toNat), early := s.robj (Obj.BERTH_RANGE_EARLY_CMP + req.sub.toNat), ports := s.robj (Obj.BERTH_RANGE_PORTS + req.sub.toNat) }
      → startsRun s req x 0x1317 arg.toNat (U.root) = true → d.base % 2^20 = 0 → d.size % 2^20 = 0 → d.base + d.size ≤ berthSize s → ((s.hc.ranges.any
      fun q => q.1 != req.sub.toNat && q.2.mode != 0 && decide (d.base < q.2.base + q.2.size ∧ q.2.base < d.base + d.size)) = false) → s.robj
      Obj.MIRROR_ENABLE ≠ 1 → d.mode ≠ 0 → ∃ t, exec (.berthRangeApply req arg) s = .next t ∧ AMap.get? t.hc.ranges req.sub.toNat = some d ∧ (∀ i, i ≠
      req.sub.toNat → AMap.get? t.hc.ranges i = AMap.get? s.hc.ranges i) ∧ t.hc.berth = s.hc.berth ∧ Out.kdp x.id req.seq.toNat { status := .ok } ∈
      t.out) ∧
    (∀ (req : KReq) (x : Session) (arg : BitVec 32) (d : BerthRange) (s : State), d =
      { base := s.robj (Obj.BERTH_RANGE_BASE + req.sub.toNat), size := s.robj (Obj.BERTH_RANGE_SIZE + req.sub.toNat), mode := s.robj (Obj.BERTH_RANGE_MODE + req.sub.toNat), early := s.robj (Obj.BERTH_RANGE_EARLY_CMP + req.sub.toNat), ports := s.robj (Obj.BERTH_RANGE_PORTS + req.sub.toNat) }
      → startsRun s req x 0x1317 arg.toNat (U.root) = true → berthSize s < d.base + d.size → ∃ t, exec (.berthRangeApply req arg) s = .next t ∧ t.hc =
      s.hc ∧ Out.kdp x.id req.seq.toNat { status := .range } ∈ t.out) ∧
    (∀ (req : KReq) (x : Session) (arg : BitVec 32) (s : State), startsRun s req x 0x1318 arg.toNat (U.root) = true → (mirState s = 0 ∨ mirState s =
      4) → ∃ t, exec (.berthPromote req arg) s = .next t ∧ t.hc.ranges = s.hc.ranges.map (fun q => (q.1, if q.2.mode = 4 then { q.2 with mode := 1 }
      else q.2)) ∧ t.obj (U.root) (Obj.PAIR_GENERATION) = (s.obj (U.root) (Obj.PAIR_GENERATION) + 1) % objModulus (Obj.PAIR_GENERATION) ∧ t.hc.berth =
      s.hc.berth ∧ Out.kdp x.id req.seq.toNat { status := .ok } ∈ t.out) ∧
    (∀ (req : KReq) (x : Session) (arg : BitVec 32) (s : State), startsRun s req x 0x1318 arg.toNat (U.root) = true → mirState s ≠ 0 → mirState s ≠ 4
      → ∃ t, exec (.berthPromote req arg) s = .next t ∧ t.hc = s.hc ∧ t.objs = s.objs ∧ Out.kdp x.id req.seq.toNat { status := .state } ∈ t.out) ∧
    (∀ (req : KReq) (x : Session) (s : State), admitted s req x 0x1320 (.write (.num 1)) (U.root) = true → blockInReset s 5 = false → mirState s = 0 →
      ∃ t, exec (.mirrorEnable req 1) s = .next t ∧ t.robj Obj.MIRROR_ENABLE = 1 ∧ mirState t = (if s.hc.mirror.offDone = true then (if mirrorHasRange
      s = true then 1 else 0) else 7) ∧ t.hc.berth = s.hc.berth ∧ Out.kdp x.id req.seq.toNat { status := .ok } ∈ t.out) ∧
    (∀ (req : KReq) (x : Session) (s : State), admitted s req x 0x1320 (.write (.num 1)) (U.root) = true → blockInReset s 5 = true → ∃ t, exec
      (.mirrorEnable req 1) s = .next t ∧ t.objs = s.objs ∧ t.hc = s.hc ∧ Out.kdp x.id req.seq.toNat { status := .state } ∈ t.out) ∧
    (∀ (req : KReq) (x : Session) (s : State), admitted s req x 0x1320 (.write (.num 0)) (U.root) = true → mirState s = 7 → ∃ t, exec (.mirrorEnable
      req 0) s = .next t ∧ t.robj Obj.MIRROR_ENABLE = 0 ∧ mirState t = (if s.hc.mirror.offDone = true then 6 else 0) ∧ t.hc = s.hc ∧ Out.kdp x.id
      req.seq.toNat { status := .ok } ∈ t.out) ∧
    (∀ (req : KReq) (x : Session) (arg : BitVec 32) (s : State), startsRun s req x 0x1328 arg.toNat (U.root) = true → mirState s = 5 → ∃ t, exec
      (.mirrorAcceptPeer req arg) s = .next t ∧ t.hc.ranges = s.hc.ranges.map (fun q => if (q.2.mode = 2 ∨ q.2.mode = 3) ∧ (s.hc.mirror.peerRanges.any
      fun y => (y.2.2 == 2 || y.2.2 == 3) && y.1 == q.2.base && y.2.1 == q.2.size) = true then (q.1, { q.2 with mode := 4 }) else q) ∧ t.robj
      Obj.PAIR_GENERATION = s.hc.mirror.peerGen ∧ t.hc.berth = s.hc.berth ∧ Out.kdp x.id req.seq.toNat { status := .ok } ∈ t.out) ∧
    (∀ (req : KReq) (x : Session) (arg : BitVec 32) (s : State), startsRun s req x 0x1328 arg.toNat (U.root) = true → mirState s ≠ 5 → ∃ t, exec
      (.mirrorAcceptPeer req arg) s = .next t ∧ t.hc = s.hc ∧ t.objs = s.objs ∧ Out.kdp x.id req.seq.toNat { status := .state } ∈ t.out)

/-- Scrubs, keys, protected ranges and the end of an integrity halt. Rests on 10 R238, 10 R239, 10 R240, 10 R243, 10 R244, 10 R246, 10 R247. -/
def Obligations.ProtectionRequests : Prop :=
  (∀ (req : KReq) (x : Session) (arg : BitVec 32) (s : State), startsRun s req x 0x180B arg.toNat (U.root) = true → s.dp.scrub = none → blockInReset s
    4 = false → scrubRangeOk s (s.robj Obj.SCRUB_TARGET) (s.robj Obj.SCRUB_BASE) (s.robj Obj.SCRUB_SIZE) = true → ∃ t, exec (.scrubStart req arg) s =
    .next t ∧ t.dp.scrub = some
    { target := s.robj Obj.SCRUB_TARGET, base := s.robj Obj.SCRUB_BASE, size := s.robj Obj.SCRUB_SIZE, started := s.hm.opsec, startedNow := s.now } ∧
    t.robj Obj.SCRUB_STATE = 1 ∧ Out.kdp x.id req.seq.toNat { status := .ok } ∈ t.out) ∧
    (∀ (req : KReq) (x : Session) (arg : BitVec 32) (s : State), startsRun s req x 0x180B arg.toNat (U.root) = true → (s.dp.scrub ≠ none ∨
      blockInReset s 4 = true) → ∃ t, exec (.scrubStart req arg) s = .next t ∧ t.dp = s.dp ∧ t.objs = s.objs ∧ Out.kdp x.id req.seq.toNat
      { status := .busy } ∈ t.out) ∧
    (∀ (req : KReq) (x : Session) (arg : BitVec 32) (s : State), startsRun s req x 0x180B arg.toNat (U.root) = true → s.dp.scrub = none → blockInReset
      s 4 = false → scrubRangeOk s (s.robj Obj.SCRUB_TARGET) (s.robj Obj.SCRUB_BASE) (s.robj Obj.SCRUB_SIZE) = false → ∃ t, exec (.scrubStart req arg)
      s = .next t ∧ t.dp = s.dp ∧ t.objs = s.objs ∧ Out.kdp x.id req.seq.toNat { status := .range } ∈ t.out) ∧
    (∀ (req : KReq) (x : Session) (arg : BitVec 32) (f : ScrubFound) (y : Scrub) (s : State), startsRun s req x 0x180C arg.toNat (U.root) = true →
      s.dp.scrub = some y → f.errs = [] → ∃ t, exec (.scrubAbort req arg f) s = .next t ∧ t.dp.scrub = none ∧ t.robj Obj.SCRUB_STATE = 3 ∧ t.blob
      U.root Obj.SCRUB_SUMMARY = scrubSummary y 3 (usBetween y.startedNow s.now / 1000) f.unitsRead 0 0 f.poisoned (2^64 - 1) ∧ Out.kdp x.id
      req.seq.toNat { status := .ok } ∈ t.out) ∧
    (∀ (f : ScrubFound) (y : Scrub) (s : State), s.dp.scrub = some y → y.target = 2 → f.errs = [] → ∃ t, exec (.scrubDone f none) s = .next t ∧
      t.dp.scrub = none ∧ t.robj Obj.SCRUB_STATE = 2 ∧ t.blob U.root Obj.SCRUB_SUMMARY = scrubSummary y 2 (usBetween y.startedNow s.now / 1000)
      f.unitsRead 0 0 f.poisoned (2^64 - 1) ∧ t.media.store = s.media.store ∧ t.phase = s.phase) ∧
    (∀ (f : ScrubFound) (y : Scrub) (pn ppn : Nat) (c : Fin 8) (s : State), s.dp.scrub = some y → y.target = 3 → f.errs = [] → mapGet s pn = some ppn
      → s.phase = .running → s.hm.latchHalted = false → ∃ t, exec (.scrubDone f (some (pn, c))) s = .next t ∧ t.phase = .halted ∧ t.hm.latchHalted =
      true ∧ t.dp.integrity.cause = 5 ∧ t.dp.integrity.pn = pn ∧ t.dp.integrity.ppn = ppn ∧ t.dp.integrity.sector = c.val) ∧
    (∀ (req : KReq) (x : Session) (k : BitVec 256) (s : State), admitted s req x 0x1810 (.write (.bytes (beBytes 32 k.toNat))) (U.root) = true → ∃ t,
      exec (.custodianKey req k) s = .next t ∧ { t.dp with keyLog := s.dp.keyLog } = { s.dp with custodian := some k } ∧ t.robj Obj.CUSTODIAN_CHECK = (Config.sha256 (beBytes 32
      k.toNat)).toNat / 2^224 ∧ Out.kdp x.id req.seq.toNat { status := .ok } ∈ t.out) ∧
    (∀ (req : KReq) (x : Session) (arg : BitVec 32) (s : State), startsRun s req x 0x1813 arg.toNat (U.root) = true → s.robj (Obj.KEY_STATE +
      req.sub.toNat) = 1 → ∃ t, exec (.keyRotate req arg) s = .next t ∧ t.robj (Obj.KEY_STATE + req.sub.toNat) = 2 ∧ t.robj (Obj.KEY_START_SEQ +
      req.sub.toNat) = s.dp.wseq ∧ (AMap.getD t.dp.doms req.sub.toNat {}).prev = (AMap.getD s.dp.doms req.sub.toNat {}).cur ∧ (AMap.getD t.dp.doms
      req.sub.toNat {}).cur = some s.dp.nextKey ∧ t.media.store = s.media.store ∧ Out.kdp x.id req.seq.toNat { status := .ok } ∈ t.out) ∧
    (∀ (req : KReq) (x : Session) (arg : BitVec 32) (s : State), startsRun s req x 0x1813 arg.toNat (U.root) = true → (s.robj (Obj.KEY_STATE +
      req.sub.toNat) = 0 ∨ s.robj (Obj.KEY_STATE + req.sub.toNat) = 2) → ∃ t, exec (.keyRotate req arg) s = .next t ∧ t.dp.doms = s.dp.doms ∧
      t.dp.keys = s.dp.keys ∧ Out.kdp x.id req.seq.toNat { status := if s.robj (Obj.KEY_STATE + req.sub.toNat) = 2 then .busy else .state } ∈ t.out) ∧
    (∀ (d : Fin 64) (n : Nat) (s : State), AMap.wf s.dp.keys = true → rekeyFinished s (d.val + 1) = true → (AMap.getD s.dp.doms (d.val + 1) {}).prev =
      some n → ∃ t, exec (.rekeyDone d) s = .next t ∧ t.robj (Obj.KEY_STATE + (d.val + 1)) = 1 ∧ (AMap.getD t.dp.doms (d.val + 1) {}).prev = none ∧
      (AMap.getD t.dp.doms (d.val + 1) {}).cur = (AMap.getD s.dp.doms (d.val + 1) {}).cur ∧ AMap.get? t.dp.keys n = none ∧ t.media = s.media) ∧
    (∀ (d : Fin 64) (s : State), rekeyFinished s (d.val + 1) = false → exec (.rekeyDone d) s = .next s) ∧
    (∀ (req : KReq) (x : Session) (arg : BitVec 32) (n : Nat) (s : State), startsRun s req x 0x1814 arg.toNat (U.root) = true → AMap.wf s.dp.keys =
      true → regionDecoders s req.sub.toNat = 0 → s.robj (Obj.KEY_STATE + req.sub.toNat) ≠ 0 → (getRegion s req.sub.toNat).mode = 0 → (AMap.getD
      s.dp.doms req.sub.toNat {}).cur = some n → ∃ t, exec (.keyDestroy req arg) s = .next t ∧ t.robj (Obj.KEY_STATE + req.sub.toNat) = 0 ∧ t.robj
      (Obj.KEY_ERASE_SEQ + req.sub.toNat) = s.dp.wseq ∧ AMap.get? t.dp.keys n = none ∧ t.media.store = s.media.store ∧ Out.kdp x.id req.seq.toNat
      { status := .ok } ∈ t.out) ∧
    (∀ (req : KReq) (x : Session) (arg : BitVec 32) (s : State), startsRun s req x 0x1814 arg.toNat (U.root) = true → (regionDecoders s req.sub.toNat
      ≠ 0 ∨ s.robj (Obj.KEY_STATE + req.sub.toNat) = 0) → ∃ t, exec (.keyDestroy req arg) s = .next t ∧ t.dp = s.dp ∧ t.objs = s.objs ∧ Out.kdp x.id
      req.seq.toNat { status := .state } ∈ t.out) ∧
    (∀ (req : KReq) (x : Session) (arg : BitVec 32) (s : State), startsRun s req x 0x1842 arg.toNat (U.root) = true → s.robj (Obj.PROT_SIZE +
      req.sub.toNat) ≠ 0 → s.robj (Obj.PROT_BASE + req.sub.toNat) % 4096 = 0 → s.robj (Obj.PROT_SIZE + req.sub.toNat) % 4096 = 0 → s.robj
      (Obj.PROT_BASE + req.sub.toNat) + s.robj (Obj.PROT_SIZE + req.sub.toNat) ≤ capacityBytes s → ∃ t, exec (.protApply req arg) s = .next t ∧
      AMap.get? t.dp.protApplied req.sub.toNat = some (s.robj (Obj.PROT_BASE + req.sub.toNat), s.robj (Obj.PROT_SIZE + req.sub.toNat)) ∧ (∀ i, i ≠
      req.sub.toNat → AMap.get? t.dp.protApplied i = AMap.get? s.dp.protApplied i) ∧ Out.kdp x.id req.seq.toNat { status := .ok } ∈ t.out) ∧
    (∀ (req : KReq) (x : Session) (arg : BitVec 32) (s : State), startsRun s req x 0x1842 arg.toNat (U.root) = true → s.robj (Obj.PROT_SIZE +
      req.sub.toNat) ≠ 0 → (s.robj (Obj.PROT_BASE + req.sub.toNat) % 4096 ≠ 0 ∨ s.robj (Obj.PROT_SIZE + req.sub.toNat) % 4096 ≠ 0) → ∃ t, exec
      (.protApply req arg) s = .next t ∧ t.dp = s.dp ∧ Out.kdp x.id req.seq.toNat { status := .range } ∈ t.out) ∧
    (∀ (m : BitVec 32) (s : State), s.phase = .halted → s.dp.dumpDone = false → s.pw.flush = none → (dumpTarget s).isSome = true → ∃ t, exec
      (.integrityDumpDone m) s = .next t ∧ t.dp.dumpDone = true ∧ t.recorder.logOpen = true ∧ t.phase = .halted ∧ t.hc.berth = s.hc.berth ∧ t.obj
      U.power Obj.DUMP_SEQ_LAST = (s.obj U.power Obj.DUMP_SEQ_LAST + 1) % 2^32) ∧
    (∀ (req : KReq) (x : Session) (arg : BitVec 32) (s : State), startsRun s req x 0x1830 arg.toNat (U.root) = true → s.phase = .halted →
      s.dp.dumpDone = true → ∃ t, exec (.integrityRecover req arg) s = .next t ∧ t.hm.latchHalted = false ∧ t.hm.recoverValue = arg.toNat ∧
      t.dp.recoverAccepted = true ∧ t.dp.integrity.recovery = arg.toNat ∧ t.phase = .halted ∧ Out.kdp x.id req.seq.toNat { status := .ok } ∈ t.out) ∧
    (∀ (req : KReq) (x : Session) (arg : BitVec 32) (s : State), startsRun s req x 0x1830 arg.toNat (U.root) = true → (s.phase ≠ .halted ∨
      s.dp.dumpDone = false) → ∃ t, exec (.integrityRecover req arg) s = .next t ∧ t.hm = s.hm ∧ t.dp = s.dp ∧ Out.kdp x.id req.seq.toNat
      { status := .state } ∈ t.out)

/-- Requests of proof passes and aging plans. Rests on 09 R212, 09 R217, 09 R220, 09 R228. -/
def Obligations.AgeingRequests : Prop :=
  (∀ (req : KReq) (x : Session) (arg : BitVec 32) (g : Fin 2) (k : Fin 16) (d : Fin 32) (s : State), startsRun s req x 0x1706 arg.toNat (U.die (g.val
    + 1) (k.val + 1) (d.val + 1)) = true → s.variant = .p128 → measSkips s (U.die (g.val + 1) (k.val + 1) (d.val + 1)) = false → ∃ t, exec (.proofNow
    req arg) s = .next t ∧ AMap.get? t.ag.proofNow (U.die (g.val + 1) (k.val + 1) (d.val + 1)) = some [U.die (g.val + 1) (k.val + 1) (d.val + 1)] ∧
    t.media = s.media ∧ Out.kdp x.id req.seq.toNat { status := .pending } ∈ t.out) ∧
    (∀ (req : KReq) (x : Session) (arg : BitVec 32) (s : State), startsRun s req x 0x1701 arg.toNat (U.root) = true → planBusy s = false → ∃ t, exec
      (.planApply req arg) s = .next t ∧ t.ag.active = s.ag.active ∧ (if (planFault s (s.blob U.root Obj.PLAN_STAGE)).isNone = true then t.ag.applying
      = some (parsePlan (s.blob U.root Obj.PLAN_STAGE), false) ∧ Out.kdp x.id req.seq.toNat { status := .pending } ∈ t.out else t.ag.applying = none ∧
      Out.kdp x.id req.seq.toNat { status := .range } ∈ t.out)) ∧
    (∀ (req : KReq) (x : Session) (arg : BitVec 32) (s : State), startsRun s req x 0x1701 arg.toNat (U.root) = true → planBusy s = true → ∃ t, exec
      (.planApply req arg) s = .next t ∧ t.ag = s.ag ∧ t.blobs = s.blobs ∧ Out.kdp x.id req.seq.toNat { status := .busy } ∈ t.out) ∧
    (∀ (req : KReq) (x : Session) (arg : BitVec 32) (q : Plan) (s : State), startsRun s req x 0x1702 arg.toNat (U.root) = true → planBusy s = false →
      s.ag.previous = some q → ∃ t, exec (.planRollback req arg) s = .next t ∧ t.ag = { s.ag with applying := some (q, true) } ∧ Out.kdp x.id
      req.seq.toNat { status := .pending } ∈ t.out) ∧
    (∀ (req : KReq) (x : Session) (arg : BitVec 32) (s : State), startsRun s req x 0x1702 arg.toNat (U.root) = true → planBusy s = false →
      s.ag.previous = none → ∃ t, exec (.planRollback req arg) s = .next t ∧ t.ag = s.ag ∧ Out.kdp x.id req.seq.toNat { status := .state } ∈ t.out)

/-- Requests of resets, power states, banks, the hold-up bank, the domain and the sensors. Rests on 04 R109, 11 R261, 11 R265, 12 R283, 12 R284, 12 R287, 12 R290, 12 R291, 12 R294, 12 R296, 13 R303. -/
def Obligations.PowerRequests : Prop :=
  (∀ (req : KReq) (x : Session) (arg : BitVec 32) (s : State), startsRun s req x 0x1203 arg.toNat (U.root) = true → domainIsDown s = true →
    s.dir.walking = false → s.phase ≠ .flushing → slotsUsed s = 0 → ∃ t, exec (.domainRecover req arg) s = .next t ∧ domainIsDown t = false ∧
    t.hm.latchDomainDown = false ∧ t.dir = s.dir ∧ Out.kdp x.id req.seq.toNat { status := .ok } ∈ t.out) ∧
    (∀ (req : KReq) (x : Session) (arg : BitVec 32) (s : State), startsRun s req x 0x1203 arg.toNat (U.root) = true → (domainIsDown s = false ∨
      s.dir.walking = true ∨ slotsUsed s ≠ 0) → ∃ t, exec (.domainRecover req arg) s = .next t ∧ t.objs = s.objs ∧ t.hm = s.hm ∧ Out.kdp x.id
      req.seq.toNat { status := .state } ∈ t.out) ∧
    (∀ (req : KReq) (x : Session) (b : Fin 4) (s : State), admitted s req x 0x1908 (.write (.num 0)) (U.power) = true → req.sub.toNat = b.val + 1 →
      (bankState s b.val = 0 ∨ bankState s b.val = 1) → ∃ t, exec (.bankEnable req 0) s = .next t ∧ bankState t b.val = 2 ∧ t.obj U.power
      (Obj.BANK_ENABLE + b.val + 1) = 0 ∧ Out.kdp x.id req.seq.toNat { status := .ok } ∈ t.out) ∧
    (∀ (req : KReq) (x : Session) (b : Fin 4) (s : State), admitted s req x 0x1908 (.write (.num 1)) (U.power) = true → req.sub.toNat = b.val + 1 →
      bankState s b.val = 2 → ∃ t, exec (.bankEnable req 1) s = .next t ∧ bankState t b.val = 4 ∧ t.obj U.power (Obj.BANK_ENABLE + b.val + 1) = 1 ∧
      Out.kdp x.id req.seq.toNat { status := .ok } ∈ t.out) ∧
    (∀ (req : KReq) (x : Session) (arg : BitVec 32) (s : State), startsRun s req x 0x1905 arg.toNat (U.power) = true → (s.phase = .halted ∨ (s.phase =
      .running ∧ s.robj Obj.PSTATE_NOW < 3 ∧ s.robj Obj.ENTRY_STATE = 0)) → ∃ t, exec (.holdupMeasure req arg) s = .next t ∧ t.pw =
      { s.pw with measDue := s.pw.measDue || !s.pw.measuring } ∧ t.objs = s.objs ∧ Out.kdp x.id req.seq.toNat { status := .pending } ∈ t.out) ∧
    (∀ (req : KReq) (x : Session) (arg : BitVec 32) (s : State), startsRun s req x 0x1905 arg.toNat (U.power) = true → s.phase = .running → s.robj
      Obj.ENTRY_STATE ≠ 0 → ∃ t, exec (.holdupMeasure req arg) s = .next t ∧ t.pw = s.pw ∧ t.objs = s.objs ∧ Out.kdp x.id req.seq.toNat
      { status := .state } ∈ t.out) ∧
    (∀ (req : KReq) (x : Session) (arg : BitVec 32) (s : State), startsRun (thawed s) req x 0x1A02 arg.toNat (U.root) = true → s.phase = .running → s.robj
      Obj.ENTRY_STATE = 0 → ∃ t, exec (.warmReset req arg) s = .next t ∧ t.cs.reset_ = 7 ∧ t.cs.wdRunning = false ∧ t.phase = .running ∧ t.hc.berth =
      s.hc.berth ∧ t.media.store = s.media.store ∧ (s.mc.cb = [] → s.dir.waiting = [] → t.wharf.entries = s.wharf.entries) ∧ Out.kdp x.id
      req.seq.toNat { status := .ok } ∈ t.out) ∧
    (∀ (req : KReq) (x : Session) (arg : BitVec 32) (s : State), startsRun (thawed s) req x 0x1A02 arg.toNat (U.root) = true → s.phase = .running → s.robj
      Obj.ENTRY_STATE = 1 → ∃ t, exec (.warmReset req arg) s = .next t ∧ t.robj Obj.ENTRY_STATE = 0 ∧ t.cs.reset_ = s.cs.reset_ ∧ t.phase = .running ∧
      Out.kdp x.id req.seq.toNat { status := .ok } ∈ t.out) ∧
    (∀ (req : KReq) (x : Session) (arg : BitVec 32) (s : State), startsRun s req x 0x1A06 arg.toNat (U.root) = true → blockInReset s arg.toNat = false
      → blockIdle s arg.toNat = true → ∃ t, exec (.blockReset req arg) s = .next t ∧ t.robj (Obj.BLOCK_STATE + arg.toNat) = 1 ∧ t.wharf = s.wharf ∧
      t.mc = s.mc ∧ Out.kdp x.id req.seq.toNat { status := .pending } ∈ t.out) ∧
    (∀ (req : KReq) (x : Session) (arg : BitVec 32) (s : State), startsRun s req x 0x1A06 arg.toNat (U.root) = true → (blockInReset s arg.toNat = true
      ∨ blockIdle s arg.toNat = false) → ∃ t, exec (.blockReset req arg) s = .next t ∧ t.objs = s.objs ∧ Out.kdp x.id req.seq.toNat
      { status := if blockInReset s arg.toNat = true then .busy else .state } ∈ t.out) ∧
    (∀ (req : KReq) (x : Session) (s : State), startsRun s req x 0x1A10 3 U.root = true → pstateOpen s = true → s.robj Obj.ENTRY_STATE = 0 →
      firstRefuser s [2, 3, 4, 8] = none → ∃ t, exec (.pstateRequest3 req) s = .next t ∧ t.robj Obj.ENTRY_STATE = 1 ∧ t.cs.target = 3 ∧ t.phase =
      s.phase ∧ Out.kdp x.id req.seq.toNat { status := .pending } ∈ t.out) ∧
    (∀ (req : KReq) (x : Session) (k : Nat) (s : State), startsRun s req x 0x1A10 3 U.root = true → pstateOpen s = true → s.robj Obj.ENTRY_STATE = 0 →
      firstRefuser s [2, 3, 4, 8] = some k → ∃ t, exec (.pstateRequest3 req) s = .next t ∧ t.robj Obj.ENTRY_STATE = 0 ∧ t.cs = s.cs ∧ t.robj
      Obj.LAST_REFUSER = k ∧ t.robj Obj.LAST_REFUSED_STATE = 3 ∧ t.obj (U.root) (Obj.REFUSALS + k) = (s.obj (U.root) (Obj.REFUSALS + k) + 1) %
      objModulus (Obj.REFUSALS + k) ∧ Out.kdp x.id req.seq.toNat { status := .state } ∈ t.out) ∧
    (∀ (req : KReq) (x : Session) (s : State), startsRun s req x 0x1A10 4 U.root = true → pstateOpen s = true → s.robj Obj.ENTRY_STATE = 0 →
      firstRefuser s [2, 3, 4, 8] = none → ∃ t, exec (.pstateRequest4 req) s = .next t ∧ t.robj Obj.ENTRY_STATE = 1 ∧ t.cs.target = 4 ∧ t.phase =
      s.phase ∧ Out.kdp x.id req.seq.toNat { status := .pending } ∈ t.out) ∧
    (∀ (req : KReq) (x : Session) (k : Nat) (s : State), startsRun s req x 0x1A10 4 U.root = true → pstateOpen s = true → s.robj Obj.ENTRY_STATE = 0 →
      firstRefuser s [2, 3, 4, 8] = some k → ∃ t, exec (.pstateRequest4 req) s = .next t ∧ t.robj Obj.ENTRY_STATE = 0 ∧ t.cs = s.cs ∧ t.robj
      Obj.LAST_REFUSER = k ∧ t.robj Obj.LAST_REFUSED_STATE = 4 ∧ t.obj (U.root) (Obj.REFUSALS + k) = (s.obj (U.root) (Obj.REFUSALS + k) + 1) %
      objModulus (Obj.REFUSALS + k) ∧ Out.kdp x.id req.seq.toNat { status := .state } ∈ t.out) ∧
    (∀ (req : KReq) (x : Session) (s : State), admitted s req x 0x1A10 (.exec 0) U.root = true → (runPending s U.root Obj.PSTATE_REQUEST = true ∨
      AMap.get? s.kdp.runs (objKey U.root Obj.PSTATE_REQUEST) = none) → ∃ t, exec (.pstateRequest0 req) s = .next t ∧ t.robj Obj.ENTRY_STATE = (if
      s.robj Obj.ENTRY_STATE = 1 then 0 else s.robj Obj.ENTRY_STATE) ∧ t.cs = s.cs ∧ Out.kdp x.id req.seq.toNat { status := .ok } ∈ t.out) ∧
    (∀ (req : KReq) (x : Session) (arg : BitVec 32) (s : State), startsRun s req x 0x1A20 arg.toNat (U.root) = true → ∃ t, exec (.padHoldRelease req
      arg) s = .next t ∧ (s.robj Obj.PAD_HOLD = 1 → t.robj Obj.PAD_HOLD = 0) ∧ (s.robj Obj.PAD_HOLD ≠ 1 → t.objs = s.objs) ∧ t.phase = s.phase ∧
      Out.kdp x.id req.seq.toNat { status := .ok } ∈ t.out) ∧
    (∀ (req : KReq) (x : Session) (arg : BitVec 32) (s : State), startsRun s req x 0x1A22 arg.toNat (U.root) = true → s.phase ≠ .flushing →
      (refuserHolds s 4 = false ∨ s.phase = .halted) → ∃ t, exec (.retentionFreeze req arg) s = .next t ∧ t.robj Obj.FROZEN = 1 ∧ t.media = s.media ∧
      t.wharf = s.wharf ∧ Out.kdp x.id req.seq.toNat { status := .ok } ∈ t.out) ∧
    (∀ (req : KReq) (x : Session) (arg : BitVec 32) (s : State), startsRun s req x 0x1A22 arg.toNat (U.root) = true → s.phase ≠ .halted → refuserHolds
      s 4 = true → ∃ t, exec (.retentionFreeze req arg) s = .next t ∧ t.objs = s.objs ∧ Out.kdp x.id req.seq.toNat { status := .state } ∈ t.out) ∧
    (∀ (req : KReq) (x : Session) (arg : BitVec 32) (s : State), startsRun (thawed s) req x 0x1A23 arg.toNat (U.root) = true → ∃ t, exec (.retentionResume req
      arg) s = .next t ∧ t.robj Obj.FROZEN = 0 ∧ t.phase = s.phase ∧ t.media.store = s.media.store ∧ Out.kdp x.id req.seq.toNat { status := .ok } ∈
      t.out) ∧
    (∀ (req : KReq) (x : Session) (arg : BitVec 32) (s : State), startsRun s req x 0x1B06 arg.toNat (U.root) = true → ∃ t, exec (.sensorRetest req
      arg) s = .next t ∧ (t.th.sensors.all fun q => !q.2.failed) = true ∧ t.th.sensors.map (·.1) = s.th.sensors.map (·.1) ∧ t.phase = s.phase ∧
      Out.kdp x.id req.seq.toNat { status := .ok } ∈ t.out)
end

