-- ==== Sys2Proof/Laws/Assoc.lean ====
section
/-! SUPPORT. The laws of sparse tables: what a read gives after a write, and that every operation keeps the canonical form. -/
namespace Sys2Proof.Machine.AMap
variable {α : Type}

/-- Every key lies above a bound. -/
def above (k : Nat) (m : AMap α) : Prop := ∀ p ∈ m, k < p.1

theorem wf_cons {k : Nat} {v : α} {t : AMap α} : AMap.wf ((k, v) :: t) = true ↔ above k t ∧ AMap.wf t = true := by
  induction t generalizing k v with
  | nil => simp [AMap.wf, above]
  | cons p t ih =>
    obtain ⟨k', w⟩ := p
    simp only [AMap.wf, Bool.and_eq_true, decide_eq_true_eq, above, List.mem_cons, forall_eq_or_imp]
    constructor
    · rintro ⟨h, hw⟩
      exact ⟨⟨h, fun q hq => Nat.lt_trans h ((ih.1 hw).1 q hq)⟩, hw⟩
    · rintro ⟨⟨h, -⟩, hw⟩
      exact ⟨h, hw⟩

@[simp] theorem wf_nil : AMap.wf ([] : AMap α) = true := rfl

theorem mem_set {m : AMap α} {i : Nat} {v : α} {p : Nat × α} (h : p ∈ AMap.set m i v) : p = (i, v) ∨ p ∈ m := by
  induction m with
  | nil => simpa [AMap.set] using h
  | cons q t ih =>
    obtain ⟨k, w⟩ := q
    simp only [AMap.set] at h
    split at h
    · simpa using h
    · split at h
      · rcases List.mem_cons.1 h with h | h
        · exact .inl h
        · exact .inr (List.mem_cons_of_mem _ h)
      · rcases List.mem_cons.1 h with h | h
        · exact .inr (h ▸ List.mem_cons_self)
        · exact (ih h).imp id (List.mem_cons_of_mem _)

theorem mem_del {m : AMap α} {i : Nat} {p : Nat × α} (h : p ∈ AMap.del m i) : p ∈ m := by
  induction m with
  | nil => simp [AMap.del] at h
  | cons q t ih =>
    obtain ⟨k, w⟩ := q
    simp only [AMap.del] at h
    split at h
    · exact List.mem_cons_of_mem _ h
    · rcases List.mem_cons.1 h with h | h
      · exact h ▸ List.mem_cons_self
      · exact List.mem_cons_of_mem _ (ih h)

theorem wf_set {m : AMap α} (h : AMap.wf m = true) (i : Nat) (v : α) : AMap.wf (AMap.set m i v) = true := by
  induction m with
  | nil => rfl
  | cons q t ih =>
    obtain ⟨k, w⟩ := q
    obtain ⟨ha, ht⟩ := wf_cons.1 h
    simp only [AMap.set]
    split
    · rename_i hik
      refine wf_cons.2 ⟨fun p hp => ?_, h⟩
      rcases List.mem_cons.1 hp with rfl | hp
      · exact hik
      · exact Nat.lt_trans hik (ha p hp)
    · split
      · rename_i e
        subst e
        exact wf_cons.2 ⟨ha, ht⟩
      · refine wf_cons.2 ⟨fun p hp => ?_, ih ht⟩
        rcases mem_set hp with rfl | hp
        · simp only; omega
        · exact ha p hp

theorem wf_del {m : AMap α} (h : AMap.wf m = true) (i : Nat) : AMap.wf (AMap.del m i) = true := by
  induction m with
  | nil => rfl
  | cons q t ih =>
    obtain ⟨k, w⟩ := q
    obtain ⟨ha, ht⟩ := wf_cons.1 h
    simp only [AMap.del]
    split
    · exact ht
    · exact wf_cons.2 ⟨fun p hp => ha p (mem_del hp), ih ht⟩

theorem wf_filter {m : AMap α} (h : AMap.wf m = true) (f : Nat × α → Bool) : AMap.wf (m.filter f) = true := by
  induction m with
  | nil => rfl
  | cons q t ih =>
    obtain ⟨k, w⟩ := q
    obtain ⟨ha, ht⟩ := wf_cons.1 h
    simp only [List.filter_cons]
    split
    · exact wf_cons.2 ⟨fun p hp => ha p (List.mem_filter.1 hp).1, ih ht⟩
    · exact ih ht

theorem wf_map {β : Type} {m : AMap α} (h : AMap.wf m = true) (f : Nat × α → Nat × β) (hf : ∀ p, (f p).1 = p.1) :
    AMap.wf (m.map f) = true := by
  induction m with
  | nil => rfl
  | cons q t ih =>
    obtain ⟨k, w⟩ := q
    obtain ⟨ha, ht⟩ := wf_cons.1 h
    have e : f (k, w) = (k, (f (k, w)).2) := Prod.ext (hf _) rfl
    rw [List.map_cons, e]
    refine wf_cons.2 ⟨fun p hp => ?_, ih ht⟩
    obtain ⟨q, hq, rfl⟩ := List.mem_map.1 hp
    rw [hf]
    exact ha q hq

theorem wf_put {m : AMap α} (h : AMap.wf m = true) (i : Nat) (o : Option α) : AMap.wf (AMap.put m i o) = true := by
  cases o with
  | none => exact wf_del h i
  | some v => exact wf_set h i v

/-- A read after a write of the same key gives the value written. -/
@[simp] theorem get?_set_self (m : AMap α) (i : Nat) (v : α) : AMap.get? (AMap.set m i v) i = some v := by
  induction m with
  | nil => simp [AMap.set, AMap.get?]
  | cons q t ih =>
    obtain ⟨k, w⟩ := q
    simp only [AMap.set]
    split
    · simp [AMap.get?]
    · split
      · simp [AMap.get?]
      · rename_i h1 h2
        simp only [AMap.get?]
        rw [if_neg (fun e => h2 e.symm)]
        exact ih

/-- A write leaves every other key alone. -/
theorem get?_set_ne (m : AMap α) {i j : Nat} (v : α) (h : j ≠ i) : AMap.get? (AMap.set m i v) j = AMap.get? m j := by
  induction m with
  | nil => simp [AMap.set, AMap.get?, Ne.symm h]
  | cons q t ih =>
    obtain ⟨k, w⟩ := q
    simp only [AMap.set]
    split
    · simp [AMap.get?, Ne.symm h]
    · split
      · rename_i e
        subst e
        simp [AMap.get?, Ne.symm h]
      · simp only [AMap.get?, ih]

/-- A removal leaves every other key alone. -/
theorem get?_del_ne (m : AMap α) {i j : Nat} (h : j ≠ i) : AMap.get? (AMap.del m i) j = AMap.get? m j := by
  induction m with
  | nil => rfl
  | cons q t ih =>
    obtain ⟨k, w⟩ := q
    simp only [AMap.del]
    split
    · rename_i e
      subst e
      simp [AMap.get?, Ne.symm h]
    · simp only [AMap.get?, ih]

theorem get?_above {m : AMap α} {k : Nat} (h : above k m) : AMap.get? m k = none := by
  induction m with
  | nil => rfl
  | cons q t ih =>
    obtain ⟨k', w⟩ := q
    have hk : k < k' := h (k', w) List.mem_cons_self
    simp only [AMap.get?]
    rw [if_neg (by omega)]
    exact ih fun p hp => h p (List.mem_cons_of_mem _ hp)

/-- In a canonical table a removed key has no entry. -/
theorem get?_del_self {m : AMap α} (h : AMap.wf m = true) (i : Nat) : AMap.get? (AMap.del m i) i = none := by
  induction m with
  | nil => rfl
  | cons q t ih =>
    obtain ⟨k, w⟩ := q
    obtain ⟨ha, ht⟩ := wf_cons.1 h
    simp only [AMap.del]
    split
    · rename_i e
      subst e
      exact get?_above ha
    · rename_i e
      simp only [AMap.get?, if_neg e]
      exact ih ht

/-- A property of every value is kept by a write of a value that has it. -/
theorem all_set {m : AMap α} {f : Nat × α → Bool} (h : m.all f = true) {i : Nat} {v : α} (hv : f (i, v) = true) : (AMap.set m i v).all f = true := by
  rw [List.all_eq_true] at h ⊢
  intro p hp
  rcases mem_set hp with rfl | hp
  · exact hv
  · exact h p hp

theorem all_del {m : AMap α} {f : Nat × α → Bool} (h : m.all f = true) (i : Nat) : (AMap.del m i).all f = true := by
  rw [List.all_eq_true] at h ⊢
  exact fun p hp => h p (mem_del hp)

theorem all_filter {m : AMap α} {f : Nat × α → Bool} (h : m.all f = true) (g : Nat × α → Bool) : (m.filter g).all f = true := by
  rw [List.all_eq_true] at h ⊢
  exact fun p hp => h p (List.mem_filter.1 hp).1

/-- A write goes by a fold of writes. -/
theorem wf_foldl_set {β : Type} {m : AMap α} (h : AMap.wf m = true) (l : List β) (k : β → Nat) (v : β → α) :
    AMap.wf (l.foldl (fun m x => AMap.set m (k x) (v x)) m) = true := by
  induction l generalizing m with
  | nil => exact h
  | cons x t ih => exact ih (wf_set h _ _)

theorem wf_setAll {m : AMap α} (h : AMap.wf m = true) (ks : List Nat) (v : α) : AMap.wf (AMap.setAll m ks v) = true := wf_foldl_set h ks id fun _ => v

theorem wf_foldl_del {m : AMap α} (l : List Nat) (h : AMap.wf m = true) : AMap.wf (l.foldl AMap.del m) = true := by
  induction l generalizing m with
  | nil => exact h
  | cons i t ih => exact ih (wf_del h i)
theorem all_foldl_del {m : AMap α} {f : Nat × α → Bool} (l : List Nat) (h : m.all f = true) : (l.foldl AMap.del m).all f = true := by
  induction l generalizing m with
  | nil => exact h
  | cons i t ih => exact ih (all_del h i)

end Sys2Proof.Machine.AMap
end

