-- ==== Sys2Proof/Laws/Keeps.lean ====
section
/-! SUPPORT. What every operation keeps, said once: the parts of the state that it does not name stay, free values and messages are only added, and
canonical tables stay canonical. One lemma per operation, in the files Laws/Keeps*.lean, says so of it. -/
namespace Sys2Proof.Machine
open Sys2Proof

/-! ## The parts of a state

A set of parts is a number: bit n stands for the part that `State.put` takes by its n-th `pick`, in the order of the fields of State and of its
structures. -/

/-- A part: the later one where the set `w` holds bit `n`, else the earlier. -/
def pick {α : Type} (w n : Nat) (later earlier : α) : α := bif w.testBit n then later else earlier

/-- The state `s` with the parts of the set `w` taken from `t`. -/
def State.put (w : Nat) (s t : State) : State :=
  {
    variant := s.variant,
    pending := s.pending,
    now := s.now,
    free := pick w 0 t.free s.free,
    out := pick w 1 t.out s.out,
    phase := pick w 2 t.phase s.phase,
    objs := pick w 3 t.objs s.objs,
    blobs := pick w 4 t.blobs s.blobs,
    hp := ⟨pick w 5 t.hp.ports s.hp.ports, pick w 6 t.hp.agents s.hp.agents, pick w 7 t.hp.slots s.hp.slots⟩,
    mc := ⟨pick w 8 t.mc.regions s.mc.regions, pick w 9 t.mc.applying s.mc.applying, pick w 10 t.mc.cb s.mc.cb, pick w 11 t.mc.windows s.mc.windows, pick
        w 12 t.mc.discarding s.mc.discarding, pick w 13 t.mc.gone s.mc.gone⟩,
    dir := ⟨pick w 14 t.dir.entries s.dir.entries, pick w 15 t.dir.plru s.dir.plru, pick w 16 t.dir.txs s.dir.txs, pick w 17 t.dir.snoops s.dir.snoops,
        pick w 18 t.dir.waiting s.dir.waiting, pick w 19 t.dir.retry s.dir.retry, pick w 20 t.dir.acks s.dir.acks, pick w 21 t.dir.nextAcc s.dir.nextAcc,
        pick w 22 t.dir.nextId s.dir.nextId, pick w 23 t.dir.walking s.dir.walking, pick w 24 t.dir.walkLines s.dir.walkLines, pick w 25 t.dir.downRec
        s.dir.downRec⟩,
    hc := ⟨pick w 26 t.hc.sectors s.hc.sectors, pick w 27 t.hc.plru s.hc.plru, pick w 28 t.hc.errs s.hc.errs, pick w 29 t.hc.passed s.hc.passed, pick w 30
        t.hc.failingLogged s.hc.failingLogged, pick w 31 t.hc.berthWays s.hc.berthWays, pick w 32 t.hc.copies s.hc.copies, pick w 33 t.hc.invalidating
        s.hc.invalidating, pick w 34 t.hc.growing s.hc.growing, pick w 35 t.hc.pbuf s.hc.pbuf, pick w 36 t.hc.trackers s.hc.trackers, pick w 37 t.hc.berth
        s.hc.berth, pick w 38 t.hc.ranges s.hc.ranges, pick w 39 t.hc.mirror s.hc.mirror⟩,
    wharf := ⟨pick w 40 t.wharf.entries s.wharf.entries, pick w 41 t.wharf.markers s.wharf.markers, pick w 42 t.wharf.nextSeq s.wharf.nextSeq, pick w 43
        t.wharf.tails s.wharf.tails, pick w 44 t.wharf.filter s.wharf.filter, pick w 45 t.wharf.rebuilding s.wharf.rebuilding, pick w 46 t.wharf.badIndex
        s.wharf.badIndex, pick w 47 t.wharf.pinned s.wharf.pinned, pick w 48 t.wharf.everPinned s.wharf.everPinned, pick w 49 t.wharf.lighters
        s.wharf.lighters, pick w 50 t.wharf.nextLighter s.wharf.nextLighter, pick w 51 t.wharf.held s.wharf.held, pick w 52 t.wharf.queueReset
        s.wharf.queueReset, pick w 53 t.wharf.sliceFull s.wharf.sliceFull, pick w 54 t.wharf.fullSince s.wharf.fullSince, pick w 270 t.wharf.busyAt s.wharf.busyAt⟩,
    media := ⟨pick w 55 t.media.map s.media.map, pick w 56 t.media.badMap s.media.badMap, pick w 57 t.media.lostSegs s.media.lostSegs, pick w 58
        t.media.badChunks s.media.badChunks, pick w 59 t.media.regained s.media.regained, pick w 60 t.media.store s.media.store, pick w 61 t.media.sets
        s.media.sets, pick w 62 t.media.stripes s.media.stripes, pick w 63 t.media.journal s.media.journal, pick w 276 t.media.journal2 s.media.journal2, pick w 277 t.media.jbad s.media.jbad, pick w 64 t.media.jnext s.media.jnext, pick w
        65 t.media.jfull s.media.jfull, pick w 66 t.media.jfullSince s.media.jfullSince, pick w 67 t.media.segs s.media.segs, pick w 68 t.media.ckptAll
        s.media.ckptAll, pick w 69 t.media.ckptDone s.media.ckptDone, pick w 70 t.media.deadDies s.media.deadDies, pick w 71 t.media.deadStacks
        s.media.deadStacks, pick w 72 t.media.offStacks s.media.offStacks, pick w 73 t.media.spares s.media.spares, pick w 74 t.media.donated
        s.media.donated, pick w 75 t.media.pcache s.media.pcache, pick w 76 t.media.rebuild1 s.media.rebuild1, pick w 77 t.media.rebuild2
        s.media.rebuild2, pick w 78 t.media.reclaimStep1 s.media.reclaimStep1, pick w 79 t.media.reclaimStep2 s.media.reclaimStep2, pick w 80
        t.media.plates s.media.plates, pick w 271 t.media.jwait s.media.jwait, pick w 272 t.media.ckpt s.media.ckpt, pick w 275 t.media.flushErase s.media.flushErase, pick w 273
        t.media.shares s.media.shares⟩,
    ml := ⟨pick w 81 t.ml.reads s.ml.reads, pick w 82 t.ml.nextRead s.ml.nextRead, pick w 83 t.ml.ops s.ml.ops, pick w 278 t.ml.queues s.ml.queues, pick w 84 t.ml.budget s.ml.budget, pick w
        85 t.ml.wins s.ml.wins, pick w 86 t.ml.lat s.ml.lat, pick w 87 t.ml.overloaded s.ml.overloaded, pick w 88 t.ml.minutes s.ml.minutes, pick w 89
        t.ml.hours s.ml.hours, pick w 90 t.ml.eqFrac s.ml.eqFrac⟩,
    ag := ⟨pick w 91 t.ag.active s.ag.active, pick w 92 t.ag.previous s.ag.previous, pick w 274 t.ag.planLog s.ag.planLog, pick w 93 t.ag.applying s.ag.applying, pick w 94 t.ag.passes
        s.ag.passes, pick w 95 t.ag.marked s.ag.marked, pick w 96 t.ag.log s.ag.log, pick w 97 t.ag.next s.ag.next, pick w 98 t.ag.dies s.ag.dies, pick w
        99 t.ag.effSum s.ag.effSum, pick w 100 t.ag.corrHour s.ag.corrHour, pick w 101 t.ag.proofNow s.ag.proofNow, pick w 102 t.ag.energyHist
        s.ag.energyHist, pick w 103 t.ag.spareHist s.ag.spareHist, pick w 104 t.ag.wearHist s.ag.wearHist, pick w 105 t.ag.life90 s.ag.life90, pick w 106
        t.ag.bolSet s.ag.bolSet⟩,
    dp := ⟨pick w 107 t.dp.wseq s.dp.wseq, pick w 108 t.dp.wseqLimit s.dp.wseqLimit, pick w 109 t.dp.wseqEnded s.dp.wseqEnded, pick w 110 t.dp.doms
        s.dp.doms, pick w 111 t.dp.keys s.dp.keys, pick w 112 t.dp.nextKey s.dp.nextKey, pick w 113 t.dp.custodian s.dp.custodian, pick w 114
        t.dp.dumpKey0 s.dp.dumpKey0, pick w 115 t.dp.dumpKey1 s.dp.dumpKey1, pick w 116 t.dp.integrity s.dp.integrity, pick w 117 t.dp.dumpDone
        s.dp.dumpDone, pick w 118 t.dp.recoverAccepted s.dp.recoverAccepted, pick w 119 t.dp.recoverOwed s.dp.recoverOwed, pick w 120 t.dp.errCounts
        s.dp.errCounts, pick w 121 t.dp.remapFull s.dp.remapFull, pick w 122 t.dp.staleKept s.dp.staleKept, pick w 123 t.dp.scrub s.dp.scrub, pick w 124
        t.dp.protApplied s.dp.protApplied, pick w 125 t.dp.poisonAt s.dp.poisonAt, pick w 126 t.dp.markedAt s.dp.markedAt, pick w 279 t.dp.keyLog s.dp.keyLog⟩,
    pw := ⟨pick w 127 t.pw.orOpen s.pw.orOpen, pick w 128 t.pw.discharging s.pw.discharging, pick w 129 t.pw.owedPhases s.pw.owedPhases, pick w 130
        t.pw.lostPhases s.pw.lostPhases, pick w 131 t.pw.under s.pw.under, pick w 132 t.pw.unreachable s.pw.unreachable, pick w 133 t.pw.badReads
        s.pw.badReads, pick w 134 t.pw.failedReads s.pw.failedReads, pick w 135 t.pw.railsUp s.pw.railsUp, pick w 136 t.pw.seqTries s.pw.seqTries, pick w
        137 t.pw.seqDone s.pw.seqDone, pick w 138 t.pw.attempts s.pw.attempts, pick w 139 t.pw.retryWait s.pw.retryWait, pick w 140 t.pw.rawPg s.pw.rawPg,
        pick w 141 t.pw.step s.pw.step, pick w 142 t.pw.statusWords s.pw.statusWords, pick w 143 t.pw.pmTries s.pw.pmTries, pick w 144 t.pw.switchOff
        s.pw.switchOff, pick w 145 t.pw.bankMin s.pw.bankMin, pick w 146 t.pw.bankLink s.pw.bankLink, pick w 147 t.pw.charged s.pw.charged, pick w 148
        t.pw.measuring s.pw.measuring, pick w 149 t.pw.measEnd s.pw.measEnd, pick w 150 t.pw.measDue s.pw.measDue, pick w 151 t.pw.deferSince
        s.pw.deferSince, pick w 152 t.pw.measured s.pw.measured, pick w 153 t.pw.tMeas s.pw.tMeas, pick w 154 t.pw.recharge s.pw.recharge, pick w 155
        t.pw.bankDead s.pw.bankDead, pick w 156 t.pw.lowNoted s.pw.lowNoted, pick w 157 t.pw.flush s.pw.flush, pick w 158 t.pw.dump0 s.pw.dump0, pick w
        159 t.pw.dump1 s.pw.dump1, pick w 160 t.pw.replayed s.pw.replayed, pick w 161 t.pw.drainedAt s.pw.drainedAt, pick w 162 t.pw.pendingNoted
        s.pw.pendingNoted, pick w 163 t.pw.vinGood s.pw.vinGood, pick w 164 t.pw.vinRemoved s.pw.vinRemoved, pick w 165 t.pw.pwrfailLow s.pw.pwrfailLow,
        pick w 166 t.pw.incomplete s.pw.incomplete, pick w 167 t.pw.vinWindow s.pw.vinWindow⟩,
    cs := ⟨pick w 168 t.cs.lost1 s.cs.lost1, pick w 169 t.cs.lost2 s.cs.lost2, pick w 170 t.cs.lostAt s.cs.lostAt, pick w 171 t.cs.fwRunning
        s.cs.fwRunning, pick w 172 t.cs.hbmTrained s.cs.hbmTrained, pick w 173 t.cs.linksTrained s.cs.linksTrained, pick w 174 t.cs.bootHeld
        s.cs.bootHeld, pick w 175 t.cs.mapLoaded s.cs.mapLoaded, pick w 176 t.cs.replayDone s.cs.replayDone, pick w 177 t.cs.stepAt s.cs.stepAt, pick w
        178 t.cs.reset_ s.cs.reset_, pick w 179 t.cs.mrstLow s.cs.mrstLow, pick w 180 t.cs.wdTimes s.cs.wdTimes, pick w 181 t.cs.wdRunning s.cs.wdRunning,
        pick w 182 t.cs.trafficAt s.cs.trafficAt, pick w 183 t.cs.p2Exit s.cs.p2Exit, pick w 184 t.cs.target s.cs.target, pick w 185 t.cs.wakeQueued
        s.cs.wakeQueued, pick w 186 t.cs.offDone s.cs.offDone, pick w 187 t.cs.wakeStep s.cs.wakeStep, pick w 280 t.cs.opened s.cs.opened, pick w 188 t.cs.resAt s.cs.resAt⟩,
    th := ⟨pick w 189 t.th.sensors s.th.sensors, pick w 190 t.th.parts s.th.parts, pick w 191 t.th.grace2 s.th.grace2, pick w 192 t.th.grace3 s.th.grace3⟩,
    pins := ⟨pick w 193 t.pins.slowLow s.pins.slowLow, pick w 194 t.pins.slowMin s.pins.slowMin, pick w 195 t.pins.stopLow s.pins.stopLow, pick w 196
        t.pins.stopMin s.pins.stopMin, pick w 197 t.pins.held s.pins.held, pick w 198 t.pins.heldAlert s.pins.heldAlert, pick w 199 t.pins.heldTherm
        s.pins.heldTherm, pick w 200 t.pins.tapIr s.pins.tapIr, pick w 201 t.pins.tapDrive s.pins.tapDrive⟩,
    kdp := ⟨pick w 202 t.kdp.sessions s.kdp.sessions, pick w 203 t.kdp.handshakes s.kdp.handshakes, pick w 204 t.kdp.expired s.kdp.expired, pick w 205
        t.kdp.backoffs s.kdp.backoffs, pick w 206 t.kdp.bulk s.kdp.bulk, pick w 207 t.kdp.again s.kdp.again, pick w 281 t.kdp.arrivals s.kdp.arrivals, pick w 208 t.kdp.bulkExpired
        s.kdp.bulkExpired, pick w 209 t.kdp.runs s.kdp.runs, pick w 210 t.kdp.net1 s.kdp.net1, pick w 211 t.kdp.net2 s.kdp.net2, pick w 212 t.kdp.roleKeys
        s.kdp.roleKeys⟩,
    hm := ⟨pick w 213 t.hm.running s.hm.running, ⟨pick w 214 t.hm.sram.generation s.hm.sram.generation, pick w 215 t.hm.sram.slots s.hm.sram.slots, pick w
        216 t.hm.sram.remap s.hm.sram.remap, pick w 217 t.hm.sram.recent s.hm.sram.recent, pick w 218 t.hm.sram.station s.hm.sram.station⟩, pick w 219
        t.hm.shadow s.hm.shadow, pick w 220 t.hm.storeRunning s.hm.storeRunning, pick w 221 t.hm.storeWaiting s.hm.storeWaiting, pick w 222 t.hm.cmdWaits
        s.hm.cmdWaits, pick w 223 t.hm.storeSpaced s.hm.storeSpaced, pick w 224 t.hm.badPages s.hm.badPages, pick w 225 t.hm.powerCells s.hm.powerCells,
        pick w 226 t.hm.opsecCells s.hm.opsecCells, pick w 227 t.hm.satCell s.hm.satCell, pick w 228 t.hm.powerCycles s.hm.powerCycles, pick w 229
        t.hm.opsec s.hm.opsec, pick w 230 t.hm.opsecSince s.hm.opsecSince, pick w 231 t.hm.lastPd s.hm.lastPd, pick w 232 t.hm.cfgSeq s.hm.cfgSeq, pick w
        233 t.hm.latchHalted s.hm.latchHalted, pick w 234 t.hm.latchDomainDown s.hm.latchDomainDown, pick w 235 t.hm.latchThermal s.hm.latchThermal, pick
        w 236 t.hm.recoverValue s.hm.recoverValue⟩,
    recorder := ⟨pick w 237 t.recorder.accepting s.recorder.accepting, pick w 238 t.recorder.next s.recorder.next, pick w 239 t.recorder.buffer
        s.recorder.buffer, pick w 240 t.recorder.flushedTo s.recorder.flushedTo, pick w 241 t.recorder.log s.recorder.log, pick w 242
        t.recorder.lostBefore s.recorder.lostBefore, pick w 243 t.recorder.freezeSid s.recorder.freezeSid, pick w 244 t.recorder.freezeLost
        s.recorder.freezeLost, pick w 245 t.recorder.logOpen s.recorder.logOpen⟩,
    pc := ⟨pick w 246 t.pc.armed s.pc.armed, pick w 247 t.pc.samples s.pc.samples, pick w 248 t.pc.nextSample s.pc.nextSample, pick w 249 t.pc.bw s.pc.bw,
        pick w 250 t.pc.hist s.pc.hist, pick w 251 t.pc.bwFrom s.pc.bwFrom⟩,
    ts := ⟨pick w 252 t.ts.loops s.ts.loops, pick w 253 t.ts.reflect s.ts.reflect, pick w 254 t.ts.sramTest s.ts.sramTest, pick w 255 t.ts.stackTests
        s.ts.stackTests, pick w 256 t.ts.hbmTests s.ts.hbmTests, pick w 257 t.ts.unlocker s.ts.unlocker, pick w 258 t.ts.slotA s.ts.slotA, pick w 259
        t.ts.slotB s.ts.slotB, pick w 260 t.ts.image s.ts.image, pick w 261 t.ts.failsA s.ts.failsA, pick w 262 t.ts.failsB s.ts.failsB, pick w 263
        t.ts.nextStart s.ts.nextStart, pick w 264 t.ts.retryWait s.ts.retryWait, pick w 265 t.ts.staged s.ts.staged, pick w 266 t.ts.activating
        s.ts.activating, pick w 267 t.ts.pauseAt s.ts.pauseAt, pick w 268 t.ts.paused s.ts.paused, pick w 269 t.ts.loadingAt s.ts.loadingAt⟩ }

/-- The set `w` holds the parts of the set `m`. -/
def Covers (w m : Nat) : Prop := ∀ i, m.testBit i = true → w.testBit i = true

theorem Covers.refl {w : Nat} : Covers w w := fun _ h => h
/-- A smaller set is covered too. -/
theorem Covers.le {w m k : Nat} (c : Covers w m) (e : Nat.lor k m = m) : Covers w k := fun i h => c i (by
  rw [← e]
  show (k ||| m).testBit i = true
  rw [Nat.testBit_or, h, Bool.true_or])

theorem pick_put {α : Type} {w n : Nat} {x y z : α} : pick w n x (pick w n y z) = pick w n x z := by
  unfold pick; cases w.testBit n <;> rfl
theorem pick_covers {α : Type} {w m n : Nat} {x y : α} (c : Covers w m) : pick w n (pick m n x y) y = pick m n x y := by
  unfold pick
  cases h : m.testBit n with
  | true => rw [c n h]; rfl
  | false => cases w.testBit n <;> rfl
theorem pick_self {α : Type} {w n : Nat} {x : α} : pick w n x x = x := by unfold pick; cases w.testBit n <;> rfl

theorem State.put_put {w : Nat} {r s t : State} : (r.put w s).put w t = r.put w t := by
  simp only [State.put, pick_put]

theorem State.put_self {w : Nat} {s : State} : s.put w s = s := by
  simp only [State.put, pick_self]

theorem State.put_covers {w m : Nat} {s t : State} (c : Covers w m) (e : t = s.put m t) : t = s.put w t := by
  have h : s.put w (s.put m t) = s.put m t := by simp only [State.put, pick_covers c]
  rw [← e] at h
  exact h.symm

/-- The part of the state that `Keeps` speaks of. -/
structure Watch where
  /-- free values drawn. -/
  free : Nat
  /-- messages sent. -/
  out : List Out
  /-- registers. -/
  objs : AMap Nat
  /-- BLOB registers. -/
  blobs : AMap (List Byte)
  /-- berth SRAM. -/
  berth : AMap BerthLine
  /-- station area. -/
  station : AMap Byte
  /-- station area in the shadow. -/
  shadow : AMap Byte
  /-- staged lines. -/
  entries : AMap WEntry
  /-- stale markers. -/
  markers : AMap WMarker
  /-- map. -/
  map : AMap Nat
  /-- pages on the media. -/
  store : AMap StoredPage
  /-- dump of the first flush buffer. -/
  dump0 : Option Dump
  /-- dump of the second flush buffer. -/
  dump1 : Option Dump
  /-- directory entries. -/
  dir : AMap DirEntry

/-- The watched part of a state. -/
abbrev State.watch (s : State) : Watch :=
  ⟨s.free, s.out, s.objs, s.blobs, s.hc.berth, s.hm.sram.station, s.hm.shadow.station, s.wharf.entries, s.wharf.markers,
    s.media.map, s.media.store, s.pw.dump0, s.pw.dump1, s.dir.entries⟩

/-- `State.canonical` of the watched part. -/
structure Watch.Canonical (w : Watch) : Prop where
  objs : AMap.wf w.objs = true
  blobs : AMap.wf w.blobs = true
  berth : berthMemWf w.berth = true
  station : stationWf w.station = true
  shadow : stationWf w.shadow = true
  entries : AMap.wf w.entries = true
  markers : AMap.wf w.markers = true
  map : AMap.wf w.map = true
  store : AMap.wf w.store = true
  dump0 : dumpWf w.dump0 = true
  dump1 : dumpWf w.dump1 = true
  dir : AMap.wf w.dir = true
  live : w.dir.all (fun p => decide (p.2.lstate ≠ 0)) = true

theorem canonical_iff (s : State) : s.canonical = true ↔ s.watch.Canonical := by
  simp only [State.canonical, State.regsWf, Memory.wf, Directory.wf, Bool.and_eq_true]
  constructor
  · rintro ⟨⟨⟨⟨⟨a, b⟩, ⟨⟨⟨⟨⟨c, d⟩, e⟩, f⟩, g⟩, h⟩, i⟩, j⟩, k⟩, l, m⟩
    exact ⟨a, b, c, d, e, f, g, h, i, j, k, l, m⟩
  · rintro ⟨a, b, c, d, e, f, g, h, i, j, k, l, m⟩
    exact ⟨⟨⟨⟨⟨a, b⟩, ⟨⟨⟨⟨⟨c, d⟩, e⟩, f⟩, g⟩, h⟩, i⟩, j⟩, k⟩, l, m⟩

/-- What stays from one state to a later one, the parts of the set `w` apart. -/
structure Kept (w : Nat) (r s : State) : Prop where
  frame : s = r.put w s
  free : r.free ≤ s.free
  out : r.out <:+ s.out
  canonical : r.watch.Canonical → s.watch.Canonical

/-- The later state `s` keeps what it should of `r`. -/
def Keeps (w : Nat) (r s : State) : Prop := Kept w r s
/-- The same of a state paired with a result. -/
def Keeps1 {β : Type} (w : Nat) (r : State) (p : State × β) : Prop := Keeps w r p.1
/-- The same of a result paired with a state. -/
def Keeps2 {β : Type} (w : Nat) (r : State) (p : β × State) : Prop := Keeps w r p.2
/-- The same of a state that may be absent. -/
def KeepsO {β : Type} (w : Nat) (r : State) (p : Option (β × State)) : Prop := ∀ q, p = some q → Keeps2 w r q
/-- The same of an outcome's next state. -/
def KeepsOut (w : Nat) (r : State) (o : Host.Outcome State Fault Refusal) : Prop := ∀ t, o = .next t → Keeps w r t

variable {w m : Nat} {r s t : State} {β γ : Type}

theorem Keeps.frame (h : Keeps w r s) : s = r.put w s := Kept.frame h
theorem Keeps.canonical (h : Keeps w r s) (c : r.canonical = true) : s.canonical = true :=
  (canonical_iff s).2 (Kept.canonical h ((canonical_iff r).1 c))
theorem Keeps.rfl' : Keeps w r r := ⟨State.put_self.symm, Nat.le_refl _, List.suffix_refl _, id⟩
theorem put_trans (h : s = r.put w s) (e : t = s.put w t) : t = r.put w t := by
  have := e
  rw [h, State.put_put] at this
  exact this
theorem suffix_of_eq (h : t.out = s.out) : s.out <:+ t.out := h ▸ List.suffix_refl _
/-- A change of the parts of `m` alone. -/
theorem Keeps.step (cw : Covers w m) (h : Keeps w r s) (e : t = s.put m t) (hf : s.free ≤ t.free) (ho : s.out <:+ t.out)
    (hc : s.watch.Canonical → t.watch.Canonical) : Keeps w r t :=
  ⟨put_trans (Kept.frame h) (State.put_covers cw e), Nat.le_trans (Kept.free h) hf, (Kept.out h).trans ho, fun x => hc (Kept.canonical h x)⟩
/-- What an update of parts that are not watched keeps. -/
theorem Keeps.upd (cw : Covers w m) (h : Keeps w r s) (e : t = s.put m t := by rfl) (f : t.watch = s.watch := by rfl) : Keeps w r t :=
  h.step cw e (Nat.le_of_eq (congrArg Watch.free f.symm)) (suffix_of_eq (congrArg Watch.out f)) (fun x => f ▸ x)
theorem Keeps.trans (h : Keeps w r s) (k : Keeps w s t) : Keeps w r t :=
  ⟨put_trans (Kept.frame h) (Kept.frame k), Nat.le_trans (Kept.free h) (Kept.free k), (Kept.out h).trans (Kept.out k), fun x => Kept.canonical k (Kept.canonical h x)⟩
theorem Keeps.mono (cw : Covers w m) (h : Keeps m r s) : Keeps w r s :=
  ⟨State.put_covers cw (Kept.frame h), Kept.free h, Kept.out h, Kept.canonical h⟩

theorem Keeps.ite {c : Prop} {d : Decidable c} {a b : State} (ha : Keeps w r a) (hb : Keeps w r b) : Keeps w r (if c then a else b) := by split <;> assumption
theorem Keeps1.ite {c : Prop} {d : Decidable c} {a b : State × β} (ha : Keeps1 w r a) (hb : Keeps1 w r b) : Keeps1 w r (if c then a else b) := by split <;> assumption
theorem Keeps2.ite {c : Prop} {d : Decidable c} {a b : β × State} (ha : Keeps2 w r a) (hb : Keeps2 w r b) : Keeps2 w r (if c then a else b) := by split <;> assumption
theorem KeepsO.ite {c : Prop} {d : Decidable c} {a b : Option (β × State)} (ha : KeepsO w r a) (hb : KeepsO w r b) : KeepsO w r (if c then a else b) := by split <;> assumption

theorem Keeps.foldl {f : State → β → State} {l : List β} (h : Keeps w r s) (hf : ∀ x a, Keeps w r x → Keeps w r (f x a)) : Keeps w r (l.foldl f s) := by
  induction l generalizing s with
  | nil => exact h
  | cons a l ih => exact ih (hf _ _ h)
theorem Keeps1.foldl {f : State × γ → β → State × γ} {l : List β} {p : State × γ} (h : Keeps1 w r p) (hf : ∀ x a, Keeps1 w r x → Keeps1 w r (f x a)) :
    Keeps1 w r (l.foldl f p) := by
  induction l generalizing p with
  | nil => exact h
  | cons a l ih => exact ih (hf _ _ h)
theorem Keeps2.foldl {f : γ × State → β → γ × State} {l : List β} {p : γ × State} (h : Keeps2 w r p) (hf : ∀ x a, Keeps2 w r x → Keeps2 w r (f x a)) :
    Keeps2 w r (l.foldl f p) := by
  induction l generalizing p with
  | nil => exact h
  | cons a l ih => exact ih (hf _ _ h)

theorem Keeps1.mk {b : β} (h : Keeps w r s) : Keeps1 w r (s, b) := h
theorem Keeps2.mk {b : β} (h : Keeps w r s) : Keeps2 w r (b, s) := h
theorem Keeps1.fst {p : State × β} (h : Keeps1 w r p) : Keeps w r p.1 := h
theorem Keeps2.snd {p : β × State} (h : Keeps2 w r p) : Keeps w r p.2 := h
theorem Keeps1.of_eq {p : State × β} {b : β} (e : p = (s, b)) (h : Keeps1 w r p) : Keeps w r s := by subst e; exact h
theorem Keeps2.of_eq {p : β × State} {b : β} (e : p = (b, s)) (h : Keeps2 w r p) : Keeps w r s := by subst e; exact h
theorem KeepsO.none : KeepsO w r (none : Option (β × State)) := fun _ h => nomatch h
theorem KeepsO.mk {q : β × State} (h : Keeps2 w r q) : KeepsO w r (some q) := fun _ e => Option.some.inj e ▸ h
theorem KeepsO.of_eq {p : Option (β × State)} {b : β} (e : p = some (b, s)) (h : KeepsO w r p) : Keeps w r s := h _ e

theorem KeepsOut.next (h : Keeps w r s) : KeepsOut w r (.next s) := fun _ e => Host.Outcome.next.inj e ▸ h
theorem KeepsOut.ite {c : Prop} {d : Decidable c} {a b : Host.Outcome State Fault Refusal} (ha : KeepsOut w r a) (hb : KeepsOut w r b) :
    KeepsOut w r (if c then a else b) := by split <;> assumption

/-! The primitive updates. -/

theorem setObj_keeps (cw : Covers w 0x8) (h : Keeps w r s) {u o v : Nat} : Keeps w r (s.setObj u o v) :=
  h.step cw rfl (Nat.le_refl _) (List.suffix_refl _) fun c => { c with objs := AMap.wf_set c.objs _ _ }
theorem setBlob_keeps (cw : Covers w 0x10) (h : Keeps w r s) {u o : Nat} {bs : List Byte} : Keeps w r (s.setBlob u o bs) :=
  h.step cw rfl (Nat.le_refl _) (List.suffix_refl _) fun c => { c with blobs := AMap.wf_set c.blobs _ _ }
theorem Kdp.sent_frame (k : Kdp) (p n : Nat) : k.sent p n = { k with net1 := (k.sent p n).net1, net2 := (k.sent p n).net2 } := by
  unfold Kdp.sent; split
  · rfl
  · split <;> rfl
theorem Kdp.received_frame (k : Kdp) (p : Nat) : k.received p = { k with net1 := (k.received p).net1, net2 := (k.received p).net2 } := by
  unfold Kdp.received; split
  · rfl
  · split <;> rfl
theorem emit_keeps (cw : Covers w 0xc0000000000000000000000000000000000000000000000000002) (h : Keeps w r s) {m : Out} : Keeps w r (s.emit m) := by
  refine h.step cw ?_ (Nat.le_refl _) (List.suffix_cons _ _) fun c => { c with }
  unfold State.emit
  rw [Kdp.sent_frame]
  rfl
theorem frameIn_keeps (cw : Covers w 0xc0000000000000000000000000000000000000000000000000000) (h : Keeps w r s) {p : Nat} : Keeps w r (s.frameIn p) := by
  refine h.step cw ?_ (Nat.le_refl _) (List.suffix_refl _) fun c => { c with }
  unfold State.frameIn
  rw [Kdp.received_frame]
  rfl
theorem draw_keeps (cw : Covers w 0x1) (h : Keeps w r s) {m : Nat} : Keeps2 w r (s.draw m) :=
  h.step cw rfl (Nat.le_succ _) (List.suffix_refl _) fun c => { c with }

/-! Changes of the watched tables: `t` is `s` but for them and for parts not watched, and they stay canonical. -/

theorem Keeps.dir (cw : Covers w m) (h : Keeps w r s) (hw : AMap.wf s.dir.entries = true → AMap.wf t.dir.entries = true)
    (hl : s.dir.entries.all (fun p => decide (p.2.lstate ≠ 0)) = true → t.dir.entries.all (fun p => decide (p.2.lstate ≠ 0)) = true)
    (f : t = s.put m t := by rfl) (e : t.watch = { s.watch with dir := t.dir.entries } := by rfl) : Keeps w r t :=
  h.step cw f (Nat.le_of_eq (congrArg Watch.free e.symm)) (suffix_of_eq (congrArg Watch.out e)) fun c => by
    rw [e]; exact { c with dir := hw c.dir, live := hl c.live }

theorem Keeps.wharf (cw : Covers w m) (h : Keeps w r s) (he : AMap.wf s.wharf.entries = true → AMap.wf t.wharf.entries = true)
    (hm : AMap.wf s.wharf.markers = true → AMap.wf t.wharf.markers = true)
    (f : t = s.put m t := by rfl) (e : t.watch = { s.watch with entries := t.wharf.entries, markers := t.wharf.markers } := by rfl) : Keeps w r t :=
  h.step cw f (Nat.le_of_eq (congrArg Watch.free e.symm)) (suffix_of_eq (congrArg Watch.out e)) fun c => by
    rw [e]; exact { c with entries := he c.entries, markers := hm c.markers }

theorem Keeps.media (cw : Covers w m) (h : Keeps w r s) (hm : AMap.wf s.media.map = true → AMap.wf t.media.map = true)
    (hs : AMap.wf s.media.store = true → AMap.wf t.media.store = true)
    (f : t = s.put m t := by rfl) (e : t.watch = { s.watch with map := t.media.map, store := t.media.store } := by rfl) : Keeps w r t :=
  h.step cw f (Nat.le_of_eq (congrArg Watch.free e.symm)) (suffix_of_eq (congrArg Watch.out e)) fun c => by
    rw [e]; exact { c with map := hm c.map, store := hs c.store }

theorem Keeps.hc (cw : Covers w m) (h : Keeps w r s) (hb : berthMemWf s.hc.berth = true → berthMemWf t.hc.berth = true)
    (f : t = s.put m t := by rfl) (e : t.watch = { s.watch with berth := t.hc.berth } := by rfl) : Keeps w r t :=
  h.step cw f (Nat.le_of_eq (congrArg Watch.free e.symm)) (suffix_of_eq (congrArg Watch.out e)) fun c => by
    rw [e]; exact { c with berth := hb c.berth }

theorem Keeps.hm (cw : Covers w m) (h : Keeps w r s)
    (ha : stationWf s.hm.sram.station = true → stationWf s.hm.shadow.station = true → stationWf t.hm.sram.station = true)
    (hb : stationWf s.hm.sram.station = true → stationWf s.hm.shadow.station = true → stationWf t.hm.shadow.station = true)
    (f : t = s.put m t := by rfl) (e : t.watch = { s.watch with station := t.hm.sram.station, shadow := t.hm.shadow.station } := by rfl) : Keeps w r t :=
  h.step cw f (Nat.le_of_eq (congrArg Watch.free e.symm)) (suffix_of_eq (congrArg Watch.out e)) fun c => by
    rw [e]; exact { c with station := ha c.station c.shadow, shadow := hb c.station c.shadow }

theorem Keeps.dumps (cw : Covers w m) (h : Keeps w r s)
    (ha : dumpWf s.pw.dump0 = true → dumpWf s.pw.dump1 = true → berthMemWf s.hc.berth = true → dumpWf t.pw.dump0 = true)
    (hb : dumpWf s.pw.dump0 = true → dumpWf s.pw.dump1 = true → berthMemWf s.hc.berth = true → dumpWf t.pw.dump1 = true)
    (f : t = s.put m t := by rfl) (e : t.watch = { s.watch with dump0 := t.pw.dump0, dump1 := t.pw.dump1 } := by rfl) : Keeps w r t :=
  h.step cw f (Nat.le_of_eq (congrArg Watch.free e.symm)) (suffix_of_eq (congrArg Watch.out e)) fun c => by
    rw [e]; exact { c with dump0 := ha c.dump0 c.dump1 c.berth, dump1 := hb c.dump0 c.dump1 c.berth }

end Sys2Proof.Machine
end

