-- ==== Sys2Proof/Laws/KeepsOps.lean ====
section
/-! SUPPORT. What the registers, the recorder, the counter unit, KDP and the harbourmaster keep: one lemma per operation (Laws/Keeps.lean). -/
set_option linter.unusedVariables false
set_option maxRecDepth 4000
set_option Elab.async false
namespace Sys2Proof.Machine
open Sys2Proof

theorem setR_keeps {W : Nat} {r : State} {s1 a2 a3} (cw : Covers W 0x8) (h1 : Keeps W r s1) : Keeps W r (State.setR s1 a2 a3) := setObj_keeps (cw.le rfl) h1
theorem bumpN_keeps {W : Nat} {r : State} {s1 a2 a3 a4} (cw : Covers W 0x8) (h1 : Keeps W r s1) : Keeps W r (State.bumpN s1 a2 a3 a4) := setObj_keeps (cw.le rfl) h1
theorem bump_keeps {W : Nat} {r : State} {s1 a2 a3} (cw : Covers W 0x8) (h1 : Keeps W r s1) : Keeps W r (State.bump s1 a2 a3) := bumpN_keeps (cw.le rfl) h1
theorem bumpR_keeps {W : Nat} {r : State} {s1 a2} (cw : Covers W 0x8) (h1 : Keeps W r s1) : Keeps W r (State.bumpR s1 a2) := bumpN_keeps (cw.le rfl) h1
theorem raiseTo_keeps {W : Nat} {r : State} {s1 a2 a3 a4} (cw : Covers W 0x8) (h1 : Keeps W r s1) : Keeps W r (State.raiseTo s1 a2 a3 a4) := .ite (setObj_keeps (cw.le rfl) h1) h1
theorem emits_keeps {W : Nat} {r : State} {s1 a2} (cw : Covers W 0xc0000000000000000000000000000000000000000000000000002) (h1 : Keeps W r s1) : Keeps W r (State.emits s1 a2) := .foldl h1 (fun _ _ k3 => emit_keeps (cw.le rfl) k3)
theorem capturePads_keeps {W : Nat} {r : State} {s1} (cw : Covers W 0xc0000000000000000000000000000000000000000000000000) (h1 : Keeps W r s1) : Keeps W r (capturePads s1) := .upd cw h1
theorem fireTrigger_keeps {W : Nat} {r : State} {s1 a2} (cw : Covers W 0x18) (h1 : Keeps W r s1) : Keeps W r (fireTrigger s1 a2) := by
  delta fireTrigger
  extract_lets +onlyGivenNames v1 v2
  have k3 : Keeps W r v2 := bumpR_keeps (cw.le rfl) h1
  clear_value v2
  exact .ite (setBlob_keeps (cw.le rfl) k3) k3
theorem deliver_keeps {W : Nat} {r : State} {s1 a2} (cw : Covers W 0x400000000000000000000000000000000000000000000000000) (h1 : Keeps W r s1) : Keeps W r (deliver s1 a2) := by
  delta deliver
  extract_lets +onlyGivenNames v1
  exact .upd cw h1
theorem flushBuffer_keeps {W : Nat} {r : State} {s1} (cw : Covers W 0x7000000000000000000000000000000000000000000000000000000000008) (h1 : Keeps W r s1) : Keeps W r (flushBuffer s1) := by
  delta flushBuffer
  extract_lets +onlyGivenNames v1 v2
  refine .ite h1 ?_
  extract_lets +onlyGivenNames v3 v4 v5
  have k6 : Keeps W r v5 := .upd cw h1
  clear_value v5
  exact bumpR_keeps (cw.le rfl) k6
theorem flushIfOpen_keeps {W : Nat} {r : State} {s1} (cw : Covers W 0x7000000000000000000000000000000000000000000000000000000000008) (h1 : Keeps W r s1) : Keeps W r (flushIfOpen s1) := .ite (flushBuffer_keeps (cw.le rfl) h1) h1
theorem bufferAdd_add_keeps {W : Nat} {r : State} {s1 a2} (cw : Covers W 0x3fe00000000400000000000000000000000000000000000000000000000018) (h1 : Keeps W r s1) : Keeps W r (bufferAdd.add s1 a2) := by
  delta bufferAdd.add
  split
  · rename_i t1 x2 t3 e4
    have k5 : Keeps W r t3 := by
      refine Keeps2.of_eq e4 ?_
      split
      · exact Keeps2.mk (fireTrigger_keeps (cw.le rfl) h1)
      · exact Keeps2.mk h1
    extract_lets +onlyGivenNames v6 v7 v8
    have k9 : Keeps W r v8 := .ite (bumpR_keeps (cw.le rfl) k5) k5
    clear_value v8
    extract_lets +onlyGivenNames v10 v11 v12
    have k13 : Keeps W r v12 := .upd cw k9
    clear_value v12
    extract_lets +onlyGivenNames v14
    have k15 : Keeps W r v14 := deliver_keeps (cw.le rfl) k13
    clear_value v14
    exact .ite (flushIfOpen_keeps (cw.le rfl) k15) k15
theorem bufferAdd_keeps {W : Nat} {r : State} {s1 a2} (cw : Covers W 0x3fe00000000400000000000000000000000000000000000000000000000018) (h1 : Keeps W r s1) : Keeps W r (bufferAdd s1 a2) := by
  delta bufferAdd
  extract_lets +onlyGivenNames v1
  split
  · exact .ite (.upd cw h1) (bufferAdd_add_keeps (cw.le rfl) h1)
  · exact bufferAdd_add_keeps (cw.le rfl) h1
theorem noteWarning_keeps {W : Nat} {r : State} {s1 a2 a3} (cw : Covers W 0x8) (h1 : Keeps W r s1) : Keeps W r (noteWarning s1 a2 a3) := .ite (.foldl h1 (fun _ _ k3 => setObj_keeps (cw.le rfl) k3)) h1
theorem endFreeze_keeps {W : Nat} {r : State} {s1 a2} (cw : Covers W 0x3fe00000000400000000000000000000000000000000000000000000000018) (h1 : Keeps W r s1) : Keeps W r (endFreeze s1 a2) := by
  delta endFreeze
  split
  · exact h1
  · extract_lets +onlyGivenNames v1 v2 v3
    have k4 : Keeps W r v3 := .upd cw h1
    clear_value v3
    extract_lets +onlyGivenNames v5
    have k6 : Keeps W r v5 := setR_keeps (cw.le rfl) k4
    clear_value v5
    extract_lets +onlyGivenNames v7
    exact .ite (bufferAdd_keeps (cw.le rfl) k6) k6
theorem recordWith_keeps {W : Nat} {r : State} {a1 s2 a3 a4 a5 a6} (cw : Covers W 0x3fe00002000400000000000000000000000000000000000000000000000018) (h2 : Keeps W r s2) : Keeps W r (recordWith a1 s2 a3 a4 a5 a6) := by
  delta recordWith
  extract_lets +onlyGivenNames v1
  have k2 : Keeps W r v1 := noteWarning_keeps (cw.le rfl) h2
  clear_value v1
  extract_lets +onlyGivenNames v3 v4 v5 v6
  have k7 : Keeps W r v6 := .ite (.upd cw k2) k2
  clear_value v6
  refine .ite k7 ?_
  refine .ite ?_ (bufferAdd_keeps (cw.le rfl) k7)
  refine .ite ?_ (bumpR_keeps (cw.le rfl) k7)
  extract_lets +onlyGivenNames v8 v9
  have k10 : Keeps W r v9 := bufferAdd_keeps (cw.le rfl) k7
  clear_value v9
  exact flushIfOpen_keeps (cw.le rfl) (endFreeze_keeps (cw.le rfl) k10)
theorem record_keeps {W : Nat} {r : State} {s1 a2 a3 a4 a5} (cw : Covers W 0x3fe00002000400000000000000000000000000000000000000000000000018) (h1 : Keeps W r s1) : Keeps W r (record s1 a2 a3 a4 a5) := recordWith_keeps (cw.le rfl) h1
theorem recordHm_keeps {W : Nat} {r : State} {s1 a2 a3 a4 a5} (cw : Covers W 0x3fe00002000400000000000000000000000000000000000000000000000018) (h1 : Keeps W r s1) : Keeps W r (recordHm s1 a2 a3 a4 a5) := recordWith_keeps (cw.le rfl) h1
theorem track_keeps {W : Nat} {r : State} {a1 s2 s3} (cw : Covers W 0x8) (h2 : Keeps W r s2) (h3 : Keeps W r s3) : Keeps W r (track a1 s2 s3) := .foldl h3 (fun _ _ k3 => .ite (setObj_keeps (cw.le rfl) (bump_keeps (cw.le rfl) k3)) k3)
theorem abandonSamples_keeps {W : Nat} {r : State} {s1} (cw : Covers W 0x40000000000000000000000000000000000000000000000000000000000008) (h1 : Keeps W r s1) : Keeps W r (abandonSamples s1) := by
  delta abandonSamples
  extract_lets +onlyGivenNames v1
  have k2 : Keeps W r v1 := bumpN_keeps (cw.le rfl) h1
  exact .upd cw k2
theorem armSample_keeps {W : Nat} {r : State} {s1 a2 a3} (cw : Covers W 0x40000000000000000000000000000000000000000000000000000000000008) (h1 : Keeps W r s1) : Keeps W r (armSample s1 a2 a3) := .ite (bump_keeps (cw.le rfl) h1) (.upd cw h1)
theorem pcOverflow_keeps {W : Nat} {r : State} {s1 a2 a3} (cw : Covers W 0x7fe00002000400000000000000000000000000000000000000000000000018) (h1 : Keeps W r s1) : Keeps W r (pcOverflow s1 a2 a3) := by
  delta pcOverflow
  extract_lets +onlyGivenNames v1 v2
  have k3 : Keeps W r v2 := setObj_keeps (cw.le rfl) h1
  clear_value v2
  extract_lets +onlyGivenNames v4
  have k5 : Keeps W r v4 := bump_keeps (cw.le rfl) k3
  clear_value v4
  extract_lets +onlyGivenNames v6
  have k7 : Keeps W r v6 := by
    unfold v6
    split
    · rename_i x8 x9
      exact .ite (armSample_keeps (cw.le rfl) k5) k5
    · rename_i x10
      exact k5
  clear_value v6
  exact .ite (record_keeps (cw.le rfl) (abandonSamples_keeps (cw.le rfl) (setObj_keeps (cw.le rfl) k7))) k7
theorem pcAdd_keeps {W : Nat} {r : State} {s1 a2 a3 a4} (cw : Covers W 0x7fe00002000400000000000000000000000000000000000000000000000018) (h1 : Keeps W r s1) : Keeps W r (pcAdd s1 a2 a3 a4) := by
  delta pcAdd
  extract_lets +onlyGivenNames v1
  refine .ite (setObj_keeps (cw.le rfl) h1) ?_
  extract_lets +onlyGivenNames v2
  exact pcOverflow_keeps (cw.le rfl) (setObj_keeps (cw.le rfl) h1)
theorem pcCount_keeps {W : Nat} {r : State} {s1 a2 a3 a4 a5} (cw : Covers W 0x7fe00002000400000000000000000000000000000000000000000000000018) (h1 : Keeps W r s1) : Keeps W r (pcCount s1 a2 a3 a4 a5) := .ite h1 (.foldl h1 (fun _ _ k3 => .ite (pcAdd_keeps (cw.le rfl) k3) k3))
theorem pushSample_keeps {W : Nat} {r : State} {s1 a2} (cw : Covers W 0x180000000000000000000000000000000000000000000000000000000000008) (h1 : Keeps W r s1) : Keeps W r (pushSample s1 a2) := by
  delta pushSample
  extract_lets +onlyGivenNames v1
  have k2 : Keeps W r v1 := bump_keeps (cw.le rfl) h1
  exact .upd cw k2
theorem sampleStep_keeps {W : Nat} {r : State} {s1 a2 a3 a4 a5 a6 a7} (cw : Covers W 0x1c0000000000000000000000000000000000000000000000000000000000008) (h1 : Keeps W r s1) : Keeps W r (sampleStep s1 a2 a3 a4 a5 a6 a7) := by
  delta sampleStep
  refine .ite h1 ?_
  refine .foldl h1 ?_
  intro _ _ k3
  extract_lets +onlyGivenNames v4 v5 v6
  exact .ite (pushSample_keeps (cw.le rfl) (.upd cw k3)) (.upd cw k3)
theorem bwAdd_keeps {W : Nat} {r : State} {s1 a2 a3 a4} (cw : Covers W 0x200000000000000000000000000000000000000000000000000000000000000) (h1 : Keeps W r s1) : Keeps W r (bwAdd s1 a2 a3 a4) := by
  delta bwAdd
  extract_lets +onlyGivenNames v1
  refine .ite h1 ?_
  extract_lets +onlyGivenNames v2
  exact .upd cw h1
theorem updSession_keeps {W : Nat} {r : State} {s1 a2 a3} (cw : Covers W 0x400000000000000000000000000000000000000000000000000) (h1 : Keeps W r s1) : Keeps W r (updSession s1 a2 a3) := .upd cw h1
theorem exportRead_keeps {W : Nat} {r : State} {s1 a2 a3} (cw : Covers W 0x8) (h1 : Keeps W r s1) : Keeps1 W r (exportRead s1 a2 a3) := by
  delta exportRead
  refine .ite ?_ ?_
  · split
    · extract_lets +onlyGivenNames v1
      exact Keeps1.mk (setR_keeps (cw.le rfl) (bumpN_keeps (cw.le rfl) h1))
  · refine .ite ?_ ?_
    · split
      · extract_lets +onlyGivenNames v2 v3
        exact Keeps1.mk (setR_keeps (cw.le rfl) (bumpN_keeps (cw.le rfl) h1))
    · refine .ite ?_ (.ite (Keeps1.mk h1) (Keeps1.mk h1))
      split
      · extract_lets +onlyGivenNames v4
        exact Keeps1.mk (setObj_keeps (cw.le rfl) (bumpN_keeps (cw.le rfl) h1))
theorem opOnUnit_keeps {W : Nat} {r : State} {a1 a2 a3 a4 a5 a6 a7 s8} (cw : Covers W 0x8) (h7 : ∀ y1 y2 y3, Keeps W r y3 → Keeps1 W r (a7 y1 y2 y3)) (h8 : Keeps W r s8) : Keeps1 W r (opOnUnit a1 a2 a3 a4 a5 a6 a7 s8) := by
  delta opOnUnit
  split
  · exact Keeps1.mk h8
  · extract_lets +onlyGivenNames v1
    split
    · split
      · rename_i t2 t3 x4 e5
        have k6 : Keeps W r t3 := Keeps1.of_eq e5 (exportRead_keeps (cw.le rfl) h8)
        exact .ite (Keeps1.mk h8) (Keeps1.mk k6)
      · rename_i t7 t8 x9 e10
        have k11 : Keeps W r t8 := Keeps1.of_eq e10 (exportRead_keeps (cw.le rfl) h8)
        exact Keeps1.mk k11
      · rename_i t12 t13 x14 e15
        have k16 : Keeps W r t13 := Keeps1.of_eq e15 (exportRead_keeps (cw.le rfl) h8)
        exact Keeps1.mk h8
    · refine .ite (Keeps1.mk h8) ?_
      split
      · rename_i t17 t18 x19 e20
        have k21 : Keeps W r t18 := Keeps1.of_eq e20 (h7 _ _ _ h8)
        exact Keeps1.mk k21
    · refine .ite (Keeps1.mk h8) ?_
      split
      · rename_i t22 t23 x24 e25
        have k26 : Keeps W r t23 := Keeps1.of_eq e25 (h7 _ _ _ h8)
        exact Keeps1.mk k26
theorem objectRequest_keeps {W : Nat} {r : State} {a1 a2 a3 a4 a5 a6 a7 a8 s9} (cw : Covers W 0x8) (h8 : ∀ y1 y2 y3, Keeps W r y3 → Keeps1 W r (a8 y1 y2 y3)) (h9 : Keeps W r s9) : Keeps1 W r (objectRequest a1 a2 a3 a4 a5 a6 a7 a8 s9) := by
  delta objectRequest
  extract_lets +onlyGivenNames v1
  split
  · exact Keeps1.mk h9
  · refine .ite ?_ ?_
    · extract_lets +onlyGivenNames v2 v3
      refine .ite (Keeps1.mk h9) ?_
      split
      · rename_i t4 t5 x6 e7
        have k20 : Keeps W r t5 := by
          refine Keeps1.of_eq e7 ?_
          refine .foldl (Keeps1.mk h9) ?_
          intro _ _ k10
          split
          · rename_i t11 t12 x13 e14
            have k19 : Keeps W r t12 := Keeps1.of_eq e14 (opOnUnit_keeps (cw.le rfl) (fun _ _ _ k18 => h8 _ _ _ k18) (Keeps1.fst k10))
            exact Keeps1.mk k19
        exact Keeps1.mk k20
    · split
      · split
        · rename_i t21 t22 x23 e24
          have k29 : Keeps W r t22 := Keeps1.of_eq e24 (opOnUnit_keeps (cw.le rfl) (fun _ _ _ k28 => h8 _ _ _ k28) h9)
          exact Keeps1.mk k29
      · exact Keeps1.mk h9
theorem countFrame_keeps {W : Nat} {r : State} {s1 a2} (cw : Covers W 0xc8000000000000000000000000000000000000000000000000000) (h1 : Keeps W r s1) : Keeps W r (countFrame s1 a2) := .ite (.upd cw h1) (frameIn_keeps (cw.le rfl) h1)
theorem kdpTake_keeps {W : Nat} {r : State} {a1 a2 a3 s4} (cw : Covers W 0xc0400000000000000000000000000000000000000000000000002) (h4 : Keeps W r s4) : Keeps W r (kdpTake a1 a2 a3 s4) := emit_keeps (cw.le rfl) (updSession_keeps (cw.le rfl) h4)
theorem holdRequest_keeps {W : Nat} {r : State} {a1 a2 a3 s4} (cw : Covers W 0x20000000000000000000400000000000000000000000000000000000000000000000000) (h4 : Keeps W r s4) : Keeps W r (holdRequest a1 a2 a3 s4) := by
  delta holdRequest
  extract_lets +onlyGivenNames v1
  have k1 : Keeps W r v1 := updSession_keeps (cw.le rfl) h4
  exact .upd cw k1
theorem kdpRequest_keeps {W : Nat} {r : State} {a1 a2 a3 s4} (cw : Covers W 0x200000000000000000c840000000000000000000000000000000000000000000000000a) (h3 : ∀ y1 y2, Keeps W r y2 → Keeps1 W r (a3 y1 y2)) (h4 : Keeps W r s4) : Keeps W r (kdpRequest a1 a2 a3 s4) := by
  delta kdpRequest
  refine .ite h4 ?_
  split
  · exact bumpR_keeps (cw.le rfl) h4
  · refine .ite h4 ?_
    extract_lets +onlyGivenNames w1 v1
    have k2 : Keeps W r v1 := countFrame_keeps (cw.le rfl) h4
    clear_value v1
    refine .ite k2 (.ite (bumpR_keeps (cw.le rfl) k2) (.ite (bumpR_keeps (cw.le rfl) k2) ?_))
    extract_lets +onlyGivenNames v3
    refine .ite (bumpR_keeps (cw.le rfl) k2) ?_
    refine .ite ?_ (.ite (.ite (Keeps1.fst (h3 _ _ (kdpTake_keeps (cw.le rfl) k2))) (kdpTake_keeps (cw.le rfl) k2)) (.ite (holdRequest_keeps (cw.le rfl) k2) (bumpR_keeps (cw.le rfl) k2)))
    split
    · exact emit_keeps (cw.le rfl) k2
    · exact bumpR_keeps (cw.le rfl) k2
theorem kdpObject_keeps {W : Nat} {r : State} {a1 a2 a3 a4 a5 s6} (cw : Covers W 0x200000000000000000c840000000000000000000000000000000000000000000000000a) (h5 : ∀ y1 y2 y3, Keeps W r y3 → Keeps1 W r (a5 y1 y2 y3)) (h6 : Keeps W r s6) : Keeps W r (kdpObject a1 a2 a3 a4 a5 s6) := kdpRequest_keeps (cw.le rfl) (fun _ _ k3 => objectRequest_keeps (cw.le rfl) (fun _ _ _ k7 => h5 _ _ _ k7) k3) h6
theorem startRun_keeps {W : Nat} {r : State} {a1 a2 a3 s4} (cw : Covers W 0x20000000000000000000000000000000000000000000000000000) (h4 : Keeps W r s4) : Keeps W r (startRun a1 a2 a3 s4) := by
  delta startRun
  extract_lets +onlyGivenNames v1
  refine .ite h4 ?_
  extract_lets +onlyGivenNames v2
  exact .upd cw h4
theorem endRun_keeps {W : Nat} {r : State} {a1 a2 a3 s4} (cw : Covers W 0x20000000000000000000000000000000000000000000000000000) (h4 : Keeps W r s4) : Keeps W r (endRun a1 a2 a3 s4) := by
  delta endRun
  split
  · exact .ite (.upd cw h4) h4
  · exact h4
theorem runCommand_keeps {W : Nat} {r : State} {a1 a2 a3 a4 a5 s6} (cw : Covers W 0x20000000000000000000000000000000000000000000000000000) (h3 : ∀ y1 y2 y3, Keeps W r y3 → Keeps1 W r (a3 y1 y2 y3)) (h6 : Keeps W r s6) : Keeps1 W r (runCommand a1 a2 a3 a4 a5 s6) := by
  delta runCommand
  extract_lets +onlyGivenNames v1
  split
  · refine .ite (h3 _ _ _ h6) ?_
    split
    · exact Keeps1.mk (.upd cw h6)
    · refine .ite (.ite (Keeps1.mk h6) (.ite ?_ (Keeps1.mk h6))) ?_
      · split
        · rename_i t2 t3 x4 e5
          have k6 : Keeps W r t3 := Keeps1.of_eq e5 (h3 _ _ _ h6)
          refine .ite ?_ (Keeps1.mk k6)
          extract_lets +onlyGivenNames v7
          exact Keeps1.mk (.upd cw k6)
      · split
        · rename_i t8 t9 x10 e11
          have k12 : Keeps W r t9 := Keeps1.of_eq e11 (h3 _ _ _ h6)
          exact Keeps1.mk (startRun_keeps (cw.le rfl) k12)
  · split
    · rename_i t13 t14 x15 e16
      have k17 : Keeps W r t14 := Keeps1.of_eq e16 (h3 _ _ _ h6)
      exact Keeps1.mk (startRun_keeps (cw.le rfl) k17)
theorem plainWrite_keeps {W : Nat} {r : State} {a1 a2 s3} (cw : Covers W 0x18) (h3 : Keeps W r s3) : Keeps1 W r (plainWrite a1 a2 s3) := by
  delta plainWrite
  split
  · exact Keeps1.mk (setObj_keeps (cw.le rfl) h3)
  · exact Keeps1.mk (setBlob_keeps (cw.le rfl) h3)
theorem closeSession_keeps {W : Nat} {r : State} {s1 a2 a3 a4} (cw : Covers W 0x2003fe000020e440000000000000000000000000000000000000000000000001a) (h1 : Keeps W r s1) : Keeps W r (closeSession s1 a2 a3 a4) := by
  delta closeSession
  split
  · exact h1
  · extract_lets +onlyGivenNames v6 v7 v8 v9 v10 v11
    have k12 : Keeps W r v6 := h1
    clear_value v6
    have k13 : Keeps W r v7 := .ite (emit_keeps (cw.le rfl) h1) h1
    have k14 : Keeps W r v9 := .upd cw k13
    have k20 : Keeps W r v11 := by
      unfold v11
      split
      · exact .ite (.upd cw k14) k14
      · exact k14
    extract_lets +onlyGivenNames v21 v22
    have k23 : Keeps W r v22 := .ite (.upd cw k20) k20
    extract_lets +onlyGivenNames v24
    have k25 : Keeps W r v24 := .ite (endFreeze_keeps (cw.le rfl) k23) k23
    clear_value v24
    exact track_keeps (cw.le rfl) k12 (record_keeps (cw.le rfl) k25)
theorem endLoop_keeps {W : Nat} {r : State} {s1 a2 a3} (cw : Covers W 0x3000000000020000000000000000000000000000000000000000000000000010) (h1 : Keeps W r s1) : Keeps W r (endLoop s1 a2 a3) := by
  delta endLoop
  extract_lets +onlyGivenNames v1 v2
  have k3 : Keeps W r v2 := .upd cw h1
  clear_value v2
  exact endRun_keeps (cw.le rfl) (setBlob_keeps (cw.le rfl) k3)
theorem abortLoop_keeps {W : Nat} {r : State} {s1 a2} (cw : Covers W 0x3000000000020000000000000000000000000000000000000000000000000011) (h1 : Keeps W r s1) : Keeps W r (abortLoop s1 a2) := by
  delta abortLoop
  split
  · exact h1
  · split
    · rename_i t1 x2 t3 e4
      have k5 : Keeps W r t3 := Keeps2.of_eq e4 (draw_keeps (cw.le rfl) h1)
      split
      · rename_i t6 x7 t8 e9
        have k10 : Keeps W r t8 := Keeps2.of_eq e9 (draw_keeps (cw.le rfl) k5)
        split
        · rename_i t11 x12 t13 e14
          have k15 : Keeps W r t13 := Keeps2.of_eq e14 (draw_keeps (cw.le rfl) k10)
          exact endLoop_keeps (cw.le rfl) k15
theorem abortTest_keeps {W : Nat} {r : State} {s1 a2 a3 a4} (cw : Covers W 0x20000000000000000000000000000000000000000000000000011) (h1 : Keeps W r s1) : Keeps W r (abortTest s1 a2 a3 a4) := by
  delta abortTest
  split
  · rename_i t1 x2 t3 e4
    have k5 : Keeps W r t3 := Keeps2.of_eq e4 (draw_keeps (cw.le rfl) h1)
    split
    · rename_i t6 x7 t8 e9
      have k10 : Keeps W r t8 := Keeps2.of_eq e9 (draw_keeps (cw.le rfl) k5)
      split
      · rename_i t11 x12 t13 e14
        have k15 : Keeps W r t13 := Keeps2.of_eq e14 (draw_keeps (cw.le rfl) k10)
        exact endRun_keeps (cw.le rfl) (setBlob_keeps (cw.le rfl) k15)
theorem abortSram_keeps {W : Nat} {r : State} {s1} (cw : Covers W 0x4000000000020000000000000000000000000000000000000000000000000011) (h1 : Keeps W r s1) : Keeps W r (abortSram s1) := .ite (abortTest_keeps (cw.le rfl) (.upd cw h1)) h1
theorem abortStackTest_keeps {W : Nat} {r : State} {s1 a2} (cw : Covers W 0x8000000000020000000000000000000000000000000000000000000000000011) (h1 : Keeps W r s1) : Keeps W r (abortStackTest s1 a2) := .ite (abortTest_keeps (cw.le rfl) (.upd cw h1)) h1
theorem abortHbmTest_keeps {W : Nat} {r : State} {s1 a2} (cw : Covers W 0x10000000000020000000000000000000000000000000000000000000000000011) (h1 : Keeps W r s1) : Keeps W r (abortHbmTest s1 a2) := .ite (abortTest_keeps (cw.le rfl) (.upd cw h1)) h1
theorem abortTests_keeps {W : Nat} {r : State} {s1} (cw : Covers W 0x1f000000000020000000000000000000000000000000000000000000000000011) (h1 : Keeps W r s1) : Keeps W r (abortTests s1) := by
  delta abortTests
  extract_lets +onlyGivenNames v1
  have k2 : Keeps W r v1 := .foldl h1 (fun _ _ k5 => abortLoop_keeps (cw.le rfl) k5)
  clear_value v1
  extract_lets +onlyGivenNames v6
  have k7 : Keeps W r v6 := .foldl (abortSram_keeps (cw.le rfl) k2) (fun _ _ k10 => abortStackTest_keeps (cw.le rfl) k10)
  clear_value v6
  exact .foldl k7 (fun _ _ k13 => abortHbmTest_keeps (cw.le rfl) k13)
theorem abortDestructive_keeps {W : Nat} {r : State} {s1} (cw : Covers W 0x17000000000020000000000000000000000000000000000000000000000000011) (h1 : Keeps W r s1) : Keeps W r (abortDestructive s1) := by
  delta abortDestructive
  extract_lets +onlyGivenNames v1
  have k2 : Keeps W r v1 := .foldl h1 (fun _ _ k5 => abortLoop_keeps (cw.le rfl) k5)
  clear_value v1
  exact .foldl (.ite (abortSram_keeps (cw.le rfl) k2) k2) (fun _ _ k8 => abortHbmTest_keeps (cw.le rfl) k8)
theorem startStore_keeps {W : Nat} {r : State} {s1} (cw : Covers W 0xf0000000000000000000000000000000000000000000000000000008) (h1 : Keeps W r s1) : Keeps W r (startStore s1) := by
  delta startStore
  extract_lets +onlyGivenNames v1
  have k2 : Keeps W r v1 := setObj_keeps (cw.le rfl) h1
  exact .upd cw k2
theorem requestStore_keeps {W : Nat} {r : State} {s1} (cw : Covers W 0xf0000000000000000000000000000000000000000000000000000008) (h1 : Keeps W r s1) : Keeps W r (requestStore s1) := by
  delta requestStore
  refine .ite ?_ (startStore_keeps (cw.le rfl) h1)
  extract_lets +onlyGivenNames v1
  have k2 : Keeps W r v1 := bump_keeps (cw.le rfl) h1
  exact .upd cw k2
theorem syncKeyLog_keeps {W : Nat} {r : State} {s1 a2} (cw : Covers W 0x8000000000000000000000000000000000000000000000000000000000000000000000) (h1 : Keeps W r s1) : Keeps W r (syncKeyLog s1 a2) :=
  .ite (.upd cw h1) (.ite (.upd cw h1) h1)
theorem syncRec_keeps {W : Nat} {r : State} {s1 a2} (cw : Covers W 0x80000000000000f0800000000000000000000000000000000000000000000000000008) (h1 : Keeps W r s1) : Keeps W r (syncRec s1 a2) := by
  delta syncRec
  refine .ite h1 ?_
  extract_lets +onlyGivenNames v0 v1
  have k0 : Keeps W r v0 := syncKeyLog_keeps (cw.le rfl) h1
  split
  · refine .ite k0 ?_
    extract_lets +onlyGivenNames v2 v3 v4 v5
    have k6 : Keeps W r v5 := setObj_keeps (cw.le rfl) k0
    exact requestStore_keeps (cw.le rfl) (.upd cw k6)
theorem syncRecs_keeps {W : Nat} {r : State} {s1 a2} (cw : Covers W 0x80000000000000f0800000000000000000000000000000000000000000000000000008) (h1 : Keeps W r s1) : Keeps W r (syncRecs s1 a2) := .foldl h1 (fun _ _ k1 => syncRec_keeps (cw.le rfl) k1)
theorem configChanged_keeps {W : Nat} {r : State} {s1} (cw : Covers W 0x80000000000100f0800000000000000000000000000000000000000000000000000008) (h1 : Keeps W r s1) : Keeps W r (configChanged s1) := syncRec_keeps (cw.le rfl) (.upd cw h1)
theorem stationWf_set {m : AMap Byte} (h : stationWf m = true) {i : Nat} {v : Byte} (hv : v ≠ 0) : stationWf (AMap.set m i v) = true := by
  simp only [stationWf, Bool.and_eq_true] at h ⊢
  exact ⟨AMap.wf_set h.1 i v, AMap.all_set h.2 (by simpa using hv)⟩
theorem stationWf_del {m : AMap Byte} (h : stationWf m = true) (i : Nat) : stationWf (AMap.del m i) = true := by
  simp only [stationWf, Bool.and_eq_true] at h ⊢
  exact ⟨AMap.wf_del h.1 i, AMap.all_del h.2 i⟩
theorem stationWf_filter {m : AMap Byte} (h : stationWf m = true) (f : Nat × Byte → Bool) : stationWf (m.filter f) = true := by
  simp only [stationWf, Bool.and_eq_true] at h ⊢
  exact ⟨AMap.wf_filter h.1 f, AMap.all_filter h.2 f⟩
theorem stationWf_merge {l m : AMap Byte} (hl : ∀ p ∈ l, p.2 ≠ 0) (h : stationWf m = true) :
    stationWf (l.foldl (fun m p => AMap.set m p.1 p.2) m) = true := by
  induction l generalizing m with
  | nil => exact h
  | cons p l ih => exact ih (fun q hq => hl q (List.mem_cons_of_mem _ hq)) (stationWf_set h (hl p List.mem_cons_self))
theorem storeImage_station {old new : HmImage} {bad : List Nat} (ho : stationWf old.station = true) (hn : stationWf new.station = true) :
    stationWf (storeImage old new bad).station = true := by
  unfold storeImage
  split
  · exact hn
  · refine stationWf_merge (fun p hp => ?_) (stationWf_filter ho _)
    have h := (List.mem_filter.1 hp).1
    simp only [stationWf, Bool.and_eq_true, List.all_eq_true, decide_eq_true_eq] at hn
    exact hn.2 p h
theorem storeDone_keeps {W : Nat} {r s : State} {bad} (cw : Covers W 0x3fe001ffc20400000000000000000000000000000000000000000000000018) (h : Keeps W r s) : Keeps W r (storeDone s bad) := by
  delta storeDone
  extract_lets +onlyGivenNames s0 m1 img m2 s1 s2 s3 s4 s5
  have h1 : Keeps W r s1 := .hm cw h (fun a _ => a) (fun a b => storeImage_station b a)
  have h2 : Keeps W r s2 := bump_keeps (cw.le rfl) h1
  have h3 : Keeps W r s3 := .foldl h2 fun _ _ k => recordHm_keeps (cw.le rfl) k
  have h4 : Keeps W r s4 := .ite h3 (endRun_keeps (cw.le rfl) h3)
  have h5 : Keeps W r s5 := .ite (startStore_keeps (cw.le rfl) h4) h4
  exact track_keeps (cw.le rfl) h h5
theorem storeNow_keeps {W : Nat} {r : State} {s1} (cw : Covers W 0x3fe001ffc20400000000000000000000000000000000000000000000000018) (h1 : Keeps W r s1) : Keeps W r (storeNow s1) := by
  delta storeNow
  refine storeDone_keeps (cw.le rfl) ?_
  extract_lets +onlyGivenNames v1
  have k2 : Keeps W r v1 := setObj_keeps (cw.le rfl) h1
  exact .upd cw k2
theorem saturate_keeps {W : Nat} {r : State} {s1 a2 a3} (cw : Covers W 0x3fe00802000400000000000000000000000000000000000000000000000018) (h1 : Keeps W r s1) : Keeps W r (saturate s1 a2 a3) := by
  delta saturate
  extract_lets +onlyGivenNames v1
  refine .ite h1 ?_
  extract_lets +onlyGivenNames v2 v3
  have k4 : Keeps W r v3 := .upd cw h1
  clear_value v3
  exact recordHm_keeps (cw.le rfl) (setObj_keeps (cw.le rfl) k4)
theorem writeOpsec_keeps {W : Nat} {r : State} {s1} (cw : Covers W 0x4400000000000000000000000000000000000000000000000000000000) (h1 : Keeps W r s1) : Keeps W r (writeOpsec s1) := by
  delta writeOpsec
  split
  · exact .ite (.upd cw h1) (.upd cw h1)
  · exact .upd cw h1
theorem opSecond_keeps {W : Nat} {r : State} {s1} (cw : Covers W 0x3fe06802000400000000000000000000000000000000000000000000000018) (h1 : Keeps W r s1) : Keeps W r (opSecond s1) := .ite h1 (.ite (saturate_keeps (cw.le rfl) h1) (.upd cw h1))
theorem addRemap_keeps {W : Nat} {r : State} {s1 a2 a3 a4} (cw : Covers W 0xf1000000000000000000000000000000000000000000000000000008) (h1 : Keeps W r s1) : Keeps W r (addRemap s1 a2 a3 a4) := by
  delta addRemap
  split
  · exact requestStore_keeps (cw.le rfl) (.upd cw h1)
  · exact h1
theorem windowWrite_station {l : List (Byte × Nat)} {k : Byte × Nat → Nat} {m : AMap Byte} (h : stationWf m = true) :
    stationWf (l.foldl (fun m p => if p.1 = 0 then AMap.del m (k p) else AMap.set m (k p) p.1) m) = true := by
  induction l generalizing m with
  | nil => exact h
  | cons p l ih =>
    rw [List.foldl_cons]
    by_cases hp : p.1 = 0
    · rw [if_pos hp]; exact ih (stationWf_del h _)
    · rw [if_neg hp]; exact ih (stationWf_set h hp)
theorem windowWrite_keeps {W : Nat} {r s : State} {a bs} (cw : Covers W 0x4000000000000000000000000000000000000000000000000000000) (h : Keeps W r s) : Keeps W r (windowWrite s a bs) :=
  .hm cw h (fun a _ => windowWrite_station a) (fun _ b => b)
theorem dumpWf_map {d : Option Dump} {f : Dump → Dump} (hf : ∀ x, (f x).berth = x.berth) (h : dumpWf d = true) : dumpWf (d.map f) = true := by
  cases d with
  | none => rfl
  | some x => simpa [dumpWf, hf] using h
theorem applyRec_keeps {W : Nat} {r s : State} {id p} (cw : Covers W 0xf000001e800000000000000000c000000000101000180000000000000002000008) (h : Keeps W r s) : Keeps W r (applyRec s id p) := by
  unfold applyRec
  dsimp only
  split
  all_goals first | exact h | exact .upd cw h | skip
  · exact setR_keeps (cw.le rfl) (.upd cw h)
  · exact setR_keeps (cw.le rfl) (setR_keeps (cw.le rfl) (setR_keeps (cw.le rfl) h))
  · exact setR_keeps (cw.le rfl) (setR_keeps (cw.le rfl) (setR_keeps (cw.le rfl) h))
  · exact .dumps cw h (fun a _ _ => dumpWf_map (fun _ => rfl) a) (fun _ b _ => dumpWf_map (fun _ => rfl) b)
  · exact setR_keeps (cw.le rfl) (.upd cw h)
theorem readRec_keeps {W : Nat} {r : State} {s1 a2} (cw : Covers W 0xf0003ffe800200040000000000c000000000101000180000000000000002000018) (h1 : Keeps W r s1) : Keeps W r (readRec s1 a2) := by
  delta readRec
  split
  · extract_lets +onlyGivenNames v1
    have k2 : Keeps W r v1 := setObj_keeps (cw.le rfl) h1
    clear_value v1
    extract_lets +onlyGivenNames v3 v4 v5 v6
    have k7 : Keeps W r v6 := .ite (bump_keeps (cw.le rfl) k2) k2
    clear_value v6
    extract_lets +onlyGivenNames v8
    have k9 : Keeps W r v8 := .ite (recordHm_keeps (cw.le rfl) k7) k2
    clear_value v8
    split
    · exact applyRec_keeps (cw.le rfl) k9
    · extract_lets +onlyGivenNames v10
      have k11 : Keeps W r v10 := recordHm_keeps (cw.le rfl) (applyRec_keeps (cw.le rfl) k9)
      clear_value v10
      refine .ite ?_ k11
      split
      · exact applyRec_keeps (cw.le rfl) k11
      · exact applyRec_keeps (cw.le rfl) k11
end Sys2Proof.Machine
end

