-- ==== Sys2Proof/Laws/KeepsMedia.lean ====
section
/-! SUPPORT. What the wharf, the drains, the map and reclaim keep: one lemma per operation (Laws/Keeps.lean). -/
set_option linter.unusedVariables false
set_option maxRecDepth 4000
set_option Elab.async false
namespace Sys2Proof.Machine
open Sys2Proof

theorem drivePins_keeps {W : Nat} {r : State} {s1} (cw : Covers W 0x1e000000000000000000000000000000000000000000000008) (h1 : Keeps W r s1) : Keeps W r (drivePins s1) := by
  delta drivePins
  refine .ite h1 ?_
  extract_lets +onlyGivenNames v1 v2 v3 v4
  have k5 : Keeps W r v4 := bumpR_keeps (cw.le rfl) h1
  extract_lets +onlyGivenNames v6 v7
  have k8 : Keeps W r v7 := .ite (.upd cw k5) (.ite (.upd cw h1) h1)
  refine .ite ?_ (.ite (.upd cw k8) k8)
  extract_lets +onlyGivenNames v9
  have k10 : Keeps W r v9 := bumpR_keeps (cw.le rfl) k8
  exact .upd cw k10
theorem releasePins_keeps {W : Nat} {r : State} {s1} (cw : Covers W 0x3e000000000000000000000000000000000000000000000008) (h1 : Keeps W r s1) : Keeps W r (releasePins s1) := by
  delta releasePins
  extract_lets +onlyGivenNames v1 v2
  have k3 : Keeps W r v2 := .upd cw h1
  exact drivePins_keeps (cw.le rfl) (.ite (setR_keeps (cw.le rfl) k3) k3)
theorem settleLevel_keeps {W : Nat} {r : State} {s1} (cw : Covers W 0x3fe0000200041e000000000000000000000000000000000040000000000018) (h1 : Keeps W r s1) : Keeps W r (settleLevel s1) := by
  delta settleLevel
  extract_lets +onlyGivenNames v1 v2 v3
  have k4 : Keeps W r v3 := .ite h1 (setR_keeps (cw.le rfl) h1)
  extract_lets +onlyGivenNames v5 v6
  have k7 : Keeps W r v6 := by
    unfold v6
    split
    · exact .ite (.upd cw k4) k4
    · refine .ite k4 ?_
      extract_lets +onlyGivenNames v8
      have k9 : Keeps W r v8 := bumpN_keeps (cw.le rfl) k4
      exact .upd cw k9
  extract_lets +onlyGivenNames v10
  have k11 : Keeps W r v10 := .ite (record_keeps (cw.le rfl) k7) k7
  exact drivePins_keeps (cw.le rfl) k11
theorem indexChange_keeps {W : Nat} {r : State} {a1 a2 s3} (cw : Covers W 0x300000000000) (h3 : Keeps W r s3) : Keeps W r (indexChange a1 a2 s3) := by
  delta indexChange
  extract_lets +onlyGivenNames v1
  refine .ite h3 ?_
  split
  · extract_lets +onlyGivenNames v2 v3 v4 v5
    exact .upd cw h3
theorem moveHead_keeps {W : Nat} {r : State} {s1 a2 a3 a4} (cw : Covers W 0xb0000000008) (h1 : Keeps W r s1) : Keeps W r (moveHead s1 a2 a3 a4) := by
  delta moveHead
  extract_lets +onlyGivenNames v1
  refine .ite ?_ ?_
  · split
    · extract_lets +onlyGivenNames v5
      have k6 : Keeps W r v5 := bumpR_keeps (cw.le rfl) h1
      clear_value v5
      exact .wharf cw k6 id (AMap.wf_set · _ _)
    · exact h1
  · split
    · extract_lets +onlyGivenNames v12
      have k13 : Keeps W r v12 := bumpR_keeps (cw.le rfl) h1
      clear_value v12
      exact .wharf cw k13 (AMap.wf_set · _ _) id
    · exact h1
theorem relocateHeads_keeps {W : Nat} {r : State} {a1 a2 s3} (cw : Covers W 0xb0000000008) (h3 : Keeps W r s3) : Keeps W r (relocateHeads a1 a2 s3) := by
  induction a2 generalizing s3 with
  | zero => exact h3
  | succ n ih =>
    unfold relocateHeads
    split
    · exact h3
    · exact .ite h3 (ih (moveHead_keeps (cw.le rfl) h3))
theorem relocateHead_keeps {W : Nat} {r : State} {s1 a2} (cw : Covers W 0xb0000000008) (h1 : Keeps W r s1) : Keeps W r (relocateHead s1 a2) := relocateHeads_keeps (cw.le rfl) h1
theorem stageAt_keeps {W : Nat} {r : State} {s1 a2 a3 a4 a5 a6} (cw : Covers W 0x7fe0000200041e0000000000000000040000000000000000403b0000000018) (h1 : Keeps W r s1) : Keeps W r (stageAt s1 a2 a3 a4 a5 a6) := by
  delta stageAt
  extract_lets +onlyGivenNames v1 v2 v3 v4 v5 v6 v7 v8
  have k9 : Keeps W r v8 := .wharf cw h1 (AMap.wf_set · _ _) id
  clear_value v8
  extract_lets +onlyGivenNames v10 v11
  have k12 : Keeps W r v11 := .upd cw k9
  clear_value v11
  extract_lets +onlyGivenNames v13
  have k14 : Keeps W r v13 := pcCount_keeps (cw.le rfl) (bumpN_keeps (cw.le rfl) k12)
  clear_value v13
  extract_lets +onlyGivenNames v15
  have k16 : Keeps W r v15 := .ite (bumpR_keeps (cw.le rfl) k14) k14
  clear_value v15
  exact settleLevel_keeps (cw.le rfl) (relocateHead_keeps (cw.le rfl) (indexChange_keeps (cw.le rfl) k16))
theorem stage_keeps {W : Nat} {r : State} {s1 a2 a3 a4 a5} (cw : Covers W 0x7fe0000200041e0000000000000000040000000000000000403f0000000018) (h1 : Keeps W r s1) : Keeps W r (stage s1 a2 a3 a4 a5) := by
  delta stage
  extract_lets +onlyGivenNames v1
  exact stageAt_keeps (cw.le rfl) (.upd cw h1)
theorem stageMarker_keeps {W : Nat} {r : State} {s1 a2 a3} (cw : Covers W 0x7fe0000200041e0000000000000000000000000000000000403f0000000018) (h1 : Keeps W r s1) : Keeps W r (stageMarker s1 a2 a3) := by
  delta stageMarker
  extract_lets +onlyGivenNames v1 v2 v3
  split
  · extract_lets +onlyGivenNames v4 v5 v6 v7
    have k8 : Keeps W r v7 := .wharf cw h1 id (AMap.wf_set · _ _)
    clear_value v7
    extract_lets +onlyGivenNames v9
    have k10 : Keeps W r v9 := pcCount_keeps (cw.le rfl) (bumpR_keeps (cw.le rfl) (bumpR_keeps (cw.le rfl) k8))
    clear_value v9
    exact settleLevel_keeps (cw.le rfl) (relocateHead_keeps (cw.le rfl) (indexChange_keeps (cw.le rfl) k10))
theorem releaseEntry_keeps {W : Nat} {r : State} {s1 a2 a3} (cw : Covers W 0x310000000000) (h1 : Keeps W r s1) : Keeps W r (releaseEntry s1 a2 a3) := by
  delta releaseEntry
  split
  · refine .ite ?_ (.ite (.wharf cw h1 (AMap.wf_set · _ _) id) h1)
    extract_lets +onlyGivenNames v1
    exact indexChange_keeps (cw.le rfl) (.wharf cw h1 (AMap.wf_del · _) id)
  · exact h1
theorem releaseMarker_keeps {W : Nat} {r : State} {s1 a2 a3} (cw : Covers W 0x320000000000) (h1 : Keeps W r s1) : Keeps W r (releaseMarker s1 a2 a3) := by
  delta releaseMarker
  split
  · exact .ite (indexChange_keeps (cw.le rfl) (.wharf cw h1 id (AMap.wf_del · _))) h1
  · exact h1
theorem clearMarker_keeps {W : Nat} {r : State} {s1 a2} (cw : Covers W 0x320000000000) (h1 : Keeps W r s1) : Keeps W r (clearMarker s1 a2) := by
  delta clearMarker
  extract_lets +onlyGivenNames v1
  split
  · refine .ite ?_ h1
    extract_lets +onlyGivenNames v2
    exact .ite (indexChange_keeps (cw.le rfl) (.wharf cw h1 id (AMap.wf_del · _))) (.wharf cw h1 id (AMap.wf_set · _ _))
  · exact h1
theorem putSet_keeps {W : Nat} {r : State} {s1 a2 a3} (cw : Covers W 0x2000000000000000) (h1 : Keeps W r s1) : Keeps W r (putSet s1 a2 a3) := .upd cw h1
theorem putStripe_keeps {W : Nat} {r : State} {s1 a2 a3} (cw : Covers W 0x4000000000000000) (h1 : Keeps W r s1) : Keeps W r (putStripe s1 a2 a3) := .upd cw h1
theorem wf_applyRecord {m : AMap Nat} {k a b c : Nat} (h : AMap.wf m = true) : AMap.wf (applyRecord m k a b c) = true := by
  unfold applyRecord
  repeat' split
  all_goals first | exact h | exact AMap.wf_set h _ _ | exact AMap.wf_del h _
theorem formCkpt_keeps {W : Nat} {r : State} {s1} (cw : Covers W 0x6000000000000) (h1 : Keeps W r s1) : Keeps W r (formCkpt s1) := by
  delta formCkpt
  split
  · exact h1
  · extract_lets +onlyGivenNames v6 v7 v8
    refine .ite h1 ?_
    extract_lets +onlyGivenNames v9
    exact .upd cw h1
theorem startCkpt_keeps {W : Nat} {r : State} {s1} (cw : Covers W 0x100000000000000000000000000000000000000000000000000000006000000000000) (h1 : Keeps W r s1) : Keeps W r (startCkpt s1) := by
  delta startCkpt
  split
  · exact h1
  · exact formCkpt_keeps (cw.le rfl) (.upd cw h1)
theorem recordEffect_keeps {W : Nat} {r : State} {s1 a2 a3 a4} (cw : Covers W 0x6000000000000000) (h1 : Keeps W r s1) : Keeps W r (recordEffect s1 a2 a3 a4) := .ite (putStripe_keeps (cw.le rfl) h1) (.ite (putSet_keeps (cw.le rfl) h1) (.ite (putStripe_keeps (cw.le rfl) h1) h1))
theorem appendNow_keeps {W : Nat} {r : State} {s1 a2 a3 a4 a5} (cw : Covers W 0x110000000000000000000000000000000000000000000000000001e886000000000000) (h1 : Keeps W r s1) : Keeps W r (appendNow s1 a2 a3 a4 a5) := by
  delta appendNow
  extract_lets +onlyGivenNames v1 v2 v3
  exact startCkpt_keeps (cw.le rfl) (recordEffect_keeps (cw.le rfl) (.media cw h1 wf_applyRecord id))
theorem noteJournalFull_keeps {W : Nat} {r : State} {s1} (cw : Covers W 0x60000000000000008) (h1 : Keeps W r s1) : Keeps W r (noteJournalFull s1) := by
  delta noteJournalFull
  refine .ite h1 ?_
  extract_lets +onlyGivenNames v1
  extract_lets +onlyGivenNames v2
  have k3 : Keeps W r v2 := .upd cw h1
  clear_value v2
  exact bumpR_keeps (cw.le rfl) k3
theorem appendRecord_keeps {W : Nat} {r : State} {s1 a2 a3 a4 a5} (cw : Covers W 0x118000000000000000000000000000000000000000000000000007e886000000000008) (h1 : Keeps W r s1) : Keeps W r (appendRecord s1 a2 a3 a4 a5) := .ite (appendNow_keeps (cw.le rfl) h1) (noteJournalFull_keeps (cw.le rfl) (.upd cw h1))
theorem appendWaiting_keeps {W : Nat} {r : State} {a1 s2} (cw : Covers W 0x118000000000000000000000000000000000000000000000000001e886000000000000) (h2 : Keeps W r s2) : Keeps W r (appendWaiting a1 s2) := by
  induction a1 generalizing s2 with
  | nil => exact h2
  | cons p t ih =>
    unfold appendWaiting
    exact .ite (ih (appendNow_keeps (cw.le rfl) (.upd cw h2))) h2
theorem setState_keeps {W : Nat} {r : State} {s1 a2 a3} (cw : Covers W 0x118000000000000000000000000000000000000000000000000007e886000000000008) (h1 : Keeps W r s1) : Keeps W r (setState s1 a2 a3) := by
  delta setState
  extract_lets +onlyGivenNames v1
  exact appendRecord_keeps (cw.le rfl) (putSet_keeps (cw.le rfl) h1)
theorem endJournalFull_keeps {W : Nat} {r : State} {s1} (cw : Covers W 0x3fe00002000400000000000000000000000000000000020000000000000018) (h1 : Keeps W r s1) : Keeps W r (endJournalFull s1) := by
  delta endJournalFull
  refine .ite ?_ h1
  extract_lets +onlyGivenNames v1
  exact record_keeps (cw.le rfl) (.upd cw h1)
theorem retireBlock_keeps {W : Nat} {r : State} {s1 a2 a3 a4 a5} (cw : Covers W 0x118000003fe0000200040000000000000000000000000000000207e886000000000018) (h1 : Keeps W r s1) : Keeps W r (retireBlock s1 a2 a3 a4 a5) := by
  delta retireBlock
  extract_lets +onlyGivenNames v1 v2
  refine .ite h1 ?_
  extract_lets +onlyGivenNames v3 v4 v5 v6 v7 v8 v9 v10
  have k11 : Keeps W r v8 := .ite (.upd cw h1) h1
  clear_value v8
  have k12 : Keeps W r v9 := putSet_keeps (cw.le rfl) k11
  clear_value v9
  have k13 : Keeps W r v10 := appendRecord_keeps (cw.le rfl) k12
  clear_value v10
  extract_lets +onlyGivenNames v14
  have k15 : Keeps W r v14 := .ite (setState_keeps (cw.le rfl) k13) k13
  clear_value v14
  exact record_keeps (cw.le rfl) k15
theorem retireSet_keeps {W : Nat} {r : State} {s1 a2 a3} (cw : Covers W 0x118000000000000000000000000000000000000000000000000407e886000000000008) (h1 : Keeps W r s1) : Keeps W r (retireSet s1 a2 a3) := by
  delta retireSet
  extract_lets +onlyGivenNames v1 v2
  have k3 : Keeps W r v2 := setState_keeps (cw.le rfl) h1
  clear_value v2
  refine .foldl k3 ?_
  intro _ _ k6
  refine .ite k6 ?_
  extract_lets +onlyGivenNames v7
  exact .upd cw k6
theorem setLighters_keeps {W : Nat} {r : State} {s1 a2} (cw : Covers W 0x2000000000000) (h1 : Keeps W r s1) : Keeps W r (setLighters s1 a2) := .upd cw h1
theorem updLighter_keeps {W : Nat} {r : State} {s1 a2 a3} (cw : Covers W 0x2000000000000) (h1 : Keeps W r s1) : Keeps W r (updLighter s1 a2 a3) := setLighters_keeps (cw.le rfl) h1
theorem addDesc_keeps {W : Nat} {r : State} {s1 a2 a3 a4 a5} (cw : Covers W 0x6000000000000) (h1 : Keeps W r s1) : Keeps W r (addDesc s1 a2 a3 a4 a5) := by
  delta addDesc
  split
  · extract_lets +onlyGivenNames v1
    exact updLighter_keeps (cw.le rfl) h1
  · refine .ite h1 ?_
    extract_lets +onlyGivenNames v2
    exact .upd cw h1
theorem enqueuePage_keeps {W : Nat} {r : State} {s1 a2} (cw : Covers W 0x6000000000000) (h1 : Keeps W r s1) : Keeps W r (enqueuePage s1 a2) := by
  delta enqueuePage
  refine .ite h1 ?_
  extract_lets +onlyGivenNames v1
  exact addDesc_keeps (cw.le rfl) h1
theorem refill_keeps {W : Nat} {r : State} {s1 a2} (cw : Covers W 0x6000000000000) (h1 : Keeps W r s1) : Keeps W r (refill s1 a2) := .foldl h1 (fun _ _ k3 => enqueuePage_keeps (cw.le rfl) k3)
theorem stageWrite_keeps {W : Nat} {r : State} {s1 a2 a3 a4 a5} (cw : Covers W 0x7fe0000200041e0000000000000000040000000000000000463f0000000018) (h1 : Keeps W r s1) : Keeps W r (stageWrite s1 a2 a3 a4 a5) := enqueuePage_keeps (cw.le rfl) (stage_keeps (cw.le rfl) h1)
theorem stageMark_keeps {W : Nat} {r : State} {s1 a2 a3} (cw : Covers W 0x7fe0000200041e0000000000000000000000000000000000463f0000000018) (h1 : Keeps W r s1) : Keeps W r (stageMark s1 a2 a3) := enqueuePage_keeps (cw.le rfl) (stageMarker_keeps (cw.le rfl) h1)
theorem pinPage_keeps {W : Nat} {r : State} {s1 a2 a3} (cw : Covers W 0x3fe00002000400000000000000000000000000000000000003800000000018) (h1 : Keeps W r s1) : Keeps W r (pinPage s1 a2 a3) := by
  delta pinPage
  extract_lets +onlyGivenNames v1
  have k2 : Keeps W r v1 := setLighters_keeps (cw.le rfl) h1
  clear_value v1
  refine .ite k2 ?_
  extract_lets +onlyGivenNames v3 v4 v5
  have k6 : Keeps W r v5 := .upd cw k2
  clear_value v5
  extract_lets +onlyGivenNames v7
  have k8 : Keeps W r v7 := setR_keeps (cw.le rfl) k6
  clear_value v7
  refine .ite ?_ k8
  extract_lets +onlyGivenNames v9
  exact record_keeps (cw.le rfl) (bumpR_keeps (cw.le rfl) k8)
theorem unpin_keeps {W : Nat} {r : State} {s1 a2} (cw : Covers W 0x1800000000008) (h1 : Keeps W r s1) : Keeps W r (unpin s1 a2) := by
  delta unpin
  extract_lets +onlyGivenNames v1 v2
  have k3 : Keeps W r v2 := .upd cw h1
  clear_value v2
  exact setR_keeps (cw.le rfl) k3
theorem nextWseq_keeps {W : Nat} {r : State} {s1} (cw : Covers W 0x800000003fe000f2800400000000000000000000003800000000000000000000000018) (h1 : Keeps W r s1) : Keeps2 W r (nextWseq s1) := by
  delta nextWseq
  extract_lets +onlyGivenNames v1 v2 v3 v4 v5
  have k6 : Keeps W r v5 := .upd cw h1
  clear_value v5
  extract_lets +onlyGivenNames v7
  have k8 : Keeps W r v7 := .ite (syncRecs_keeps (cw.le rfl) k6) k6
  clear_value v7
  exact .ite (Keeps2.mk (record_keeps (cw.le rfl) (.upd cw k8))) k8
theorem enqueueCopy_keeps {W : Nat} {r : State} {s1 a2 a3 a4 a5 a6} (cw : Covers W 0x6000000000000) (h1 : Keeps W r s1) : Keeps W r (enqueueCopy s1 a2 a3 a4 a5 a6) := .ite h1 (addDesc_keeps (cw.le rfl) h1)
theorem substituteSpares_keeps {W : Nat} {r : State} {s1 a2 a3} (cw : Covers W 0x2000000000000000) (h1 : Keeps W r s1) : Keeps W r (substituteSpares s1 a2 a3) := by
  delta substituteSpares
  extract_lets +onlyGivenNames v1
  refine .foldl h1 ?_
  intro x3 a4 k2
  extract_lets +onlyGivenNames v5
  exact putSet_keeps (cw.le rfl) k2
theorem retireWorn_keeps {W : Nat} {r : State} {s1 a2 a3} (cw : Covers W 0x118000003fe0000200040000000000000000000000000000000207e886000000000018) (h1 : Keeps W r s1) : Keeps W r (retireWorn s1 a2 a3) := by
  delta retireWorn
  extract_lets +onlyGivenNames v1
  have k5 : Keeps W r v1 := .foldl h1 (fun _ _ k2 => .ite (retireBlock_keeps (cw.le rfl) k2) (.ite (retireBlock_keeps (cw.le rfl) k2) k2))
  clear_value v1
  exact substituteSpares_keeps (cw.le rfl) k5
theorem beginOp_keeps {W : Nat} {r : State} {s1 a2} (cw : Covers W 0x800000000000000000000) (h1 : Keeps W r s1) : Keeps W r (beginOp s1 a2) := by
  delta beginOp
  split
  · exact .ite (.upd cw h1) (.upd cw h1)
  · exact .upd cw h1
theorem startOp_keeps {W : Nat} {r : State} {s1 a2 a3 a4 a5} (cw : Covers W 0x4000000000000000000000000000000000000000000000000800000000000000000000) (h1 : Keeps W r s1) : Keeps W r (startOp s1 a2 a3 a4 a5) := by
  delta startOp
  extract_lets +onlyGivenNames v1 v2 v3
  extract_lets +onlyGivenNames v4
  have k5 : Keeps W r v4 := .upd cw h1
  clear_value v4
  exact .ite (beginOp_keeps (cw.le rfl) k5) k5
theorem startResets_keeps {W : Nat} {r : State} {s1 a2} (cw : Covers W 0x400000007fe00002000400000000000000000000000000000800000000000000000018) (h1 : Keeps W r s1) : Keeps W r (startResets s1 a2) := by
  delta startResets
  extract_lets +onlyGivenNames v1 v2
  exact .foldl h1 (fun _ _ k3 => startOp_keeps (cw.le rfl) (pcCount_keeps (cw.le rfl) k3))
theorem resetIfEmpty_keeps {W : Nat} {r : State} {s1 a2} (cw : Covers W 0x518000007fe0000200040000000000000000000000000000080607e886000000000018) (h1 : Keeps W r s1) : Keeps W r (resetIfEmpty s1 a2) := by
  delta resetIfEmpty
  extract_lets +onlyGivenNames v1
  refine .ite ?_ h1
  extract_lets +onlyGivenNames v2
  have k3 : Keeps W r v2 := retireWorn_keeps (cw.le rfl) h1
  clear_value v2
  exact .ite k3 (.ite (retireSet_keeps (cw.le rfl) k3) (startResets_keeps (cw.le rfl) (setState_keeps (cw.le rfl) k3)))
theorem makeVictim_keeps {W : Nat} {r : State} {s1 a2 a3 a4} (cw : Covers W 0x518000007fe0000200040000000000000000000000000000080607e886000000000018) (h1 : Keeps W r s1) : Keeps W r (makeVictim s1 a2 a3 a4) := by
  delta makeVictim
  extract_lets +onlyGivenNames v1 v2
  have k3 : Keeps W r v2 := setState_keeps (cw.le rfl) (putSet_keeps (cw.le rfl) h1)
  clear_value v2
  extract_lets +onlyGivenNames v4
  have k5 : Keeps W r v4 := .foldl k3 (fun _ _ k8 => enqueueCopy_keeps (cw.le rfl) k8)
  clear_value v4
  exact resetIfEmpty_keeps (cw.le rfl) k5
theorem putRebuild_keeps {W : Nat} {r : State} {s1 a2 a3} (cw : Covers W 0x30000000000000000008) (h1 : Keeps W r s1) : Keeps W r (putRebuild s1 a2 a3) := by
  delta putRebuild
  extract_lets +onlyGivenNames v1 v2
  have k3 : Keeps W r v2 := .ite (.upd cw h1) (.upd cw h1)
  clear_value v2
  exact setObj_keeps (cw.le rfl) k3
theorem endRebuild_keeps {W : Nat} {r : State} {s1 a2} (cw : Covers W 0x3fe00002000400000000000000000000000000000030000000000000000018) (h1 : Keeps W r s1) : Keeps W r (endRebuild s1 a2) := by
  delta endRebuild
  extract_lets +onlyGivenNames v1
  exact .ite (record_keeps (cw.le rfl) (putRebuild_keeps (cw.le rfl) h1)) h1
theorem holdRebuild_keeps {W : Nat} {r : State} {s1 a2} (cw : Covers W 0x3fe00002000400000000000000000000000000000030000000000000000018) (h1 : Keeps W r s1) : Keeps W r (holdRebuild s1 a2) := by
  delta holdRebuild
  extract_lets +onlyGivenNames v1
  exact .ite (record_keeps (cw.le rfl) (putRebuild_keeps (cw.le rfl) h1)) h1
theorem resumeRebuilds_keeps {W : Nat} {r : State} {s1} (cw : Covers W 0x30000000000000000008) (h1 : Keeps W r s1) : Keeps W r (resumeRebuilds s1) := by
  delta resumeRebuilds
  extract_lets +onlyGivenNames v1
  unfold v1
  extract_lets +onlyGivenNames v2 v3
  exact .ite (putRebuild_keeps (cw.le rfl) (.ite (putRebuild_keeps (cw.le rfl) h1) h1)) (.ite (putRebuild_keeps (cw.le rfl) h1) h1)
theorem settleReclaim_keeps {W : Nat} {r : State} {s1 a2} (cw : Covers W 0x20000003fe000020004000000000000000000000000000000c0000000000000000018) (h1 : Keeps W r s1) : Keeps W r (settleReclaim s1 a2) := by
  delta settleReclaim
  extract_lets +onlyGivenNames v1 v2
  refine .ite h1 ?_
  extract_lets +onlyGivenNames v3 v4
  have k5 : Keeps W r v4 := .ite (.upd cw h1) (.upd cw h1)
  clear_value v4
  extract_lets +onlyGivenNames v6
  extract_lets +onlyGivenNames v7
  have k8 : Keeps W r v7 := .upd cw k5
  clear_value v7
  exact .ite (record_keeps (cw.le rfl) k8) k8
theorem findOpenSet_keeps {W : Nat} {r : State} {s1 a2 a3 a4 a5} (cw : Covers W 0x138000003fe000020004000000000000000000000000000000c007e886000000000018) (h1 : Keeps W r s1) : Keeps2 W r (findOpenSet s1 a2 a3 a4 a5) := by
  delta findOpenSet
  extract_lets +onlyGivenNames v1 v2
  clear_value v2
  split
  · exact Keeps2.mk h1
  · extract_lets +onlyGivenNames v3 v4
    refine .ite (Keeps2.mk h1) ?_
    refine .ite (Keeps2.mk h1) ?_
    extract_lets +onlyGivenNames v5
    split
    · exact Keeps2.mk h1
    · extract_lets +onlyGivenNames v6 v7 v8
      have k9 : Keeps W r v8 := putSet_keeps (cw.le rfl) h1
      clear_value v8
      extract_lets +onlyGivenNames v10
      have k11 : Keeps W r v10 := setState_keeps (cw.le rfl) k9
      clear_value v10
      exact Keeps2.mk (settleReclaim_keeps (cw.le rfl) k11)
theorem countMemberReads_keeps {W : Nat} {r : State} {s1 a2 a3} (cw : Covers W 0x7fe00002000400000000000000000000000000001000000000000000000018) (h1 : Keeps W r s1) : Keeps W r (countMemberReads s1 a2 a3) := by
  delta countMemberReads
  refine .foldl h1 ?_
  intro _ _ k3
  extract_lets +onlyGivenNames v4 v5
  have k6 : Keeps W r v5 := pcCount_keeps (cw.le rfl) (bump_keeps (cw.le rfl) k3)
  clear_value v5
  exact .upd cw k6
theorem noteStackRead_keeps {W : Nat} {r : State} {s1 a2} (cw : Covers W 0x2000000000000000000000) (h1 : Keeps W r s1) : Keeps W r (noteStackRead s1 a2) := by
  delta noteStackRead
  extract_lets +onlyGivenNames v1 v2 v3 v4
  exact .upd cw h1
theorem putRead_keeps {W : Nat} {r : State} {s1 a2} (cw : Covers W 0x200000000000000000000) (h1 : Keeps W r s1) : Keeps W r (putRead s1 a2) := .upd cw h1
theorem suspendOp_keeps {W : Nat} {r : State} {s1 a2 a3 a4} (cw : Covers W 0x7fe00002000400000000000000000000000000000800000000000000000018) (h1 : Keeps W r s1) : Keeps W r (suspendOp s1 a2 a3 a4) := by
  delta suspendOp
  extract_lets +onlyGivenNames v1 v2 v3
  refine .ite h1 ?_
  extract_lets +onlyGivenNames v4 v5
  have k6 : Keeps W r v5 := pcCount_keeps (cw.le rfl) (bump_keeps (cw.le rfl) h1)
  clear_value v5
  exact .upd cw k6
theorem sendMembers_keeps {W : Nat} {r : State} {s1 a2} (cw : Covers W 0x7fe00002000400000000000000000000000000001a00000000000000000018) (h1 : Keeps W r s1) : Keeps W r (sendMembers s1 a2) := by
  delta sendMembers
  extract_lets +onlyGivenNames v1 v2 v3 v4
  have k5 : Keeps W r v3 := putRead_keeps (cw.le rfl) h1
  clear_value v3
  have k9 : Keeps W r v4 := .foldl k5 (fun _ _ k6 => suspendOp_keeps (cw.le rfl) k6)
  clear_value v4
  exact countMemberReads_keeps (cw.le rfl) k9
theorem readDegraded_keeps {W : Nat} {r : State} {s1 a2} (cw : Covers W 0x7fe00002000400000000000000000000000000001a00000000000000000018) (h1 : Keeps W r s1) : Keeps W r (readDegraded s1 a2) := bump_keeps (cw.le rfl) (sendMembers_keeps (cw.le rfl) h1)
theorem issueRead_keeps {W : Nat} {r : State} {s1 a2} (cw : Covers W 0x7fe00002000400000000000000000000000000003e00000000000000000018) (h1 : Keeps W r s1) : Keeps W r (issueRead s1 a2) := by
  delta issueRead
  extract_lets +onlyGivenNames v1 v2 v3 v4 v5 v6 v7 v8
  have k9 : Keeps W r v8 := .upd cw h1
  clear_value v8
  extract_lets +onlyGivenNames v10
  have k11 : Keeps W r v10 := .ite (noteStackRead_keeps (cw.le rfl) (bump_keeps (cw.le rfl) k9)) k9
  clear_value v10
  exact .ite (readDegraded_keeps (cw.le rfl) k11) k11
theorem issuePageReads_keeps {W : Nat} {r : State} {s1 a2 a3 a4 a5} (cw : Covers W 0x7fe00002000400000000000000000000000000003e00000000000000000018) (h1 : Keeps W r s1) : Keeps W r (issuePageReads s1 a2 a3 a4 a5) := .foldl h1 (fun _ _ k3 => issueRead_keeps (cw.le rfl) k3)
theorem startDesc_keeps {W : Nat} {r : State} {a1 s2 a3} (cw : Covers W 0x7fe00002000400000000000000000000000000003e00000000000000000018) (h2 : Keeps1 W r s2) : Keeps1 W r (startDesc a1 s2 a3) := by
  delta startDesc
  split
  split
  · exact Keeps1.mk (issuePageReads_keeps (cw.le rfl) h2)
  · refine .ite (Keeps1.mk h2) ?_
    refine .ite (Keeps1.mk h2) ?_
    split
    · exact Keeps1.mk h2
    · split
      · exact Keeps1.mk h2
      · exact Keeps1.mk (issuePageReads_keeps (cw.le rfl) h2)
theorem pageToStore_keeps {W : Nat} {r : State} {s1 a2} (cw : Covers W 0x800000003fe000f2800400000000000000000000003800000000000000000000000018) (h1 : Keeps W r s1) : Keeps2 W r (pageToStore s1 a2) := by
  delta pageToStore
  split
  · split
    · extract_lets +onlyGivenNames v1
      refine .ite ?_ (Keeps2.mk h1)
      split
      · rename_i t2 x3 t4 e5
        have k6 : Keeps W r t4 := Keeps2.of_eq e5 (nextWseq_keeps (cw.le rfl) h1)
        exact Keeps2.mk k6
    · exact Keeps2.mk h1
  · extract_lets +onlyGivenNames v7 v8
    split
    · rename_i t9 x10 t11 e12
      have k13 : Keeps W r t11 := Keeps2.of_eq e12 (nextWseq_keeps (cw.le rfl) h1)
      exact Keeps2.mk k13
theorem startPrograms_keeps {W : Nat} {r : State} {s1 a2} (cw : Covers W 0xc00000007fe000f2800400000000000000000000003800000800000002000000000018) (h1 : Keeps W r s1) : Keeps W r (startPrograms s1 a2) := by
  delta startPrograms
  split
  · exact h1
  · rename_i t3 t4 t5
    refine .ite h1 ?_
    extract_lets +onlyGivenNames v6 v7
    split
    extract_lets +onlyGivenNames v12 v13 v14 v15
    have k19 : Keeps W r v13 := .foldl h1 (fun _ _ k16 => startOp_keeps (cw.le rfl) (pcCount_keeps (cw.le rfl) k16))
    clear_value v13
    split
    rename_i t20 t21 t22 t23
    have k32 : Keeps W r t21 := by
      refine Keeps1.of_eq t23 ?_
      refine .foldl k19 ?_
      intro x25 a26 k24
      unfold v15
      refine .ite ?_ (Keeps1.mk k24)
      split
      rename_i t27 t28 t29 t30
      have k31 : Keeps W r t29 := Keeps2.of_eq t30 (pageToStore_keeps (cw.le rfl) k24)
      exact k31
    exact updLighter_keeps (cw.le rfl) k32
theorem reissueCopies_keeps {W : Nat} {r : State} {s1} (cw : Covers W 0x6000000000000) (h1 : Keeps W r s1) : Keeps W r (reissueCopies s1) := by
  delta reissueCopies
  extract_lets +onlyGivenNames v1 v2
  have k9 : Keeps W r v1 := .foldl h1 (fun _ _ k3 => .foldl k3 (fun _ _ k6 => enqueueCopy_keeps (cw.le rfl) k6))
  clear_value v1
  have k13 : Keeps W r v2 := .foldl k9 (fun _ _ k10 => enqueueCopy_keeps (cw.le rfl) k10)
  clear_value v2
  exact formCkpt_keeps (cw.le rfl) (.foldl k13 (fun _ _ k14 => enqueueCopy_keeps (cw.le rfl) k14))
theorem engraveIfDue_keeps {W : Nat} {r : State} {s1 a2} (cw : Covers W 0x518000007fe0000200040000000000000000000000000000080607e886000000000018) (h1 : Keeps W r s1) : Keeps W r (engraveIfDue s1 a2) := .ite (makeVictim_keeps (cw.le rfl) h1) h1
theorem settleVictims_keeps {W : Nat} {r : State} {s1} (cw : Covers W 0x518000007fe0000200040000000000000000000000000000080607e886000000000018) (h1 : Keeps W r s1) : Keeps W r (settleVictims s1) := by
  delta settleVictims
  extract_lets +onlyGivenNames v1
  have k5 : Keeps W r v1 := .foldl h1 (fun _ _ k2 => engraveIfDue_keeps (cw.le rfl) k2)
  clear_value v1
  exact .foldl k5 (fun _ _ k6 => resetIfEmpty_keeps (cw.le rfl) k6)
theorem reissuePage_keeps {W : Nat} {r : State} {s1 a2} (cw : Covers W 0x6000000000000) (h1 : Keeps W r s1) : Keeps W r (reissuePage s1 a2) := by
  delta reissuePage
  split
  · exact h1
  · extract_lets +onlyGivenNames v6 v7 v8
    have k9 : Keeps W r v7 := .ite (enqueueCopy_keeps (cw.le rfl) h1) h1
    clear_value v7
    have k10 : Keeps W r v8 := .ite (enqueueCopy_keeps (cw.le rfl) k9) k9
    clear_value v8
    exact .ite (enqueueCopy_keeps (cw.le rfl) k10) k10
theorem freeLighter_keeps {W : Nat} {r : State} {s1 a2} (cw : Covers W 0x518000007fe0000200040000000000000000000000000000080607e886000000000018) (h1 : Keeps W r s1) : Keeps W r (freeLighter s1 a2) := by
  delta freeLighter
  extract_lets +onlyGivenNames v1 v2
  have k3 : Keeps W r v2 := formCkpt_keeps (cw.le rfl) (refill_keeps (cw.le rfl) (setLighters_keeps (cw.le rfl) h1))
  clear_value v2
  exact settleVictims_keeps (cw.le rfl) (.ite (reissueCopies_keeps (cw.le rfl) k3) (.foldl k3 (fun _ _ k4 => reissuePage_keeps (cw.le rfl) k4)))
theorem laterLighter_keeps {W : Nat} {r : State} {a1 s2 a3} (cw : Covers W 0x6000000000000) (h2 : Keeps W r s2) : Keeps W r (laterLighter a1 s2 a3) := by
  delta laterLighter
  split
  · exact enqueueCopy_keeps (cw.le rfl) h2
  · exact enqueuePage_keeps (cw.le rfl) h2
theorem beginStripe_keeps {W : Nat} {r : State} {s1 a2 a3 a4 a5 a6} (cw : Covers W 0x4002000000000008) (h1 : Keeps W r s1) : Keeps W r (beginStripe s1 a2 a3 a4 a5 a6) := by
  delta beginStripe
  extract_lets +onlyGivenNames v1 v2 v3 v4
  have k5 : Keeps W r v3 := putStripe_keeps (cw.le rfl) h1
  clear_value v3
  have k6 : Keeps W r v4 := bumpN_keeps (cw.le rfl) k5
  clear_value v4
  exact updLighter_keeps (cw.le rfl) k6
theorem executeLighter_keeps {W : Nat} {r : State} {s1 a2 a3 a4} (cw : Covers W 0xc00000007fe000f2800400000000000000000000003800003e00006006000000000018) (h1 : Keeps W r s1) : Keeps W r (executeLighter s1 a2 a3 a4) := by
  delta executeLighter
  extract_lets +onlyGivenNames v1 v2 v3 v4 v5 v6 v7 v8
  have k9 : Keeps W r v8 := beginStripe_keeps (cw.le rfl) (putSet_keeps (cw.le rfl) h1)
  clear_value v8
  split
  rename_i t10 t11 t12 t13
  have k17 : Keeps W r t11 := Keeps1.of_eq t13 (.foldl k9 (fun _ _ k14 => startDesc_keeps (cw.le rfl) k14))
  extract_lets +onlyGivenNames v18 v19
  have k20 : Keeps W r v18 := updLighter_keeps (cw.le rfl) k17
  clear_value v18
  have k24 : Keeps W r v19 := .foldl k20 (fun _ _ k21 => laterLighter_keeps (cw.le rfl) k21)
  clear_value v19
  exact startPrograms_keeps (cw.le rfl) k24
theorem noteBusy_keeps {W : Nat} {r : State} {s1 a2} (cw : Covers W 0x40000000000000000000000000000000000000000000000000000000000000000000) (h1 : Keeps W r s1) : Keeps W r (noteBusy s1 a2) := .ite (.upd cw h1) h1
theorem countShare_keeps {W : Nat} {r : State} {s1 a2} (cw : Covers W 0x200000000000000000000000000000000000000000000000000000000000000000000) (h1 : Keeps W r s1) : Keeps W r (countShare s1 a2) := .upd cw h1
theorem holdRebuilds_keeps {W : Nat} {r : State} {s1} (cw : Covers W 0x3fe00002000400000000000000000000000000000030000000000000000018) (h1 : Keeps W r s1) : Keeps W r (holdRebuilds s1) := .foldl h1 (fun _ _ k1 => .ite (holdRebuild_keeps (cw.le rfl) k1) k1)
theorem noteErases_keeps {W : Nat} {r : State} {s1 a2 a3 a4} (cw : Covers W 0x4000000000000000000000008) (h1 : Keeps W r s1) : Keeps W r (noteErases s1 a2 a3 a4) := by
  delta noteErases
  extract_lets +onlyGivenNames v1
  extract_lets +onlyGivenNames v2
  have k3 : Keeps W r v2 := .upd cw h1
  clear_value v2
  exact raiseTo_keeps (cw.le rfl) (setObj_keeps (cw.le rfl) k3)
theorem noteSetErase_keeps {W : Nat} {r : State} {s1 a2 a3} (cw : Covers W 0x4000000000000000000000008) (h1 : Keeps W r s1) : Keeps W r (noteSetErase s1 a2 a3) := .foldl h1 (fun _ _ k1 => noteErases_keeps (cw.le rfl) k1)
theorem resetSlot_keeps {W : Nat} {r : State} {s1 a2} (cw : Covers W 0x118000007fe000020004000000000000000000000000040000020fe886000000000018) (h1 : Keeps W r s1) : Keeps W r (resetSlot s1 a2) := by
  delta resetSlot
  split
  extract_lets +onlyGivenNames v5 v6 v7 v8 v9
  have k10 : Keeps W r v6 := retireWorn_keeps (cw.le rfl) h1
  clear_value v6
  have k11 : Keeps W r v9 := putSet_keeps (cw.le rfl) k10
  clear_value v9
  extract_lets +onlyGivenNames v12
  have k16 : Keeps W r v12 := .foldl (noteSetErase_keeps (cw.le rfl) (bump_keeps (cw.le rfl) k11)) (fun _ _ k13 => pcCount_keeps (cw.le rfl) k13)
  clear_value v12
  exact .upd cw k16
theorem executeMeta_keeps {W : Nat} {r : State} {s1 a2} (cw : Covers W 0xd18000007fe000f28004000000000000000000000038040008020fe886000000000018) (h1 : Keeps W r s1) : Keeps W r (executeMeta s1 a2) := by
  delta executeMeta
  extract_lets +onlyGivenNames v1
  have k2 : Keeps W r v1 := .ite (resetSlot_keeps (cw.le rfl) h1) h1
  clear_value v1
  split
  exact startPrograms_keeps (cw.le rfl) (beginStripe_keeps (cw.le rfl) k2)
theorem takeLighter_keeps {W : Nat} {r : State} {s1 a2} (cw : Covers W 0xd3c000007fe000f2800400000000000000000000003804003ef60fe887800000000018) (h1 : Keeps W r s1) : Keeps W r (takeLighter s1 a2) := by
  delta takeLighter
  extract_lets +onlyGivenNames v1
  have k2 : Keeps W r v1 := holdRebuilds_keeps (cw.le rfl) h1
  clear_value v1
  split
  · exact k2
  · refine .ite (executeMeta_keeps (cw.le rfl) (countShare_keeps (cw.le rfl) (noteBusy_keeps (cw.le rfl) k2))) ?_
    extract_lets +onlyGivenNames v8 v9 v10
    refine .ite (freeLighter_keeps (cw.le rfl) (noteBusy_keeps (cw.le rfl) k2)) ?_
    refine .ite k2 ?_
    refine .ite (freeLighter_keeps (cw.le rfl) (.foldl (noteBusy_keeps (cw.le rfl) k2) (fun _ _ k11 => pinPage_keeps (cw.le rfl) k11))) ?_
    refine .ite k2 ?_
    extract_lets +onlyGivenNames v14
    split
    · rename_i t15 t16 t17
      have k18 : Keeps W r t16 := Keeps2.of_eq t17 (findOpenSet_keeps (cw.le rfl) k2)
      exact k18
    · rename_i t19 t20 t21 t22
      have k23 : Keeps W r t21 := Keeps2.of_eq t22 (findOpenSet_keeps (cw.le rfl) k2)
      exact resumeRebuilds_keeps (cw.le rfl) (executeLighter_keeps (cw.le rfl) (countShare_keeps (cw.le rfl) (noteBusy_keeps (cw.le rfl) k23)))
theorem notePlate_keeps {W : Nat} {r : State} {s1 a2 a3} (cw : Covers W 0x100000000000000000000) (h1 : Keeps W r s1) : Keeps W r (notePlate s1 a2 a3) := .upd cw h1
theorem dropPageCopies_keeps {W : Nat} {r : State} {s1 a2} (cw : Covers W 0x8000000000800000000) (h1 : Keeps W r s1) : Keeps W r (dropPageCopies s1 a2) := .upd cw h1
theorem commitPage_keeps {W : Nat} {r : State} {a1 a2 s3 a4} (cw : Covers W 0x118000007fe0000200040000000000000000000000400000003807f887b30800000018) (h3 : Keeps W r s3) : Keeps W r (commitPage a1 a2 s3 a4) := by
  delta commitPage
  extract_lets +onlyGivenNames v1 v2
  split
  · refine .ite (bump_keeps (cw.le rfl) h3) ?_
    extract_lets +onlyGivenNames v6 v7 v8 v9 v10
    have k11 : Keeps W r v8 := .media cw h3 id (AMap.wf_set · _ _)
    clear_value v8
    have k12 : Keeps W r v9 := appendRecord_keeps (cw.le rfl) k11
    clear_value v9
    extract_lets +onlyGivenNames v13 v14
    have k15 : Keeps W r v14 := .ite (bump_keeps (cw.le rfl) k12) (.ite (bump_keeps (cw.le rfl) (putRebuild_keeps (cw.le rfl) k12)) (bump_keeps (cw.le rfl) k12))
    clear_value v14
    extract_lets +onlyGivenNames v16
    extract_lets +onlyGivenNames v17
    have k23 : Keeps W r v17 := by
      unfold v17
      refine .ite ?_ k15
      split
      · exact .upd cw k15
      · exact k15
    clear_value v17
    exact k23
  · extract_lets +onlyGivenNames v26 v27 v28 v29 v30 v31 v32 v33
    have k34 : Keeps W r v28 := .media cw h3 id (AMap.wf_set · _ _)
    clear_value v28
    have k35 : Keeps W r v29 := appendRecord_keeps (cw.le rfl) k34
    clear_value v29
    have k39 : Keeps W r v30 := .foldl k35 (fun _ _ k36 => releaseEntry_keeps (cw.le rfl) k36)
    clear_value v30
    have k43 : Keeps W r v31 := .foldl k39 (fun _ _ k40 => releaseMarker_keeps (cw.le rfl) k40)
    clear_value v31
    have k44 : Keeps W r v32 := dropPageCopies_keeps (cw.le rfl) k43
    clear_value v32
    have k45 : Keeps W r v33 := .ite (bumpR_keeps (cw.le rfl) k44) k44
    clear_value v33
    extract_lets +onlyGivenNames v46
    have k47 : Keeps W r v46 := pcCount_keeps (cw.le rfl) (bump_keeps (cw.le rfl) (bumpR_keeps (cw.le rfl) k45))
    clear_value v46
    exact .ite (unpin_keeps (cw.le rfl) k47) k47
theorem commitPlate_keeps {W : Nat} {r : State} {s1 a2 a3} (cw : Covers W 0x518000007fe0000200041e00000000000000000000400000083e07f8c7b30800000018) (h1 : Keeps W r s1) : Keeps W r (commitPlate s1 a2 a3) := by
  delta commitPlate
  refine .ite (noteJournalFull_keeps (cw.le rfl) (updLighter_keeps (cw.le rfl) h1)) ?_
  extract_lets +onlyGivenNames v1 v2 v3 v4
  split
  extract_lets +onlyGivenNames v9 v10 v11
  have k15 : Keeps W r v10 := .foldl h1 (fun _ _ k12 => commitPage_keeps (cw.le rfl) k12)
  clear_value v10
  have k16 : Keeps W r v11 := updLighter_keeps (cw.le rfl) k15
  clear_value v11
  exact settleLevel_keeps (cw.le rfl) (endRebuild_keeps (cw.le rfl) (endRebuild_keeps (cw.le rfl) (settleVictims_keeps (cw.le rfl) k16)))
theorem issueParity_keeps {W : Nat} {r : State} {s1 a2} (cw : Covers W 0x400000007fe00002000400000000000000000000000000000800000002000000000018) (h1 : Keeps W r s1) : Keeps W r (issueParity s1 a2) := by
  delta issueParity
  split
  · refine .ite ?_ h1
    extract_lets +onlyGivenNames v4 v5 v6 v7
    have k8 : Keeps W r v7 := startOp_keeps (cw.le rfl) (pcCount_keeps (cw.le rfl) h1)
    clear_value v7
    exact updLighter_keeps (cw.le rfl) k8
  · exact h1
theorem endOp_keeps {W : Nat} {r : State} {s1 a2 a3 a4 a5} (cw : Covers W 0x4000000000000000000000000000000000000000000000000800000000000000000000) (h1 : Keeps W r s1) : Keeps W r (endOp s1 a2 a3 a4 a5) := by
  delta endOp
  refine .ite h1 ?_
  extract_lets +onlyGivenNames v1 v2 v3 v4 v5
  extract_lets +onlyGivenNames v6
  have k7 : Keeps W r v6 := .upd cw h1
  clear_value v6
  exact .ite k7 (beginOp_keeps (cw.le rfl) k7)
theorem voidPlate_keeps {W : Nat} {r : State} {s1 a2 a3} (cw : Covers W 0x518000007fe0000200040000000000000000000000000000080607e886000000000018) (h1 : Keeps W r s1) : Keeps W r (voidPlate s1 a2 a3) := by
  delta voidPlate
  extract_lets +onlyGivenNames v1 v2 v3 v4 v5 v6
  have k7 : Keeps W r v4 := endOp_keeps (cw.le rfl) h1
  clear_value v4
  extract_lets +onlyGivenNames v8 v9
  have k10 : Keeps W r v8 := .ite k7 (.upd cw k7)
  clear_value v8
  have k11 : Keeps W r v9 := updLighter_keeps (cw.le rfl) k10
  clear_value v9
  refine settleVictims_keeps (cw.le rfl) ?_
  refine .foldl k11 ?_
  intro x13 a14 k12
  split
  · exact .ite (enqueueCopy_keeps (cw.le rfl) k12) k12
  · exact enqueuePage_keeps (cw.le rfl) k12
theorem noteLoops_keeps {W : Nat} {r : State} {s1 a2 a3} (cw : Covers W 0x4000000000000000000000001) (h1 : Keeps W r s1) : Keeps W r (noteLoops s1 a2 a3) := by
  delta noteLoops
  split
  rename_i t1 t2 t3 t4
  have k5 : Keeps W r t3 := Keeps2.of_eq t4 (draw_keeps (cw.le rfl) h1)
  exact .upd cw k5
theorem plateDone_keeps {W : Nat} {r : State} {s1 a2 a3 a4} (cw : Covers W 0x518000007fe0000200041e00000000000000000000400400093e07f8c7b30800000019) (h1 : Keeps W r s1) : Keeps W r (plateDone s1 a2 a3 a4) := by
  delta plateDone
  extract_lets +onlyGivenNames v1 v2 v3 v4 v5
  split
  · extract_lets +onlyGivenNames v6 v7
    have k8 : Keeps W r v7 := noteLoops_keeps (cw.le rfl) (endOp_keeps (cw.le rfl) h1)
    clear_value v7
    split
    · extract_lets +onlyGivenNames v9 v10
      have k11 : Keeps W r v10 := putStripe_keeps (cw.le rfl) k8
      clear_value v10
      extract_lets +onlyGivenNames v12
      have k13 : Keeps W r v12 := putSet_keeps (cw.le rfl) k11
      clear_value v12
      extract_lets +onlyGivenNames v14
      have k15 : Keeps W r v14 := notePlate_keeps (cw.le rfl) k13
      clear_value v14
      exact issueParity_keeps (cw.le rfl) (commitPlate_keeps (cw.le rfl) k15)
    · extract_lets +onlyGivenNames v16
      have k17 : Keeps W r v16 := bump_keeps (cw.le rfl) k8
      clear_value v16
      extract_lets +onlyGivenNames v18
      have k19 : Keeps W r v18 := retireBlock_keeps (cw.le rfl) k17
      clear_value v18
      exact issueParity_keeps (cw.le rfl) (voidPlate_keeps (cw.le rfl) k19)
theorem unprotect_keeps {W : Nat} {r : State} {s1 a2} (cw : Covers W 0x118000000000000000000000000000000000000000000000000007e886000000000008) (h1 : Keeps W r s1) : Keeps W r (unprotect s1 a2) := by
  delta unprotect
  extract_lets +onlyGivenNames v1 v2
  have k3 : Keeps W r v1 := appendRecord_keeps (cw.le rfl) h1
  clear_value v1
  have k4 : Keeps W r v2 := bump_keeps (cw.le rfl) k3
  clear_value v2
  exact .foldl k4 (fun _ _ k5 => enqueueCopy_keeps (cw.le rfl) k5)
theorem closeSet_keeps {W : Nat} {r : State} {s1 a2} (cw : Covers W 0x518000007fe0000200040000000000000000000000000000080607e886000000000018) (h1 : Keeps W r s1) : Keeps W r (closeSet s1 a2) := engraveIfDue_keeps (cw.le rfl) (setState_keeps (cw.le rfl) h1)
theorem advanceCkpt_keeps {W : Nat} {r : State} {s1 a2} (cw : Covers W 0x100000000000000000000000000000000000000000000000000000000000000000000) (h1 : Keeps W r s1) : Keeps W r (advanceCkpt s1 a2) := by
  delta advanceCkpt
  extract_lets +onlyGivenNames v1 v2
  exact .ite h1 (.upd cw h1)
theorem parityDone_keeps {W : Nat} {r : State} {s1 a2 a3} (cw : Covers W 0x518000007fe0000200040000000000000000000000000400090607e886000000000019) (h1 : Keeps W r s1) : Keeps W r (parityDone s1 a2 a3) := by
  delta parityDone
  extract_lets +onlyGivenNames v1 v2 v3 v4 v5 v6 v7 v8 v9
  have k10 : Keeps W r v5 := noteLoops_keeps (cw.le rfl) (endOp_keeps (cw.le rfl) h1)
  clear_value v5
  have k11 : Keeps W r v7 := bump_keeps (cw.le rfl) k10
  clear_value v7
  have k12 : Keeps W r v8 := .ite (notePlate_keeps (cw.le rfl) (appendRecord_keeps (cw.le rfl) k10)) (unprotect_keeps (cw.le rfl) (retireBlock_keeps (cw.le rfl) k11))
  clear_value v8
  have k13 : Keeps W r v9 := pcCount_keeps (cw.le rfl) (bumpR_keeps (cw.le rfl) k12)
  clear_value v9
  extract_lets +onlyGivenNames v14 v15
  have k16 : Keeps W r v15 := .ite (closeSet_keeps (cw.le rfl) k13) k13
  clear_value v15
  exact freeLighter_keeps (cw.le rfl) (advanceCkpt_keeps (cw.le rfl) k16)
theorem resumeCommits_keeps {W : Nat} {r : State} {s1} (cw : Covers W 0x518000007fe0000200041e00000000000000000000400000083e07f8c7b30800000018) (h1 : Keeps W r s1) : Keeps W r (resumeCommits s1) := by
  delta resumeCommits
  extract_lets +onlyGivenNames v1
  have k2 : Keeps W r v1 := appendWaiting_keeps (cw.le rfl) h1
  clear_value v1
  refine .ite ?_ k2
  extract_lets +onlyGivenNames v3 v4
  have k13 : Keeps W r v4 := by
    unfold v4
    refine .foldl k2 ?_
    intro x6 a7 k5
    split
    · exact issueParity_keeps (cw.le rfl) (commitPlate_keeps (cw.le rfl) k5)
    · exact k5
  clear_value v4
  exact endJournalFull_keeps (cw.le rfl) (settleVictims_keeps (cw.le rfl) k13)
theorem reclaimSelect_keeps {W : Nat} {r : State} {s1 a2} (cw : Covers W 0x538000007fe000020004000000000000000000000000000008f607e886000000000018) (h1 : Keeps W r s1) : Keeps W r (reclaimSelect s1 a2) := by
  delta reclaimSelect
  extract_lets +onlyGivenNames v1 v2
  have k3 : Keeps W r v1 := settleReclaim_keeps (cw.le rfl) h1
  clear_value v1
  refine .ite (holdRebuild_keeps (cw.le rfl) k3) ?_
  refine .ite k3 ?_
  refine .ite k3 ?_
  split
  · exact k3
  · exact makeVictim_keeps (cw.le rfl) k3
theorem resetDone_keeps {W : Nat} {r : State} {s1 a2 a3 a4} (cw : Covers W 0x538000007fe000020004000000000000000000600000040008c607f886000000000018) (h1 : Keeps W r s1) : Keeps W r (resetDone s1 a2 a3 a4) := by
  delta resetDone
  extract_lets +onlyGivenNames v1
  refine .ite h1 ?_
  split
  · extract_lets +onlyGivenNames v4 v5
    have k6 : Keeps W r v4 := endOp_keeps (cw.le rfl) (bump_keeps (cw.le rfl) h1)
    clear_value v4
    have k7 : Keeps W r v5 := substituteSpares_keeps (cw.le rfl) (retireBlock_keeps (cw.le rfl) k6)
    clear_value v5
    exact .ite (retireSet_keeps (cw.le rfl) k7) (startOp_keeps (cw.le rfl) (pcCount_keeps (cw.le rfl) k7))
  · extract_lets +onlyGivenNames v9 v10 v11 v12 v13
    have k17 : Keeps W r v9 := .foldl h1 (fun _ _ k14 => endOp_keeps (cw.le rfl) k14)
    clear_value v9
    have k18 : Keeps W r v12 := .media cw k17 id (AMap.wf_filter · _)
    clear_value v12
    extract_lets +onlyGivenNames v19 v20
    have k21 : Keeps W r v19 := .upd cw k18
    clear_value v19
    have k22 : Keeps W r v20 := setState_keeps (cw.le rfl) (putSet_keeps (cw.le rfl) k21)
    clear_value v20
    exact settleReclaim_keeps (cw.le rfl) (noteSetErase_keeps (cw.le rfl) (bump_keeps (cw.le rfl) k22))
theorem execSetResetDone_keeps {W : Nat} {r : State} {a1 a2 a3 s4} (cw : Covers W 0x538000007fe000020004000000000000000000600000040008c607f886000000000018) (h4 : Keeps W r s4) : KeepsOut W r (execSetResetDone a1 a2 a3 s4) := KeepsOut.next (.ite (resetDone_keeps (cw.le rfl) h4) h4)
theorem rebuildVictim_keeps {W : Nat} {r : State} {s1 a2} (cw : Covers W 0x2006000000000000) (h1 : Keeps W r s1) : Keeps W r (rebuildVictim s1 a2) := by
  delta rebuildVictim
  extract_lets +onlyGivenNames v1 v2
  extract_lets +onlyGivenNames v3
  have k4 : Keeps W r v3 := setLighters_keeps (cw.le rfl) (putSet_keeps (cw.le rfl) h1)
  clear_value v3
  exact .foldl k4 (fun _ _ k5 => enqueueCopy_keeps (cw.le rfl) k5)
theorem startRebuild_keeps {W : Nat} {r : State} {s1 a2 a3} (cw : Covers W 0x518000007fe0000200040000000000000000000000000000083607e886000000000018) (h1 : Keeps W r s1) : Keeps W r (startRebuild s1 a2 a3) := by
  delta startRebuild
  extract_lets +onlyGivenNames v1 v2 v3 v4 v5
  have k9 : Keeps W r v2 := .foldl h1 (fun _ _ k6 => .ite (setState_keeps (cw.le rfl) k6) k6)
  clear_value v2
  have k10 : Keeps W r v4 := putRebuild_keeps (cw.le rfl) k9
  clear_value v4
  have k15 : Keeps W r v5 := by
    unfold v5
    refine .foldl k10 ?_
    intro x12 a13 k11
    extract_lets +onlyGivenNames v14
    exact .ite (makeVictim_keeps (cw.le rfl) k11) (.ite (rebuildVictim_keeps (cw.le rfl) k11) k11)
  clear_value v5
  exact endRebuild_keeps (cw.le rfl) (.ite (holdRebuild_keeps (cw.le rfl) k15) k15)
theorem losePages_keeps {W : Nat} {r : State} {s1 a2} (cw : Covers W 0x3fe00002000400000000000000000000000000000000004000000000000018) (h1 : Keeps W r s1) : Keeps W r (losePages s1 a2) := by
  delta losePages
  refine .foldl h1 ?_
  intro x2 a3 k1
  extract_lets +onlyGivenNames v4 v5 v6 v7 v8
  refine .ite k1 ?_
  extract_lets +onlyGivenNames v9
  refine .ite k1 ?_
  extract_lets +onlyGivenNames v10 v11
  extract_lets +onlyGivenNames v12
  have k13 : Keeps W r v12 := putStripe_keeps (cw.le rfl) k1
  clear_value v12
  refine .ite k13 ?_
  extract_lets +onlyGivenNames v14
  have k15 : Keeps W r v14 := bumpN_keeps (cw.le rfl) k13
  clear_value v14
  exact record_keeps (cw.le rfl) k15
theorem voidDeadPlates_keeps {W : Nat} {r : State} {s1 a2} (cw : Covers W 0x518000007fe0000200040000000000000000000000000000080607e886000000000018) (h1 : Keeps W r s1) : Keeps W r (voidDeadPlates s1 a2) := by
  delta voidDeadPlates
  refine .foldl h1 ?_
  intro _ _ k3
  extract_lets +onlyGivenNames v4 v5
  split
  · extract_lets +onlyGivenNames v6 v7
    have k8 : Keeps W r v7 := by
      unfold v7
      refine .foldl k3 ?_
      intro _ _ k11
      split
      · exact voidPlate_keeps (cw.le rfl) k11
      · exact k11
    clear_value v7
    exact issueParity_keeps (cw.le rfl) k8
theorem proofRead_keeps {W : Nat} {r : State} {s1 a2 a3} (cw : Covers W 0x400000000000000000000008) (h1 : Keeps W r s1) : Keeps W r (proofRead s1 a2 a3) := by
  delta proofRead
  extract_lets +onlyGivenNames v1
  split
  · exact h1
  · extract_lets +onlyGivenNames v7 v8 v9 v10
    extract_lets +onlyGivenNames v11
    have k12 : Keeps W r v11 := .upd cw h1
    clear_value v11
    exact .ite (bumpR_keeps (cw.le rfl) k12) k12
theorem dropProofs_keeps {W : Nat} {r : State} {s1} (cw : Covers W 0x400200000000000000000008) (h1 : Keeps W r s1) : Keeps W r (dropProofs s1) := by
  delta dropProofs
  extract_lets +onlyGivenNames v1 v2 v3
  extract_lets +onlyGivenNames v4
  have k5 : Keeps W r v4 := .upd cw h1
  clear_value v4
  exact .foldl k5 (fun _ _ k6 => proofRead_keeps (cw.le rfl) k6)
theorem resumeOps_keeps {W : Nat} {r : State} {s1} (cw : Covers W 0x800000000000000000000) (h1 : Keeps W r s1) : Keeps W r (resumeOps s1) := by
  delta resumeOps
  extract_lets +onlyGivenNames v1
  exact .upd cw h1
theorem degradeRead_keeps {W : Nat} {r : State} {s1 a2} (cw : Covers W 0x7fe00002000400000000000000000000000000001a00000000000000000018) (h1 : Keeps W r s1) : Keeps W r (degradeRead s1 a2) := by
  delta degradeRead
  extract_lets +onlyGivenNames v1
  exact .ite (readDegraded_keeps (cw.le rfl) h1) (putRead_keeps (cw.le rfl) h1)
theorem degradeReads_keeps {W : Nat} {r : State} {s1} (cw : Covers W 0x7fe00002000400000000000000000000000000401a00000000000000000018) (h1 : Keeps W r s1) : Keeps W r (degradeReads s1) := by
  delta degradeReads
  extract_lets +onlyGivenNames v1
  have k2 : Keeps W r v1 := dropProofs_keeps (cw.le rfl) h1
  clear_value v1
  exact resumeOps_keeps (cw.le rfl) (.foldl k2 (fun _ _ k3 => degradeRead_keeps (cw.le rfl) k3))
theorem memberLost_keeps {W : Nat} {r : State} {s1 a2 a3} (cw : Covers W 0x518000007fe00002000400000000000000000000000000401a3607e886000000000018) (h1 : Keeps W r s1) : Keeps W r (memberLost s1 a2 a3) := losePages_keeps (cw.le rfl) (degradeReads_keeps (cw.le rfl) (startRebuild_keeps (cw.le rfl) (voidDeadPlates_keeps (cw.le rfl) h1)))
theorem setDeadMembers_keeps {W : Nat} {r : State} {s1 a2} (cw : Covers W 0x8) (h1 : Keeps W r s1) : Keeps W r (setDeadMembers s1 a2) := by
  delta setDeadMembers
  extract_lets +onlyGivenNames v1
  exact setObj_keeps (cw.le rfl) h1
theorem dieFailed_keeps {W : Nat} {r : State} {s1 a2 a3 a4 a5} (cw : Covers W 0x518000007fe00002000400000000000000000000000000c01a3647e886000000000018) (h1 : Keeps W r s1) : Keeps W r (dieFailed s1 a2 a3 a4 a5) := by
  delta dieFailed
  extract_lets +onlyGivenNames v1
  refine .ite h1 ?_
  extract_lets +onlyGivenNames v2 v3 v4
  have k5 : Keeps W r v4 := .upd cw h1
  clear_value v4
  extract_lets +onlyGivenNames v6
  have k7 : Keeps W r v6 := record_keeps (cw.le rfl) (setDeadMembers_keeps (cw.le rfl) k5)
  clear_value v6
  exact track_keeps (cw.le rfl) h1 (memberLost_keeps (cw.le rfl) k7)
theorem stackFailed_keeps {W : Nat} {r : State} {s1 a2 a3 a4} (cw : Covers W 0x518000007fe00002000400000000000000000000000000c01a3687e886000000000018) (h1 : Keeps W r s1) : Keeps W r (stackFailed s1 a2 a3 a4) := by
  delta stackFailed
  extract_lets +onlyGivenNames v1
  refine .ite h1 ?_
  extract_lets +onlyGivenNames v2 v3 v4 v5
  have k6 : Keeps W r v5 := setDeadMembers_keeps (cw.le rfl) (.upd cw h1)
  clear_value v5
  extract_lets +onlyGivenNames v7 v8
  have k9 : Keeps W r v7 := memberLost_keeps (cw.le rfl) k6
  clear_value v7
  have k10 : Keeps W r v8 := record_keeps (cw.le rfl) k9
  clear_value v8
  exact track_keeps (cw.le rfl) h1 k10
end Sys2Proof.Machine
end

