-- ==== Sys2Proof/Laws/KeepsHost.lean ====
section
/-! SUPPORT. What the ports, the home cache, the contract windows, the mirror, the directory and the host accesses keep: one lemma per operation (Laws/Keeps.lean). -/
set_option linter.unusedVariables false
set_option maxRecDepth 4000
set_option Elab.async false
namespace Sys2Proof.Machine
open Sys2Proof

theorem endLatWin_keeps {W : Nat} {r : State} {s1 a2 a3} (cw : Covers W 0x3fe00002000400000000000000000000000000004000000000000000000018) (h1 : Keeps W r s1) : Keeps W r (endLatWin s1 a2 a3) := by
  delta endLatWin
  extract_lets +onlyGivenNames v1 v2
  have k3 : Keeps W r v2 := setR_keeps (cw.le rfl) h1
  clear_value v2
  extract_lets +onlyGivenNames v4 v5
  have k6 : Keeps W r v5 := .upd cw k3
  clear_value v5
  exact .ite (record_keeps (cw.le rfl) k6) k6
theorem noteLatency_keeps {W : Nat} {r : State} {s1 a2 a3} (cw : Covers W 0x3fe00002000400000000000000000000000000004000000000000000000018) (h1 : Keeps W r s1) : Keeps W r (noteLatency s1 a2 a3) := by
  delta noteLatency
  extract_lets +onlyGivenNames v1 v2
  have k3 : Keeps W r v2 := bumpR_keeps (cw.le rfl) h1
  clear_value v2
  extract_lets +onlyGivenNames v4
  have k5 : Keeps W r v4 := raiseTo_keeps (cw.le rfl) k3
  clear_value v4
  extract_lets +onlyGivenNames v6
  have k7 : Keeps W r v6 := .ite (bumpR_keeps (cw.le rfl) k5) k5
  clear_value v6
  extract_lets +onlyGivenNames v8 v9
  exact .ite (endLatWin_keeps (cw.le rfl) k7) (.upd cw k7)
theorem countSent_keeps {W : Nat} {r : State} {s1 a2 a3 a4} (cw : Covers W 0x1ffe00002000400000000000000000000000000004000000000000000000018) (h1 : Keeps W r s1) : Keeps W r (countSent s1 a2 a3 a4) := by
  delta countSent
  refine .ite h1 ?_
  extract_lets +onlyGivenNames v1 v2 v3 v4 v5 v6
  have k7 : Keeps W r v5 := .ite h1 (pcCount_keeps (cw.le rfl) h1)
  clear_value v5
  refine .ite ?_ ?_
  · extract_lets +onlyGivenNames v8
    have k9 : Keeps W r v8 := pcCount_keeps (cw.le rfl) (bumpR_keeps (cw.le rfl) k7)
    clear_value v8
    exact sampleStep_keeps (cw.le rfl) k9
  · extract_lets +onlyGivenNames v10 v11 v12 v13
    have k14 : Keeps W r v12 := noteLatency_keeps (cw.le rfl) k7
    clear_value v12
    have k15 : Keeps W r v13 := .ite (pcCount_keeps (cw.le rfl) k14) k14
    clear_value v13
    exact sampleStep_keeps (cw.le rfl) k15
theorem countPathX_keeps {W : Nat} {r : State} {s1 a2 a3 a4} (cw : Covers W 0x1ffe00002000400000000000000000000000000004000000000000000000038) (h1 : Keeps W r s1) : Keeps W r (countPathX s1 a2 a3 a4) := by
  delta countPathX
  split
  · refine .ite ?_ (countSent_keeps (cw.le rfl) h1)
    extract_lets +onlyGivenNames v4
    exact .upd cw h1
  · exact countSent_keeps (cw.le rfl) h1
theorem countPath_keeps {W : Nat} {r : State} {s1 a2 a3} (cw : Covers W 0x1ffe00002000400000000000000000000000000004000000000000000000038) (h1 : Keeps W r s1) : Keeps W r (countPath s1 a2 a3) := countPathX_keeps (cw.le rfl) h1
theorem putPort_keeps {W : Nat} {r : State} {s1 a2 a3} (cw : Covers W 0x20) (h1 : Keeps W r s1) : Keeps W r (putPort s1 a2 a3) := .upd cw h1
theorem updAgent_keeps {W : Nat} {r : State} {s1 a2 a3 a4} (cw : Covers W 0x40) (h1 : Keeps W r s1) : Keeps W r (updAgent s1 a2 a3 a4) := .upd cw h1
theorem updWin_keeps {W : Nat} {r : State} {s1 a2 a3} (cw : Covers W 0x800) (h1 : Keeps W r s1) : Keeps W r (updWin s1 a2 a3) := by
  delta updWin
  split
  · exact .upd cw h1
  · exact h1
theorem loseResv_keeps {W : Nat} {r : State} {s1 a2 a3} (cw : Covers W 0x800) (h1 : Keeps W r s1) : Keeps W r (loseResv s1 a2 a3) := updWin_keeps (cw.le rfl) h1
theorem loseResvWhere_keeps {W : Nat} {r : State} {s1 a2 a3} (cw : Covers W 0x800) (h1 : Keeps W r s1) : Keeps W r (loseResvWhere s1 a2 a3) := by
  delta loseResvWhere
  refine .foldl h1 ?_
  intro _ _ k3
  split
  · exact .ite (loseResv_keeps (cw.le rfl) k3) k3
  · exact k3
theorem losePortResv_keeps {W : Nat} {r : State} {s1 a2 a3} (cw : Covers W 0x800) (h1 : Keeps W r s1) : Keeps W r (losePortResv s1 a2 a3) := loseResvWhere_keeps (cw.le rfl) h1
theorem raiseViral_keeps {W : Nat} {r : State} {s1 a2} (cw : Covers W 0xc0000000000000000000000000000000000000000000000000822) (h1 : Keeps W r s1) : Keeps W r (raiseViral s1 a2) := by
  delta raiseViral
  extract_lets +onlyGivenNames v1
  have k2 : Keeps W r v1 := losePortResv_keeps (cw.le rfl) h1
  clear_value v1
  refine .ite k2 ?_
  extract_lets +onlyGivenNames v3 v4
  have k5 : Keeps W r v4 := putPort_keeps (cw.le rfl) k2
  clear_value v4
  exact .ite (emit_keeps (cw.le rfl) k5) k5
theorem showReason_keeps {W : Nat} {r : State} {s1 a2 a3} (cw : Covers W 0x3fe00002000400000000000000000000000000000000000000000000000038) (h1 : Keeps W r s1) : Keeps W r (showReason s1 a2 a3) := by
  delta showReason
  extract_lets +onlyGivenNames v1 v2 v3 v4
  have k5 : Keeps W r v3 := setObj_keeps (cw.le rfl) h1
  clear_value v3
  have k6 : Keeps W r v4 := bump_keeps (cw.le rfl) k5
  clear_value v4
  extract_lets +onlyGivenNames v7
  have k8 : Keeps W r v7 := .ite (record_keeps (cw.le rfl) k6) k5
  clear_value v7
  exact .ite (putPort_keeps (cw.le rfl) k8) k8
theorem fencePort_keeps {W : Nat} {r : State} {s1 a2 a3} (cw : Covers W 0x3fe00002000400000000000000000000000000000000000000000000000838) (h1 : Keeps W r s1) : Keeps W r (fencePort s1 a2 a3) := .ite h1 (showReason_keeps (cw.le rfl) (losePortResv_keeps (cw.le rfl) h1))
theorem unfencePort_keeps {W : Nat} {r : State} {s1 a2 a3} (cw : Covers W 0x8) (h1 : Keeps W r s1) : Keeps W r (unfencePort s1 a2 a3) := setObj_keeps (cw.le rfl) h1
theorem grantCredits_keeps {W : Nat} {r : State} {s1 a2} (cw : Covers W 0x20) (h1 : Keeps W r s1) : Keeps W r (grantCredits s1 a2) := by
  delta grantCredits
  extract_lets +onlyGivenNames v1 v2 v3
  exact .ite h1 (putPort_keeps (cw.le rfl) h1)
theorem settleCredits_keeps {W : Nat} {r : State} {s1} (cw : Covers W 0x20) (h1 : Keeps W r s1) : Keeps W r (settleCredits s1) := .foldl h1 (fun _ _ k3 => .ite (grantCredits_keeps (cw.le rfl) k3) k3)
theorem takeCredit_keeps {W : Nat} {r : State} {s1 a2 a3} (cw : Covers W 0x20) (h1 : Keeps W r s1) : Keeps W r (takeCredit s1 a2 a3) := by
  delta takeCredit
  extract_lets +onlyGivenNames v1
  exact putPort_keeps (cw.le rfl) h1
theorem giveCredit_keeps {W : Nat} {r : State} {s1 a2 a3} (cw : Covers W 0x20) (h1 : Keeps W r s1) : Keeps W r (giveCredit s1 a2 a3) := by
  delta giveCredit
  refine .ite h1 ?_
  extract_lets +onlyGivenNames v1
  exact .ite (grantCredits_keeps (cw.le rfl) (putPort_keeps (cw.le rfl) h1)) (putPort_keeps (cw.le rfl) h1)
theorem leavePort_keeps {W : Nat} {r : State} {s1 a2 a3} (cw : Covers W 0x3ffe000020c040000000000000000000000000000400000000000000000003a) (h1 : Keeps W r s1) : Keeps W r (leavePort s1 a2 a3) := by
  delta leavePort
  extract_lets +onlyGivenNames v1 v2 v3 v4 v5
  have k6 : Keeps W r v2 := putPort_keeps (cw.le rfl) h1
  clear_value v2
  have k12 : Keeps W r v3 := by
    unfold v3
    split
    · exact setObj_keeps (cw.le rfl) k6
    · exact k6
  clear_value v3
  have k23 : Keeps W r v4 := by
    unfold v4
    split
    · exact bwAdd_keeps (cw.le rfl) (.ite (bump_keeps (cw.le rfl) k12) k12)
    · exact k12
  clear_value v4
  have k24 : Keeps W r v5 := emit_keeps (cw.le rfl) k23
  clear_value v5
  split
  · exact countSent_keeps (cw.le rfl) k24
  · exact k24
theorem sendS2m_keeps {W : Nat} {r : State} {s1 a2 a3 a4} (cw : Covers W 0x3ffe000020c040000000000000000000000000000400000000000000000003a) (h1 : Keeps W r s1) : Keeps W r (sendS2m s1 a2 a3 a4) := by
  delta sendS2m
  extract_lets +onlyGivenNames v1 v2
  exact .ite (leavePort_keeps (cw.le rfl) h1) (putPort_keeps (cw.le rfl) h1)
theorem respondNdr_keeps {W : Nat} {r : State} {s1 a2 a3 a4} (cw : Covers W 0x3ffe000020c040000000000000000000000000000400000000000000000003a) (h1 : Keeps W r s1) : Keeps W r (respondNdr s1 a2 a3 a4) := .ite (sendS2m_keeps (cw.le rfl) h1) h1
theorem respondDrs_keeps {W : Nat} {r : State} {s1 a2 a3 a4 a5 a6} (cw : Covers W 0x3ffe000020c040000000000000000000000000000400000000000000000003a) (h1 : Keeps W r s1) : Keeps W r (respondDrs s1 a2 a3 a4 a5 a6) := .ite (sendS2m_keeps (cw.le rfl) h1) h1
theorem drainOut_keeps {W : Nat} {r : State} {n l} (cw : Covers W 0x3ffe000020c040000000000000000000000000000400000000000000000003a) : ∀ {s : State}, Keeps W r s → Keeps W r (drainOut n l s) := by
  induction l with
  | nil => exact fun h => putPort_keeps (cw.le rfl) h
  | cons m t ih =>
    intro s h
    simp only [drainOut]
    split
    · exact ih (leavePort_keeps (cw.le rfl) h)
    · exact putPort_keeps (cw.le rfl) h
theorem pumpPort_keeps {W : Nat} {r : State} {s1 a2} (cw : Covers W 0x3ffe000020c040000000000000000000000000000400000000000000000003a) (h1 : Keeps W r s1) : Keeps W r (pumpPort s1 a2) := drainOut_keeps (cw.le rfl) h1
theorem hcTouch_keeps {W : Nat} {r : State} {s1 a2 a3} (cw : Covers W 0x8000000) (h1 : Keeps W r s1) : Keeps W r (hcTouch s1 a2 a3) := by
  delta hcTouch
  extract_lets +onlyGivenNames v1
  exact .upd cw h1
theorem staleRisk_keeps {W : Nat} {r : State} {s1} (cw : Covers W 0x8) (h1 : Keeps W r s1) : Keeps W r (staleRisk s1) := .ite h1 (setR_keeps (cw.le rfl) h1)
theorem hcUpdate_keeps {W : Nat} {r : State} {s1 a2 a3 a4 a5 a6} (cw : Covers W 0x4000008) (h1 : Keeps W r s1) : Keeps W r (hcUpdate s1 a2 a3 a4 a5 a6) := by
  delta hcUpdate
  refine .ite (staleRisk_keeps (cw.le rfl) h1) ?_
  extract_lets +onlyGivenNames v1
  split
  · exact h1
  · split
    · exact h1
    · refine .ite h1 ?_
      extract_lets +onlyGivenNames v12
      exact .upd cw h1
theorem hcDrop_keeps {W : Nat} {r : State} {s1 a2} (cw : Covers W 0x804000008) (h1 : Keeps W r s1) : Keeps W r (hcDrop s1 a2) := by
  delta hcDrop
  extract_lets +onlyGivenNames v1
  have k2 : Keeps W r v1 := staleRisk_keeps (cw.le rfl) h1
  clear_value v1
  extract_lets +onlyGivenNames v3 v4
  exact .upd cw k2
theorem hcDropLine_keeps {W : Nat} {r : State} {s1 a2 a3} (cw : Covers W 0x804000008) (h1 : Keeps W r s1) : Keeps W r (hcDropLine s1 a2 a3) := by
  delta hcDropLine
  extract_lets +onlyGivenNames v1 v2 v3
  have k4 : Keeps W r v1 := staleRisk_keeps (cw.le rfl) h1
  clear_value v1
  extract_lets +onlyGivenNames v5
  have k6 : Keeps W r v5 := .upd cw k4
  clear_value v5
  refine .ite k6 ?_
  split
  · exact k6
  · split
    · exact k6
    · exact .upd cw k6
theorem hcFill_keeps {W : Nat} {r : State} {s1 a2 a3 a4} (cw : Covers W 0xc000008) (h1 : Keeps W r s1) : Keeps W r (hcFill s1 a2 a3 a4) := by
  delta hcFill
  refine .ite h1 ?_
  extract_lets +onlyGivenNames v1 v2 v3 v4
  clear_value v4
  split
  · exact h1
  · extract_lets +onlyGivenNames v5 v6
    have k7 : Keeps W r v6 := .upd cw h1
    clear_value v6
    exact hcTouch_keeps (cw.le rfl) (bumpR_keeps (cw.le rfl) k7)
theorem dropWay_keeps {W : Nat} {r : State} {s1 a2 a3} (cw : Covers W 0x804000000) (h1 : Keeps W r s1) : Keeps W r (dropWay s1 a2 a3) := by
  delta dropWay
  extract_lets +onlyGivenNames v1
  exact .upd cw h1
theorem disableWay_keeps {W : Nat} {r : State} {s1 a2 a3} (cw : Covers W 0x3fe00002000400000000000000000000000000000000000000000824000018) (h1 : Keeps W r s1) : Keeps W r (disableWay s1 a2 a3) := by
  delta disableWay
  split
  · extract_lets +onlyGivenNames v1
    have k2 : Keeps W r v1 := dropWay_keeps (cw.le rfl) h1
    clear_value v1
    extract_lets +onlyGivenNames v3
    have k4 : Keeps W r v3 := setR_keeps (cw.le rfl) k2
    clear_value v3
    extract_lets +onlyGivenNames v5 v6
    have k7 : Keeps W r v6 := .upd cw k4
    clear_value v6
    exact record_keeps (cw.le rfl) (bumpR_keeps (cw.le rfl) k7)
theorem substituteWay_keeps {W : Nat} {r : State} {s1 a2 a3} (cw : Covers W 0x3fe00002000400000000000000000000000000000000000000000944000018) (h1 : Keeps W r s1) : Keeps W r (substituteWay s1 a2 a3) := by
  delta substituteWay
  refine .ite h1 ?_
  extract_lets +onlyGivenNames v1
  split
  · extract_lets +onlyGivenNames v5
    have k6 : Keeps W r v5 := dropWay_keeps (cw.le rfl) h1
    clear_value v5
    exact .upd cw k6
  · split
    extract_lets +onlyGivenNames v13 v14
    refine .ite h1 ?_
    extract_lets +onlyGivenNames v15
    extract_lets +onlyGivenNames v16
    have k17 : Keeps W r v16 := .upd cw h1
    clear_value v16
    exact record_keeps (cw.le rfl) k17
theorem forgetCrossings_keeps {W : Nat} {r : State} {s1 a2 a3} (cw : Covers W 0x40000000) (h1 : Keeps W r s1) : Keeps W r (forgetCrossings s1 a2 a3) := by
  delta forgetCrossings
  split
  extract_lets +onlyGivenNames v5
  exact .upd cw h1
theorem noteWayError_keeps {W : Nat} {r : State} {s1 a2 a3 a4} (cw : Covers W 0x3fe00002000400000000000000000000000000000000000000000974000018) (h1 : Keeps W r s1) : Keeps W r (noteWayError s1 a2 a3 a4) := by
  delta noteWayError
  extract_lets +onlyGivenNames v1 v2 v3 v4
  have k5 : Keeps W r v1 := forgetCrossings_keeps (cw.le rfl) h1
  clear_value v1
  extract_lets +onlyGivenNames v6
  have k7 : Keeps W r v6 := .upd cw k5
  clear_value v6
  split
  exact .ite (.ite (substituteWay_keeps (cw.le rfl) k7) (.ite k7 (disableWay_keeps (cw.le rfl) k7))) k7
theorem pbufPut_keeps {W : Nat} {r : State} {s1 a2 a3} (cw : Covers W 0x800000008) (h1 : Keeps W r s1) : Keeps W r (pbufPut s1 a2 a3) := by
  delta pbufPut
  extract_lets +onlyGivenNames v1 v2 v3
  have k4 : Keeps W r v3 := .ite (bumpR_keeps (cw.le rfl) h1) h1
  clear_value v3
  extract_lets +onlyGivenNames v5
  exact .upd cw k4
theorem pbufTake_keeps {W : Nat} {r : State} {s1 a2} (cw : Covers W 0x800000008) (h1 : Keeps W r s1) : KeepsO W r (pbufTake s1 a2) := by
  delta pbufTake
  extract_lets +onlyGivenNames v1
  split
  · refine KeepsO.mk ?_
    refine Keeps2.mk ?_
    extract_lets +onlyGivenNames v2
    have k3 : Keeps W r v2 := bumpR_keeps (cw.le rfl) h1
    exact .upd cw k3
  · exact .none
theorem prefetchOne_keeps {W : Nat} {r : State} {s1 a2} (cw : Covers W 0x7fe00002000400000000000000000000000000003e00000000000800000018) (h1 : Keeps W r s1) : Keeps W r (prefetchOne s1 a2) := by
  delta prefetchOne
  refine .ite h1 ?_
  extract_lets +onlyGivenNames v1
  have k2 : Keeps W r v1 := bumpR_keeps (cw.le rfl) h1
  clear_value v1
  refine .ite k2 ?_
  split
  · exact pbufPut_keeps (cw.le rfl) k2
  · split
    · exact .ite (issueRead_keeps (cw.le rfl) k2) k2
    · exact k2
theorem streamMiss_keeps {W : Nat} {r : State} {s1 a2 a3} (cw : Covers W 0x7fe00002000400000000000000000000000000003e00000000001800000018) (h1 : Keeps W r s1) : Keeps W r (streamMiss s1 a2 a3) := by
  delta streamMiss
  refine .ite h1 ?_
  extract_lets +onlyGivenNames v1 v2 v3 v4 v5
  extract_lets +onlyGivenNames v6
  have k7 : Keeps W r v6 := .upd cw h1
  clear_value v6
  exact .ite (.foldl k7 (fun _ _ k8 => prefetchOne_keeps (cw.le rfl) k8)) k7
theorem releaseHeld_keeps {W : Nat} {r : State} {s1 a2 a3} (cw : Covers W 0x3ffe000020c040000000000000000000000000000400000000000000000083a) (h1 : Keeps W r s1) : Keeps W r (releaseHeld s1 a2 a3) := by
  delta releaseHeld
  extract_lets +onlyGivenNames v1 v2 v3
  have k4 : Keeps W r v3 := updWin_keeps (cw.le rfl) h1
  clear_value v3
  exact .foldl k4 (fun _ _ k7 => countPath_keeps (cw.le rfl) (respondNdr_keeps (cw.le rfl) k7))
theorem holdOrComplete_keeps {W : Nat} {r : State} {s1 a2 a3 a4 a5} (cw : Covers W 0x3ffe000020c040000000000000000000000000000400000000000000000083a) (h1 : Keeps W r s1) : Keeps W r (holdOrComplete s1 a2 a3 a4 a5) := by
  delta holdOrComplete
  extract_lets +onlyGivenNames v1
  exact .ite (countPath_keeps (cw.le rfl) (respondNdr_keeps (cw.le rfl) h1)) (updWin_keeps (cw.le rfl) h1)
theorem resvFinish_keeps {W : Nat} {r : State} {s1 a2 a3 a4 a5} (cw : Covers W 0x3ffe000020c040000000000000000000000000000400000000000000000083a) (h1 : Keeps W r s1) : Keeps W r (resvFinish s1 a2 a3 a4 a5) := by
  delta resvFinish
  extract_lets +onlyGivenNames v1
  have k2 : Keeps W r v1 := updWin_keeps (cw.le rfl) h1
  clear_value v1
  extract_lets +onlyGivenNames v3
  have k4 : Keeps W r v3 := bumpR_keeps (cw.le rfl) k2
  clear_value v3
  exact releaseHeld_keeps (cw.le rfl) k4
theorem finishWrite_keeps {W : Nat} {r : State} {a1 a2 s3} (cw : Covers W 0x3ffe000020c040000000000000000000000000000400000000000000000083a) (h3 : Keeps W r s3) : Keeps W r (finishWrite a1 a2 s3) := .ite (.ite (resvFinish_keeps (cw.le rfl) h3) (bumpR_keeps (cw.le rfl) h3)) (countPath_keeps (cw.le rfl) (respondNdr_keeps (cw.le rfl) h3))
theorem loseLineResv_keeps {W : Nat} {r : State} {s1 a2 a3 a4 a5} (cw : Covers W 0x800) (h1 : Keeps W r s1) : Keeps W r (loseLineResv s1 a2 a3 a4 a5) := loseResvWhere_keeps (cw.le rfl) h1
theorem settleDrain_keeps {W : Nat} {r : State} {s1 a2} (cw : Covers W 0x3ffe000020c040000000000000000000000000000400000000000000000083a) (h1 : Keeps W r s1) : Keeps W r (settleDrain s1 a2) := by
  delta settleDrain
  split
  · exact h1
  · extract_lets +onlyGivenNames v1
    refine .ite (releaseHeld_keeps (cw.le rfl) (updWin_keeps (cw.le rfl) h1)) ?_
    refine .ite ?_ h1
    extract_lets +onlyGivenNames v2
    have k3 : Keeps W r v2 := releaseHeld_keeps (cw.le rfl) (updWin_keeps (cw.le rfl) h1)
    clear_value v2
    exact record_keeps (cw.le rfl) (bumpR_keeps (cw.le rfl) k3)
theorem settleBarriers_keeps {W : Nat} {r : State} {s1} (cw : Covers W 0x3ffe000020c040000000000000000000000000000400000000000000000083a) (h1 : Keeps W r s1) : Keeps W r (settleBarriers s1) := .foldl h1 (fun _ _ k3 => settleDrain_keeps (cw.le rfl) k3)
theorem updDiscard_keeps {W : Nat} {r : State} {s1 a2 a3} (cw : Covers W 0x800) (h1 : Keeps W r s1) : Keeps W r (updDiscard s1 a2 a3) := updWin_keeps (cw.le rfl) h1
theorem finishDiscard_keeps {W : Nat} {r : State} {s1 a2} (cw : Covers W 0x3ffe000020c040000000000000000000000000000400000000000000000083a) (h1 : Keeps W r s1) : Keeps W r (finishDiscard s1 a2) := by
  delta finishDiscard
  extract_lets +onlyGivenNames v1
  split
  · exact h1
  · extract_lets +onlyGivenNames v2
    have k3 : Keeps W r v2 := updWin_keeps (cw.le rfl) h1
    clear_value v2
    extract_lets +onlyGivenNames v4
    have k5 : Keeps W r v4 := record_keeps (cw.le rfl) k3
    clear_value v4
    exact .ite (releaseHeld_keeps (cw.le rfl) k5) k5
theorem discardNext_keeps {W : Nat} {r : State} {s1 a2} (cw : Covers W 0x3ffe000020c040000000000000000000000000000400000000000000000083a) (h1 : Keeps W r s1) : Keeps W r (discardNext s1 a2) := by
  delta discardNext
  extract_lets +onlyGivenNames v1
  have k2 : Keeps W r v1 := updDiscard_keeps (cw.le rfl) (bumpR_keeps (cw.le rfl) h1)
  clear_value v1
  split
  · exact .ite (finishDiscard_keeps (cw.le rfl) k2) k2
  · exact k2
theorem unmapPage_keeps {W : Nat} {r : State} {s1 a2 a3} (cw : Covers W 0x51800003ffe000020c041e00000000000000000400000000480607e8c7b3000000383a) (h1 : Keeps W r s1) : Keeps W r (unmapPage s1 a2 a3) := by
  delta unmapPage
  extract_lets +onlyGivenNames v1 v2 v3 v4
  have k5 : Keeps W r v4 := .upd cw h1
  refine .ite ?_ (discardNext_keeps (cw.le rfl) (enqueuePage_keeps (cw.le rfl) (.upd cw k5)))
  refine .ite (noteJournalFull_keeps (cw.le rfl) k5) ?_
  extract_lets +onlyGivenNames v6 v7
  have k8 : Keeps W r v7 := appendRecord_keeps (cw.le rfl) k5
  extract_lets +onlyGivenNames v9 v10 v11
  have k12 : Keeps W r v11 := .wharf cw k8 (AMap.wf_filter · _) (AMap.wf_filter · _)
  extract_lets +onlyGivenNames v13
  have k14 : Keeps W r v13 := indexChange_keeps (cw.le rfl) k12
  extract_lets +onlyGivenNames v15 v16
  have k17 : Keeps W r v16 := .upd cw k14
  extract_lets +onlyGivenNames v18
  have k19 : Keeps W r v18 := .ite (unpin_keeps (cw.le rfl) k17) k17
  clear_value v18
  extract_lets +onlyGivenNames v20
  have k21 : Keeps W r v20 := by
    unfold v20
    clear_value v6
    split
    · rename_i x22 x23
      exact resetIfEmpty_keeps (cw.le rfl) k19
    · rename_i x24
      exact k19
  clear_value v20
  exact discardNext_keeps (cw.le rfl) (settleLevel_keeps (cw.le rfl) (enqueuePage_keeps (cw.le rfl) k21))
theorem settleDiscard_keeps {W : Nat} {r : State} {s1 a2} (cw : Covers W 0x51800003ffe000020c041e00000000000000000400000000480607e8c7b3000000383a) (h1 : Keeps W r s1) : Keeps W r (settleDiscard s1 a2) := by
  delta settleDiscard
  split
  · exact .ite (unmapPage_keeps (cw.le rfl) h1) h1
  · exact h1
theorem settleDiscards_keeps {W : Nat} {r : State} {s1} (cw : Covers W 0x51800003ffe000020c041e00000000000000000400000000480607e8c7b3000000383a) (h1 : Keeps W r s1) : Keeps W r (settleDiscards s1) := .foldl h1 (fun _ _ k3 => settleDiscard_keeps (cw.le rfl) k3)
theorem settleReplay_keeps {W : Nat} {r : State} {s1} (cw : Covers W 0x80000000000000f08000000000000300000000000c0000000000000000000000000008) (h1 : Keeps W r s1) : Keeps W r (settleReplay s1) := by
  delta settleReplay
  refine .ite h1 ?_
  extract_lets +onlyGivenNames v1 v2
  have k3 : Keeps W r v2 := by
    unfold v2
    split
    · exact h1
    · exact .ite h1 (.upd cw h1)
  clear_value v2
  split
  · refine .ite ?_ k3
    extract_lets +onlyGivenNames v4
    refine syncRec_keeps (cw.le rfl) ?_
    unfold v4
    refine .ite ?_ ?_
    · extract_lets +onlyGivenNames v5 v6
      have k7 : Keeps W r v6 := setObj_keeps (cw.le rfl) (.upd cw k3)
      clear_value v6
      extract_lets +onlyGivenNames v8 v9
      have k10 : Keeps W r v9 := setObj_keeps (cw.le rfl) (.ite (.ite (.upd cw k7) (.upd cw k7)) (.upd cw k3))
      clear_value v9
      exact .ite (.upd cw k10) (.upd cw k10)
    · refine .ite ?_ (.upd cw k3)
      extract_lets +onlyGivenNames v11 v12
      have k13 : Keeps W r v12 := setObj_keeps (cw.le rfl) (.upd cw k3)
      clear_value v12
      exact .ite (.upd cw k13) (.upd cw k13)
  · exact k3
theorem settle_keeps {W : Nat} {r : State} {s1} (cw : Covers W 0xd1800003ffe000f28c041e0000000300000000040c000000480607e8c7b3000000383a) (h1 : Keeps W r s1) : Keeps W r (settle s1) := settleCredits_keeps (cw.le rfl) (settleReplay_keeps (cw.le rfl) (settleBarriers_keeps (cw.le rfl) (settleDiscards_keeps (cw.le rfl) h1)))
theorem putBerth_keeps {W : Nat} {r s : State} {line l} (cw : Covers W 0x2000000000) (h : Keeps W r s) : Keeps W r (putBerth s line l) := by
  refine .hc cw h fun hb => ?_
  simp only [berthMemWf, putBerth, Bool.and_eq_true] at hb ⊢
  split
  · exact ⟨AMap.wf_del hb.1 _, AMap.all_del hb.2 _⟩
  · exact ⟨AMap.wf_set hb.1 _ _, AMap.all_set hb.2 (by simpa)⟩
theorem updMirror_keeps {W : Nat} {r : State} {s1 a2} (cw : Covers W 0x8000000000) (h1 : Keeps W r s1) : Keeps W r (updMirror s1 a2) := .upd cw h1
theorem markPage_keeps {W : Nat} {r : State} {s1 a2} (cw : Covers W 0x8000000000) (h1 : Keeps W r s1) : Keeps W r (markPage s1 a2) := by
  delta markPage
  extract_lets +onlyGivenNames v1
  exact updMirror_keeps (cw.le rfl) h1
theorem clearPage_keeps {W : Nat} {r : State} {s1 a2} (cw : Covers W 0x8000000000) (h1 : Keeps W r s1) : Keeps W r (clearPage s1 a2) := updMirror_keeps (cw.le rfl) h1
theorem emitFrame_keeps {W : Nat} {r : State} {s1 a2} (cw : Covers W 0xc0000000000000000000000000000000000000000000000000002) (h1 : Keeps W r s1) : Keeps W r (emitFrame s1 a2) := emit_keeps (cw.le rfl) h1
theorem sendFrame_keeps {W : Nat} {r : State} {s1 a2} (cw : Covers W 0x7fe000020c040000000000000000000000000000000000000000800000001a) (h1 : Keeps W r s1) : Keeps W r (sendFrame s1 a2) := by
  delta sendFrame
  extract_lets +onlyGivenNames v1 v2 v3
  have k4 : Keeps W r v3 := updMirror_keeps (cw.le rfl) h1
  clear_value v3
  extract_lets +onlyGivenNames v5
  have k6 : Keeps W r v5 := bumpN_keeps (cw.le rfl) k4
  clear_value v5
  extract_lets +onlyGivenNames v7
  have k8 : Keeps W r v7 := pcCount_keeps (cw.le rfl) k6
  clear_value v7
  exact .ite (emitFrame_keeps (cw.le rfl) (updMirror_keeps (cw.le rfl) k8)) (updMirror_keeps (cw.le rfl) k8)
theorem berthStore_keeps {W : Nat} {r : State} {s1 a2} (cw : Covers W 0x2000000800) (h1 : Keeps W r s1) : Keeps W r (berthStore s1 a2) := by
  delta berthStore
  extract_lets +onlyGivenNames v1
  have k2 : Keeps W r v1 := putBerth_keeps (cw.le rfl) h1
  clear_value v1
  exact loseLineResv_keeps (cw.le rfl) k2
theorem sendLive_keeps {W : Nat} {r : State} {s1 a2 a3} (cw : Covers W 0x7fe000020c040000000000000000000000000000000000000000800000001a) (h1 : Keeps W r s1) : Keeps W r (sendLive s1 a2 a3) := by
  delta sendLive
  extract_lets +onlyGivenNames v1
  have k2 : Keeps W r v1 := sendFrame_keeps (cw.le rfl) h1
  clear_value v1
  extract_lets +onlyGivenNames v3
  refine .ite ?_ k2
  extract_lets +onlyGivenNames v4
  have k5 : Keeps W r v4 := markPage_keeps (cw.le rfl) k2
  clear_value v4
  exact updMirror_keeps (cw.le rfl) k5
theorem berthWrite_keeps {W : Nat} {r : State} {s1 a2} (cw : Covers W 0x3ffe000020c040000000000000000000000000000400000000000a00000083a) (h1 : Keeps W r s1) : Keeps W r (berthWrite s1 a2) := by
  delta berthWrite
  split
  · exact finishWrite_keeps (cw.le rfl) (bumpR_keeps (cw.le rfl) h1)
  · refine .ite (finishWrite_keeps (cw.le rfl) (bumpR_keeps (cw.le rfl) h1)) ?_
    extract_lets +onlyGivenNames v1
    have k2 : Keeps W r v1 := berthStore_keeps (cw.le rfl) h1
    clear_value v1
    refine .ite (finishWrite_keeps (cw.le rfl) k2) ?_
    refine .ite ?_ (finishWrite_keeps (cw.le rfl) (markPage_keeps (cw.le rfl) k2))
    refine .ite ?_ (finishWrite_keeps (cw.le rfl) (sendLive_keeps (cw.le rfl) k2))
    extract_lets +onlyGivenNames v3
    have k4 : Keeps W r v3 := sendLive_keeps (cw.le rfl) k2
    clear_value v3
    exact updMirror_keeps (cw.le rfl) k4
theorem berthRead_keeps {W : Nat} {r : State} {s1 a2} (cw : Covers W 0x3ffe000020c040000000000000000000000000000400000000000000000003a) (h1 : Keeps W r s1) : Keeps W r (berthRead s1 a2) := by
  delta berthRead
  split
  · exact countPath_keeps (cw.le rfl) (respondDrs_keeps (cw.le rfl) (bumpR_keeps (cw.le rfl) h1))
  · extract_lets +onlyGivenNames v1
    exact countPath_keeps (cw.le rfl) (respondDrs_keeps (cw.le rfl) h1)
theorem resvArms_keeps {W : Nat} {r : State} {s1 a2} (cw : Covers W 0x800) (h1 : Keeps W r s1) : Keeps W r (resvArms s1 a2) := updWin_keeps (cw.le rfl) h1
theorem resvLoaded_keeps {W : Nat} {r : State} {s1 a2 a3} (cw : Covers W 0x800) (h1 : Keeps W r s1) : Keeps W r (resvLoaded s1 a2 a3) := updWin_keeps (cw.le rfl) h1
theorem berthLoad_keeps {W : Nat} {r : State} {s1 a2} (cw : Covers W 0x3ffe000020c040000000000000000000000000000400000000000000000083a) (h1 : Keeps W r s1) : Keeps W r (berthLoad s1 a2) := by
  delta berthLoad
  extract_lets +onlyGivenNames v1 v2
  have k3 : Keeps W r v1 := resvArms_keeps (cw.le rfl) h1
  clear_value v1
  exact countPath_keeps (cw.le rfl) (respondDrs_keeps (cw.le rfl) (resvLoaded_keeps (cw.le rfl) k3))
theorem resvApplied_keeps {W : Nat} {r : State} {s1 a2} (cw : Covers W 0x800) (h1 : Keeps W r s1) : Keeps W r (resvApplied s1 a2) := updWin_keeps (cw.le rfl) h1
theorem resvFail_keeps {W : Nat} {r : State} {s1 a2} (cw : Covers W 0x3ffe000020c040000000000000000000000000000400000000000000000083a) (h1 : Keeps W r s1) : Keeps W r (resvFail s1 a2) := by
  delta resvFail
  extract_lets +onlyGivenNames v1
  exact .ite (resvFinish_keeps (cw.le rfl) h1) (resvFinish_keeps (cw.le rfl) h1)
theorem berthServe_keeps {W : Nat} {r : State} {s1 a2} (cw : Covers W 0x3ffe000020c040000000000000000000000000000400000000000a00000083a) (h1 : Keeps W r s1) : Keeps W r (berthServe s1 a2) := by
  delta berthServe
  extract_lets +onlyGivenNames v1
  have k2 : Keeps W r v1 := .ite (giveCredit_keeps (cw.le rfl) h1) h1
  clear_value v1
  split
  · exact berthRead_keeps (cw.le rfl) k2
  · exact berthLoad_keeps (cw.le rfl) k2
  · exact .ite (berthWrite_keeps (cw.le rfl) (resvApplied_keeps (cw.le rfl) k2)) (resvFail_keeps (cw.le rfl) k2)
  · exact berthWrite_keeps (cw.le rfl) k2
theorem berthEnter_keeps {W : Nat} {r : State} {s1 a2} (cw : Covers W 0x3ffe000020c040000000000000000000000000000400000000000a00000083a) (h1 : Keeps W r s1) : Keeps W r (berthEnter s1 a2) := .ite (updMirror_keeps (cw.le rfl) h1) (berthServe_keeps (cw.le rfl) h1)
theorem releaseBerth_keeps {W : Nat} {r : State} {s1} (cw : Covers W 0x3ffe000020c040000000000000000000000000000400000000000a00000083a) (h1 : Keeps W r s1) : Keeps W r (releaseBerth s1) := .foldl h1 (fun _ _ k3 => .ite k3 (berthServe_keeps (cw.le rfl) (updMirror_keeps (cw.le rfl) k3)))
theorem releaseSync_keeps {W : Nat} {r : State} {s1 a2} (cw : Covers W 0x3ffe000020c040000000000000000000000000000400000000000800000083a) (h1 : Keeps W r s1) : Keeps W r (releaseSync s1 a2) := by
  delta releaseSync
  extract_lets +onlyGivenNames v1 v2
  have k3 : Keeps W r v2 := updMirror_keeps (cw.le rfl) h1
  clear_value v2
  exact .foldl k3 (fun _ _ k6 => finishWrite_keeps (cw.le rfl) k6)
theorem refillWindow_keeps {W : Nat} {r : State} {s1} (cw : Covers W 0xc0000000000000000000000000000000000000000008000000002) (h1 : Keeps W r s1) : Keeps W r (refillWindow s1) := by
  delta refillWindow
  extract_lets +onlyGivenNames v1 v2 v3
  have k4 : Keeps W r v3 := updMirror_keeps (cw.le rfl) h1
  clear_value v3
  exact .foldl k4 (fun _ _ k7 => emitFrame_keeps (cw.le rfl) k7)
theorem settleMirrorBarrier_keeps {W : Nat} {r : State} {s1 a2} (cw : Covers W 0x3ffe000020c040000000000000000000000000000400000000000000000083a) (h1 : Keeps W r s1) : Keeps W r (settleMirrorBarrier s1 a2) := by
  delta settleMirrorBarrier
  split
  · exact h1
  · exact .ite (releaseHeld_keeps (cw.le rfl) (updWin_keeps (cw.le rfl) h1)) h1
theorem settleMirror_keeps {W : Nat} {r : State} {s1} (cw : Covers W 0x3ffe000020c040000000000000000000000000000400000000000000000083a) (h1 : Keeps W r s1) : Keeps W r (settleMirror s1) := .foldl h1 (fun _ _ k3 => settleMirrorBarrier_keeps (cw.le rfl) k3)
theorem faultMirrorBarrier_keeps {W : Nat} {r : State} {s1 a2 a3} (cw : Covers W 0x3ffe000020c040000000000000000000000000000400000000000000000083a) (h1 : Keeps W r s1) : Keeps W r (faultMirrorBarrier s1 a2 a3) := by
  delta faultMirrorBarrier
  extract_lets +onlyGivenNames v1 v2
  have k3 : Keeps W r v2 := releaseHeld_keeps (cw.le rfl) (updWin_keeps (cw.le rfl) h1)
  clear_value v2
  exact record_keeps (cw.le rfl) k3
theorem setMirState_keeps {W : Nat} {r : State} {s1 a2} (cw : Covers W 0x8) (h1 : Keeps W r s1) : Keeps W r (setMirState s1 a2) := setR_keeps (cw.le rfl) h1
theorem endMirrorSession_keeps {W : Nat} {r : State} {s1 a2} (cw : Covers W 0x3ffe000020c040000000000000000000000000000400000000000a00000083a) (h1 : Keeps W r s1) : Keeps W r (endMirrorSession s1 a2) := by
  delta endMirrorSession
  extract_lets +onlyGivenNames v1 v2 v3
  have k4 : Keeps W r v3 := .foldl h1 (fun _ _ k7 => markPage_keeps (cw.le rfl) k7)
  clear_value v3
  extract_lets +onlyGivenNames v8 v9
  have k10 : Keeps W r v9 := updMirror_keeps (cw.le rfl) k4
  clear_value v9
  extract_lets +onlyGivenNames v11
  have k12 : Keeps W r v11 := setMirState_keeps (cw.le rfl) k10
  clear_value v11
  extract_lets +onlyGivenNames v13
  have k14 : Keeps W r v13 := by
    unfold v13
    refine .foldl k12 ?_
    intro _ _ k17
    extract_lets +onlyGivenNames v18
    have k19 : Keeps W r v18 := releaseHeld_keeps (cw.le rfl) (updWin_keeps (cw.le rfl) k17)
    clear_value v18
    exact record_keeps (cw.le rfl) k19
  clear_value v13
  exact releaseBerth_keeps (cw.le rfl) (releaseSync_keeps (cw.le rfl) k14)
theorem settleSync_keeps {W : Nat} {r : State} {s1} (cw : Covers W 0x80000003ffe000f28c040000000000000000000000000000400000000000800000083a) (h1 : Keeps W r s1) : Keeps W r (settleSync s1) := by
  delta settleSync
  refine .ite ?_ h1
  extract_lets +onlyGivenNames v1
  have k2 : Keeps W r v1 := updMirror_keeps (cw.le rfl) (syncRec_keeps (cw.le rfl) (setR_keeps (cw.le rfl) (setMirState_keeps (cw.le rfl) h1)))
  clear_value v1
  exact settleMirror_keeps (cw.le rfl) (record_keeps (cw.le rfl) k2)
theorem ackAdvance_keeps {W : Nat} {r : State} {s1 a2} (cw : Covers W 0x3ffe000020c040000000000000000000000000000400000000000800000083a) (h1 : Keeps W r s1) : Keeps W r (ackAdvance s1 a2) := by
  delta ackAdvance
  refine .ite h1 ?_
  extract_lets +onlyGivenNames v1 v2
  have k3 : Keeps W r v2 := updMirror_keeps (cw.le rfl) h1
  clear_value v2
  extract_lets +onlyGivenNames v4
  have k5 : Keeps W r v4 := .foldl k3 (fun _ _ k8 => .ite k8 (clearPage_keeps (cw.le rfl) k8))
  clear_value v4
  extract_lets +onlyGivenNames v9
  have k10 : Keeps W r v9 := refillWindow_keeps (cw.le rfl) (releaseSync_keeps (cw.le rfl) k5)
  clear_value v9
  exact settleMirror_keeps (cw.le rfl) k10
theorem dirTouch_keeps {W : Nat} {r : State} {s1 a2 a3} (cw : Covers W 0x3ffc000) (h1 : Keeps W r s1) : Keeps W r (dirTouch s1 a2 a3) := by
  delta dirTouch
  extract_lets +onlyGivenNames v1
  delta updDir
  exact .upd cw h1
theorem putEntry_keeps {W : Nat} {r s : State} {x w e} (cw : Covers W 0x3ffc000) (h : Keeps W r s) : Keeps W r (putEntry s x w e) := by
  refine .dir cw h (fun a => ?_) (fun a => ?_)
  · simp only [putEntry, updDir]
    split
    · exact AMap.wf_del a _
    · exact AMap.wf_set a _ _
  · simp only [putEntry, updDir]
    split
    · exact AMap.all_del a _
    · exact AMap.all_set a (by simpa)
theorem setDirLine_keeps {W : Nat} {r : State} {s1 a2 a3 a4} (cw : Covers W 0x3ffc000) (h1 : Keeps W r s1) : Keeps W r (setDirLine s1 a2 a3 a4) := by
  delta setDirLine
  extract_lets +onlyGivenNames v1
  split
  · extract_lets +onlyGivenNames v2 v3
    have k4 : Keeps W r v3 := putEntry_keeps (cw.le rfl) h1
    clear_value v3
    exact .ite k4 (dirTouch_keeps (cw.le rfl) k4)
  · refine .ite h1 ?_
    split
    · exact dirTouch_keeps (cw.le rfl) (putEntry_keeps (cw.le rfl) h1)
    · exact h1
theorem trySnoop_keeps {W : Nat} {r : State} {s1 a2} (cw : Covers W 0x7fe000020c0400000000000000000000000000000000000000000003ffc03a) (h1 : Keeps W r s1) : Keeps W r (trySnoop s1 a2) := by
  delta trySnoop
  extract_lets +onlyGivenNames v1
  refine .ite h1 ?_
  extract_lets +onlyGivenNames v2
  have k3 : Keeps W r v2 := putPort_keeps (cw.le rfl) h1
  clear_value v2
  extract_lets +onlyGivenNames v4
  have k5 : Keeps W r v4 := bumpR_keeps (cw.le rfl) k3
  clear_value v4
  extract_lets +onlyGivenNames v6
  have k7 : Keeps W r v6 := pcCount_keeps (cw.le rfl) k5
  clear_value v6
  extract_lets +onlyGivenNames v8
  have k9 : Keeps W r v8 := by
    unfold v8
    delta updDir
    exact .upd cw k7
  clear_value v8
  exact emit_keeps (cw.le rfl) k9
theorem genSnoops_keeps {W : Nat} {r : State} {s1 a2 a3 a4 a5} (cw : Covers W 0x7fe000020c0400000000000000000000000000000000000000000003ffc03a) (h1 : Keeps W r s1) : Keeps W r (genSnoops s1 a2 a3 a4 a5) := by
  delta genSnoops
  refine .foldl h1 ?_
  intro _ _ k3
  extract_lets +onlyGivenNames v4 v5
  refine trySnoop_keeps (cw.le rfl) ?_
  delta updDir
  exact .upd cw k3
theorem openTx_keeps {W : Nat} {r : State} {s1 a2 a3 a4} (cw : Covers W 0x7fe000020c0400000000000000000000000000000000000000000003ffc03a) (h1 : Keeps W r s1) : Keeps W r (openTx s1 a2 a3 a4) := by
  delta openTx
  extract_lets +onlyGivenNames v1 v2
  refine genSnoops_keeps (cw.le rfl) ?_
  delta updDir
  exact .upd cw h1
theorem openEvict_keeps {W : Nat} {r : State} {s1 a2 a3 a4} (cw : Covers W 0x7fe000020c0400000000000000000000000000000000000000000003ffc03a) (h1 : Keeps W r s1) : Keeps W r (openEvict s1 a2 a3 a4) := by
  delta openEvict
  extract_lets +onlyGivenNames v1 v2 v3
  extract_lets +onlyGivenNames v4
  have k5 : Keeps W r v4 := by
    unfold v4
    refine bumpR_keeps (cw.le rfl) ?_
    delta updDir
    exact .upd cw h1
  clear_value v4
  exact .foldl k5 (fun _ _ k6 => .ite k6 (genSnoops_keeps (cw.le rfl) k6))
theorem stageLine_keeps {W : Nat} {r : State} {s1 a2 a3 a4 a5 a6} (cw : Covers W 0x7fe0000200041e0000000000000000040000000000000000463b0000000018) (h1 : Keeps W r s1) : Keeps W r (stageLine s1 a2 a3 a4 a5 a6) := by
  delta stageLine
  extract_lets +onlyGivenNames v1
  have k2 : Keeps W r v1 := .ite (clearMarker_keeps (cw.le rfl) h1) h1
  clear_value v1
  exact enqueuePage_keeps (cw.le rfl) (stageAt_keeps (cw.le rfl) k2)
theorem appendCb_keeps {W : Nat} {r : State} {s1 a2} (cw : Covers W 0x7fe0000200041e0000000000000000040000000000000000463b0000000418) (h1 : Keeps W r s1) : Keeps W r (appendCb s1 a2) := by
  delta appendCb
  split
  · exact h1
  · extract_lets +onlyGivenNames v1 v2
    have k3 : Keeps W r v2 := .upd cw h1
    clear_value v2
    exact stageLine_keeps (cw.le rfl) k3
theorem combine_keeps {W : Nat} {r : State} {s1 a2} (cw : Covers W 0x7fe0000200041e0000000000000000040000000000000000463f0000000418) (h1 : Keeps W r s1) : Keeps W r (combine s1 a2) := by
  delta combine
  extract_lets +onlyGivenNames v1 v2
  split
  · extract_lets +onlyGivenNames v3 v4 v5
    have k6 : Keeps W r v5 := .upd cw h1
    clear_value v5
    extract_lets +onlyGivenNames v7
    have k8 : Keeps W r v7 := pcCount_keeps (cw.le rfl) (bumpR_keeps (cw.le rfl) k6)
    clear_value v7
    exact .ite (appendCb_keeps (cw.le rfl) k8) k8
  · extract_lets +onlyGivenNames v9
    have k10 : Keeps W r v9 := by
      unfold v9
      refine .ite ?_ h1
      split
      · exact appendCb_keeps (cw.le rfl) h1
      · exact h1
    clear_value v9
    extract_lets +onlyGivenNames v11 v12
    exact .upd cw k10
theorem stageNewest_keeps {W : Nat} {r : State} {s1 a2} (cw : Covers W 0x7fe0000200041e0000000000000000040000000000000000463f0000000018) (h1 : Keeps W r s1) : Keeps W r (stageNewest s1 a2) := stageLine_keeps (cw.le rfl) (.upd cw h1)
theorem applyBulk_keeps {W : Nat} {r : State} {s1 a2 a3} (cw : Covers W 0x7fe0000200041e0000000000000000040000000000000000463f0004000c18) (h1 : Keeps W r s1) : Keeps W r (applyBulk s1 a2 a3) := by
  delta applyBulk
  extract_lets +onlyGivenNames v1 v2
  have k3 : Keeps W r v1 := .ite (stageNewest_keeps (cw.le rfl) (appendCb_keeps (cw.le rfl) h1)) (.ite (stageNewest_keeps (cw.le rfl) h1) (combine_keeps (cw.le rfl) h1))
  clear_value v1
  have k4 : Keeps W r v2 := hcUpdate_keeps (cw.le rfl) k3
  clear_value v2
  exact loseLineResv_keeps (cw.le rfl) k4
theorem settleAcks_keeps {W : Nat} {r : State} {s1} (cw : Covers W 0x3ffe000020c0400000000000000000000000000004000000000000003ffc03a) (h1 : Keeps W r s1) : Keeps W r (settleAcks s1) := by
  delta settleAcks
  extract_lets +onlyGivenNames v1 v2 v3
  have k4 : Keeps W r v3 := by
    unfold v3
    delta updDir
    exact .upd cw h1
  clear_value v3
  exact .foldl k4 (fun _ _ k7 => .ite (sendS2m_keeps (cw.le rfl) k7) k7)
theorem resvFaults_keeps {W : Nat} {r : State} {s1 a2} (cw : Covers W 0x800) (h1 : Keeps W r s1) : Keeps W r (resvFaults s1 a2) := updWin_keeps (cw.le rfl) h1
theorem deliverReadX_keeps {W : Nat} {r : State} {s1 a2 a3 a4 a5 a6 a7} (cw : Covers W 0x3ffe000020c040000000000000000000000000000400000000000000000083a) (h1 : Keeps W r s1) : Keeps W r (deliverReadX s1 a2 a3 a4 a5 a6 a7) := .ite (.ite (respondDrs_keeps (cw.le rfl) (resvFaults_keeps (cw.le rfl) h1)) (countPathX_keeps (cw.le rfl) (respondDrs_keeps (cw.le rfl) (resvLoaded_keeps (cw.le rfl) h1)))) (.ite (respondDrs_keeps (cw.le rfl) h1) (countPathX_keeps (cw.le rfl) (respondDrs_keeps (cw.le rfl) h1)))
theorem deliverRead_keeps {W : Nat} {r : State} {s1 a2 a3 a4 a5 a6} (cw : Covers W 0x3ffe000020c040000000000000000000000000000400000000000000000083a) (h1 : Keeps W r s1) : Keeps W r (deliverRead s1 a2 a3 a4 a5 a6) := deliverReadX_keeps (cw.le rfl) h1
theorem pcachePut_keeps {W : Nat} {r : State} {s1 a2 a3} (cw : Covers W 0x8000000000000000001) (h1 : Keeps W r s1) : Keeps W r (pcachePut s1 a2 a3) := by
  delta pcachePut
  extract_lets +onlyGivenNames v1 v2
  have k8 : Keeps W r v2 := by
    unfold v2
    refine .ite h1 ?_
    split
    rename_i t3 t4 t5 t6
    have k7 : Keeps W r t5 := Keeps2.of_eq t6 (draw_keeps (cw.le rfl) h1)
    exact .upd cw k7
  clear_value v2
  exact .upd cw k8
theorem fillFor_keeps {W : Nat} {r : State} {s1 a2 a3 a4 a5} (cw : Covers W 0x800000000000c000009) (h1 : Keeps W r s1) : Keeps W r (fillFor s1 a2 a3 a4 a5) := .ite (hcFill_keeps (cw.le rfl) h1) (.ite (pcachePut_keeps (cw.le rfl) h1) h1)
theorem fillPage_keeps {W : Nat} {r : State} {s1 a2 a3 a4} (cw : Covers W 0x7fe00002000400000000000000000000000000003e00000000000000000018) (h1 : Keeps W r s1) : Keeps W r (fillPage s1 a2 a3 a4) := .foldl h1 (fun _ _ k3 => .ite k3 (issueRead_keeps (cw.le rfl) k3))
theorem mediaRead_keeps {W : Nat} {r : State} {s1 a2 a3 a4} (cw : Covers W 0x7fe00002000400000000000000000000000000003e00000000001800000018) (h1 : Keeps W r s1) : Keeps W r (mediaRead s1 a2 a3 a4) := by
  delta mediaRead
  extract_lets +onlyGivenNames v1 v2 v3 v4 v5
  have k6 : Keeps W r v4 := .ite (streamMiss_keeps (cw.le rfl) h1) h1
  clear_value v4
  have k7 : Keeps W r v5 := issueRead_keeps (cw.le rfl) k6
  clear_value v5
  exact .ite (fillPage_keeps (cw.le rfl) k7) k7
theorem serveRead_keeps {W : Nat} {r : State} {s1 a2 a3} (cw : Covers W 0x3ffe000020c0400000000000000000000000000007e0800000000180c00083b) (h1 : Keeps W r s1) : Keeps W r (serveRead s1 a2 a3) := by
  delta serveRead
  extract_lets +onlyGivenNames v1 v2
  split
  · exact deliverRead_keeps (cw.le rfl) (hcTouch_keeps (cw.le rfl) (bumpR_keeps (cw.le rfl) h1))
  · extract_lets +onlyGivenNames v9 v10 v11 v12
    have k13 : Keeps W r v9 := .ite (bumpR_keeps (cw.le rfl) h1) h1
    clear_value v9
    refine .ite ?_ ?_
    · unfold v12
      exact deliverRead_keeps (cw.le rfl) k13
    · split
      · rename_i t14 t15 t16 t17
        have k18 : Keeps W r t16 := KeepsO.of_eq t17 (pbufTake_keeps (cw.le rfl) k13)
        unfold v12
        exact deliverRead_keeps (cw.le rfl) (fillFor_keeps (cw.le rfl) k18)
      · split
        · extract_lets +onlyGivenNames v24
          have k25 : Keeps W r v24 := .ite (streamMiss_keeps (cw.le rfl) k13) k13
          clear_value v24
          unfold v12
          exact deliverRead_keeps (cw.le rfl) (fillFor_keeps (cw.le rfl) k25)
        · refine .ite (deliverRead_keeps (cw.le rfl) k13) ?_
          split
          · unfold v12
            exact deliverRead_keeps (cw.le rfl) k13
          · exact mediaRead_keeps (cw.le rfl) k13
theorem freeSlot_keeps {W : Nat} {r : State} {s1 a2} (cw : Covers W 0x3fe00002000400000000000000000000000000000000000000000000000098) (h1 : Keeps W r s1) : Keeps W r (freeSlot s1 a2) := by
  delta freeSlot
  split
  · exact h1
  · extract_lets +onlyGivenNames v1 v2
    have k3 : Keeps W r v2 := .upd cw h1
    clear_value v2
    exact record_keeps (cw.le rfl) k3
theorem recallsDone_keeps {W : Nat} {r : State} {s1 a2} (cw : Covers W 0x3fe000020004000000000000000000000000000000000000000000000000d8) (h1 : Keeps W r s1) : Keeps W r (recallsDone s1 a2) := by
  delta recallsDone
  split
  · exact h1
  · extract_lets +onlyGivenNames v6 v7 v8
    have k9 : Keeps W r v7 := updAgent_keeps (cw.le rfl) h1
    exact .ite k9 (.ite (freeSlot_keeps (cw.le rfl) k9) (.upd cw k9))
theorem recallServed_keeps {W : Nat} {r : State} {s1 a2 a3} (cw : Covers W 0x3fe00002000400000000000000000000000000000000000000000003ffc0d8) (h1 : Keeps W r s1) : Keeps W r (recallServed s1 a2 a3) := by
  delta recallServed
  extract_lets +onlyGivenNames v1 v2 v3
  have k9 : Keeps W r v3 := by
    unfold v3
    refine .ite ?_ h1
    split
    · exact .upd cw h1
    · exact h1
  clear_value v3
  extract_lets +onlyGivenNames v10
  have k18 : Keeps W r v10 := by
    unfold v10
    refine .ite k9 ?_
    split
    · extract_lets +onlyGivenNames v14 v15
      exact putEntry_keeps (cw.le rfl) k9
    · exact k9
  clear_value v10
  exact recallsDone_keeps (cw.le rfl) k18
theorem discardLine_keeps {W : Nat} {r : State} {s1 a2} (cw : Covers W 0x8000000030804002c08) (h1 : Keeps W r s1) : Keeps W r (discardLine s1 a2) := by
  delta discardLine
  extract_lets +onlyGivenNames v1 v2 v3 v4 v5 v6 v7 v8
  have k9 : Keeps W r v4 := .upd cw h1
  clear_value v4
  have k15 : Keeps W r v6 := by
    unfold v6
    split
    · exact .wharf cw k9 (AMap.wf_set · _ _) id
    · exact k9
  clear_value v6
  have k22 : Keeps W r v8 := by
    unfold v8
    split
    · extract_lets +onlyGivenNames v19
      exact .wharf cw k15 id (AMap.wf_set · _ _)
    · exact k15
  clear_value v8
  extract_lets +onlyGivenNames v23 v24 v25
  have k26 : Keeps W r v23 := hcDropLine_keeps (cw.le rfl) k22
  clear_value v23
  have k27 : Keeps W r v25 := .upd cw k26
  clear_value v25
  extract_lets +onlyGivenNames v28
  have k29 : Keeps W r v28 := loseLineResv_keeps (cw.le rfl) k27
  clear_value v28
  exact updDiscard_keeps (cw.le rfl) k29
theorem giveBack_keeps {W : Nat} {r : State} {s1 a2} (cw : Covers W 0x20) (h1 : Keeps W r s1) : Keeps W r (giveBack s1 a2) := .ite (giveCredit_keeps (cw.le rfl) h1) h1
theorem serveAcc_keeps {W : Nat} {r : State} {s1 a2 a3 a4 a5 a6} (cw : Covers W 0x3ffe000020c041e000000000000000004000000007e080000463f180fffecfb) (h1 : Keeps W r s1) : Keeps W r (serveAcc s1 a2 a3 a4 a5 a6) := by
  delta serveAcc
  extract_lets +onlyGivenNames v1 v2
  split
  extract_lets +onlyGivenNames v7 v8 v9 v10
  have k11 : Keeps W r v8 := .ite (setDirLine_keeps (cw.le rfl) h1) h1
  clear_value v8
  have k12 : Keeps W r v9 := giveBack_keeps (cw.le rfl) k11
  clear_value v9
  have k13 : Keeps W r v10 := .ite (appendCb_keeps (cw.le rfl) k12) k12
  clear_value v10
  split
  · exact serveRead_keeps (cw.le rfl) k13
  · exact serveRead_keeps (cw.le rfl) (resvArms_keeps (cw.le rfl) k13)
  · exact respondNdr_keeps (cw.le rfl) k13
  · exact finishWrite_keeps (cw.le rfl) (applyBulk_keeps (cw.le rfl) k13)
  · exact .ite (finishWrite_keeps (cw.le rfl) (applyBulk_keeps (cw.le rfl) (resvApplied_keeps (cw.le rfl) k13))) (resvFail_keeps (cw.le rfl) k13)
  · exact respondNdr_keeps (cw.le rfl) k13
  · exact discardLine_keeps (cw.le rfl) k13
  · exact recallServed_keeps (cw.le rfl) k13
theorem enterRetry_keeps {W : Nat} {r : State} {s1 a2} (cw : Covers W 0x3ffc008) (h1 : Keeps W r s1) : Keeps W r (enterRetry s1 a2) := by
  delta enterRetry
  refine bumpR_keeps (cw.le rfl) ?_
  delta updDir
  exact .upd cw h1
theorem allocate_keeps {W : Nat} {r : State} {s1 a2 a3} (cw : Covers W 0x3ffe000020c041e000000000000000004000000007e080000463f180fffecfb) (h1 : Keeps W r s1) : Keeps W r (allocate s1 a2 a3) := by
  delta allocate
  extract_lets +onlyGivenNames v1
  refine .ite (enterRetry_keeps (cw.le rfl) h1) ?_
  refine .ite (serveAcc_keeps (cw.le rfl) h1) ?_
  split
  · split
    · exact .ite (serveAcc_keeps (cw.le rfl) (putEntry_keeps (cw.le rfl) (bumpR_keeps (cw.le rfl) h1))) (openEvict_keeps (cw.le rfl) (giveBack_keeps (cw.le rfl) h1))
    · exact serveAcc_keeps (cw.le rfl) h1
  · exact enterRetry_keeps (cw.le rfl) h1
theorem startAcc_keeps {W : Nat} {r : State} {s1 a2 a3} (cw : Covers W 0x3ffe000020c041e000000000000000004000000007e080000463fb80fffecfb) (h1 : Keeps W r s1) : Keeps W r (startAcc s1 a2 a3) := by
  delta startAcc
  refine .ite (serveAcc_keeps (cw.le rfl) h1) ?_
  extract_lets +onlyGivenNames v1 v2 v3
  clear_value v3
  split
  · extract_lets +onlyGivenNames v4
    exact .ite (serveAcc_keeps (cw.le rfl) h1) (openTx_keeps (cw.le rfl) (giveBack_keeps (cw.le rfl) h1))
  · exact .ite (allocate_keeps (cw.le rfl) h1) (serveAcc_keeps (cw.le rfl) h1)
theorem settleWaiting_keeps {W : Nat} {r : State} {s1} (cw : Covers W 0x3ffe000020c041e000000000000000004000000007e080000463fb80fffecfb) (h1 : Keeps W r s1) : Keeps W r (settleWaiting s1) := by
  delta settleWaiting
  refine .foldl h1 ?_
  intro _ _ k3
  split
  · refine .ite k3 ?_
    refine startAcc_keeps (cw.le rfl) ?_
    delta updDir
    exact .upd cw k3
  · exact k3
theorem keepDiscarded_keeps {W : Nat} {r : State} {s1 a2} (cw : Covers W 0x7fe0000200041e0000000000000000040000000000000000463f0000000018) (h1 : Keeps W r s1) : Keeps W r (keepDiscarded s1 a2) := by
  delta keepDiscarded
  split
  · exact .ite h1 (stageAt_keeps (cw.le rfl) h1)
  · exact stageLine_keeps (cw.le rfl) (.upd cw h1)
theorem endAcc_keeps {W : Nat} {r : State} {s1 a2} (cw : Covers W 0x3ffe000020c041e0000000000000000040000000040000000463f000000383a) (h1 : Keeps W r s1) : Keeps W r (endAcc s1 a2) := by
  delta endAcc
  extract_lets +onlyGivenNames v1
  have k2 : Keeps W r v1 := giveBack_keeps (cw.le rfl) h1
  clear_value v1
  split
  · exact respondDrs_keeps (cw.le rfl) k2
  · exact k2
  · exact k2
  · exact respondNdr_keeps (cw.le rfl) k2
  · exact respondDrs_keeps (cw.le rfl) (resvFaults_keeps (cw.le rfl) k2)
  · exact .ite (resvFinish_keeps (cw.le rfl) k2) (resvFail_keeps (cw.le rfl) k2)
  · exact k2
  · extract_lets +onlyGivenNames v19
    split
    · refine .ite ?_ k2
      extract_lets +onlyGivenNames v24 v25 v26 v27 v28
      have k29 : Keeps W r v27 := .upd cw k2
      clear_value v27
      have k33 : Keeps W r v28 := .foldl k29 (fun _ _ k30 => keepDiscarded_keeps (cw.le rfl) k30)
      clear_value v28
      extract_lets +onlyGivenNames v34
      have k35 : Keeps W r v34 := updWin_keeps (cw.le rfl) k33
      clear_value v34
      exact .ite (releaseHeld_keeps (cw.le rfl) k35) k35
    · exact k2
theorem enterTable_keeps {W : Nat} {r : State} {s1 a2 a3} (cw : Covers W 0x3ffe000020c041e000000000000000004000000007e080000463fb80ffffcfb) (h1 : Keeps W r s1) : Keeps W r (enterTable s1 a2 a3) := by
  delta enterTable
  extract_lets +onlyGivenNames v1 v2
  have k3 : Keeps W r v2 := .ite (appendCb_keeps (cw.le rfl) h1) h1
  clear_value v2
  refine .ite (endAcc_keeps (cw.le rfl) k3) ?_
  refine .ite ?_ ?_
  · extract_lets +onlyGivenNames v4
    have k5 : Keeps W r v4 := pcCount_keeps (cw.le rfl) (giveBack_keeps (cw.le rfl) (bumpR_keeps (cw.le rfl) k3))
    clear_value v4
    exact finishWrite_keeps (cw.le rfl) (applyBulk_keeps (cw.le rfl) k5)
  · refine .ite (respondNdr_keeps (cw.le rfl) (giveBack_keeps (cw.le rfl) k3)) ?_
    refine .ite ?_ (startAcc_keeps (cw.le rfl) k3)
    extract_lets +onlyGivenNames v6 v7
    have k8 : Keeps W r v7 := giveBack_keeps (cw.le rfl) k3
    clear_value v7
    delta updDir
    exact .upd cw k8
theorem holdAcc_keeps {W : Nat} {r : State} {s1 a2} (cw : Covers W 0x3fe00002000400000000000000000000000000000000000028000000000018) (h1 : Keeps W r s1) : Keeps W r (holdAcc s1 a2) := by
  delta holdAcc
  extract_lets +onlyGivenNames v1 v2 v3 v4 v5
  have k6 : Keeps W r v4 := .ite (bumpR_keeps (cw.le rfl) h1) h1
  clear_value v4
  extract_lets +onlyGivenNames v7
  have k8 : Keeps W r v7 := .upd cw k6
  clear_value v7
  extract_lets +onlyGivenNames v9
  have k10 : Keeps W r v9 := .ite (.ite k6 (record_keeps (cw.le rfl) (bumpR_keeps (cw.le rfl) k8))) k6
  clear_value v9
  exact .upd cw k10
theorem repairReserved_keeps {W : Nat} {r : State} {s1 a2} (cw : Covers W 0x100000000000000) (h1 : Keeps W r s1) : Keeps W r (repairReserved s1 a2) := .ite (.upd cw h1) h1
theorem arriveBulk_keeps {W : Nat} {r : State} {s1 a2 a3} (cw : Covers W 0x3ffe000020c041e000000000000000004000000007e0800016e3fb80ffffcfb) (h1 : Keeps W r s1) : Keeps W r (arriveBulk s1 a2 a3) := by
  delta arriveBulk
  extract_lets +onlyGivenNames v1
  have k2 : Keeps W r v1 := repairReserved_keeps (cw.le rfl) h1
  clear_value v1
  exact .ite (holdAcc_keeps (cw.le rfl) k2) (enterTable_keeps (cw.le rfl) k2)
theorem numberAcc_keeps {W : Nat} {r : State} {s1 a2} (cw : Covers W 0x3ffc000) (h1 : Keeps W r s1) : Keeps1 W r (numberAcc s1 a2) := by
  delta numberAcc
  refine Keeps1.mk ?_
  delta updDir
  exact .upd cw h1
theorem resumeAcc_keeps {W : Nat} {r : State} {s1 a2} (cw : Covers W 0x3ffe000020c041e000000000000000004000000007e080000463fb80fffecfb) (h1 : Keeps W r s1) : Keeps W r (resumeAcc s1 a2) := by
  delta resumeAcc
  refine .ite ?_ (startAcc_keeps (cw.le rfl) h1)
  extract_lets +onlyGivenNames v1
  have k2 : Keeps W r v1 := giveBack_keeps (cw.le rfl) h1
  clear_value v1
  delta updDir
  exact .upd cw k2
theorem completeTx_keeps {W : Nat} {r : State} {s1 a2} (cw : Covers W 0x3ffe000020c041e000000000000000004000000007e080000463fb80fffecfb) (h1 : Keeps W r s1) : Keeps W r (completeTx s1 a2) := by
  delta completeTx
  extract_lets +onlyGivenNames v1 v2 v3
  have k4 : Keeps W r v1 := by
    unfold v1
    delta updDir
    exact .upd cw h1
  clear_value v1
  have k5 : Keeps W r v2 := raiseTo_keeps (cw.le rfl) k4
  clear_value v2
  have k11 : Keeps W r v3 := by
    unfold v3
    split
    · exact dirTouch_keeps (cw.le rfl) k5
    · exact k5
  clear_value v3
  extract_lets +onlyGivenNames v12
  have k13 : Keeps W r v12 := by
    unfold v12
    delta updDir
    exact .dir cw k5 (fun h => AMap.wf_foldl_del _ h) (fun h => AMap.all_foldl_del _ h)
  clear_value v12
  extract_lets +onlyGivenNames v14
  have k21 : Keeps W r v14 := by
    unfold v14
    refine .ite (.foldl k11 (fun _ _ k15 => serveAcc_keeps (cw.le rfl) k15)) ?_
    refine .ite (.foldl k13 (fun _ _ k18 => resumeAcc_keeps (cw.le rfl) k18)) ?_
    delta updDir
    exact .upd cw k13
  clear_value v14
  exact settleAcks_keeps (cw.le rfl) (settleWaiting_keeps (cw.le rfl) k21)
theorem recallAgent_keeps {W : Nat} {r : State} {s1 a2 a3} (cw : Covers W 0x3ffe000020c041e000000000000000004000000007e080000463fb80ffffcfb) (h1 : Keeps W r s1) : Keeps W r (recallAgent s1 a2 a3) := by
  delta recallAgent
  extract_lets +onlyGivenNames v1
  refine .ite (recallsDone_keeps (cw.le rfl) h1) ?_
  refine .foldl h1 ?_
  intro _ _ k4
  split
  · rename_i t5 t6 x7 e8
    have k9 : Keeps W r t6 := Keeps1.of_eq e8 (numberAcc_keeps (cw.le rfl) k4)
    exact enterTable_keeps (cw.le rfl) k9
theorem dirError_keeps {W : Nat} {r : State} {s1 a2 a3} (cw : Covers W 0x3ffe000020c041e000000000000000004000000007e080000463fb80fffecfb) (h1 : Keeps W r s1) : Keeps W r (dirError s1 a2 a3) := by
  delta dirError
  extract_lets +onlyGivenNames v1 v2
  refine .ite h1 ?_
  extract_lets +onlyGivenNames v3 v4 v5 v6 v7 v8 v9 v10 v11 v12
  have k13 : Keeps W r v3 := bumpR_keeps (cw.le rfl) h1
  clear_value v3
  have k14 : Keeps W r v4 := record_keeps (cw.le rfl) k13
  clear_value v4
  have k15 : Keeps W r v10 := by
    unfold v10
    delta updDir
    exact .upd cw k14
  clear_value v10
  have k20 : Keeps W r v12 := by
    unfold v12
    refine .foldl k15 ?_
    intro x17 a18 k16
    extract_lets +onlyGivenNames v19
    exact genSnoops_keeps (cw.le rfl) k16
  clear_value v12
  exact .ite (completeTx_keeps (cw.le rfl) k20) k20
theorem addResidency_keeps {W : Nat} {r : State} {s1} (cw : Covers W 0x100000000000000000000000000000000000000000000008) (h1 : Keeps W r s1) : Keeps W r (addResidency s1) := by
  delta addResidency
  extract_lets +onlyGivenNames v1
  have k2 : Keeps W r v1 := bumpN_keeps (cw.le rfl) h1
  clear_value v1
  exact .upd cw k2
theorem setPstate_keeps {W : Nat} {r : State} {s1 a2} (cw : Covers W 0x100000000000000000000000000000000000000000000808) (h1 : Keeps W r s1) : Keeps W r (setPstate s1 a2) := .ite h1 (loseResvWhere_keeps (cw.le rfl) (setR_keeps (cw.le rfl) (addResidency_keeps (cw.le rfl) h1)))
theorem startDown_keeps {W : Nat} {r : State} {s1 a2 a3 a4 a5} (cw : Covers W 0xd1800003ffe400f28c041e1000000300000000040c000000480607e8c7bf0003fff83a) (h1 : Keeps W r s1) : Keeps W r (startDown s1 a2 a3 a4 a5) := by
  delta startDown
  refine .ite h1 ?_
  extract_lets +onlyGivenNames v1
  have k2 : Keeps W r v1 := h1
  extract_lets +onlyGivenNames v3 v4 v5
  have k6 : Keeps W r v5 := setR_keeps (cw.le rfl) k2
  extract_lets +onlyGivenNames v7 v8
  have k9 : Keeps W r v8 := .upd cw k6
  extract_lets +onlyGivenNames v10
  have k11 : Keeps W r v10 := bumpR_keeps (cw.le rfl) k9
  extract_lets +onlyGivenNames v12
  have k13 : Keeps W r v12 := .foldl k11 (fun _ _ k16 => fencePort_keeps (cw.le rfl) (raiseViral_keeps (cw.le rfl) k16))
  extract_lets +onlyGivenNames v0
  have k0 : Keeps W r v0 := .ite (setPstate_keeps (cw.le rfl) k13) k13
  clear_value v0
  extract_lets +onlyGivenNames v17 v18
  have k19 : Keeps W r v18 := by
    unfold v18
    delta updDir
    exact .upd cw k0
  extract_lets +onlyGivenNames v20
  have k21 : Keeps W r v20 := .foldl k19 (fun _ _ k24 => endAcc_keeps (cw.le rfl) k24)
  exact track_keeps (cw.le rfl) k2 (settle_keeps (cw.le rfl) (settleAcks_keeps (cw.le rfl) (staleRisk_keeps (cw.le rfl) (syncRecs_keeps (cw.le rfl) k21))))
theorem walkEntry_keeps {W : Nat} {r : State} {s1 a2} (cw : Covers W 0x7fe0000200041e0000000000000000040000000000080000463f0804000418) (h1 : Keeps1 W r s1) : Keeps1 W r (walkEntry s1 a2) := by
  delta walkEntry
  split
  extract_lets +onlyGivenNames v4
  refine .ite h1 ?_
  extract_lets +onlyGivenNames v5 v6 v7 v8 v9
  have k13 : Keeps W r v5 := .foldl h1 (fun _ _ k10 => .ite (appendCb_keeps (cw.le rfl) k10) k10)
  clear_value v5
  have k14 : Keeps W r v6 := stageMark_keeps (cw.le rfl) k13
  clear_value v6
  have k15 : Keeps W r v7 := hcDrop_keeps (cw.le rfl) k14
  clear_value v7
  have k16 : Keeps W r v9 := dropPageCopies_keeps (cw.le rfl) k15
  clear_value v9
  exact k16
theorem walkDone_keeps {W : Nat} {r : State} {s1} (cw : Covers W 0xd1800003ffe000f28c041e0000000300000000040c000000480e07e8c7bf0807807cfa) (h1 : Keeps W r s1) : Keeps W r (walkDone s1) := by
  delta walkDone
  refine .ite h1 ?_
  split
  rename_i t1 t2 t3 t4
  have k8 : Keeps W r t2 := Keeps1.of_eq t4 (.foldl h1 (fun _ _ k5 => walkEntry_keeps (cw.le rfl) k5))
  extract_lets +onlyGivenNames v9 v10 v11 v12
  have k13 : Keeps W r v9 := by
    unfold v9
    delta updDir
    exact .dir cw k8 (fun _ => rfl) (fun _ => rfl)
  clear_value v9
  have k17 : Keeps W r v10 := .foldl k13 (fun _ _ k14 => recallsDone_keeps (cw.le rfl) k14)
  clear_value v10
  have k18 : Keeps W r v12 := syncRec_keeps (cw.le rfl) k17
  clear_value v12
  exact settle_keeps (cw.le rfl) (record_keeps (cw.le rfl) k18)
theorem recoverDomain_keeps {W : Nat} {r : State} {a1 s2} (cw : Covers W 0x800000003fe400f2800400000000000000000000000000000000000000000000000018) (h2 : Keeps W r s2) : Keeps1 W r (recoverDomain a1 s2) := by
  delta recoverDomain
  refine .ite ?_ (Keeps1.mk h2)
  extract_lets +onlyGivenNames v1
  have k2 : Keeps W r v1 := h2
  extract_lets +onlyGivenNames v3
  have k4 : Keeps W r v3 := setR_keeps (cw.le rfl) k2
  extract_lets +onlyGivenNames v5 v6
  have k7 : Keeps W r v6 := .upd cw k4
  extract_lets +onlyGivenNames v8
  have k9 : Keeps W r v8 := .foldl k7 (fun _ _ k12 => unfencePort_keeps (cw.le rfl) k12)
  extract_lets +onlyGivenNames v13
  have k14 : Keeps W r v13 := record_keeps (cw.le rfl) k9
  exact Keeps1.mk (track_keeps (cw.le rfl) k2 (syncRec_keeps (cw.le rfl) k14))
theorem finishInside_keeps {W : Nat} {r : State} {s1 a2} (cw : Covers W 0x7fe0000200041e0000000000000000040000000000080000463f2804002c18) (h1 : Keeps W r s1) : Keeps W r (finishInside s1 a2) := by
  delta finishInside
  split
  · exact .ite (berthStore_keeps (cw.le rfl) h1) (applyBulk_keeps (cw.le rfl) h1)
  · refine .ite ?_ h1
    extract_lets +onlyGivenNames v5
    have k6 : Keeps W r v5 := updWin_keeps (cw.le rfl) h1
    clear_value v5
    exact .ite (berthStore_keeps (cw.le rfl) k6) (applyBulk_keeps (cw.le rfl) k6)
  · exact .ite (discardLine_keeps (cw.le rfl) h1) h1
  · exact h1
theorem finishMaybe_keeps {W : Nat} {r : State} {s1 a2} (cw : Covers W 0x7fe0000200041e0000000000000000040000000000080000463f2804002c19) (h1 : Keeps1 W r s1) : Keeps1 W r (finishMaybe s1 a2) := by
  delta finishMaybe
  split
  · split
    rename_i t3 t4 t5 t6
    have k7 : Keeps W r t5 := Keeps2.of_eq t6 (draw_keeps (cw.le rfl) h1)
    exact .ite (Keeps1.mk (finishInside_keeps (cw.le rfl) k7)) k7
  · split
    rename_i t10 t11 t12 t13
    have k14 : Keeps W r t12 := Keeps2.of_eq t13 (draw_keeps (cw.le rfl) h1)
    exact .ite (Keeps1.mk (finishInside_keeps (cw.le rfl) k14)) k14
  · exact Keeps1.mk (finishInside_keeps (cw.le rfl) h1)
theorem cutDiscard_keeps {W : Nat} {r : State} {s1 a2} (cw : Covers W 0x118000000000000000000000000000000000000000000000000007e886330000000408) (h1 : Keeps W r s1) : Keeps W r (cutDiscard s1 a2) := by
  delta cutDiscard
  refine .ite h1 ?_
  extract_lets +onlyGivenNames v1 v2 v3 v4 v5 v6
  have k7 : Keeps W r v6 := .wharf cw h1 (AMap.wf_filter · _) (AMap.wf_filter · _)
  clear_value v6
  extract_lets +onlyGivenNames v8
  have k9 : Keeps W r v8 := indexChange_keeps (cw.le rfl) k7
  clear_value v8
  clear_value v3
  split
  · exact appendRecord_keeps (cw.le rfl) k9
  · exact k9
theorem cutDiscards_keeps {W : Nat} {r : State} {s1} (cw : Covers W 0x118000000000000000000000000000000000000000000000000007e886330000003408) (h1 : Keeps W r s1) : Keeps W r (cutDiscards s1) := by
  delta cutDiscards
  extract_lets +onlyGivenNames v1
  have k2 : Keeps W r v1 := .foldl h1 (fun _ _ k5 => cutDiscard_keeps (cw.le rfl) k5)
  clear_value v1
  exact .upd cw k2
theorem returnDropped_keeps {W : Nat} {r : State} {s1 a2} (cw : Covers W 0x20) (h1 : Keeps W r s1) : Keeps W r (returnDropped s1 a2) := by
  delta returnDropped
  extract_lets +onlyGivenNames v1
  have k2 : Keeps W r v1 := .foldl h1 (fun _ _ k3 => giveCredit_keeps (cw.le rfl) k3)
  exact .foldl k2 (fun _ _ k4 => giveCredit_keeps (cw.le rfl) k4)
theorem endHostWork_keeps {W : Nat} {r : State} {a1 s2} (cw : Covers W 0x119000000000000000000000000000000000000000000000020007e88e338003fff428) (h1 : ∀ y1 y2, Keeps W r y1 → Keeps W r (a1 y1 y2)) (h2 : Keeps W r s2) : Keeps W r (endHostWork a1 s2) := by
  delta endHostWork
  extract_lets +onlyGivenNames v1 v0 v2
  have k0 : Keeps W r v0 := returnDropped_keeps (cw.le rfl) h2
  clear_value v0
  have k3 : Keeps W r v2 := by
    unfold v2
    delta updDir
    exact .upd cw k0
  clear_value v2
  extract_lets +onlyGivenNames v4
  have k5 : Keeps W r v4 := cutDiscards_keeps (cw.le rfl) (h1 _ _ k3)
  clear_value v4
  extract_lets +onlyGivenNames v9 v10 v11 v12
  have k13 : Keeps W r v12 := .upd cw k5
  clear_value v12
  exact updMirror_keeps (cw.le rfl) k13
theorem markPartials_keeps {W : Nat} {r s : State} {pn} (cw : Covers W 0x10000000000) (h : Keeps W r s) : Keeps W r (markPartials s pn) :=
  .wharf cw h (AMap.wf_map · _ fun p => by dsimp only; split <;> rfl) id
theorem finishAll_keeps {W : Nat} {r : State} {s1 a2} (cw : Covers W 0x7fe0000200041e0000000000000000040000000000080000463f2804002c18) (h1 : Keeps W r s1) : Keeps W r (finishAll s1 a2) := .foldl h1 (fun _ _ k3 => finishInside_keeps (cw.le rfl) k3)
theorem haltIntegrity_keeps {W : Nat} {r : State} {s1 a2} (cw : Covers W 0xd1900003ffe200f28c041e100000030000000004fc0000007e0e07e8cfbfb80ffffcfe) (h1 : Keeps W r s1) : Keeps W r (haltIntegrity s1 a2) := by
  delta haltIntegrity
  refine .ite h1 ?_
  extract_lets +onlyGivenNames v0 v1
  have k2 : Keeps W r v1 := walkDone_keeps (cw.le rfl) h1
  clear_value v1
  extract_lets +onlyGivenNames v3 v4 v5 v6
  have k7 : Keeps W r v6 := .ite (markPartials_keeps (cw.le rfl) k2) k2
  clear_value v6
  extract_lets +onlyGivenNames v8
  have k9 : Keeps W r v8 := bumpR_keeps (cw.le rfl) k7
  clear_value v8
  extract_lets +onlyGivenNames v10 v11 v12
  have k13 : Keeps W r v12 := .upd cw k9
  clear_value v12
  extract_lets +onlyGivenNames v14
  have k15 : Keeps W r v14 := setR_keeps (cw.le rfl) (setPstate_keeps (cw.le rfl) (addResidency_keeps (cw.le rfl) k13))
  extract_lets +onlyGivenNames v16 v17
  have k18 : Keeps W r v17 := .upd cw k15
  extract_lets +onlyGivenNames v19
  have k20 : Keeps W r v19 := .foldl k18 (fun _ _ k23 => fencePort_keeps (cw.le rfl) (raiseViral_keeps (cw.le rfl) k23))
  extract_lets +onlyGivenNames v24
  have k25 : Keeps W r v24 := .ite (drivePins_keeps (cw.le rfl) (endHostWork_keeps (cw.le rfl) (fun _ _ k28 => finishAll_keeps (cw.le rfl) k28) k20)) k13
  extract_lets +onlyGivenNames v29
  have k30 : Keeps W r v29 := record_keeps (cw.le rfl) k25
  exact track_keeps (cw.le rfl) h1 (syncRecs_keeps (cw.le rfl) k30)
theorem remapGroup_keeps {W : Nat} {r : State} {s1 a2 a3 a4 a5} (cw : Covers W 0x3fe000f3000400000000000000000002000000000000000000000000000018) (h1 : Keeps W r s1) : Keeps W r (remapGroup s1 a2 a3 a4 a5) := by
  delta remapGroup
  refine .ite h1 ?_
  extract_lets +onlyGivenNames v1 v2
  have k3 : Keeps W r v2 := h1
  clear_value v2
  refine .ite ?_ ?_
  · refine .ite h1 ?_
    extract_lets +onlyGivenNames v4 v5
    have k6 : Keeps W r v5 := .upd cw h1
    clear_value v5
    extract_lets +onlyGivenNames v7
    exact track_keeps (cw.le rfl) k3 (record_keeps (cw.le rfl) k6)
  · extract_lets +onlyGivenNames v8
    have k9 : Keeps W r v8 := addRemap_keeps (cw.le rfl) h1
    clear_value v8
    extract_lets +onlyGivenNames v10 v11
    have k12 : Keeps W r v11 := .ite (setObj_keeps (cw.le rfl) k9) (setObj_keeps (cw.le rfl) k9)
    clear_value v11
    exact record_keeps (cw.le rfl) k12
theorem noteGroup_keeps {W : Nat} {r : State} {s1 a2 a3 a4 a5} (cw : Covers W 0x3fe000f3000400000000000000000003000000000000000000000000000018) (h1 : Keeps W r s1) : Keeps W r (noteGroup s1 a2 a3 a4 a5) := by
  delta noteGroup
  refine .ite (remapGroup_keeps (cw.le rfl) h1) ?_
  extract_lets +onlyGivenNames v1 v2 v3 v4 v5
  have k6 : Keeps W r v5 := .upd cw h1
  clear_value v5
  exact .ite (remapGroup_keeps (cw.le rfl) k6) k6
theorem countError_keeps {W : Nat} {r : State} {s1 a2 a3} (cw : Covers W 0x7fe000f3000400000000000000000003000010000000000000000000000018) (h1 : Keeps W r s1) : Keeps W r (countError s1 a2 a3) := by
  delta countError
  extract_lets +onlyGivenNames v1 v2
  have k3 : Keeps W r v2 := .ite (bump_keeps (cw.le rfl) h1) (bump_keeps (cw.le rfl) h1)
  clear_value v2
  extract_lets +onlyGivenNames v4
  have k5 : Keeps W r v4 := by
    unfold v4
    split
    · exact bumpR_keeps (cw.le rfl) k3
    · exact bumpR_keeps (cw.le rfl) k3
    · exact bumpR_keeps (cw.le rfl) k3
    · exact bumpR_keeps (cw.le rfl) k3
  clear_value v4
  extract_lets +onlyGivenNames v6 v7 v8
  have k9 : Keeps W r v8 := .ite k5 (pcCount_keeps (cw.le rfl) (.upd cw k5))
  clear_value v8
  exact noteGroup_keeps (cw.le rfl) k9
theorem dropHcWay_keeps {W : Nat} {r : State} {s1 a2 a3} (cw : Covers W 0x4000000) (h1 : Keeps W r s1) : Keeps W r (dropHcWay s1 a2 a3) := .upd cw h1
theorem dropPbuf_keeps {W : Nat} {r : State} {s1 a2} (cw : Covers W 0x800000000) (h1 : Keeps W r s1) : Keeps W r (dropPbuf s1 a2) := .upd cw h1
theorem dropPcache_keeps {W : Nat} {r : State} {s1 a2} (cw : Covers W 0x8000000000000000000) (h1 : Keeps W r s1) : Keeps W r (dropPcache s1 a2) := .upd cw h1
theorem resetQueue_keeps {W : Nat} {r : State} {s1 a2 a3 a4 a5} (cw : Covers W 0x3fe00002000400000000000000000000000000000000000012000000000018) (h1 : Keeps W r s1) : Keeps W r (resetQueue s1 a2 a3 a4 a5) := by
  delta resetQueue
  refine .ite h1 ?_
  extract_lets +onlyGivenNames v1 v2
  have k3 : Keeps W r v2 := .upd cw h1
  clear_value v2
  exact record_keeps (cw.le rfl) (bumpR_keeps (cw.le rfl) k3)
theorem replayRecord_keeps {W : Nat} {r : State} {s1 a2} (cw : Covers W 0x6000000000000000) (h1 : Keeps W r s1) : Keeps W r (replayRecord s1 a2) := by
  delta replayRecord
  extract_lets +onlyGivenNames v1 v2
  split
  · exact putStripe_keeps (cw.le rfl) h1
  · extract_lets +onlyGivenNames v7 v8
    have k9 : Keeps W r v7 := .ite (substituteSpares_keeps (cw.le rfl) h1) h1
    clear_value v7
    exact .ite (putSet_keeps (cw.le rfl) k9) (putSet_keeps (cw.le rfl) k9)
  · extract_lets +onlyGivenNames v12 v13 v14 v15 v16
    have k17 : Keeps W r v16 := putSet_keeps (cw.le rfl) h1
    clear_value v16
    exact .ite (substituteSpares_keeps (cw.le rfl) k17) k17
  · exact putStripe_keeps (cw.le rfl) h1
  · exact h1
theorem loadSets_keeps {W : Nat} {r : State} {s1} (cw : Covers W 0x30000006000000000000000) (h1 : Keeps W r s1) : Keeps W r (loadSets s1) := by
  delta loadSets
  extract_lets +onlyGivenNames v1 v2 v3 v4
  exact .foldl (.upd cw h1) (fun _ _ k5 => replayRecord_keeps (cw.le rfl) k5)
theorem uncorrectable_keeps {W : Nat} {r : State} {s1 a2 a3} (cw : Covers W 0xf1900003ffe600f28c041e100000030000000004fc0000037e0e37e9dfffb97ffffcff) (h1 : Keeps W r s1) : Keeps W r (uncorrectable s1 a2 a3) := by
  delta uncorrectable
  extract_lets +onlyGivenNames v1 v2 v3
  split
  · exact noteWayError_keeps (cw.le rfl) (dropHcWay_keeps (cw.le rfl) (bumpR_keeps (cw.le rfl) h1))
  · exact noteWayError_keeps (cw.le rfl) (dropHcWay_keeps (cw.le rfl) h1)
  · extract_lets +onlyGivenNames v10
    exact noteWayError_keeps (cw.le rfl) (bumpR_keeps (cw.le rfl) (putBerth_keeps (cw.le rfl) h1))
  · split
    · exact appendCb_keeps (cw.le rfl) (.upd cw h1)
    · exact h1
  · exact dropPbuf_keeps (cw.le rfl) h1
  · exact .upd cw h1
  · exact dirError_keeps (cw.le rfl) h1
  · split
    extract_lets +onlyGivenNames v30
    exact .upd cw h1
  · exact startDown_keeps (cw.le rfl) h1
  · exact .ite (haltIntegrity_keeps (cw.le rfl) h1) h1
  · refine .ite (haltIntegrity_keeps (cw.le rfl) h1) ?_
    split
    rename_i t37 t38 t39 t40
    have k41 : Keeps W r t39 := Keeps2.of_eq t40 (draw_keeps (cw.le rfl) h1)
    split
    rename_i t42 t43 t44 t45
    have k46 : Keeps W r t44 := Keeps2.of_eq t45 (draw_keeps (cw.le rfl) k41)
    exact resetQueue_keeps (cw.le rfl) k46
  · split
    · exact .wharf cw h1 (AMap.wf_set · _ _) id
    · exact h1
  · exact .ite h1 (.upd cw h1)
  · exact dropPcache_keeps (cw.le rfl) h1
  · exact .ite h1 (.upd cw h1)
  · refine .ite ?_ (.ite h1 (.upd cw h1))
    extract_lets +onlyGivenNames v62 v63 v64
    have k65 : Keeps W r v63 := bumpR_keeps (cw.le rfl) h1
    clear_value v63
    extract_lets +onlyGivenNames v66
    have k67 : Keeps W r v66 := startCkpt_keeps (cw.le rfl) (.upd cw k65)
    clear_value v66
    exact record_keeps (cw.le rfl) k67
  · exact loadSets_keeps (cw.le rfl) h1
  · exact h1
  · exact .ite (unprotect_keeps (cw.le rfl) h1) h1
  · exact bumpR_keeps (cw.le rfl) (.upd cw h1)
theorem corrected_keeps {W : Nat} {r : State} {s1 a2 a3} (cw : Covers W 0x3fe00002000400000000000000000000000000000000000000000974000018) (h1 : Keeps W r s1) : Keeps W r (corrected s1 a2 a3) := by
  delta corrected
  extract_lets +onlyGivenNames v1
  split
  · exact noteWayError_keeps (cw.le rfl) (bumpR_keeps (cw.le rfl) h1)
  · exact noteWayError_keeps (cw.le rfl) h1
  · exact noteWayError_keeps (cw.le rfl) h1
  · exact h1
theorem meetErrors_keeps {W : Nat} {r : State} {s1 a2 a3} (cw : Covers W 0xf1900003ffe600f38c041e100000030000000007fc0010037e0e37e9dfffb97ffffcff) (h1 : Keeps W r s1) : Keeps W r (meetErrors s1 a2 a3) := by
  delta meetErrors
  refine .foldl h1 ?_
  intro _ _ k3
  extract_lets +onlyGivenNames v4
  have k5 : Keeps W r v4 := k3
  clear_value v4
  extract_lets +onlyGivenNames v6
  have k7 : Keeps W r v6 := countError_keeps (cw.le rfl) k3
  clear_value v6
  extract_lets +onlyGivenNames v8
  have k9 : Keeps W r v8 := .ite (uncorrectable_keeps (cw.le rfl) k7) (corrected_keeps (cw.le rfl) k7)
  clear_value v8
  exact track_keeps (cw.le rfl) k5 k9
theorem noteTraffic_keeps {W : Nat} {r : State} {s1} (cw : Covers W 0x10c000000000000000000000000000000000000000000808) (h1 : Keeps W r s1) : Keeps W r (noteTraffic s1) := by
  delta noteTraffic
  extract_lets +onlyGivenNames v1 v2
  have k3 : Keeps W r v2 := .upd cw h1
  extract_lets +onlyGivenNames v4
  exact .ite (setPstate_keeps (cw.le rfl) k3) (.ite (setPstate_keeps (cw.le rfl) (.upd cw k3)) k3)
theorem leaveP2_keeps {W : Nat} {r : State} {s1} (cw : Covers W 0x108000000000000000000000000000000000000000000808) (h1 : Keeps W r s1) : Keeps W r (leaveP2 s1) := .ite (setPstate_keeps (cw.le rfl) (.upd cw h1)) h1
theorem cwReadDone_keeps {W : Nat} {r : State} {s1 a2 a3 a4} (cw : Covers W 0x3ffe000020c040000000000000000000000000000400000000000000000003a) (h1 : Keeps W r s1) : Keeps W r (cwReadDone s1 a2 a3 a4) := by
  delta cwReadDone
  extract_lets +onlyGivenNames v1 v2
  exact countPath_keeps (cw.le rfl) (respondDrs_keeps (cw.le rfl) h1)
theorem cwSetState_keeps {W : Nat} {r : State} {s1 a2 a3 a4} (cw : Covers W 0x3ffe000020c040000000000000000000000000000400000000000000000083a) (h1 : Keeps W r s1) : Keeps W r (cwSetState s1 a2 a3 a4) := by
  delta cwSetState
  extract_lets +onlyGivenNames v1
  have k2 : Keeps W r v1 := updWin_keeps (cw.le rfl) h1
  clear_value v1
  exact releaseHeld_keeps (cw.le rfl) k2
theorem cwComplete_keeps {W : Nat} {r : State} {s1 a2 a3} (cw : Covers W 0x3ffe000020c040000000000000000000000000000400000000000000000003a) (h1 : Keeps W r s1) : Keeps W r (cwComplete s1 a2 a3) := countPath_keeps (cw.le rfl) (respondNdr_keeps (cw.le rfl) h1)
theorem cwDrain_keeps {W : Nat} {r : State} {s1 a2 a3 a4} (cw : Covers W 0x3ffe000020c040000000000000000000000000000400000000000000000083a) (h1 : Keeps W r s1) : Keeps W r (cwDrain s1 a2 a3 a4) := by
  delta cwDrain
  extract_lets +onlyGivenNames v1
  have k2 : Keeps W r v1 := updWin_keeps (cw.le rfl) (bumpR_keeps (cw.le rfl) h1)
  clear_value v1
  exact settleDrain_keeps (cw.le rfl) (holdOrComplete_keeps (cw.le rfl) k2)
theorem cwMirror_keeps {W : Nat} {r : State} {s1 a2 a3 a4} (cw : Covers W 0x3ffe000020c040000000000000000000000000000400000000000000000083a) (h1 : Keeps W r s1) : Keeps W r (cwMirror s1 a2 a3 a4) := by
  delta cwMirror
  extract_lets +onlyGivenNames v1
  have k2 : Keeps W r v1 := bumpR_keeps (cw.le rfl) h1
  clear_value v1
  refine .ite (faultMirrorBarrier_keeps (cw.le rfl) (cwComplete_keeps (cw.le rfl) k2)) ?_
  refine .ite ?_ (cwComplete_keeps (cw.le rfl) (cwSetState_keeps (cw.le rfl) (updWin_keeps (cw.le rfl) k2)))
  extract_lets +onlyGivenNames v3
  have k4 : Keeps W r v3 := updWin_keeps (cw.le rfl) k2
  clear_value v3
  exact settleMirrorBarrier_keeps (cw.le rfl) (holdOrComplete_keeps (cw.le rfl) k4)
theorem cwLoad_keeps {W : Nat} {r : State} {s1 a2 a3} (cw : Covers W 0xf1900003ffe600f38c041e100000030000000007fc0010037e0e37e9ffffb97ffffcff) (h1 : Keeps W r s1) : Keeps W r (cwLoad s1 a2 a3) := by
  delta cwLoad
  extract_lets +onlyGivenNames v1 v2
  refine .ite ?_ ?_
  · unfold v2
    extract_lets +onlyGivenNames v3
    have k4 : Keeps W r v3 := releaseHeld_keeps (cw.le rfl) (updWin_keeps (cw.le rfl) h1)
    clear_value v3
    exact respondDrs_keeps (cw.le rfl) k4
  · split
    · unfold v2
      extract_lets +onlyGivenNames v5
      have k6 : Keeps W r v5 := releaseHeld_keeps (cw.le rfl) (updWin_keeps (cw.le rfl) h1)
      clear_value v5
      exact respondDrs_keeps (cw.le rfl) k6
    · extract_lets +onlyGivenNames v7 v8
      have k9 : Keeps W r v8 := meetErrors_keeps (cw.le rfl) h1
      clear_value v8
      split
      · rename_i t10 t11 x12 e13
        have k14 : Keeps W r t11 := Keeps1.of_eq e13 (numberAcc_keeps (cw.le rfl) k9)
        extract_lets +onlyGivenNames v15
        exact .ite (berthEnter_keeps (cw.le rfl) k14) (arriveBulk_keeps (cw.le rfl) k14)
theorem cwStore_keeps {W : Nat} {r : State} {s1 a2 a3 a4 a5} (cw : Covers W 0xf1900003ffe600f38c041e100000030000000007fc0010037e0e37e9ffffb97ffffcff) (h1 : Keeps W r s1) : Keeps W r (cwStore s1 a2 a3 a4 a5) := by
  delta cwStore
  extract_lets +onlyGivenNames v1
  have k2 : Keeps W r v1 := holdOrComplete_keeps (cw.le rfl) h1
  clear_value v1
  extract_lets +onlyGivenNames v3 v4
  clear_value v4
  split
  · exact resvFail_keeps (cw.le rfl) k2
  · extract_lets +onlyGivenNames v5 v6
    have k7 : Keeps W r v6 := meetErrors_keeps (cw.le rfl) k2
    clear_value v6
    split
    · rename_i t8 t9 x10 e11
      have k12 : Keeps W r t9 := Keeps1.of_eq e11 (numberAcc_keeps (cw.le rfl) k7)
      exact .ite (berthEnter_keeps (cw.le rfl) k12) (arriveBulk_keeps (cw.le rfl) k12)
theorem cwDiscardGo_keeps {W : Nat} {r : State} {s1 a2 a3 a4} (cw : Covers W 0x3ffe000020c040000000000000000000000000000400000000000000000083a) (h1 : Keeps W r s1) : Keeps W r (cwDiscardGo s1 a2 a3 a4) := by
  delta cwDiscardGo
  extract_lets +onlyGivenNames v1
  refine .ite (cwComplete_keeps (cw.le rfl) (cwSetState_keeps (cw.le rfl) (bumpR_keeps (cw.le rfl) h1))) ?_
  extract_lets +onlyGivenNames v2
  exact holdOrComplete_keeps (cw.le rfl) (updWin_keeps (cw.le rfl) h1)
theorem cwWriteReg_keeps {W : Nat} {r : State} {s1 a2 a3 a4} (cw : Covers W 0xf1900003ffe600f38c041e100000030000000007fc0010037e0e37e9ffffb97ffffcff) (h1 : Keeps W r s1) : Keeps W r (cwWriteReg s1 a2 a3 a4) := by
  delta cwWriteReg
  extract_lets +onlyGivenNames v1 v2 v3 v4
  refine .ite (cwComplete_keeps (cw.le rfl) (bumpR_keeps (cw.le rfl) h1)) ?_
  refine .ite ?_ ?_
  · extract_lets +onlyGivenNames v5
    have k6 : Keeps W r v5 := record_keeps (cw.le rfl) (bumpR_keeps (cw.le rfl) h1)
    clear_value v5
    exact cwComplete_keeps (cw.le rfl) (cwSetState_keeps (cw.le rfl) k6)
  · refine .ite (cwComplete_keeps (cw.le rfl) (cwSetState_keeps (cw.le rfl) (bumpR_keeps (cw.le rfl) h1))) ?_
    refine .ite (cwDrain_keeps (cw.le rfl) h1) ?_
    refine .ite (cwMirror_keeps (cw.le rfl) h1) ?_
    refine .ite (cwStore_keeps (cw.le rfl) h1) ?_
    refine .ite (cwDiscardGo_keeps (cw.le rfl) h1) ?_
    extract_lets +onlyGivenNames v7
    have k8 : Keeps W r v7 := updWin_keeps (cw.le rfl) h1
    clear_value v7
    exact cwComplete_keeps (cw.le rfl) k8
theorem cwRequest_keeps {W : Nat} {r : State} {s1 a2 a3 a4} (cw : Covers W 0xf1900003ffe600f38c041e100000030000000007fc0010037e0e37e9ffffb97ffffcff) (h1 : Keeps W r s1) : Keeps W r (cwRequest s1 a2 a3 a4) := by
  delta cwRequest
  extract_lets +onlyGivenNames v1
  split
  · exact cwWriteReg_keeps (cw.le rfl) (giveCredit_keeps (cw.le rfl) h1)
  · exact cwWriteReg_keeps (cw.le rfl) (giveCredit_keeps (cw.le rfl) h1)
  · extract_lets +onlyGivenNames v2
    have k3 : Keeps W r v2 := giveCredit_keeps (cw.le rfl) h1
    clear_value v2
    exact .ite (cwLoad_keeps (cw.le rfl) k3) (cwReadDone_keeps (cw.le rfl) k3)
  · extract_lets +onlyGivenNames v4
    have k5 : Keeps W r v4 := giveCredit_keeps (cw.le rfl) h1
    clear_value v4
    exact .ite (cwLoad_keeps (cw.le rfl) k5) (cwReadDone_keeps (cw.le rfl) k5)
  · exact respondNdr_keeps (cw.le rfl) (giveCredit_keeps (cw.le rfl) h1)
  · exact respondNdr_keeps (cw.le rfl) (giveCredit_keeps (cw.le rfl) h1)
  · exact giveCredit_keeps (cw.le rfl) h1
  · exact giveCredit_keeps (cw.le rfl) h1
theorem hostConflict_keeps {W : Nat} {r : State} {s1 a2 a3 a4} (cw : Covers W 0x3ffe000020c0400000000000000000000000000004000000000000003ffc03a) (h1 : Keeps W r s1) : Keeps W r (hostConflict s1 a2 a3 a4) := by
  delta hostConflict
  extract_lets +onlyGivenNames v1
  have k2 : Keeps W r v1 := giveCredit_keeps (cw.le rfl) (bumpR_keeps (cw.le rfl) h1)
  clear_value v1
  extract_lets +onlyGivenNames v3
  refine settleAcks_keeps (cw.le rfl) ?_
  delta updDir
  exact .upd cw k2
theorem hostSpec_keeps {W : Nat} {r : State} {s1 a2 a3} (cw : Covers W 0x7fe00002000400000000000000000000000000003e00000000000000000038) (h1 : Keeps W r s1) : Keeps W r (hostSpec s1 a2 a3) := by
  delta hostSpec
  extract_lets +onlyGivenNames v1
  have k2 : Keeps W r v1 := giveCredit_keeps (cw.le rfl) h1
  clear_value v1
  refine .ite k2 ?_
  extract_lets +onlyGivenNames v3
  refine .ite k2 ?_
  split
  · exact fillPage_keeps (cw.le rfl) k2
  · exact k2
theorem reflectRequest_keeps {W : Nat} {r : State} {s1 a2 a3} (cw : Covers W 0x23ffe000020c040000000000000000000000000000400000000000000000003b) (h1 : Keeps W r s1) : Keeps W r (reflectRequest s1 a2 a3) := by
  delta reflectRequest
  extract_lets +onlyGivenNames v1 v2 v3
  split
  · extract_lets +onlyGivenNames v4
    have k5 : Keeps W r v4 := giveCredit_keeps (cw.le rfl) h1
    clear_value v4
    split
    · exact respondDrs_keeps (cw.le rfl) k5
    · split
      · rename_i t6 x7 t8 e9
        have k10 : Keeps W r t8 := Keeps2.of_eq e9 (draw_keeps (cw.le rfl) k5)
        exact respondDrs_keeps (cw.le rfl) k10
  · extract_lets +onlyGivenNames v11
    have k12 : Keeps W r v11 := giveCredit_keeps (cw.le rfl) h1
    clear_value v11
    split
    · exact respondDrs_keeps (cw.le rfl) k12
    · split
      · rename_i t13 x14 t15 e16
        have k17 : Keeps W r t15 := Keeps2.of_eq e16 (draw_keeps (cw.le rfl) k12)
        exact respondDrs_keeps (cw.le rfl) k17
  · split
    · rename_i t18 x19 t20 e21
      have k27 : Keeps W r t20 := by
        refine Keeps2.of_eq e21 ?_
        split
        · exact Keeps2.mk h1
        · split
          · rename_i t22 x23 t24 e25
            have k26 : Keeps W r t24 := Keeps2.of_eq e25 (draw_keeps (cw.le rfl) h1)
            exact Keeps2.mk k26
      extract_lets +onlyGivenNames v28 v29 v30
      have k31 : Keeps W r v30 := .upd cw k27
      clear_value v30
      exact respondNdr_keeps (cw.le rfl) (giveCredit_keeps (cw.le rfl) k31)
  · split
    · rename_i t32 x33 t34 e35
      have k41 : Keeps W r t34 := by
        refine Keeps2.of_eq e35 ?_
        split
        · exact Keeps2.mk h1
        · split
          · rename_i t36 x37 t38 e39
            have k40 : Keeps W r t38 := Keeps2.of_eq e39 (draw_keeps (cw.le rfl) h1)
            exact Keeps2.mk k40
      extract_lets +onlyGivenNames v42 v43 v44
      have k45 : Keeps W r v44 := .upd cw k41
      clear_value v44
      exact respondNdr_keeps (cw.le rfl) (giveCredit_keeps (cw.le rfl) k45)
  · exact respondNdr_keeps (cw.le rfl) (giveCredit_keeps (cw.le rfl) h1)
  · exact respondNdr_keeps (cw.le rfl) (giveCredit_keeps (cw.le rfl) h1)
  · exact giveCredit_keeps (cw.le rfl) h1
  · exact sendS2m_keeps (cw.le rfl) (giveCredit_keeps (cw.le rfl) h1)
theorem admitRequest_keeps {W : Nat} {r : State} {a1 a2 s3} (cw : Covers W 0xf1900023ffe600f38c041e10c000030000000007fc0010037e0e37e9ffffb97ffffcff) (h3 : Keeps W r s3) : Keeps W r (admitRequest a1 a2 s3) := by
  delta admitRequest
  extract_lets +onlyGivenNames v1 v2
  refine .ite (giveCredit_keeps (cw.le rfl) h3) ?_
  split
  · exact giveCredit_keeps (cw.le rfl) h3
  · rename_i t5 t6 t7 t8
    extract_lets +onlyGivenNames v9
    have k10 : Keeps W r v9 := noteTraffic_keeps (cw.le rfl) h3
    clear_value v9
    refine .ite (reflectRequest_keeps (cw.le rfl) k10) ?_
    extract_lets +onlyGivenNames v11 v12 v13 v14 v15
    have k16 : Keeps W r v14 := .ite (bwAdd_keeps (cw.le rfl) (pcCount_keeps (cw.le rfl) k10)) (.ite (pcCount_keeps (cw.le rfl) k10) k10)
    clear_value v14
    have k17 : Keeps W r v15 := .ite (bump_keeps (cw.le rfl) k16) k16
    clear_value v15
    refine .ite ?_ ?_
    · split
      · exact cwRequest_keeps (cw.le rfl) k17
      · exact giveCredit_keeps (cw.le rfl) k17
    · extract_lets +onlyGivenNames v23 v24 v25
      have k26 : Keeps W r v23 := meetErrors_keeps (cw.le rfl) k17
      clear_value v23
      split
      · unfold v24
        split
        rename_i t29 t30 t31 t32
        have k33 : Keeps W r t30 := Keeps1.of_eq t32 (numberAcc_keeps (cw.le rfl) k26)
        extract_lets +onlyGivenNames v34
        exact .ite (berthEnter_keeps (cw.le rfl) k33) (arriveBulk_keeps (cw.le rfl) k33)
      · unfold v24
        split
        rename_i t37 t38 t39 t40
        have k41 : Keeps W r t38 := Keeps1.of_eq t40 (numberAcc_keeps (cw.le rfl) k26)
        extract_lets +onlyGivenNames v42
        exact .ite (berthEnter_keeps (cw.le rfl) k41) (arriveBulk_keeps (cw.le rfl) k41)
      · unfold v24
        split
        rename_i t45 t46 t47 t48
        have k49 : Keeps W r t46 := Keeps1.of_eq t48 (numberAcc_keeps (cw.le rfl) k26)
        extract_lets +onlyGivenNames v50
        exact .ite (berthEnter_keeps (cw.le rfl) k49) (arriveBulk_keeps (cw.le rfl) k49)
      · unfold v24
        split
        rename_i t53 t54 t55 t56
        have k57 : Keeps W r t54 := Keeps1.of_eq t56 (numberAcc_keeps (cw.le rfl) k26)
        extract_lets +onlyGivenNames v58
        exact .ite (berthEnter_keeps (cw.le rfl) k57) (arriveBulk_keeps (cw.le rfl) k57)
      · refine .ite (respondNdr_keeps (cw.le rfl) (giveCredit_keeps (cw.le rfl) k26)) ?_
        refine .ite ?_ (.ite (giveCredit_keeps (cw.le rfl) k26) (respondNdr_keeps (cw.le rfl) (giveCredit_keeps (cw.le rfl) k26)))
        unfold v24
        split
        rename_i t61 t62 t63 t64
        have k65 : Keeps W r t62 := Keeps1.of_eq t64 (numberAcc_keeps (cw.le rfl) k26)
        extract_lets +onlyGivenNames v66
        exact .ite (berthEnter_keeps (cw.le rfl) k65) (arriveBulk_keeps (cw.le rfl) k65)
      · extract_lets +onlyGivenNames v69
        have k70 : Keeps W r v69 := bumpR_keeps (cw.le rfl) k26
        clear_value v69
        split
        rename_i t71 t72 t73 t74
        have k75 : Keeps W r t72 := Keeps1.of_eq t74 (numberAcc_keeps (cw.le rfl) k70)
        exact .ite (arriveBulk_keeps (cw.le rfl) k75) (respondNdr_keeps (cw.le rfl) (giveCredit_keeps (cw.le rfl) k75))
      · exact hostSpec_keeps (cw.le rfl) k26
      · exact hostConflict_keeps (cw.le rfl) k26
theorem hostRequest_keeps {W : Nat} {r : State} {a1 s2} (cw : Covers W 0xf1900023ffe600f38c041e10c000030000000007fc0010037e0e37e9ffffb97ffffcff) (h2 : Keeps W r s2) : Keeps W r (hostRequest a1 s2) := by
  delta hostRequest
  extract_lets +onlyGivenNames v1 v2
  refine .ite h2 ?_
  extract_lets +onlyGivenNames v3 v4
  have k5 : Keeps W r v4 := takeCredit_keeps (cw.le rfl) h2
  clear_value v4
  exact .ite (.upd cw k5) (settle_keeps (cw.le rfl) (admitRequest_keeps (cw.le rfl) k5))
theorem endPause_keeps {W : Nat} {r : State} {s1} (cw : Covers W 0xf1940023ffe600f38c041e10c000030000000007fc0010037e0e37e9ffffb97ffffcff) (h1 : Keeps W r s1) : Keeps W r (endPause s1) := by
  delta endPause
  extract_lets +onlyGivenNames v1
  exact settle_keeps (cw.le rfl) (.foldl (.upd cw h1) (fun _ _ k4 => admitRequest_keeps (cw.le rfl) k4))
theorem cwArrive_keeps {W : Nat} {r : State} {a1 a2 a3 a4 a5 a6 a7 a8 s9} (cw : Covers W 0xf1900023ffe600f38c041e10c000030000000007fc0010037e0e37e9ffffb97ffffcff) (h9 : Keeps W r s9) : Keeps W r (cwArrive a1 a2 a3 a4 a5 a6 a7 a8 s9) := by
  delta cwArrive
  split
  · exact hostRequest_keeps (cw.le rfl) h9
  · exact h9
theorem execMemRd_keeps {W : Nat} {r : State} {a1 a2 a3 a4 a5 a6 s7} (cw : Covers W 0xf1900023ffe600f38c041e10c000030000000007fc0010037e0e37e9ffffb97ffffcff) (h7 : Keeps W r s7) : KeepsOut W r (execMemRd a1 a2 a3 a4 a5 a6 s7) := KeepsOut.next (hostRequest_keeps (cw.le rfl) h7)
theorem execMemRdData_keeps {W : Nat} {r : State} {a1 a2 a3 a4 a5 s6} (cw : Covers W 0xf1900023ffe600f38c041e10c000030000000007fc0010037e0e37e9ffffb97ffffcff) (h6 : Keeps W r s6) : KeepsOut W r (execMemRdData a1 a2 a3 a4 a5 s6) := KeepsOut.next (hostRequest_keeps (cw.le rfl) h6)
theorem execMemSpecRd_keeps {W : Nat} {r : State} {a1 a2 a3 a4 a5 s6} (cw : Covers W 0xf1900023ffe600f38c041e10c000030000000007fc0010037e0e37e9ffffb97ffffcff) (h6 : Keeps W r s6) : KeepsOut W r (execMemSpecRd a1 a2 a3 a4 a5 s6) := KeepsOut.next (hostRequest_keeps (cw.le rfl) h6)
theorem execMemInv_keeps {W : Nat} {r : State} {a1 a2 a3 a4 a5 s6} (cw : Covers W 0xf1900023ffe600f38c041e10c000030000000007fc0010037e0e37e9ffffb97ffffcff) (h6 : Keeps W r s6) : KeepsOut W r (execMemInv a1 a2 a3 a4 a5 s6) := KeepsOut.next (hostRequest_keeps (cw.le rfl) h6)
theorem execMemClnEvct_keeps {W : Nat} {r : State} {a1 a2 a3 a4 a5 s6} (cw : Covers W 0xf1900023ffe600f38c041e10c000030000000007fc0010037e0e37e9ffffb97ffffcff) (h6 : Keeps W r s6) : KeepsOut W r (execMemClnEvct a1 a2 a3 a4 a5 s6) := KeepsOut.next (hostRequest_keeps (cw.le rfl) h6)
theorem execBiConflict_keeps {W : Nat} {r : State} {a1 a2 a3 a4 s5} (cw : Covers W 0xf1900023ffe600f38c041e10c000030000000007fc0010037e0e37e9ffffb97ffffcff) (h5 : Keeps W r s5) : KeepsOut W r (execBiConflict a1 a2 a3 a4 s5) := KeepsOut.next (hostRequest_keeps (cw.le rfl) h5)
theorem execMemWr_keeps {W : Nat} {r : State} {a1 a2 a3 a4 a5 a6 a7 a8 s9} (cw : Covers W 0xf1900023ffe600f38c041e10c000030000000007fc0010037e0e37e9ffffb97ffffcff) (h9 : Keeps W r s9) : KeepsOut W r (execMemWr a1 a2 a3 a4 a5 a6 a7 a8 s9) := KeepsOut.next (hostRequest_keeps (cw.le rfl) h9)
theorem execMemWrPtl_keeps {W : Nat} {r : State} {a1 a2 a3 a4 a5 a6 a7 a8 a9 a10 s11} (cw : Covers W 0xf1900023ffe600f38c041e10c000030000000007fc0010037e0e37e9ffffb97ffffcff) (h11 : Keeps W r s11) : KeepsOut W r (execMemWrPtl a1 a2 a3 a4 a5 a6 a7 a8 a9 a10 s11) := KeepsOut.next (hostRequest_keeps (cw.le rfl) h11)
theorem execCombiningTimeout_keeps {W : Nat} {r : State} {a1 s2} (cw : Covers W 0xd1800003ffe000f28c041e1080000300000000040c000000480607e8c7bb0000003c3a) (h2 : Keeps W r s2) : KeepsOut W r (execCombiningTimeout a1 s2) := KeepsOut.next (.ite (settle_keeps (cw.le rfl) (appendCb_keeps (cw.le rfl) (.ite (leaveP2_keeps (cw.le rfl) h2) h2))) h2)
theorem birspCredit_keeps {W : Nat} {r : State} {s1 a2 a3} (cw : Covers W 0x20) (h1 : Keeps W r s1) : Keeps W r (birspCredit s1 a2 a3) := by
  delta birspCredit
  extract_lets +onlyGivenNames v1
  exact putPort_keeps (cw.le rfl) h1
theorem clearLine_keeps {W : Nat} {r : State} {s1 a2} (cw : Covers W 0x3ffc000) (h1 : Keeps W r s1) : Keeps W r (clearLine s1 a2) := by
  delta clearLine
  split
  · extract_lets +onlyGivenNames v4
    exact putEntry_keeps (cw.le rfl) h1
  · exact h1
theorem biRsp_keeps {W : Nat} {r : State} {a1 a2 a3 a4 a5 s6} (cw : Covers W 0xd1800003ffe000f28c041e0000000300000000040c0000007e0e07e8c7bfb80ffffcfb) (h6 : Keeps W r s6) : Keeps W r (biRsp a1 a2 a3 a4 a5 s6) := by
  delta biRsp
  extract_lets +onlyGivenNames v1
  refine .ite h6 ?_
  refine .ite (birspCredit_keeps (cw.le rfl) (birspCredit_keeps (cw.le rfl) h6)) ?_
  extract_lets +onlyGivenNames v2 v3 v4
  have k5 : Keeps W r v2 := birspCredit_keeps (cw.le rfl) (birspCredit_keeps (cw.le rfl) h6)
  clear_value v2
  split
  · unfold v4
    extract_lets +onlyGivenNames v8
    exact record_keeps (cw.le rfl) (bumpR_keeps (cw.le rfl) k5)
  · refine .ite ?_ ?_
    · unfold v4
      extract_lets +onlyGivenNames v12
      refine record_keeps (cw.le rfl) ?_
      refine bumpR_keeps (cw.le rfl) ?_
      delta updDir
      exact .upd cw k5
    · extract_lets +onlyGivenNames v13 v14
      have k15 : Keeps W r v13 := bumpR_keeps (cw.le rfl) k5
      clear_value v13
      have k16 : Keeps W r v14 := by
        unfold v14
        delta updDir
        exact .upd cw k15
      clear_value v14
      split
      · extract_lets +onlyGivenNames v20
        have k21 : Keeps W r v20 := .ite (clearLine_keeps (cw.le rfl) k16) k16
        clear_value v20
        exact .ite (settle_keeps (cw.le rfl) (completeTx_keeps (cw.le rfl) k21)) k21
      · exact k16
theorem execBiRsp_keeps {W : Nat} {r : State} {a1 a2 a3 a4 a5 s6} (cw : Covers W 0xd1800003ffe000f28c041e0000000300000000040c0000007e0e07e8c7bfb80ffffcfb) (h6 : Keeps W r s6) : KeepsOut W r (execBiRsp a1 a2 a3 a4 a5 s6) := KeepsOut.next (biRsp_keeps (cw.le rfl) h6)
theorem execBisnpSend_keeps {W : Nat} {r : State} {a1 s2} (cw : Covers W 0x7fe000020c0400000000000000000000000000000000000000000003ffc03a) (h2 : Keeps W r s2) : KeepsOut W r (execBisnpSend a1 s2) := by
  delta execBisnpSend
  refine KeepsOut.next ?_
  split
  · exact trySnoop_keeps (cw.le rfl) h2
  · exact h2
theorem sendHeld_keeps {W : Nat} {r : State} {s1 a2} (cw : Covers W 0x7fe000020c0400000000000000000000000000000000000000000003ffc03a) (h1 : Keeps W r s1) : Keeps W r (sendHeld s1 a2) := .foldl h1 (fun _ _ k3 => trySnoop_keeps (cw.le rfl) k3)
theorem execS2mCreditReturn_keeps {W : Nat} {r : State} {a1 a2 a3 a4 s5} (cw : Covers W 0x3ffe000020c0400000000000000000000000000004000000000000003ffc03a) (h5 : Keeps W r s5) : KeepsOut W r (execS2mCreditReturn a1 a2 a3 a4 s5) := by
  delta execS2mCreditReturn
  extract_lets +onlyGivenNames v1
  refine .ite ?_ (KeepsOut.next h5)
  extract_lets +onlyGivenNames v2 v3
  have k4 : Keeps W r v3 := putPort_keeps (cw.le rfl) h5
  clear_value v3
  exact KeepsOut.next (.ite (sendHeld_keeps (cw.le rfl) (pumpPort_keeps (cw.le rfl) k4)) k4)
theorem execRetryStoreRelease_keeps {W : Nat} {r : State} {a1 a2 s3} (cw : Covers W 0xd1800003ffe000f28c041e0000000300000000040c0000007e0e07e8c7bfb80ffffcfb) (h3 : Keeps W r s3) : KeepsOut W r (execRetryStoreRelease a1 a2 s3) := by
  delta execRetryStoreRelease
  refine KeepsOut.next ?_
  split
  · extract_lets +onlyGivenNames v4
    refine .ite ?_ h3
    extract_lets +onlyGivenNames v5
    have k6 : Keeps W r v5 := by
      unfold v5
      delta updDir
      exact .upd cw h3
    clear_value v5
    exact settle_keeps (cw.le rfl) (resumeAcc_keeps (cw.le rfl) (raiseTo_keeps (cw.le rfl) k6))
  · exact h3
theorem execRetryTimeout_keeps {W : Nat} {r : State} {a1 s2} (cw : Covers W 0xd1800003ffe400f28c041e1000000300000000040c000000480607e8c7bf0003fff83a) (h2 : Keeps W r s2) : KeepsOut W r (execRetryTimeout a1 s2) := by
  delta execRetryTimeout
  refine KeepsOut.next ?_
  split
  · exact startDown_keeps (cw.le rfl) (raiseTo_keeps (cw.le rfl) h2)
  · exact h2
theorem execSnoopTimeout_keeps {W : Nat} {r : State} {a1 s2} (cw : Covers W 0xd1800003ffe400f28c041e1000000300000000040c000000480607e8c7bf0003fff83a) (h2 : Keeps W r s2) : KeepsOut W r (execSnoopTimeout a1 s2) := by
  delta execSnoopTimeout
  refine KeepsOut.next ?_
  split
  · refine .ite ?_ h2
    extract_lets +onlyGivenNames v1
    have k2 : Keeps W r v1 := record_keeps (cw.le rfl) h2
    clear_value v1
    exact startDown_keeps (cw.le rfl) k2
  · exact h2
theorem execDomainDownWalkDone_keeps {W : Nat} {r : State} {s1} (cw : Covers W 0xd1800003ffe000f28c041e0000000300000000040c000000480e07e8c7bf0807fffcfa) (h1 : Keeps W r s1) : KeepsOut W r (execDomainDownWalkDone s1) := KeepsOut.next (walkDone_keeps (cw.le rfl) h1)
theorem domainRecoverEffect_keeps {W : Nat} {r : State} {a1 a2 s3} (cw : Covers W 0x800000003fe400f2820400000000000000000000000000000000000000000000000018) (h3 : Keeps W r s3) : Keeps1 W r (domainRecoverEffect a1 a2 s3) := runCommand_keeps (cw.le rfl) (fun _ _ _ k4 => recoverDomain_keeps (cw.le rfl) k4) h3
theorem execDomainRecover_keeps {W : Nat} {r : State} {a1 a2 s3} (cw : Covers W 0x2800000003fe400f28e840000000000000000000000000000000000000000000000001a) (h3 : Keeps W r s3) : KeepsOut W r (execDomainRecover a1 a2 s3) := KeepsOut.next (kdpObject_keeps (cw.le rfl) (fun _ _ _ k4 => domainRecoverEffect_keeps (cw.le rfl) k4) h3)
end Sys2Proof.Machine
end

