-- ==== Sys2Proof/Laws/KeepsPort.lean ====
section
/-! SUPPORT. What port, contract, home-cache, wharf and map commands keep: one lemma per operation (Laws/Keeps.lean). -/
set_option linter.unusedVariables false
set_option maxRecDepth 4000
set_option Elab.async false
namespace Sys2Proof.Machine
open Sys2Proof

theorem startTraining_keeps {W : Nat} {r : State} {s1 a2} (cw : Covers W 0x8) (h1 : Keeps W r s1) : Keeps W r (startTraining s1 a2) := .ite (setObj_keeps (cw.le rfl) h1) h1
theorem dropLink_keeps {W : Nat} {r : State} {s1 a2} (cw : Covers W 0x3fe00002000400000000000000000000000000000000000000000000000038) (h1 : Keeps W r s1) : Keeps W r (dropLink s1 a2) := by
  delta dropLink
  extract_lets +onlyGivenNames v1 v2 v3
  have k4 : Keeps W r v3 := .ite (record_keeps (cw.le rfl) (bump_keeps (cw.le rfl) h1)) h1
  clear_value v3
  extract_lets +onlyGivenNames v5
  have k6 : Keeps W r v5 := setObj_keeps (cw.le rfl) (setObj_keeps (cw.le rfl) (setObj_keeps (cw.le rfl) (setObj_keeps (cw.le rfl) k4)))
  clear_value v5
  exact putPort_keeps (cw.le rfl) k6
theorem resetCredits_keeps {W : Nat} {r : State} {s1 a2} (cw : Covers W 0x28) (h1 : Keeps W r s1) : Keeps W r (resetCredits s1 a2) := by
  delta resetCredits
  extract_lets +onlyGivenNames v1 v2
  have k3 : Keeps W r v2 := putPort_keeps (cw.le rfl) (setObj_keeps (cw.le rfl) h1)
  clear_value v2
  exact .ite (grantCredits_keeps (cw.le rfl) (putPort_keeps (cw.le rfl) k3)) k3
theorem silencePort_keeps {W : Nat} {r : State} {s1 a2} (cw : Covers W 0x100000000000000000000000000000000000000000000002000000080080001d0020) (h1 : Keeps W r s1) : Keeps W r (silencePort s1 a2) := by
  delta silencePort
  extract_lets +onlyGivenNames v1 v2 v3 v4 v5
  have k6 : Keeps W r v3 := returnDropped_keeps (cw.le rfl) h1
  clear_value v3
  have k7 : Keeps W r v4 := by
    unfold v4
    delta updDir
    exact .upd cw k6
  clear_value v4
  extract_lets +onlyGivenNames v8
  extract_lets +onlyGivenNames v9
  extract_lets +onlyGivenNames v10
  have k11 : Keeps W r v10 := .upd cw k7
  clear_value v10
  exact updMirror_keeps (cw.le rfl) k11
theorem moveAccs_keeps {W : Nat} {r : State} {s1 a2 a3} (cw : Covers W 0x2000000080080000d0000) (h1 : Keeps W r s1) : Keeps W r (moveAccs s1 a2 a3) := by
  delta moveAccs
  extract_lets +onlyGivenNames v1 v2 v3
  have k4 : Keeps W r v2 := by
    unfold v2
    delta updDir
    exact .upd cw h1
  clear_value v2
  extract_lets +onlyGivenNames v5
  extract_lets +onlyGivenNames v6
  have k7 : Keeps W r v6 := .upd cw k4
  clear_value v6
  exact updMirror_keeps (cw.le rfl) k7
theorem unbindWindow_keeps {W : Nat} {r : State} {s1 a2 a3} (cw : Covers W 0x3ffe000020c04000000000000000000000000000042000000080080000d083a) (h1 : Keeps W r s1) : Keeps W r (unbindWindow s1 a2 a3) := by
  delta unbindWindow
  extract_lets +onlyGivenNames v1 v2 v3 v4
  have k5 : Keeps W r v1 := loseResv_keeps (cw.le rfl) h1
  clear_value v1
  have k9 : Keeps W r v2 := .ite (.foldl k5 (fun _ _ k6 => releaseHeld_keeps (cw.le rfl) k6)) k5
  clear_value v2
  extract_lets +onlyGivenNames v10
  have k11 : Keeps W r v10 := .upd cw k9
  clear_value v10
  refine .ite ?_ (moveAccs_keeps (cw.le rfl) k11)
  split
  · extract_lets +onlyGivenNames v15
    extract_lets +onlyGivenNames v16
    have k17 : Keeps W r v16 := .upd cw k11
    clear_value v16
    exact moveAccs_keeps (cw.le rfl) k17
  · exact k11
theorem unbindAgent_keeps {W : Nat} {r : State} {s1 a2 a3 a4} (cw : Covers W 0x3ffe000020c04000000000000000000000000000042000000080080000d083a) (h1 : Keeps W r s1) : Keeps W r (unbindAgent s1 a2 a3 a4) := by
  delta unbindAgent
  split
  · exact unbindWindow_keeps (cw.le rfl) h1
  · exact h1
theorem recallPort_keeps {W : Nat} {r : State} {s1 a2} (cw : Covers W 0x3ffe000020c041e000000000000000004000000007e080000463fb80ffffcfb) (h1 : Keeps W r s1) : Keeps W r (recallPort s1 a2) := by
  delta recallPort
  refine .foldl h1 ?_
  intro _ _ k3
  extract_lets +onlyGivenNames v4 v5 v6 v7
  have k8 : Keeps W r v7 := .ite (.upd cw k3) k3
  clear_value v7
  exact recallAgent_keeps (cw.le rfl) k8
theorem uncommitPort_keeps {W : Nat} {r : State} {s1 a2} (cw : Covers W 0x3ffe000020c041e000000000000000004000000007e0800004e3fb80ffffcfb) (h1 : Keeps W r s1) : Keeps W r (uncommitPort s1 a2) := by
  delta uncommitPort
  extract_lets +onlyGivenNames v1 v2
  have k3 : Keeps W r v2 := .foldl h1 (fun _ _ k6 => unbindAgent_keeps (cw.le rfl) k6)
  clear_value v2
  extract_lets +onlyGivenNames v7 v8
  have k9 : Keeps W r v8 := .upd cw k3
  clear_value v8
  exact recallPort_keeps (cw.le rfl) k9
theorem openGate_keeps {W : Nat} {r : State} {s1 a2} (cw : Covers W 0x10000000000000000000000000000000000000000000000000000000000000000000000) (h1 : Keeps W r s1) : Keeps W r (openGate s1 a2) := .ite (.upd cw h1) h1
theorem resetPort_keeps {W : Nat} {r : State} {s1 a2 a3} (cw : Covers W 0x1d1900033ffe000f28e041e0000000300000000040c0000007e0e07e8cfbfb80ffffcfb) (h1 : Keeps W r s1) : Keeps W r (resetPort s1 a2 a3) := by
  delta resetPort
  extract_lets +onlyGivenNames v1 v2 v3 v4 v5 v6 v7 v8 v9 v10 v11
  have k12 : Keeps W r v2 := losePortResv_keeps (cw.le rfl) (abortLoop_keeps (cw.le rfl) (openGate_keeps (cw.le rfl) h1))
  clear_value v2
  have k13 : Keeps W r v3 := .ite k12 (dropLink_keeps (cw.le rfl) k12)
  clear_value v3
  have k14 : Keeps W r v4 := silencePort_keeps (cw.le rfl) k13
  clear_value v4
  have k15 : Keeps W r v5 := uncommitPort_keeps (cw.le rfl) k14
  clear_value v5
  have k16 : Keeps W r v7 := .ite (.upd cw k15) (.upd cw k15)
  clear_value v7
  have k17 : Keeps W r v8 := setObj_keeps (cw.le rfl) (setObj_keeps (cw.le rfl) k16)
  clear_value v8
  extract_lets +onlyGivenNames v18
  have k19 : Keeps W r v18 := resetCredits_keeps (cw.le rfl) (putPort_keeps (cw.le rfl) k17)
  clear_value v18
  exact settle_keeps (cw.le rfl) (sendHeld_keeps (cw.le rfl) (startTraining_keeps (cw.le rfl) k19))
theorem fenceSecond_keeps {W : Nat} {r : State} {s1 a2} (cw : Covers W 0x3fe000020c040000000000000000000000000000000000000000000000083a) (h1 : Keeps W r s1) : Keeps W r (fenceSecond s1 a2) := by
  delta fenceSecond
  extract_lets +onlyGivenNames v1
  refine .ite (putPort_keeps (cw.le rfl) (setObj_keeps (cw.le rfl) h1)) ?_
  extract_lets +onlyGivenNames v2
  exact .foldl h1 (fun _ _ k3 => .ite (fencePort_keeps (cw.le rfl) (.ite (raiseViral_keeps (cw.le rfl) k3) k3)) k3)
theorem takeBifurcation_keeps {W : Nat} {r : State} {s1 a2} (cw : Covers W 0x1d1900033ffe000f28e041e0000000300000000040c0000007e0e07e8cfbfb80ffffcfb) (h1 : Keeps W r s1) : Keeps W r (takeBifurcation s1 a2) := by
  delta takeBifurcation
  extract_lets +onlyGivenNames v1 v2 v3 v4
  have k5 : Keeps W r v2 := resetPort_keeps (cw.le rfl) h1
  clear_value v2
  have k6 : Keeps W r v3 := .ite k5 (resetPort_keeps (cw.le rfl) k5)
  clear_value v3
  have k7 : Keeps W r v4 := fenceSecond_keeps (cw.le rfl) (setObj_keeps (cw.le rfl) k6)
  clear_value v4
  exact startTraining_keeps (cw.le rfl) (startTraining_keeps (cw.le rfl) k7)
theorem execPortRstNAssert_keeps {W : Nat} {r : State} {a1 s2} (cw : Covers W 0x1d1900033ffe000f28e041e0000000300000000040c0000007e0e07e8cfbfb80ffffcfb) (h2 : Keeps W r s2) : KeepsOut W r (execPortRstNAssert a1 s2) := by
  delta execPortRstNAssert
  extract_lets +onlyGivenNames v1 v2
  have k3 : Keeps W r v2 := h2
  clear_value v2
  extract_lets +onlyGivenNames v4 v5
  have k6 : Keeps W r v5 := putPort_keeps (cw.le rfl) h2
  clear_value v5
  refine .ite (KeepsOut.next k6) ?_
  extract_lets +onlyGivenNames v7
  have k8 : Keeps W r v7 := .ite (takeBifurcation_keeps (cw.le rfl) k6) (resetPort_keeps (cw.le rfl) k6)
  clear_value v7
  exact KeepsOut.next (track_keeps (cw.le rfl) k3 k8)
theorem execHotReset_keeps {W : Nat} {r : State} {a1 s2} (cw : Covers W 0x1d1900033ffe000f28e041e0000000300000000040c0000007e0e07e8cfbfb80ffffcfb) (h2 : Keeps W r s2) : KeepsOut W r (execHotReset a1 s2) := by
  delta execHotReset
  extract_lets +onlyGivenNames v1
  exact KeepsOut.next (.ite (track_keeps (cw.le rfl) h2 (resetPort_keeps (cw.le rfl) h2)) h2)
theorem execLinkDisable_keeps {W : Nat} {r : State} {a1 s2} (cw : Covers W 0x1d1900033ffe000f28e041e0000000300000000040c0000007e0e07e8cfbfb80ffffcfb) (h2 : Keeps W r s2) : KeepsOut W r (execLinkDisable a1 s2) := by
  delta execLinkDisable
  extract_lets +onlyGivenNames v1
  exact KeepsOut.next (.ite (track_keeps (cw.le rfl) h2 (resetPort_keeps (cw.le rfl) h2)) h2)
theorem execCxlReset_keeps {W : Nat} {r : State} {a1 s2} (cw : Covers W 0x1d1900033ffe000f28e041e0000000300000000040c0000007e0e07e8cfbfb80ffffcfb) (h2 : Keeps W r s2) : KeepsOut W r (execCxlReset a1 s2) := by
  delta execCxlReset
  extract_lets +onlyGivenNames v1
  exact KeepsOut.next (.ite (track_keeps (cw.le rfl) h2 (resetPort_keeps (cw.le rfl) h2)) h2)
theorem linkLost_keeps {W : Nat} {r : State} {s1 a2} (cw : Covers W 0xd1900003ffe000f28c041e0000000300000000040c0000007e0e07e8cfbfb80ffffcfb) (h1 : Keeps W r s1) : Keeps W r (linkLost s1 a2) := by
  delta linkLost
  refine .ite ?_ h1
  extract_lets +onlyGivenNames v1
  have k2 : Keeps W r v1 := h1
  clear_value v1
  extract_lets +onlyGivenNames v3
  have k4 : Keeps W r v3 := fencePort_keeps (cw.le rfl) (dropLink_keeps (cw.le rfl) h1)
  clear_value v3
  extract_lets +onlyGivenNames v5
  have k6 : Keeps W r v5 := uncommitPort_keeps (cw.le rfl) (silencePort_keeps (cw.le rfl) k4)
  clear_value v5
  exact track_keeps (cw.le rfl) k2 (settle_keeps (cw.le rfl) (startTraining_keeps (cw.le rfl) (resetCredits_keeps (cw.le rfl) k6)))
theorem noteFarEnd_keeps {W : Nat} {r : State} {s1 a2 a3} (cw : Covers W 0x28) (h1 : Keeps W r s1) : Keeps W r (noteFarEnd s1 a2 a3) := by
  delta noteFarEnd
  extract_lets +onlyGivenNames v1
  have k2 : Keeps W r v1 := h1
  clear_value v1
  exact track_keeps (cw.le rfl) k2 (putPort_keeps (cw.le rfl) h1)
theorem execPortLinkDown_keeps {W : Nat} {r : State} {a1 s2} (cw : Covers W 0xd1900003ffe000f28c041e0000000300000000040c0000007e0e07e8cfbfb80ffffcfb) (h2 : Keeps W r s2) : KeepsOut W r (execPortLinkDown a1 s2) := KeepsOut.next (noteFarEnd_keeps (cw.le rfl) (linkLost_keeps (cw.le rfl) h2))
theorem execLinkRetrainRecovery_keeps {W : Nat} {r : State} {a1 s2} (cw : Covers W 0x800) (h2 : Keeps W r s2) : KeepsOut W r (execLinkRetrainRecovery a1 s2) := by
  delta execLinkRetrainRecovery
  extract_lets +onlyGivenNames v1
  exact KeepsOut.next (.ite (losePortResv_keeps (cw.le rfl) h2) h2)
theorem reachL0_keeps {W : Nat} {r : State} {s1 a2 a3 a4 a5 a6 a7 a8 a9 a10} (cw : Covers W 0xd1800003ffe000f28c043e0000000300000000040c000000480607e8c7b30003fff83a) (h1 : Keeps W r s1) : Keeps W r (reachL0 s1 a2 a3 a4 a5 a6 a7 a8 a9 a10) := by
  delta reachL0
  extract_lets +onlyGivenNames v1 v2 v3 v4 v5 v6
  have k7 : Keeps W r v6 := setObj_keeps (cw.le rfl) (setObj_keeps (cw.le rfl) (setObj_keeps (cw.le rfl) h1))
  clear_value v6
  extract_lets +onlyGivenNames v8
  have k9 : Keeps W r v8 := unfencePort_keeps (cw.le rfl) (setObj_keeps (cw.le rfl) k7)
  clear_value v8
  extract_lets +onlyGivenNames v10 v11
  have k12 : Keeps W r v11 := putPort_keeps (cw.le rfl) k9
  clear_value v11
  extract_lets +onlyGivenNames v13
  have k14 : Keeps W r v13 := .ite (record_keeps (cw.le rfl) k12) k12
  clear_value v13
  extract_lets +onlyGivenNames v15
  have k16 : Keeps W r v15 := resetCredits_keeps (cw.le rfl) k14
  clear_value v15
  extract_lets +onlyGivenNames v17 v18
  have k19 : Keeps W r v18 := putPort_keeps (cw.le rfl) k16
  clear_value v18
  extract_lets +onlyGivenNames v20
  have k21 : Keeps W r v20 := .ite (releasePins_keeps (cw.le rfl) k19) k19
  clear_value v20
  exact settle_keeps (cw.le rfl) (sendHeld_keeps (cw.le rfl) k21)
theorem execLinkReachesL0_keeps {W : Nat} {r : State} {a1 a2 a3 a4 a5 a6 a7 a8 a9 s10} (cw : Covers W 0xd1800003ffe000f28c043e0000000300000000040c000000480607e8c7b30003fff83a) (h10 : Keeps W r s10) : KeepsOut W r (execLinkReachesL0 a1 a2 a3 a4 a5 a6 a7 a8 a9 s10) := by
  delta execLinkReachesL0
  extract_lets +onlyGivenNames v1 v2 v3 v4
  exact KeepsOut.next (.ite (track_keeps (cw.le rfl) h10 (reachL0_keeps (cw.le rfl) h10)) h10)
theorem execPortFailed_keeps {W : Nat} {r : State} {a1 a2 a3 s4} (cw : Covers W 0x3fe00002000400000000000000000000000000000000000000000000000038) (h4 : Keeps W r s4) : KeepsOut W r (execPortFailed a1 a2 a3 s4) := by
  delta execPortFailed
  extract_lets +onlyGivenNames v1
  refine .ite ?_ (KeepsOut.next h4)
  extract_lets +onlyGivenNames v2
  have k3 : Keeps W r v2 := h4
  clear_value v2
  extract_lets +onlyGivenNames v4 v5
  have k6 : Keeps W r v5 := putPort_keeps (cw.le rfl) h4
  clear_value v5
  extract_lets +onlyGivenNames v7
  have k8 : Keeps W r v7 := record_keeps (cw.le rfl) k6
  clear_value v7
  exact KeepsOut.next (track_keeps (cw.le rfl) k3 k8)
theorem aerRecord_keeps {W : Nat} {r : State} {s1 a2 a3} (cw : Covers W 0x820) (h1 : Keeps W r s1) : Keeps W r (aerRecord s1 a2 a3) := by
  delta aerRecord
  extract_lets +onlyGivenNames v1
  have k2 : Keeps W r v1 := losePortResv_keeps (cw.le rfl) h1
  clear_value v1
  exact putPort_keeps (cw.le rfl) k2
theorem configAccess_keeps {W : Nat} {r : State} {s1 a2 a3 a4} (cw : Covers W 0x3fe000020c040000000000000000000000000000000000000000000000087a) (h1 : Keeps W r s1) : Keeps1 W r (configAccess s1 a2 a3 a4) := by
  delta configAccess
  refine .ite h1 ?_
  refine .ite ?_ (Keeps1.mk (.upd cw h1))
  extract_lets +onlyGivenNames v1 v2
  have k3 : Keeps W r v1 := bump_keeps (cw.le rfl) h1
  clear_value v1
  have k4 : Keeps W r v2 := record_keeps (cw.le rfl) k3
  clear_value v2
  exact Keeps1.mk (emit_keeps (cw.le rfl) (aerRecord_keeps (cw.le rfl) k4))
theorem configOp_keeps {W : Nat} {r : State} {s1 a2 a3 a4} (cw : Covers W 0xc0) (h1 : Keeps W r s1) : Keeps W r (configOp s1 a2 a3 a4) := by
  delta configOp
  split
  · exact h1
  · exact h1
  · extract_lets +onlyGivenNames v7
    have k8 : Keeps W r v7 := updAgent_keeps (cw.le rfl) h1
    clear_value v7
    split
    · exact .upd cw k8
    · exact k8
theorem execConfigRequest_keeps {W : Nat} {r : State} {a1 a2 a3 a4 s5} (cw : Covers W 0x3fe000020c04000000000000000000000000000000000000000000000008fa) (h5 : Keeps W r s5) : KeepsOut W r (execConfigRequest a1 a2 a3 a4 s5) := by
  delta execConfigRequest
  extract_lets +onlyGivenNames v1 v2
  refine KeepsOut.next ?_
  refine .ite h5 ?_
  extract_lets +onlyGivenNames v3
  have k4 : Keeps1 W r v3 := configAccess_keeps (cw.le rfl) h5
  clear_value v3
  exact .ite (emit_keeps (cw.le rfl) (configOp_keeps (cw.le rfl) (Keeps1.fst k4))) (Keeps1.fst k4)
theorem enroll_keeps {W : Nat} {r : State} {s1 a2} (cw : Covers W 0x80) (h1 : Keeps W r s1) : Keeps W r (enroll s1 a2) := by
  delta enroll
  refine .ite h1 ?_
  split
  · exact .upd cw h1
  · exact h1
theorem bindWindow_keeps {W : Nat} {r : State} {s1 a2} (cw : Covers W 0x800) (h1 : Keeps W r s1) : Keeps W r (bindWindow s1 a2) := by
  delta bindWindow
  refine .ite h1 ?_
  split
  · exact .upd cw h1
  · exact h1
theorem commitDecoder_keeps {W : Nat} {r : State} {s1 a2 a3 a4 a5 a6 a7 a8} (cw : Covers W 0x3fe000020004000000000000000000000000000000000000000000000008d8) (h1 : Keeps W r s1) : Keeps W r (commitDecoder s1 a2 a3 a4 a5 a6 a7 a8) := by
  delta commitDecoder
  extract_lets +onlyGivenNames v1 v2
  refine .ite ?_ ?_
  · extract_lets +onlyGivenNames v3 v4 v5
    have k6 : Keeps W r v3 := updAgent_keeps (cw.le rfl) h1
    clear_value v3
    have k7 : Keeps W r v4 := bump_keeps (cw.le rfl) k6
    clear_value v4
    have k8 : Keeps W r v5 := record_keeps (cw.le rfl) k7
    clear_value v5
    exact .ite (record_keeps (cw.le rfl) (bump_keeps (cw.le rfl) k8)) k8
  · split
    · exact updAgent_keeps (cw.le rfl) h1
    · extract_lets +onlyGivenNames v14 v15
      have k16 : Keeps W r v15 := updAgent_keeps (cw.le rfl) h1
      clear_value v15
      split
      · exact .ite (enroll_keeps (cw.le rfl) k16) k16
      · exact bindWindow_keeps (cw.le rfl) k16
      · exact k16
theorem execHdmDecoderCommit_keeps {W : Nat} {r : State} {a1 a2 a3 a4 a5 a6 a7 a8 s9} (cw : Covers W 0x3fe000020c04000000000000000000000000000000000000000000000008fa) (h9 : Keeps W r s9) : KeepsOut W r (execHdmDecoderCommit a1 a2 a3 a4 a5 a6 a7 a8 s9) := by
  delta execHdmDecoderCommit
  extract_lets +onlyGivenNames v1
  refine KeepsOut.next ?_
  refine .ite h9 ?_
  extract_lets +onlyGivenNames v2
  have k3 : Keeps1 W r v2 := configAccess_keeps (cw.le rfl) h9
  clear_value v2
  split
  · exact .ite (Keeps1.fst k3) (commitDecoder_keeps (cw.le rfl) (Keeps1.fst k3))
  · exact Keeps1.fst k3
theorem uncommitDecoder_keeps {W : Nat} {r : State} {s1 a2 a3 a4} (cw : Covers W 0xd1800003ffe000f28c041e0000000300000000040c0000007e0e07e8cfbfb80ffffcfb) (h1 : Keeps W r s1) : Keeps W r (uncommitDecoder s1 a2 a3 a4) := by
  delta uncommitDecoder
  refine .ite ?_ ?_
  · extract_lets +onlyGivenNames v1
    have k2 : Keeps W r v1 := updAgent_keeps (cw.le rfl) h1
    clear_value v1
    split
    · extract_lets +onlyGivenNames v3 v4 v5
      have k6 : Keeps W r v5 := .ite (.upd cw k2) k2
      clear_value v5
      exact settle_keeps (cw.le rfl) (recallAgent_keeps (cw.le rfl) k6)
    · exact updAgent_keeps (cw.le rfl) k2
  · extract_lets +onlyGivenNames v7
    have k8 : Keeps W r v7 := updAgent_keeps (cw.le rfl) h1
    clear_value v7
    exact .ite (unbindAgent_keeps (cw.le rfl) k8) k8
theorem execHdmDecoderUncommit_keeps {W : Nat} {r : State} {a1 a2 a3 s4} (cw : Covers W 0xd1800003ffe000f28c041e0000000300000000040c0000007e0e07e8cfbfb80ffffcfb) (h4 : Keeps W r s4) : KeepsOut W r (execHdmDecoderUncommit a1 a2 a3 s4) := by
  delta execHdmDecoderUncommit
  extract_lets +onlyGivenNames v1
  refine .ite (KeepsOut.next h4) ?_
  split
  · split
    · exact KeepsOut.next (.ite h4 (uncommitDecoder_keeps (cw.le rfl) h4))
    · exact KeepsOut.next h4
  · exact KeepsOut.next h4
theorem execGpfPhase1_keeps {W : Nat} {r : State} {a1 s2} (cw : Covers W 0xc0000000000000000000000000000000000000000000000000002) (h2 : Keeps W r s2) : KeepsOut W r (execGpfPhase1 a1 s2) := KeepsOut.next (.ite (emit_keeps (cw.le rfl) h2) h2)
theorem execGpfPhase2_keeps {W : Nat} {r : State} {a1 s2} (cw : Covers W 0xc0000000000000000000000000000000000000000000000000002) (h2 : Keeps W r s2) : KeepsOut W r (execGpfPhase2 a1 s2) := KeepsOut.next (.ite (emit_keeps (cw.le rfl) h2) h2)
theorem mailAnswer_keeps {W : Nat} {r : State} {a1 a2 a3 s4} (cw : Covers W 0xc0000000000000000000000000000000000000000000000000002) (h4 : Keeps W r s4) : Keeps W r (mailAnswer a1 a2 a3 s4) := .ite (emit_keeps (cw.le rfl) h4) h4
theorem execIdentifyMemoryDevice_keeps {W : Nat} {r : State} {a1 s2} (cw : Covers W 0xc0000000000000000000000000000000000000000000000000002) (h2 : Keeps W r s2) : KeepsOut W r (execIdentifyMemoryDevice a1 s2) := KeepsOut.next (mailAnswer_keeps (cw.le rfl) h2)
theorem execGetHealthInfo_keeps {W : Nat} {r : State} {a1 s2} (cw : Covers W 0xc0000000000000000000000000000000000000000000000000002) (h2 : Keeps W r s2) : KeepsOut W r (execGetHealthInfo a1 s2) := KeepsOut.next (mailAnswer_keeps (cw.le rfl) h2)
theorem execGetSupportedLogs_keeps {W : Nat} {r : State} {a1 s2} (cw : Covers W 0xc0000000000000000000000000000000000000000000000000002) (h2 : Keeps W r s2) : KeepsOut W r (execGetSupportedLogs a1 s2) := KeepsOut.next (mailAnswer_keeps (cw.le rfl) h2)
theorem execGetLog_keeps {W : Nat} {r : State} {a1 a2 s3} (cw : Covers W 0xc0000000000000000000000000000000000000000000000000002) (h3 : Keeps W r s3) : KeepsOut W r (execGetLog a1 a2 s3) := by
  delta execGetLog
  refine KeepsOut.next ?_
  split
  · exact mailAnswer_keeps (cw.le rfl) h3
  · exact mailAnswer_keeps (cw.le rfl) h3
theorem execGetFwInfo_keeps {W : Nat} {r : State} {a1 s2} (cw : Covers W 0xc0000000000000000000000000000000000000000000000000002) (h2 : Keeps W r s2) : KeepsOut W r (execGetFwInfo a1 s2) := KeepsOut.next (mailAnswer_keeps (cw.le rfl) h2)
theorem execGetTimestamp_keeps {W : Nat} {r : State} {a1 s2} (cw : Covers W 0xc0000000000000000000000000000000000000000000000000003) (h2 : Keeps W r s2) : KeepsOut W r (execGetTimestamp a1 s2) := by
  delta execGetTimestamp
  split
  · rename_i t1 x2 t3 e4
    have k5 : Keeps W r t3 := Keeps2.of_eq e4 (draw_keeps (cw.le rfl) h2)
    exact KeepsOut.next (mailAnswer_keeps (cw.le rfl) k5)
theorem execMailboxUnsupported_keeps {W : Nat} {r : State} {a1 a2 s3} (cw : Covers W 0xc0000000000000000000000000000000000000000000000000002) (h3 : Keeps W r s3) : KeepsOut W r (execMailboxUnsupported a1 a2 s3) := KeepsOut.next (.ite h3 (mailAnswer_keeps (cw.le rfl) h3))
theorem execUnsupportedRequest_keeps {W : Nat} {r : State} {a1 a2 s3} (cw : Covers W 0xc0000000000000000000000000000000000000000000000000822) (h3 : Keeps W r s3) : KeepsOut W r (execUnsupportedRequest a1 a2 s3) := by
  delta execUnsupportedRequest
  extract_lets +onlyGivenNames v1
  exact KeepsOut.next (.ite (emit_keeps (cw.le rfl) (aerRecord_keeps (cw.le rfl) h3)) h3)
theorem execCdatRead_keeps {W : Nat} {r : State} {a1 s2} (cw : Covers W 0xc0000000000000000000000000000000000000000000000000002) (h2 : Keeps W r s2) : KeepsOut W r (execCdatRead a1 s2) := by
  delta execCdatRead
  extract_lets +onlyGivenNames v1 v2
  exact KeepsOut.next (.ite (emit_keeps (cw.le rfl) h2) h2)
theorem execIdeKeyProgramming_keeps {W : Nat} {r : State} {a1 a2 a3 a4 s5} (cw : Covers W 0x28) (h5 : Keeps W r s5) : KeepsOut W r (execIdeKeyProgramming a1 a2 a3 a4 s5) := by
  delta execIdeKeyProgramming
  extract_lets +onlyGivenNames v1 v2
  refine .ite (KeepsOut.next h5) ?_
  extract_lets +onlyGivenNames v3
  exact .ite (.ite (KeepsOut.next (.ite h5 (setObj_keeps (cw.le rfl) h5))) (KeepsOut.next (putPort_keeps (cw.le rfl) h5))) (.ite (KeepsOut.next (putPort_keeps (cw.le rfl) h5)) (KeepsOut.next (.ite h5 (putPort_keeps (cw.le rfl) h5))))
theorem execIdeKeySwitch_keeps {W : Nat} {r : State} {a1 a2 s3} (cw : Covers W 0x28) (h3 : Keeps W r s3) : KeepsOut W r (execIdeKeySwitch a1 a2 s3) := by
  delta execIdeKeySwitch
  extract_lets +onlyGivenNames v1 v2
  exact .ite (KeepsOut.next (.ite (putPort_keeps (cw.le rfl) (setObj_keeps (cw.le rfl) h3)) h3)) (KeepsOut.next (.ite (putPort_keeps (cw.le rfl) h3) h3))
theorem ideFailed_keeps {W : Nat} {r : State} {s1 a2 a3 a4 a5} (cw : Covers W 0x3fe00002000400000000000000000000000000000000000000000000000838) (h1 : Keeps W r s1) : Keeps W r (ideFailed s1 a2 a3 a4 a5) := by
  delta ideFailed
  extract_lets +onlyGivenNames v1
  have k2 : Keeps W r v1 := aerRecord_keeps (cw.le rfl) h1
  clear_value v1
  exact record_keeps (cw.le rfl) (bump_keeps (cw.le rfl) k2)
theorem execIdeMacFailContain_keeps {W : Nat} {r : State} {a1 a2 a3 s4} (cw : Covers W 0xd1900003ffe000f28c041e0000000300000000040c0000007e0e07e8cfbfb80ffffcfb) (h4 : Keeps W r s4) : KeepsOut W r (execIdeMacFailContain a1 a2 a3 s4) := by
  delta execIdeMacFailContain
  extract_lets +onlyGivenNames v1 v2
  refine .ite ?_ (KeepsOut.next h4)
  extract_lets +onlyGivenNames v3
  have k4 : Keeps W r v3 := h4
  clear_value v3
  extract_lets +onlyGivenNames v5
  have k6 : Keeps W r v5 := ideFailed_keeps (cw.le rfl) h4
  clear_value v5
  extract_lets +onlyGivenNames v7
  have k8 : Keeps W r v7 := fencePort_keeps (cw.le rfl) (raiseViral_keeps (cw.le rfl) k6)
  clear_value v7
  exact KeepsOut.next (track_keeps (cw.le rfl) k4 (settle_keeps (cw.le rfl) (recallPort_keeps (cw.le rfl) (silencePort_keeps (cw.le rfl) k8))))
theorem execIdeMacFailSkid_keeps {W : Nat} {r : State} {a1 a2 s3} (cw : Covers W 0xd1900003ffe200f28c041e100000030000000004fc0000007e0e07e8cfbfb80ffffcfe) (h3 : Keeps W r s3) : KeepsOut W r (execIdeMacFailSkid a1 a2 s3) := by
  delta execIdeMacFailSkid
  extract_lets +onlyGivenNames v1
  exact .ite (KeepsOut.next (haltIntegrity_keeps (cw.le rfl) (ideFailed_keeps (cw.le rfl) h3))) (KeepsOut.next h3)
theorem execIdeKeySetupFail_keeps {W : Nat} {r : State} {a1 a2 s3} (cw : Covers W 0x3fe00002000400000000000000000000000000000000000000000000000838) (h3 : Keeps W r s3) : KeepsOut W r (execIdeKeySetupFail a1 a2 s3) := by
  delta execIdeKeySetupFail
  extract_lets +onlyGivenNames v1
  exact KeepsOut.next (.ite (ideFailed_keeps (cw.le rfl) h3) h3)
theorem execViralRx_keeps {W : Nat} {r : State} {a1 s2} (cw : Covers W 0xd1900003ffe000f28c041e0000000300000000040c0000007e0e07e8cfbfb80ffffcfb) (h2 : Keeps W r s2) : KeepsOut W r (execViralRx a1 s2) := by
  delta execViralRx
  extract_lets +onlyGivenNames v1
  refine .ite ?_ (KeepsOut.next h2)
  extract_lets +onlyGivenNames v2
  have k3 : Keeps W r v2 := h2
  clear_value v2
  extract_lets +onlyGivenNames v4
  have k5 : Keeps W r v4 := fencePort_keeps (cw.le rfl) (raiseViral_keeps (cw.le rfl) (bump_keeps (cw.le rfl) h2))
  clear_value v4
  exact KeepsOut.next (track_keeps (cw.le rfl) k3 (settle_keeps (cw.le rfl) (recallPort_keeps (cw.le rfl) (silencePort_keeps (cw.le rfl) k5))))
theorem portEnableRule_keeps {W : Nat} {r : State} {a1 a2 s3} (cw : Covers W 0x8) (h3 : Keeps W r s3) : Keeps1 W r (portEnableRule a1 a2 s3) := by
  delta portEnableRule
  extract_lets +onlyGivenNames v1 v2 v3 v4
  have k5 : Keeps W r v4 := h3
  clear_value v4
  extract_lets +onlyGivenNames v6
  have k7 : Keeps W r v6 := setObj_keeps (cw.le rfl) h3
  clear_value v6
  extract_lets +onlyGivenNames v8
  have k9 : Keeps W r v8 := .ite (.ite (setObj_keeps (cw.le rfl) k7) (.ite (setObj_keeps (cw.le rfl) k7) k7)) (.ite (.ite (startTraining_keeps (cw.le rfl) (setObj_keeps (cw.le rfl) k7)) (setObj_keeps (cw.le rfl) k7)) (.ite (setObj_keeps (cw.le rfl) k7) k7))
  clear_value v8
  exact Keeps1.mk (track_keeps (cw.le rfl) k5 k9)
theorem execPortEnable_keeps {W : Nat} {r : State} {a1 a2 s3} (cw : Covers W 0x200000000000000000c840000000000000000000000000000000000000000000000000a) (h3 : Keeps W r s3) : KeepsOut W r (execPortEnable a1 a2 s3) := KeepsOut.next (kdpObject_keeps (cw.le rfl) (fun _ _ _ k4 => portEnableRule_keeps (cw.le rfl) k4) h3)
theorem bifurcateRule_keeps {W : Nat} {r : State} {a1 a2 s3} (cw : Covers W 0x8) (h3 : Keeps W r s3) : Keeps1 W r (bifurcateRule a1 a2 s3) := by
  delta bifurcateRule
  extract_lets +onlyGivenNames v1 v2
  exact .ite (Keeps1.mk h3) (Keeps1.mk (setObj_keeps (cw.le rfl) h3))
theorem execPortBifurcate_keeps {W : Nat} {r : State} {a1 a2 s3} (cw : Covers W 0x200000000000000000c840000000000000000000000000000000000000000000000000a) (h3 : Keeps W r s3) : KeepsOut W r (execPortBifurcate a1 a2 s3) := KeepsOut.next (kdpObject_keeps (cw.le rfl) (fun _ _ _ k4 => bifurcateRule_keeps (cw.le rfl) k4) h3)
theorem execPortShutdownDone_keeps {W : Nat} {r : State} {a1 s2} (cw : Covers W 0x1d1900033ffe000f28e041e0000000300000000040c0000007e0e07e8cfbfb80ffffcfb) (h2 : Keeps W r s2) : KeepsOut W r (execPortShutdownDone a1 s2) := by
  delta execPortShutdownDone
  extract_lets +onlyGivenNames v1 v2 v3
  refine .ite ?_ (KeepsOut.next h2)
  extract_lets +onlyGivenNames v4
  have k5 : Keeps W r v4 := h2
  clear_value v4
  extract_lets +onlyGivenNames v6
  have k7 : Keeps W r v6 := resetPort_keeps (cw.le rfl) h2
  clear_value v6
  extract_lets +onlyGivenNames v8 v9
  have k10 : Keeps W r v9 := putPort_keeps (cw.le rfl) k7
  clear_value v9
  extract_lets +onlyGivenNames v11
  have k12 : Keeps W r v11 := .ite (setObj_keeps (cw.le rfl) k10) k10
  clear_value v11
  exact KeepsOut.next (track_keeps (cw.le rfl) k5 k12)
theorem portOffDone_keeps {W : Nat} {r : State} {s1 a2} (cw : Covers W 0x28) (h1 : Keeps W r s1) : Keeps W r (portOffDone s1 a2) := by
  delta portOffDone
  refine .ite h1 ?_
  extract_lets +onlyGivenNames v1
  have k2 : Keeps W r v1 := h1
  clear_value v1
  extract_lets +onlyGivenNames v3 v4
  have k5 : Keeps W r v4 := putPort_keeps (cw.le rfl) h1
  clear_value v4
  extract_lets +onlyGivenNames v6
  have k7 : Keeps W r v6 := .ite (startTraining_keeps (cw.le rfl) (setObj_keeps (cw.le rfl) k5)) k5
  clear_value v6
  exact track_keeps (cw.le rfl) k2 k7
theorem execRwdCreditPace_keeps {W : Nat} {r : State} {a1 s2} (cw : Covers W 0x20) (h2 : Keeps W r s2) : KeepsOut W r (execRwdCreditPace a1 s2) := by
  delta execRwdCreditPace
  extract_lets +onlyGivenNames v1
  exact KeepsOut.next (.ite (grantCredits_keeps (cw.le rfl) (putPort_keeps (cw.le rfl) h2)) h2)
theorem drawKey_keeps {W : Nat} {r : State} {s1} (cw : Covers W 0x18000000000000000000000000001) (h1 : Keeps W r s1) : Keeps2 W r (drawKey s1) := by
  delta drawKey
  split
  · rename_i t1 x2 t3 e4
    have k5 : Keeps W r t3 := Keeps2.of_eq e4 (draw_keeps (cw.le rfl) h1)
    extract_lets +onlyGivenNames v6
    exact Keeps2.mk (.upd cw k5)
theorem destroyKey_keeps {W : Nat} {r : State} {s1 a2} (cw : Covers W 0x8000000000000000000000000000) (h1 : Keeps W r s1) : Keeps W r (destroyKey s1 a2) := by
  delta destroyKey
  split
  · exact .upd cw h1
  · exact h1
theorem putDom_keeps {W : Nat} {r : State} {s1 a2 a3} (cw : Covers W 0x4000000000000000000000000000) (h1 : Keeps W r s1) : Keeps W r (putDom s1 a2 a3) := .upd cw h1
theorem createDomain_keeps {W : Nat} {r : State} {s1 a2} (cw : Covers W 0x80000000000000f080000000000000000000000001c000000000000000000000000009) (h1 : Keeps W r s1) : Keeps W r (createDomain s1 a2) := by
  delta createDomain
  split
  · rename_i t1 x2 t3 e4
    have k5 : Keeps W r t3 := Keeps2.of_eq e4 (drawKey_keeps (cw.le rfl) h1)
    extract_lets +onlyGivenNames v6
    have k7 : Keeps W r v6 := setR_keeps (cw.le rfl) (putDom_keeps (cw.le rfl) k5)
    clear_value v6
    exact syncRecs_keeps (cw.le rfl) (setR_keeps (cw.le rfl) k7)
theorem putRegion_keeps {W : Nat} {r : State} {s1 a2 a3} (cw : Covers W 0x800000003fe100f280040000000000000000000001c000000000000000000804000119) (h1 : Keeps W r s1) : Keeps W r (putRegion s1 a2 a3) := by
  delta putRegion
  extract_lets +onlyGivenNames v1 v2 v3 v4 v5
  have k6 : Keeps W r v3 := .upd cw h1
  have k7 : Keeps W r v4 := .ite (createDomain_keeps (cw.le rfl) k6) k6
  clear_value v4
  extract_lets +onlyGivenNames v8
  have k9 : Keeps W r v8 := .ite (hcDrop_keeps (cw.le rfl) k7) (staleRisk_keeps (cw.le rfl) k7)
  clear_value v8
  exact record_keeps (cw.le rfl) (configChanged_keeps (cw.le rfl) k9)
theorem refuseRegion_keeps {W : Nat} {r : State} {s1 a2 a3 a4} (cw : Covers W 0x3fe00002000400000000000000000000000000000000000000000000000018) (h1 : Keeps W r s1) : Keeps W r (refuseRegion s1 a2 a3 a4) := record_keeps (cw.le rfl) h1
theorem regionApply_keeps {W : Nat} {r : State} {a1 a2 s3} (cw : Covers W 0x800000003fe100f280040000000000000000000001c000000000000000000804000319) (h3 : Keeps W r s3) : Keeps1 W r (regionApply a1 a2 s3) := by
  delta regionApply
  extract_lets +onlyGivenNames v1 v2
  split
  · exact .ite (Keeps1.mk (refuseRegion_keeps (cw.le rfl) h3)) (.ite (Keeps1.mk (.upd cw h3)) (Keeps1.mk (putRegion_keeps (cw.le rfl) h3)))
theorem regionApplyEffect_keeps {W : Nat} {r : State} {a1 a2 s3} (cw : Covers W 0x800000003fe100f282040000000000000000000001c000000000000000000804000319) (h3 : Keeps W r s3) : Keeps1 W r (regionApplyEffect a1 a2 s3) := runCommand_keeps (cw.le rfl) (fun _ _ _ k4 => regionApply_keeps (cw.le rfl) k4) h3
theorem execRegionApply_keeps {W : Nat} {r : State} {a1 a2 s3} (cw : Covers W 0x2800000003fe100f28e840000000000000000000001c00000000000000000080400031b) (h3 : Keeps W r s3) : KeepsOut W r (execRegionApply a1 a2 s3) := KeepsOut.next (kdpObject_keeps (cw.le rfl) (fun _ _ _ k4 => regionApplyEffect_keeps (cw.le rfl) k4) h3)
theorem execRegionApplyDrainDone_keeps {W : Nat} {r : State} {a1 s2} (cw : Covers W 0x800000003fe100f282040000000000000000000001c000000000000000000804000319) (h2 : Keeps W r s2) : KeepsOut W r (execRegionApplyDrainDone a1 s2) := by
  delta execRegionApplyDrainDone
  extract_lets +onlyGivenNames v1
  refine KeepsOut.next ?_
  split
  · extract_lets +onlyGivenNames v2 v3
    refine .ite ?_ ?_
    · refine endRun_keeps (cw.le rfl) ?_
      refine refuseRegion_keeps (cw.le rfl) ?_
      unfold v3
      exact .upd cw h2
    · refine .ite ?_ h2
      refine endRun_keeps (cw.le rfl) ?_
      refine putRegion_keeps (cw.le rfl) ?_
      unfold v3
      exact .upd cw h2
  · exact h2
theorem cwValueWrite_keeps {W : Nat} {r : State} {a1 a2 a3 a4 a5 a6 a7 s8} (cw : Covers W 0xf1900023ffe600f38c041e10c000030000000007fc0010037e0e37e9ffffb97ffffcff) (h8 : Keeps W r s8) : Keeps W r (cwValueWrite a1 a2 a3 a4 a5 a6 a7 s8) := cwArrive_keeps (cw.le rfl) h8
theorem execDrainBarrier_keeps {W : Nat} {r : State} {a1 a2 a3 a4 a5 s6} (cw : Covers W 0xf1900023ffe600f38c041e10c000030000000007fc0010037e0e37e9ffffb97ffffcff) (h6 : Keeps W r s6) : KeepsOut W r (execDrainBarrier a1 a2 a3 a4 a5 s6) := KeepsOut.next (cwValueWrite_keeps (cw.le rfl) h6)
theorem execMirrorBarrier_keeps {W : Nat} {r : State} {a1 a2 a3 a4 a5 s6} (cw : Covers W 0xf1900023ffe600f38c041e10c000030000000007fc0010037e0e37e9ffffb97ffffcff) (h6 : Keeps W r s6) : KeepsOut W r (execMirrorBarrier a1 a2 a3 a4 a5 s6) := KeepsOut.next (cwValueWrite_keeps (cw.le rfl) h6)
theorem execResvAddr_keeps {W : Nat} {r : State} {a1 a2 a3 a4 a5 s6} (cw : Covers W 0xf1900023ffe600f38c041e10c000030000000007fc0010037e0e37e9ffffb97ffffcff) (h6 : Keeps W r s6) : KeepsOut W r (execResvAddr a1 a2 a3 a4 a5 s6) := KeepsOut.next (cwValueWrite_keeps (cw.le rfl) h6)
theorem execResvLoad_keeps {W : Nat} {r : State} {a1 a2 a3 a4 s5} (cw : Covers W 0xf1900023ffe600f38c041e10c000030000000007fc0010037e0e37e9ffffb97ffffcff) (h5 : Keeps W r s5) : KeepsOut W r (execResvLoad a1 a2 a3 a4 s5) := KeepsOut.next (cwArrive_keeps (cw.le rfl) h5)
theorem execResvStore_keeps {W : Nat} {r : State} {a1 a2 a3 a4 a5 a6 s7} (cw : Covers W 0xf1900023ffe600f38c041e10c000030000000007fc0010037e0e37e9ffffb97ffffcff) (h7 : Keeps W r s7) : KeepsOut W r (execResvStore a1 a2 a3 a4 a5 a6 s7) := KeepsOut.next (cwValueWrite_keeps (cw.le rfl) h7)
theorem execDiscardGo_keeps {W : Nat} {r : State} {a1 a2 a3 a4 a5 s6} (cw : Covers W 0xf1900023ffe600f38c041e10c000030000000007fc0010037e0e37e9ffffb97ffffcff) (h6 : Keeps W r s6) : KeepsOut W r (execDiscardGo a1 a2 a3 a4 a5 s6) := KeepsOut.next (cwValueWrite_keeps (cw.le rfl) h6)
theorem execCwWrite_keeps {W : Nat} {r : State} {a1 a2 a3 a4 a5 a6 s7} (cw : Covers W 0xf1900023ffe600f38c041e10c000030000000007fc0010037e0e37e9ffffb97ffffcff) (h7 : Keeps W r s7) : KeepsOut W r (execCwWrite a1 a2 a3 a4 a5 a6 s7) := KeepsOut.next (cwArrive_keeps (cw.le rfl) h7)
theorem execBarrierHoldTimeout_keeps {W : Nat} {r : State} {a1 a2 a3 s4} (cw : Covers W 0x3ffe000020c040000000000000000000000000000400000000000000000083a) (h4 : Keeps W r s4) : KeepsOut W r (execBarrierHoldTimeout a1 a2 a3 s4) := by
  delta execBarrierHoldTimeout
  extract_lets +onlyGivenNames v1 v2 v3
  refine .ite ?_ (KeepsOut.next h4)
  extract_lets +onlyGivenNames v4
  have k5 : Keeps W r v4 := updWin_keeps (cw.le rfl) h4
  clear_value v4
  exact KeepsOut.next (countPath_keeps (cw.le rfl) (respondNdr_keeps (cw.le rfl) k5))
theorem execReservationExpiry_keeps {W : Nat} {r : State} {a1 s2} (cw : Covers W 0x800) (h2 : Keeps W r s2) : KeepsOut W r (execReservationExpiry a1 s2) := KeepsOut.next (loseResv_keeps (cw.le rfl) h2)
theorem cancelDescs_keeps {W : Nat} {r : State} {s1 a2} (cw : Covers W 0x2000000000000) (h1 : Keeps W r s1) : Keeps W r (cancelDescs s1 a2) := setLighters_keeps (cw.le rfl) h1
theorem discardPage_keeps {W : Nat} {r : State} {s1 a2} (cw : Covers W 0xd1800003ffe000f28c041e0000000300000000040c0000007e0e07e8c7bfb80ffffcfb) (h1 : Keeps W r s1) : Keeps W r (discardPage s1 a2) := by
  delta discardPage
  split
  · exact h1
  · refine .ite h1 ?_
    extract_lets +onlyGivenNames v1 v2 v3 v4
    have k5 : Keeps W r v4 := updDiscard_keeps (cw.le rfl) h1
    clear_value v4
    extract_lets +onlyGivenNames v6 v7
    have k8 : Keeps W r v7 := cancelDescs_keeps (cw.le rfl) (.upd cw k5)
    clear_value v7
    refine settle_keeps (cw.le rfl) ?_
    refine .foldl k8 ?_
    intro _ _ k11
    split
    · rename_i t12 t13 x14 e15
      have k16 : Keeps W r t13 := Keeps1.of_eq e15 (numberAcc_keeps (cw.le rfl) k11)
      exact enterTable_keeps (cw.le rfl) k16
theorem execDiscardPage_keeps {W : Nat} {r : State} {a1 s2} (cw : Covers W 0xd1800003ffe000f28c041e0000000300000000040c0000007e0e07e8c7bfb80ffffcfb) (h2 : Keeps W r s2) : KeepsOut W r (execDiscardPage a1 s2) := KeepsOut.next (discardPage_keeps (cw.le rfl) h2)
theorem storeConfig_keeps {W : Nat} {r : State} {s1 a2 a3 a4} (cw : Covers W 0x80000000000100f0800000000000000000000000000000000000000000000000000008) (h1 : Keeps W r s1) : Keeps W r (storeConfig s1 a2 a3 a4) := configChanged_keeps (cw.le rfl) (setObj_keeps (cw.le rfl) h1)
theorem hcEnableRule_keeps {W : Nat} {r : State} {a1 a2 s3} (cw : Covers W 0x80000000000100f0800000000000000000000000000000000000000000000000000008) (h3 : Keeps W r s3) : Keeps1 W r (hcEnableRule a1 a2 s3) := .ite (Keeps1.mk h3) (Keeps1.mk (storeConfig_keeps (cw.le rfl) h3))
theorem execHcEnable_keeps {W : Nat} {r : State} {a1 a2 s3} (cw : Covers W 0x280000000000100f08c840000000000000000000000000000000000000000000000000a) (h3 : Keeps W r s3) : KeepsOut W r (execHcEnable a1 a2 s3) := KeepsOut.next (kdpObject_keeps (cw.le rfl) (fun _ _ _ k4 => hcEnableRule_keeps (cw.le rfl) k4) h3)
theorem hcInvalidateEffect_keeps {W : Nat} {r : State} {a1 a2 s3} (cw : Covers W 0x20000000000000000000000000000000000000000000200000000) (h3 : Keeps W r s3) : Keeps1 W r (hcInvalidateEffect a1 a2 s3) := runCommand_keeps (cw.le rfl) (fun _ _ _ k4 => Keeps1.mk (.upd cw k4)) h3
theorem execHcInvalidate_keeps {W : Nat} {r : State} {a1 a2 s3} (cw : Covers W 0x200000000000000000e840000000000000000000000000000000000000000020000000a) (h3 : Keeps W r s3) : KeepsOut W r (execHcInvalidate a1 a2 s3) := KeepsOut.next (kdpObject_keeps (cw.le rfl) (fun _ _ _ k4 => hcInvalidateEffect_keeps (cw.le rfl) k4) h3)
theorem execHcInvalidateDone_keeps {W : Nat} {r : State} {s1} (cw : Covers W 0x20000000000000000000000000000000000000000000a04000008) (h1 : Keeps W r s1) : KeepsOut W r (execHcInvalidateDone s1) := KeepsOut.next (.ite (endRun_keeps (cw.le rfl) (setR_keeps (cw.le rfl) (.upd cw h1))) h1)
theorem hcEnableForceEffect_keeps {W : Nat} {r : State} {a1 a2 s3} (cw : Covers W 0x800000003fe100f2820400000000000000000000000000000000000000000000000018) (h3 : Keeps W r s3) : Keeps1 W r (hcEnableForceEffect a1 a2 s3) := runCommand_keeps (cw.le rfl) (fun _ _ _ k4 => Keeps1.mk (record_keeps (cw.le rfl) (storeConfig_keeps (cw.le rfl) k4))) h3
theorem execHcEnableForce_keeps {W : Nat} {r : State} {a1 a2 s3} (cw : Covers W 0x2800000003fe100f28e840000000000000000000000000000000000000000000000001a) (h3 : Keeps W r s3) : KeepsOut W r (execHcEnableForce a1 a2 s3) := KeepsOut.next (kdpObject_keeps (cw.le rfl) (fun _ _ _ k4 => hcEnableForceEffect_keeps (cw.le rfl) k4) h3)
theorem wayReenable_keeps {W : Nat} {r : State} {a1 s2} (cw : Covers W 0x30000008) (h2 : Keeps W r s2) : Keeps1 W r (wayReenable a1 s2) := by
  delta wayReenable
  extract_lets +onlyGivenNames v1 v2
  refine .ite ?_ (Keeps1.mk h2)
  extract_lets +onlyGivenNames v3
  have k4 : Keeps W r v3 := setR_keeps (cw.le rfl) h2
  clear_value v3
  exact Keeps1.mk (.upd cw k4)
theorem hcWayReenableEffect_keeps {W : Nat} {r : State} {a1 a2 s3} (cw : Covers W 0x20000000000000000000000000000000000000000000030000008) (h3 : Keeps W r s3) : Keeps1 W r (hcWayReenableEffect a1 a2 s3) := by
  delta hcWayReenableEffect
  refine runCommand_keeps (cw.le rfl) ?_ h3
  intro _ _ _ k4
  split
  · rename_i t5 t6 x7 e8
    have k9 : Keeps W r t6 := Keeps1.of_eq e8 (wayReenable_keeps (cw.le rfl) k4)
    exact Keeps1.mk (track_keeps (cw.le rfl) k4 k9)
theorem execHcWayReenable_keeps {W : Nat} {r : State} {a1 a2 s3} (cw : Covers W 0x200000000000000000e840000000000000000000000000000000000000000003000000a) (h3 : Keeps W r s3) : KeepsOut W r (execHcWayReenable a1 a2 s3) := KeepsOut.next (kdpObject_keeps (cw.le rfl) (fun _ _ _ k4 => hcWayReenableEffect_keeps (cw.le rfl) k4) h3)
theorem execBerthWayCopyDone_keeps {W : Nat} {r : State} {a1 s2} (cw : Covers W 0x3fe000020004000000000000000000000000000000000000000009a4000018) (h2 : Keeps W r s2) : KeepsOut W r (execBerthWayCopyDone a1 s2) := by
  delta execBerthWayCopyDone
  extract_lets +onlyGivenNames v1
  refine KeepsOut.next ?_
  split
  · extract_lets +onlyGivenNames v2 v3 v4
    have k5 : Keeps W r v4 := .upd cw h2
    clear_value v4
    exact disableWay_keeps (cw.le rfl) k5
  · exact h2
theorem prefetchIn_keeps {W : Nat} {r : State} {s1 a2} (cw : Covers W 0x800000008) (h1 : Keeps W r s1) : Keeps W r (prefetchIn s1 a2) := by
  delta prefetchIn
  split
  · exact .ite h1 (pbufPut_keeps (cw.le rfl) h1)
  · exact h1
theorem execPrefetchFill_keeps {W : Nat} {r : State} {a1 a2 s3} (cw : Covers W 0x200000000000800000008) (h3 : Keeps W r s3) : KeepsOut W r (execPrefetchFill a1 a2 s3) := by
  delta execPrefetchFill
  refine KeepsOut.next ?_
  split
  · extract_lets +onlyGivenNames v4 v5
    extract_lets +onlyGivenNames v6
    have k7 : Keeps W r v6 := .upd cw h3
    clear_value v6
    split
    · exact .ite k7 (.ite (prefetchIn_keeps (cw.le rfl) k7) (.ite k7 (putRead_keeps (cw.le rfl) h3)))
    · exact k7
  · exact h3
theorem startGrow_keeps {W : Nat} {r : State} {s1 a2} (cw : Covers W 0xc84000000) (h1 : Keeps W r s1) : Keeps W r (startGrow s1 a2) := by
  delta startGrow
  extract_lets +onlyGivenNames v1
  have k2 : Keeps W r v1 := by
    unfold v1
    refine .foldl h1 ?_
    intro _ _ k5
    extract_lets +onlyGivenNames v6 v7
    have k8 : Keeps W r v7 := .foldl k5 (fun _ _ k11 => dropWay_keeps (cw.le rfl) k11)
    clear_value v7
    exact .upd cw k8
  clear_value v1
  exact .upd cw k2
theorem berthMemWf_filter {m : AMap BerthLine} (h : berthMemWf m = true) (f : Nat × BerthLine → Bool) : berthMemWf (m.filter f) = true := by
  simp only [berthMemWf, Bool.and_eq_true] at h ⊢
  exact ⟨AMap.wf_filter h.1 f, AMap.all_filter h.2 f⟩
theorem shrinkBerth_keeps {W : Nat} {r s : State} {v} (cw : Covers W 0x80000000000000f080000000000000000000000000000000000000000000a080000008) (h : Keeps W r s) : Keeps W r (shrinkBerth s v) := by
  delta shrinkBerth
  extract_lets +onlyGivenNames s1 size c2 s2 s3
  have h1 : Keeps W r s1 := .foldl h fun _ _ k => .upd cw k
  have h2 : Keeps W r s2 := .hc cw h1 (berthMemWf_filter · _)
  have h3 : Keeps W r s3 := updMirror_keeps (cw.le rfl) h2
  exact syncRec_keeps (cw.le rfl) (setR_keeps (cw.le rfl) (setR_keeps (cw.le rfl) h3))
theorem berthWaysRule_keeps {W : Nat} {r : State} {a1 a2 s3} (cw : Covers W 0x80000000000000f080000000000000000000000000000000000000000000ac84000008) (h3 : Keeps W r s3) : Keeps1 W r (berthWaysRule a1 a2 s3) := by
  delta berthWaysRule
  extract_lets +onlyGivenNames v1 v2
  exact .ite (Keeps1.mk h3) (.ite (.ite (Keeps1.mk h3) (Keeps1.mk (syncRec_keeps (cw.le rfl) (startGrow_keeps (cw.le rfl) (setR_keeps (cw.le rfl) h3))))) (.ite (.ite (Keeps1.mk h3) (Keeps1.mk (shrinkBerth_keeps (cw.le rfl) (setR_keeps (cw.le rfl) h3)))) (Keeps1.mk (setR_keeps (cw.le rfl) h3))))
theorem execBerthWays_keeps {W : Nat} {r : State} {a1 a2 s3} (cw : Covers W 0x280000000000000f08c840000000000000000000000000000000000000000ac8400000a) (h3 : Keeps W r s3) : KeepsOut W r (execBerthWays a1 a2 s3) := KeepsOut.next (kdpObject_keeps (cw.le rfl) (fun _ _ _ k4 => berthWaysRule_keeps (cw.le rfl) k4) h3)
theorem execBerthGrowDone_keeps {W : Nat} {r : State} {s1} (cw : Covers W 0x80000000000000f0800000000000000000000000000000000000000000000400000008) (h1 : Keeps W r s1) : KeepsOut W r (execBerthGrowDone s1) := by
  delta execBerthGrowDone
  refine KeepsOut.next ?_
  split
  · extract_lets +onlyGivenNames v1 v2
    have k3 : Keeps W r v2 := .upd cw h1
    clear_value v2
    exact syncRec_keeps (cw.le rfl) (setR_keeps (cw.le rfl) (setR_keeps (cw.le rfl) k3))
  · exact h1
theorem berthApply_keeps {W : Nat} {r : State} {a1 a2 s3} (cw : Covers W 0x80000000000100f0800000000000000000000000000000000000000000004000000008) (h3 : Keeps W r s3) : Keeps1 W r (berthApply a1 a2 s3) := by
  delta berthApply
  extract_lets +onlyGivenNames v1 v2 v3 v4 v5
  refine .ite (Keeps1.mk h3) ?_
  refine .ite (Keeps1.mk h3) ?_
  extract_lets +onlyGivenNames v6 v7
  have k8 : Keeps W r v7 := .upd cw h3
  clear_value v7
  exact Keeps1.mk (syncRec_keeps (cw.le rfl) (configChanged_keeps (cw.le rfl) k8))
theorem berthRangeApplyEffect_keeps {W : Nat} {r : State} {a1 a2 s3} (cw : Covers W 0x80000000000100f0820000000000000000000000000000000000000000004000000008) (h3 : Keeps W r s3) : Keeps1 W r (berthRangeApplyEffect a1 a2 s3) := runCommand_keeps (cw.le rfl) (fun _ _ _ k4 => berthApply_keeps (cw.le rfl) k4) h3
theorem execBerthRangeApply_keeps {W : Nat} {r : State} {a1 a2 s3} (cw : Covers W 0x280000000000100f08e840000000000000000000000000000000000000000400000000a) (h3 : Keeps W r s3) : KeepsOut W r (execBerthRangeApply a1 a2 s3) := KeepsOut.next (kdpObject_keeps (cw.le rfl) (fun _ _ _ k4 => berthRangeApplyEffect_keeps (cw.le rfl) k4) h3)
theorem berthPromote_keeps {W : Nat} {r : State} {s1} (cw : Covers W 0x80000000000100f0800000000000000000000000000000000000000000004000000008) (h1 : Keeps W r s1) : Keeps1 W r (berthPromote s1) := by
  delta berthPromote
  refine .ite ?_ h1
  extract_lets +onlyGivenNames v1 v2 v3
  have k4 : Keeps W r v3 := .upd cw h1
  clear_value v3
  extract_lets +onlyGivenNames v5
  have k6 : Keeps W r v5 := .ite k4 (setMirState_keeps (cw.le rfl) k4)
  clear_value v5
  exact Keeps1.mk (syncRec_keeps (cw.le rfl) (configChanged_keeps (cw.le rfl) (bumpR_keeps (cw.le rfl) k6)))
theorem berthPromoteEffect_keeps {W : Nat} {r : State} {a1 a2 s3} (cw : Covers W 0x80000000000100f0820000000000000000000000000000000000000000004000000008) (h3 : Keeps W r s3) : Keeps1 W r (berthPromoteEffect a1 a2 s3) := runCommand_keeps (cw.le rfl) (fun _ _ _ k4 => berthPromote_keeps (cw.le rfl) k4) h3
theorem execBerthPromote_keeps {W : Nat} {r : State} {a1 a2 s3} (cw : Covers W 0x280000000000100f08e840000000000000000000000000000000000000000400000000a) (h3 : Keeps W r s3) : KeepsOut W r (execBerthPromote a1 a2 s3) := KeepsOut.next (kdpObject_keeps (cw.le rfl) (fun _ _ _ k4 => berthPromoteEffect_keeps (cw.le rfl) k4) h3)
theorem openMirror_keeps {W : Nat} {r : State} {s1} (cw : Covers W 0xc000000000000000000000000000000000000000000800000000b) (h1 : Keeps W r s1) : Keeps W r (openMirror s1) := by
  delta openMirror
  extract_lets +onlyGivenNames v1
  refine .ite (setR_keeps (cw.le rfl) h1) ?_
  split
  rename_i t2 t3 t4 t5
  have k6 : Keeps W r t4 := Keeps2.of_eq t5 (draw_keeps (cw.le rfl) h1)
  extract_lets +onlyGivenNames v7
  have k8 : Keeps W r v7 := updMirror_keeps (cw.le rfl) k6
  clear_value v7
  exact emit_keeps (cw.le rfl) k8
theorem mirrorConnect_keeps {W : Nat} {r : State} {s1} (cw : Covers W 0xc000000000000000000000000000000000000000000800000000b) (h1 : Keeps W r s1) : Keeps W r (mirrorConnect s1) := by
  delta mirrorConnect
  extract_lets +onlyGivenNames v1
  have k2 : Keeps W r v1 := updMirror_keeps (cw.le rfl) h1
  clear_value v1
  exact .ite (openMirror_keeps (cw.le rfl) (setMirState_keeps (cw.le rfl) k2)) (setMirState_keeps (cw.le rfl) k2)
theorem mirrorEnableRule_keeps {W : Nat} {r : State} {a1 a2 s3} (cw : Covers W 0xd1800003ffe100f28c041e0000000300000000040c000000480607e8c7b3a00000383b) (h3 : Keeps W r s3) : Keeps1 W r (mirrorEnableRule a1 a2 s3) := by
  delta mirrorEnableRule
  extract_lets +onlyGivenNames v1
  refine .ite ?_ ?_
  · refine .ite (Keeps1.mk h3) ?_
    extract_lets +onlyGivenNames v2
    have k3 : Keeps W r v2 := storeConfig_keeps (cw.le rfl) h3
    clear_value v2
    exact Keeps1.mk (.ite (.ite (mirrorConnect_keeps (cw.le rfl) k3) (setMirState_keeps (cw.le rfl) k3)) (.ite (setMirState_keeps (cw.le rfl) k3) k3))
  · extract_lets +onlyGivenNames v4
    have k5 : Keeps W r v4 := storeConfig_keeps (cw.le rfl) h3
    clear_value v4
    exact Keeps1.mk (.ite (setMirState_keeps (cw.le rfl) k5) (.ite (settle_keeps (cw.le rfl) (endMirrorSession_keeps (cw.le rfl) k5)) k5))
theorem execMirrorEnable_keeps {W : Nat} {r : State} {a1 a2 s3} (cw : Covers W 0x2d1800003ffe100f28c841e0000000300000000040c000000480607e8c7b3a00000383b) (h3 : Keeps W r s3) : KeepsOut W r (execMirrorEnable a1 a2 s3) := KeepsOut.next (kdpObject_keeps (cw.le rfl) (fun _ _ _ k4 => mirrorEnableRule_keeps (cw.le rfl) k4) h3)
theorem execMirrorStopDone_keeps {W : Nat} {r : State} {s1} (cw : Covers W 0x8000000008) (h1 : Keeps W r s1) : KeepsOut W r (execMirrorStopDone s1) := KeepsOut.next (.ite (setMirState_keeps (cw.le rfl) (updMirror_keeps (cw.le rfl) h1)) (.ite (updMirror_keeps (cw.le rfl) h1) h1))
theorem mirrorOffDone_keeps {W : Nat} {r : State} {s1} (cw : Covers W 0xc000000000000000000000000000000000000000000800000000b) (h1 : Keeps W r s1) : Keeps W r (mirrorOffDone s1) := by
  delta mirrorOffDone
  refine .ite h1 ?_
  extract_lets +onlyGivenNames v1
  have k2 : Keeps W r v1 := updMirror_keeps (cw.le rfl) h1
  clear_value v1
  exact .ite (mirrorConnect_keeps (cw.le rfl) k2) k2
theorem resyncStep_keeps {W : Nat} {r : State} {s1} (cw : Covers W 0x80000003ffe000f28c040000000000000000000000000000400000000000800000083a) (h1 : Keeps W r s1) : Keeps W r (resyncStep s1) := by
  delta resyncStep
  extract_lets +onlyGivenNames v1 v2
  have k3 : Keeps W r v2 := .ite (emit_keeps (cw.le rfl) (updMirror_keeps (cw.le rfl) h1)) h1
  clear_value v2
  exact settleSync_keeps (cw.le rfl) k3
theorem sessionUp_keeps {W : Nat} {r : State} {s1 a2} (cw : Covers W 0x80000003ffe000f28c040000000000000000000000000000400000000000800000083a) (h1 : Keeps W r s1) : Keeps W r (sessionUp s1 a2) := by
  delta sessionUp
  extract_lets +onlyGivenNames v1 v2 v3
  have k4 : Keeps W r v2 := updMirror_keeps (cw.le rfl) h1
  clear_value v2
  have k5 : Keeps W r v3 := setR_keeps (cw.le rfl) (setR_keeps (cw.le rfl) k4)
  clear_value v3
  exact resyncStep_keeps (cw.le rfl) (setMirState_keeps (cw.le rfl) k5)
theorem sessionOpens_keeps {W : Nat} {r : State} {s1 a2 a3 a4} (cw : Covers W 0x80000003ffe000f28c040000000000000000000000000000400000000000800000083a) (h1 : Keeps W r s1) : Keeps W r (sessionOpens s1 a2 a3 a4) := by
  delta sessionOpens
  extract_lets +onlyGivenNames v1 v2
  have k3 : Keeps W r v2 := updMirror_keeps (cw.le rfl) h1
  clear_value v2
  exact .ite (record_keeps (cw.le rfl) (setMirState_keeps (cw.le rfl) k3)) (.ite (updMirror_keeps (cw.le rfl) k3) (.ite (record_keeps (cw.le rfl) (setR_keeps (cw.le rfl) k3)) (sessionUp_keeps (cw.le rfl) k3)))
theorem handshakeDone_keeps {W : Nat} {r : State} {s1 a2 a3 a4 a5 a6 a7} (cw : Covers W 0x80000003ffe000f28c040000000000000000000000000000400000000000800000083a) (h1 : Keeps W r s1) : Keeps W r (handshakeDone s1 a2 a3 a4 a5 a6 a7) := by
  delta handshakeDone
  refine .ite h1 ?_
  refine .ite (setR_keeps (cw.le rfl) h1) ?_
  split
  · exact setR_keeps (cw.le rfl) h1
  · extract_lets +onlyGivenNames v6 v7 v8
    have k9 : Keeps W r v8 := emit_keeps (cw.le rfl) h1
    clear_value v8
    exact .ite (setR_keeps (cw.le rfl) k9) (sessionOpens_keeps (cw.le rfl) (updMirror_keeps (cw.le rfl) k9))
theorem execMirrorHandshake_keeps {W : Nat} {r : State} {a1 a2 a3 a4 s7} (cw : Covers W 0x80000003ffe000f28c040000000000000000000000000000400000000000800000083a) (h7 : Keeps W r s7) : KeepsOut W r (execMirrorHandshake a1 a2 a3 a4 s7) := KeepsOut.next (handshakeDone_keeps (cw.le rfl) h7)
theorem refusePair_keeps {W : Nat} {r : State} {s1 a2} (cw : Covers W 0x3fe00002000400000000000000000000000000000000000000000000000018) (h1 : Keeps W r s1) : Keeps W r (refusePair s1 a2) := record_keeps (cw.le rfl) (setR_keeps (cw.le rfl) h1)
theorem acceptPeer_keeps {W : Nat} {r : State} {s1} (cw : Covers W 0x80000003ffe100f28c040000000000000000000000000000400000000000c00000083a) (h1 : Keeps W r s1) : Keeps1 W r (acceptPeer s1) := by
  delta acceptPeer
  refine .ite h1 ?_
  extract_lets +onlyGivenNames v1 v2 v3 v4 v5 v6
  have k7 : Keeps W r v4 := .upd cw h1
  clear_value v4
  have k8 : Keeps W r v5 := setR_keeps (cw.le rfl) k7
  clear_value v5
  have k9 : Keeps W r v6 := updMirror_keeps (cw.le rfl) k8
  clear_value v6
  extract_lets +onlyGivenNames v10
  have k11 : Keeps W r v10 := .ite (sessionUp_keeps (cw.le rfl) k9) (refusePair_keeps (cw.le rfl) (setMirState_keeps (cw.le rfl) k9))
  clear_value v10
  exact Keeps1.mk (syncRec_keeps (cw.le rfl) (configChanged_keeps (cw.le rfl) k11))
theorem mirrorAcceptPeerEffect_keeps {W : Nat} {r : State} {a1 a2 s3} (cw : Covers W 0x80000003ffe100f28e040000000000000000000000000000400000000000c00000083a) (h3 : Keeps W r s3) : Keeps1 W r (mirrorAcceptPeerEffect a1 a2 s3) := runCommand_keeps (cw.le rfl) (fun _ _ _ k4 => acceptPeer_keeps (cw.le rfl) k4) h3
theorem execMirrorAcceptPeer_keeps {W : Nat} {r : State} {a1 a2 s3} (cw : Covers W 0x280000003ffe100f28e840000000000000000000000000000400000000000c00000083a) (h3 : Keeps W r s3) : KeepsOut W r (execMirrorAcceptPeer a1 a2 s3) := KeepsOut.next (kdpObject_keeps (cw.le rfl) (fun _ _ _ k4 => mirrorAcceptPeerEffect_keeps (cw.le rfl) k4) h3)
theorem execMirrorConnectRetry_keeps {W : Nat} {r : State} {s1} (cw : Covers W 0xc000000000000000000000000000000000000000000800000000b) (h1 : Keeps W r s1) : KeepsOut W r (execMirrorConnectRetry s1) := KeepsOut.next (.ite (openMirror_keeps (cw.le rfl) h1) h1)
theorem mirrorFrame_keeps {W : Nat} {r : State} {a1 a2 a3 s4} (cw : Covers W 0xd1800003ffe000f28c041e0000000300000000040c000000480607e8c7b3800000383a) (h3 : ∀ y1, Keeps W r y1 → Keeps W r (a3 y1)) (h4 : Keeps W r s4) : Keeps W r (mirrorFrame a1 a2 a3 s4) := by
  delta mirrorFrame
  refine .ite h4 ?_
  extract_lets +onlyGivenNames v1
  have k2 : Keeps W r v1 := frameIn_keeps (cw.le rfl) h4
  clear_value v1
  exact .ite (bumpR_keeps (cw.le rfl) k2) (settle_keeps (cw.le rfl) (resyncStep_keeps (cw.le rfl) (h3 _ (ackAdvance_keeps (cw.le rfl) k2))))
theorem sendAck_keeps {W : Nat} {r : State} {s1} (cw : Covers W 0xc0000000000000000000000000000000000000000008000000002) (h1 : Keeps W r s1) : Keeps W r (sendAck s1) := emit_keeps (cw.le rfl) (updMirror_keeps (cw.le rfl) h1)
theorem applyMirRec_keeps {W : Nat} {r : State} {s1 a2} (cw : Covers W 0x2000000800) (h1 : Keeps W r s1) : Keeps W r (applyMirRec s1 a2) := by
  delta applyMirRec
  extract_lets +onlyGivenNames v1
  split
  · exact .ite (loseLineResv_keeps (cw.le rfl) (putBerth_keeps (cw.le rfl) h1)) h1
  · exact h1
theorem applyFrame_keeps {W : Nat} {r : State} {a1 s2} (cw : Covers W 0xc000000000000000000000000000000000000000000a000000802) (h2 : Keeps W r s2) : Keeps W r (applyFrame a1 s2) := by
  delta applyFrame
  refine .ite h2 ?_
  extract_lets +onlyGivenNames v1
  have k2 : Keeps W r v1 := .foldl h2 (fun _ _ k5 => applyMirRec_keeps (cw.le rfl) k5)
  clear_value v1
  extract_lets +onlyGivenNames v6
  have k7 : Keeps W r v6 := updMirror_keeps (cw.le rfl) k2
  clear_value v6
  exact .ite (sendAck_keeps (cw.le rfl) k7) k7
theorem execMirrorData_keeps {W : Nat} {r : State} {a1 s2} (cw : Covers W 0xd1800003ffe000f28c041e0000000300000000040c000000480607e8c7b3a00000383a) (h2 : Keeps W r s2) : KeepsOut W r (execMirrorData a1 s2) := KeepsOut.next (mirrorFrame_keeps (cw.le rfl) (fun _ k2 => applyFrame_keeps (cw.le rfl) k2) h2)
theorem execMirrorResyncData_keeps {W : Nat} {r : State} {a1 s2} (cw : Covers W 0xd1800003ffe000f28c041e0000000300000000040c000000480607e8c7b3a00000383a) (h2 : Keeps W r s2) : KeepsOut W r (execMirrorResyncData a1 s2) := KeepsOut.next (mirrorFrame_keeps (cw.le rfl) (fun _ k2 => applyFrame_keeps (cw.le rfl) k2) h2)
theorem execMirrorAck_keeps {W : Nat} {r : State} {a1 s2} (cw : Covers W 0xd1800003ffe000f28c041e0000000300000000040c000000480607e8c7b3800000383a) (h2 : Keeps W r s2) : KeepsOut W r (execMirrorAck a1 s2) := by
  delta execMirrorAck
  refine KeepsOut.next ?_
  refine mirrorFrame_keeps (cw.le rfl) ?_ h2
  intro _ k2
  delta id
  exact k2
theorem execMirrorHeartbeat_keeps {W : Nat} {r : State} {a1 s2} (cw : Covers W 0xd1800003ffe000f28c041e0000000300000000040c000000480607e8c7b3800000383a) (h2 : Keeps W r s2) : KeepsOut W r (execMirrorHeartbeat a1 s2) := by
  delta execMirrorHeartbeat
  refine KeepsOut.next ?_
  refine mirrorFrame_keeps (cw.le rfl) ?_ h2
  intro _ k2
  delta id
  exact k2
theorem execMirrorResyncDone_keeps {W : Nat} {r : State} {a1 s2} (cw : Covers W 0xd1800003ffe000f28c041e0000000300000000040c000000480607e8c7b3800000383a) (h2 : Keeps W r s2) : KeepsOut W r (execMirrorResyncDone a1 s2) := KeepsOut.next (mirrorFrame_keeps (cw.le rfl) (fun _ k2 => updMirror_keeps (cw.le rfl) k2) h2)
theorem execMirrorResyncPageSend_keeps {W : Nat} {r : State} {s1} (cw : Covers W 0x7fe000020c040000000000000000000000000000000000000000800000001a) (h1 : Keeps W r s1) : KeepsOut W r (execMirrorResyncPageSend s1) := by
  delta execMirrorResyncPageSend
  refine KeepsOut.next ?_
  split
  · extract_lets +onlyGivenNames v1
    have k2 : Keeps W r v1 := updMirror_keeps (cw.le rfl) h1
    clear_value v1
    extract_lets +onlyGivenNames v3
    have k4 : Keeps W r v3 := by
      unfold v3
      refine .foldl k2 ?_
      intro _ _ k7
      extract_lets +onlyGivenNames v8
      exact sendFrame_keeps (cw.le rfl) k7
    clear_value v3
    exact updMirror_keeps (cw.le rfl) (bumpR_keeps (cw.le rfl) k4)
  · exact h1
theorem execMirrorAckTimer_keeps {W : Nat} {r : State} {s1} (cw : Covers W 0xc0000000000000000000000000000000000000000008000000002) (h1 : Keeps W r s1) : KeepsOut W r (execMirrorAckTimer s1) := KeepsOut.next (.ite (sendAck_keeps (cw.le rfl) h1) h1)
theorem execMirrorRetransmit_keeps {W : Nat} {r : State} {s1} (cw : Covers W 0xc000000000000000000000000000000000000000000800000000a) (h1 : Keeps W r s1) : KeepsOut W r (execMirrorRetransmit s1) := by
  delta execMirrorRetransmit
  refine KeepsOut.next ?_
  refine .ite ?_ h1
  extract_lets +onlyGivenNames v1 v2
  have k3 : Keeps W r v2 := .foldl (bumpN_keeps (cw.le rfl) h1) (fun _ _ k6 => emitFrame_keeps (cw.le rfl) k6)
  clear_value v2
  exact updMirror_keeps (cw.le rfl) k3
theorem execMirrorHeartbeatTimer_keeps {W : Nat} {r : State} {s1} (cw : Covers W 0xc0000000000000000000000000000000000000000000000000002) (h1 : Keeps W r s1) : KeepsOut W r (execMirrorHeartbeatTimer s1) := KeepsOut.next (.ite (emit_keeps (cw.le rfl) h1) h1)
theorem mirrorSplit_keeps {W : Nat} {r : State} {s1} (cw : Covers W 0xd1800003ffe000f28c041e0000000300000000040c000000480607e8c7b3a00000383a) (h1 : Keeps W r s1) : Keeps W r (mirrorSplit s1) := by
  delta mirrorSplit
  refine .ite ?_ h1
  extract_lets +onlyGivenNames v1
  have k2 : Keeps W r v1 := record_keeps (cw.le rfl) (bumpR_keeps (cw.le rfl) h1)
  clear_value v1
  exact settle_keeps (cw.le rfl) (endMirrorSession_keeps (cw.le rfl) k2)
theorem execMirrorSplit_keeps {W : Nat} {r : State} {s1} (cw : Covers W 0xd1800003ffe000f28c041e0000000300000000040c000000480607e8c7b3a00000383a) (h1 : Keeps W r s1) : KeepsOut W r (execMirrorSplit s1) := KeepsOut.next (mirrorSplit_keeps (cw.le rfl) h1)
theorem execMirrorLagRelease_keeps {W : Nat} {r : State} {s1} (cw : Covers W 0xd1800003ffe000f28c041e0000000300000000040c000000480607e8c7b3a00000383a) (h1 : Keeps W r s1) : KeepsOut W r (execMirrorLagRelease s1) := KeepsOut.next (settle_keeps (cw.le rfl) (releaseBerth_keeps (cw.le rfl) h1))
theorem execLighterCloseTimeout_keeps {W : Nat} {r : State} {a1 a2 s3} (cw : Covers W 0x2000000000000) (h3 : Keeps W r s3) : KeepsOut W r (execLighterCloseTimeout a1 a2 s3) := by
  delta execLighterCloseTimeout
  refine KeepsOut.next ?_
  split
  · exact updLighter_keeps (cw.le rfl) h3
  · exact h3
theorem execLighterTake_keeps {W : Nat} {r : State} {a1 a2 s3} (cw : Covers W 0xd3c00003ffe000f28c041e1080000300000000040c3804007ef60fe8d7b3000000383a) (h3 : Keeps W r s3) : KeepsOut W r (execLighterTake a1 a2 s3) := by
  delta execLighterTake
  refine KeepsOut.next ?_
  split
  · extract_lets +onlyGivenNames v1
    exact resetQueue_keeps (cw.le rfl) h3
  · extract_lets +onlyGivenNames v2
    exact .ite (settle_keeps (cw.le rfl) (takeLighter_keeps (cw.le rfl) (leaveP2_keeps (cw.le rfl) h3))) h3
theorem execPlateProgramDone_keeps {W : Nat} {r : State} {a1 a2 a3 s4} (cw : Covers W 0xd1800003ffe000f28c041e0000000300000000040c400400493e07f8c7b3080000383b) (h4 : Keeps W r s4) : KeepsOut W r (execPlateProgramDone a1 a2 a3 s4) := by
  delta execPlateProgramDone
  refine KeepsOut.next ?_
  split
  · exact .ite (settle_keeps (cw.le rfl) (plateDone_keeps (cw.le rfl) h4)) h4
  · exact h4
theorem execParityProgramDone_keeps {W : Nat} {r : State} {a1 a2 s3} (cw : Covers W 0xd1800003ffe000f28c041e0000000300000000040c000400490607e8c7b3000000383b) (h3 : Keeps W r s3) : KeepsOut W r (execParityProgramDone a1 a2 s3) := by
  delta execParityProgramDone
  refine KeepsOut.next ?_
  split
  · exact .ite (settle_keeps (cw.le rfl) (parityDone_keeps (cw.le rfl) h3)) h3
  · exact h3
theorem formPinned_keeps {W : Nat} {r : State} {sl n ps} (cw : Covers W 0x6000000000000) : ∀ {s : State}, Keeps W r s → Keeps W r (formPinned sl n ps s) := by
  induction n generalizing ps with
  | zero => exact fun h => h
  | succ n ih =>
    intro s h
    simp only [formPinned]
    split
    · exact h
    · exact ih (.upd cw h)
theorem pinnedLighters_keeps {W : Nat} {r : State} {s1 a2} (cw : Covers W 0x6000000000000) (h1 : Keeps W r s1) : Keeps W r (pinnedLighters s1 a2) := by
  delta pinnedLighters
  extract_lets +onlyGivenNames v1
  exact .ite h1 (formPinned_keeps (cw.le rfl) h1)
theorem execPinnedLighterForm_keeps {W : Nat} {r : State} {a1 s2} (cw : Covers W 0x6000000000000) (h2 : Keeps W r s2) : KeepsOut W r (execPinnedLighterForm a1 s2) := KeepsOut.next (pinnedLighters_keeps (cw.le rfl) h2)
theorem releaseOne_keeps {W : Nat} {r : State} {s1 a2} (cw : Covers W 0x3ffe000020c041e000000000000000004000000007e0800004e3fb80ffffcfb) (h1 : Keeps W r s1) : Keeps W r (releaseOne s1 a2) := by
  delta releaseOne
  split
  · exact .ite h1 (enterTable_keeps (cw.le rfl) (.upd cw h1))
  · exact h1
theorem endSliceFull_keeps {W : Nat} {r : State} {s1 a2} (cw : Covers W 0x20000000000000) (h1 : Keeps W r s1) : Keeps W r (endSliceFull s1 a2) := .ite h1 (.upd cw h1)
theorem execHeldWriteEntry_keeps {W : Nat} {r : State} {a1 s2} (cw : Covers W 0xd1800003ffe000f28c041e0000000300000000040c0000007e0e07e8efbfb80ffffcfb) (h2 : Keeps W r s2) : KeepsOut W r (execHeldWriteEntry a1 s2) := by
  delta execHeldWriteEntry
  extract_lets +onlyGivenNames v1
  have k2 : Keeps W r v1 := endSliceFull_keeps (cw.le rfl) h2
  clear_value v1
  extract_lets +onlyGivenNames v3
  have k4 : Keeps W r v3 := by
    unfold v3
    split
    · exact releaseOne_keeps (cw.le rfl) k2
    · exact k2
  clear_value v3
  exact KeepsOut.next (settle_keeps (cw.le rfl) (.foldl k4 (fun _ _ k7 => releaseOne_keeps (cw.le rfl) k7)))
theorem execQueueRebuildDone_keeps {W : Nat} {r : State} {a1 s2} (cw : Covers W 0xd1800003ffe000f28c041e0000000300000000040c0000007e0e07e8dfbfb80ffffcfb) (h2 : Keeps W r s2) : KeepsOut W r (execQueueRebuildDone a1 s2) := by
  delta execQueueRebuildDone
  refine .ite ?_ (KeepsOut.next h2)
  extract_lets +onlyGivenNames v1 v2
  have k3 : Keeps W r v2 := .upd cw h2
  clear_value v2
  extract_lets +onlyGivenNames v4
  have k5 : Keeps W r v4 := reissueCopies_keeps (cw.le rfl) (refill_keeps (cw.le rfl) (pinnedLighters_keeps (cw.le rfl) k3))
  clear_value v4
  exact KeepsOut.next (settle_keeps (cw.le rfl) (.foldl k5 (fun _ _ k6 => releaseOne_keeps (cw.le rfl) k6)))
theorem execPinLowMinimum_keeps {W : Nat} {r : State} {a1 s2} (cw : Covers W 0x1e000000000000000000000000000000000000000000000008) (h2 : Keeps W r s2) : KeepsOut W r (execPinLowMinimum a1 s2) := by
  delta execPinLowMinimum
  refine KeepsOut.next ?_
  refine drivePins_keeps (cw.le rfl) ?_
  split
  · exact .upd cw h2
  · exact .upd cw h2
theorem bankTemp_keeps {W : Nat} {r : State} {s1} (cw : Covers W 0x1) (h1 : Keeps W r s1) : Keeps2 W r (bankTemp s1) := by
  delta bankTemp
  split
  · exact Keeps2.mk h1
  · split
    · rename_i t1 x2 t3 e4
      have k5 : Keeps W r t3 := Keeps2.of_eq e4 (draw_keeps (cw.le rfl) h1)
      exact Keeps2.mk k5
theorem recomputeCap_keeps {W : Nat} {r : State} {s1} (cw : Covers W 0x3fe0000200041e000000001000000000000000000000000040000000000019) (h1 : Keeps W r s1) : Keeps W r (recomputeCap s1) := by
  delta recomputeCap
  extract_lets +onlyGivenNames v1
  have k2 : Keeps W r v1 := h1
  clear_value v1
  split
  · rename_i t3 x4 t5 e6
    have k7 : Keeps W r t5 := Keeps2.of_eq e6 (bankTemp_keeps (cw.le rfl) h1)
    extract_lets +onlyGivenNames v8 v9 v10 v11 v12 v13 v14
    have k15 : Keeps W r v14 := setR_keeps (cw.le rfl) (setR_keeps (cw.le rfl) (setR_keeps (cw.le rfl) k7))
    clear_value v14
    extract_lets +onlyGivenNames v16 v17
    have k18 : Keeps W r v17 := .upd cw k15
    clear_value v17
    extract_lets +onlyGivenNames v19
    have k20 : Keeps W r v19 := .ite (record_keeps (cw.le rfl) k18) k18
    clear_value v19
    extract_lets +onlyGivenNames v21
    have k22 : Keeps W r v21 := .ite (record_keeps (cw.le rfl) k20) k20
    clear_value v21
    exact track_keeps (cw.le rfl) k2 (settleLevel_keeps (cw.le rfl) k22)
theorem execDirtyCapRecompute_keeps {W : Nat} {r : State} {s1} (cw : Covers W 0xd1800003ffe000f28c041e0000000310000000040c000000480607e8c7b3000000383b) (h1 : Keeps W r s1) : KeepsOut W r (execDirtyCapRecompute s1) := KeepsOut.next (.ite (settle_keeps (cw.le rfl) (recomputeCap_keeps (cw.le rfl) h1)) h1)
theorem dirtyCapLimitRule_keeps {W : Nat} {r : State} {a1 a2 s3} (cw : Covers W 0xd1800003ffe100f28c041e0000000310000000040c000000480607e8c7b3000000383b) (h3 : Keeps W r s3) : Keeps1 W r (dirtyCapLimitRule a1 a2 s3) := by
  delta dirtyCapLimitRule
  extract_lets +onlyGivenNames v1
  have k2 : Keeps W r v1 := storeConfig_keeps (cw.le rfl) h3
  clear_value v1
  exact Keeps1.mk (.ite (settle_keeps (cw.le rfl) (recomputeCap_keeps (cw.le rfl) k2)) k2)
theorem execDirtyCapLimit_keeps {W : Nat} {r : State} {a1 a2 s3} (cw : Covers W 0x2d1800003ffe100f28c841e0000000310000000040c000000480607e8c7b3000000383b) (h3 : Keeps W r s3) : KeepsOut W r (execDirtyCapLimit a1 a2 s3) := KeepsOut.next (kdpObject_keeps (cw.le rfl) (fun _ _ _ k4 => dirtyCapLimitRule_keeps (cw.le rfl) k4) h3)
theorem execFilterRebuildDone_keeps {W : Nat} {r : State} {a1 s2} (cw : Covers W 0x300000000008) (h2 : Keeps W r s2) : KeepsOut W r (execFilterRebuildDone a1 s2) := by
  delta execFilterRebuildDone
  refine .ite ?_ (KeepsOut.next h2)
  extract_lets +onlyGivenNames v1 v2
  exact KeepsOut.next (bumpR_keeps (cw.le rfl) (.upd cw h2))
theorem execWharfIndexRepaired_keeps {W : Nat} {r : State} {a1 s2} (cw : Covers W 0xd1800003ffe000f28c041e0000000300000000040c0000007e0e07e8c7ffb80ffffcfb) (h2 : Keeps W r s2) : KeepsOut W r (execWharfIndexRepaired a1 s2) := KeepsOut.next (settle_keeps (cw.le rfl) (settleWaiting_keeps (cw.le rfl) (.upd cw h2)))
theorem execReclaimVictimSelect_keeps {W : Nat} {r : State} {a1 s2} (cw : Covers W 0x538000007fe000020004001080000000000000000000000008f607e886000000000818) (h2 : Keeps W r s2) : KeepsOut W r (execReclaimVictimSelect a1 s2) := KeepsOut.next (.ite h2 (reclaimSelect_keeps (cw.le rfl) (leaveP2_keeps (cw.le rfl) h2)))
theorem reloadReserved_keeps {W : Nat} {r : State} {s1 a2} (cw : Covers W 0x80000000000000) (h1 : Keeps W r s1) : Keeps W r (reloadReserved s1 a2) := by
  delta reloadReserved
  extract_lets +onlyGivenNames bad m
  refine .media cw h1 (fun hw => ?_) id
  show AMap.wf m = true
  unfold m
  generalize s1.media.map = z at hw ⊢
  induction bad generalizing z with
  | nil => exact hw
  | cons p l ih =>
    rw [List.foldl_cons]
    refine ih _ ?_
    split
    · exact AMap.wf_set hw _ _
    · exact AMap.wf_del hw _
theorem execMapRepaired_keeps {W : Nat} {r : State} {a1 a2 s3} (cw : Covers W 0xd1800003ffe000f28c041e0000000300000000040c0000007e0e07edc7bfb80ffffcfb) (h3 : Keeps W r s3) : KeepsOut W r (execMapRepaired a1 a2 s3) := by
  delta execMapRepaired
  refine KeepsOut.next ?_
  split
  · exact h3
  · extract_lets +onlyGivenNames v6 v7 v8 v9 v10 v11
    have k12 : Keeps W r v8 := bumpR_keeps (cw.le rfl) h3
    clear_value v8
    have k13 : Keeps W r v10 := .upd cw k12
    clear_value v10
    have k14 : Keeps W r v11 := reloadReserved_keeps (cw.le rfl) k13
    clear_value v11
    extract_lets +onlyGivenNames v15
    have k16 : Keeps W r v15 := record_keeps (cw.le rfl) k14
    clear_value v15
    exact settle_keeps (cw.le rfl) (settleWaiting_keeps (cw.le rfl) k16)
theorem saveRekey_keeps {W : Nat} {r : State} {s1} (cw : Covers W 0x4000000000000000000000000000) (h1 : Keeps W r s1) : Keeps W r (saveRekey s1) := .upd cw h1
theorem drawFrontiers_keeps {W : Nat} {r : State} {a1 a2 s3} (cw : Covers W 0x1) (h3 : Keeps W r s3) : Keeps2 W r (drawFrontiers a1 a2 s3) := by
  delta drawFrontiers
  refine .foldl h3 ?_
  intro x2 a3 k1
  split
  rename_i t4 t5 t6 t7
  have k8 : Keeps W r t6 := Keeps2.of_eq t7 (draw_keeps (cw.le rfl) k1)
  exact k8
theorem takeSnap_keeps {W : Nat} {r : State} {s1} (cw : Covers W 0x100000000000000000000000000000000000000000000000000000000000000000000) (h1 : Keeps W r s1) : Keeps W r (takeSnap s1) := .upd cw h1
theorem execCheckpointSegmentDone_keeps {W : Nat} {r : State} {a1 s2} (cw : Covers W 0xf1800003ffe000f28c041e0000000300000000040c400000483e3ff8c7b3080000383b) (h2 : Keeps W r s2) : KeepsOut W r (execCheckpointSegmentDone a1 s2) := by
  delta execCheckpointSegmentDone
  refine .ite (KeepsOut.next h2) ?_
  extract_lets +onlyGivenNames v1 v2 v3 v4
  split
  rename_i t5 t6 t7 t8
  have k9 : Keeps W r t7 := Keeps2.of_eq t8 (drawFrontiers_keeps (cw.le rfl) h2)
  extract_lets +onlyGivenNames v10 v11 v12 v13 v14 v15 v16 v17
  have k18 : Keeps W r v13 := bumpR_keeps (cw.le rfl) k9
  clear_value v13
  have k19 : Keeps W r v16 := takeSnap_keeps (cw.le rfl) (.upd cw k18)
  clear_value v16
  extract_lets +onlyGivenNames v20 v21
  extract_lets +onlyGivenNames v22
  have k23 : Keeps W r v22 := .upd cw k19
  clear_value v22
  exact KeepsOut.next (settle_keeps (cw.le rfl) (startCkpt_keeps (cw.le rfl) (resumeCommits_keeps (cw.le rfl) (saveRekey_keeps (cw.le rfl) k23))))
end Sys2Proof.Machine
end

