-- ==== Sys2Proof/Laws/KeepsRead.lean ====
section
/-! SUPPORT. What media reads, ageing and protection keep: one lemma per operation (Laws/Keeps.lean). -/
set_option linter.unusedVariables false
set_option maxRecDepth 4000
set_option Elab.async false
namespace Sys2Proof.Machine
open Sys2Proof

theorem endRead_keeps {W : Nat} {r : State} {s1 a2} (cw : Covers W 0xa00000000000000000000) (h1 : Keeps W r s1) : Keeps W r (endRead s1 a2) := resumeOps_keeps (cw.le rfl) (.upd cw h1)
theorem noteLongWait_keeps {W : Nat} {r : State} {s1 a2} (cw : Covers W 0x2000000000000000000008) (h1 : Keeps W r s1) : Keeps W r (noteLongWait s1 a2) := by
  delta noteLongWait
  extract_lets +onlyGivenNames v1
  have k2 : Keeps W r v1 := bump_keeps (cw.le rfl) h1
  clear_value v1
  exact .upd cw k2
theorem decideRead_keeps {W : Nat} {r : State} {s1 a2 a3} (cw : Covers W 0x7fe00002000400000000000000000000000000003a00000000000000000018) (h1 : Keeps W r s1) : Keeps W r (decideRead s1 a2 a3) := by
  delta decideRead
  extract_lets +onlyGivenNames v1 v2 v3 v4 v5 v6
  refine .ite ?_ ?_
  · unfold v6
    extract_lets +onlyGivenNames v7
    have k8 : Keeps W r v7 := suspendOp_keeps (cw.le rfl) (putRead_keeps (cw.le rfl) h1)
    clear_value v7
    exact .ite k8 (noteLongWait_keeps (cw.le rfl) k8)
  · refine .ite ?_ ?_
    · unfold v6
      extract_lets +onlyGivenNames v9
      have k10 : Keeps W r v9 := suspendOp_keeps (cw.le rfl) (putRead_keeps (cw.le rfl) h1)
      clear_value v9
      exact .ite k10 (noteLongWait_keeps (cw.le rfl) k10)
    · refine .ite (resumeOps_keeps (cw.le rfl) (sendMembers_keeps (cw.le rfl) h1)) ?_
      unfold v6
      extract_lets +onlyGivenNames v11
      have k12 : Keeps W r v11 := suspendOp_keeps (cw.le rfl) (putRead_keeps (cw.le rfl) (bump_keeps (cw.le rfl) h1))
      clear_value v11
      exact .ite k12 (noteLongWait_keeps (cw.le rfl) k12)
theorem markDue_keeps {W : Nat} {r : State} {s1 a2 a3} (cw : Covers W 0x518000007fe0000200040000000000000000000000000000080607e886000000000018) (h1 : Keeps W r s1) : Keeps W r (markDue s1 a2 a3) := by
  delta markDue
  extract_lets +onlyGivenNames v1 v2
  exact .ite (makeVictim_keeps (cw.le rfl) (putSet_keeps (cw.le rfl) h1)) (.ite (putSet_keeps (cw.le rfl) h1) h1)
theorem noteSoft_keeps {W : Nat} {r : State} {s1 a2} (cw : Covers W 0x518000007fe0000200040000000000000000000000000000080607e886000000000018) (h1 : Keeps W r s1) : Keeps W r (noteSoft s1 a2) := by
  delta noteSoft
  extract_lets +onlyGivenNames v1 v2 v3 v4
  have k5 : Keeps W r v4 := putSet_keeps (cw.le rfl) h1
  clear_value v4
  exact .ite (markDue_keeps (cw.le rfl) k5) k5
theorem deliverDemand_keeps {W : Nat} {r : State} {s1 a2 a3} (cw : Covers W 0x3ffe000020c041e000000000000000004000000007e080000463fb80fffecfb) (h1 : Keeps W r s1) : Keeps W r (deliverDemand s1 a2 a3) := by
  delta deliverDemand
  extract_lets +onlyGivenNames v1 v2 v3
  refine settleAcks_keeps (cw.le rfl) ?_
  refine settleWaiting_keeps (cw.le rfl) ?_
  refine .foldl h1 ?_
  intro x5 a6 k4
  extract_lets +onlyGivenNames v7
  exact deliverReadX_keeps (cw.le rfl) k4
theorem fillDemand_keeps {W : Nat} {r : State} {s1 a2} (cw : Covers W 0x800000000000c000009) (h1 : Keeps W r s1) : Keeps W r (fillDemand s1 a2) := by
  delta fillDemand
  refine .ite h1 ?_
  extract_lets +onlyGivenNames v1 v2 v3
  unfold v3
  split
  · refine fillFor_keeps (cw.le rfl) ?_
    split
    · exact fillFor_keeps (cw.le rfl) h1
    · exact h1
  · split
    · exact fillFor_keeps (cw.le rfl) h1
    · exact h1
theorem baseIn_keeps {W : Nat} {r : State} {s1 a2 a3} (cw : Covers W 0xc00000007fe000f2800400000000000000000000003800000800000002000000000018) (h1 : Keeps W r s1) : Keeps W r (baseIn s1 a2 a3) := by
  delta baseIn
  split
  · exact h1
  · extract_lets +onlyGivenNames v1 v2 v3
    exact startPrograms_keeps (cw.le rfl) (updLighter_keeps (cw.le rfl) h1)
theorem rekeyNext_keeps {W : Nat} {r : State} {s1 a2} (cw : Covers W 0x7fe00002000400000000000000000000000000003e00000000000000000018) (h1 : Keeps W r s1) : Keeps W r (rekeyNext s1 a2) := by
  delta rekeyNext
  split
  · exact h1
  · refine .ite h1 ?_
    split
    · exact issueRead_keeps (cw.le rfl) h1
    · exact h1
theorem rekeyScanned_keeps {W : Nat} {r : State} {s1 a2} (cw : Covers W 0x7fe00002000400000000000000000000004000003e00000006000000000018) (h1 : Keeps W r s1) : Keeps W r (rekeyScanned s1 a2) := by
  delta rekeyScanned
  extract_lets +onlyGivenNames v1
  split
  · exact h1
  · extract_lets +onlyGivenNames v2 v3
    have k4 : Keeps W r v3 := .upd cw h1
    clear_value v3
    extract_lets +onlyGivenNames v5
    have k6 : Keeps W r v5 := by
      unfold v5
      split
      · exact .ite (enqueueCopy_keeps (cw.le rfl) k4) k4
      · exact k4
    clear_value v5
    exact rekeyNext_keeps (cw.le rfl) k6
theorem completeRead_keeps {W : Nat} {r : State} {s1 a2 a3} (cw : Covers W 0xc0000003ffe000f28c041e000000000000000004007800407e080000463fb80fffecfb) (h1 : Keeps W r s1) : Keeps W r (completeRead s1 a2 a3) := by
  delta completeRead
  extract_lets +onlyGivenNames v1
  have k2 : Keeps W r v1 := endRead_keeps (cw.le rfl) h1
  clear_value v1
  split
  · extract_lets +onlyGivenNames v5
    have k6 : Keeps W r v5 := .ite k2 (deliverDemand_keeps (cw.le rfl) k2)
    clear_value v5
    exact .ite k6 (fillDemand_keeps (cw.le rfl) k6)
  · exact baseIn_keeps (cw.le rfl) k2
  · exact baseIn_keeps (cw.le rfl) k2
  · exact rekeyScanned_keeps (cw.le rfl) k2
  · exact .ite k2 (pcachePut_keeps (cw.le rfl) k2)
  · exact proofRead_keeps (cw.le rfl) k2
  · exact .ite k2 (prefetchIn_keeps (cw.le rfl) k2)
  · exact k2
theorem sectorDecoded_keeps {W : Nat} {r : State} {s1 a2} (cw : Covers W 0xc0000003ffe000f28c041e000000000000000004007800407e080000463fb80fffecfb) (h1 : Keeps W r s1) : Keeps W r (sectorDecoded s1 a2) := by
  delta sectorDecoded
  extract_lets +onlyGivenNames v1 v2
  have k3 : Keeps W r v2 := .ite (pcCount_keeps (cw.le rfl) (bump_keeps (cw.le rfl) h1)) h1
  clear_value v2
  refine .ite (completeRead_keeps (cw.le rfl) k3) ?_
  refine .ite ?_ (completeRead_keeps (cw.le rfl) k3)
  extract_lets +onlyGivenNames v4 v5
  have k6 : Keeps W r v5 := putRead_keeps (cw.le rfl) k3
  clear_value v5
  exact resumeOps_keeps (cw.le rfl) (.ite (deliverDemand_keeps (cw.le rfl) k6) k6)
theorem reachRung_keeps {W : Nat} {r : State} {s1 a2 a3} (cw : Covers W 0x518000007fe0000200040000000000000000000000000000080607e886000000000018) (h1 : Keeps W r s1) : Keeps W r (reachRung s1 a2 a3) := by
  delta reachRung
  extract_lets +onlyGivenNames v1 v2
  have k3 : Keeps W r v2 := bump_keeps (cw.le rfl) h1
  clear_value v2
  extract_lets +onlyGivenNames v4
  have k5 : Keeps W r v4 := .ite (pcCount_keeps (cw.le rfl) k3) k3
  clear_value v4
  exact .ite (noteSoft_keeps (cw.le rfl) k5) k5
theorem poisonRead_keeps {W : Nat} {r : State} {s1 a2} (cw : Covers W 0xd1800003ffe000f28c041e000000000000000024007800407e0e07e8c63fb80fffecfb) (h1 : Keeps W r s1) : Keeps W r (poisonRead s1 a2) := by
  delta poisonRead
  extract_lets +onlyGivenNames v1 v2 v3
  have k4 : Keeps W r v3 := reachRung_keeps (cw.le rfl) h1
  clear_value v3
  extract_lets +onlyGivenNames v5
  have k6 : Keeps W r v5 := bump_keeps (cw.le rfl) (bumpR_keeps (cw.le rfl) k4)
  clear_value v5
  extract_lets +onlyGivenNames v7 v8
  have k9 : Keeps W r v8 := .ite k6 (.upd cw k6)
  clear_value v8
  extract_lets +onlyGivenNames v10
  have k11 : Keeps W r v10 := record_keeps (cw.le rfl) k9
  clear_value v10
  extract_lets +onlyGivenNames v12
  have k13 : Keeps W r v12 := .ite (record_keeps (cw.le rfl) k11) k11
  clear_value v12
  exact completeRead_keeps (cw.le rfl) k13
theorem unavailableRead_keeps {W : Nat} {r : State} {s1 a2} (cw : Covers W 0xc0000003ffe000f28c041e000000000000000004003800407e08000047bfb80fffecfb) (h1 : Keeps W r s1) : Keeps W r (unavailableRead s1 a2) := by
  delta unavailableRead
  extract_lets +onlyGivenNames v1
  split
  · exact bump_keeps (cw.le rfl) (.ite (endRead_keeps (cw.le rfl) h1) (deliverDemand_keeps (cw.le rfl) (endRead_keeps (cw.le rfl) h1)))
  · refine startPrograms_keeps (cw.le rfl) ?_
    refine pinPage_keeps (cw.le rfl) ?_
    unfold v1
    exact resumeOps_keeps (cw.le rfl) (.upd cw h1)
  · extract_lets +onlyGivenNames v8
    have k9 : Keeps W r v8 := by
      unfold v8
      unfold v1
      exact resumeOps_keeps (cw.le rfl) (.upd cw h1)
    clear_value v8
    exact startPrograms_keeps (cw.le rfl) (updLighter_keeps (cw.le rfl) k9)
  · exact proofRead_keeps (cw.le rfl) (endRead_keeps (cw.le rfl) h1)
  · exact endRead_keeps (cw.le rfl) h1
  · exact endRead_keeps (cw.le rfl) h1
  · exact endRead_keeps (cw.le rfl) h1
  · exact endRead_keeps (cw.le rfl) h1
theorem senseAgain_keeps {W : Nat} {r : State} {s1 a2 a3} (cw : Covers W 0x200000000000000000000) (h1 : Keeps W r s1) : Keeps W r (senseAgain s1 a2 a3) := putRead_keeps (cw.le rfl) h1
theorem climb_keeps {W : Nat} {r : State} {s1 a2} (cw : Covers W 0xd1800003ffe000f28c041e000000000000000024007800407e0e07e8c7bfb80fffecfb) (h1 : Keeps W r s1) : Keeps W r (climb s1 a2) := by
  delta climb
  refine .ite (.ite (unavailableRead_keeps (cw.le rfl) h1) (.ite (poisonRead_keeps (cw.le rfl) h1) (sendMembers_keeps (cw.le rfl) h1))) ?_
  refine .ite ?_ (.ite (senseAgain_keeps (cw.le rfl) (reachRung_keeps (cw.le rfl) h1)) (.ite (sendMembers_keeps (cw.le rfl) (reachRung_keeps (cw.le rfl) h1)) (.ite (completeRead_keeps (cw.le rfl) h1) (.ite (unavailableRead_keeps (cw.le rfl) h1) (poisonRead_keeps (cw.le rfl) h1)))))
  extract_lets +onlyGivenNames v1
  have k2 : Keeps W r v1 := .ite (reachRung_keeps (cw.le rfl) h1) h1
  clear_value v1
  exact resumeOps_keeps (cw.le rfl) (senseAgain_keeps (cw.le rfl) k2)
theorem settleLost_keeps {W : Nat} {r : State} {s1} (cw : Covers W 0xd1800003ffe000f28c041e000000000000000024007800407e0e07e8c7bfb80fffecfb) (h1 : Keeps W r s1) : Keeps W r (settleLost s1) := .foldl h1 (fun _ _ k3 => climb_keeps (cw.le rfl) k3)
theorem execSuspendEstimate_keeps {W : Nat} {r : State} {a1 a2 s3} (cw : Covers W 0x7fe00002000400000000000000000000000000003a00000000000000000018) (h3 : Keeps W r s3) : KeepsOut W r (execSuspendEstimate a1 a2 s3) := by
  delta execSuspendEstimate
  refine KeepsOut.next ?_
  split
  · exact .ite (decideRead_keeps (cw.le rfl) h3) h3
  · exact h3
theorem execSectorReadDone_keeps {W : Nat} {r : State} {a1 a2 a3 s4} (cw : Covers W 0xd1800003ffe000f28c041e0000000300000000240c7800407e0e07e8c7bfb80ffffcfb) (h4 : Keeps W r s4) : KeepsOut W r (execSectorReadDone a1 a2 a3 s4) := by
  delta execSectorReadDone
  refine KeepsOut.next ?_
  split
  · refine .ite h4 ?_
    refine .ite ?_ (settle_keeps (cw.le rfl) (climb_keeps (cw.le rfl) h4))
    extract_lets +onlyGivenNames v1 v2
    have k3 : Keeps W r v2 := .ite (pcCount_keeps (cw.le rfl) (bump_keeps (cw.le rfl) (bumpR_keeps (cw.le rfl) h4))) h4
    clear_value v2
    exact settle_keeps (cw.le rfl) (sectorDecoded_keeps (cw.le rfl) k3)
  · exact h4
theorem noteRecovered_keeps {W : Nat} {r : State} {s1 a2} (cw : Covers W 0x7fe00002000400000000000000000000000000000000000000000000000018) (h1 : Keeps W r s1) : Keeps W r (noteRecovered s1 a2) := by
  delta noteRecovered
  extract_lets +onlyGivenNames v1
  exact .ite (pcCount_keeps (cw.le rfl) (bump_keeps (cw.le rfl) (bumpR_keeps (cw.le rfl) h1))) h1
theorem execMemberReadDone_keeps {W : Nat} {r : State} {a1 a2 a3 s4} (cw : Covers W 0xd1800003ffe000f28c041e0000000300000000240c7800407e0e07e8c7bfb80ffffcfb) (h4 : Keeps W r s4) : KeepsOut W r (execMemberReadDone a1 a2 a3 s4) := by
  delta execMemberReadDone
  refine KeepsOut.next ?_
  split
  · refine .ite h4 ?_
    extract_lets +onlyGivenNames v4 v5
    have k6 : Keeps W r v5 := resumeOps_keeps (cw.le rfl) (putRead_keeps (cw.le rfl) h4)
    clear_value v5
    exact .ite k6 (.ite (settle_keeps (cw.le rfl) (sectorDecoded_keeps (cw.le rfl) (noteRecovered_keeps (cw.le rfl) k6))) (settle_keeps (cw.le rfl) (climb_keeps (cw.le rfl) k6)))
  · exact h4
theorem execTagCheckDone_keeps {W : Nat} {r : State} {a1 a2 s3} (cw : Covers W 0xd1900003ffe200f28c041e100000030000000004fc7800407e0e07e8cfbfb80ffffcff) (h3 : Keeps W r s3) : KeepsOut W r (execTagCheckDone a1 a2 s3) := by
  delta execTagCheckDone
  refine KeepsOut.next ?_
  split
  · exact .ite h3 (.ite (settle_keeps (cw.le rfl) (completeRead_keeps (cw.le rfl) h3)) (settle_keeps (cw.le rfl) (haltIntegrity_keeps (cw.le rfl) (endRead_keeps (cw.le rfl) h3))))
  · exact h3
theorem execOpOverdue_keeps {W : Nat} {r : State} {a1 a2 a3 a4 a5 s6} (cw : Covers W 0x3fe00002000400000000000000000000000000000800000000000000000018) (h6 : Keeps W r s6) : KeepsOut W r (execOpOverdue a1 a2 a3 a4 a5 s6) := by
  delta execOpOverdue
  extract_lets +onlyGivenNames v1
  refine KeepsOut.next ?_
  split
  · refine .ite h6 ?_
    extract_lets +onlyGivenNames v2 v3
    have k4 : Keeps W r v3 := bump_keeps (cw.le rfl) h6
    extract_lets +onlyGivenNames v5 v6
    have k7 : Keeps W r v6 := .upd cw k4
    exact record_keeps (cw.le rfl) k7
  · exact h6
theorem execFineSuspendOn_keeps {W : Nat} {r : State} {a1 a2 s3} (cw : Covers W 0x3fe00002000400000000000000000000000000002000000000000000000018) (h3 : Keeps W r s3) : KeepsOut W r (execFineSuspendOn a1 a2 s3) := by
  delta execFineSuspendOn
  extract_lets +onlyGivenNames v1 v2
  refine .ite (KeepsOut.next h3) ?_
  extract_lets +onlyGivenNames v3 v4 v5
  have k6 : Keeps W r v5 := .upd cw h3
  clear_value v5
  exact KeepsOut.next (.ite (record_keeps (cw.le rfl) (setObj_keeps (cw.le rfl) k6)) k6)
theorem execFineSuspendOff_keeps {W : Nat} {r : State} {a1 a2 s3} (cw : Covers W 0x3fe00002000400000000000000000000000000000000000000000000000018) (h3 : Keeps W r s3) : KeepsOut W r (execFineSuspendOff a1 a2 s3) := by
  delta execFineSuspendOff
  extract_lets +onlyGivenNames v1 v2
  exact .ite (KeepsOut.next h3) (KeepsOut.next (record_keeps (cw.le rfl) (setObj_keeps (cw.le rfl) h3)))
theorem execDegradedOverload_keeps {W : Nat} {r : State} {a1 a2 a3 s4} (cw : Covers W 0x3fe00002000400000000000000000000000000008200000000000000000018) (h4 : Keeps W r s4) : KeepsOut W r (execDegradedOverload a1 a2 a3 s4) := by
  delta execDegradedOverload
  extract_lets +onlyGivenNames v1
  refine .ite ?_ (KeepsOut.next (.upd cw h4))
  refine .ite (KeepsOut.next h4) ?_
  extract_lets +onlyGivenNames v2 v3 v4
  have k5 : Keeps W r v4 := .upd cw h4
  clear_value v4
  exact KeepsOut.next (record_keeps (cw.le rfl) k5)
theorem tickDie_keeps {W : Nat} {r : State} {s1 a2 a3 a4} (cw : Covers W 0x70000000000000000000008) (h1 : Keeps W r s1) : Keeps W r (tickDie s1 a2 a3 a4) := by
  delta tickDie
  extract_lets +onlyGivenNames v1 v2 v3 v4 v5
  have k6 : Keeps W r v5 := setObj_keeps (cw.le rfl) (bumpN_keeps (cw.le rfl) h1)
  clear_value v5
  extract_lets +onlyGivenNames v7 v8 v9 v10 v11
  exact .upd cw k6
theorem dropCopies_keeps {W : Nat} {r : State} {s1 a2 a3} (cw : Covers W 0x2000000000000) (h1 : Keeps W r s1) : Keeps W r (dropCopies s1 a2 a3) := by
  delta dropCopies
  extract_lets +onlyGivenNames v1
  exact setLighters_keeps (cw.le rfl) h1
theorem hurryCopies_keeps {W : Nat} {r : State} {s1 a2} (cw : Covers W 0x6000000000000) (h1 : Keeps W r s1) : Keeps W r (hurryCopies s1 a2) := .foldl (dropCopies_keeps (cw.le rfl) h1) (fun _ _ k1 => enqueueCopy_keeps (cw.le rfl) k1)
theorem ceaseDue_keeps {W : Nat} {r : State} {s1 a2} (cw : Covers W 0x118000000000000000000000000000000000000000000000000007e886000000000008) (h1 : Keeps W r s1) : Keeps W r (ceaseDue s1 a2) := by
  delta ceaseDue
  extract_lets +onlyGivenNames v1
  refine .ite h1 ?_
  refine .ite ?_ (.ite (putSet_keeps (cw.le rfl) h1) h1)
  extract_lets +onlyGivenNames v2
  have k3 : Keeps W r v2 := dropCopies_keeps (cw.le rfl) h1
  clear_value v2
  exact setState_keeps (cw.le rfl) (putSet_keeps (cw.le rfl) k3)
theorem judgeSets_keeps {W : Nat} {r : State} {s1} (cw : Covers W 0x518000007fe0000200040000000000000000000000000000080607e886000000000018) (h1 : Keeps W r s1) : Keeps W r (judgeSets s1) := by
  delta judgeSets
  extract_lets +onlyGivenNames v1 v2 v3 v4 v5 v6
  have k10 : Keeps W r v1 := .foldl h1 (fun _ _ k7 => ceaseDue_keeps (cw.le rfl) k7)
  clear_value v1
  have k14 : Keeps W r v5 := .foldl k10 (fun _ _ k11 => markDue_keeps (cw.le rfl) k11)
  clear_value v5
  refine .foldl k14 ?_
  intro x16 a17 k15
  extract_lets +onlyGivenNames v18 v19 v20 v21
  have k22 : Keeps W r v21 := hurryCopies_keeps (cw.le rfl) (putSet_keeps (cw.le rfl) k15)
  clear_value v21
  exact .ite k22 (record_keeps (cw.le rfl) k22)
theorem execEqClockTick_keeps {W : Nat} {r : State} {s1} (cw : Covers W 0xd1800003ffe068f28c041e2000000300000000040c000007480607e8c7b3000000383a) (h1 : Keeps W r s1) : KeepsOut W r (execEqClockTick s1) := by
  delta execEqClockTick
  refine .ite (KeepsOut.next h1) ?_
  extract_lets +onlyGivenNames v1
  have k2 : Keeps W r v1 := opSecond_keeps (cw.le rfl) h1
  clear_value v1
  extract_lets +onlyGivenNames v3 v4
  have k5 : Keeps W r v4 := .foldl k2 (fun _ _ k8 => tickDie_keeps (cw.le rfl) k8)
  clear_value v4
  extract_lets +onlyGivenNames v9 v10
  have k11 : Keeps W r v10 := .upd cw k5
  clear_value v10
  exact KeepsOut.next (.ite (settle_keeps (cw.le rfl) (judgeSets_keeps (cw.le rfl) k11)) k11)
theorem execDieFailed_keeps {W : Nat} {r : State} {a1 a2 a3 a4 s5} (cw : Covers W 0xd1800003ffe000f28c041e0000000300000000240c7800c07e3e47e8c7bfb80ffffcfb) (h5 : Keeps W r s5) : KeepsOut W r (execDieFailed a1 a2 a3 a4 s5) := KeepsOut.next (settle_keeps (cw.le rfl) (settleLost_keeps (cw.le rfl) (dieFailed_keeps (cw.le rfl) h5)))
theorem execStackFailed_keeps {W : Nat} {r : State} {a1 a2 a3 s4} (cw : Covers W 0xd1800003ffe000f28c041e0000000300000000240c7800c07e3e87e8c7bfb80ffffcfb) (h4 : Keeps W r s4) : KeepsOut W r (execStackFailed a1 a2 a3 s4) := KeepsOut.next (settle_keeps (cw.le rfl) (settleLost_keeps (cw.le rfl) (stackFailed_keeps (cw.le rfl) h4)))
theorem appendMeas_keeps {W : Nat} {r : State} {s1 a2 a3 a4 a5 a6} (cw : Covers W 0x3000000000000000000000000) (h1 : Keeps W r s1) : Keeps W r (appendMeas s1 a2 a3 a4 a5 a6) := by
  delta appendMeas
  extract_lets +onlyGivenNames v1
  exact .upd cw h1
theorem measure_keeps {W : Nat} {r : State} {s1 a2 a3} (cw : Covers W 0x8) (h1 : Keeps W r s1) (h3 : ∀ y1, Keeps W r y1 → Keeps W r (a3 y1)) : Keeps W r (measure s1 a2 a3) := .ite (bumpR_keeps (cw.le rfl) h1) (h3 _ h1)
theorem noteDropped_keeps {W : Nat} {r : State} {s1 a2} (cw : Covers W 0x8) (h1 : Keeps W r s1) : Keeps W r (noteDropped s1 a2) := bumpN_keeps (cw.le rfl) h1
theorem proofServed_keeps {W : Nat} {r : State} {s1 a2} (cw : Covers W 0x20000000000000000000000000020000000000000000000000000) (h1 : Keeps W r s1) : Keeps W r (proofServed s1 a2) := by
  delta proofServed
  refine .foldl h1 ?_
  intro _ _ k3
  refine .ite ?_ k3
  extract_lets +onlyGivenNames v4
  exact .ite (endRun_keeps (cw.le rfl) (.upd cw k3)) (.upd cw k3)
theorem applyFallback_keeps {W : Nat} {r : State} {s1 a2 a3 a4} (cw : Covers W 0x3fe00002000400000000000000000000000000000000000000000000000018) (h1 : Keeps W r s1) : Keeps W r (applyFallback s1 a2 a3 a4) := by
  delta applyFallback
  extract_lets +onlyGivenNames v1
  split
  · extract_lets +onlyGivenNames v2
    exact record_keeps (cw.le rfl) (setObj_keeps (cw.le rfl) h1)
  · exact .ite h1 (setObj_keeps (cw.le rfl) h1)
theorem drawSectors_keeps {W : Nat} {r : State} {a1 a2 s3} (cw : Covers W 0x1) (h3 : Keeps W r s3) : Keeps2 W r (drawSectors a1 a2 s3) := by
  delta drawSectors
  refine .ite h3 ?_
  refine .foldl h3 ?_
  intro x2 a3 k1
  split
  rename_i t4 t5 t6 t7
  have k8 : Keeps W r t6 := Keeps2.of_eq t7 (draw_keeps (cw.le rfl) k1)
  exact k8
theorem drawSamples_keeps {W : Nat} {r : State} {s1 a2 a3 a4 a5} (cw : Covers W 0x1) (h1 : Keeps W r s1) : Keeps2 W r (drawSamples s1 a2 a3 a4 a5) := by
  delta drawSamples
  extract_lets +onlyGivenNames v1
  refine .ite ?_ ?_
  · extract_lets +onlyGivenNames v2
    exact drawSectors_keeps (cw.le rfl) h1
  · extract_lets +onlyGivenNames v3
    refine .foldl h1 ?_
    intro x5 a6 k4
    split
    rename_i t7 t8 t9 t10
    have k11 : Keeps W r t9 := Keeps2.of_eq t10 (drawSectors_keeps (cw.le rfl) k4)
    exact k11
theorem startPass_keeps {W : Nat} {r : State} {s1 a2 a3 a4 a5} (cw : Covers W 0x7fe00002020400000000000000000000000020403e00000000000000000019) (h1 : Keeps W r s1) : Keeps W r (startPass s1 a2 a3 a4 a5) := by
  delta startPass
  extract_lets +onlyGivenNames v1
  refine .ite (.ite h1 (proofServed_keeps (cw.le rfl) (bumpR_keeps (cw.le rfl) h1))) ?_
  split
  rename_i t2 t3 t4 t5
  have k6 : Keeps W r t4 := Keeps2.of_eq t5 (drawSamples_keeps (cw.le rfl) h1)
  extract_lets +onlyGivenNames v7 v8
  extract_lets +onlyGivenNames v9
  have k10 : Keeps W r v9 := .upd cw k6
  clear_value v9
  exact .foldl k10 (fun _ _ k11 => issueRead_keeps (cw.le rfl) k11)
theorem proofDone_keeps {W : Nat} {r : State} {s1 a2 a3 a4 a5} (cw : Covers W 0x7fe00002020400000000000000000000000027c03e00000000000000000019) (h1 : Keeps W r s1) : Keeps W r (proofDone s1 a2 a3 a4 a5) := by
  delta proofDone
  extract_lets +onlyGivenNames v1 v2 v3 v4 v5 v6 v7 v8 v9 v10 v11
  have k12 : Keeps W r v3 := noteDropped_keeps (cw.le rfl) h1
  clear_value v3
  have k16 : Keeps W r v6 := .foldl k12 (fun _ _ k13 => setObj_keeps (cw.le rfl) k13)
  clear_value v6
  have k21 : Keeps W r v7 := by
    unfold v7
    refine .foldl k16 ?_
    intro x18 a19 k17
    extract_lets +onlyGivenNames v20
    exact appendMeas_keeps (cw.le rfl) k17
  clear_value v7
  have k28 : Keeps W r v9 := by
    unfold v9
    split
    · exact k21
    · exact .upd cw k21
  clear_value v9
  have k29 : Keeps W r v10 := applyFallback_keeps (cw.le rfl) k28
  clear_value v10
  extract_lets +onlyGivenNames v30
  extract_lets +onlyGivenNames v31
  have k32 : Keeps W r v31 := .upd cw k29
  clear_value v31
  exact proofServed_keeps (cw.le rfl) (.ite k32 (startPass_keeps (cw.le rfl) k32))
theorem endConfirm_keeps {W : Nat} {r : State} {s1 a2} (cw : Covers W 0xc00000000000000000000000) (h1 : Keeps W r s1) : Keeps W r (endConfirm s1 a2) := .upd cw h1
theorem confirmDone_keeps {W : Nat} {r : State} {s1 a2 a3 a4 a5} (cw : Covers W 0x518000007fe00002000400000000000000000000000000c0080607e886000000000018) (h1 : Keeps W r s1) : Keeps W r (confirmDone s1 a2 a3 a4 a5) := by
  delta confirmDone
  extract_lets +onlyGivenNames v1 v2 v3
  have k4 : Keeps W r v3 := noteDropped_keeps (cw.le rfl) h1
  clear_value v3
  extract_lets +onlyGivenNames v5 v6 v7
  have k8 : Keeps W r v7 := by
    unfold v7
    refine .foldl k4 ?_
    intro _ _ k11
    extract_lets +onlyGivenNames v12
    exact markDue_keeps (cw.le rfl) (retireBlock_keeps (cw.le rfl) k11)
  clear_value v7
  extract_lets +onlyGivenNames v13
  exact endConfirm_keeps (cw.le rfl) (record_keeps (cw.le rfl) k8)
theorem planApply_keeps {W : Nat} {r : State} {s1} (cw : Covers W 0x3fe00002000400000000000000000000000000200000000000000000000018) (h1 : Keeps W r s1) : Keeps1 W r (planApply s1) := by
  delta planApply
  refine .ite (Keeps1.mk h1) ?_
  extract_lets +onlyGivenNames v1 v2 v3
  have k4 : Keeps W r v3 := setBlob_keeps (cw.le rfl) h1
  clear_value v3
  clear_value v2
  split
  · exact Keeps1.mk (record_keeps (cw.le rfl) k4)
  · exact Keeps1.mk (.upd cw k4)
theorem planRollback_keeps {W : Nat} {r : State} {s1} (cw : Covers W 0x200000000000000000000000) (h1 : Keeps W r s1) : Keeps1 W r (planRollback s1) := by
  delta planRollback
  refine .ite (Keeps1.mk h1) ?_
  split
  · exact Keeps1.mk h1
  · exact Keeps1.mk (.upd cw h1)
theorem restartPasses_keeps {W : Nat} {r : State} {s1} (cw : Covers W 0x7fe00002020400000000000000000000000020403e00000000000000000019) (h1 : Keeps W r s1) : Keeps W r (restartPasses s1) := by
  delta restartPasses
  extract_lets +onlyGivenNames v1 v2
  extract_lets +onlyGivenNames v3
  extract_lets +onlyGivenNames v4
  have k5 : Keeps W r v4 := .upd cw h1
  clear_value v4
  refine .foldl k5 ?_
  intro x7 a8 k6
  split
  exact startPass_keeps (cw.le rfl) k6
theorem planApplied_keeps {W : Nat} {r : State} {s1} (cw : Covers W 0xd58000007fe000f2820400000000000000000000000020783e0607e886000000000019) (h1 : Keeps W r s1) : Keeps W r (planApplied s1) := by
  delta planApplied
  split
  · exact h1
  · extract_lets +onlyGivenNames v7 v8 v9 v10 v11
    have k12 : Keeps W r v9 := .upd cw h1
    clear_value v9
    have k13 : Keeps W r v10 := restartPasses_keeps (cw.le rfl) k12
    clear_value v10
    have k14 : Keeps W r v11 := .ite (judgeSets_keeps (cw.le rfl) k13) k13
    clear_value v11
    extract_lets +onlyGivenNames v15
    have k16 : Keeps W r v15 := syncRecs_keeps (cw.le rfl) (setR_keeps (cw.le rfl) k14)
    clear_value v15
    exact .ite (endRun_keeps (cw.le rfl) (record_keeps (cw.le rfl) k16)) (endRun_keeps (cw.le rfl) (record_keeps (cw.le rfl) k16))
theorem judgeDie_keeps {W : Nat} {r : State} {s1 a2 a3 a4} (cw : Covers W 0x4000000000000000000000008) (h1 : Keeps W r s1) : Keeps W r (judgeDie s1 a2 a3 a4) := by
  delta judgeDie
  extract_lets +onlyGivenNames v1 v2 v3 v4 v5 v6 v7 v8
  have k9 : Keeps W r v8 := setObj_keeps (cw.le rfl) (setObj_keeps (cw.le rfl) h1)
  clear_value v8
  exact .upd cw k9
theorem judgeModule_keeps {W : Nat} {r : State} {s1} (cw : Covers W 0x3fe000020004000000000000000000000003c0000000000000000000000018) (h1 : Keeps W r s1) : Keeps W r (judgeModule s1) := by
  delta judgeModule
  extract_lets +onlyGivenNames v1 v2 v3 v4 v5 v6
  have k7 : Keeps W r v6 := .upd cw h1
  extract_lets +onlyGivenNames v8 v9
  have k10 : Keeps W r v9 := setR_keeps (cw.le rfl) (setR_keeps (cw.le rfl) (setR_keeps (cw.le rfl) k7))
  exact .ite (record_keeps (cw.le rfl) (.upd cw k10)) k10
theorem execProofPassStart_keeps {W : Nat} {r : State} {a1 a2 a3 s4} (cw : Covers W 0x7fe00002020400108000000000000000000020403e00000000000000000819) (h4 : Keeps W r s4) : KeepsOut W r (execProofPassStart a1 a2 a3 s4) := by
  delta execProofPassStart
  extract_lets +onlyGivenNames v1
  exact .ite (KeepsOut.next h4) (.ite (KeepsOut.next (proofServed_keeps (cw.le rfl) (bumpR_keeps (cw.le rfl) h4))) (.ite (KeepsOut.next h4) (KeepsOut.next (startPass_keeps (cw.le rfl) (leaveP2_keeps (cw.le rfl) h4)))))
theorem execProofPassDone_keeps {W : Nat} {r : State} {a1 a2 a3 a4 s5} (cw : Covers W 0x7fe00002020400000000000000000000000027c03e00000000000000000019) (h5 : Keeps W r s5) : KeepsOut W r (execProofPassDone a1 a2 a3 a4 s5) := by
  delta execProofPassDone
  refine KeepsOut.next ?_
  split
  · exact .ite h5 (proofDone_keeps (cw.le rfl) h5)
  · exact h5
theorem execConfirmPassDone_keeps {W : Nat} {r : State} {a1 a2 a3 a4 s5} (cw : Covers W 0xd1800003ffe000f28c041e0000000300000000040c0000c0480607e8c7b3000000383a) (h5 : Keeps W r s5) : KeepsOut W r (execConfirmPassDone a1 a2 a3 a4 s5) := by
  delta execConfirmPassDone
  refine KeepsOut.next ?_
  split
  · exact .ite (settle_keeps (cw.le rfl) (confirmDone_keeps (cw.le rfl) h5)) h5
  · exact h5
theorem clearLoops_keeps {W : Nat} {r : State} {s1 a2} (cw : Covers W 0x4000000000000000000000000) (h1 : Keeps W r s1) : Keeps W r (clearLoops s1 a2) := .upd cw h1
theorem hourDie_keeps {W : Nat} {r : State} {s1 a2 a3 a4} (cw : Covers W 0x7000000000000000000000008) (h1 : Keeps W r s1) : Keeps W r (hourDie s1 a2 a3 a4) := by
  delta hourDie
  extract_lets +onlyGivenNames v1 v2 v3 v4
  have k5 : Keeps W r v4 := measure_keeps (cw.le rfl) h1 (fun _ k7 => appendMeas_keeps (cw.le rfl) k7)
  clear_value v4
  extract_lets +onlyGivenNames v8
  have k9 : Keeps W r v8 := measure_keeps (cw.le rfl) k5 (fun _ k11 => appendMeas_keeps (cw.le rfl) k11)
  clear_value v8
  extract_lets +onlyGivenNames v12
  have k13 : Keeps W r v12 := setObj_keeps (cw.le rfl) k9
  clear_value v12
  exact judgeDie_keeps (cw.le rfl) (clearLoops_keeps (cw.le rfl) k13)
theorem execHourlyMeasurement_keeps {W : Nat} {r : State} {s1} (cw : Covers W 0x3fe000020004000000000000000000000003df000000000000000000000018) (h1 : Keeps W r s1) : KeepsOut W r (execHourlyMeasurement s1) := by
  delta execHourlyMeasurement
  refine .ite (KeepsOut.next h1) ?_
  extract_lets +onlyGivenNames v1
  have k2 : Keeps W r v1 := .foldl h1 (fun _ _ k5 => hourDie_keeps (cw.le rfl) k5)
  clear_value v1
  extract_lets +onlyGivenNames v6 v7
  have k8 : Keeps W r v7 := .foldl k2 (fun _ _ k11 => measure_keeps (cw.le rfl) k11 (fun _ k13 => appendMeas_keeps (cw.le rfl) k13))
  clear_value v7
  extract_lets +onlyGivenNames v14
  have k15 : Keeps W r v14 := .foldl k8 (fun _ _ k18 => measure_keeps (cw.le rfl) k18 (fun _ k20 => appendMeas_keeps (cw.le rfl) k20))
  clear_value v14
  extract_lets +onlyGivenNames v21
  have k22 : Keeps W r v21 := by
    unfold v21
    refine .foldl k15 ?_
    intro _ _ k25
    split
    · exact .ite (bumpR_keeps (cw.le rfl) k25) (appendMeas_keeps (cw.le rfl) k25)
    · exact bumpR_keeps (cw.le rfl) k25
  clear_value v21
  extract_lets +onlyGivenNames v26 v27
  have k28 : Keeps W r v27 := .upd cw k22
  clear_value v27
  exact KeepsOut.next (judgeModule_keeps (cw.le rfl) k28)
theorem execEyeMarginMeasurement_keeps {W : Nat} {r : State} {a1 a2 a3 a4 a5 a6 s7} (cw : Covers W 0x3000000000000000000000008) (h7 : Keeps W r s7) : KeepsOut W r (execEyeMarginMeasurement a1 a2 a3 a4 a5 a6 s7) := by
  delta execEyeMarginMeasurement
  extract_lets +onlyGivenNames v1 v2
  refine .ite ?_ (KeepsOut.next h7)
  extract_lets +onlyGivenNames v3
  exact KeepsOut.next (measure_keeps (cw.le rfl) h7 (fun _ k5 => appendMeas_keeps (cw.le rfl) k5))
theorem execEfficiencySample_keeps {W : Nat} {r : State} {a1 a2 a3 s4} (cw : Covers W 0x8000000000000000000000008) (h4 : Keeps W r s4) : KeepsOut W r (execEfficiencySample a1 a2 a3 s4) := by
  delta execEfficiencySample
  refine .ite (KeepsOut.next h4) ?_
  extract_lets +onlyGivenNames v1
  exact KeepsOut.next (.ite (bumpR_keeps (cw.le rfl) h4) (.upd cw h4))
theorem proofNow_keeps {W : Nat} {r : State} {a1 s2} (cw : Covers W 0x20000000000000000000000008) (h2 : Keeps W r s2) : Keeps1 W r (proofNow a1 s2) := by
  delta proofNow
  extract_lets +onlyGivenNames v1 v2 v3 v4
  have k5 : Keeps W r v4 := bumpN_keeps (cw.le rfl) h2
  clear_value v4
  exact .ite (Keeps1.mk k5) (Keeps1.mk (.upd cw k5))
theorem proofNowEffect_keeps {W : Nat} {r : State} {a1 a2 s3} (cw : Covers W 0x20000000000000000000000000020000000000000000000000008) (h3 : Keeps W r s3) : Keeps1 W r (proofNowEffect a1 a2 s3) := runCommand_keeps (cw.le rfl) (fun _ _ _ k4 => proofNow_keeps (cw.le rfl) k4) h3
theorem execProofNow_keeps {W : Nat} {r : State} {a1 a2 s3} (cw : Covers W 0x200000000000000000e840000000000000000000000002000000000000000000000000a) (h3 : Keeps W r s3) : KeepsOut W r (execProofNow a1 a2 s3) := KeepsOut.next (kdpObject_keeps (cw.le rfl) (fun _ _ _ k4 => proofNowEffect_keeps (cw.le rfl) k4) h3)
theorem execAgeExport_keeps {W : Nat} {r : State} {a1 s2} (cw : Covers W 0x200000000000000000c840000000000000000000000000000000000000000000000001a) (h2 : Keeps W r s2) : KeepsOut W r (execAgeExport a1 s2) := KeepsOut.next (kdpObject_keeps (cw.le rfl) (fun _ _ _ k4 => plainWrite_keeps (cw.le rfl) k4) h2)
theorem planApplyEffect_keeps {W : Nat} {r : State} {a1 a2 s3} (cw : Covers W 0x3fe00002020400000000000000000000000000200000000000000000000018) (h3 : Keeps W r s3) : Keeps1 W r (planApplyEffect a1 a2 s3) := runCommand_keeps (cw.le rfl) (fun _ _ _ k4 => planApply_keeps (cw.le rfl) k4) h3
theorem execPlanApply_keeps {W : Nat} {r : State} {a1 a2 s3} (cw : Covers W 0x2000000003fe000020e840000000000000000000000000020000000000000000000001a) (h3 : Keeps W r s3) : KeepsOut W r (execPlanApply a1 a2 s3) := KeepsOut.next (kdpObject_keeps (cw.le rfl) (fun _ _ _ k4 => planApplyEffect_keeps (cw.le rfl) k4) h3)
theorem execPlanApplied_keeps {W : Nat} {r : State} {s1} (cw : Covers W 0xd58000007fe000f2820400000000000000000000000020783e0607e886000000000019) (h1 : Keeps W r s1) : KeepsOut W r (execPlanApplied s1) := KeepsOut.next (planApplied_keeps (cw.le rfl) h1)
theorem planRollbackEffect_keeps {W : Nat} {r : State} {a1 a2 s3} (cw : Covers W 0x20000000000000000000000000000200000000000000000000000) (h3 : Keeps W r s3) : Keeps1 W r (planRollbackEffect a1 a2 s3) := runCommand_keeps (cw.le rfl) (fun _ _ _ k4 => planRollback_keeps (cw.le rfl) k4) h3
theorem execPlanRollback_keeps {W : Nat} {r : State} {a1 a2 s3} (cw : Covers W 0x200000000000000000e840000000000000000000000000020000000000000000000000a) (h3 : Keeps W r s3) : KeepsOut W r (execPlanRollback a1 a2 s3) := KeepsOut.next (kdpObject_keeps (cw.le rfl) (fun _ _ _ k4 => planRollbackEffect_keeps (cw.le rfl) k4) h3)
theorem scrubStart_keeps {W : Nat} {r : State} {a1 a2 s3} (cw : Covers W 0x108000000000000008000000000000000000000000000808) (h3 : Keeps W r s3) : Keeps1 W r (scrubStart a1 a2 s3) := by
  delta scrubStart
  extract_lets +onlyGivenNames v1 v2 v3
  refine .ite (Keeps1.mk h3) ?_
  refine .ite (Keeps1.mk h3) ?_
  extract_lets +onlyGivenNames v4 v5
  have k6 : Keeps W r v5 := leaveP2_keeps (cw.le rfl) h3
  clear_value v5
  exact Keeps1.mk (setR_keeps (cw.le rfl) (.upd cw k6))
theorem scrubStartEffect_keeps {W : Nat} {r : State} {a1 a2 s3} (cw : Covers W 0x20000108000000000000008000000000000000000000000000808) (h3 : Keeps W r s3) : Keeps1 W r (scrubStartEffect a1 a2 s3) := runCommand_keeps (cw.le rfl) (fun _ _ _ k4 => scrubStart_keeps (cw.le rfl) k4) h3
theorem execScrubStart_keeps {W : Nat} {r : State} {a1 a2 s3} (cw : Covers W 0x200000000000000000e840010800000000000000800000000000000000000000000080a) (h3 : Keeps W r s3) : KeepsOut W r (execScrubStart a1 a2 s3) := KeepsOut.next (kdpObject_keeps (cw.le rfl) (fun _ _ _ k4 => scrubStartEffect_keeps (cw.le rfl) k4) h3)
theorem scrubMeets_keeps {W : Nat} {r : State} {s1 a2} (cw : Covers W 0xf1900003ffe600f38c041e100000030000000027fc7810437e0e37e9dfffb97ffffcff) (h1 : Keeps W r s1) : Keeps W r (scrubMeets s1 a2) := by
  delta scrubMeets
  split
  · exact meetErrors_keeps (cw.le rfl) h1
  · split
    · exact h1
    · extract_lets +onlyGivenNames v1 v2
      have k3 : Keeps W r v2 := .foldl h1 (fun _ _ k6 => reachRung_keeps (cw.le rfl) k6)
      clear_value v2
      exact .ite (poisonRead_keeps (cw.le rfl) k3) (bump_keeps (cw.le rfl) (bumpR_keeps (cw.le rfl) k3))
theorem endScrub_keeps {W : Nat} {r : State} {s1 a2 a3 a4} (cw : Covers W 0xf1900003ffe600f38c041e10000003000000002ffc7810437e0e37e9dfffb97ffffcff) (h1 : Keeps W r s1) : Keeps W r (endScrub s1 a2 a3 a4) := by
  delta endScrub
  extract_lets +onlyGivenNames v1 v2 v3 v4 v5 v6
  have k7 : Keeps W r v6 := .foldl (.upd cw h1) (fun _ _ k10 => scrubMeets_keeps (cw.le rfl) k10)
  clear_value v6
  extract_lets +onlyGivenNames v11 v12 v13 v14
  have k15 : Keeps W r v14 := setBlob_keeps (cw.le rfl) (setR_keeps (cw.le rfl) k7)
  clear_value v14
  exact record_keeps (cw.le rfl) k15
theorem scrubAbortEffect_keeps {W : Nat} {r : State} {a1 a2 a3 s4} (cw : Covers W 0xf1900003ffe600f38e041e10000003000000002ffc7810437e0e37e9dfffb97ffffcff) (h4 : Keeps W r s4) : Keeps1 W r (scrubAbortEffect a1 a2 a3 s4) := by
  refine runCommand_keeps (cw.le rfl) ?_ h4
  intro _ _ _ k9
  split
  · exact Keeps1.mk (endScrub_keeps (cw.le rfl) k9)
  · exact Keeps1.mk k9
theorem execScrubAbort_keeps {W : Nat} {r : State} {a1 a2 a3 s4} (cw : Covers W 0x2f1900003ffe600f38e841e10000003000000002ffc7810437e0e37e9dfffb97ffffcff) (h4 : Keeps W r s4) : KeepsOut W r (execScrubAbort a1 a2 a3 s4) :=
  KeepsOut.next (settle_keeps (cw.le rfl) (kdpObject_keeps (cw.le rfl) (fun _ _ _ k5 => scrubAbortEffect_keeps (cw.le rfl) k5) h4))
theorem execScrubDone_keeps {W : Nat} {r : State} {a1 a2 s3} (cw : Covers W 0xf1900003ffe600f38c041e10000003000000002ffc7810437e0e37e9dfffb97ffffcff) (h3 : Keeps W r s3) : KeepsOut W r (execScrubDone a1 a2 s3) := by
  delta execScrubDone
  refine KeepsOut.next ?_
  split
  · exact h3
  · split
    · exact settle_keeps (cw.le rfl) (endScrub_keeps (cw.le rfl) h3)
    · split
      · refine .ite ?_ h3
        extract_lets +onlyGivenNames v1
        have k2 : Keeps W r v1 := .foldl h3 (fun _ _ k5 => scrubMeets_keeps (cw.le rfl) k5)
        clear_value v1
        exact settle_keeps (cw.le rfl) (haltIntegrity_keeps (cw.le rfl) k2)
      · exact h3
theorem abortScrub_keeps {W : Nat} {r : State} {s1} (cw : Covers W 0x3fe00002000400000000000000000008000000000000000000000000000018) (h1 : Keeps W r s1) : Keeps W r (abortScrub s1) := by
  delta abortScrub
  split
  · exact h1
  · extract_lets +onlyGivenNames v1 v2
    have k3 : Keeps W r v2 := setBlob_keeps (cw.le rfl) (setR_keeps (cw.le rfl) (.upd cw h1))
    clear_value v2
    exact record_keeps (cw.le rfl) k3
theorem custodianRule_keeps {W : Nat} {r : State} {a1 a2 s3} (cw : Covers W 0x80000000000000f0800000000000000000000000020000000000000000000000000008) (h3 : Keeps W r s3) : Keeps1 W r (custodianRule a1 a2 s3) := by
  delta custodianRule
  split
  · extract_lets +onlyGivenNames v1 v2 v3
    have k4 : Keeps W r v3 := .upd cw h3
    clear_value v3
    exact Keeps1.mk (syncRecs_keeps (cw.le rfl) (setR_keeps (cw.le rfl) k4))
  · exact Keeps1.mk h3
theorem execCustodianKey_keeps {W : Nat} {r : State} {a1 a2 s3} (cw : Covers W 0x280000000000000f08c840000000000000000000002000000000000000000000000000a) (h3 : Keeps W r s3) : KeepsOut W r (execCustodianKey a1 a2 s3) := KeepsOut.next (kdpObject_keeps (cw.le rfl) (fun _ _ _ k4 => custodianRule_keeps (cw.le rfl) k4) h3)
theorem keyRotate_keeps {W : Nat} {r : State} {a1 a2 s3} (cw : Covers W 0x800000007fe000f280040000000000000000000001c000003e00000000000000000019) (h3 : Keeps W r s3) : Keeps1 W r (keyRotate a1 a2 s3) := by
  delta keyRotate
  extract_lets +onlyGivenNames v1 v2
  refine .ite (Keeps1.mk h3) ?_
  refine .ite (Keeps1.mk h3) ?_
  extract_lets +onlyGivenNames v3
  split
  · rename_i t4 x5 t6 e7
    have k8 : Keeps W r t6 := Keeps2.of_eq e7 (drawKey_keeps (cw.le rfl) h3)
    extract_lets +onlyGivenNames v9
    have k10 : Keeps W r v9 := setR_keeps (cw.le rfl) (putDom_keeps (cw.le rfl) k8)
    clear_value v9
    extract_lets +onlyGivenNames v11
    have k12 : Keeps W r v11 := syncRecs_keeps (cw.le rfl) (setR_keeps (cw.le rfl) k10)
    clear_value v11
    exact Keeps1.mk (rekeyNext_keeps (cw.le rfl) (record_keeps (cw.le rfl) k12))
theorem keyRotateEffect_keeps {W : Nat} {r : State} {a1 a2 s3} (cw : Covers W 0x800000007fe000f282040000000000000000000001c000003e00000000000000000019) (h3 : Keeps W r s3) : Keeps1 W r (keyRotateEffect a1 a2 s3) := runCommand_keeps (cw.le rfl) (fun _ _ _ k4 => keyRotate_keeps (cw.le rfl) k4) h3
theorem execKeyRotate_keeps {W : Nat} {r : State} {a1 a2 s3} (cw : Covers W 0x2d1800003ffe000f28e841e0000000300000000040dc000007e0607e8c7b3000000383b) (h3 : Keeps W r s3) : KeepsOut W r (execKeyRotate a1 a2 s3) := KeepsOut.next (settle_keeps (cw.le rfl) (kdpObject_keeps (cw.le rfl) (fun _ _ _ k4 => keyRotateEffect_keeps (cw.le rfl) k4) h3))
theorem execRekeyDone_keeps {W : Nat} {r : State} {a1 s2} (cw : Covers W 0x800000003fe000f280040000000000000000000000c000000000000000000000000018) (h2 : Keeps W r s2) : KeepsOut W r (execRekeyDone a1 s2) := by
  delta execRekeyDone
  extract_lets +onlyGivenNames v1
  refine .ite (KeepsOut.next h2) ?_
  extract_lets +onlyGivenNames v2 v3
  have k4 : Keeps W r v3 := setR_keeps (cw.le rfl) (putDom_keeps (cw.le rfl) (destroyKey_keeps (cw.le rfl) h2))
  clear_value v3
  exact KeepsOut.next (record_keeps (cw.le rfl) (syncRecs_keeps (cw.le rfl) k4))
theorem dropStaged_keeps {W : Nat} {r : State} {s1 a2} (cw : Covers W 0x4000000000000000003b30000000408) (h1 : Keeps W r s1) : Keeps W r (dropStaged s1 a2) := by
  delta dropStaged
  extract_lets +onlyGivenNames v1 v2 v3 v4 v5 v6 v7 v8 v9 v10
  have k11 : Keeps W r v10 := .wharf cw h1 (AMap.wf_filter · _) (AMap.wf_filter · _)
  clear_value v10
  extract_lets +onlyGivenNames v12
  have k13 : Keeps W r v12 := cancelDescs_keeps (cw.le rfl) (indexChange_keeps (cw.le rfl) k11)
  clear_value v12
  exact .ite (unpin_keeps (cw.le rfl) k13) k13
theorem stopRekey_keeps {W : Nat} {r : State} {s1 a2} (cw : Covers W 0x200000002000000000000) (h1 : Keeps W r s1) : Keeps W r (stopRekey s1 a2) := by
  delta stopRekey
  extract_lets +onlyGivenNames v1 v2 v3
  have k4 : Keeps W r v3 := setLighters_keeps (cw.le rfl) h1
  clear_value v3
  extract_lets +onlyGivenNames v5
  exact .upd cw k4
theorem dropPlates_keeps {W : Nat} {r : State} {s1 a2} (cw : Covers W 0x8000000000000000000) (h1 : Keeps W r s1) : Keeps W r (dropPlates s1 a2) := .upd cw h1
theorem keyDestroy_keeps {W : Nat} {r s : State} {c v} (cw : Covers W 0xd1800003ffe000f28c041e0000000300000000040dc000004a0e07e8c7b30804003c3b) (h : Keeps W r s) : Keeps1 W r (keyDestroy c v s) := by
  delta keyDestroy
  extract_lets +onlyGivenNames k
  refine .ite (Keeps1.mk h) ?_
  refine Keeps1.mk (settle_keeps (cw.le rfl) (settleLevel_keeps (cw.le rfl) (record_keeps (cw.le rfl) (.ite (createDomain_keeps (cw.le rfl) ?_) (syncRecs_keeps (cw.le rfl) ?_)))))
  all_goals
    refine dropPlates_keeps (cw.le rfl) (hcDrop_keeps (cw.le rfl) (.foldl ?_ fun _ _ k => dropStaged_keeps (cw.le rfl) k))
    exact setR_keeps (cw.le rfl) (setR_keeps (cw.le rfl) (putDom_keeps (cw.le rfl) (stopRekey_keeps (cw.le rfl) (destroyKey_keeps (cw.le rfl) (destroyKey_keeps (cw.le rfl) h)))))
theorem keyDestroyEffect_keeps {W : Nat} {r : State} {a1 a2 s3} (cw : Covers W 0xd1800003ffe000f28e041e0000000300000000040dc000004a0e07e8c7b30804003c3b) (h3 : Keeps W r s3) : Keeps1 W r (keyDestroyEffect a1 a2 s3) := runCommand_keeps (cw.le rfl) (fun _ _ _ k4 => keyDestroy_keeps (cw.le rfl) k4) h3
theorem execKeyDestroy_keeps {W : Nat} {r : State} {a1 a2 s3} (cw : Covers W 0x2d1800003ffe000f28e841e0000000300000000040dc000004a0e07e8c7b30804003c3b) (h3 : Keeps W r s3) : KeepsOut W r (execKeyDestroy a1 a2 s3) := KeepsOut.next (kdpObject_keeps (cw.le rfl) (fun _ _ _ k4 => keyDestroyEffect_keeps (cw.le rfl) k4) h3)
theorem protApply_keeps {W : Nat} {r : State} {a1 a2 s3} (cw : Covers W 0x80000000000100f0800000000000000000000010000000000000000000000000000008) (h3 : Keeps W r s3) : Keeps1 W r (protApply a1 a2 s3) := by
  delta protApply
  extract_lets +onlyGivenNames v1 v2 v3
  exact .ite (Keeps1.mk (configChanged_keeps (cw.le rfl) (.upd cw h3))) (.ite (Keeps1.mk h3) (.ite (Keeps1.mk (configChanged_keeps (cw.le rfl) (.upd cw h3))) (Keeps1.mk h3)))
theorem protApplyEffect_keeps {W : Nat} {r : State} {a1 a2 s3} (cw : Covers W 0x80000000000100f0820000000000000000000010000000000000000000000000000008) (h3 : Keeps W r s3) : Keeps1 W r (protApplyEffect a1 a2 s3) := runCommand_keeps (cw.le rfl) (fun _ _ _ k4 => protApply_keeps (cw.le rfl) k4) h3
theorem execProtApply_keeps {W : Nat} {r : State} {a1 a2 s3} (cw : Covers W 0x280000000000100f08e840000000000000000001000000000000000000000000000000a) (h3 : Keeps W r s3) : KeepsOut W r (execProtApply a1 a2 s3) := KeepsOut.next (kdpObject_keeps (cw.le rfl) (fun _ _ _ k4 => protApplyEffect_keeps (cw.le rfl) k4) h3)
end Sys2Proof.Machine
end

