-- ==== Sys2Proof/Laws/KeepsPower.lean ====
section
/-! SUPPORT. What power, start, resets and power states keep: one lemma per operation (Laws/Keeps.lean). -/
set_option linter.unusedVariables false
set_option maxRecDepth 4000
set_option Elab.async false
namespace Sys2Proof.Machine
open Sys2Proof

theorem trackAll_keeps {W : Nat} {r : State} {s1 s2} (cw : Covers W 0x8) (h1 : Keeps W r s1) (h2 : Keeps W r s2) : Keeps W r (trackAll s1 s2) := track_keeps (cw.le rfl) h1 h2
theorem setBankState_keeps {W : Nat} {r : State} {s1 a2 a3} (cw : Covers W 0x8) (h1 : Keeps W r s1) : Keeps W r (setBankState s1 a2 a3) := setObj_keeps (cw.le rfl) h1
theorem stacksAway_keeps {W : Nat} {r : State} {s1 a2} (cw : Covers W 0xd1800003ffe000f28c041e0000000300000000240c7800407e3f07e8c7bfb80ffffcfb) (h1 : Keeps W r s1) : Keeps W r (stacksAway s1 a2) := by
  delta stacksAway
  extract_lets +onlyGivenNames v1 v2
  extract_lets +onlyGivenNames v3
  have k4 : Keeps W r v3 := .upd cw h1
  exact .ite (settle_keeps (cw.le rfl) (settleLost_keeps (cw.le rfl) (holdRebuilds_keeps (cw.le rfl) (degradeReads_keeps (cw.le rfl) (voidDeadPlates_keeps (cw.le rfl) (voidDeadPlates_keeps (cw.le rfl) k4)))))) k4
theorem resumeRekeys_keeps {W : Nat} {r : State} {s1} (cw : Covers W 0x7fe00002000400000000000000000000000000003e00000000000000000018) (h1 : Keeps W r s1) : Keeps W r (resumeRekeys s1) := .foldl h1 (fun _ _ k1 => rekeyNext_keeps (cw.le rfl) k1)
theorem resumeConfirms_keeps {W : Nat} {r : State} {s1} (cw : Covers W 0x7fe00002020400000000000000000000000020403e00000000000000000019) (h1 : Keeps W r s1) : Keeps W r (resumeConfirms s1) := by
  delta resumeConfirms
  refine .foldl h1 ?_
  intro x2 a3 k1
  split
  exact startPass_keeps (cw.le rfl) k1
theorem stacksBack_keeps {W : Nat} {r : State} {s1 a2} (cw : Covers W 0xd1800003ffe000f28e041e0000000300000000040c0020407e0707e8c7b3000000383b) (h1 : Keeps W r s1) : Keeps W r (stacksBack s1 a2) := by
  delta stacksBack
  extract_lets +onlyGivenNames v1 v2
  extract_lets +onlyGivenNames v3
  have k4 : Keeps W r v3 := .upd cw h1
  refine .ite ?_ k4
  extract_lets +onlyGivenNames v5
  have k6 : Keeps W r v5 := resumeRekeys_keeps (cw.le rfl) (reissueCopies_keeps (cw.le rfl) k4)
  clear_value v5
  exact settle_keeps (cw.le rfl) (resumeConfirms_keeps (cw.le rfl) k6)
theorem bankOff_keeps {W : Nat} {r : State} {s1 a2 a3} (cw : Covers W 0xd18000b3ffe000f28e041e0000000300040080240c7800407e3f07e8c7bfb80ffffcfb) (h1 : Keeps W r s1) : Keeps W r (bankOff s1 a2 a3) := by
  delta bankOff
  extract_lets +onlyGivenNames v1 v2
  have k3 : Keeps W r v2 := .upd cw h1
  clear_value v2
  extract_lets +onlyGivenNames v4 v5
  have k6 : Keeps W r v5 := .foldl (.foldl k3 (fun _ _ k9 => abortLoop_keeps (cw.le rfl) k9)) (fun _ _ k12 => abortStackTest_keeps (cw.le rfl) k12)
  clear_value v5
  exact stacksAway_keeps (cw.le rfl) (setBankState_keeps (cw.le rfl) k6)
theorem bankOn_keeps {W : Nat} {r : State} {s1 a2} (cw : Covers W 0x5088000000000000000000000000000000008) (h1 : Keeps W r s1) : Keeps W r (bankOn s1 a2) := by
  delta bankOn
  extract_lets +onlyGivenNames v1 v2 v3
  have k4 : Keeps W r v3 := .upd cw h1
  clear_value v3
  exact setBankState_keeps (cw.le rfl) (.upd cw k4)
theorem notePending_keeps {W : Nat} {r : State} {s1} (cw : Covers W 0x3fe00002000400000000040000000000000000000000000000000000000018) (h1 : Keeps W r s1) : Keeps W r (notePending s1) := by
  delta notePending
  extract_lets +onlyGivenNames v1 v2
  exact recordHm_keeps (cw.le rfl) (.upd cw h1)
theorem settleFlushArea_keeps {W : Nat} {r : State} {s1} (cw : Covers W 0xd1800003ffe000f28c041e0000000700000000040c000000480607e8c7b3a00000383a) (h1 : Keeps W r s1) : Keeps W r (settleFlushArea s1) := by
  delta settleFlushArea
  extract_lets +onlyGivenNames v1
  exact .ite h1 (.ite (notePending_keeps (cw.le rfl) h1) (settle_keeps (cw.le rfl) (releaseBerth_keeps (cw.le rfl) (.upd cw h1))))
theorem clearObjs_keeps {W : Nat} {r s : State} {p} (cw : Covers W 0x8) (h : Keeps W r s) : Keeps W r (clearObjs p s) :=
  h.step cw rfl (Nat.le_refl _) (List.suffix_refl _) fun c => { c with objs := AMap.wf_filter c.objs _ }
theorem resetPorts_keeps {W : Nat} {r : State} {a1 s2} (cw : Covers W 0xe8) (h2 : Keeps W r s2) : Keeps W r (resetPorts a1 s2) := by
  delta resetPorts
  extract_lets +onlyGivenNames v1 v2 v3 v4
  have k5 : Keeps W r v2 := clearObjs_keeps (cw.le rfl) h2
  clear_value v2
  have k14 : Keeps W r v4 := by
    unfold v4
    refine .foldl k5 ?_
    intro x7 a8 k6
    unfold v3
    extract_lets +onlyGivenNames v9 v10 v11
    have k12 : Keeps W r v10 := putPort_keeps (cw.le rfl) k6
    clear_value v10
    have k13 : Keeps W r v11 := setObj_keeps (cw.le rfl) k12
    clear_value v11
    exact .ite (setObj_keeps (cw.le rfl) k13) k13
  clear_value v4
  exact .upd cw k14
theorem resetNets_keeps {W : Nat} {r : State} {s1} (cw : Covers W 0xc0000000000000000000000000000000000000000000000000008) (h1 : Keeps W r s1) : Keeps W r (resetNets s1) := by
  delta resetNets
  extract_lets +onlyGivenNames v1
  have k2 : Keeps W r v1 := clearObjs_keeps (cw.le rfl) h1
  clear_value v1
  extract_lets +onlyGivenNames v3 v4
  have k5 : Keeps W r v4 := by
    unfold v4
    unfold v3
    exact setObj_keeps (cw.le rfl) (setObj_keeps (cw.le rfl) k2)
  clear_value v4
  extract_lets +onlyGivenNames v6
  exact .upd cw k5
theorem resetSessions_keeps {W : Nat} {r : State} {s1} (cw : Covers W 0x20008000000035c00000000000000000000000000000000000000000000000008) (h1 : Keeps W r s1) : Keeps W r (resetSessions s1) := by
  delta resetSessions
  extract_lets +onlyGivenNames v1 v2
  have k3 : Keeps W r v2 := .upd cw h1
  clear_value v2
  extract_lets +onlyGivenNames v4
  extract_lets +onlyGivenNames v5
  extract_lets +onlyGivenNames v6
  have k7 : Keeps W r v6 := .upd cw k3
  clear_value v6
  exact setR_keeps (cw.le rfl) k7
theorem resetKdp_keeps {W : Nat} {r : State} {s1} (cw : Covers W 0x20008000000035c00000000000000000000000000000000000000000000000008) (h1 : Keeps W r s1) : Keeps W r (resetKdp s1) := by
  delta resetKdp
  extract_lets +onlyGivenNames v1
  have k2 : Keeps W r v1 := resetSessions_keeps (cw.le rfl) h1
  clear_value v1
  exact .upd cw k2
theorem interruptRekeys_keeps {W : Nat} {r : State} {s1} (cw : Covers W 0x4000000200000000000000000000) (h1 : Keeps W r s1) : Keeps W r (interruptRekeys s1) := .upd cw h1
theorem loseFabric_keeps {W : Nat} {r : State} {a1 s2} (cw : Covers W 0x401603f0080000000f5c00000000000000000008004020609a0000001a209f4d9ffee8) (h2 : Keeps W r s2) : Keeps W r (loseFabric a1 s2) := by
  delta loseFabric
  extract_lets +onlyGivenNames v1 v2 v3 v4
  have k5 : Keeps W r v1 := resetKdp_keeps (cw.le rfl) (resetNets_keeps (cw.le rfl) (resetPorts_keeps (cw.le rfl) h2))
  clear_value v1
  extract_lets +onlyGivenNames v6 v7
  extract_lets +onlyGivenNames v8 v9
  have k10 : Keeps W r v9 := .dir cw k5 (fun _ => rfl) (fun _ => rfl)
  clear_value v9
  extract_lets +onlyGivenNames v11
  extract_lets +onlyGivenNames v12
  extract_lets +onlyGivenNames v13
  have k14 : Keeps W r v13 := interruptRekeys_keeps (cw.le rfl) (.upd cw k10)
  clear_value v13
  exact clearObjs_keeps (cw.le rfl) k14
theorem loseHbm_keeps {W : Nat} {r s : State} (cw : Covers W 0x31c0000025a000000000000000100000000000040000000000083281fbfb0000000008) (h : Keeps W r s) : Keeps W r (loseHbm s) := by
  delta loseHbm
  extract_lets +onlyGivenNames a b d e f s1
  refine clearObjs_keeps (cw.le rfl) ?_
  exact h.step cw rfl (Nat.le_refl _) (List.suffix_refl _) fun c => { c with entries := rfl, markers := rfl, map := rfl }
theorem loseBerth_keeps {W : Nat} {r : State} {s1} (cw : Covers W 0xa080000000) (h1 : Keeps W r s1) : Keeps W r (loseBerth s1) := .hc cw h1 (fun _ => rfl)
theorem putDump_keeps {W : Nat} {r s : State} {b d} (cw : Covers W 0xc000000000000000000000000000000000000000) (h : Keeps W r s) (hd : Watch.Canonical s.watch → dumpWf d = true) : Keeps W r (putDump s b d) := by
  unfold putDump
  split
  · exact h.step cw rfl (Nat.le_refl _) (List.suffix_refl _) fun c => { c with dump0 := hd c }
  · exact h.step cw rfl (Nat.le_refl _) (List.suffix_refl _) fun c => { c with dump1 := hd c }
theorem setBufState_keeps {W : Nat} {r : State} {s1 a2 a3} (cw : Covers W 0x8) (h1 : Keeps W r s1) : Keeps W r (setBufState s1 a2 a3) := setObj_keeps (cw.le rfl) h1
theorem BerthLine.leaves_ne {l : BerthLine} (h : l ≠ {}) : l.leaves ≠ {} := by
  unfold BerthLine.leaves
  split
  · exact h
  · exact fun e => absurd (show BitVec.allOnes 64 = (0 : ByteMask) from congrArg BerthLine.poison e) (by decide)
theorem berthMemWf_leaves {m : AMap BerthLine} (h : berthMemWf m = true) : berthMemWf (m.map fun p => (p.1, p.2.leaves)) = true := by
  simp only [berthMemWf, Bool.and_eq_true] at h ⊢
  refine ⟨AMap.wf_map h.1 _ fun _ => rfl, ?_⟩
  rw [List.all_map]
  refine List.all_eq_true.2 fun p hp => ?_
  have := List.all_eq_true.1 h.2 p hp
  simp only [decide_eq_true_eq, Function.comp] at this ⊢
  exact BerthLine.leaves_ne this
theorem captureDump_keeps {W : Nat} {r s : State} {stores cause at_ mib q} (cw : Covers W 0x80000000000000f080000000000000c000000000000000000000000000008000000008) (h : Keeps W r s) : Keeps1 W r (captureDump s stores cause at_ mib q) := by
  delta captureDump
  split
  · exact h
  · extract_lets +onlyGivenNames seq away spill s1 s2 s3
    have h1 : Keeps W r s1 := by
      refine setBufState_keeps (cw.le rfl) (putDump_keeps (cw.le rfl) h fun c => ?_)
      simp only [dumpWf, makeDump]
      split
      · exact berthMemWf_leaves c.berth
      · rfl
    have h2 : Keeps W r s2 := .ite (setBufState_keeps (cw.le rfl) h1) h1
    have h3 : Keeps W r s3 := .ite (setObj_keeps (cw.le rfl) h2) h2
    exact syncRec_keeps (cw.le rfl) h3
theorem railsDown_keeps {W : Nat} {r : State} {s1 a2} (cw : Covers W 0x171df03f02da000000f5cffffe7f85725df1e898c004020609a083281fbfbbfcd9ffeec) (h1 : Keeps W r s1) : Keeps W r (railsDown s1 a2) := by
  delta railsDown
  extract_lets +onlyGivenNames v1 v2
  have k3 : Keeps W r v1 := loseBerth_keeps (cw.le rfl) (loseHbm_keeps (cw.le rfl) (loseFabric_keeps (cw.le rfl) h1))
  clear_value v1
  have k4 : Keeps W r v2 := clearObjs_keeps (cw.le rfl) k3
  clear_value v2
  exact .upd cw k4
theorem lastRecord_keeps {W : Nat} {r : State} {s1 a2 a3 a4 a5} (cw : Covers W 0x800000003fe0c5ffc20400000000000000000000000000000000000000000000000018) (h1 : Keeps W r s1) : Keeps W r (lastRecord s1 a2 a3 a4 a5) := by
  delta lastRecord
  extract_lets +onlyGivenNames v1 v2
  have k3 : Keeps W r v2 := syncRec_keeps (cw.le rfl) (.upd cw h1)
  clear_value v2
  exact storeNow_keeps (cw.le rfl) (writeOpsec_keeps (cw.le rfl) k3)
theorem downCold_keeps {W : Nat} {r : State} {s1 a2 a3 a4} (cw : Covers W 0x1f1df03f03fe0c5ffcf5cffffe7f85725df1e898c004020609a083281fbfbbfed9ffefc) (h1 : Keeps W r s1) : Keeps W r (downCold s1 a2 a3 a4) := by
  delta downCold
  extract_lets +onlyGivenNames v0 v1
  have k0 : Keeps W r v0 := abortScrub_keeps (cw.le rfl) (.ite (addResidency_keeps (cw.le rfl) h1) h1)
  clear_value v0
  exact railsDown_keeps (cw.le rfl) (lastRecord_keeps (cw.le rfl) k0)
theorem serdesOff_keeps {W : Nat} {r : State} {s1 a2} (cw : Covers W 0x28) (h1 : Keeps W r s1) : Keeps W r (serdesOff s1 a2) := by
  delta serdesOff
  extract_lets +onlyGivenNames v1
  have k2 : Keeps W r v1 := setObj_keeps (cw.le rfl) (setObj_keeps (cw.le rfl) (setObj_keeps (cw.le rfl) (setObj_keeps (cw.le rfl) h1)))
  clear_value v1
  exact putPort_keeps (cw.le rfl) k2
theorem finishSome_keeps {W : Nat} {r : State} {s1 a2} (cw : Covers W 0x7fe0000200041e0000000000000000040000000000080000463f2804002c19) (h1 : Keeps W r s1) : Keeps W r (finishSome s1 a2) :=
  Keeps1.fst (.foldl (Keeps1.mk h1) (fun _ _ k3 => finishMaybe_keeps (cw.le rfl) k3))
theorem setFrozen_keeps {W : Nat} {r : State} {s1 a2} (cw : Covers W 0x10000000000000000000000000000000000000000000000000000000000000000000008) (h1 : Keeps W r s1) : Keeps W r (setFrozen s1 a2) := by
  delta setFrozen
  extract_lets +onlyGivenNames v1
  have k2 : Keeps W r v1 := setR_keeps (cw.le rfl) h1
  exact .upd cw k2
theorem beginFlush_keeps {W : Nat} {r : State} {s1 a2} (cw : Covers W 0x1d19401f3ffe000f28e043e10a40003201000000c0c0000004a0e07e8cfbfa807fffcff) (h1 : Keeps W r s1) : Keeps W r (beginFlush s1 a2) := by
  delta beginFlush
  extract_lets +onlyGivenNames v1
  have k2 : Keeps W r v1 := abortTests_keeps (cw.le rfl) (walkDone_keeps (cw.le rfl) h1)
  clear_value v1
  extract_lets +onlyGivenNames v3
  have k4 : Keeps W r v3 := .foldl k2 (fun _ _ k7 => fencePort_keeps (cw.le rfl) k7)
  clear_value v3
  extract_lets +onlyGivenNames v8
  have k9 : Keeps W r v8 := endHostWork_keeps (cw.le rfl) (fun _ _ k12 => finishSome_keeps (cw.le rfl) k12) (abortScrub_keeps (cw.le rfl) k4)
  clear_value v8
  extract_lets +onlyGivenNames v13
  have k14 : Keeps W r v13 := .foldl k9 (fun _ _ k17 => serdesOff_keeps (cw.le rfl) k17)
  clear_value v13
  extract_lets +onlyGivenNames v18
  have k19 : Keeps W r v18 := setPstate_keeps (cw.le rfl) (addResidency_keeps (cw.le rfl) k14)
  clear_value v18
  extract_lets +onlyGivenNames v20
  have k21 : Keeps W r v20 := bump_keeps (cw.le rfl) (setR_keeps (cw.le rfl) (setFrozen_keeps (cw.le rfl) k19))
  clear_value v20
  extract_lets +onlyGivenNames v22 v23 v24 v25 v26 v27
  have k28 : Keeps W r v27 := .upd cw k21
  clear_value v27
  exact drivePins_keeps (cw.le rfl) (.upd cw k28)
theorem powerFailure_keeps {W : Nat} {r : State} {s1 a2 a3 a4} (cw : Covers W 0x1f1df03f3ffe0c5ffcf5cffffe7f85f25df1e898c0c402060da0e37e9ffffbfeffffeff) (h1 : Keeps W r s1) : Keeps W r (powerFailure s1 a2 a3 a4) := by
  delta powerFailure
  extract_lets +onlyGivenNames v1 v2 v3
  have k4 : Keeps W r v3 := .upd cw h1
  clear_value v3
  extract_lets +onlyGivenNames v5 v6
  have k7 : Keeps W r v6 := .ite k4 (recordHm_keeps (cw.le rfl) k4)
  clear_value v6
  extract_lets +onlyGivenNames v0 v8
  split
  · exact k7
  · exact k7
  · refine trackAll_keeps (cw.le rfl) h1 ?_
    refine downCold_keeps (cw.le rfl) ?_
    unfold v8
    exact .ite k7 (.upd cw k7)
  · refine trackAll_keeps (cw.le rfl) h1 ?_
    refine downCold_keeps (cw.le rfl) ?_
    unfold v8
    exact .ite k7 (.upd cw k7)
  · refine trackAll_keeps (cw.le rfl) h1 ?_
    refine downCold_keeps (cw.le rfl) ?_
    unfold v8
    exact .ite k7 (.upd cw k7)
  · extract_lets +onlyGivenNames v9
    refine .ite ?_ ?_
    · refine trackAll_keeps (cw.le rfl) h1 ?_
      refine downCold_keeps (cw.le rfl) ?_
      unfold v8
      exact .ite k7 (.upd cw k7)
    · extract_lets +onlyGivenNames v10 v11
      refine trackAll_keeps (cw.le rfl) h1 ?_
      refine beginFlush_keeps (cw.le rfl) ?_
      unfold v8
      exact .ite k7 (.upd cw k7)
  · split
    · exact .upd cw k7
    · exact k7
  · split
    · exact k7
    · extract_lets +onlyGivenNames x
      have kd : Keeps W r x := setFrozen_keeps (cw.le rfl) (abortScrub_keeps (cw.le rfl) k7)
      clear_value x
      unfold v8
      exact .ite (.upd cw kd) (.upd cw kd)
theorem flushDone_keeps {W : Nat} {r : State} {s1 a2 a3 a4 a5} (cw : Covers W 0x1f1df03f03fe0c5ffcf5cffffe7f857e5df1e898c204020609a083281fbfbbfed9ffefc) (h1 : Keeps W r s1) : Keeps W r (flushDone s1 a2 a3 a4 a5) := by
  delta flushDone
  split
  · exact h1
  · extract_lets +onlyGivenNames v1
    have k2 : Keeps W r v1 := h1
    clear_value v1
    extract_lets +onlyGivenNames v3
    have k4 : Keeps W r v3 := setObj_keeps (cw.le rfl) h1
    clear_value v3
    refine .ite ?_ ?_
    · split
      · rename_i t5 t6 x7 e8
        have k9 : Keeps W r t6 := Keeps1.of_eq e8 (.ite (Keeps1.mk k4) (captureDump_keeps (cw.le rfl) k4))
        extract_lets +onlyGivenNames v10 v11 v12 v13
        have k14 : Keeps W r v13 := .upd cw k9
        clear_value v13
        extract_lets +onlyGivenNames v15
        exact trackAll_keeps (cw.le rfl) k2 (railsDown_keeps (cw.le rfl) (lastRecord_keeps (cw.le rfl) k14))
    · refine .ite ?_ k4
      split
      · rename_i t16 t17 x18 e19
        have k20 : Keeps W r t17 := Keeps1.of_eq e19 (captureDump_keeps (cw.le rfl) k4)
        extract_lets +onlyGivenNames v21
        split
        · extract_lets +onlyGivenNames v22
          have k23 : Keeps W r v22 := setBlob_keeps (cw.le rfl) k20
          clear_value v22
          extract_lets +onlyGivenNames v24
          have k25 : Keeps W r v24 := .ite (recordHm_keeps (cw.le rfl) k23) k23
          clear_value v24
          exact trackAll_keeps (cw.le rfl) k2 (railsDown_keeps (cw.le rfl) (lastRecord_keeps (cw.le rfl) k25))
theorem noteVolts_keeps {W : Nat} {r : State} {s1 a2 a3} (cw : Covers W 0x8) (h1 : Keeps W r s1) : Keeps W r (noteVolts s1 a2 a3) := setObj_keeps (cw.le rfl) (setObj_keeps (cw.le rfl) h1)
theorem execPowerFail_keeps {W : Nat} {r : State} {a1 a2 s3} (cw : Covers W 0x1f1df03f3ffe0c5ffcf5cffffe7f85f25df1e898c0c402060da0e37e9ffffbfeffffeff) (h3 : Keeps W r s3) : KeepsOut W r (execPowerFail a1 a2 s3) := KeepsOut.next (.ite (powerFailure_keeps (cw.le rfl) (noteVolts_keeps (cw.le rfl) h3)) h3)
theorem execPwrfailNAssert_keeps {W : Nat} {r : State} {a1 a2 s3} (cw : Covers W 0x1f1df03f3ffe0c5ffcf5cffffe7f87f25df1e898c0c402060da0e37e9ffffbfeffffeff) (h3 : Keeps W r s3) : KeepsOut W r (execPwrfailNAssert a1 a2 s3) := KeepsOut.next (.ite (powerFailure_keeps (cw.le rfl) (noteVolts_keeps (cw.le rfl) (.upd cw h3))) h3)
theorem execOvervoltage_keeps {W : Nat} {r : State} {a1 a2 s3} (cw : Covers W 0x1f1df03f3ffe0c5ffcf5cffffe7f85f25df1e898c0c402060da0e37e9ffffbfeffffeff) (h3 : Keeps W r s3) : KeepsOut W r (execOvervoltage a1 a2 s3) := KeepsOut.next (.ite (powerFailure_keeps (cw.le rfl) (bump_keeps (cw.le rfl) (noteVolts_keeps (cw.le rfl) h3))) h3)
theorem execFlushDone_keeps {W : Nat} {r : State} {a1 a2 a3 a4 s5} (cw : Covers W 0x1f1df03f03fe0c5ffcf5cffffe7f857e5df1e898c204020609a083281fbfbbfed9ffefc) (h5 : Keeps W r s5) : KeepsOut W r (execFlushDone a1 a2 a3 a4 s5) := KeepsOut.next (flushDone_keeps (cw.le rfl) h5)
theorem execVinDip_keeps {W : Nat} {r : State} {s1} (cw : Covers W 0x8) (h1 : Keeps W r s1) : KeepsOut W r (execVinDip s1) := KeepsOut.next (.ite (bump_keeps (cw.le rfl) h1) h1)
theorem execVbusBelow11v_keeps {W : Nat} {r : State} {s1} (cw : Covers W 0x100000000000000000000000000000000) (h1 : Keeps W r s1) : KeepsOut W r (execVbusBelow11v s1) := KeepsOut.next (.ite (.upd cw h1) h1)
theorem execHoldupChargeResume_keeps {W : Nat} {r : State} {s1} (cw : Covers W 0x100000000000000000000000000000000) (h1 : Keeps W r s1) : KeepsOut W r (execHoldupChargeResume s1) := KeepsOut.next (.ite (.upd cw h1) h1)
theorem execVinReturn_keeps {W : Nat} {r : State} {a1 s2} (cw : Covers W 0x80000000000000000000000000000000000000008) (h2 : Keeps W r s2) : KeepsOut W r (execVinReturn a1 s2) := by
  delta execVinReturn
  refine KeepsOut.next ?_
  refine .ite ?_ h2
  extract_lets +onlyGivenNames v1
  have k2 : Keeps W r v1 := setObj_keeps (cw.le rfl) h2
  exact .upd cw k2
theorem execPwrfailNDeassert_keeps {W : Nat} {r : State} {s1} (cw : Covers W 0x200000000000000000000000000000000000000000) (h1 : Keeps W r s1) : KeepsOut W r (execPwrfailNDeassert s1) := KeepsOut.next (.upd cw h1)
theorem noteCap_keeps {W : Nat} {r : State} {s1 a2 a3 a4 a5} (cw : Covers W 0x800000000000000000000000000000008) (h1 : Keeps W r s1) : Keeps W r (noteCap s1 a2 a3 a4 a5) := by
  delta noteCap
  extract_lets +onlyGivenNames v1
  have k2 : Keeps W r v1 := setObj_keeps (cw.le rfl) (setObj_keeps (cw.le rfl) (setObj_keeps (cw.le rfl) h1))
  clear_value v1
  exact .upd cw k2
theorem delayUnderWay_keeps {W : Nat} {r : State} {s1 a2} (cw : Covers W 0x2000000080080000d0800) (h1 : Keeps W r s1) : Keeps W r (delayUnderWay s1 a2) := by
  delta delayUnderWay
  extract_lets +onlyGivenNames v1 v2 v3
  exact .upd cw h1
theorem execPowerCapTick_keeps {W : Nat} {r : State} {a1 a2 s3} (cw : Covers W 0x3fe000020004000000000000000008000000000002000000080080000d0818) (h3 : Keeps W r s3) : KeepsOut W r (execPowerCapTick a1 a2 s3) := by
  delta execPowerCapTick
  refine KeepsOut.next ?_
  refine .ite ?_ h3
  extract_lets +onlyGivenNames v1 v2 v3 v4 v5
  have k6 : Keeps W r v5 := noteCap_keeps (cw.le rfl) h3
  clear_value v5
  exact .ite (recordHm_keeps (cw.le rfl) (delayUnderWay_keeps (cw.le rfl) k6)) k6
theorem bankChanged_keeps {W : Nat} {r : State} {s1 s2 a3} (cw : Covers W 0xd1800003ffe000f28c041e0000000700000000040c000000480607e8c7b3a00000383a) (h1 : Keeps W r s1) (h2 : Keeps W r s2) : Keeps W r (bankChanged s1 s2 a3) := track_keeps (cw.le rfl) h1 (settleFlushArea_keeps (cw.le rfl) h2)
theorem seqFail_keeps {W : Nat} {r : State} {s1} (cw : Covers W 0x1f1df03f03fe0c5ffcf5cffffe7f85725df1f898c004020609a083281fbfbbfed9ffefc) (h1 : Keeps W r s1) : Keeps W r (seqFail s1) := by
  delta seqFail
  extract_lets +onlyGivenNames v1 v2 v3
  have k4 : Keeps W r v3 := .upd cw h1
  clear_value v3
  extract_lets +onlyGivenNames v5
  exact trackAll_keeps (cw.le rfl) h1 (railsDown_keeps (cw.le rfl) (lastRecord_keeps (cw.le rfl) k4))
theorem groupOff_keeps {W : Nat} {r : State} {s1 a2 a3} (cw : Covers W 0xd18000b3ffe000f28e041e0000000300040080240c7800407e3f07e8c7bfb80ffffcfb) (h1 : Keeps W r s1) : Keeps W r (groupOff s1 a2 a3) := bankOff_keeps (cw.le rfl) (recordHm_keeps (cw.le rfl) h1)
theorem switchOpen_keeps {W : Nat} {r : State} {s1 a2} (cw : Covers W 0xd1800003ffe000f28c041e0000000300010000240c7800407e3f07e8c7bfb80ffffcfb) (h1 : Keeps W r s1) : Keeps W r (switchOpen s1 a2) := by
  delta switchOpen
  extract_lets +onlyGivenNames v1 v2
  have k3 : Keeps W r v2 := .upd cw h1
  clear_value v2
  exact stacksAway_keeps (cw.le rfl) k3
theorem retryOff_keeps {W : Nat} {r : State} {s1 a2} (cw : Covers W 0xd18000b3ffe000f28e041e00000003000c0880240c7800407e3f07e8c7bfb80ffffcfb) (h1 : Keeps W r s1) : Keeps W r (retryOff s1 a2) := by
  delta retryOff
  extract_lets +onlyGivenNames v1 v2
  have k3 : Keeps W r v2 := .upd cw h1
  clear_value v2
  split
  · exact k3
  · split
    · exact bankOff_keeps (cw.le rfl) k3
    · exact .upd cw k3
theorem retryExhausted_keeps {W : Nat} {r : State} {s1 a2} (cw : Covers W 0xd18000b3ffe000f28e041e00000003181c0880240c7800407e3f07e8c7bfb80ffffcfb) (h1 : Keeps W r s1) : Keeps W r (retryExhausted s1 a2) := by
  delta retryExhausted
  extract_lets +onlyGivenNames v1 v2
  have k3 : Keeps W r v2 := .upd cw h1
  clear_value v2
  split
  · exact k3
  · split
    · exact groupOff_keeps (cw.le rfl) k3
    · extract_lets +onlyGivenNames v4 v5
      have k6 : Keeps W r v5 := .upd cw k3
      clear_value v5
      exact settle_keeps (cw.le rfl) (recomputeCap_keeps (cw.le rfl) (setObj_keeps (cw.le rfl) k6))
theorem react_keeps {W : Nat} {r : State} {s1 a2 a3 a4} (cw : Covers W 0x1f1df03f3ffe0c5ffcf5cffffe7f85f3ddf1f89ac0c782060fe3f37e9ffffbfeffffeff) (h1 : Keeps W r s1) : Keeps W r (react s1 a2 a3 a4) := by
  delta react
  split
  · exact h1
  · exact .ite (retryExhausted_keeps (cw.le rfl) h1) (retryOff_keeps (cw.le rfl) h1)
  · split
    · exact groupOff_keeps (cw.le rfl) h1
    · exact h1
  · exact .ite (seqFail_keeps (cw.le rfl) h1) (powerFailure_keeps (cw.le rfl) h1)
theorem railFault_keeps {W : Nat} {r : State} {s1 a2} (cw : Covers W 0x1f1df03f3ffe0c5ffcf5cffffe7f85f3ddf1f89ac0c782060fe3f37e9ffffbfeffffeff) (h1 : Keeps W r s1) : Keeps W r (railFault s1 a2) := by
  delta railFault
  extract_lets +onlyGivenNames v1 v2 v3 v4
  have k5 : Keeps W r v4 := recordHm_keeps (cw.le rfl) (bump_keeps (cw.le rfl) h1)
  clear_value v4
  extract_lets +onlyGivenNames v6
  have k7 : Keeps W r v6 := by
    unfold v6
    split
    · rename_i x8 x9 x10
      exact switchOpen_keeps (cw.le rfl) k5
    · rename_i x11 x12
      exact k5
  clear_value v6
  refine .ite k7 ?_
  extract_lets +onlyGivenNames v13
  have k14 : Keeps W r v13 := react_keeps (cw.le rfl) k7
  clear_value v13
  split
  · exact bankChanged_keeps (cw.le rfl) h1 k14
  · exact track_keeps (cw.le rfl) h1 k14
theorem execPhaseLost_keeps {W : Nat} {r : State} {a1 a2 s3} (cw : Covers W 0x1f1df03f3ffe0c5ffcf5cffffe7f85f3ddf1f8fac0c782060fe3f37e9ffffbfeffffeff) (h3 : Keeps W r s3) : KeepsOut W r (execPhaseLost a1 a2 s3) := by
  delta execPhaseLost
  refine KeepsOut.next ?_
  extract_lets +onlyGivenNames v1 v2
  refine .ite h3 ?_
  refine .ite ?_ ?_
  · refine .ite h3 ?_
    extract_lets +onlyGivenNames v3
    have k4 : Keeps W r v3 := h3
    clear_value v3
    extract_lets +onlyGivenNames v5 v6
    have k7 : Keeps W r v6 := .upd cw h3
    extract_lets +onlyGivenNames v8
    have k9 : Keeps W r v8 := setObj_keeps (cw.le rfl) (bump_keeps (cw.le rfl) k7)
    extract_lets +onlyGivenNames v10 v11
    have k12 : Keeps W r v11 := .ite (.upd cw k9) (recordHm_keeps (cw.le rfl) k9)
    clear_value v11
    exact track_keeps (cw.le rfl) k4 k12
  · refine .ite ?_ (.ite (railFault_keeps (cw.le rfl) (bump_keeps (cw.le rfl) h3)) h3)
    refine .ite h3 ?_
    extract_lets +onlyGivenNames v13
    have k14 : Keeps W r v13 := bump_keeps (cw.le rfl) h3
    clear_value v13
    exact track_keeps (cw.le rfl) h3 (recordHm_keeps (cw.le rfl) k14)
theorem pmAnswered_keeps {W : Nat} {r : State} {s1 a2} (cw : Covers W 0x800000000000000000000000000000000000) (h1 : Keeps W r s1) : Keeps W r (pmAnswered s1 a2) := .upd cw h1
theorem execPmbusPoll_keeps {W : Nat} {r : State} {a1 s2} (cw : Covers W 0xc00000000000000000000000000000000000) (h2 : Keeps W r s2) : KeepsOut W r (execPmbusPoll a1 s2) := KeepsOut.next (.ite (.foldl h2 (fun _ _ k3 => .ite (pmAnswered_keeps (cw.le rfl) (.upd cw k3)) k3)) h2)
theorem takeReading_keeps {W : Nat} {r : State} {s1 a2} (cw : Covers W 0x806000000000000000000000000000000008) (h1 : Keeps W r s1) : Keeps W r (takeReading s1 a2) := by
  delta takeReading
  extract_lets +onlyGivenNames v1
  refine .ite h1 ?_
  extract_lets +onlyGivenNames v2
  have k3 : Keeps W r v2 := pmAnswered_keeps (cw.le rfl) h1
  clear_value v2
  refine .ite ?_ ?_
  · extract_lets +onlyGivenNames v4
    have k5 : Keeps W r v4 := setObj_keeps (cw.le rfl) (setObj_keeps (cw.le rfl) k3)
    clear_value v4
    exact .upd cw k5
  · extract_lets +onlyGivenNames v6
    exact .ite (.upd cw k3) (.upd cw k3)
theorem execPmbusTelemetry_keeps {W : Nat} {r : State} {a1 a2 a3 s4} (cw : Covers W 0x800000806000000000000000000000000000000008) (h4 : Keeps W r s4) : KeepsOut W r (execPmbusTelemetry a1 a2 a3 s4) := by
  delta execPmbusTelemetry
  refine KeepsOut.next ?_
  refine .ite ?_ h4
  extract_lets +onlyGivenNames v1
  have k2 : Keeps W r v1 := setObj_keeps (cw.le rfl) (setObj_keeps (cw.le rfl) h4)
  clear_value v1
  extract_lets +onlyGivenNames v3
  have k4 : Keeps W r v3 := setObj_keeps (cw.le rfl) k2
  clear_value v3
  extract_lets +onlyGivenNames v5 v6
  have k7 : Keeps W r v6 := .ite (.upd cw k4) h4
  clear_value v6
  exact .foldl k7 (fun _ _ k10 => takeReading_keeps (cw.le rfl) k10)
theorem execPmbusTimeout_keeps {W : Nat} {r : State} {a1 a2 a3 s4} (cw : Covers W 0x1f1df03f3ffe0c5ffcf5cffffe7f85f3ddf9f99ac0c782060fe3f37e9ffffbfeffffeff) (h4 : Keeps W r s4) : KeepsOut W r (execPmbusTimeout a1 a2 a3 s4) := by
  delta execPmbusTimeout
  refine KeepsOut.next ?_
  extract_lets +onlyGivenNames v1
  refine .ite h4 ?_
  extract_lets +onlyGivenNames v2
  refine .ite (.upd cw h4) ?_
  extract_lets +onlyGivenNames v3
  have k4 : Keeps W r v3 := h4
  extract_lets +onlyGivenNames v5
  have k6 : Keeps W r v5 := bump_keeps (cw.le rfl) k4
  extract_lets +onlyGivenNames v7 v8
  have k9 : Keeps W r v8 := .upd cw k6
  extract_lets +onlyGivenNames v10
  have k11 : Keeps W r v10 := recordHm_keeps (cw.le rfl) k9
  extract_lets +onlyGivenNames v12
  have k13 : Keeps W r v12 := track_keeps (cw.le rfl) k4 k11
  refine .ite ?_ k13
  split
  · exact railFault_keeps (cw.le rfl) k13
  · exact k13
theorem execPmbusDeviceRetry_keeps {W : Nat} {r : State} {a1 a2 s3} (cw : Covers W 0x1000000000000000000000000000000008) (h3 : Keeps W r s3) : KeepsOut W r (execPmbusDeviceRetry a1 a2 s3) := KeepsOut.next (.ite (track_keeps (cw.le rfl) h3 (.upd cw h3)) h3)
theorem execPowerGoodDeassert_keeps {W : Nat} {r : State} {a1 a2 s3} (cw : Covers W 0x1f1df03f3ffe0c5ffcf5cffffe7f85f3ddf1f89ac0c782060fe3f37e9ffffbfeffffeff) (h3 : Keeps W r s3) : KeepsOut W r (execPowerGoodDeassert a1 a2 s3) := by
  delta execPowerGoodDeassert
  refine KeepsOut.next ?_
  extract_lets +onlyGivenNames v1 v2
  refine .ite h3 ?_
  refine .ite (railFault_keeps (cw.le rfl) (.upd cw h3)) ?_
  extract_lets +onlyGivenNames v3
  refine .ite ?_ ?_
  · extract_lets +onlyGivenNames v4
    have k5 : Keeps W r v4 := setObj_keeps (cw.le rfl) h3
    exact railFault_keeps (cw.le rfl) (.upd cw k5)
  · extract_lets +onlyGivenNames v6
    have k7 : Keeps W r v6 := bump_keeps (cw.le rfl) h3
    exact .upd cw k7
theorem noteAttempt_keeps {W : Nat} {r : State} {s1 a2 a3} (cw : Covers W 0x40000000000000000000000000000000000) (h1 : Keeps W r s1) : Keeps W r (noteAttempt s1 a2 a3) := .upd cw h1
theorem retryUp_keeps {W : Nat} {r : State} {s1 a2} (cw : Covers W 0xd1800003ffe000f28e041e0000000300050880040c0020407e0707e8c7b3000000383b) (h1 : Keeps W r s1) : Keeps W r (retryUp s1 a2) := by
  delta retryUp
  extract_lets +onlyGivenNames v1 v2
  have k3 : Keeps W r v2 := .upd cw h1
  clear_value v2
  split
  · exact stacksBack_keeps (cw.le rfl) (.upd cw k3)
  · exact bankOn_keeps (cw.le rfl) k3
  · exact .upd cw k3
theorem noteFault_keeps {W : Nat} {r : State} {s1 a2 a3} (cw : Covers W 0x3fe00002000400000000000000000000000000000000000000000000000018) (h1 : Keeps W r s1) : Keeps W r (noteFault s1 a2 a3) := recordHm_keeps (cw.le rfl) (bump_keeps (cw.le rfl) h1)
theorem execRailRetry_keeps {W : Nat} {r : State} {a1 a2 s3} (cw : Covers W 0xd18000b3ffe000f28e041e00000007181d0c80240c7820407e3f07e8c7bfb80ffffcfb) (h3 : Keeps W r s3) : KeepsOut W r (execRailRetry a1 a2 s3) := by
  delta execRailRetry
  refine KeepsOut.next ?_
  refine .ite h3 ?_
  extract_lets +onlyGivenNames v1 v2 v3 v4 v5 v6
  have k7 : Keeps W r v1 := h3
  clear_value v1
  have k8 : Keeps W r v4 := noteAttempt_keeps (cw.le rfl) (bump_keeps (cw.le rfl) h3)
  clear_value v4
  have k9 : Keeps W r v5 := recordHm_keeps (cw.le rfl) k8
  clear_value v5
  have k10 : Keeps W r v6 := .ite (retryUp_keeps (cw.le rfl) k9) (.ite (retryExhausted_keeps (cw.le rfl) (noteFault_keeps (cw.le rfl) k9)) (noteFault_keeps (cw.le rfl) k9))
  clear_value v6
  split
  · exact bankChanged_keeps (cw.le rfl) k7 k10
  · exact track_keeps (cw.le rfl) k7 k10
theorem execFaultEpisodeEnd_keeps {W : Nat} {r : State} {a1 s2} (cw : Covers W 0x40000000000000000000000000000000000) (h2 : Keeps W r s2) : KeepsOut W r (execFaultEpisodeEnd a1 s2) := KeepsOut.next (.ite h2 (.upd cw h2))
theorem execLoadSwitchTrip_keeps {W : Nat} {r : State} {a1 a2 s3} (cw : Covers W 0x1f1df03f3ffe0c5ffcf5cffffe7f85f3ddf1f89ac0c782060fe3f37e9ffffbfeffffeff) (h3 : Keeps W r s3) : KeepsOut W r (execLoadSwitchTrip a1 a2 s3) := by
  delta execLoadSwitchTrip
  refine KeepsOut.next ?_
  extract_lets +onlyGivenNames v1
  exact .ite h3 (railFault_keeps (cw.le rfl) h3)
theorem bankEnableRule_keeps {W : Nat} {r : State} {a1 a2 s3} (cw : Covers W 0xd18000b3ffe100f28e041e0000000700050880240c7800407e3f07e8c7bfb80ffffcfb) (h3 : Keeps W r s3) : Keeps1 W r (bankEnableRule a1 a2 s3) := by
  delta bankEnableRule
  extract_lets +onlyGivenNames v1 v2
  have k3 : Keeps W r v2 := storeConfig_keeps (cw.le rfl) h3
  clear_value v2
  extract_lets +onlyGivenNames v4 v5 v6
  have k7 : Keeps W r v6 := by
    unfold v6
    refine .ite ?_ (.ite (setBankState_keeps (cw.le rfl) k3) (.ite (.ite (setBankState_keeps (cw.le rfl) k3) (bankOn_keeps (cw.le rfl) k3)) k3))
    refine .ite ?_ (.ite (setBankState_keeps (cw.le rfl) k3) k3)
    refine bankOff_keeps (cw.le rfl) ?_
    unfold v5
    exact .upd cw k3
  clear_value v6
  exact Keeps1.mk (bankChanged_keeps (cw.le rfl) h3 k7)
theorem execBankEnable_keeps {W : Nat} {r : State} {a1 a2 s3} (cw : Covers W 0x2d18000b3ffe100f28e841e0000000700050880240c7800407e3f07e8c7bfb80ffffcfb) (h3 : Keeps W r s3) : KeepsOut W r (execBankEnable a1 a2 s3) := KeepsOut.next (kdpObject_keeps (cw.le rfl) (fun _ _ _ k4 => bankEnableRule_keeps (cw.le rfl) k4) h3)
theorem execBankShutdownDone_keeps {W : Nat} {r : State} {a1 s2} (cw : Covers W 0xd1800003ffe000f28c041e0000000700020000040c000000480607e8c7b3a00000383a) (h2 : Keeps W r s2) : KeepsOut W r (execBankShutdownDone a1 s2) := by
  delta execBankShutdownDone
  refine KeepsOut.next ?_
  extract_lets +onlyGivenNames v1
  refine .ite ?_ h2
  extract_lets +onlyGivenNames v2 v3
  have k4 : Keeps W r v3 := .upd cw h2
  clear_value v3
  exact .ite (bankChanged_keeps (cw.le rfl) h2 (setBankState_keeps (cw.le rfl) k4)) k4
theorem bankOffDone_keeps {W : Nat} {r : State} {s1 a2} (cw : Covers W 0xd1800003ffe000f28c041e0000000700070880040c000000480607e8c7b3a00000383a) (h1 : Keeps W r s1) : Keeps W r (bankOffDone s1 a2) := by
  delta bankOffDone
  refine .ite ?_ h1
  extract_lets +onlyGivenNames v1 v2
  have k3 : Keeps W r v2 := .upd cw h1
  clear_value v2
  exact .ite (bankChanged_keeps (cw.le rfl) h1 (bankOn_keeps (cw.le rfl) k3)) k3
theorem execBankLinksTrained_keeps {W : Nat} {r : State} {a1 s2} (cw : Covers W 0xd1800003ffe000f28e041e0000000700040000040c0020407e3707e8c7b3a00000383b) (h2 : Keeps W r s2) : KeepsOut W r (execBankLinksTrained a1 s2) := by
  delta execBankLinksTrained
  refine KeepsOut.next ?_
  refine .ite ?_ h2
  extract_lets +onlyGivenNames v1 v2
  have k3 : Keeps W r v2 := .upd cw h2
  clear_value v2
  exact bankChanged_keeps (cw.le rfl) h2 (resumeRebuilds_keeps (cw.le rfl) (stacksBack_keeps (cw.le rfl) k3))
theorem execRailFallTimeout_keeps {W : Nat} {r : State} {a1 a2 s3} (cw : Covers W 0x3fe00002000400000000000000000000000000000000000000000000000018) (h3 : Keeps W r s3) : KeepsOut W r (execRailFallTimeout a1 a2 s3) := by
  delta execRailFallTimeout
  refine KeepsOut.next ?_
  extract_lets +onlyGivenNames v1
  exact .ite (recordHm_keeps (cw.le rfl) (bump_keeps (cw.le rfl) h3)) h3
theorem setEnergy_keeps {W : Nat} {r : State} {s1 a2} (cw : Covers W 0xd1800003ffe000f28c041e0000000310000000040c000000480607e8c7b3000000383b) (h1 : Keeps W r s1) : Keeps W r (setEnergy s1 a2) := settle_keeps (cw.le rfl) (recomputeCap_keeps (cw.le rfl) (setObj_keeps (cw.le rfl) h1))
theorem holdupMeasure_keeps {W : Nat} {r : State} {a1 a2 s3} (cw : Covers W 0x40000000000000000000000000000000000000) (h3 : Keeps W r s3) : Keeps1 W r (holdupMeasure a1 a2 s3) := by
  delta holdupMeasure
  extract_lets +onlyGivenNames v1
  exact .ite (Keeps1.mk h3) (Keeps1.mk (.upd cw h3))
theorem holdupMeasureEffect_keeps {W : Nat} {r : State} {a1 a2 s3} (cw : Covers W 0x20000000000000040000000000000000000000000000000000000) (h3 : Keeps W r s3) : Keeps1 W r (holdupMeasureEffect a1 a2 s3) := runCommand_keeps (cw.le rfl) (fun _ _ _ k4 => holdupMeasure_keeps (cw.le rfl) k4) h3
theorem execHoldupMeasure_keeps {W : Nat} {r : State} {a1 a2 s3} (cw : Covers W 0x200000000000000000e840000000000004000000000000000000000000000000000000a) (h3 : Keeps W r s3) : KeepsOut W r (execHoldupMeasure a1 a2 s3) := KeepsOut.next (kdpObject_keeps (cw.le rfl) (fun _ _ _ k4 => holdupMeasureEffect_keeps (cw.le rfl) k4) h3)
theorem execHoldupIntervalExpiry_keeps {W : Nat} {r : State} {s1} (cw : Covers W 0x40000000000000000000000000000000000000) (h1 : Keeps W r s1) : KeepsOut W r (execHoldupIntervalExpiry s1) := KeepsOut.next (.ite (.upd cw h1) h1)
theorem beginMeasure_keeps {W : Nat} {r : State} {s1 a2} (cw : Covers W 0xf8000000000000000000000000000000000000) (h1 : Keeps W r s1) : Keeps W r (beginMeasure s1 a2) := .upd cw h1
theorem deferMeasure_keeps {W : Nat} {r : State} {s1 a2} (cw : Covers W 0x80000000000000000000000000000000000000) (h1 : Keeps W r s1) : Keeps W r (deferMeasure s1 a2) := .upd cw h1
theorem startMeasure_keeps {W : Nat} {r : State} {s1} (cw : Covers W 0xd1800003ffe000f28c041e0000000310f80000040c000000480607e8c7b3000000383b) (h1 : Keeps W r s1) : Keeps W r (startMeasure s1) := by
  delta startMeasure
  refine .ite (beginMeasure_keeps (cw.le rfl) h1) ?_
  extract_lets +onlyGivenNames v1
  have k2 : Keeps W r v1 := setEnergy_keeps (cw.le rfl) h1
  clear_value v1
  refine .ite (beginMeasure_keeps (cw.le rfl) k2) ?_
  extract_lets +onlyGivenNames v3
  exact .ite (beginMeasure_keeps (cw.le rfl) (setEnergy_keeps (cw.le rfl) h1)) (deferMeasure_keeps (cw.le rfl) (bump_keeps (cw.le rfl) h1))
theorem execHoldupMeasurementStart_keeps {W : Nat} {r : State} {s1} (cw : Covers W 0xd1800003ffe000f28c041e0000000310f80000040c000000480607e8c7b3000000383b) (h1 : Keeps W r s1) : KeepsOut W r (execHoldupMeasurementStart s1) := KeepsOut.next (.ite (startMeasure_keeps (cw.le rfl) h1) h1)
theorem execHoldupDeferralRetry_keeps {W : Nat} {r : State} {s1} (cw : Covers W 0xd1800003ffe000f28c041e0000000310f80000040c000000480607e8c7b3000000383b) (h1 : Keeps W r s1) : KeepsOut W r (execHoldupDeferralRetry s1) := KeepsOut.next (.ite (startMeasure_keeps (cw.le rfl) h1) h1)
theorem execHoldupMeasured_keeps {W : Nat} {r : State} {a1 a2 a3 s4} (cw : Covers W 0xd1800003ffe000f28e041e000000031f100000040c040300480607e8c7b3000000383b) (h4 : Keeps W r s4) : KeepsOut W r (execHoldupMeasured a1 a2 a3 s4) := by
  delta execHoldupMeasured
  refine KeepsOut.next ?_
  refine .ite h4 ?_
  extract_lets +onlyGivenNames v1 v2 v3 v4 v5 v6 v7 v8 v9 v10
  have k11 : Keeps W r v4 := setObj_keeps (cw.le rfl) (setObj_keeps (cw.le rfl) (setObj_keeps (cw.le rfl) h4))
  clear_value v4
  have k12 : Keeps W r v7 := appendMeas_keeps (cw.le rfl) k11
  clear_value v7
  have k13 : Keeps W r v8 := recordHm_keeps (cw.le rfl) k12
  clear_value v8
  have k14 : Keeps W r v9 := setR_keeps (cw.le rfl) k13
  clear_value v9
  extract_lets +onlyGivenNames v15 v16
  have k17 : Keeps W r v15 := .ite k13 (.upd cw k14)
  clear_value v15
  extract_lets +onlyGivenNames v18
  have k19 : Keeps W r v18 := .upd cw k17
  clear_value v18
  exact endRun_keeps (cw.le rfl) (setEnergy_keeps (cw.le rfl) k19)
theorem execHoldupChargeDone_keeps {W : Nat} {r : State} {s1} (cw : Covers W 0xd1800003ffe000f28c041e0000000314080000040c000000480607e8c7b3000000383b) (h1 : Keeps W r s1) : KeepsOut W r (execHoldupChargeDone s1) := by
  delta execHoldupChargeDone
  refine KeepsOut.next ?_
  refine .ite h1 ?_
  extract_lets +onlyGivenNames v1
  have k2 : Keeps W r v1 := setObj_keeps (cw.le rfl) h1
  extract_lets +onlyGivenNames v3 v4
  have k5 : Keeps W r v4 := .upd cw k2
  exact .ite (setEnergy_keeps (cw.le rfl) k5) k5
theorem execVholdRecomputeTick_keeps {W : Nat} {r : State} {a1 s2} (cw : Covers W 0xd1800003ffe000f28c041e0000000310080000040c000000480607e8c7b3000000383b) (h2 : Keeps W r s2) : KeepsOut W r (execVholdRecomputeTick a1 s2) := by
  delta execVholdRecomputeTick
  refine KeepsOut.next ?_
  refine .ite ?_ h2
  extract_lets +onlyGivenNames v1
  have k2 : Keeps W r v1 := setObj_keeps (cw.le rfl) h2
  extract_lets +onlyGivenNames v3 v4
  have k5 : Keeps W r v4 := .upd cw k2
  exact .ite (setEnergy_keeps (cw.le rfl) k5) k5
theorem newDumpKey_keeps {W : Nat} {r : State} {s1 a2} (cw : Covers W 0x80000000000000f08000000000000000000000000c0000000000000000000000000009) (h1 : Keeps W r s1) : Keeps W r (newDumpKey s1 a2) := by
  delta newDumpKey
  split
  · rename_i t1 x2 t3 e4
    have k5 : Keeps W r t3 := Keeps2.of_eq e4 (draw_keeps (cw.le rfl) h1)
    extract_lets +onlyGivenNames v6 v7
    have k8 : Keeps W r v7 := .ite (.upd cw k5) (.upd cw k5)
    clear_value v7
    exact syncRec_keeps (cw.le rfl) k8
theorem eraseBuffer_keeps {W : Nat} {r : State} {s1 a2} (cw : Covers W 0x198000007fe0000200040000000000000000000000000400000207e886000000000018) (h1 : Keeps W r s1) : Keeps W r (eraseBuffer s1 a2) := by
  delta eraseBuffer
  extract_lets +onlyGivenNames v1 v2 v3 v4 v5 v6 v7
  have k14 : Keeps W r v5 := .foldl h1 (fun _ _ k8 => .foldl k8 (fun _ _ k11 => retireWorn_keeps (cw.le rfl) k11))
  clear_value v5
  extract_lets +onlyGivenNames v15
  have k16 : Keeps W r v15 := .upd cw k14
  clear_value v15
  refine .foldl k16 ?_
  intro x18 a19 k17
  refine .foldl (bumpN_keeps (cw.le rfl) k17) ?_
  intro x21 a22 k20
  extract_lets +onlyGivenNames v23
  exact noteErases_keeps (cw.le rfl) (pcCount_keeps (cw.le rfl) k20)
theorem execFlushBufferErased_keeps {W : Nat} {r : State} {a1 s2} (cw : Covers W 0xd9800003ffe000f28c041e00000007c0000000040c000400480607e8c7b3a00000383b) (h2 : Keeps W r s2) : KeepsOut W r (execFlushBufferErased a1 s2) :=
  KeepsOut.next (.ite (settleFlushArea_keeps (cw.le rfl) (newDumpKey_keeps (cw.le rfl) (putDump_keeps (cw.le rfl) (setBufState_keeps (cw.le rfl) (eraseBuffer_keeps (cw.le rfl) h2)) fun _ => rfl))) h2)
theorem noteResetIn_keeps {W : Nat} {r : State} {s1 a2 a3} (cw : Covers W 0x3fe00002000400000000000000000000000000000000000000000000000018) (h1 : Keeps W r s1) : Keeps W r (noteResetIn s1 a2 a3) := by
  delta noteResetIn
  extract_lets +onlyGivenNames v1
  have k2 : Keeps W r v1 := bumpR_keeps (cw.le rfl) (setR_keeps (cw.le rfl) (setR_keeps (cw.le rfl) h1))
  clear_value v1
  exact recordHm_keeps (cw.le rfl) k2
theorem noteReset_keeps {W : Nat} {r : State} {s1 a2} (cw : Covers W 0x3fe00002000400000000000000000000000000000000000000000000000018) (h1 : Keeps W r s1) : Keeps W r (noteReset s1 a2) := noteResetIn_keeps (cw.le rfl) h1
theorem noteStart_keeps {W : Nat} {r : State} {s1 a2} (cw : Covers W 0x3fe00002000400000200000000000000000000000000000000000000000018) (h1 : Keeps W r s1) : Keeps W r (noteStart s1 a2) := by
  delta noteStart
  extract_lets +onlyGivenNames v1 v2
  have k3 : Keeps W r v2 := setR_keeps (cw.le rfl) h1
  clear_value v2
  extract_lets +onlyGivenNames v4
  have k5 : Keeps W r v4 := .ite (record_keeps (cw.le rfl) k3) k3
  clear_value v4
  exact .upd cw k5
theorem clearCounterUnit_keeps {W : Nat} {r : State} {s1} (cw : Covers W 0xfc0000000000000000000000000000000000000000000000000000000000018) (h1 : Keeps W r s1) : Keeps W r (clearCounterUnit s1) := by
  delta clearCounterUnit
  extract_lets +onlyGivenNames v1 v2
  have k3 : Keeps W r v2 := setBlob_keeps (cw.le rfl) (clearObjs_keeps (cw.le rfl) h1)
  clear_value v2
  exact .upd cw k3
theorem clearCycles_keeps {W : Nat} {r : State} {s1} (cw : Covers W 0x8) (h1 : Keeps W r s1) : Keeps W r (clearCycles s1) := setObj_keeps (cw.le rfl) h1
theorem noteRestored_keeps {W : Nat} {r : State} {s1 a2 a3 a4} (cw : Covers W 0x3fe00002000400000000000000000000000000000000000000000000000018) (h1 : Keeps W r s1) : Keeps W r (noteRestored s1 a2 a3 a4) := .ite (recordHm_keeps (cw.le rfl) h1) h1
theorem loadStore_keeps {W : Nat} {r : State} {s1 a2 a3 a4} (cw : Covers W 0x1fffffe003fe000000ffffffffff80000000000000000000000000000000) (h1 : Keeps W r s1) : Keeps W r (loadStore s1 a2 a3 a4) := by
  delta loadStore
  extract_lets +onlyGivenNames v1 v2 v3
  exact .hm cw h1 (fun _ b => b) (fun _ b => b)
theorem startCounters_keeps {W : Nat} {r : State} {s1} (cw : Covers W 0x3fe03a02000400000000000000000000000000000000000000000000000018) (h1 : Keeps W r s1) : Keeps W r (startCounters s1) := by
  delta startCounters
  extract_lets +onlyGivenNames v1 v2 v3 v4 v5 v6
  have k6 : Keeps W r v6 := .upd cw h1
  clear_value v6
  refine noteRestored_keeps (cw.le rfl) (noteRestored_keeps (cw.le rfl) ?_)
  exact .ite (saturate_keeps (cw.le rfl) (.upd cw k6)) (.upd cw k6)
theorem readRecs_keeps {W : Nat} {r : State} {s1} (cw : Covers W 0xf0003ffe800200040000000000c000000000101000180000000000000002000018) (h1 : Keeps W r s1) : Keeps W r (readRecs s1) := .foldl h1 (fun _ _ k3 => readRec_keeps (cw.le rfl) k3)
theorem recordsRead_keeps {W : Nat} {r : State} {s1} (cw : Covers W 0x80000000000800f0800000000000000000000000800000000000000000000000000008) (h1 : Keeps W r s1) : Keeps W r (recordsRead s1) := by
  delta recordsRead
  extract_lets +onlyGivenNames v1 v2
  have k3 : Keeps W r v2 := .upd cw h1
  exact .ite (syncRec_keeps (cw.le rfl) (.upd cw k3)) k3
theorem harbourmasterStart_keeps {W : Nat} {r : State} {s1 a2 a3 a4} (cw : Covers W 0x8000f0003fffffffe007fe000000ffffffffff80901000180000000000000002000018) (h1 : Keeps W r s1) : Keeps W r (harbourmasterStart s1 a2 a3 a4) := track_keeps (cw.le rfl) h1 (recordsRead_keeps (cw.le rfl) (readRecs_keeps (cw.le rfl) (startCounters_keeps (cw.le rfl) (loadStore_keeps (cw.le rfl) h1))))
theorem clockAbsent_keeps {W : Nat} {r : State} {s1 a2 a3} (cw : Covers W 0x3fe00002000400000000000000000000000000000000000000000000000018) (h1 : Keeps W r s1) : Keeps W r (clockAbsent s1 a2 a3) := .ite (recordHm_keeps (cw.le rfl) (bumpR_keeps (cw.le rfl) h1)) h1
theorem enterSequencing_keeps {W : Nat} {r : State} {s1 a2} (cw : Covers W 0x8000000fffe000f28c0401ee42001008413e660100380000000100000000000000001c) (h1 : Keeps W r s1) : Keeps W r (enterSequencing s1 a2) := by
  delta enterSequencing
  extract_lets +onlyGivenNames v1 v2 v3 v4 v5 v6 v7 v8
  have k12 : Keeps W r v1 := .foldl h1 (fun _ _ k9 => recordHm_keeps (cw.le rfl) k9)
  clear_value v1
  have k13 : Keeps W r v2 := clearObjs_keeps (cw.le rfl) k12
  clear_value v2
  extract_lets +onlyGivenNames v14 v15 v16 v17 v18 v19
  have k20 : Keeps W r v14 := .upd cw k13
  clear_value v14
  have k24 : Keeps W r v16 := by
    unfold v16
    refine .foldl k20 ?_
    intro x22 a23 k21
    unfold v15
    exact setBankState_keeps (cw.le rfl) k21
  clear_value v16
  have k25 : Keeps W r v18 := .upd cw k24
  clear_value v18
  have k26 : Keeps W r v19 := setR_keeps (cw.le rfl) (setR_keeps (cw.le rfl) k25)
  clear_value v19
  extract_lets +onlyGivenNames v27
  have k28 : Keeps W r v27 := clockAbsent_keeps (cw.le rfl) (clockAbsent_keeps (cw.le rfl) k26)
  clear_value v27
  exact trackAll_keeps (cw.le rfl) h1 (noteResetIn_keeps (cw.le rfl) (syncRecs_keeps (cw.le rfl) k28))
theorem resetStart_keeps {W : Nat} {r : State} {s1} (cw : Covers W 0x202000000000000003f8000000020000000000000000000000000000000000) (h1 : Keeps W r s1) : Keeps W r (resetStart s1) := .upd cw h1
theorem enterBooting_keeps {W : Nat} {r : State} {s1 a2} (cw : Covers W 0x80009000202000f08000000003f800000002000000000000000000000000000000000c) (h1 : Keeps W r s1) : Keeps W r (enterBooting s1 a2) := by
  delta enterBooting
  extract_lets +onlyGivenNames v1
  have k2 : Keeps W r v1 := resetStart_keeps (cw.le rfl) (.upd cw h1)
  clear_value v1
  extract_lets +onlyGivenNames v3 v4
  have k5 : Keeps W r v4 := .ite (syncRec_keeps (cw.le rfl) (.upd cw k2)) k2
  clear_value v4
  exact trackAll_keeps (cw.le rfl) h1 (.foldl k5 (fun _ _ k8 => startTraining_keeps (cw.le rfl) k8))
theorem stepFaults_keeps {W : Nat} {r : State} {s1} (cw : Covers W 0x1f1df03f3ffe0c5ffcf5cffffe7f85f3ddf1f89ac0c782060fe3f37e9ffffbfeffffeff) (h1 : Keeps W r s1) : Keeps W r (stepFaults s1) :=
  .foldl h1 (fun _ _ k3 => .ite (railFault_keeps (cw.le rfl) k3) k3)
theorem sequencingStep_keeps {W : Nat} {r : State} {s1} (cw : Covers W 0x1f1df93f3ffe0c5ffcf5cffffe7f85f3ddf3f89ac0c782060fe3f37e9ffffbfeffffeff) (h1 : Keeps W r s1) : Keeps W r (sequencingStep s1) := by
  delta sequencingStep
  extract_lets +onlyGivenNames v1
  have k2 : Keeps W r v1 := .ite (stepFaults_keeps (cw.le rfl) h1) h1
  clear_value v1
  refine .ite k2 ?_
  extract_lets +onlyGivenNames v3 v4 v5
  have k6 : Keeps W r v5 := .upd cw k2
  clear_value v5
  extract_lets +onlyGivenNames v7
  have k8 : Keeps W r v7 := track_keeps (cw.le rfl) k2 k6
  clear_value v7
  refine .ite k8 ?_
  extract_lets +onlyGivenNames v9
  have k10 : Keeps W r v9 := clearCycles_keeps (cw.le rfl) (noteStart_keeps (cw.le rfl) k8)
  clear_value v9
  exact .ite (.upd cw k10) (enterBooting_keeps (cw.le rfl) k10)
theorem planFallback_keeps {W : Nat} {r : State} {s1 a2 a3} (cw : Covers W 0x800000003fe000f2800400000000000000000000000000180000000000000000000018) (h1 : Keeps W r s1) : Keeps W r (planFallback s1 a2 a3) := by
  delta planFallback
  refine .ite h1 ?_
  split
  exact syncRec_keeps (cw.le rfl) (record_keeps (cw.le rfl) (.upd cw h1))
theorem setBootFails_keeps {W : Nat} {r : State} {s1 a2 a3} (cw : Covers W 0x600000000000000000000000000000000000000000000000000000000000000000) (h1 : Keeps W r s1) : Keeps W r (setBootFails s1 a2 a3) := .ite (.upd cw h1) (.upd cw h1)
theorem bootFailed_keeps {W : Nat} {r : State} {s1} (cw : Covers W 0x800172003fe000f2835c000003f8000000020000000000000000000000000000000018) (h1 : Keeps W r s1) : Keeps W r (bootFailed s1) := by
  delta bootFailed
  extract_lets +onlyGivenNames v1 v2
  have k3 : Keeps W r v2 := setBootFails_keeps (cw.le rfl) (bumpR_keeps (cw.le rfl) h1)
  clear_value v2
  extract_lets +onlyGivenNames v4 v5
  have k6 : Keeps W r v5 := resetKdp_keeps (cw.le rfl) (resetStart_keeps (cw.le rfl) k3)
  clear_value v5
  extract_lets +onlyGivenNames v7
  have k8 : Keeps W r v7 := .ite (recordHm_keeps (cw.le rfl) k6) k6
  clear_value v7
  extract_lets +onlyGivenNames v9 v10
  have k11 : Keeps W r v10 := .ite (.upd cw k8) k8
  clear_value v10
  extract_lets +onlyGivenNames v12 v13
  have k14 : Keeps W r v13 := .upd cw k11
  clear_value v13
  exact trackAll_keeps (cw.le rfl) h1 (syncRec_keeps (cw.le rfl) k14)
theorem enterLoading_keeps {W : Nat} {r : State} {s1} (cw : Covers W 0x80206c00000000f080000000024000000000000000000000000000000000000000000c) (h1 : Keeps W r s1) : Keeps W r (enterLoading s1) := by
  delta enterLoading
  extract_lets +onlyGivenNames v1 v2 v3 v4
  have k5 : Keeps W r v4 := setBootFails_keeps (cw.le rfl) (.upd cw h1)
  clear_value v4
  extract_lets +onlyGivenNames v6 v7 v8 v9
  have k10 : Keeps W r v9 := setR_keeps (cw.le rfl) k5
  clear_value v9
  extract_lets +onlyGivenNames v11 v12
  have k13 : Keeps W r v12 := by
    unfold v12
    refine .ite ?_ k5
    split
    · exact .ite (.upd cw k5) (.ite (.upd cw k10) k5)
    · exact .upd cw k5
  clear_value v12
  exact trackAll_keeps (cw.le rfl) h1 (syncRec_keeps (cw.le rfl) k13)
theorem finishBoot_keeps {W : Nat} {r : State} {s1} (cw : Covers W 0x80206c00000000f080000000024000000000000000000000000000000000000000000c) (h1 : Keeps W r s1) : Keeps W r (finishBoot s1) := by
  delta finishBoot
  refine .ite ?_ h1
  refine .ite ?_ (enterLoading_keeps (cw.le rfl) h1)
  refine syncRec_keeps (cw.le rfl) ?_
  extract_lets +onlyGivenNames v1
  have k2 : Keeps W r v1 := setR_keeps (cw.le rfl) h1
  exact .upd cw k2
theorem wf_applyRecords {l : List JRec} {m : AMap Nat} (h : AMap.wf m = true) :
    AMap.wf (l.foldl (fun m r => applyRecord m r.kind r.a r.b r.c) m) = true := by
  induction l generalizing m with
  | nil => exact h
  | cons x l ih => exact ih (wf_applyRecord h)
theorem loadMap_keeps {W : Nat} {r s : State} {d bad} (cw : Covers W 0x3fe00002000400000000000000000000000000000000088a80000000000018) (h : Keeps W r s) : Keeps W r (loadMap s d bad) := by
  delta loadMap
  extract_lets +onlyGivenNames mark segs lost frontier base journal applies recs map back fresh m1 s1
  have h1 : Keeps W r s1 := .media cw h (fun _ => wf_applyRecords (AMap.wf_foldl_set rfl _ _ _)) id
  exact .foldl h1 fun _ _ k => record_keeps (cw.le rfl) k
theorem finishStripes_keeps {W : Nat} {r : State} {s1 a2} (cw : Covers W 0x118000000000000000000000000000000000000000000000000007e886000000000008) (h1 : Keeps W r s1) : Keeps W r (finishStripes s1 a2) := by
  delta finishStripes
  extract_lets +onlyGivenNames v1 v2
  have k3 : Keeps W r v2 := by
    unfold v2
    refine .foldl h1 ?_
    intro _ _ k6
    refine .ite ?_ (unprotect_keeps (cw.le rfl) k6)
    extract_lets +onlyGivenNames v7
    exact appendRecord_keeps (cw.le rfl) (putStripe_keeps (cw.le rfl) k6)
  clear_value v2
  exact .foldl k3 (fun _ _ k10 => setState_keeps (cw.le rfl) k10)
theorem mapReady_keeps {W : Nat} {r : State} {s1 a2 a3} (cw : Covers W 0xd18000007fe000f28004000000800000000000000c00000308000fea86000000000019) (h1 : Keeps W r s1) : Keeps W r (mapReady s1 a2 a3) := by
  delta mapReady
  extract_lets +onlyGivenNames v1 v2 v3 v4 v5 v6
  have k7 : Keeps W r v2 := loadMap_keeps (cw.le rfl) (.upd cw h1)
  clear_value v2
  have k8 : Keeps W r v3 := startCkpt_keeps (cw.le rfl) (.ite (loadSets_keeps (cw.le rfl) k7) k7)
  clear_value v3
  have k12 : Keeps W r v4 := .foldl k8 (fun _ _ k9 => startResets_keeps (cw.le rfl) k9)
  clear_value v4
  have k13 : Keeps W r v5 := finishStripes_keeps (cw.le rfl) k12
  clear_value v5
  extract_lets +onlyGivenNames v14 v15
  have k16 : Keeps W r v15 := .upd cw k13
  clear_value v15
  extract_lets +onlyGivenNames v17
  refine flushIfOpen_keeps (cw.le rfl) ?_
  unfold v17
  exact .ite (newDumpKey_keeps (cw.le rfl) (.ite (newDumpKey_keeps (cw.le rfl) k16) k16)) (.ite (newDumpKey_keeps (cw.le rfl) k16) k16)
theorem mapLoad_keeps {W : Nat} {r : State} {s1 a2} (cw : Covers W 0xd18000007fe000f28004000002804000000000000c00000308000fea86000000000019) (h1 : Keeps W r s1) : Keeps W r (mapLoad s1 a2) := by
  delta mapLoad
  extract_lets +onlyGivenNames v1
  clear_value v1
  split
  · refine .ite (noteStart_keeps (cw.le rfl) (mapReady_keeps (cw.le rfl) h1)) ?_
    split
    · rename_i t2 x3 t4 e5
      have k8 : Keeps W r t4 := by
        refine Keeps2.of_eq e5 ?_
        refine draw_keeps (cw.le rfl) ?_
        extract_lets +onlyGivenNames v6
        have k7 : Keeps W r v6 := bump_keeps (cw.le rfl) h1
        exact .upd cw k7
      exact recordHm_keeps (cw.le rfl) k8
  · exact noteStart_keeps (cw.le rfl) (mapReady_keeps (cw.le rfl) h1)
theorem restoreEntry_keeps {W : Nat} {r : State} {s1 a2 a3} (cw : Covers W 0x3d0000000000) (h1 : Keeps W r s1) : Keeps W r (restoreEntry s1 a2 a3) := by
  delta restoreEntry
  extract_lets +onlyGivenNames v1 v2 v3 v4 v5
  exact indexChange_keeps (cw.le rfl) (.wharf cw h1 (AMap.wf_set · _ _) id)
theorem restoreMarker_keeps {W : Nat} {r : State} {s1 a2 a3} (cw : Covers W 0x3e0000000000) (h1 : Keeps W r s1) : Keeps W r (restoreMarker s1 a2 a3) := by
  delta restoreMarker
  extract_lets +onlyGivenNames v1 v2 v3 v4 v5
  exact indexChange_keeps (cw.le rfl) (.wharf cw h1 id (AMap.wf_set · _ _))
theorem restoreWharf_keeps {W : Nat} {r : State} {s1 a2} (cw : Covers W 0x4000000000000000000000000000000000000000000000000000007bff0000000000) (h1 : Keeps W r s1) : Keeps W r (restoreWharf s1 a2) := by
  delta restoreWharf
  extract_lets +onlyGivenNames v1 v2
  have k3 : Keeps W r v1 := .wharf cw h1 (fun _ => rfl) (fun _ => rfl)
  clear_value v1
  have k13 : Keeps W r v2 := by
    unfold v2
    refine .foldl k3 ?_
    intro x5 a6 k4
    split
    · exact restoreEntry_keeps (cw.le rfl) k4
    · exact restoreMarker_keeps (cw.le rfl) k4
  clear_value v2
  refine .foldl k13 ?_
  intro x15 a16 k14
  extract_lets +onlyGivenNames v17
  have k18 : Keeps W r v17 := .ite (clearMarker_keeps (cw.le rfl) k14) k14
  clear_value v17
  exact restoreEntry_keeps (cw.le rfl) k18
theorem applyRecovery_keeps {W : Nat} {r : State} {s1} (cw : Covers W 0x918000003ff000f2800400000000000000000040c0000000000007e886000000000018) (h1 : Keeps W r s1) : Keeps W r (applyRecovery s1) := by
  delta applyRecovery
  refine .ite h1 ?_
  extract_lets +onlyGivenNames v1 v2 v3 v4 v5
  have k17 : Keeps W r v5 := by
    unfold v5
    refine .ite ?_ ?_
    · split
      · extract_lets +onlyGivenNames v9
        exact .ite (.upd cw h1) h1
      · exact h1
    · refine .ite ?_ h1
      split
      · exact appendRecord_keeps (cw.le rfl) h1
      · exact h1
  clear_value v5
  extract_lets +onlyGivenNames v18
  extract_lets +onlyGivenNames v19
  extract_lets +onlyGivenNames v20
  have k21 : Keeps W r v20 := .upd cw k17
  clear_value v20
  exact syncRec_keeps (cw.le rfl) (record_keeps (cw.le rfl) k21)
theorem newestDump_wf {s : State} {p : Dump → Bool} {q : Nat × Dump} (h : newestDump s p = some q) (c : s.watch.Canonical) : berthMemWf q.2.berth = true := by
  have get (b : Nat) (x : Dump) (e : getDump s b = some x) : berthMemWf x.berth = true := by
    unfold getDump at e
    split at e
    · have := c.dump0
      rw [show s.watch.dump0 = some x from e] at this
      exact this
    · have := c.dump1
      rw [show s.watch.dump1 = some x from e] at this
      exact this
  have held (b : Nat) (y : Nat × Dump) (e : (if bufState s b = 1 then (getDump s b).bind fun d => if p d then some (b, d) else none else none) = some y) :
      berthMemWf y.2.berth = true := by
    split at e
    · obtain ⟨x, hx, e⟩ := Option.bind_eq_some_iff.1 e
      split at e
      · cases e
        exact get b x hx
      · cases e
    · cases e
  unfold newestDump at h
  extract_lets +onlyGivenNames f at h
  split at h
  · split at h
    · cases h; exact held 1 _ ‹_›
    · cases h; exact held 0 _ ‹_›
  · cases h; exact held 0 _ ‹_›
  · exact held 1 _ h
theorem loadBerths_keeps {W : Nat} {r s : State} {x : Dump} (cw : Covers W 0xa000000000) (h : Keeps W r s) (hx : r.watch.Canonical → berthMemWf x.berth = true) : Keeps W r (loadBerths s x) :=
  ⟨put_trans (Kept.frame h) (State.put_covers cw rfl), (show r.free ≤ s.free from Kept.free h), (show r.out <:+ s.out from Kept.out h), fun a => let c := (Kept.canonical h a : s.watch.Canonical); { c with berth := hx a }⟩
theorem berthsFrom_keeps {W : Nat} {r s : State} {p : Dump → Bool} (cw : Covers W 0xa000000008) (h : Keeps W r s) : Keeps W r (berthsFrom s (newestDump s p)) := by
  unfold berthsFrom
  split
  · rename_i b x e
    exact loadBerths_keeps (cw.le rfl) (.ite (setR_keeps (cw.le rfl) h) h) fun c => newestDump_wf e (Kept.canonical h c)
  · exact h
theorem restoreBerths_keeps {W : Nat} {r s : State} (cw : Covers W 0x80000000000000f080000000000000000000000000000000000000000000a080000008) (h : Keeps W r s) : Keeps W r (restoreBerths s) := by
  delta restoreBerths
  extract_lets +onlyGivenNames lost d s1 ways s2 s3
  have h1 : Keeps W r s1 := berthsFrom_keeps (cw.le rfl) h
  have h2 : Keeps W r s2 := .ite (.foldl h1 fun _ _ k => .upd cw k) h1
  have h3 : Keeps W r s3 := setR_keeps (cw.le rfl) h2
  exact .ite (syncRec_keeps (cw.le rfl) (setR_keeps (cw.le rfl) h3)) h3
theorem replayDump_keeps {W : Nat} {r : State} {s1} (cw : Covers W 0xd1c00003fff000f28c041e000100070000000044cc000000480607e8ffffa08000383a) (h1 : Keeps W r s1) : Keeps W r (replayDump s1) := by
  delta replayDump
  extract_lets +onlyGivenNames v1 v2 v3 v4 v5
  have k15 : Keeps W r v1 := by
    unfold v1
    split
    · extract_lets +onlyGivenNames v10 v11
      have k12 : Keeps W r v10 := .ite (restoreWharf_keeps (cw.le rfl) h1) h1
      clear_value v10
      exact .upd cw k12
    · exact h1
  clear_value v1
  have k16 : Keeps W r v2 := restoreBerths_keeps (cw.le rfl) (applyRecovery_keeps (cw.le rfl) k15)
  clear_value v2
  have k17 : Keeps W r v4 := .ite k16 (.wharf cw k16 (AMap.wf_map · _ fun _ => rfl) id)
  clear_value v4
  have k21 : Keeps W r v5 := reissueCopies_keeps (cw.le rfl) (.foldl k17 (fun _ _ k18 => refill_keeps (cw.le rfl) k18))
  clear_value v5
  extract_lets +onlyGivenNames v22
  have k23 : Keeps W r v22 := .ite (notePending_keeps (cw.le rfl) k21) k21
  clear_value v22
  exact settle_keeps (cw.le rfl) (settleLevel_keeps (cw.le rfl) (.upd cw k23))
theorem replayFlushArea_keeps {W : Nat} {r : State} {s1} (cw : Covers W 0xd1c00003fff000f28c041e000300070000000044cc000000480607e8ffffa08000383a) (h1 : Keeps W r s1) : Keeps W r (replayFlushArea s1) := noteStart_keeps (cw.le rfl) (replayDump_keeps (cw.le rfl) h1)
theorem appendRecent_keeps {W : Nat} {r : State} {s1} (cw : Covers W 0x7400000000000000000000000000000000000000000000000000000000008) (h1 : Keeps W r s1) : Keeps W r (appendRecent s1) := by
  delta appendRecent
  extract_lets +onlyGivenNames v1
  have k2 : Keeps W r v1 := flushBuffer_keeps (cw.le rfl) h1
  clear_value v1
  extract_lets +onlyGivenNames v3 v4 v5
  refine .foldl k2 ?_
  intro _ _ k8
  unfold v5
  extract_lets +onlyGivenNames v9
  exact .upd cw k8
theorem serviceBegins_keeps {W : Nat} {r : State} {s1} (cw : Covers W 0x3fe000020c043e10400000000000000000000000000000000000800000001b) (h1 : Keeps W r s1) : Keeps W r (serviceBegins s1) := by
  delta serviceBegins
  extract_lets +onlyGivenNames v1
  have k2 : Keeps W r v1 := setR_keeps (cw.le rfl) h1
  extract_lets +onlyGivenNames v3 v4
  have k5 : Keeps W r v4 := .upd cw k2
  extract_lets +onlyGivenNames v6
  have k7 : Keeps W r v6 := .ite (mirrorConnect_keeps (cw.le rfl) k5) k5
  clear_value v6
  extract_lets +onlyGivenNames v8 v9
  have k10 : Keeps W r v9 := drivePins_keeps (cw.le rfl) (.upd cw k7)
  clear_value v9
  extract_lets +onlyGivenNames v11 v12
  have k13 : Keeps W r v12 := record_keeps (cw.le rfl) k10
  clear_value v12
  exact emits_keeps (cw.le rfl) k13
theorem raiseMemoryActive_keeps {W : Nat} {r : State} {s1} (cw : Covers W 0xd1800003ffe000f28e043e1042000700000000042c0020407e0607e8c7b3a00000383f) (h1 : Keeps W r s1) : Keeps W r (raiseMemoryActive s1) := by
  delta raiseMemoryActive
  extract_lets +onlyGivenNames v1 v2
  have k3 : Keeps W r v1 := noteStart_keeps (cw.le rfl) (appendRecent_keeps (cw.le rfl) h1)
  clear_value v1
  extract_lets +onlyGivenNames v4
  extract_lets +onlyGivenNames v5
  have k6 : Keeps W r v5 := .upd cw k3
  clear_value v5
  extract_lets +onlyGivenNames v7
  have k8 : Keeps W r v7 := resumeRekeys_keeps (cw.le rfl) (resumeConfirms_keeps (cw.le rfl) (serviceBegins_keeps (cw.le rfl) (.upd cw k3)))
  clear_value v7
  extract_lets +onlyGivenNames v9
  have k13 : Keeps W r v9 := .ite (drivePins_keeps (cw.le rfl) (.foldl k6 (fun _ _ k10 => fencePort_keeps (cw.le rfl) (raiseViral_keeps (cw.le rfl) k10)))) (settleFlushArea_keeps (cw.le rfl) (settle_keeps (cw.le rfl) (settleVictims_keeps (cw.le rfl) k8)))
  clear_value v9
  exact trackAll_keeps (cw.le rfl) h1 k13
theorem execVinGood500ms_keeps {W : Nat} {r : State} {a1 s2} (cw : Covers W 0x8000000fffe000f28c0401ee42001808413e660100380000000100000000000000001c) (h2 : Keeps W r s2) : KeepsOut W r (execVinGood500ms a1 s2) := KeepsOut.next (.ite (enterSequencing_keeps (cw.le rfl) (.upd cw h2)) h2)
theorem execThermalLatchClear_keeps {W : Nat} {r : State} {s1} (cw : Covers W 0x80000000000800f0800000000000180000010000000000000000000000000000000008) (h1 : Keeps W r s1) : KeepsOut W r (execThermalLatchClear s1) := by
  delta execThermalLatchClear
  refine KeepsOut.next ?_
  refine .ite h1 ?_
  extract_lets +onlyGivenNames v1 v2
  have k3 : Keeps W r v2 := .upd cw h1
  exact .ite (syncRec_keeps (cw.le rfl) (.upd cw k3)) k3
theorem execHarbourmasterStart_keeps {W : Nat} {r : State} {a1 a2 a3 s4} (cw : Covers W 0x8000f0003fffffffe007fe000000ffffffffff80901000180000000000000002000018) (h4 : Keeps W r s4) : KeepsOut W r (execHarbourmasterStart a1 a2 a3 s4) := KeepsOut.next (.ite h4 (harbourmasterStart_keeps (cw.le rfl) h4))
theorem execSequencingStepDone_keeps {W : Nat} {r : State} {s1} (cw : Covers W 0x1f1df93f3ffe0c5ffcf5cffffe7f85f3ddf3f89ac0c782060fe3f37e9ffffbfeffffeff) (h1 : Keeps W r s1) : KeepsOut W r (execSequencingStepDone s1) := KeepsOut.next (sequencingStep_keeps (cw.le rfl) h1)
theorem execSequencingStepTimeout_keeps {W : Nat} {r : State} {a1 s2} (cw : Covers W 0x1f1df03f3ffe0c5ffcf5cffffe7f85f3ddf1f89ac0c782060fe3f37e9ffffbfeffffeff) (h2 : Keeps W r s2) : KeepsOut W r (execSequencingStepTimeout a1 s2) := KeepsOut.next (.ite (railFault_keeps (cw.le rfl) h2) h2)
theorem execFirmwareRunning_keeps {W : Nat} {r : State} {a1 a2 s3} (cw : Covers W 0x8020fc003ffe80f280040000024800c00000000010100018000000000000000200001c) (h3 : Keeps W r s3) : KeepsOut W r (execFirmwareRunning a1 a2 s3) := by
  delta execFirmwareRunning
  refine KeepsOut.next ?_
  refine .ite h3 ?_
  extract_lets +onlyGivenNames v1 v2 v3
  have k4 : Keeps W r v3 := .upd cw h3
  clear_value v3
  exact finishBoot_keeps (cw.le rfl) (noteStart_keeps (cw.le rfl) (planFallback_keeps (cw.le rfl) (readRec_keeps (cw.le rfl) (readRec_keeps (cw.le rfl) k4))))
theorem execBootFailed_keeps {W : Nat} {r : State} {a1 s2} (cw : Covers W 0x800172003fe000f2835c000003f8000000020000000000000000000000000000000018) (h2 : Keeps W r s2) : KeepsOut W r (execBootFailed a1 s2) := by
  delta execBootFailed
  refine KeepsOut.next ?_
  extract_lets +onlyGivenNames v1
  exact .ite (bootFailed_keeps (cw.le rfl) h2) h2
theorem execBootRetryTimer_keeps {W : Nat} {r : State} {s1} (cw : Covers W 0x1000000000000000000000200000000000000000000000000000000000000000000) (h1 : Keeps W r s1) : KeepsOut W r (execBootRetryTimer s1) := KeepsOut.next (.ite (.upd cw h1) h1)
theorem execHbmTrained_keeps {W : Nat} {r : State} {s1} (cw : Covers W 0x80206c003fe000f280040000025000000000000000000000000000000000000000001c) (h1 : Keeps W r s1) : KeepsOut W r (execHbmTrained s1) := KeepsOut.next (.ite (finishBoot_keeps (cw.le rfl) (noteStart_keeps (cw.le rfl) (track_keeps (cw.le rfl) h1 (.upd cw h1)))) h1)
theorem execMediaLinksTrained_keeps {W : Nat} {r : State} {s1} (cw : Covers W 0x80206c003fe000f280040000026000000400000000000000000100000000000000001c) (h1 : Keeps W r s1) : KeepsOut W r (execMediaLinksTrained s1) := by
  delta execMediaLinksTrained
  refine KeepsOut.next ?_
  refine .ite ?_ h1
  extract_lets +onlyGivenNames v1 v2 v3 v4
  have k5 : Keeps W r v4 := .upd cw h1
  clear_value v4
  exact finishBoot_keeps (cw.le rfl) (noteStart_keeps (cw.le rfl) (trackAll_keeps (cw.le rfl) h1 k5))
theorem execMapLoadDone_keeps {W : Nat} {r : State} {a1 s2} (cw : Covers W 0xd18000007fe000f28004000002804000000000000c00000308000fea86000000000019) (h2 : Keeps W r s2) : KeepsOut W r (execMapLoadDone a1 s2) := KeepsOut.next (.ite (mapLoad_keeps (cw.le rfl) h2) h2)
theorem execFlushAreaReplayDone_keeps {W : Nat} {r : State} {s1} (cw : Covers W 0xd1c00003fff000f28c041e000300070000000044cc000000480607e8ffffa08000383a) (h1 : Keeps W r s1) : KeepsOut W r (execFlushAreaReplayDone s1) := KeepsOut.next (.ite (replayFlushArea_keeps (cw.le rfl) h1) h1)
theorem execMemoryActiveRaise_keeps {W : Nat} {r : State} {s1} (cw : Covers W 0xd1800003ffe000f28e043e1042000700000000042c0020407e0607e8c7b3a00000383f) (h1 : Keeps W r s1) : KeepsOut W r (execMemoryActiveRaise s1) := KeepsOut.next (.ite (raiseMemoryActive_keeps (cw.le rfl) h1) h1)
theorem closeAll_keeps {W : Nat} {r : State} {s1 a2} (cw : Covers W 0x2003fe000020e440000000000000000000000000000000000000000000000001a) (h1 : Keeps W r s1) : Keeps W r (closeAll s1 a2) := .foldl h1 (fun _ _ k3 => closeSession_keeps (cw.le rfl) k3)
theorem holdPins_keeps {W : Nat} {r : State} {s1} (cw : Covers W 0xe0000000000000000000000000000000000000000000000000) (h1 : Keeps W r s1) : Keeps W r (holdPins s1) := by
  delta holdPins
  extract_lets +onlyGivenNames v1
  have k2 : Keeps W r v1 := capturePads_keeps (cw.le rfl) h1
  clear_value v1
  exact .upd cw k2
theorem disableLinks_keeps {W : Nat} {r : State} {s1} (cw : Covers W 0x3fe00002000400000000000000000000000000000000000000000000000038) (h1 : Keeps W r s1) : Keeps W r (disableLinks s1) := .foldl h1 (fun _ _ k1 => dropLink_keeps (cw.le rfl) (.ite k1 (showReason_keeps (cw.le rfl) k1)))
theorem endHostSide_keeps {W : Nat} {r : State} {s1} (cw : Covers W 0xd1900203ffe000f28f5c1e00000003000000000c0c0000004a0e07e8cfbfa807fffcfa) (h1 : Keeps W r s1) : Keeps W r (endHostSide s1) := by
  delta endHostSide
  extract_lets +onlyGivenNames v1
  have k2 : Keeps W r v1 := walkDone_keeps (cw.le rfl) h1
  clear_value v1
  extract_lets +onlyGivenNames v3
  have k4 : Keeps W r v3 := endHostWork_keeps (cw.le rfl) (fun _ _ k7 => finishAll_keeps (cw.le rfl) k7) (abortScrub_keeps (cw.le rfl) (disableLinks_keeps (cw.le rfl) k2))
  clear_value v3
  extract_lets +onlyGivenNames v8
  have k9 : Keeps W r v8 := .foldl k4 (fun _ _ k12 => appendCb_keeps (cw.le rfl) k12)
  clear_value v8
  extract_lets +onlyGivenNames v11
  have k11 : Keeps W r v11 := loseResvWhere_keeps (cw.le rfl) k9
  clear_value v11
  extract_lets +onlyGivenNames v13
  have k14 : Keeps W r v13 := .ite k11 (endMirrorSession_keeps (cw.le rfl) k11)
  clear_value v13
  exact resetKdp_keeps (cw.le rfl) (closeAll_keeps (cw.le rfl) (endFreeze_keeps (cw.le rfl) k14))
theorem resetLogic_keeps {W : Nat} {r : State} {s1} (cw : Covers W 0x1603f00000000002000000000000000000000000402060020100001a009a0d9ffef9) (h1 : Keeps W r s1) : Keeps W r (resetLogic s1) := by
  delta resetLogic
  extract_lets +onlyGivenNames v1 v2 v3 v4 v5
  have k6 : Keeps W r v1 := interruptRekeys_keeps (cw.le rfl) (abortTests_keeps (cw.le rfl) h1)
  clear_value v1
  have k7 : Keeps W r v3 := resetPorts_keeps (cw.le rfl) k6
  clear_value v3
  have k11 : Keeps W r v4 := .foldl k7 (fun _ _ k8 => setObj_keeps (cw.le rfl) k8)
  clear_value v4
  extract_lets +onlyGivenNames v12
  extract_lets +onlyGivenNames v13
  extract_lets +onlyGivenNames v14
  extract_lets +onlyGivenNames v15
  extract_lets +onlyGivenNames v16
  extract_lets +onlyGivenNames v17
  have k18 : Keeps W r v17 := .dir cw k11 (fun _ => rfl) (fun _ => rfl)
  clear_value v17
  exact k18
theorem reformQueues_keeps {W : Nat} {r : State} {s1} (cw : Covers W 0x6000000000000) (h1 : Keeps W r s1) : Keeps W r (reformQueues s1) := reissueCopies_keeps (cw.le rfl) (.foldl h1 (fun _ _ k3 => refill_keeps (cw.le rfl) k3))
theorem serviceReset_keeps {W : Nat} {r : State} {s1 a2} (cw : Covers W 0x1d19603f3ffe000f28f5cfe12e40003000000000c0c4020604a0f07e8dfbfba0ffffefb) (h1 : Keeps W r s1) : Keeps W r (serviceReset s1 a2) := by
  delta serviceReset
  extract_lets +onlyGivenNames v1 v2 v3
  have k4 : Keeps W r v1 := endHostSide_keeps (cw.le rfl) (noteReset_keeps (cw.le rfl) (holdPins_keeps (cw.le rfl) h1))
  clear_value v1
  have k5 : Keeps W r v2 := setPstate_keeps (cw.le rfl) (reformQueues_keeps (cw.le rfl) (resetLogic_keeps (cw.le rfl) k4))
  clear_value v2
  have k6 : Keeps W r v3 := setR_keeps (cw.le rfl) (setFrozen_keeps (cw.le rfl) k5)
  clear_value v3
  exact trackAll_keeps (cw.le rfl) h1 (settle_keeps (cw.le rfl) (.upd cw k6))
theorem resumeFirmware_keeps {W : Nat} {r : State} {s1} (cw : Covers W 0x7fe00002020400000000000000000000000020403e00000000000000000019) (h1 : Keeps W r s1) : Keeps W r (resumeFirmware s1) := resumeRekeys_keeps (cw.le rfl) (resumeConfirms_keeps (cw.le rfl) h1)
theorem serviceResetDone_keeps {W : Nat} {r : State} {s1} (cw : Covers W 0xd1800003ffe000f28e041e0044000300000000040c0020407e0607e8c7b3800000383b) (h1 : Keeps W r s1) : Keeps W r (serviceResetDone s1) := by
  delta serviceResetDone
  extract_lets +onlyGivenNames v1 v2 v3
  have k4 : Keeps W r v2 := clearObjs_keeps (cw.le rfl) (.upd cw h1)
  clear_value v2
  have k8 : Keeps W r v3 := .foldl k4 (fun _ _ k5 => startTraining_keeps (cw.le rfl) k5)
  clear_value v3
  extract_lets +onlyGivenNames v9
  have k10 : Keeps W r v9 := .ite (mirrorConnect_keeps (cw.le rfl) k8) k8
  clear_value v9
  exact trackAll_keeps (cw.le rfl) h1 (settle_keeps (cw.le rfl) (resumeFirmware_keeps (cw.le rfl) k10))
theorem integrityRestart_keeps {W : Nat} {r : State} {s1} (cw : Covers W 0x1f1d693ffffe000f28f5ce00003f800014002000c207820609a083281fbfb9f4d9ffefc) (h1 : Keeps W r s1) : Keeps W r (integrityRestart s1) := by
  delta integrityRestart
  extract_lets +onlyGivenNames v1 v2 v3 v4
  have k5 : Keeps W r v1 := endFreeze_keeps (cw.le rfl) (holdPins_keeps (cw.le rfl) (noteReset_keeps (cw.le rfl) (abortScrub_keeps (cw.le rfl) h1)))
  clear_value v1
  have k6 : Keeps W r v2 := clearCycles_keeps (cw.le rfl) (clearCounterUnit_keeps (cw.le rfl) (loseHbm_keeps (cw.le rfl) (loseFabric_keeps (cw.le rfl) k5)))
  clear_value v2
  extract_lets +onlyGivenNames v7 v8
  have k9 : Keeps W r v7 := .upd cw k6
  clear_value v7
  have k10 : Keeps W r v8 := setR_keeps (cw.le rfl) (setFrozen_keeps (cw.le rfl) (syncRecs_keeps (cw.le rfl) k9))
  clear_value v8
  exact trackAll_keeps (cw.le rfl) h1 (enterBooting_keeps (cw.le rfl) (setR_keeps (cw.le rfl) k10))
theorem restartLoading_keeps {W : Nat} {r : State} {s1} (cw : Covers W 0x20028000000035c00100380030000000000000000000a00000002000000000808) (h1 : Keeps W r s1) : Keeps W r (restartLoading s1) := by
  delta restartLoading
  extract_lets +onlyGivenNames v1
  have k2 : Keeps W r v1 := resetKdp_keeps (cw.le rfl) (setPstate_keeps (cw.le rfl) h1)
  clear_value v1
  exact .upd cw k2
theorem wakeAsked_keeps {W : Nat} {r : State} {s1} (cw : Covers W 0xa0200000000000000000000000000000000000000000008) (h1 : Keeps W r s1) : Keeps W r (wakeAsked s1) := by
  delta wakeAsked
  extract_lets +onlyGivenNames v1
  refine .ite h1 ?_
  refine .ite ?_ ?_
  · extract_lets +onlyGivenNames v2
    have k3 : Keeps W r v2 := setR_keeps (cw.le rfl) h1
    exact .upd cw k3
  · refine .ite ?_ h1
    extract_lets +onlyGivenNames v4
    have k5 : Keeps W r v4 := setR_keeps (cw.le rfl) h1
    exact .upd cw k5
theorem abortEntry_keeps {W : Nat} {r : State} {s1} (cw : Covers W 0x20000000000000000000000000000000000000000000000000008) (h1 : Keeps W r s1) : Keeps W r (abortEntry s1) := endRun_keeps (cw.le rfl) (setR_keeps (cw.le rfl) h1)
theorem warmIgnored_keeps {W : Nat} {r : State} {s1 a2} (cw : Covers W 0x3fe00002000400000000000000000000000000000000000000000000000018) (h1 : Keeps W r s1) : Keeps W r (warmIgnored s1 a2) := by
  delta warmIgnored
  extract_lets +onlyGivenNames v1
  exact .ite (recordHm_keeps (cw.le rfl) h1) (record_keeps (cw.le rfl) h1)
theorem warmReset_keeps {W : Nat} {r : State} {s1 a2} (cw : Covers W 0x1f1d693ffffe000f28f5cfe1ae7f803014002000c2c782060da0f37e9ffffbf4ffffeff) (h1 : Keeps W r s1) : Keeps1 W r (warmReset s1 a2) := by
  delta warmReset
  extract_lets +onlyGivenNames v1
  split
  · exact Keeps1.mk (warmIgnored_keeps (cw.le rfl) h1)
  · exact Keeps1.mk (warmIgnored_keeps (cw.le rfl) h1)
  · exact Keeps1.mk (warmIgnored_keeps (cw.le rfl) h1)
  · exact Keeps1.mk (enterBooting_keeps (cw.le rfl) (resetKdp_keeps (cw.le rfl) (noteReset_keeps (cw.le rfl) (setFrozen_keeps (cw.le rfl) h1))))
  · exact Keeps1.mk (trackAll_keeps (cw.le rfl) h1 (restartLoading_keeps (cw.le rfl) (noteReset_keeps (cw.le rfl) (setFrozen_keeps (cw.le rfl) h1))))
  · extract_lets +onlyGivenNames v14
    have k15 : Keeps W r v14 := .ite (setFrozen_keeps (cw.le rfl) h1) h1
    clear_value v14
    exact .ite (Keeps1.mk (wakeAsked_keeps (cw.le rfl) k15)) (.ite (Keeps1.mk (abortEntry_keeps (cw.le rfl) k15)) (Keeps1.mk (serviceReset_keeps (cw.le rfl) k15)))
  · exact Keeps1.mk (warmIgnored_keeps (cw.le rfl) h1)
  · exact .ite (Keeps1.mk (integrityRestart_keeps (cw.le rfl) h1)) (Keeps1.mk (warmIgnored_keeps (cw.le rfl) h1))
theorem noteRefusal_keeps {W : Nat} {r : State} {s1 a2 a3} (cw : Covers W 0x3fe00002000400000000000000000000000000000000000000000000000018) (h1 : Keeps W r s1) : Keeps W r (noteRefusal s1 a2 a3) := by
  delta noteRefusal
  extract_lets +onlyGivenNames v1
  have k2 : Keeps W r v1 := setR_keeps (cw.le rfl) (setR_keeps (cw.le rfl) (bumpR_keeps (cw.le rfl) h1))
  clear_value v1
  exact record_keeps (cw.le rfl) k2
theorem askEntry_keeps {W : Nat} {r : State} {a1 s2} (cw : Covers W 0x3fe00002000400010000000000000000000000000000000000000000000018) (h2 : Keeps W r s2) : Keeps1 W r (askEntry a1 s2) := by
  delta askEntry
  refine .ite (Keeps1.mk h2) ?_
  refine .ite (Keeps1.mk (.upd cw h2)) ?_
  split
  · exact Keeps1.mk (noteRefusal_keeps (cw.le rfl) h2)
  · refine Keeps1.mk ?_
    extract_lets +onlyGivenNames v1
    have k2 : Keeps W r v1 := setR_keeps (cw.le rfl) h2
    exact .upd cw k2
theorem pstateRequest_keeps {W : Nat} {r : State} {a1 s2} (cw : Covers W 0x3fe00002020400010000000000000000000000000000000000000000000018) (h2 : Keeps W r s2) : Keeps1 W r (pstateRequest a1 s2) := .ite (.ite (Keeps1.mk (abortEntry_keeps (cw.le rfl) h2)) (Keeps1.mk h2)) (askEntry_keeps (cw.le rfl) h2)
theorem startEntering_keeps {W : Nat} {r : State} {s1} (cw : Covers W 0x80000203ffe000f28e44c000000000c00000000000400000400000000000a00000083a) (h1 : Keeps W r s1) : Keeps W r (startEntering s1) := by
  delta startEntering
  extract_lets +onlyGivenNames v1 v2 v3 v4 v5
  have k6 : Keeps W r v1 := setR_keeps (cw.le rfl) (capturePads_keeps (cw.le rfl) h1)
  clear_value v1
  have k7 : Keeps W r v2 := setR_keeps (cw.le rfl) k6
  clear_value v2
  have k8 : Keeps W r v3 := .ite k7 (endMirrorSession_keeps (cw.le rfl) k7)
  clear_value v3
  have k9 : Keeps W r v4 := saveRekey_keeps (cw.le rfl) (closeAll_keeps (cw.le rfl) k8)
  clear_value v4
  have k10 : Keeps W r v5 := .ite (Keeps1.fst (captureDump_keeps (cw.le rfl) (flushIfOpen_keeps (cw.le rfl) k9))) k9
  clear_value v5
  exact trackAll_keeps (cw.le rfl) h1 k10
theorem finishEntry_keeps {W : Nat} {r : State} {s1} (cw : Covers W 0x71d603f03fe000020f5c001ca03800055800800c004020609a083281fbfbbfcd9ffef8) (h1 : Keeps W r s1) : Keeps W r (finishEntry s1) := by
  delta finishEntry
  extract_lets +onlyGivenNames v1 v2 v3 v4 v5 v6
  have k10 : Keeps W r v2 := setPstate_keeps (cw.le rfl) (.foldl h1 (fun _ _ k7 => dropLink_keeps (cw.le rfl) k7))
  clear_value v2
  have k11 : Keeps W r v3 := loseFabric_keeps (cw.le rfl) k10
  clear_value v3
  have k12 : Keeps W r v4 := .ite (loseBerth_keeps (cw.le rfl) (loseHbm_keeps (cw.le rfl) k11)) k11
  clear_value v4
  extract_lets +onlyGivenNames v13
  extract_lets +onlyGivenNames v14
  extract_lets +onlyGivenNames v15
  have k16 : Keeps W r v15 := .upd cw k12
  clear_value v15
  exact trackAll_keeps (cw.le rfl) h1 (setR_keeps (cw.le rfl) k16)
theorem noteWake_keeps {W : Nat} {r : State} {s1 a2} (cw : Covers W 0x3fe00002000400080200000000000000000000000000000000000000000018) (h1 : Keeps W r s1) : Keeps W r (noteWake s1 a2) := by
  delta noteWake
  extract_lets +onlyGivenNames v1 v2
  have k3 : Keeps W r v2 := setR_keeps (cw.le rfl) h1
  clear_value v2
  extract_lets +onlyGivenNames v4 v5
  have k6 : Keeps W r v5 := .ite (recordHm_keeps (cw.le rfl) k3) k3
  clear_value v5
  exact .upd cw k6
theorem wakeStepEffect_keeps {W : Nat} {r : State} {s1 a2 a3} (cw : Covers W 0xd1c0000ffff000f28c041e0001b8070004008044cc00000348070feaffffa08000383b) (h1 : Keeps W r s1) : Keeps W r (wakeStepEffect s1 a2 a3) := by
  delta wakeStepEffect
  split
  · exact .upd cw h1
  · exact .upd cw h1
  · exact clearCycles_keeps (cw.le rfl) (clearCounterUnit_keeps (cw.le rfl) (.upd cw h1))
  · exact .upd cw h1
  · exact replayDump_keeps (cw.le rfl) (mapReady_keeps (cw.le rfl) h1)
  · exact h1
theorem finishWake_keeps {W : Nat} {r : State} {s1} (cw : Covers W 0x1d1800003ffe000f28e041e1fffff0300000000040c0020407e0607e8c7b3800000383b) (h1 : Keeps W r s1) : Keeps W r (finishWake s1) := by
  delta finishWake
  extract_lets +onlyGivenNames v1 v2 v3 v4
  have k5 : Keeps W r v1 := setPstate_keeps (cw.le rfl) h1
  clear_value v1
  have k6 : Keeps W r v2 := setR_keeps (cw.le rfl) k5
  clear_value v2
  extract_lets +onlyGivenNames v7 v8 v9
  have k10 : Keeps W r v7 := .upd cw k6
  clear_value v7
  have k14 : Keeps W r v8 := .foldl k10 (fun _ _ k11 => startTraining_keeps (cw.le rfl) k11)
  clear_value v8
  have k15 : Keeps W r v9 := .ite (mirrorConnect_keeps (cw.le rfl) k14) k14
  clear_value v9
  exact settle_keeps (cw.le rfl) (flushIfOpen_keeps (cw.le rfl) (resumeFirmware_keeps (cw.le rfl) (reformQueues_keeps (cw.le rfl) k15)))
theorem wakeStep_keeps {W : Nat} {r : State} {s1 a2} (cw : Covers W 0x1d1c0000ffff000f28e041e1fffff070004008044cc0020437e070feaffffa08000383b) (h1 : Keeps W r s1) : Keeps W r (wakeStep s1 a2) := by
  delta wakeStep
  extract_lets +onlyGivenNames v1 v2
  refine .ite h1 ?_
  refine .ite (trackAll_keeps (cw.le rfl) h1 (finishWake_keeps (cw.le rfl) h1)) ?_
  extract_lets +onlyGivenNames v3
  have k4 : Keeps W r v3 := noteWake_keeps (cw.le rfl) (wakeStepEffect_keeps (cw.le rfl) h1)
  clear_value v3
  exact trackAll_keeps (cw.le rfl) h1 (.ite (finishWake_keeps (cw.le rfl) k4) (.ite (finishWake_keeps (cw.le rfl) (setR_keeps (cw.le rfl) k4)) k4))
theorem execRefClockLost_keeps {W : Nat} {r : State} {a1 a2 a3 s4} (cw : Covers W 0xd1900003ffe000f28c041e0000070300000000040c0000007e0e07e8cfbfb80ffffcfb) (h4 : Keeps W r s4) : KeepsOut W r (execRefClockLost a1 a2 a3 s4) := by
  delta execRefClockLost
  refine KeepsOut.next ?_
  refine .ite h4 ?_
  extract_lets +onlyGivenNames v1 v2
  have k3 : Keeps W r v2 := h4
  extract_lets +onlyGivenNames v4
  have k5 : Keeps W r v4 := setR_keeps (cw.le rfl) k3
  extract_lets +onlyGivenNames v6 v7
  have k8 : Keeps W r v7 := .ite (.upd cw k5) (.upd cw k3)
  extract_lets +onlyGivenNames v9 v10
  have k11 : Keeps W r v10 := .foldl (.foldl (bumpR_keeps (cw.le rfl) k8) (fun _ _ k14 => linkLost_keeps (cw.le rfl) k14)) (fun _ _ k17 => startTraining_keeps (cw.le rfl) k17)
  extract_lets +onlyGivenNames v18
  have k19 : Keeps W r v18 := .ite (recordHm_keeps (cw.le rfl) k11) k11
  exact track_keeps (cw.le rfl) k3 k19
theorem execRefClockRestored_keeps {W : Nat} {r : State} {a1 s2} (cw : Covers W 0x3fe00002000400000003000000000000000000000000000000000000000018) (h2 : Keeps W r s2) : KeepsOut W r (execRefClockRestored a1 s2) := by
  delta execRefClockRestored
  refine KeepsOut.next ?_
  refine .ite h2 ?_
  extract_lets +onlyGivenNames v1
  have k2 : Keeps W r v1 := h2
  extract_lets +onlyGivenNames v3
  have k4 : Keeps W r v3 := setR_keeps (cw.le rfl) k2
  extract_lets +onlyGivenNames v5 v6
  have k7 : Keeps W r v6 := .upd cw k4
  extract_lets +onlyGivenNames v8
  have k9 : Keeps W r v8 := .ite (.ite (recordHm_keeps (cw.le rfl) k7) k7) (.upd cw k2)
  exact track_keeps (cw.le rfl) k2 (.foldl k9 (fun _ _ k12 => startTraining_keeps (cw.le rfl) k12))
theorem execMrstNAccept_keeps {W : Nat} {r : State} {s1} (cw : Covers W 0x1f1d693ffffe000f28f5cfe1aeff803014002000c2c782060da0f37e9ffffbf6ffffeff) (h1 : Keeps W r s1) : KeepsOut W r (execMrstNAccept s1) := KeepsOut.next (.ite (Keeps1.fst (warmReset_keeps (cw.le rfl) (.upd cw h1))) h1)
theorem execMrstNRelease_keeps {W : Nat} {r : State} {s1} (cw : Covers W 0x80009000202000f0800000000bf800000002000000000000000000000000000000000c) (h1 : Keeps W r s1) : KeepsOut W r (execMrstNRelease s1) := by
  delta execMrstNRelease
  extract_lets +onlyGivenNames v1 v2
  have k3 : Keeps W r v2 := .upd cw h1
  exact KeepsOut.next (.ite (enterBooting_keeps (cw.le rfl) k3) k3)
theorem warmResetEffect_keeps {W : Nat} {r : State} {a1 a2 s3} (cw : Covers W 0x1f1d693ffffe000f28f5cfe1ae7f803014002000c2c782060da0f37e9ffffbf6ffffeff) (h3 : Keeps W r s3) : Keeps1 W r (warmResetEffect a1 a2 s3) := runCommand_keeps (cw.le rfl) (fun _ _ _ k4 => warmReset_keeps (cw.le rfl) k4) h3
theorem execWarmReset_keeps {W : Nat} {r : State} {a1 a2 s3} (cw : Covers W 0x3f1d693ffffe000f28fdcfe1ae7f803014002000c2c782060da0f37e9ffffbf6ffffeff) (h3 : Keeps W r s3) : KeepsOut W r (execWarmReset a1 a2 s3) := KeepsOut.next (kdpObject_keeps (cw.le rfl) (fun _ _ _ k4 => warmResetEffect_keeps (cw.le rfl) k4) h3)
theorem execServiceResetDone_keeps {W : Nat} {r : State} {s1} (cw : Covers W 0xd1800003ffe000f28e041e0044000300000000040c0020407e0607e8c7b3800000383b) (h1 : Keeps W r s1) : KeepsOut W r (execServiceResetDone s1) := KeepsOut.next (.ite (serviceResetDone_keeps (cw.le rfl) h1) h1)
theorem watchdogRestart_keeps {W : Nat} {r : State} {s1 a2} (cw : Covers W 0x1f1941223ffe600f38f5c1e10f000030000000007fc4010037e0e37e9ffffb97ffffcff) (h1 : Keeps W r s1) : Keeps W r (watchdogRestart s1 a2) := by
  delta watchdogRestart
  extract_lets +onlyGivenNames v1 v2 v3 v4 v5 v6
  have k7 : Keeps W r v1 := interruptRekeys_keeps (cw.le rfl) (openGate_keeps (cw.le rfl) (resetSessions_keeps (cw.le rfl) (closeAll_keeps (cw.le rfl) (endFreeze_keeps (cw.le rfl) (noteReset_keeps (cw.le rfl) h1)))))
  clear_value v1
  have k8 : Keeps W r v4 := .ite k7 (endPause_keeps (cw.le rfl) (endRun_keeps (cw.le rfl) k7))
  clear_value v4
  have k9 : Keeps W r v6 := .upd cw k8
  clear_value v6
  extract_lets +onlyGivenNames v10
  extract_lets +onlyGivenNames v11
  have k12 : Keeps W r v11 := .ite (syncRec_keeps (cw.le rfl) (.upd cw k9)) k9
  clear_value v11
  exact trackAll_keeps (cw.le rfl) h1 (record_keeps (cw.le rfl) k12)
theorem execWatchdogRestart_keeps {W : Nat} {r : State} {a1 s2} (cw : Covers W 0x1f1957223ffe600f38f5c1e10f3f8030000020007fc4010037e0e37e9ffffb97ffffcff) (h2 : Keeps W r s2) : KeepsOut W r (execWatchdogRestart a1 s2) := by
  delta execWatchdogRestart
  refine KeepsOut.next ?_
  split
  · exact .ite (bootFailed_keeps (cw.le rfl) h2) h2
  · exact trackAll_keeps (cw.le rfl) h2 (restartLoading_keeps (cw.le rfl) (noteReset_keeps (cw.le rfl) h2))
  · exact .ite (watchdogRestart_keeps (cw.le rfl) h2) h2
  · exact watchdogRestart_keeps (cw.le rfl) h2
  · exact watchdogRestart_keeps (cw.le rfl) h2
  · exact h2
  · exact h2
  · exact h2
theorem execWatchdogRestartDone_keeps {W : Nat} {r : State} {s1} (cw : Covers W 0x7fe00002000400002000000000000000000000003e00000000000000000018) (h1 : Keeps W r s1) : KeepsOut W r (execWatchdogRestartDone s1) := by
  delta execWatchdogRestartDone
  extract_lets +onlyGivenNames v1
  extract_lets +onlyGivenNames v2
  have k3 : Keeps W r v2 := .upd cw h1
  clear_value v2
  exact KeepsOut.next (.ite (resumeRekeys_keeps (cw.le rfl) k3) k3)
theorem execFlushCoreWatchdog_keeps {W : Nat} {r : State} {s1} (cw : Covers W 0x0) (h1 : Keeps W r s1) : KeepsOut W r (execFlushCoreWatchdog s1) := KeepsOut.next h1
theorem blockReset_keeps {W : Nat} {r : State} {a1 s2} (cw : Covers W 0x10000000fc0000000000000000000000000000000000000000000000000000000000018) (h2 : Keeps W r s2) : Keeps1 W r (blockReset a1 s2) := by
  delta blockReset
  refine .ite h2 ?_
  refine .ite h2 ?_
  extract_lets +onlyGivenNames v1 v2
  have k3 : Keeps W r v1 := .ite (clearCounterUnit_keeps (cw.le rfl) h2) h2
  clear_value v1
  have k4 : Keeps W r v2 := openGate_keeps (cw.le rfl) k3
  clear_value v2
  exact Keeps1.mk (setR_keeps (cw.le rfl) k4)
theorem blockResetEffect_keeps {W : Nat} {r : State} {a1 a2 s3} (cw : Covers W 0x10000000fc0000000020000000000000000000000000000000000000000000000000018) (h3 : Keeps W r s3) : Keeps1 W r (blockResetEffect a1 a2 s3) := runCommand_keeps (cw.le rfl) (fun _ _ _ k4 => blockReset_keeps (cw.le rfl) k4) h3
theorem execBlockReset_keeps {W : Nat} {r : State} {a1 a2 s3} (cw : Covers W 0x30000000fc00000000e840000000000000000000000000000000000000000000000001a) (h3 : Keeps W r s3) : KeepsOut W r (execBlockReset a1 a2 s3) := KeepsOut.next (kdpObject_keeps (cw.le rfl) (fun _ _ _ k4 => blockResetEffect_keeps (cw.le rfl) k4) h3)
theorem execBlockRelease_keeps {W : Nat} {r : State} {a1 a2 s3} (cw : Covers W 0xd1800003ffe000f28e041e0000000300000000040c000000480607e8c7b3000000383a) (h3 : Keeps W r s3) : KeepsOut W r (execBlockRelease a1 a2 s3) := by
  delta execBlockRelease
  extract_lets +onlyGivenNames v1
  exact KeepsOut.next (.ite h3 (.ite (settle_keeps (cw.le rfl) (endRun_keeps (cw.le rfl) (setR_keeps (cw.le rfl) h3))) (setR_keeps (cw.le rfl) h3)))
theorem execP1IdleExpiry_keeps {W : Nat} {r : State} {s1} (cw : Covers W 0x3fe00002000400100000000000000000000000000000000000000000000818) (h1 : Keeps W r s1) : KeepsOut W r (execP1IdleExpiry s1) := by
  delta execP1IdleExpiry
  refine KeepsOut.next ?_
  refine .ite h1 ?_
  split
  · exact noteRefusal_keeps (cw.le rfl) h1
  · exact setPstate_keeps (cw.le rfl) h1
theorem execP2IdleExpiry_keeps {W : Nat} {r : State} {s1} (cw : Covers W 0x3fe00002000400100000000000000000000000000000000000000000000818) (h1 : Keeps W r s1) : KeepsOut W r (execP2IdleExpiry s1) := by
  delta execP2IdleExpiry
  refine KeepsOut.next ?_
  refine .ite h1 ?_
  split
  · exact noteRefusal_keeps (cw.le rfl) h1
  · exact .ite h1 (setPstate_keeps (cw.le rfl) h1)
theorem execP2ExitDone_keeps {W : Nat} {r : State} {s1} (cw : Covers W 0x8000000000000000000000000000000000000000000000) (h1 : Keeps W r s1) : KeepsOut W r (execP2ExitDone s1) := KeepsOut.next (.upd cw h1)
theorem pstateEffect_keeps {W : Nat} {r : State} {a1 a2 s3} (cw : Covers W 0x3fe00002020400010000000000000000000000000000000000000000000018) (h3 : Keeps W r s3) : Keeps1 W r (pstateEffect a1 a2 s3) := runCommand_keeps (cw.le rfl) (fun _ _ _ k4 => pstateRequest_keeps (cw.le rfl) k4) h3
theorem pstateExec_keeps {W : Nat} {r : State} {a1 a2 a3 s4} (cw : Covers W 0x2000000003fe000020e840001000000000000000000000000000000000000000000001a) (h4 : Keeps W r s4) : Keeps W r (pstateExec a1 a2 a3 s4) := kdpObject_keeps (cw.le rfl) (fun _ _ _ k4 => pstateEffect_keeps (cw.le rfl) k4) h4
theorem execPstateRequest0_keeps {W : Nat} {r : State} {a1 s2} (cw : Covers W 0x2000000003fe000020e840001000000000000000000000000000000000000000000001a) (h2 : Keeps W r s2) : KeepsOut W r (execPstateRequest0 a1 s2) := KeepsOut.next (pstateExec_keeps (cw.le rfl) h2)
theorem execPstateRequest3_keeps {W : Nat} {r : State} {a1 s2} (cw : Covers W 0x2000000003fe000020e840001000000000000000000000000000000000000000000001a) (h2 : Keeps W r s2) : KeepsOut W r (execPstateRequest3 a1 s2) := KeepsOut.next (pstateExec_keeps (cw.le rfl) h2)
theorem execPstateRequest4_keeps {W : Nat} {r : State} {a1 s2} (cw : Covers W 0x2000000003fe000020e840001000000000000000000000000000000000000000000001a) (h2 : Keeps W r s2) : KeepsOut W r (execPstateRequest4 a1 s2) := KeepsOut.next (pstateExec_keeps (cw.le rfl) h2)
theorem execPstatePrepDone_keeps {W : Nat} {r : State} {s1} (cw : Covers W 0x80000203ffe000f28e44c000000000c00000000000400000400000000000a00000083a) (h1 : Keeps W r s1) : KeepsOut W r (execPstatePrepDone s1) := KeepsOut.next (.ite (startEntering_keeps (cw.le rfl) h1) h1)
theorem execPstatePrepTimeout_keeps {W : Nat} {r : State} {a1 s2} (cw : Covers W 0x80000203ffe000f28e44c000000000c00000000000400000400000000000a00000083a) (h2 : Keeps W r s2) : KeepsOut W r (execPstatePrepTimeout a1 s2) := by
  delta execPstatePrepTimeout
  refine KeepsOut.next (.ite h2 ?_)
  split
  · exact noteRefusal_keeps (cw.le rfl) (abortEntry_keeps (cw.le rfl) h2)
  · exact .ite (startEntering_keeps (cw.le rfl) h2) h2
theorem execPstateEntryDone_keeps {W : Nat} {r : State} {s1} (cw : Covers W 0x71d603f03fe000020f5c001ca03800055800800c004020609a083281fbfbbfed9ffef8) (h1 : Keeps W r s1) : KeepsOut W r (execPstateEntryDone s1) := KeepsOut.next (.ite (finishEntry_keeps (cw.le rfl) h1) h1)
theorem execPstateWakeTimer_keeps {W : Nat} {r : State} {s1} (cw : Covers W 0xa0200000000000000000000000000000000000000000008) (h1 : Keeps W r s1) : KeepsOut W r (execPstateWakeTimer s1) := KeepsOut.next (.ite (wakeAsked_keeps (cw.le rfl) h1) h1)
theorem execWakeStepDone_keeps {W : Nat} {r : State} {a1 s2} (cw : Covers W 0x1d1c0000ffff000f28e041e1fffff070004008044cc0020437e070feaffffa08000383b) (h2 : Keeps W r s2) : KeepsOut W r (execWakeStepDone a1 s2) := KeepsOut.next (wakeStep_keeps (cw.le rfl) h2)
theorem padHoldReleaseEffect_keeps {W : Nat} {r : State} {a1 a2 s3} (cw : Covers W 0x2001e000000000000000000000000000000000000000000000008) (h3 : Keeps W r s3) : Keeps1 W r (padHoldReleaseEffect a1 a2 s3) := runCommand_keeps (cw.le rfl) (fun _ _ _ k4 => Keeps1.mk (.ite (drivePins_keeps (cw.le rfl) (setR_keeps (cw.le rfl) k4)) k4)) h3
theorem execPadHoldRelease_keeps {W : Nat} {r : State} {a1 a2 s3} (cw : Covers W 0x200000000000000000e841e00000000000000000000000000000000000000000000000a) (h3 : Keeps W r s3) : KeepsOut W r (execPadHoldRelease a1 a2 s3) := KeepsOut.next (kdpObject_keeps (cw.le rfl) (fun _ _ _ k4 => padHoldReleaseEffect_keeps (cw.le rfl) k4) h3)
theorem retentionFreezeEffect_keeps {W : Nat} {r : State} {a1 a2 s3} (cw : Covers W 0x10000000000000000020000000000000000000000000000000000000000000000000008) (h3 : Keeps W r s3) : Keeps1 W r (retentionFreezeEffect a1 a2 s3) := runCommand_keeps (cw.le rfl) (fun _ _ _ k4 => .ite (Keeps1.mk k4) (.ite (Keeps1.mk k4) (Keeps1.mk (setFrozen_keeps (cw.le rfl) k4)))) h3
theorem execRetentionFreeze_keeps {W : Nat} {r : State} {a1 a2 s3} (cw : Covers W 0x300000000000000000e840000000000000000000000000000000000000000000000000a) (h3 : Keeps W r s3) : KeepsOut W r (execRetentionFreeze a1 a2 s3) := KeepsOut.next (kdpObject_keeps (cw.le rfl) (fun _ _ _ k4 => retentionFreezeEffect_keeps (cw.le rfl) k4) h3)
theorem retentionResumeEffect_keeps {W : Nat} {r : State} {a1 a2 s3} (cw : Covers W 0x1d1800003ffe000f28e041e0000000300000000040c000000480607e8c7b3000000383a) (h3 : Keeps W r s3) : Keeps1 W r (retentionResumeEffect a1 a2 s3) := runCommand_keeps (cw.le rfl) (fun _ _ _ k4 => Keeps1.mk (settle_keeps (cw.le rfl) (setFrozen_keeps (cw.le rfl) k4))) h3
theorem execRetentionResume_keeps {W : Nat} {r : State} {a1 a2 s3} (cw : Covers W 0x3d1800003ffe000f28e841e0000000300000000040c000000480607e8c7b3000000383a) (h3 : Keeps W r s3) : KeepsOut W r (execRetentionResume a1 a2 s3) := KeepsOut.next (kdpObject_keeps (cw.le rfl) (fun _ _ _ k4 => retentionResumeEffect_keeps (cw.le rfl) k4) h3)
end Sys2Proof.Machine
end

