-- ==== Sys2Proof/Laws/KeepsService.lean ====
section
/-! SUPPORT. What temperature, KDP sessions, tests and firmware keep: one lemma per operation (Laws/Keeps.lean). -/
set_option linter.unusedVariables false
set_option maxRecDepth 4000
set_option Elab.async false
namespace Sys2Proof.Machine
open Sys2Proof

theorem takeTemp_keeps {W : Nat} {r : State} {s1 a2} (cw : Covers W 0x3fe00002000400200000000000000000000000000000000000000000000018) (h1 : Keeps W r s1) : Keeps W r (takeTemp s1 a2) := by
  delta takeTemp
  extract_lets +onlyGivenNames v1 v2
  refine .ite h1 ?_
  extract_lets +onlyGivenNames v3 v4 v5 v6
  refine .ite h1 ?_
  refine .ite ?_ ?_
  · extract_lets +onlyGivenNames v7
    refine .ite ?_ ?_
    · unfold v6
      exact .upd cw h1
    · refine track_keeps (cw.le rfl) h1 ?_
      refine recordWith_keeps (cw.le rfl) ?_
      unfold v6
      exact .upd cw h1
  · unfold v6
    exact .upd cw h1
theorem putPart_keeps {W : Nat} {r : State} {s1 a2 a3} (cw : Covers W 0x400000000000000000000000000000000000000000000000) (h1 : Keeps W r s1) : Keeps W r (putPart s1 a2 a3) := .upd cw h1
theorem judgeWarn_keeps {W : Nat} {r : State} {s1 a2 a3 a4 a5 a6} (cw : Covers W 0x3fe00002000400400000000000000000000000000000000000000000000018) (h1 : Keeps W r s1) : Keeps W r (judgeWarn s1 a2 a3 a4 a5 a6) := by
  delta judgeWarn
  extract_lets +onlyGivenNames v1
  exact .ite (recordWith_keeps (cw.le rfl) (bumpR_keeps (cw.le rfl) (putPart_keeps (cw.le rfl) h1))) (.ite (putPart_keeps (cw.le rfl) h1) h1)
theorem notePeak_keeps {W : Nat} {r : State} {s1 a2 a3} (cw : Covers W 0x8) (h1 : Keeps W r s1) : Keeps W r (notePeak s1 a2 a3) := .foldl h1 (fun _ _ k3 => .ite (setObj_keeps (cw.le rfl) k3) k3)
theorem judgeUnit_keeps {W : Nat} {r : State} {s1 a2} (cw : Covers W 0x3fe00002000400600000000000000000000000000000000000000000000018) (h1 : Keeps W r s1) : Keeps W r (judgeUnit s1 a2) := by
  delta judgeUnit
  refine .ite (.upd cw h1) ?_
  split
  · exact putPart_keeps (cw.le rfl) h1
  · extract_lets +onlyGivenNames v1 v2
    have k3 : Keeps W r v2 := putPart_keeps (cw.le rfl) h1
    clear_value v2
    exact judgeWarn_keeps (cw.le rfl) (notePeak_keeps (cw.le rfl) k3)
theorem judgeCoolant_keeps {W : Nat} {r : State} {a1 s2} (cw : Covers W 0x3fe00002000400400000000000000000000000000000000000000000000018) (h2 : Keeps W r s2) : Keeps W r (judgeCoolant a1 s2) := by
  delta judgeCoolant
  extract_lets +onlyGivenNames v1 v2
  have k3 : Keeps W r v2 := by
    unfold v2
    unfold v1
    extract_lets +onlyGivenNames v4 v5 v6
    split
    · refine judgeWarn_keeps (cw.le rfl) ?_
      split
      · exact judgeWarn_keeps (cw.le rfl) h2
      · exact putPart_keeps (cw.le rfl) h2
    · refine putPart_keeps (cw.le rfl) ?_
      split
      · exact judgeWarn_keeps (cw.le rfl) h2
      · exact putPart_keeps (cw.le rfl) h2
  clear_value v2
  exact .ite (recordHm_keeps (cw.le rfl) k3) k3
theorem judgeSteps_keeps {W : Nat} {r : State} {s1 a2} (cw : Covers W 0x3fe00002000400400000000000000000000000000000000000000000000018) (h1 : Keeps W r s1) : Keeps W r (judgeSteps s1 a2) := by
  delta judgeSteps
  extract_lets +onlyGivenNames v1 v2 v3
  split
  · extract_lets +onlyGivenNames v4
    have k5 : Keeps W r v4 := putPart_keeps (cw.le rfl) h1
    clear_value v4
    exact .ite k5 (recordWith_keeps (cw.le rfl) (bumpR_keeps (cw.le rfl) k5))
  · exact .ite h1 (putPart_keeps (cw.le rfl) h1)
theorem settleStep_keeps {W : Nat} {r : State} {s1 a2} (cw : Covers W 0x3fe00002000400000000000000000000000000000000000000000000000018) (h1 : Keeps W r s1) : Keeps W r (settleStep s1 a2) := by
  delta settleStep
  extract_lets +onlyGivenNames v1 v2
  refine .ite h1 ?_
  extract_lets +onlyGivenNames v3
  have k4 : Keeps W r v3 := setObj_keeps (cw.le rfl) h1
  clear_value v3
  extract_lets +onlyGivenNames v5
  have k6 : Keeps W r v5 := .ite (bumpR_keeps (cw.le rfl) k4) k4
  clear_value v5
  exact record_keeps (cw.le rfl) k6
theorem applyEnforce_keeps {W : Nat} {r : State} {s1} (cw : Covers W 0x3fe00002000400000000000000000000000000000000000000000000000038) (h1 : Keeps W r s1) : Keeps W r (applyEnforce s1) := by
  delta applyEnforce
  extract_lets +onlyGivenNames v1 v2
  refine settleCredits_keeps (cw.le rfl) ?_
  refine .foldl h1 ?_
  intro _ _ k5
  unfold v2
  extract_lets +onlyGivenNames v6 v7 v8
  refine .ite k5 ?_
  extract_lets +onlyGivenNames v9 v10
  have k11 : Keeps W r v10 := putPort_keeps (cw.le rfl) (setObj_keeps (cw.le rfl) k5)
  clear_value v10
  exact .ite (record_keeps (cw.le rfl) (bumpR_keeps (cw.le rfl) k11)) k11
theorem settleRequest_keeps {W : Nat} {r : State} {s1} (cw : Covers W 0x3fe00002000401800000000000000000000000000000000000000000000038) (h1 : Keeps W r s1) : Keeps W r (settleRequest s1) := by
  delta settleRequest
  extract_lets +onlyGivenNames v1 v2
  refine applyEnforce_keeps (cw.le rfl) ?_
  extract_lets +onlyGivenNames v3
  have k4 : Keeps W r v3 := setR_keeps (cw.le rfl) h1
  exact .upd cw k4
theorem settleSteps_keeps {W : Nat} {r : State} {s1} (cw : Covers W 0x3fe00002000401800000000000000000000000000000000000000000000038) (h1 : Keeps W r s1) : Keeps W r (settleSteps s1) := settleRequest_keeps (cw.le rfl) (.foldl h1 (fun _ _ k3 => settleStep_keeps (cw.le rfl) k3))
theorem criticalShutdown_keeps {W : Nat} {r : State} {s1 a2 a3 a4 a5 a6} (cw : Covers W 0x1f1df03f3ffe8c5ffcf5cffffe7f85f25df1e898c0c402060da0e37e9ffffbfeffffeff) (h1 : Keeps W r s1) : Keeps W r (criticalShutdown s1 a2 a3 a4 a5 a6) := by
  delta criticalShutdown
  refine .ite h1 ?_
  extract_lets +onlyGivenNames v1 v2
  have k3 : Keeps W r v2 := bumpR_keeps (cw.le rfl) (setBlob_keeps (cw.le rfl) h1)
  clear_value v2
  extract_lets +onlyGivenNames v4
  have k5 : Keeps W r v4 := recordHm_keeps (cw.le rfl) k3
  clear_value v4
  extract_lets +onlyGivenNames v6 v7 v8
  have k9 : Keeps W r v8 := syncRec_keeps (cw.le rfl) (.upd cw k5)
  clear_value v8
  exact powerFailure_keeps (cw.le rfl) k9
theorem sensorSample_keeps {W : Nat} {r : State} {s1 a2} (cw : Covers W 0x1f1df03f3ffe8c5ffcf5cffffe7f85f25df1e898c0c402060da0e37e9ffffbfeffffeff) (h1 : Keeps W r s1) : Keeps W r (sensorSample s1 a2) := by
  delta sensorSample
  extract_lets +onlyGivenNames v1 v2
  have k3 : Keeps W r v2 := .foldl h1 (fun _ _ k6 => takeTemp_keeps (cw.le rfl) k6)
  clear_value v2
  extract_lets +onlyGivenNames v7
  have k8 : Keeps W r v7 := .foldl k3 (fun _ _ k11 => judgeUnit_keeps (cw.le rfl) k11)
  clear_value v7
  extract_lets +onlyGivenNames v12
  have k13 : Keeps W r v12 := judgeCoolant_keeps (cw.le rfl) k8
  clear_value v12
  extract_lets +onlyGivenNames v14
  have k15 : Keeps W r v14 := settleSteps_keeps (cw.le rfl) (.foldl k13 (fun _ _ k18 => judgeSteps_keeps (cw.le rfl) k18))
  clear_value v14
  extract_lets +onlyGivenNames v19
  have k20 : Keeps W r v19 := .ite (.ite (bumpN_keeps (cw.le rfl) k15) k15) k13
  clear_value v19
  split
  · exact criticalShutdown_keeps (cw.le rfl) k20
  · exact k20
theorem sensorRetest_keeps {W : Nat} {r : State} {s1} (cw : Covers W 0x200000000000000000000000000000000000000000000008) (h1 : Keeps W r s1) : Keeps W r (sensorRetest s1) := by
  delta sensorRetest
  extract_lets +onlyGivenNames v1
  exact track_keeps (cw.le rfl) h1 (.upd cw h1)
theorem execSensorSample_keeps {W : Nat} {r : State} {a1 s2} (cw : Covers W 0x1f1df03f3ffe8c5ffcf5cffffe7f85f25df1e898c0c402060da0e37e9ffffbfeffffeff) (h2 : Keeps W r s2) : KeepsOut W r (execSensorSample a1 s2) := KeepsOut.next (.ite (sensorSample_keeps (cw.le rfl) h2) h2)
theorem endBoost_keeps {W : Nat} {r : State} {s1 a2} (cw : Covers W 0x3fe00002000401c00000000000000000000000000000000000000000000038) (h1 : Keeps W r s1) : Keeps W r (endBoost s1 a2) := by
  delta endBoost
  extract_lets +onlyGivenNames v1
  exact .ite (settleSteps_keeps (cw.le rfl) (putPart_keeps (cw.le rfl) h1)) h1
theorem execRateBoostEnd_keeps {W : Nat} {r : State} {a1 s2} (cw : Covers W 0x3fe00002000401c00000000000000000000000000000000000000000000038) (h2 : Keeps W r s2) : KeepsOut W r (execRateBoostEnd a1 s2) := KeepsOut.next (.ite (.foldl h2 (fun _ _ k1 => endBoost_keeps (cw.le rfl) k1)) h2)
theorem execThermGraceExpiry_keeps {W : Nat} {r : State} {a1 s2} (cw : Covers W 0x3fe00002000401800000000000000000000000000000000000000000000038) (h2 : Keeps W r s2) : KeepsOut W r (execThermGraceExpiry a1 s2) := by
  delta execThermGraceExpiry
  refine KeepsOut.next ?_
  extract_lets +onlyGivenNames v1
  exact .ite h2 (applyEnforce_keeps (cw.le rfl) (.upd cw h2))
theorem sensorRetestEffect_keeps {W : Nat} {r : State} {a1 a2 s3} (cw : Covers W 0x20000200000000000000000000000000000000000000000000008) (h3 : Keeps W r s3) : Keeps1 W r (sensorRetestEffect a1 a2 s3) := runCommand_keeps (cw.le rfl) (fun _ _ _ k4 => Keeps1.mk (sensorRetest_keeps (cw.le rfl) k4)) h3
theorem execSensorRetest_keeps {W : Nat} {r : State} {a1 a2 s3} (cw : Covers W 0x200000000000000000e840020000000000000000000000000000000000000000000000a) (h3 : Keeps W r s3) : KeepsOut W r (execSensorRetest a1 a2 s3) := KeepsOut.next (kdpObject_keeps (cw.le rfl) (fun _ _ _ k4 => sensorRetestEffect_keeps (cw.le rfl) k4) h3)
theorem putBackoff_keeps {W : Nat} {r : State} {s1 a2} (cw : Covers W 0x2000000000000000000000000000000000000000000000000000) (h1 : Keeps W r s1) : Keeps W r (putBackoff s1 a2) := by
  delta putBackoff
  extract_lets +onlyGivenNames v1 v2
  exact .upd cw h1
theorem clearBackoff_keeps {W : Nat} {r : State} {s1 a2} (cw : Covers W 0x2000000000000000000000000000000000000000000000000000) (h1 : Keeps W r s1) : Keeps W r (clearBackoff s1 a2) := .upd cw h1
theorem authFailed_keeps {W : Nat} {r : State} {s1 a2 a3 a4} (cw : Covers W 0x3fe00002002400000000000000000000000000000000000000000000000018) (h1 : Keeps W r s1) : Keeps W r (authFailed s1 a2 a3 a4) := by
  delta authFailed
  extract_lets +onlyGivenNames v1 v2 v3
  have k4 : Keeps W r v3 := record_keeps (cw.le rfl) (bumpR_keeps (cw.le rfl) h1)
  clear_value v3
  refine .ite (putBackoff_keeps (cw.le rfl) k4) ?_
  extract_lets +onlyGivenNames v5
  exact record_keeps (cw.le rfl) (putBackoff_keeps (cw.le rfl) k4)
theorem freshSid_keeps {W : Nat} {r : State} {s1} (cw : Covers W 0x1) (h1 : Keeps W r s1) : Keeps2 W r (freshSid s1) := by
  delta freshSid
  split
  · rename_i t1 x2 t3 e4
    have k5 : Keeps W r t3 := Keeps2.of_eq e4 (draw_keeps (cw.le rfl) h1)
    exact Keeps2.mk k5
theorem refuseOpen_keeps {W : Nat} {r : State} {s1 a2 a3 a4 a5 a6} (cw : Covers W 0xc0000000000000000000000000000000000000000000000000002) (h1 : Keeps W r s1) : Keeps W r (refuseOpen s1 a2 a3 a4 a5 a6) := emit_keeps (cw.le rfl) h1
theorem openRequest_keeps {W : Nat} {r : State} {s1 a2 a3 a4 a5 a6 a7} (cw : Covers W 0x3fe000020c2c0000000000000000000000000000000000000000000000001b) (h1 : Keeps W r s1) : Keeps W r (openRequest s1 a2 a3 a4 a5 a6 a7) := by
  delta openRequest
  refine .ite (refuseOpen_keeps (cw.le rfl) (bumpR_keeps (cw.le rfl) h1)) ?_
  split
  · exact refuseOpen_keeps (cw.le rfl) (authFailed_keeps (cw.le rfl) h1)
  · refine .ite (refuseOpen_keeps (cw.le rfl) (bumpR_keeps (cw.le rfl) h1)) ?_
    split
    · rename_i t1 x2 t3 e4
      have k5 : Keeps W r t3 := Keeps2.of_eq e4 (freshSid_keeps (cw.le rfl) h1)
      split
      · rename_i t6 x7 t8 e9
        have k10 : Keeps W r t8 := Keeps2.of_eq e9 (draw_keeps (cw.le rfl) k5)
        extract_lets +onlyGivenNames v11 v12 v13 v14
        have k15 : Keeps W r v14 := .upd cw k10
        clear_value v14
        exact emit_keeps (cw.le rfl) k15
theorem proveHandshake_keeps {W : Nat} {r : State} {s1 a2 a3} (cw : Covers W 0x3fe000020c2c0000000000000000000000000000000000000000000000001a) (h1 : Keeps W r s1) : Keeps W r (proveHandshake s1 a2 a3) := by
  delta proveHandshake
  extract_lets +onlyGivenNames v1 v2
  have k3 : Keeps W r v1 := h1
  clear_value v1
  extract_lets +onlyGivenNames v4
  have k5 : Keeps W r v4 := .upd cw h1
  clear_value v4
  split
  · exact refuseOpen_keeps (cw.le rfl) (authFailed_keeps (cw.le rfl) k5)
  · refine .ite (refuseOpen_keeps (cw.le rfl) (authFailed_keeps (cw.le rfl) k5)) ?_
    extract_lets +onlyGivenNames v11
    have k12 : Keeps W r v11 := clearBackoff_keeps (cw.le rfl) k5
    clear_value v11
    refine .ite (refuseOpen_keeps (cw.le rfl) (bumpR_keeps (cw.le rfl) k12)) ?_
    extract_lets +onlyGivenNames v13 v14 v15
    have k16 : Keeps W r v15 := .upd cw k12
    clear_value v15
    extract_lets +onlyGivenNames v17
    have k18 : Keeps W r v17 := emit_keeps (cw.le rfl) k16
    clear_value v17
    exact track_keeps (cw.le rfl) k3 (record_keeps (cw.le rfl) (bumpR_keeps (cw.le rfl) k18))
theorem dropEvent_keeps {W : Nat} {r : State} {s1 a2 a3} (cw : Covers W 0x400000000000000000000000000000000000000000000000008) (h1 : Keeps W r s1) : Keeps W r (dropEvent s1 a2 a3) := by
  delta dropEvent
  split
  · exact h1
  · split
    · exact h1
    · extract_lets +onlyGivenNames v1
      have k2 : Keeps W r v1 := bumpN_keeps (cw.le rfl) h1
      clear_value v1
      exact updSession_keeps (cw.le rfl) k2
theorem sendEvent_keeps {W : Nat} {r : State} {s1 a2} (cw : Covers W 0xc040000000000000000000000000000000000000000000000000a) (h1 : Keeps W r s1) : Keeps W r (sendEvent s1 a2) := by
  delta sendEvent
  split
  · exact h1
  · extract_lets +onlyGivenNames v1
    have k2 : Keeps W r v1 := .ite h1 (dropEvent_keeps (cw.le rfl) h1)
    clear_value v1
    split
    · exact k2
    · extract_lets +onlyGivenNames v3 v4
      have k5 : Keeps W r v4 := updSession_keeps (cw.le rfl) k2
      clear_value v4
      exact emit_keeps (cw.le rfl) k5
theorem updNet_keeps {W : Nat} {r : State} {s1 a2 a3} (cw : Covers W 0xc0000000000000000000000000000000000000000000000000000) (h1 : Keeps W r s1) : Keeps W r (updNet s1 a2 a3) := .ite (.upd cw h1) (.upd cw h1)
theorem mirrorMove_keeps {W : Nat} {r : State} {s1} (cw : Covers W 0x8) (h1 : Keeps W r s1) : Keeps W r (mirrorMove s1) := .ite (setR_keeps (cw.le rfl) h1) h1
theorem closeOn_keeps {W : Nat} {r : State} {s1 a2 a3} (cw : Covers W 0x2003fe000020e440000000000000000000000000000000000000000000000001a) (h1 : Keeps W r s1) : Keeps W r (closeOn s1 a2 a3) := .foldl h1 (fun _ _ k3 => closeSession_keeps (cw.le rfl) k3)
theorem netChange_keeps {W : Nat} {r : State} {s1 s2 a3} (cw : Covers W 0x80000000000100f0800000000000000000000000000000000000000000000000000008) (h1 : Keeps W r s1) (h2 : Keeps W r s2) : Keeps1 W r (netChange s1 s2 a3) := .ite (Keeps1.mk (track_keeps (cw.le rfl) h1 (mirrorMove_keeps (cw.le rfl) (configChanged_keeps (cw.le rfl) h2)))) (Keeps1.mk h1)
theorem netOn_keeps {W : Nat} {r : State} {s1 a2} (cw : Covers W 0xc0000000000000000000000000000000000000000000000000008) (h1 : Keeps W r s1) : Keeps W r (netOn s1 a2) := by
  delta netOn
  extract_lets +onlyGivenNames v1
  have k2 : Keeps W r v1 := updNet_keeps (cw.le rfl) h1
  clear_value v1
  exact setObj_keeps (cw.le rfl) k2
theorem netEnableRule_keeps {W : Nat} {r : State} {a1 a2 s3} (cw : Covers W 0x800002303fe100f28e440000000000000000000000000000000000000000000000001b) (h3 : Keeps W r s3) : Keeps1 W r (netEnableRule a1 a2 s3) := by
  delta netEnableRule
  extract_lets +onlyGivenNames v1 v2 v3 v4
  have k5 : Keeps W r v4 := setObj_keeps (cw.le rfl) h3
  clear_value v4
  refine .ite ?_ ?_
  · extract_lets +onlyGivenNames v6
    have k7 : Keeps W r v6 := .ite (.ite (netOn_keeps (cw.le rfl) k5) (setObj_keeps (cw.le rfl) k5)) (.ite (setObj_keeps (cw.le rfl) k5) k5)
    clear_value v6
    exact Keeps1.mk (track_keeps (cw.le rfl) h3 (mirrorMove_keeps (cw.le rfl) (configChanged_keeps (cw.le rfl) k7)))
  · extract_lets +onlyGivenNames v8
    have k9 : Keeps W r v8 := .ite (closeOn_keeps (cw.le rfl) (updNet_keeps (cw.le rfl) (setObj_keeps (cw.le rfl) (setObj_keeps (cw.le rfl) (abortLoop_keeps (cw.le rfl) k5))))) (.ite (setObj_keeps (cw.le rfl) k5) k5)
    clear_value v8
    exact netChange_keeps (cw.le rfl) h3 k9
theorem netApply_keeps {W : Nat} {r : State} {a1 a2 s3} (cw : Covers W 0x800002003fe100f28e440000000000000000000000000000000000000000000000001a) (h3 : Keeps W r s3) : Keeps1 W r (netApply a1 a2 s3) := by
  delta netApply
  extract_lets +onlyGivenNames v1 v2 v3 v4 v5 v6 v7 v8 v9 v10 v11
  refine .ite (Keeps1.mk h3) ?_
  refine .ite (Keeps1.mk h3) ?_
  extract_lets +onlyGivenNames v12 v13 v14
  have k15 : Keeps W r v14 := updNet_keeps (cw.le rfl) h3
  clear_value v14
  extract_lets +onlyGivenNames v16 v17
  split
  · rename_i t18 t19 x20 e21
    have k22 : Keeps W r t19 := Keeps1.of_eq e21 (netChange_keeps (cw.le rfl) h3 (closeOn_keeps (cw.le rfl) k15))
    exact .ite (Keeps1.mk (record_keeps (cw.le rfl) k22)) (Keeps1.mk h3)
theorem netLinkChange_keeps {W : Nat} {r : State} {s1 a2 a3 a4} (cw : Covers W 0x3fe000020c0400000000000000000000000000000000000000000000000018) (h1 : Keeps W r s1) : Keeps W r (netLinkChange s1 a2 a3 a4) := by
  delta netLinkChange
  extract_lets +onlyGivenNames v1
  refine .ite h1 ?_
  extract_lets +onlyGivenNames v2 v3
  have k4 : Keeps W r v3 := setObj_keeps (cw.le rfl) (updNet_keeps (cw.le rfl) h1)
  clear_value v3
  extract_lets +onlyGivenNames v5
  have k6 : Keeps W r v5 := bump_keeps (cw.le rfl) k4
  clear_value v5
  extract_lets +onlyGivenNames v7
  have k8 : Keeps W r v7 := .ite (record_keeps (cw.le rfl) k6) k4
  clear_value v7
  exact track_keeps (cw.le rfl) h1 (mirrorMove_keeps (cw.le rfl) k8)
theorem netObtained_keeps {W : Nat} {r : State} {s1 a2 a3 a4} (cw : Covers W 0x2003fe000020e440000000000000000000000000000000000000000000000001a) (h1 : Keeps W r s1) : Keeps W r (netObtained s1 a2 a3 a4) := by
  delta netObtained
  extract_lets +onlyGivenNames v1
  refine .ite h1 ?_
  extract_lets +onlyGivenNames v2 v3
  have k4 : Keeps W r v3 := updNet_keeps (cw.le rfl) h1
  clear_value v3
  extract_lets +onlyGivenNames v5
  have k6 : Keeps W r v5 := .ite (closeOn_keeps (cw.le rfl) k4) k4
  clear_value v5
  exact track_keeps (cw.le rfl) h1 (mirrorMove_keeps (cw.le rfl) k6)
theorem netShut_keeps {W : Nat} {r : State} {s1 a2} (cw : Covers W 0xc0000000000000000000000000000000000000000000000000008) (h1 : Keeps W r s1) : Keeps W r (netShut s1 a2) := by
  delta netShut
  extract_lets +onlyGivenNames v1 v2
  refine .ite ?_ h1
  extract_lets +onlyGivenNames v3
  have k4 : Keeps W r v3 := updNet_keeps (cw.le rfl) h1
  clear_value v3
  exact track_keeps (cw.le rfl) h1 (.ite (setObj_keeps (cw.le rfl) k4) k4)
theorem netOffDone_keeps {W : Nat} {r : State} {s1 a2} (cw : Covers W 0xc0000000000000000000000000000000000000000000000000008) (h1 : Keeps W r s1) : Keeps W r (netOffDone s1 a2) := by
  delta netOffDone
  extract_lets +onlyGivenNames v1
  refine .ite ?_ h1
  extract_lets +onlyGivenNames v2
  have k3 : Keeps W r v2 := updNet_keeps (cw.le rfl) h1
  clear_value v2
  exact .ite (track_keeps (cw.le rfl) h1 (mirrorMove_keeps (cw.le rfl) (netOn_keeps (cw.le rfl) k3))) k3
theorem execOpenSession_keeps {W : Nat} {r : State} {a1 a2 a3 a4 a5 a6 a7 s8} (cw : Covers W 0x3fe000020c2c0000000000000000000000000000000000000000000000001b) (h8 : Keeps W r s8) : KeepsOut W r (execOpenSession a1 a2 a3 a4 a5 a6 a7 s8) := by
  delta execOpenSession
  extract_lets +onlyGivenNames v1
  refine KeepsOut.next ?_
  refine .ite h8 ?_
  extract_lets +onlyGivenNames v2
  have k3 : Keeps W r v2 := frameIn_keeps (cw.le rfl) h8
  clear_value v2
  exact .ite k3 (.ite (bumpR_keeps (cw.le rfl) k3) (.ite (refuseOpen_keeps (cw.le rfl) k3) (openRequest_keeps (cw.le rfl) k3)))
theorem execProve_keeps {W : Nat} {r : State} {a1 a2 a3 s4} (cw : Covers W 0x3fe000020c3c0000000000000000000000000000000000000000000000001a) (h4 : Keeps W r s4) : KeepsOut W r (execProve a1 a2 a3 s4) := by
  delta execProve
  refine KeepsOut.next ?_
  refine .ite h4 ?_
  split
  · delta proveArrives
    refine .ite h4 ?_
    extract_lets +onlyGivenNames v4
    have k5 : Keeps W r v4 := frameIn_keeps (cw.le rfl) h4
    clear_value v4
    refine .ite k5 ?_
    refine .ite (bumpR_keeps (cw.le rfl) k5) ?_
    split
    · exact proveHandshake_keeps (cw.le rfl) k5
    · exact refuseOpen_keeps (cw.le rfl) k5
  · split
    · delta proveArrives
      refine .ite h4 ?_
      extract_lets +onlyGivenNames v14
      have k15 : Keeps W r v14 := frameIn_keeps (cw.le rfl) h4
      clear_value v14
      exact .ite k15 (.ite (bumpR_keeps (cw.le rfl) k15) (refuseOpen_keeps (cw.le rfl) (.upd cw k15)))
    · exact bumpR_keeps (cw.le rfl) h4
theorem execHandshakeExpiry_keeps {W : Nat} {r : State} {a1 s2} (cw : Covers W 0x1800000000000000000000000000000000000000000000000000) (h2 : Keeps W r s2) : KeepsOut W r (execHandshakeExpiry a1 s2) := by
  delta execHandshakeExpiry
  refine KeepsOut.next ?_
  split
  · exact .upd cw h2
  · exact h2
theorem execCloseSession_keeps {W : Nat} {r : State} {a1 s2} (cw : Covers W 0x2000002003fe000020ec40000000000000000000000000000000000000000000000001a) (h2 : Keeps W r s2) : KeepsOut W r (execCloseSession a1 s2) := KeepsOut.next (kdpRequest_keeps (cw.le rfl) (fun _ _ k3 => Keeps1.mk (closeSession_keeps (cw.le rfl) k3)) h2)
theorem execKeepalive_keeps {W : Nat} {r : State} {a1 s2} (cw : Covers W 0x200000000000000000c840000000000000000000000000000000000000000000000000a) (h2 : Keeps W r s2) : KeepsOut W r (execKeepalive a1 s2) := KeepsOut.next (kdpRequest_keeps (cw.le rfl) (fun _ _ k3 => Keeps1.mk k3) h2)
theorem execIdleTimeout_keeps {W : Nat} {r : State} {a1 s2} (cw : Covers W 0x2003fe000020e440000000000000000000000000000000000000000000000001a) (h2 : Keeps W r s2) : KeepsOut W r (execIdleTimeout a1 s2) := by
  delta execIdleTimeout
  refine KeepsOut.next ?_
  split
  · exact closeSession_keeps (cw.le rfl) (bumpR_keeps (cw.le rfl) h2)
  · exact h2
theorem execBackoffExpiry_keeps {W : Nat} {r : State} {a1 s2} (cw : Covers W 0x2000000000000000000000000000000000000000000000000000) (h2 : Keeps W r s2) : KeepsOut W r (execBackoffExpiry a1 s2) := KeepsOut.next (clearBackoff_keeps (cw.le rfl) h2)
theorem sessionKill_keeps {W : Nat} {r : State} {a1 a2 s3} (cw : Covers W 0x2003fe000020e440000000000000000000000000000000000000000000000001a) (h3 : Keeps W r s3) : Keeps1 W r (sessionKill a1 a2 s3) := by
  delta sessionKill
  split
  · exact Keeps1.mk h3
  · exact .ite (Keeps1.mk h3) (Keeps1.mk (closeSession_keeps (cw.le rfl) h3))
theorem sessionKillEffect_keeps {W : Nat} {r : State} {a1 a2 s3} (cw : Covers W 0x2003fe000020e440000000000000000000000000000000000000000000000001a) (h3 : Keeps W r s3) : Keeps1 W r (sessionKillEffect a1 a2 s3) := runCommand_keeps (cw.le rfl) (fun _ _ _ k4 => sessionKill_keeps (cw.le rfl) k4) h3
theorem execSessionKill_keeps {W : Nat} {r : State} {a1 a2 s3} (cw : Covers W 0x2000002003fe000020ec40000000000000000000000000000000000000000000000001a) (h3 : Keeps W r s3) : KeepsOut W r (execSessionKill a1 a2 s3) := KeepsOut.next (kdpObject_keeps (cw.le rfl) (fun _ _ _ k4 => sessionKillEffect_keeps (cw.le rfl) k4) h3)
theorem roleKeyRule_keeps {W : Nat} {r : State} {a1 a2 s3} (cw : Covers W 0x800002003fe100f29e440000000000000000000000000000000000000000000000001a) (h3 : Keeps W r s3) : Keeps1 W r (roleKeyRule a1 a2 s3) := by
  delta roleKeyRule
  extract_lets +onlyGivenNames v1 v2 v3
  have k4 : Keeps W r v3 := .upd cw h3
  clear_value v3
  extract_lets +onlyGivenNames v5
  have k6 : Keeps W r v5 := configChanged_keeps (cw.le rfl) (setR_keeps (cw.le rfl) k4)
  clear_value v5
  extract_lets +onlyGivenNames v7 v8
  have k9 : Keeps W r v8 := .foldl k6 (fun _ _ k12 => closeSession_keeps (cw.le rfl) k12)
  clear_value v8
  exact Keeps1.mk (record_keeps (cw.le rfl) k9)
theorem execRoleKey_keeps {W : Nat} {r : State} {a1 a2 s3} (cw : Covers W 0x2800002003fe100f29ec40000000000000000000000000000000000000000000000001a) (h3 : Keeps W r s3) : KeepsOut W r (execRoleKey a1 a2 s3) := KeepsOut.next (kdpObject_keeps (cw.le rfl) (fun _ _ _ k4 => roleKeyRule_keeps (cw.le rfl) k4) h3)
theorem execUnknownOpcode_keeps {W : Nat} {r : State} {a1 a2 s3} (cw : Covers W 0x200000000000000000c840000000000000000000000000000000000000000000000000a) (h3 : Keeps W r s3) : KeepsOut W r (execUnknownOpcode a1 a2 s3) := KeepsOut.next (.ite h3 (kdpRequest_keeps (cw.le rfl) (fun _ _ k3 => Keeps1.mk k3) h3))
theorem execSubscribe_keeps {W : Nat} {r : State} {a1 a2 a3 a4 a5 s6} (cw : Covers W 0x200000000000000000c840000000000000000000000000000000000000000000000000a) (h6 : Keeps W r s6) : KeepsOut W r (execSubscribe a1 a2 a3 a4 a5 s6) := by
  delta execSubscribe
  refine KeepsOut.next ?_
  refine kdpRequest_keeps (cw.le rfl) ?_ h6
  intro _ _ k3
  refine .ite (Keeps1.mk k3) ?_
  split
  · exact Keeps1.mk k3
  · extract_lets +onlyGivenNames v4
    exact Keeps1.mk (updSession_keeps (cw.le rfl) k3)
theorem execEventSend_keeps {W : Nat} {r : State} {a1 s2} (cw : Covers W 0xc040000000000000000000000000000000000000000000000000a) (h2 : Keeps W r s2) : KeepsOut W r (execEventSend a1 s2) := by
  delta execEventSend
  refine KeepsOut.next ?_
  split
  · exact .ite h2 (sendEvent_keeps (cw.le rfl) h2)
  · exact h2
theorem execEventResend_keeps {W : Nat} {r : State} {a1 a2 s3} (cw : Covers W 0xc040000000000000000000000000000000000000000000000000a) (h3 : Keeps W r s3) : KeepsOut W r (execEventResend a1 a2 s3) := by
  delta execEventResend
  refine KeepsOut.next ?_
  split
  · refine .ite h3 ?_
    split
    · refine .ite ?_ (dropEvent_keeps (cw.le rfl) h3)
      extract_lets +onlyGivenNames v1
      exact emit_keeps (cw.le rfl) (updSession_keeps (cw.le rfl) h3)
    · exact h3
  · exact h3
theorem execEventAck_keeps {W : Nat} {r : State} {a1 a2 s3} (cw : Covers W 0x200000000000000000c840000000000000000000000000000000000000000000000000a) (h3 : Keeps W r s3) : KeepsOut W r (execEventAck a1 a2 s3) := KeepsOut.next (kdpRequest_keeps (cw.le rfl) (fun _ _ k3 => Keeps1.mk (updSession_keeps (cw.le rfl) k3)) h3)
theorem execNetEnable_keeps {W : Nat} {r : State} {a1 a2 s3} (cw : Covers W 0x2800002303fe100f28ec40000000000000000000000000000000000000000000000001b) (h3 : Keeps W r s3) : KeepsOut W r (execNetEnable a1 a2 s3) := KeepsOut.next (kdpObject_keeps (cw.le rfl) (fun _ _ _ k4 => netEnableRule_keeps (cw.le rfl) k4) h3)
theorem execNetShutdownDone_keeps {W : Nat} {r : State} {a1 s2} (cw : Covers W 0xc0000000000000000000000000000000000000000000000000008) (h2 : Keeps W r s2) : KeepsOut W r (execNetShutdownDone a1 s2) := KeepsOut.next (netShut_keeps (cw.le rfl) h2)
theorem netApplyEffect_keeps {W : Nat} {r : State} {a1 a2 s3} (cw : Covers W 0x800002003fe100f28e440000000000000000000000000000000000000000000000001a) (h3 : Keeps W r s3) : Keeps1 W r (netApplyEffect a1 a2 s3) := runCommand_keeps (cw.le rfl) (fun _ _ _ k4 => netApply_keeps (cw.le rfl) k4) h3
theorem execNetApply_keeps {W : Nat} {r : State} {a1 a2 s3} (cw : Covers W 0x2800002003fe100f28ec40000000000000000000000000000000000000000000000001a) (h3 : Keeps W r s3) : KeepsOut W r (execNetApply a1 a2 s3) := KeepsOut.next (kdpObject_keeps (cw.le rfl) (fun _ _ _ k4 => netApplyEffect_keeps (cw.le rfl) k4) h3)
theorem execNetLinkChange_keeps {W : Nat} {r : State} {a1 a2 a3 s4} (cw : Covers W 0x3fe000020c0400000000000000000000000000000000000000000000000018) (h4 : Keeps W r s4) : KeepsOut W r (execNetLinkChange a1 a2 a3 s4) := KeepsOut.next (netLinkChange_keeps (cw.le rfl) h4)
theorem execNetAddressObtained_keeps {W : Nat} {r : State} {a1 a2 a3 s4} (cw : Covers W 0x2003fe000020e440000000000000000000000000000000000000000000000001a) (h4 : Keeps W r s4) : KeepsOut W r (execNetAddressObtained a1 a2 a3 s4) := KeepsOut.next (netObtained_keeps (cw.le rfl) h4)
theorem execEnablePendingDone_keeps {W : Nat} {r : State} {a1 s2} (cw : Covers W 0xd1800003ffe000f28c041e0e02000700070880040c000000480607e8c7b3a00000383b) (h2 : Keeps W r s2) : KeepsOut W r (execEnablePendingDone a1 s2) := by
  delta execEnablePendingDone
  refine KeepsOut.next ?_
  split
  · exact portOffDone_keeps (cw.le rfl) h2
  · exact mirrorOffDone_keeps (cw.le rfl) h2
  · exact bankOffDone_keeps (cw.le rfl) h2
  · exact netOffDone_keeps (cw.le rfl) h2
  · refine .ite ?_ h2
    extract_lets +onlyGivenNames v1 v2
    have k3 : Keeps W r v2 := .upd cw h2
    clear_value v2
    exact .ite (wakeAsked_keeps (cw.le rfl) k3) k3
theorem execPortRstNDeassert_keeps {W : Nat} {r : State} {a1 s2} (cw : Covers W 0xa0200000000000000000000000000000000000000000028) (h2 : Keeps W r s2) : KeepsOut W r (execPortRstNDeassert a1 s2) := by
  delta execPortRstNDeassert
  extract_lets +onlyGivenNames v1
  refine KeepsOut.next ?_
  refine .ite ?_ h2
  extract_lets +onlyGivenNames v2 v3
  have k4 : Keeps W r v3 := putPort_keeps (cw.le rfl) h2
  clear_value v3
  exact .ite (wakeAsked_keeps (cw.le rfl) k4) (track_keeps (cw.le rfl) k4 (startTraining_keeps (cw.le rfl) k4))
theorem execIntegrityDumpDone_keeps {W : Nat} {r : State} {a1 s2} (cw : Covers W 0x80000000270000f080000000000000c000000000200000000000000000008000000008) (h2 : Keeps W r s2) : KeepsOut W r (execIntegrityDumpDone a1 s2) := by
  delta execIntegrityDumpDone
  refine KeepsOut.next ?_
  refine .ite ?_ h2
  split
  · rename_i t1 t2 x3 e4
    have k5 : Keeps W r t2 := Keeps1.of_eq e4 (captureDump_keeps (cw.le rfl) h2)
    refine .ite ?_ h2
    extract_lets +onlyGivenNames v6 v7 v8
    have k9 : Keeps W r v8 := .upd cw k5
    clear_value v8
    exact track_keeps (cw.le rfl) h2 (flushIfOpen_keeps (cw.le rfl) k9)
theorem integrityRecover_keeps {W : Nat} {r : State} {a1 s2} (cw : Covers W 0x80000000001200f0800000000000000000000000d00000000000000000000000000008) (h2 : Keeps W r s2) : Keeps1 W r (integrityRecover a1 s2) := by
  delta integrityRecover
  refine .ite ?_ (Keeps1.mk h2)
  extract_lets +onlyGivenNames v1 v2 v3 v4
  have k5 : Keeps W r v4 := .upd cw h2
  clear_value v4
  exact Keeps1.mk (syncRecs_keeps (cw.le rfl) k5)
theorem integrityRecoverEffect_keeps {W : Nat} {r : State} {a1 a2 s3} (cw : Covers W 0x80000000001200f0820000000000000000000000d00000000000000000000000000008) (h3 : Keeps W r s3) : Keeps1 W r (integrityRecoverEffect a1 a2 s3) := runCommand_keeps (cw.le rfl) (fun _ _ _ k4 => integrityRecover_keeps (cw.le rfl) k4) h3
theorem execIntegrityRecover_keeps {W : Nat} {r : State} {a1 a2 s3} (cw : Covers W 0x280000000001200f08e8400000000000000000000d0000000000000000000000000000a) (h3 : Keeps W r s3) : KeepsOut W r (execIntegrityRecover a1 a2 s3) := KeepsOut.next (kdpObject_keeps (cw.le rfl) (fun _ _ _ k4 => integrityRecoverEffect_keeps (cw.le rfl) k4) h3)
theorem storeNowRule_keeps {W : Nat} {r : State} {a1 a2 s3} (cw : Covers W 0xf0000000000000000000000000000000000000000000000000000008) (h3 : Keeps W r s3) : Keeps1 W r (storeNowRule a1 a2 s3) := by
  delta storeNowRule
  refine .ite ?_ (Keeps1.mk (requestStore_keeps (cw.le rfl) h3))
  extract_lets +onlyGivenNames v1
  have k2 : Keeps W r v1 := requestStore_keeps (cw.le rfl) h3
  clear_value v1
  exact Keeps1.mk (.upd cw k2)
theorem hmStoreNowEffect_keeps {W : Nat} {r : State} {a1 a2 s3} (cw : Covers W 0xf0020000000000000000000000000000000000000000000000000008) (h3 : Keeps W r s3) : Keeps1 W r (hmStoreNowEffect a1 a2 s3) := runCommand_keeps (cw.le rfl) (fun _ _ _ k4 => storeNowRule_keeps (cw.le rfl) k4) h3
theorem execHmStoreNow_keeps {W : Nat} {r : State} {a1 a2 s3} (cw : Covers W 0x200000000000000f00e840000000000000000000000000000000000000000000000000a) (h3 : Keeps W r s3) : KeepsOut W r (execHmStoreNow a1 a2 s3) := KeepsOut.next (kdpObject_keeps (cw.le rfl) (fun _ _ _ k4 => hmStoreNowEffect_keeps (cw.le rfl) k4) h3)
theorem execShadowStoreStart_keeps {W : Nat} {r : State} {s1} (cw : Covers W 0xf0000000000000000000000000000000000000000000000000000008) (h1 : Keeps W r s1) : KeepsOut W r (execShadowStoreStart s1) := by
  delta execShadowStoreStart
  refine KeepsOut.next ?_
  refine .ite ?_ h1
  extract_lets +onlyGivenNames v1 v2
  have k3 : Keeps W r v2 := .upd cw h1
  exact .ite (startStore_keeps (cw.le rfl) k3) k3
theorem execShadowStoreDone_keeps {W : Nat} {r : State} {a1 s2} (cw : Covers W 0x3fe001ffc20400000000000000000000000000000000000000000000000018) (h2 : Keeps W r s2) : KeepsOut W r (execShadowStoreDone a1 s2) := KeepsOut.next (.ite (storeDone_keeps (cw.le rfl) h2) h2)
theorem execVddAonLow_keeps {W : Nat} {r : State} {s1} (cw : Covers W 0x3fe045ffe20700000000000000000000000000000000000000000000000018) (h1 : Keeps W r s1) : KeepsOut W r (execVddAonLow s1) := by
  delta execVddAonLow
  refine KeepsOut.next ?_
  refine .ite ?_ h1
  extract_lets +onlyGivenNames v1
  have k2 : Keeps W r v1 := storeNow_keeps (cw.le rfl) (writeOpsec_keeps (cw.le rfl) h1)
  clear_value v1
  refine .ite ?_ k2
  extract_lets +onlyGivenNames v3
  extract_lets +onlyGivenNames v4
  extract_lets +onlyGivenNames v5
  have k6 : Keeps W r v5 := .upd cw k2
  clear_value v5
  exact track_keeps (cw.le rfl) k2 k6
theorem windowRule_keeps {W : Nat} {r : State} {a1 a2 s3} (cw : Covers W 0x4000000000000000000000000000000000000000000000000000000) (h3 : Keeps W r s3) : Keeps1 W r (windowRule a1 a2 s3) := by
  delta windowRule
  extract_lets +onlyGivenNames v1
  split
  · exact .ite (Keeps1.mk (windowWrite_keeps (cw.le rfl) h3)) (Keeps1.mk h3)
  · exact Keeps1.mk h3
theorem execHmWindowData_keeps {W : Nat} {r : State} {a1 a2 s3} (cw : Covers W 0x200000000000000040c840000000000000000000000000000000000000000000000000a) (h3 : Keeps W r s3) : KeepsOut W r (execHmWindowData a1 a2 s3) := KeepsOut.next (kdpObject_keeps (cw.le rfl) (fun _ _ _ k4 => windowRule_keeps (cw.le rfl) k4) h3)
theorem execOperatingSecondsWrite_keeps {W : Nat} {r : State} {s1} (cw : Covers W 0x4400000000000000000000000000000000000000000000000000000000) (h1 : Keeps W r s1) : KeepsOut W r (execOperatingSecondsWrite s1) := KeepsOut.next (.ite (writeOpsec_keeps (cw.le rfl) h1) h1)
theorem execRecorderFlush_keeps {W : Nat} {r : State} {s1} (cw : Covers W 0x7000000000000000000000000000000000000000000000000000000000008) (h1 : Keeps W r s1) : KeepsOut W r (execRecorderFlush s1) := KeepsOut.next (.ite (flushIfOpen_keeps (cw.le rfl) h1) h1)
theorem freezeRule_keeps {W : Nat} {r : State} {a1 a2 s3} (cw : Covers W 0x3fe00000000400000000000000000000000000000000000000000000000018) (h3 : Keeps W r s3) : Keeps1 W r (freezeRule a1 a2 s3) := by
  delta freezeRule
  refine .ite (Keeps1.mk (endFreeze_keeps (cw.le rfl) h3)) ?_
  refine .ite (Keeps1.mk h3) ?_
  refine Keeps1.mk ?_
  extract_lets +onlyGivenNames v1
  have k2 : Keeps W r v1 := setR_keeps (cw.le rfl) h3
  clear_value v1
  exact .upd cw k2
theorem execRecorderFreeze_keeps {W : Nat} {r : State} {a1 a2 s3} (cw : Covers W 0x2000000003fe000000c840000000000000000000000000000000000000000000000001a) (h3 : Keeps W r s3) : KeepsOut W r (execRecorderFreeze a1 a2 s3) := KeepsOut.next (kdpObject_keeps (cw.le rfl) (fun _ _ _ k4 => freezeRule_keeps (cw.le rfl) k4) h3)
theorem execFreezeMaxExpiry_keeps {W : Nat} {r : State} {s1} (cw : Covers W 0x3fe00000000400000000000000000000000000000000000000000000000018) (h1 : Keeps W r s1) : KeepsOut W r (execFreezeMaxExpiry s1) := KeepsOut.next (endFreeze_keeps (cw.le rfl) h1)
theorem execLogExport_keeps {W : Nat} {r : State} {a1 s2} (cw : Covers W 0x200000000000000000c840000000000000000000000000000000000000000000000001a) (h2 : Keeps W r s2) : KeepsOut W r (execLogExport a1 s2) := KeepsOut.next (kdpObject_keeps (cw.le rfl) (fun _ _ _ k4 => plainWrite_keeps (cw.le rfl) k4) h2)
theorem triggerRule_keeps {W : Nat} {r : State} {a1 a2 s3} (cw : Covers W 0x10) (h3 : Keeps W r s3) : Keeps1 W r (triggerRule a1 a2 s3) := by
  delta triggerRule
  split
  · exact Keeps1.mk h3
  · extract_lets +onlyGivenNames v1
    exact .ite (Keeps1.mk h3) (.ite (Keeps1.mk h3) (.ite (Keeps1.mk (setBlob_keeps (cw.le rfl) h3)) (Keeps1.mk h3)))
theorem execTrigger_keeps {W : Nat} {r : State} {a1 a2 s3} (cw : Covers W 0x200000000000000000c840000000000000000000000000000000000000000000000001a) (h3 : Keeps W r s3) : KeepsOut W r (execTrigger a1 a2 s3) := KeepsOut.next (kdpObject_keeps (cw.le rfl) (fun _ _ _ k4 => triggerRule_keeps (cw.le rfl) k4) h3)
theorem pcConfigRule_keeps {W : Nat} {r : State} {a1 a2 s3} (cw : Covers W 0x8) (h3 : Keeps W r s3) : Keeps1 W r (pcConfigRule a1 a2 s3) := by
  delta pcConfigRule
  extract_lets +onlyGivenNames v1 v2 v3
  split
  · exact h3
  · split
    · exact h3
    · exact setObj_keeps (cw.le rfl) h3
theorem execPcConfig_keeps {W : Nat} {r : State} {a1 a2 s3} (cw : Covers W 0x200000000000000000c840000000000000000000000000000000000000000000000000a) (h3 : Keeps W r s3) : KeepsOut W r (execPcConfig a1 a2 s3) := KeepsOut.next (kdpObject_keeps (cw.le rfl) (fun _ _ _ k4 => pcConfigRule_keeps (cw.le rfl) k4) h3)
theorem pcCountRule_keeps {W : Nat} {r : State} {a1 a2 s3} (cw : Covers W 0x8) (h3 : Keeps W r s3) : Keeps1 W r (pcCountRule a1 a2 s3) := by
  delta pcCountRule
  split
  · exact h3
  · extract_lets +onlyGivenNames v1
    have k2 : Keeps W r v1 := setObj_keeps (cw.le rfl) h3
    clear_value v1
    exact setObj_keeps (cw.le rfl) k2
theorem execPcCount_keeps {W : Nat} {r : State} {a1 a2 s3} (cw : Covers W 0x200000000000000000c840000000000000000000000000000000000000000000000000a) (h3 : Keeps W r s3) : KeepsOut W r (execPcCount a1 a2 s3) := KeepsOut.next (kdpObject_keeps (cw.le rfl) (fun _ _ _ k4 => pcCountRule_keeps (cw.le rfl) k4) h3)
theorem execPcOverflow_keeps {W : Nat} {r : State} {a1 a2 a3 s4} (cw : Covers W 0x7fe00002000400000000000000000000000000000000000000000000000018) (h4 : Keeps W r s4) : KeepsOut W r (execPcOverflow a1 a2 a3 s4) := by
  delta execPcOverflow
  extract_lets +onlyGivenNames v1 v2
  exact KeepsOut.next (.ite (pcAdd_keeps (cw.le rfl) h4) h4)
theorem pcFreezeRule_keeps {W : Nat} {r : State} {a1 a2 s3} (cw : Covers W 0x40000000000000000000000000000000000000000000000000000000000008) (h3 : Keeps W r s3) : Keeps1 W r (pcFreezeRule a1 a2 s3) := by
  delta pcFreezeRule
  split
  · exact h3
  · split
    · exact setObj_keeps (cw.le rfl) h3
    · split
      · exact h3
      · exact abandonSamples_keeps (cw.le rfl) (setObj_keeps (cw.le rfl) h3)
theorem execPcFreeze_keeps {W : Nat} {r : State} {a1 a2 s3} (cw : Covers W 0x200000000400000000c840000000000000000000000000000000000000000000000000a) (h3 : Keeps W r s3) : KeepsOut W r (execPcFreeze a1 a2 s3) := KeepsOut.next (kdpObject_keeps (cw.le rfl) (fun _ _ _ k4 => pcFreezeRule_keeps (cw.le rfl) k4) h3)
theorem pcSnapshotEffect_keeps {W : Nat} {r : State} {a1 a2 s3} (cw : Covers W 0x20000000000000000000000000000000000000000000000000010) (h3 : Keeps W r s3) : Keeps1 W r (pcSnapshotEffect a1 a2 s3) := runCommand_keeps (cw.le rfl) (fun _ _ _ k4 => Keeps1.mk (setBlob_keeps (cw.le rfl) k4)) h3
theorem execPcSnapshot_keeps {W : Nat} {r : State} {a1 a2 s3} (cw : Covers W 0x200000000000000000e840000000000000000000000000000000000000000000000001a) (h3 : Keeps W r s3) : KeepsOut W r (execPcSnapshot a1 a2 s3) := KeepsOut.next (kdpObject_keeps (cw.le rfl) (fun _ _ _ k4 => pcSnapshotEffect_keeps (cw.le rfl) k4) h3)
theorem execSampleTaken_keeps {W : Nat} {r : State} {a1 a2 a3 a4 a5 a6 a7 s8} (cw : Covers W 0x1c0000000000000000000000000000000000000000000000000000000000008) (h8 : Keeps W r s8) : KeepsOut W r (execSampleTaken a1 a2 a3 a4 a5 a6 a7 s8) := KeepsOut.next (sampleStep_keeps (cw.le rfl) h8)
theorem execSampleExport_keeps {W : Nat} {r : State} {a1 s2} (cw : Covers W 0x200000000000000000c840000000000000000000000000000000000000000000000001a) (h2 : Keeps W r s2) : KeepsOut W r (execSampleExport a1 s2) := KeepsOut.next (kdpObject_keeps (cw.le rfl) (fun _ _ _ k4 => plainWrite_keeps (cw.le rfl) k4) h2)
theorem appendWindow_keeps {W : Nat} {r : State} {s1 a2 a3 a4} (cw : Covers W 0x400000000000000000000000000000000000000000000000000000000000008) (h1 : Keeps W r s1) : Keeps W r (appendWindow s1 a2 a3 a4) := by
  delta appendWindow
  refine .ite (bump_keeps (cw.le rfl) h1) ?_
  extract_lets +onlyGivenNames v1 v2
  have k3 : Keeps W r v2 := .upd cw h1
  clear_value v2
  exact raiseTo_keeps (cw.le rfl) (raiseTo_keeps (cw.le rfl) k3)
theorem windowsEnd_keeps {W : Nat} {r : State} {s1} (cw : Covers W 0xe00000000000000000000000000000000000000000000000000000000000008) (h1 : Keeps W r s1) : Keeps W r (windowsEnd s1) := by
  delta windowsEnd
  extract_lets +onlyGivenNames v1 v2 v3 v4 v5 v6
  have k7 : Keeps W r v6 := .foldl h1 (fun _ _ k10 => appendWindow_keeps (cw.le rfl) k10)
  clear_value v6
  extract_lets +onlyGivenNames v11
  have k12 : Keeps W r v11 := appendWindow_keeps (cw.le rfl) k7
  clear_value v11
  exact .upd cw k12
theorem execBwWindowBoundary_keeps {W : Nat} {r : State} {s1} (cw : Covers W 0xe00000000000000000000000000000000000000000000000000000000000008) (h1 : Keeps W r s1) : KeepsOut W r (execBwWindowBoundary s1) := by
  delta execBwWindowBoundary
  extract_lets +onlyGivenNames v1
  exact KeepsOut.next (.ite (windowsEnd_keeps (cw.le rfl) h1) h1)
theorem bwWindowRule_keeps {W : Nat} {r : State} {a1 a2 s3} (cw : Covers W 0xe00000000000000000000000000000000000000000000000000000000000008) (h3 : Keeps W r s3) : Keeps1 W r (bwWindowRule a1 a2 s3) := by
  delta bwWindowRule
  extract_lets +onlyGivenNames v1
  have k2 : Keeps W r v1 := setObj_keeps (cw.le rfl) h3
  clear_value v1
  extract_lets +onlyGivenNames v3
  exact Keeps1.mk (.upd cw k2)
theorem execBwWindowUs_keeps {W : Nat} {r : State} {a1 a2 s3} (cw : Covers W 0x20000000e000000000c840000000000000000000000000000000000000000000000000a) (h3 : Keeps W r s3) : KeepsOut W r (execBwWindowUs a1 a2 s3) := KeepsOut.next (kdpObject_keeps (cw.le rfl) (fun _ _ _ k4 => bwWindowRule_keeps (cw.le rfl) k4) h3)
theorem putLoop_keeps {W : Nat} {r : State} {s1 a2 a3} (cw : Covers W 0x1000000000000000000000000000000000000000000000000000000000000000) (h1 : Keeps W r s1) : Keeps W r (putLoop s1 a2 a3) := .upd cw h1
theorem startLoop_keeps {W : Nat} {r : State} {s1 a2 a3} (cw : Covers W 0x1d1900033ffe000f28e041e0000000300000000240c7800407e3f07e8cfbfb80ffffcfb) (h1 : Keeps W r s1) : Keeps W r (startLoop s1 a2 a3) := by
  delta startLoop
  extract_lets +onlyGivenNames v1 v2 v3
  have k4 : Keeps W r v3 := putLoop_keeps (cw.le rfl) (resetPort_keeps (cw.le rfl) h1)
  clear_value v3
  extract_lets +onlyGivenNames v5
  have k6 : Keeps W r v5 := by
    unfold v5
    split
    · exact startTraining_keeps (cw.le rfl) (setObj_keeps (cw.le rfl) k4)
    · exact stacksAway_keeps (cw.le rfl) (putLoop_keeps (cw.le rfl) h1)
    · exact mirrorMove_keeps (cw.le rfl) (setObj_keeps (cw.le rfl) (putLoop_keeps (cw.le rfl) h1))
    · exact putLoop_keeps (cw.le rfl) h1
  clear_value v5
  exact track_keeps (cw.le rfl) h1 k6
theorem loopToService_keeps {W : Nat} {r : State} {s1 a2} (cw : Covers W 0x1d1900033ffe000f28e041e0000000300000000040c0020407e0f07e8cfbfb80ffffcfb) (h1 : Keeps W r s1) : Keeps W r (loopToService s1 a2) := by
  delta loopToService
  split
  · exact resetPort_keeps (cw.le rfl) h1
  · exact .ite h1 (stacksBack_keeps (cw.le rfl) h1)
  · exact h1
theorem loopRun_keeps {W : Nat} {r : State} {a1 a2 s3} (cw : Covers W 0x1d1900033ffe000f28e041e0000000300000000240c7820407e3f07e8cfbfb80ffffcfb) (h3 : Keeps W r s3) : Keeps1 W r (loopRun a1 a2 s3) := by
  delta loopRun
  extract_lets +onlyGivenNames v1
  exact .ite (.ite (Keeps1.mk (track_keeps (cw.le rfl) h3 (loopToService_keeps (cw.le rfl) (abortLoop_keeps (cw.le rfl) h3)))) (Keeps1.mk h3)) (.ite (Keeps1.mk h3) (.ite (Keeps1.mk h3) (.ite (Keeps1.mk h3) (Keeps1.mk (startLoop_keeps (cw.le rfl) h3)))))
theorem loopEnds_keeps {W : Nat} {r : State} {s1 a2 a3 a4 a5 a6 a7} (cw : Covers W 0x1d1900033ffe000f28e041e0000000300000000040c0020407e0f07e8cfbfb80ffffcfb) (h1 : Keeps W r s1) : Keeps W r (loopEnds s1 a2 a3 a4 a5 a6 a7) := by
  delta loopEnds
  split
  · exact h1
  · extract_lets +onlyGivenNames v1 v2
    exact track_keeps (cw.le rfl) h1 (loopToService_keeps (cw.le rfl) (endLoop_keeps (cw.le rfl) h1))
theorem logSelftest_keeps {W : Nat} {r : State} {s1 a2 a3 a4 a5} (cw : Covers W 0x3fe00002000400000000000000000000000000000000000000000000000018) (h1 : Keeps W r s1) : Keeps W r (logSelftest s1 a2 a3 a4 a5) := record_keeps (cw.le rfl) h1
theorem sramSelftest_keeps {W : Nat} {r : State} {a1 a2 s3} (cw : Covers W 0x400000000000000000000000000000000000000000000000000000a88c000010) (h3 : Keeps W r s3) : Keeps1 W r (sramSelftest a1 a2 s3) := by
  delta sramSelftest
  extract_lets +onlyGivenNames v1
  refine .ite ?_ ?_
  · refine .ite ?_ (Keeps1.mk h3)
    have k1 : Keeps W r { s3 with hc := { s3.hc with sectors := [], plru := [], pbuf := [] } } := .upd cw h3
    have k2 : Keeps W r (loseBerth { s3 with hc := { s3.hc with sectors := [], plru := [], pbuf := [] } }) := loseBerth_keeps (cw.le rfl) k1
    generalize loseBerth _ = s4 at k2 ⊢
    unfold v1
    exact Keeps1.mk (setBlob_keeps (cw.le rfl) (.upd cw k2))
  · refine .ite ?_ (Keeps1.mk h3)
    unfold v1
    exact Keeps1.mk (setBlob_keeps (cw.le rfl) (.upd cw h3))
theorem sramDone_keeps {W : Nat} {r : State} {s1 a2 a3 a4} (cw : Covers W 0x403fe000f3020400000000000000000002000000000000000000000020000018) (h1 : Keeps W r s1) : Keeps W r (sramDone s1 a2 a3 a4) := by
  delta sramDone
  split
  · exact h1
  · extract_lets +onlyGivenNames v1 v2 v3
    have k4 : Keeps W r v3 := setBlob_keeps (cw.le rfl) (.upd cw h1)
    clear_value v3
    extract_lets +onlyGivenNames v5 v6 v7
    have k8 : Keeps W r v7 := .ite (.foldl k4 (fun _ _ k11 => remapGroup_keeps (cw.le rfl) k11)) (.upd cw k4)
    clear_value v7
    extract_lets +onlyGivenNames v12
    have k13 : Keeps W r v12 := .ite (logSelftest_keeps (cw.le rfl) k8) k8
    clear_value v12
    exact endRun_keeps (cw.le rfl) k13
theorem stackSelftest_keeps {W : Nat} {r : State} {a1 a2 s3} (cw : Covers W 0x8000000000000000000000000000000000000000000000000000000000000010) (h3 : Keeps W r s3) : Keeps1 W r (stackSelftest a1 a2 s3) := by
  delta stackSelftest
  split
  · exact .ite (Keeps1.mk h3) (Keeps1.mk (setBlob_keeps (cw.le rfl) (.upd cw h3)))
theorem countDieTest_keeps {W : Nat} {r : State} {s1 a2 a3 a4} (cw : Covers W 0x7fe00002000400000000000000000000000004000000000000000000000019) (h1 : Keeps W r s1) : Keeps W r (countDieTest s1 a2 a3 a4) := by
  delta countDieTest
  extract_lets +onlyGivenNames v1 v2 v3
  have k7 : Keeps W r v3 := .foldl (pcCount_keeps (cw.le rfl) (pcCount_keeps (cw.le rfl) h1)) (fun _ _ k4 => noteLoops_keeps (cw.le rfl) k4)
  clear_value v3
  split
  · extract_lets +onlyGivenNames v11
    extract_lets +onlyGivenNames v12
    have k13 : Keeps W r v12 := .upd cw k7
    clear_value v12
    exact noteErases_keeps (cw.le rfl) k13
  · exact k7
theorem countStackTest_keeps {W : Nat} {r : State} {s1 a2 a3 a4} (cw : Covers W 0x7fe00002000400000000000000000000000004000000000000000000000019) (h1 : Keeps W r s1) : Keeps W r (countStackTest s1 a2 a3 a4) := .foldl h1 (fun _ _ k1 => countDieTest_keeps (cw.le rfl) k1)
theorem stackTestDone_keeps {W : Nat} {r : State} {s1 a2 a3 a4} (cw : Covers W 0x807fe00002020400000000000000000000000004000000000000000000000019) (h1 : Keeps W r s1) : Keeps W r (stackTestDone s1 a2 a3 a4) := by
  delta stackTestDone
  extract_lets +onlyGivenNames v1
  refine .ite ?_ h1
  extract_lets +onlyGivenNames v2 v3 v4 v5 v6 v7 v8
  have k9 : Keeps W r v8 := setBlob_keeps (cw.le rfl) (.upd cw h1)
  clear_value v8
  extract_lets +onlyGivenNames v10 v13
  have k14 : Keeps W r v13 := countStackTest_keeps (cw.le rfl) k9
  clear_value v13
  extract_lets +onlyGivenNames v11
  have k12 : Keeps W r v11 := .ite k14 (logSelftest_keeps (cw.le rfl) k14)
  clear_value v11
  exact endRun_keeps (cw.le rfl) k12
theorem hbmSelftest_keeps {W : Nat} {r : State} {a1 a2 s3} (cw : Covers W 0x10000000000000000000000000000000000000000000000000000000000000010) (h3 : Keeps W r s3) : Keeps1 W r (hbmSelftest a1 a2 s3) := .ite (Keeps1.mk (setBlob_keeps (cw.le rfl) (.upd cw h3))) (Keeps1.mk h3)
theorem hbmDone_keeps {W : Nat} {r : State} {s1 a2 a3 a4 a5} (cw : Covers W 0x1003fe000f3020400000000000000000002000000000000000000000000000018) (h1 : Keeps W r s1) : Keeps W r (hbmDone s1 a2 a3 a4 a5) := by
  delta hbmDone
  extract_lets +onlyGivenNames v1
  refine .ite ?_ h1
  extract_lets +onlyGivenNames v2 v3 v4
  have k5 : Keeps W r v4 := setBlob_keeps (cw.le rfl) (.upd cw h1)
  clear_value v4
  extract_lets +onlyGivenNames v6
  have k7 : Keeps W r v6 := .foldl k5 (fun _ _ k10 => remapGroup_keeps (cw.le rfl) k10)
  clear_value v6
  extract_lets +onlyGivenNames v11
  have k12 : Keeps W r v11 := .ite (logSelftest_keeps (cw.le rfl) k7) k7
  clear_value v11
  exact endRun_keeps (cw.le rfl) k12
theorem leaveHold_keeps {W : Nat} {r : State} {s1} (cw : Covers W 0x80206d70000000f082000000024000000000000000000000000000000000000000001d) (h1 : Keeps W r s1) : Keeps W r (leaveHold s1) := .ite (enterLoading_keeps (cw.le rfl) (abortDestructive_keeps (cw.le rfl) h1)) h1
theorem jtagUnlock_keeps {W : Nat} {r : State} {a1 a2 s3} (cw : Covers W 0x2003fe00002000400000000000000000000000000000000000000000000000018) (h3 : Keeps W r s3) : Keeps1 W r (jtagUnlock a1 a2 s3) := .ite (Keeps1.mk h3) (.ite (Keeps1.mk (.upd cw h3)) (Keeps1.mk (record_keeps (cw.le rfl) (.upd cw h3))))
theorem tapLoad_keeps {W : Nat} {r : State} {s1 a2 a3} (cw : Covers W 0xc0100000000000000000000000000000000000000000000000002) (h1 : Keeps W r s1) : Keeps W r (tapLoad s1 a2 a3) := emit_keeps (cw.le rfl) (.upd cw h1)
theorem tapCapture_keeps {W : Nat} {r : State} {s1 a2} (cw : Covers W 0xc0100000000000000000000000000000000000000000000000003) (h1 : Keeps W r s1) : Keeps W r (tapCapture s1 a2) := by
  delta tapCapture
  split
  rename_i t1 t2 t3 t4
  have k5 : Keeps W r t3 := Keeps2.of_eq t4 (draw_keeps (cw.le rfl) h1)
  exact tapLoad_keeps (cw.le rfl) k5
theorem tapInstruction_keeps {W : Nat} {r : State} {s1 a2} (cw : Covers W 0x3fe000020c070000000000000000000000000000000000000000000000001b) (h1 : Keeps W r s1) : Keeps W r (tapInstruction s1 a2) := by
  delta tapInstruction
  split
  · exact tapLoad_keeps (cw.le rfl) h1
  · exact tapLoad_keeps (cw.le rfl) h1
  · exact tapLoad_keeps (cw.le rfl) h1
  · exact tapCapture_keeps (cw.le rfl) h1
  · exact .ite (tapCapture_keeps (cw.le rfl) (.upd cw h1)) (tapCapture_keeps (cw.le rfl) h1)
  · split
    · exact tapLoad_keeps (cw.le rfl) h1
    · refine .ite ?_ ?_
      · extract_lets +onlyGivenNames v16 v17
        have k18 : Keeps W r v16 := setBlob_keeps (cw.le rfl) (bumpR_keeps (cw.le rfl) h1)
        clear_value v16
        have k19 : Keeps W r v17 := record_keeps (cw.le rfl) k18
        clear_value v17
        exact .upd cw k19
      · split
        rename_i t20 t21 t22 t23
        have k24 : Keeps W r t22 := Keeps2.of_eq t23 (draw_keeps (cw.le rfl) h1)
        exact tapLoad_keeps (cw.le rfl) k24
theorem putOther_keeps {W : Nat} {r : State} {s1 a2} (cw : Covers W 0xc0000000000000000000000000000000000000000000000000000000000000000) (h1 : Keeps W r s1) : Keeps W r (putOther s1 a2) := .ite (.upd cw h1) (.upd cw h1)
theorem fwInstall_keeps {W : Nat} {r : State} {a1 s2} (cw : Covers W 0x80000c00000000f0800000000000000000000000000000000000000000000000000008) (h2 : Keeps W r s2) : Keeps1 W r (fwInstall a1 s2) := by
  delta fwInstall
  extract_lets +onlyGivenNames v1
  refine .ite (Keeps1.mk h2) ?_
  refine .ite (Keeps1.mk h2) ?_
  refine .ite (Keeps1.mk (syncRec_keeps (cw.le rfl) (putOther_keeps (cw.le rfl) h2))) ?_
  extract_lets +onlyGivenNames v2
  exact Keeps1.mk (syncRec_keeps (cw.le rfl) (putOther_keeps (cw.le rfl) h2))
theorem fwActivateLive_keeps {W : Nat} {r : State} {s1} (cw : Covers W 0x4000000000000000000000000000000000000000000000000000000000000000000) (h1 : Keeps W r s1) : Keeps1 W r (fwActivateLive s1) := .ite (Keeps1.mk h1) (.ite (Keeps1.mk h1) (.ite (Keeps1.mk h1) (Keeps1.mk (.upd cw h1))))
theorem fwActivateNext_keeps {W : Nat} {r : State} {s1} (cw : Covers W 0x80008000000000f0800000000000000000000000000000000000000000000000000008) (h1 : Keeps W r s1) : Keeps1 W r (fwActivateNext s1) := Keeps1.mk (syncRec_keeps (cw.le rfl) (.upd cw h1))
theorem beginPause_keeps {W : Nat} {r : State} {s1} (cw : Covers W 0xc000000000000000000000000000000000000000000000000000000000000000000) (h1 : Keeps W r s1) : Keeps W r (beginPause s1) := .ite (.upd cw h1) h1
theorem fwFailed_keeps {W : Nat} {r : State} {s1 a2} (cw : Covers W 0xf19c0023ffe600f38e041e10c000030000000007fc0010037e0e37e9ffffb97ffffcff) (h1 : Keeps W r s1) : Keeps W r (fwFailed s1 a2) := by
  delta fwFailed
  refine .ite h1 ?_
  extract_lets +onlyGivenNames v1 v2 v3
  have k4 : Keeps W r v1 := beginPause_keeps (cw.le rfl) h1
  clear_value v1
  have k5 : Keeps W r v3 := setR_keeps (cw.le rfl) k4
  clear_value v3
  exact endPause_keeps (cw.le rfl) (endRun_keeps (cw.le rfl) (record_keeps (cw.le rfl) k5))
theorem fwActivated_keeps {W : Nat} {r : State} {s1} (cw : Covers W 0xf19c9023ffe600f38e041e10c000030000000007fc0010037e0e37e9ffffb97ffffcff) (h1 : Keeps W r s1) : Keeps W r (fwActivated s1) := by
  delta fwActivated
  refine .ite h1 ?_
  refine .ite (fwFailed_keeps (cw.le rfl) h1) ?_
  extract_lets +onlyGivenNames v1 v2 v3 v4 v5
  have k6 : Keeps W r v1 := beginPause_keeps (cw.le rfl) h1
  clear_value v1
  have k7 : Keeps W r v5 := syncRec_keeps (cw.le rfl) (.upd cw k6)
  clear_value v5
  extract_lets +onlyGivenNames v8
  have k9 : Keeps W r v8 := bumpR_keeps (cw.le rfl) (setR_keeps (cw.le rfl) k7)
  clear_value v8
  exact endPause_keeps (cw.le rfl) (endRun_keeps (cw.le rfl) (record_keeps (cw.le rfl) k9))
theorem lbRunEffect_keeps {W : Nat} {r : State} {a1 a2 s3} (cw : Covers W 0x1d1900033ffe000f28e041e0000000300000000240c7820407e3f07e8cfbfb80ffffcfb) (h3 : Keeps W r s3) : Keeps1 W r (lbRunEffect a1 a2 s3) := runCommand_keeps (cw.le rfl) (fun _ _ _ k4 => loopRun_keeps (cw.le rfl) k4) h3
theorem execLbRun_keeps {W : Nat} {r : State} {a1 a2 s3} (cw : Covers W 0x3d1900033ffe000f28e841e0000000300000000240c7820407e3f07e8cfbfb80ffffcfb) (h3 : Keeps W r s3) : KeepsOut W r (execLbRun a1 a2 s3) := KeepsOut.next (kdpObject_keeps (cw.le rfl) (fun _ _ _ k4 => lbRunEffect_keeps (cw.le rfl) k4) h3)
theorem execLbRunEnd_keeps {W : Nat} {r : State} {a1 a2 a3 a4 a5 a6 s7} (cw : Covers W 0x1d1900033ffe000f28e041e0000000300000000040c0020407e0f07e8cfbfb80ffffcfb) (h7 : Keeps W r s7) : KeepsOut W r (execLbRunEnd a1 a2 a3 a4 a5 a6 s7) := KeepsOut.next (loopEnds_keeps (cw.le rfl) h7)
theorem sramSelftestEffect_keeps {W : Nat} {r : State} {a1 a2 s3} (cw : Covers W 0x400000000002000000000000000000000000000000000000000000a88c000010) (h3 : Keeps W r s3) : Keeps1 W r (sramSelftestEffect a1 a2 s3) := runCommand_keeps (cw.le rfl) (fun _ _ _ k4 => sramSelftest_keeps (cw.le rfl) k4) h3
theorem execSramSelftest_keeps {W : Nat} {r : State} {a1 a2 s3} (cw : Covers W 0x200000040000000000e840000000000000000000000000000000000000000a88c00001a) (h3 : Keeps W r s3) : KeepsOut W r (execSramSelftest a1 a2 s3) := KeepsOut.next (kdpObject_keeps (cw.le rfl) (fun _ _ _ k4 => sramSelftestEffect_keeps (cw.le rfl) k4) h3)
theorem execSramSelftestDone_keeps {W : Nat} {r : State} {a1 a2 a3 s4} (cw : Covers W 0x403fe000f3020400000000000000000002000000000000000000000020000018) (h4 : Keeps W r s4) : KeepsOut W r (execSramSelftestDone a1 a2 a3 s4) := KeepsOut.next (sramDone_keeps (cw.le rfl) h4)
theorem stackSelftestEffect_keeps {W : Nat} {r : State} {a1 a2 s3} (cw : Covers W 0x8000000000020000000000000000000000000000000000000000000000000010) (h3 : Keeps W r s3) : Keeps1 W r (stackSelftestEffect a1 a2 s3) := runCommand_keeps (cw.le rfl) (fun _ _ _ k4 => stackSelftest_keeps (cw.le rfl) k4) h3
theorem execStackSelftest_keeps {W : Nat} {r : State} {a1 a2 s3} (cw : Covers W 0x200000080000000000e840000000000000000000000000000000000000000000000001a) (h3 : Keeps W r s3) : KeepsOut W r (execStackSelftest a1 a2 s3) := KeepsOut.next (kdpObject_keeps (cw.le rfl) (fun _ _ _ k4 => stackSelftestEffect_keeps (cw.le rfl) k4) h3)
theorem execStackSelftestDone_keeps {W : Nat} {r : State} {a1 a2 a3 s4} (cw : Covers W 0x807fe00002020400000000000000000000000004000000000000000000000019) (h4 : Keeps W r s4) : KeepsOut W r (execStackSelftestDone a1 a2 a3 s4) := KeepsOut.next (stackTestDone_keeps (cw.le rfl) h4)
theorem hbmSelftestEffect_keeps {W : Nat} {r : State} {a1 a2 s3} (cw : Covers W 0x10000000000020000000000000000000000000000000000000000000000000010) (h3 : Keeps W r s3) : Keeps1 W r (hbmSelftestEffect a1 a2 s3) := runCommand_keeps (cw.le rfl) (fun _ _ _ k4 => hbmSelftest_keeps (cw.le rfl) k4) h3
theorem execHbmSelftest_keeps {W : Nat} {r : State} {a1 a2 s3} (cw : Covers W 0x200000100000000000e840000000000000000000000000000000000000000000000001a) (h3 : Keeps W r s3) : KeepsOut W r (execHbmSelftest a1 a2 s3) := KeepsOut.next (kdpObject_keeps (cw.le rfl) (fun _ _ _ k4 => hbmSelftestEffect_keeps (cw.le rfl) k4) h3)
theorem execHbmSelftestDone_keeps {W : Nat} {r : State} {a1 a2 a3 a4 s5} (cw : Covers W 0x1003fe000f3020400000000000000000002000000000000000000000000000018) (h5 : Keeps W r s5) : KeepsOut W r (execHbmSelftestDone a1 a2 a3 a4 s5) := KeepsOut.next (hbmDone_keeps (cw.le rfl) h5)
theorem jtagUnlockEffect_keeps {W : Nat} {r : State} {a1 a2 s3} (cw : Covers W 0x2003fe00002020400000000000000000000000000000000000000000000000018) (h3 : Keeps W r s3) : Keeps1 W r (jtagUnlockEffect a1 a2 s3) := runCommand_keeps (cw.le rfl) (fun _ _ _ k4 => jtagUnlock_keeps (cw.le rfl) k4) h3
theorem execJtagUnlock_keeps {W : Nat} {r : State} {a1 a2 s3} (cw : Covers W 0x2000002003fe000020e840000000000000000000000000000000000000000000000001a) (h3 : Keeps W r s3) : KeepsOut W r (execJtagUnlock a1 a2 s3) := KeepsOut.next (kdpObject_keeps (cw.le rfl) (fun _ _ _ k4 => jtagUnlockEffect_keeps (cw.le rfl) k4) h3)
theorem execJtagUnlockExpiry_keeps {W : Nat} {r : State} {s1} (cw : Covers W 0x20000000000000000000000000000000000000000000000000000000000000000) (h1 : Keeps W r s1) : KeepsOut W r (execJtagUnlockExpiry s1) := KeepsOut.next (.upd cw h1)
theorem execJtagInstruction_keeps {W : Nat} {r : State} {a1 s2} (cw : Covers W 0x3fe000020c070000000000000000000000000000000000000000000000001b) (h2 : Keeps W r s2) : KeepsOut W r (execJtagInstruction a1 s2) := KeepsOut.next (tapInstruction_keeps (cw.le rfl) h2)
theorem bootReleaseEffect_keeps {W : Nat} {r : State} {a1 a2 s3} (cw : Covers W 0x80206d70000000f082000000024000000000000000000000000000000000000000001d) (h3 : Keeps W r s3) : Keeps1 W r (bootReleaseEffect a1 a2 s3) := runCommand_keeps (cw.le rfl) (fun _ _ _ k4 => Keeps1.mk (leaveHold_keeps (cw.le rfl) k4)) h3
theorem execBootRelease_keeps {W : Nat} {r : State} {a1 a2 s3} (cw : Covers W 0x280206d70000000f08e840000024000000000000000000000000000000000000000001f) (h3 : Keeps W r s3) : KeepsOut W r (execBootRelease a1 a2 s3) := KeepsOut.next (kdpObject_keeps (cw.le rfl) (fun _ _ _ k4 => bootReleaseEffect_keeps (cw.le rfl) k4) h3)
theorem execBootHoldMaxExpiry_keeps {W : Nat} {r : State} {s1} (cw : Covers W 0x80206d70000000f082000000024000000000000000000000000000000000000000001d) (h1 : Keeps W r s1) : KeepsOut W r (execBootHoldMaxExpiry s1) := KeepsOut.next (leaveHold_keeps (cw.le rfl) h1)
theorem fwInstallEffect_keeps {W : Nat} {r : State} {a1 a2 a3 s4} (cw : Covers W 0x80000c00000000f0820000000000000000000000000000000000000000000000000008) (h4 : Keeps W r s4) : Keeps1 W r (fwInstallEffect a1 a2 a3 s4) :=
  runCommand_keeps (cw.le rfl) (fun _ _ _ k8 => fwInstall_keeps (cw.le rfl) k8) h4
theorem execFwInstall_keeps {W : Nat} {r : State} {a1 a2 a3 s4} (cw : Covers W 0x280000c00000000f08e840000000000000000000000000000000000000000000000000a) (h4 : Keeps W r s4) : KeepsOut W r (execFwInstall a1 a2 a3 s4) := KeepsOut.next (kdpObject_keeps (cw.le rfl) (fun _ _ _ k4 => fwInstallEffect_keeps (cw.le rfl) k4) h4)
theorem fwActivateEffect_keeps {W : Nat} {r : State} {a1 a2 s3} (cw : Covers W 0x80048000000000f0820000000000000000000000000000000000000000000000000008) (h3 : Keeps W r s3) : Keeps1 W r (fwActivateEffect a1 a2 s3) := runCommand_keeps (cw.le rfl) (fun _ _ _ k4 => .ite (fwActivateLive_keeps (cw.le rfl) k4) (fwActivateNext_keeps (cw.le rfl) k4)) h3
theorem execFwActivateLive_keeps {W : Nat} {r : State} {a1 s2} (cw : Covers W 0x280048000000000f08e840000000000000000000000000000000000000000000000000a) (h2 : Keeps W r s2) : KeepsOut W r (execFwActivateLive a1 s2) := KeepsOut.next (kdpObject_keeps (cw.le rfl) (fun _ _ _ k4 => fwActivateEffect_keeps (cw.le rfl) k4) h2)
theorem execFwActivateNextStart_keeps {W : Nat} {r : State} {a1 s2} (cw : Covers W 0x280048000000000f08e840000000000000000000000000000000000000000000000000a) (h2 : Keeps W r s2) : KeepsOut W r (execFwActivateNextStart a1 s2) := KeepsOut.next (kdpObject_keeps (cw.le rfl) (fun _ _ _ k4 => fwActivateEffect_keeps (cw.le rfl) k4) h2)
theorem execFwActivated_keeps {W : Nat} {r : State} {s1} (cw : Covers W 0xf19c9023ffe600f38e041e10c000030000000007fc0010037e0e37e9ffffb97ffffcff) (h1 : Keeps W r s1) : KeepsOut W r (execFwActivated s1) := KeepsOut.next (fwActivated_keeps (cw.le rfl) h1)
theorem execFwActivationFailed_keeps {W : Nat} {r : State} {a1 s2} (cw : Covers W 0xf19c0023ffe600f38e041e10c000030000000007fc0010037e0e37e9ffffb97ffffcff) (h2 : Keeps W r s2) : KeepsOut W r (execFwActivationFailed a1 s2) := KeepsOut.next (fwFailed_keeps (cw.le rfl) h2)
theorem regionPortsRule_keeps {W : Nat} {r : State} {a1 a2 s3} (cw : Covers W 0x8) (h3 : Keeps W r s3) : Keeps1 W r (regionPortsRule a1 a2 s3) := by
  delta regionPortsRule
  extract_lets +onlyGivenNames v1 v2 v3 v4
  exact .ite (Keeps1.mk h3) (.ite (Keeps1.mk h3) (Keeps1.mk (setObj_keeps (cw.le rfl) h3)))
theorem railReactionRule_keeps {W : Nat} {r : State} {a1 a2 s3} (cw : Covers W 0x8) (h3 : Keeps W r s3) : Keeps1 W r (railReactionRule a1 a2 s3) := by
  delta railReactionRule
  extract_lets +onlyGivenNames v1 v2
  exact .ite (Keeps1.mk h3) (.ite (Keeps1.mk h3) (Keeps1.mk (setObj_keeps (cw.le rfl) h3)))
theorem writeRule_keeps {W : Nat} {r : State} {a1 a2 s3} (cw : Covers W 0x800200003fe100f2800400000000000000000000000000000000000000000000000038) (h3 : Keeps W r s3) : Keeps1 W r (writeRule a1 a2 s3) := by
  delta writeRule
  extract_lets +onlyGivenNames v1
  split
  · exact .ite (Keeps1.mk h3) (plainWrite_keeps (cw.le rfl) h3)
  · exact .ite (Keeps1.mk h3) (plainWrite_keeps (cw.le rfl) h3)
  · exact regionPortsRule_keeps (cw.le rfl) h3
  · exact .ite (Keeps1.mk h3) (plainWrite_keeps (cw.le rfl) h3)
  · split
    · rename_i t2 t3 x4 e5
      have k6 : Keeps W r t3 := Keeps1.of_eq e5 (plainWrite_keeps (cw.le rfl) h3)
      exact Keeps1.mk (configChanged_keeps (cw.le rfl) k6)
  · split
    · rename_i t7 t8 x9 e10
      have k11 : Keeps W r t8 := Keeps1.of_eq e10 (plainWrite_keeps (cw.le rfl) h3)
      exact Keeps1.mk (configChanged_keeps (cw.le rfl) k11)
  · split
    · rename_i t12 t13 x14 e15
      have k16 : Keeps W r t13 := Keeps1.of_eq e15 (plainWrite_keeps (cw.le rfl) h3)
      exact Keeps1.mk (configChanged_keeps (cw.le rfl) k16)
  · split
    · rename_i t17 t18 x19 e20
      have k21 : Keeps W r t18 := Keeps1.of_eq e20 (plainWrite_keeps (cw.le rfl) h3)
      exact Keeps1.mk (configChanged_keeps (cw.le rfl) k21)
  · split
    · rename_i t22 t23 x24 e25
      have k26 : Keeps W r t23 := Keeps1.of_eq e25 (plainWrite_keeps (cw.le rfl) h3)
      exact Keeps1.mk (configChanged_keeps (cw.le rfl) k26)
  · split
    · rename_i t27 t28 x29 e30
      have k31 : Keeps W r t28 := Keeps1.of_eq e30 (plainWrite_keeps (cw.le rfl) h3)
      exact Keeps1.mk (configChanged_keeps (cw.le rfl) k31)
  · split
    · rename_i t32 t33 x34 e35
      have k36 : Keeps W r t33 := Keeps1.of_eq e35 (plainWrite_keeps (cw.le rfl) h3)
      exact Keeps1.mk (configChanged_keeps (cw.le rfl) k36)
  · split
    · rename_i t37 t38 x39 e40
      have k41 : Keeps W r t38 := Keeps1.of_eq e40 (plainWrite_keeps (cw.le rfl) h3)
      exact Keeps1.mk (configChanged_keeps (cw.le rfl) k41)
  · exact Keeps1.mk (mirrorMove_keeps (cw.le rfl) (storeConfig_keeps (cw.le rfl) h3))
  · extract_lets +onlyGivenNames v42 v43
    exact .ite (Keeps1.mk h3) (plainWrite_keeps (cw.le rfl) h3)
  · exact railReactionRule_keeps (cw.le rfl) h3
  · exact Keeps1.mk (applyEnforce_keeps (cw.le rfl) (setObj_keeps (cw.le rfl) h3))
  · exact Keeps1.mk (applyEnforce_keeps (cw.le rfl) (setObj_keeps (cw.le rfl) h3))
  · extract_lets +onlyGivenNames v44
    have k45 : Keeps W r v44 := setObj_keeps (cw.le rfl) h3
    clear_value v44
    exact .ite (netChange_keeps (cw.le rfl) h3 k45) (Keeps1.mk (configChanged_keeps (cw.le rfl) k45))
  · exact .ite (Keeps1.mk h3) (plainWrite_keeps (cw.le rfl) h3)
  · exact .ite (Keeps1.mk h3) (plainWrite_keeps (cw.le rfl) h3)
  · refine .ite (Keeps1.mk h3) ?_
    split
    · exact Keeps1.mk h3
    · exact plainWrite_keeps (cw.le rfl) h3
  · exact .ite (plainWrite_keeps (cw.le rfl) h3) (Keeps1.mk h3)
  · exact Keeps1.mk (syncRec_keeps (cw.le rfl) (setR_keeps (cw.le rfl) h3))
  · split
    · exact Keeps1.mk (.upd cw h3)
    · exact Keeps1.mk h3
  · exact plainWrite_keeps (cw.le rfl) h3
theorem commandRule_keeps {W : Nat} {r s : State} {n : Nat} {e : KEffect} {c v} (cw : Covers W 0x1f1f6fffffff700f69f5cfe3be7f80711450a803cfff82060fe3f37e9ffffffffffffff) (he : commandRule n = some e) (h : Keeps W r s) : Keeps1 W r (e c v s) := by
  unfold commandRule at he
  split at he <;> cases he
  · exact portEnableRule_keeps (cw.le rfl) h
  · exact bifurcateRule_keeps (cw.le rfl) h
  · exact regionApplyEffect_keeps (cw.le rfl) h
  · exact domainRecoverEffect_keeps (cw.le rfl) h
  · exact hcEnableRule_keeps (cw.le rfl) h
  · exact hcInvalidateEffect_keeps (cw.le rfl) h
  · exact hcEnableForceEffect_keeps (cw.le rfl) h
  · exact hcWayReenableEffect_keeps (cw.le rfl) h
  · exact berthWaysRule_keeps (cw.le rfl) h
  · exact berthRangeApplyEffect_keeps (cw.le rfl) h
  · exact berthPromoteEffect_keeps (cw.le rfl) h
  · exact mirrorEnableRule_keeps (cw.le rfl) h
  · exact mirrorAcceptPeerEffect_keeps (cw.le rfl) h
  · exact dirtyCapLimitRule_keeps (cw.le rfl) h
  · exact planApplyEffect_keeps (cw.le rfl) h
  · exact planRollbackEffect_keeps (cw.le rfl) h
  · exact proofNowEffect_keeps (cw.le rfl) h
  · exact scrubStartEffect_keeps (cw.le rfl) h
  · exact custodianRule_keeps (cw.le rfl) h
  · exact keyRotateEffect_keeps (cw.le rfl) h
  · exact keyDestroyEffect_keeps (cw.le rfl) h
  · exact integrityRecoverEffect_keeps (cw.le rfl) h
  · exact protApplyEffect_keeps (cw.le rfl) h
  · exact holdupMeasureEffect_keeps (cw.le rfl) h
  · exact bankEnableRule_keeps (cw.le rfl) h
  · exact warmResetEffect_keeps (cw.le rfl) h
  · exact blockResetEffect_keeps (cw.le rfl) h
  · exact pstateEffect_keeps (cw.le rfl) h
  · exact padHoldReleaseEffect_keeps (cw.le rfl) h
  · exact retentionFreezeEffect_keeps (cw.le rfl) h
  · exact retentionResumeEffect_keeps (cw.le rfl) h
  · exact sensorRetestEffect_keeps (cw.le rfl) h
  · exact roleKeyRule_keeps (cw.le rfl) h
  · exact sessionKillEffect_keeps (cw.le rfl) h
  · exact netEnableRule_keeps (cw.le rfl) h
  · exact netApplyEffect_keeps (cw.le rfl) h
  · exact hmStoreNowEffect_keeps (cw.le rfl) h
  · exact windowRule_keeps (cw.le rfl) h
  · exact freezeRule_keeps (cw.le rfl) h
  · exact triggerRule_keeps (cw.le rfl) h
  · exact pcConfigRule_keeps (cw.le rfl) h
  · exact pcCountRule_keeps (cw.le rfl) h
  · exact pcFreezeRule_keeps (cw.le rfl) h
  · exact pcSnapshotEffect_keeps (cw.le rfl) h
  · exact bwWindowRule_keeps (cw.le rfl) h
  · exact lbRunEffect_keeps (cw.le rfl) h
  · exact sramSelftestEffect_keeps (cw.le rfl) h
  · exact stackSelftestEffect_keeps (cw.le rfl) h
  · exact hbmSelftestEffect_keeps (cw.le rfl) h
  · exact bootReleaseEffect_keeps (cw.le rfl) h
  · exact jtagUnlockEffect_keeps (cw.le rfl) h
  · exact fwActivateEffect_keeps (cw.le rfl) h
theorem writeEffect_keeps {W : Nat} {r s : State} {o w c v} (cw : Covers W 0x1f1f6fffffff700f79f5cfe3be7f80711450a803ffff83063fe3f37e9ffffffffffffff) (h : Keeps W r s) : Keeps1 W r (writeEffect o w c v s) := by
  unfold writeEffect
  split
  · exact scrubAbortEffect_keeps (cw.le rfl) h
  · split
    · exact fwInstallEffect_keeps (cw.le rfl) h
    · cases hc : commandRule (o / 256) with
      | none => exact writeRule_keeps (cw.le rfl) h
      | some e =>
        cases objRow? o with
        | none => exact writeRule_keeps (cw.le rfl) h
        | some x =>
          dsimp only
          split
          · exact writeRule_keeps (cw.le rfl) h
          · exact commandRule_keeps (cw.le rfl) hc h
theorem execRead_keeps {W : Nat} {r : State} {a1 a2 s3} (cw : Covers W 0x200000000000000000c840000000000000000000000000000000000000000000000001a) (h3 : Keeps W r s3) : KeepsOut W r (execRead a1 a2 s3) := KeepsOut.next (kdpObject_keeps (cw.le rfl) (fun _ _ _ k4 => plainWrite_keeps (cw.le rfl) k4) h3)
theorem execWrite_keeps {W : Nat} {r : State} {a1 a2 a3 s4} (cw : Covers W 0x3f1f6fffffff700f79fdcfe3be7f80711450a803ffff83063fe3f37e9ffffffffffffff) (h4 : Keeps W r s4) : KeepsOut W r (execWrite a1 a2 a3 s4) := by
  delta execWrite
  extract_lets +onlyGivenNames v1 v2
  refine KeepsOut.next ?_
  have k3 : Keeps W r v2 := kdpObject_keeps (cw.le rfl) (fun _ _ _ k7 => writeEffect_keeps (cw.le rfl) k7) h4
  clear_value v2
  exact .ite (settle_keeps (cw.le rfl) k3) k3
theorem bulkOpen_keeps {W : Nat} {r : State} {a1 a2 a3 a4 a5 s6} (cw : Covers W 0x4000000000000000000000000000000000000000000000000008) (h6 : Keeps W r s6) : Keeps1 W r (bulkOpen a1 a2 a3 a4 a5 s6) := by
  delta bulkOpen
  extract_lets +onlyGivenNames v1
  refine .ite (Keeps1.mk h6) ?_
  split
  · exact Keeps1.mk h6
  · extract_lets +onlyGivenNames v2
    refine .ite (Keeps1.mk h6) ?_
    split
    · exact Keeps1.mk h6
    · refine .ite (Keeps1.mk h6) ?_
      refine .ite (Keeps1.mk h6) ?_
      refine .ite (Keeps1.mk h6) ?_
      split
      · exact Keeps1.mk h6
      · refine .ite (Keeps1.mk h6) ?_
        refine .ite (Keeps1.mk h6) ?_
        refine .ite (.ite (Keeps1.mk h6) (Keeps1.mk (.upd cw h6))) ?_
        split
        · rename_i t3 t4 x5 e6
          have k7 : Keeps W r t4 := Keeps1.of_eq e6 (exportRead_keeps (cw.le rfl) h6)
          exact Keeps1.mk (.upd cw k7)
        · rename_i t8 t9 x10 e11
          have k12 : Keeps W r t9 := Keeps1.of_eq e11 (exportRead_keeps (cw.le rfl) h6)
          exact Keeps1.mk h6
        · rename_i t13 t14 x15 e16
          have k17 : Keeps W r t14 := Keeps1.of_eq e16 (exportRead_keeps (cw.le rfl) h6)
          exact Keeps1.mk h6
theorem bulkOf_keeps {W : Nat} {r : State} {a1 s2} (cw : Covers W 0x10000000000000000000000000000000000000000000000000000) (h2 : Keeps W r s2) : Keeps1 W r (bulkOf a1 s2) := by
  delta bulkOf
  refine .ite (Keeps1.mk (.upd cw h2)) ?_
  split
  · exact .ite (Keeps1.mk h2) (.ite (Keeps1.mk h2) (Keeps1.mk h2))
  · exact Keeps1.mk h2
theorem bulkStep_keeps {W : Nat} {r : State} {a1 a2 s3} (cw : Covers W 0x10000000000000000000000000000000000000000000000000000) (h1 : ∀ y1 y2, Keeps W r y2 → Keeps1 W r (a1 y1 y2)) (h3 : Keeps W r s3) : Keeps1 W r (bulkStep a1 a2 s3) := by
  delta bulkStep
  split
  · rename_i t1 t2 x3 e4
    have k5 : Keeps W r t2 := Keeps1.of_eq e4 (bulkOf_keeps (cw.le rfl) h3)
    exact h1 _ _ k5
  · rename_i t6 t7 x8 e9
    have k10 : Keeps W r t7 := Keeps1.of_eq e9 (bulkOf_keeps (cw.le rfl) h3)
    exact Keeps1.mk k10
theorem execBulkOpen_keeps {W : Nat} {r : State} {a1 a2 a3 a4 s5} (cw : Covers W 0x200000000000000000dc40000000000000000000000000000000000000000000000000a) (h5 : Keeps W r s5) : KeepsOut W r (execBulkOpen a1 a2 a3 a4 s5) := by
  delta execBulkOpen
  refine KeepsOut.next ?_
  refine kdpRequest_keeps (cw.le rfl) ?_ h5
  intro _ _ k3
  extract_lets +onlyGivenNames v4 v5
  have k6 : Keeps W r v5 := .upd cw k3
  clear_value v5
  split
  · rename_i t7 t8 x9 e10
    have k11 : Keeps W r t8 := Keeps1.of_eq e10 (bulkOpen_keeps (cw.le rfl) k6)
    exact Keeps1.mk k11
theorem execBulkData_keeps {W : Nat} {r : State} {a1 a2 a3 s4} (cw : Covers W 0x200000000000000000dc40000000000000000000000000000000000000000000000000a) (h4 : Keeps W r s4) : KeepsOut W r (execBulkData a1 a2 a3 s4) := KeepsOut.next (kdpRequest_keeps (cw.le rfl) (fun _ _ k3 => bulkStep_keeps (cw.le rfl) (fun _ _ k6 => .ite (Keeps1.mk k6) (Keeps1.mk (.upd cw k6))) k3) h4)
theorem execBulkRead_keeps {W : Nat} {r : State} {a1 a2 a3 s4} (cw : Covers W 0x200000000000000000d840000000000000000000000000000000000000000000000000a) (h4 : Keeps W r s4) : KeepsOut W r (execBulkRead a1 a2 a3 s4) := by
  delta execBulkRead
  refine KeepsOut.next ?_
  refine kdpRequest_keeps (cw.le rfl) ?_ h4
  intro _ _ k3
  refine bulkStep_keeps (cw.le rfl) ?_ k3
  intro _ _ k6
  extract_lets +onlyGivenNames v7
  exact .ite (Keeps1.mk k6) (Keeps1.mk k6)
theorem execBulkCommit_keeps {W : Nat} {r : State} {a1 a2 s3} (cw : Covers W 0x3f1f6fffffff700f79fdcfe3be7f80711450a803ffff83063fe3f37e9ffffffffffffff) (h3 : Keeps W r s3) : KeepsOut W r (execBulkCommit a1 a2 s3) := by
  delta execBulkCommit
  refine KeepsOut.next ?_
  refine kdpRequest_keeps (cw.le rfl) ?_ h3
  intro _ _ k3
  refine bulkStep_keeps (cw.le rfl) ?_ k3
  intro _ _ k6
  refine .ite (Keeps1.mk k6) ?_
  split
  · exact Keeps1.mk k6
  · refine .ite (Keeps1.mk k6) ?_
    extract_lets +onlyGivenNames v7
    split
    · rename_i t8 t9 x10 e11
      have k12 : Keeps W r t9 := Keeps1.of_eq e11 (writeEffect_keeps (cw.le rfl) k6)
      exact .ite (Keeps1.mk (.upd cw k12)) (Keeps1.mk k6)
theorem execBulkEnd_keeps {W : Nat} {r : State} {a1 s2} (cw : Covers W 0x200000000000000000dc40000000000000000000000000000000000000000000000000a) (h2 : Keeps W r s2) : KeepsOut W r (execBulkEnd a1 s2) := by
  delta execBulkEnd
  refine KeepsOut.next ?_
  refine kdpRequest_keeps (cw.le rfl) ?_ h2
  intro _ _ k3
  split
  · rename_i t4 t5 e6
    have k7 : Keeps W r t5 := Keeps1.of_eq e6 (bulkOf_keeps (cw.le rfl) k3)
    exact Keeps1.mk k7
  · rename_i t8 t9 x10 e11 e12
    have k13 : Keeps W r t9 := Keeps1.of_eq e12 (bulkOf_keeps (cw.le rfl) k3)
    split
    · exact .ite (Keeps1.mk (.upd cw k13)) (Keeps1.mk k13)
    · exact Keeps1.mk k13
theorem execBulkIdleTimeout_keeps {W : Nat} {r : State} {s1} (cw : Covers W 0x14000000000000000000000000000000000000000000000000000) (h1 : Keeps W r s1) : KeepsOut W r (execBulkIdleTimeout s1) := by
  delta execBulkIdleTimeout
  refine KeepsOut.next ?_
  split
  · exact .upd cw h1
  · exact h1
theorem hbmBeats_keeps {W : Nat} {r : State} {s1 a2} (cw : Covers W 0x7fe00002000400000000000000000000000000000000000000000000000019) (h1 : Keeps W r s1) : Keeps W r (hbmBeats s1 a2) := by
  delta hbmBeats
  split
  · rename_i t1 x2 t3 e4
    have k5 : Keeps W r t3 := Keeps2.of_eq e4 (draw_keeps (cw.le rfl) h1)
    exact pcCount_keeps (cw.le rfl) k5
theorem cycleEvents_keeps {W : Nat} {r : State} {s1} (cw : Covers W 0x7fe00002000400000000000000000000000000000000000000000000000019) (h1 : Keeps W r s1) : Keeps W r (cycleEvents s1) := by
  delta cycleEvents
  extract_lets +onlyGivenNames v1
  have k2 : Keeps W r v1 := pcCount_keeps (cw.le rfl) h1
  clear_value v1
  extract_lets +onlyGivenNames v3
  have k4 : Keeps W r v3 := .foldl k2 (fun _ _ k7 => pcCount_keeps (cw.le rfl) k7)
  clear_value v3
  extract_lets +onlyGivenNames v8
  have k9 : Keeps W r v8 := .foldl k4 (fun _ _ k12 => pcCount_keeps (cw.le rfl) k12)
  clear_value v8
  extract_lets +onlyGivenNames v13
  have k14 : Keeps W r v13 := .foldl k9 (fun _ _ k17 => pcCount_keeps (cw.le rfl) k17)
  clear_value v13
  exact .foldl k14 (fun _ _ k20 => hbmBeats_keeps (cw.le rfl) k20)
theorem takeHeld_keeps {W : Nat} {r : State} {s1} (cw : Covers W 0x8400000000000000000000000000000000000000000000000000) (h1 : Keeps W r s1) : Keeps W r (takeHeld s1) := by
  delta takeHeld
  split
  · extract_lets +onlyGivenNames v1
    have k2 : Keeps W r v1 := updSession_keeps (cw.le rfl) h1
    clear_value v1
    exact .upd cw k2
  · exact h1
end Sys2Proof.Machine
end

