-- ==== Sys2Proof/Laws/Regs.lean ====
section
/-! SUPPORT. The laws of the register file: what a read of a register gives after a write, and which registers the operations that every command
shares (recording an event, following unit states, the records of the store, a KDP response) leave alone. -/
set_option Elab.async false
namespace Sys2Proof.Machine
open Sys2Proof

theorem objKey_inj {u o u' o' : Nat} (h : o < 2^24) (h' : o' < 2^24) (e : objKey u o = objKey u' o') : u = u' ∧ o = o' := by
  unfold objKey at e; omega

@[simp] theorem obj_setObj_self (s : State) (u o v : Nat) : (s.setObj u o v).obj u o = v := by
  simp [State.obj, State.setObj]

theorem obj_setObj_key (s : State) {u o u' o' : Nat} (v : Nat) (h : objKey u' o' ≠ objKey u o) : (s.setObj u o v).obj u' o' = s.obj u' o' := by
  simp [State.obj, State.setObj, AMap.get?_set_ne _ _ h]

theorem obj_setObj_ne (s : State) {u o u' o' : Nat} (v : Nat) (ho : o < 2^24) (ho' : o' < 2^24) (h : u' ≠ u ∨ o' ≠ o) :
    (s.setObj u o v).obj u' o' = s.obj u' o' :=
  obj_setObj_key s v fun e => by have := objKey_inj ho' ho e; omega

/-- The registers whose number is not in a list read as before, on every unit. -/
def RegsKeep (O : List Nat) (r s : State) : Prop := s.variant = r.variant ∧ ∀ u o, o < 2^24 → o ∉ O → s.obj u o = r.obj u o

theorem RegsKeep.rfl' {O : List Nat} {r : State} : RegsKeep O r r := ⟨rfl, fun _ _ _ _ => rfl⟩

theorem RegsKeep.trans {O : List Nat} {r s t : State} (h : RegsKeep O r s) (k : RegsKeep O s t) : RegsKeep O r t :=
  ⟨k.1.trans h.1, fun u o ho hn => (k.2 u o ho hn).trans (h.2 u o ho hn)⟩

theorem RegsKeep.mono {O O' : List Nat} {r s : State} (h : RegsKeep O r s) (e : ∀ o ∈ O, o ∈ O') : RegsKeep O' r s :=
  ⟨h.1, fun u o ho hn => h.2 u o ho fun m => hn (e o m)⟩

theorem RegsKeep.ite {O : List Nat} {r a b : State} {c : Prop} {d : Decidable c} (ha : RegsKeep O r a) (hb : RegsKeep O r b) :
    RegsKeep O r (if c then a else b) := by split <;> assumption

theorem RegsKeep.foldl {O : List Nat} {β : Type} {r : State} {f : State → β → State} {l : List β} {s : State} (h : RegsKeep O r s)
    (hf : ∀ x, ∀ a ∈ l, RegsKeep O r x → RegsKeep O r (f x a)) : RegsKeep O r (l.foldl f s) := by
  induction l generalizing s with
  | nil => exact h
  | cons a t ih => exact ih (hf s a List.mem_cons_self h) fun x b hb => hf x b (List.mem_cons_of_mem _ hb)

theorem RegsKeep.set {O : List Nat} {r s : State} {u o v : Nat} (h : RegsKeep O r s) (ho : o < 2^24) (m : o ∈ O) : RegsKeep O r (s.setObj u o v) :=
  ⟨h.1, fun u' o' ho' hn => (obj_setObj_ne s v ho ho' (.inr fun e => hn (e ▸ m))).trans (h.2 u' o' ho' hn)⟩

/-- An update of other fields. -/
theorem RegsKeep.upd {O : List Nat} {r s t : State} (h : RegsKeep O r s) (e : t.objs = s.objs := by rfl) (v : t.variant = s.variant := by rfl) : RegsKeep O r t :=
  ⟨v.trans h.1, fun u o ho hn => by rw [← h.2 u o ho hn]; simp [State.obj, e, v]⟩

theorem RegsKeep.setBlob {O : List Nat} {r s : State} {u o : Nat} {b : List Byte} (h : RegsKeep O r s) : RegsKeep O r (s.setBlob u o b) := h.upd

theorem RegsKeep.emit {O : List Nat} {r s : State} {m : Out} (h : RegsKeep O r s) : RegsKeep O r (s.emit m) := h.upd

/-- The registers that recording an event may write (15 R345, 16 R373, R376 to R378). -/
def recordObjs : List Nat :=
  [Obj.LAST_WARNING, Obj.RECORDER_FREEZE, Obj.FROZEN_LOST, Obj.RING_LOST, Obj.LOG_FLUSHES, 0x1D2101, 0x1D2102, 0x1D2103, 0x1D2104, 0x1D2105, 0x1D2106,
    0x1D2107, 0x1D2108]

section
variable {r s : State}

theorem noteWarning_regs {c u : Nat} (h : RegsKeep recordObjs r s) : RegsKeep recordObjs r (noteWarning s c u) :=
  .ite (.foldl h fun _ _ _ k => k.set (by decide) (by decide)) h

theorem fireTrigger_regs {i : Nat} (hi : i < 8) (h : RegsKeep recordObjs r s) : RegsKeep recordObjs r (fireTrigger s i) := by
  have hm : Obj.TRIGGER_FIRES + i + 1 ∈ recordObjs := by
    have : i = 0 ∨ i = 1 ∨ i = 2 ∨ i = 3 ∨ i = 4 ∨ i = 5 ∨ i = 6 ∨ i = 7 := by omega
    rcases this with rfl | rfl | rfl | rfl | rfl | rfl | rfl | rfl <;> decide
  have h1 : RegsKeep recordObjs r (s.bumpR (Obj.TRIGGER_FIRES + i + 1)) := h.set (by simp only [Obj.TRIGGER_FIRES]; omega) hm
  exact .ite h1.setBlob h1

theorem flushBuffer_regs (h : RegsKeep recordObjs r s) : RegsKeep recordObjs r (flushBuffer s) := by
  delta flushBuffer
  extract_lets
  exact .ite h (RegsKeep.set h.upd (by decide) (by decide))

theorem flushIfOpen_regs (h : RegsKeep recordObjs r s) : RegsKeep recordObjs r (flushIfOpen s) := .ite (flushBuffer_regs h) h

theorem triggerFor_lt {c i : Nat} {v : List Nat} {b : Bool} (e : triggerFor s c = some (i, v, b)) : i < 8 := by
  delta triggerFor at e
  extract_lets slots at e
  generalize hl : slots = l at e
  cases l with
  | nil => cases e
  | cons j t =>
    simp only [Option.some.injEq, Prod.mk.injEq] at e
    have : j ∈ slots := hl ▸ List.mem_cons_self
    simp only [slots, List.mem_filter, List.mem_range] at this
    omega

theorem bufferAdd_add_regs {e : EvRec} (h : RegsKeep recordObjs r s) : RegsKeep recordObjs r (bufferAdd.add s e) := by
  have main : ∀ (e : EvRec) (s : State), RegsKeep recordObjs r s → RegsKeep recordObjs r
      (let r := s.recorder
       let full := decide (r.flushedTo + 4096 ≤ r.next)
       let s := if full then s.bumpR Obj.RING_LOST else s
       let buffer := ((r.next, e) :: r.buffer).take 4096
       let flushedTo := if full then r.flushedTo + 1 else r.flushedTo
       let s := { s with recorder := { r with buffer := buffer, next := r.next + 1, flushedTo := flushedTo, lostBefore := r.lostBefore || full } }
       let s := deliver s e
       if 3 ≤ evSeverity e.code ∨ s.recorder.flushedTo + 2048 ≤ s.recorder.next then flushIfOpen s else s) := by
    intro e s h
    extract_lets r0 full s1 buffer upto s2 s3
    have h1 : RegsKeep recordObjs r s1 := .ite (h.set (by decide) (by decide)) h
    have h3 : RegsKeep recordObjs r s3 := RegsKeep.upd (s := s1) h1
    exact .ite (flushIfOpen_regs h3) h3
  delta bufferAdd.add
  generalize ht : triggerFor s e.code = o
  rcases o with _ | ⟨i, v, b⟩
  · exact main _ _ h
  · exact main _ _ (fireTrigger_regs (triggerFor_lt ht) h)

theorem bufferAdd_regs {e : EvRec} (h : RegsKeep recordObjs r s) : RegsKeep recordObjs r (bufferAdd s e) := by
  delta bufferAdd
  extract_lets q
  generalize q.buffer = l
  rcases l with _ | ⟨⟨p, n⟩, t⟩
  · exact bufferAdd_add_regs h
  · exact .ite h.upd (bufferAdd_add_regs h)

theorem endFreeze_regs {n : Nat} (h : RegsKeep recordObjs r s) : RegsKeep recordObjs r (endFreeze s n) := by
  delta endFreeze
  generalize s.recorder.freezeSid = o
  cases o with
  | none => exact h
  | some x =>
    extract_lets +onlyGivenNames lost rc s1 s2 e
    have h2 : RegsKeep recordObjs r s2 := RegsKeep.set (RegsKeep.upd (s := s) (t := s1) h) (by decide) (by decide)
    exact .ite (bufferAdd_regs h2) h2

theorem recordWith_regs {hm : Bool} {c u x : Nat} {l : List Nat} (h : RegsKeep recordObjs r s) : RegsKeep recordObjs r (recordWith hm s c u x l) := by
  delta recordWith
  extract_lets +onlyGivenNames s1 e a b s2
  have h1 : RegsKeep recordObjs r s1 := noteWarning_regs h
  have h2 : RegsKeep recordObjs r s2 := .ite h1.upd h1
  exact .ite h2 (.ite (.ite (flushIfOpen_regs (endFreeze_regs (bufferAdd_regs h2))) (h2.set (o := Obj.FROZEN_LOST) (by decide) (by decide))) (bufferAdd_regs h2))

end

/-- Recording an event leaves the registers but those of the recorder. -/
theorem record_obj (s : State) {c u x : Nat} {l : List Nat} {u' o : Nat} (ho : o < 2^24) (hn : o ∉ recordObjs) : (record s c u x l).obj u' o = s.obj u' o :=
  (recordWith_regs (.rfl')).2 u' o ho hn
theorem recordHm_obj (s : State) {c u x : Nat} {l : List Nat} {u' o : Nat} (ho : o < 2^24) (hn : o ∉ recordObjs) : (recordHm s c u x l).obj u' o = s.obj u' o :=
  (recordWith_regs (.rfl')).2 u' o ho hn

/-- Following the states of units writes STATE_CHANGES and STATE_SINCE alone (15 R345). -/
theorem track_obj (us : List Nat) (s0 s : State) {u' o : Nat} (ho : o < 2^24) (hn : o ∉ [Obj.STATE_CHANGES, Obj.STATE_SINCE]) : (track us s0 s).obj u' o = s.obj u' o :=
  (RegsKeep.foldl (O := [Obj.STATE_CHANGES, Obj.STATE_SINCE]) (.rfl') fun _ _ _ k =>
    .ite ((k.set (o := Obj.STATE_CHANGES) (by decide) (by decide)).set (by decide) (by decide)) k).2 u' o ho hn

/-- The registers that a record of the store and its shadow store write (16 R363, R366, R367). -/
def storeObjs : List Nat :=
  [Obj.HM_STORE_LAST, Obj.HM_STORE_DEFERRED, 0x1D0401, 0x1D0402, 0x1D0403, 0x1D0404, 0x1D0405, 0x1D0406, 0x1D0407, 0x1D0408, 0x1D0409, 0x1D040A, 0x1D040B,
    0x1D040C]

theorem requestStore_regs {r s : State} (h : RegsKeep storeObjs r s) : RegsKeep storeObjs r (requestStore s) :=
  .ite (RegsKeep.upd (RegsKeep.set h (o := Obj.HM_STORE_DEFERRED) (by decide) (by decide)))
    (RegsKeep.upd (RegsKeep.set h (o := Obj.HM_STORE_LAST) (by decide) (by decide)))

theorem syncKeyLog_regs {O : List Nat} {r s : State} {id : Nat} (h : RegsKeep O r s) : RegsKeep O r (syncKeyLog s id) := .ite h.upd (.ite h.upd h)

theorem syncRec_regs {r s : State} {id : Nat} (hi : Obj.RECORD_STATE + id ∈ storeObjs) (h : RegsKeep storeObjs r s) : RegsKeep storeObjs r (syncRec s id) := by
  have hl : Obj.RECORD_STATE + id < 2^24 := by
    have := (show ∀ o ∈ storeObjs, o < 2^24 by decide) _ hi
    exact this
  delta syncRec
  refine .ite h ?_
  extract_lets s' p
  have h' : RegsKeep storeObjs r s' := syncKeyLog_regs h
  generalize chooseSlot s'.hm.sram id = c
  obtain ⟨code, cur⟩ := c
  refine .ite h' ?_
  exact requestStore_regs (RegsKeep.upd (RegsKeep.set h' hl hi))

/-- A record of the store leaves the registers but its RECORD_STATE and those of the shadow store. -/
theorem syncRec_obj (s : State) {id u' o : Nat} (hi : Obj.RECORD_STATE + id ∈ storeObjs) (ho : o < 2^24) (hn : o ∉ storeObjs) :
    (syncRec s id).obj u' o = s.obj u' o := (syncRec_regs hi (.rfl')).2 u' o ho hn

end Sys2Proof.Machine
end

