-- ==== Sys2Proof/Laws/State.lean ====
section
/-! SUPPORT. The fields of State after each of the updates that write one part of it: one lemma for each field and update, so that a proof reads the
field without unfolding the update. -/
set_option Elab.async false
namespace Sys2Proof.Machine
open Sys2Proof

/-! setObj -/

@[simp] theorem setObj_variant (s : State) (u o v : Nat) : (s.setObj u o v).variant = s.variant := rfl
@[simp] theorem setObj_pending (s : State) (u o v : Nat) : (s.setObj u o v).pending = s.pending := rfl
@[simp] theorem setObj_now (s : State) (u o v : Nat) : (s.setObj u o v).now = s.now := rfl
@[simp] theorem setObj_free (s : State) (u o v : Nat) : (s.setObj u o v).free = s.free := rfl
@[simp] theorem setObj_out (s : State) (u o v : Nat) : (s.setObj u o v).out = s.out := rfl
@[simp] theorem setObj_phase (s : State) (u o v : Nat) : (s.setObj u o v).phase = s.phase := rfl
@[simp] theorem setObj_objs (s : State) (u o v : Nat) : (s.setObj u o v).objs = AMap.set s.objs (objKey u o) v := rfl
@[simp] theorem setObj_blobs (s : State) (u o v : Nat) : (s.setObj u o v).blobs = s.blobs := rfl
@[simp] theorem setObj_hp (s : State) (u o v : Nat) : (s.setObj u o v).hp = s.hp := rfl
@[simp] theorem setObj_mc (s : State) (u o v : Nat) : (s.setObj u o v).mc = s.mc := rfl
@[simp] theorem setObj_dir (s : State) (u o v : Nat) : (s.setObj u o v).dir = s.dir := rfl
@[simp] theorem setObj_hc (s : State) (u o v : Nat) : (s.setObj u o v).hc = s.hc := rfl
@[simp] theorem setObj_wharf (s : State) (u o v : Nat) : (s.setObj u o v).wharf = s.wharf := rfl
@[simp] theorem setObj_media (s : State) (u o v : Nat) : (s.setObj u o v).media = s.media := rfl
@[simp] theorem setObj_ml (s : State) (u o v : Nat) : (s.setObj u o v).ml = s.ml := rfl
@[simp] theorem setObj_ag (s : State) (u o v : Nat) : (s.setObj u o v).ag = s.ag := rfl
@[simp] theorem setObj_dp (s : State) (u o v : Nat) : (s.setObj u o v).dp = s.dp := rfl
@[simp] theorem setObj_pw (s : State) (u o v : Nat) : (s.setObj u o v).pw = s.pw := rfl
@[simp] theorem setObj_cs (s : State) (u o v : Nat) : (s.setObj u o v).cs = s.cs := rfl
@[simp] theorem setObj_th (s : State) (u o v : Nat) : (s.setObj u o v).th = s.th := rfl
@[simp] theorem setObj_pins (s : State) (u o v : Nat) : (s.setObj u o v).pins = s.pins := rfl
@[simp] theorem setObj_kdp (s : State) (u o v : Nat) : (s.setObj u o v).kdp = s.kdp := rfl
@[simp] theorem setObj_hm (s : State) (u o v : Nat) : (s.setObj u o v).hm = s.hm := rfl
@[simp] theorem setObj_recorder (s : State) (u o v : Nat) : (s.setObj u o v).recorder = s.recorder := rfl
@[simp] theorem setObj_pc (s : State) (u o v : Nat) : (s.setObj u o v).pc = s.pc := rfl
@[simp] theorem setObj_ts (s : State) (u o v : Nat) : (s.setObj u o v).ts = s.ts := rfl

/-! setR -/

@[simp] theorem setR_variant (s : State) (o v : Nat) : (s.setR o v).variant = s.variant := rfl
@[simp] theorem setR_pending (s : State) (o v : Nat) : (s.setR o v).pending = s.pending := rfl
@[simp] theorem setR_now (s : State) (o v : Nat) : (s.setR o v).now = s.now := rfl
@[simp] theorem setR_free (s : State) (o v : Nat) : (s.setR o v).free = s.free := rfl
@[simp] theorem setR_out (s : State) (o v : Nat) : (s.setR o v).out = s.out := rfl
@[simp] theorem setR_phase (s : State) (o v : Nat) : (s.setR o v).phase = s.phase := rfl
@[simp] theorem setR_objs (s : State) (o v : Nat) : (s.setR o v).objs = AMap.set s.objs (objKey U.root o) v := rfl
@[simp] theorem setR_blobs (s : State) (o v : Nat) : (s.setR o v).blobs = s.blobs := rfl
@[simp] theorem setR_hp (s : State) (o v : Nat) : (s.setR o v).hp = s.hp := rfl
@[simp] theorem setR_mc (s : State) (o v : Nat) : (s.setR o v).mc = s.mc := rfl
@[simp] theorem setR_dir (s : State) (o v : Nat) : (s.setR o v).dir = s.dir := rfl
@[simp] theorem setR_hc (s : State) (o v : Nat) : (s.setR o v).hc = s.hc := rfl
@[simp] theorem setR_wharf (s : State) (o v : Nat) : (s.setR o v).wharf = s.wharf := rfl
@[simp] theorem setR_media (s : State) (o v : Nat) : (s.setR o v).media = s.media := rfl
@[simp] theorem setR_ml (s : State) (o v : Nat) : (s.setR o v).ml = s.ml := rfl
@[simp] theorem setR_ag (s : State) (o v : Nat) : (s.setR o v).ag = s.ag := rfl
@[simp] theorem setR_dp (s : State) (o v : Nat) : (s.setR o v).dp = s.dp := rfl
@[simp] theorem setR_pw (s : State) (o v : Nat) : (s.setR o v).pw = s.pw := rfl
@[simp] theorem setR_cs (s : State) (o v : Nat) : (s.setR o v).cs = s.cs := rfl
@[simp] theorem setR_th (s : State) (o v : Nat) : (s.setR o v).th = s.th := rfl
@[simp] theorem setR_pins (s : State) (o v : Nat) : (s.setR o v).pins = s.pins := rfl
@[simp] theorem setR_kdp (s : State) (o v : Nat) : (s.setR o v).kdp = s.kdp := rfl
@[simp] theorem setR_hm (s : State) (o v : Nat) : (s.setR o v).hm = s.hm := rfl
@[simp] theorem setR_recorder (s : State) (o v : Nat) : (s.setR o v).recorder = s.recorder := rfl
@[simp] theorem setR_pc (s : State) (o v : Nat) : (s.setR o v).pc = s.pc := rfl
@[simp] theorem setR_ts (s : State) (o v : Nat) : (s.setR o v).ts = s.ts := rfl

/-! bumpN -/

@[simp] theorem bumpN_variant (s : State) (u o n : Nat) : (s.bumpN u o n).variant = s.variant := rfl
@[simp] theorem bumpN_pending (s : State) (u o n : Nat) : (s.bumpN u o n).pending = s.pending := rfl
@[simp] theorem bumpN_now (s : State) (u o n : Nat) : (s.bumpN u o n).now = s.now := rfl
@[simp] theorem bumpN_free (s : State) (u o n : Nat) : (s.bumpN u o n).free = s.free := rfl
@[simp] theorem bumpN_out (s : State) (u o n : Nat) : (s.bumpN u o n).out = s.out := rfl
@[simp] theorem bumpN_phase (s : State) (u o n : Nat) : (s.bumpN u o n).phase = s.phase := rfl
@[simp] theorem bumpN_objs (s : State) (u o n : Nat) : (s.bumpN u o n).objs = AMap.set s.objs (objKey u o) ((s.obj u o + n) % objModulus o) := rfl
@[simp] theorem bumpN_blobs (s : State) (u o n : Nat) : (s.bumpN u o n).blobs = s.blobs := rfl
@[simp] theorem bumpN_hp (s : State) (u o n : Nat) : (s.bumpN u o n).hp = s.hp := rfl
@[simp] theorem bumpN_mc (s : State) (u o n : Nat) : (s.bumpN u o n).mc = s.mc := rfl
@[simp] theorem bumpN_dir (s : State) (u o n : Nat) : (s.bumpN u o n).dir = s.dir := rfl
@[simp] theorem bumpN_hc (s : State) (u o n : Nat) : (s.bumpN u o n).hc = s.hc := rfl
@[simp] theorem bumpN_wharf (s : State) (u o n : Nat) : (s.bumpN u o n).wharf = s.wharf := rfl
@[simp] theorem bumpN_media (s : State) (u o n : Nat) : (s.bumpN u o n).media = s.media := rfl
@[simp] theorem bumpN_ml (s : State) (u o n : Nat) : (s.bumpN u o n).ml = s.ml := rfl
@[simp] theorem bumpN_ag (s : State) (u o n : Nat) : (s.bumpN u o n).ag = s.ag := rfl
@[simp] theorem bumpN_dp (s : State) (u o n : Nat) : (s.bumpN u o n).dp = s.dp := rfl
@[simp] theorem bumpN_pw (s : State) (u o n : Nat) : (s.bumpN u o n).pw = s.pw := rfl
@[simp] theorem bumpN_cs (s : State) (u o n : Nat) : (s.bumpN u o n).cs = s.cs := rfl
@[simp] theorem bumpN_th (s : State) (u o n : Nat) : (s.bumpN u o n).th = s.th := rfl
@[simp] theorem bumpN_pins (s : State) (u o n : Nat) : (s.bumpN u o n).pins = s.pins := rfl
@[simp] theorem bumpN_kdp (s : State) (u o n : Nat) : (s.bumpN u o n).kdp = s.kdp := rfl
@[simp] theorem bumpN_hm (s : State) (u o n : Nat) : (s.bumpN u o n).hm = s.hm := rfl
@[simp] theorem bumpN_recorder (s : State) (u o n : Nat) : (s.bumpN u o n).recorder = s.recorder := rfl
@[simp] theorem bumpN_pc (s : State) (u o n : Nat) : (s.bumpN u o n).pc = s.pc := rfl
@[simp] theorem bumpN_ts (s : State) (u o n : Nat) : (s.bumpN u o n).ts = s.ts := rfl

/-! bump -/

@[simp] theorem bump_variant (s : State) (u o : Nat) : (s.bump u o).variant = s.variant := rfl
@[simp] theorem bump_pending (s : State) (u o : Nat) : (s.bump u o).pending = s.pending := rfl
@[simp] theorem bump_now (s : State) (u o : Nat) : (s.bump u o).now = s.now := rfl
@[simp] theorem bump_free (s : State) (u o : Nat) : (s.bump u o).free = s.free := rfl
@[simp] theorem bump_out (s : State) (u o : Nat) : (s.bump u o).out = s.out := rfl
@[simp] theorem bump_phase (s : State) (u o : Nat) : (s.bump u o).phase = s.phase := rfl
@[simp] theorem bump_objs (s : State) (u o : Nat) : (s.bump u o).objs = AMap.set s.objs (objKey u o) ((s.obj u o + 1) % objModulus o) := rfl
@[simp] theorem bump_blobs (s : State) (u o : Nat) : (s.bump u o).blobs = s.blobs := rfl
@[simp] theorem bump_hp (s : State) (u o : Nat) : (s.bump u o).hp = s.hp := rfl
@[simp] theorem bump_mc (s : State) (u o : Nat) : (s.bump u o).mc = s.mc := rfl
@[simp] theorem bump_dir (s : State) (u o : Nat) : (s.bump u o).dir = s.dir := rfl
@[simp] theorem bump_hc (s : State) (u o : Nat) : (s.bump u o).hc = s.hc := rfl
@[simp] theorem bump_wharf (s : State) (u o : Nat) : (s.bump u o).wharf = s.wharf := rfl
@[simp] theorem bump_media (s : State) (u o : Nat) : (s.bump u o).media = s.media := rfl
@[simp] theorem bump_ml (s : State) (u o : Nat) : (s.bump u o).ml = s.ml := rfl
@[simp] theorem bump_ag (s : State) (u o : Nat) : (s.bump u o).ag = s.ag := rfl
@[simp] theorem bump_dp (s : State) (u o : Nat) : (s.bump u o).dp = s.dp := rfl
@[simp] theorem bump_pw (s : State) (u o : Nat) : (s.bump u o).pw = s.pw := rfl
@[simp] theorem bump_cs (s : State) (u o : Nat) : (s.bump u o).cs = s.cs := rfl
@[simp] theorem bump_th (s : State) (u o : Nat) : (s.bump u o).th = s.th := rfl
@[simp] theorem bump_pins (s : State) (u o : Nat) : (s.bump u o).pins = s.pins := rfl
@[simp] theorem bump_kdp (s : State) (u o : Nat) : (s.bump u o).kdp = s.kdp := rfl
@[simp] theorem bump_hm (s : State) (u o : Nat) : (s.bump u o).hm = s.hm := rfl
@[simp] theorem bump_recorder (s : State) (u o : Nat) : (s.bump u o).recorder = s.recorder := rfl
@[simp] theorem bump_pc (s : State) (u o : Nat) : (s.bump u o).pc = s.pc := rfl
@[simp] theorem bump_ts (s : State) (u o : Nat) : (s.bump u o).ts = s.ts := rfl

/-! bumpR -/

@[simp] theorem bumpR_variant (s : State) (o : Nat) : (s.bumpR o).variant = s.variant := rfl
@[simp] theorem bumpR_pending (s : State) (o : Nat) : (s.bumpR o).pending = s.pending := rfl
@[simp] theorem bumpR_now (s : State) (o : Nat) : (s.bumpR o).now = s.now := rfl
@[simp] theorem bumpR_free (s : State) (o : Nat) : (s.bumpR o).free = s.free := rfl
@[simp] theorem bumpR_out (s : State) (o : Nat) : (s.bumpR o).out = s.out := rfl
@[simp] theorem bumpR_phase (s : State) (o : Nat) : (s.bumpR o).phase = s.phase := rfl
@[simp] theorem bumpR_objs (s : State) (o : Nat) : (s.bumpR o).objs = AMap.set s.objs (objKey U.root o) ((s.robj o + 1) % objModulus o) := rfl
@[simp] theorem bumpR_blobs (s : State) (o : Nat) : (s.bumpR o).blobs = s.blobs := rfl
@[simp] theorem bumpR_hp (s : State) (o : Nat) : (s.bumpR o).hp = s.hp := rfl
@[simp] theorem bumpR_mc (s : State) (o : Nat) : (s.bumpR o).mc = s.mc := rfl
@[simp] theorem bumpR_dir (s : State) (o : Nat) : (s.bumpR o).dir = s.dir := rfl
@[simp] theorem bumpR_hc (s : State) (o : Nat) : (s.bumpR o).hc = s.hc := rfl
@[simp] theorem bumpR_wharf (s : State) (o : Nat) : (s.bumpR o).wharf = s.wharf := rfl
@[simp] theorem bumpR_media (s : State) (o : Nat) : (s.bumpR o).media = s.media := rfl
@[simp] theorem bumpR_ml (s : State) (o : Nat) : (s.bumpR o).ml = s.ml := rfl
@[simp] theorem bumpR_ag (s : State) (o : Nat) : (s.bumpR o).ag = s.ag := rfl
@[simp] theorem bumpR_dp (s : State) (o : Nat) : (s.bumpR o).dp = s.dp := rfl
@[simp] theorem bumpR_pw (s : State) (o : Nat) : (s.bumpR o).pw = s.pw := rfl
@[simp] theorem bumpR_cs (s : State) (o : Nat) : (s.bumpR o).cs = s.cs := rfl
@[simp] theorem bumpR_th (s : State) (o : Nat) : (s.bumpR o).th = s.th := rfl
@[simp] theorem bumpR_pins (s : State) (o : Nat) : (s.bumpR o).pins = s.pins := rfl
@[simp] theorem bumpR_kdp (s : State) (o : Nat) : (s.bumpR o).kdp = s.kdp := rfl
@[simp] theorem bumpR_hm (s : State) (o : Nat) : (s.bumpR o).hm = s.hm := rfl
@[simp] theorem bumpR_recorder (s : State) (o : Nat) : (s.bumpR o).recorder = s.recorder := rfl
@[simp] theorem bumpR_pc (s : State) (o : Nat) : (s.bumpR o).pc = s.pc := rfl
@[simp] theorem bumpR_ts (s : State) (o : Nat) : (s.bumpR o).ts = s.ts := rfl

/-! setBlob -/

@[simp] theorem setBlob_variant (s : State) (u o : Nat) (b : List Byte) : (s.setBlob u o b).variant = s.variant := rfl
@[simp] theorem setBlob_pending (s : State) (u o : Nat) (b : List Byte) : (s.setBlob u o b).pending = s.pending := rfl
@[simp] theorem setBlob_now (s : State) (u o : Nat) (b : List Byte) : (s.setBlob u o b).now = s.now := rfl
@[simp] theorem setBlob_free (s : State) (u o : Nat) (b : List Byte) : (s.setBlob u o b).free = s.free := rfl
@[simp] theorem setBlob_out (s : State) (u o : Nat) (b : List Byte) : (s.setBlob u o b).out = s.out := rfl
@[simp] theorem setBlob_phase (s : State) (u o : Nat) (b : List Byte) : (s.setBlob u o b).phase = s.phase := rfl
@[simp] theorem setBlob_objs (s : State) (u o : Nat) (b : List Byte) : (s.setBlob u o b).objs = s.objs := rfl
@[simp] theorem setBlob_blobs (s : State) (u o : Nat) (b : List Byte) : (s.setBlob u o b).blobs = AMap.set s.blobs (objKey u o) b := rfl
@[simp] theorem setBlob_hp (s : State) (u o : Nat) (b : List Byte) : (s.setBlob u o b).hp = s.hp := rfl
@[simp] theorem setBlob_mc (s : State) (u o : Nat) (b : List Byte) : (s.setBlob u o b).mc = s.mc := rfl
@[simp] theorem setBlob_dir (s : State) (u o : Nat) (b : List Byte) : (s.setBlob u o b).dir = s.dir := rfl
@[simp] theorem setBlob_hc (s : State) (u o : Nat) (b : List Byte) : (s.setBlob u o b).hc = s.hc := rfl
@[simp] theorem setBlob_wharf (s : State) (u o : Nat) (b : List Byte) : (s.setBlob u o b).wharf = s.wharf := rfl
@[simp] theorem setBlob_media (s : State) (u o : Nat) (b : List Byte) : (s.setBlob u o b).media = s.media := rfl
@[simp] theorem setBlob_ml (s : State) (u o : Nat) (b : List Byte) : (s.setBlob u o b).ml = s.ml := rfl
@[simp] theorem setBlob_ag (s : State) (u o : Nat) (b : List Byte) : (s.setBlob u o b).ag = s.ag := rfl
@[simp] theorem setBlob_dp (s : State) (u o : Nat) (b : List Byte) : (s.setBlob u o b).dp = s.dp := rfl
@[simp] theorem setBlob_pw (s : State) (u o : Nat) (b : List Byte) : (s.setBlob u o b).pw = s.pw := rfl
@[simp] theorem setBlob_cs (s : State) (u o : Nat) (b : List Byte) : (s.setBlob u o b).cs = s.cs := rfl
@[simp] theorem setBlob_th (s : State) (u o : Nat) (b : List Byte) : (s.setBlob u o b).th = s.th := rfl
@[simp] theorem setBlob_pins (s : State) (u o : Nat) (b : List Byte) : (s.setBlob u o b).pins = s.pins := rfl
@[simp] theorem setBlob_kdp (s : State) (u o : Nat) (b : List Byte) : (s.setBlob u o b).kdp = s.kdp := rfl
@[simp] theorem setBlob_hm (s : State) (u o : Nat) (b : List Byte) : (s.setBlob u o b).hm = s.hm := rfl
@[simp] theorem setBlob_recorder (s : State) (u o : Nat) (b : List Byte) : (s.setBlob u o b).recorder = s.recorder := rfl
@[simp] theorem setBlob_pc (s : State) (u o : Nat) (b : List Byte) : (s.setBlob u o b).pc = s.pc := rfl
@[simp] theorem setBlob_ts (s : State) (u o : Nat) (b : List Byte) : (s.setBlob u o b).ts = s.ts := rfl

/-! emit -/

@[simp] theorem emit_variant (s : State) (m : Out) : (s.emit m).variant = s.variant := rfl
@[simp] theorem emit_pending (s : State) (m : Out) : (s.emit m).pending = s.pending := rfl
@[simp] theorem emit_now (s : State) (m : Out) : (s.emit m).now = s.now := rfl
@[simp] theorem emit_free (s : State) (m : Out) : (s.emit m).free = s.free := rfl
@[simp] theorem emit_out (s : State) (m : Out) : (s.emit m).out = m :: s.out := rfl
@[simp] theorem emit_phase (s : State) (m : Out) : (s.emit m).phase = s.phase := rfl
@[simp] theorem emit_objs (s : State) (m : Out) : (s.emit m).objs = s.objs := rfl
@[simp] theorem emit_blobs (s : State) (m : Out) : (s.emit m).blobs = s.blobs := rfl
@[simp] theorem emit_hp (s : State) (m : Out) : (s.emit m).hp = s.hp := rfl
@[simp] theorem emit_mc (s : State) (m : Out) : (s.emit m).mc = s.mc := rfl
@[simp] theorem emit_dir (s : State) (m : Out) : (s.emit m).dir = s.dir := rfl
@[simp] theorem emit_hc (s : State) (m : Out) : (s.emit m).hc = s.hc := rfl
@[simp] theorem emit_wharf (s : State) (m : Out) : (s.emit m).wharf = s.wharf := rfl
@[simp] theorem emit_media (s : State) (m : Out) : (s.emit m).media = s.media := rfl
@[simp] theorem emit_ml (s : State) (m : Out) : (s.emit m).ml = s.ml := rfl
@[simp] theorem emit_ag (s : State) (m : Out) : (s.emit m).ag = s.ag := rfl
@[simp] theorem emit_dp (s : State) (m : Out) : (s.emit m).dp = s.dp := rfl
@[simp] theorem emit_pw (s : State) (m : Out) : (s.emit m).pw = s.pw := rfl
@[simp] theorem emit_cs (s : State) (m : Out) : (s.emit m).cs = s.cs := rfl
@[simp] theorem emit_th (s : State) (m : Out) : (s.emit m).th = s.th := rfl
@[simp] theorem emit_pins (s : State) (m : Out) : (s.emit m).pins = s.pins := rfl
@[simp] theorem emit_kdp (s : State) (m : Out) : (s.emit m).kdp = s.kdp.sent (outFrames s m).1 (outFrames s m).2 := rfl
@[simp] theorem emit_hm (s : State) (m : Out) : (s.emit m).hm = s.hm := rfl
@[simp] theorem emit_recorder (s : State) (m : Out) : (s.emit m).recorder = s.recorder := rfl
@[simp] theorem emit_pc (s : State) (m : Out) : (s.emit m).pc = s.pc := rfl
@[simp] theorem emit_ts (s : State) (m : Out) : (s.emit m).ts = s.ts := rfl

/-! frameIn -/

@[simp] theorem frameIn_variant (s : State) (p : Nat) : (s.frameIn p).variant = s.variant := rfl
@[simp] theorem frameIn_pending (s : State) (p : Nat) : (s.frameIn p).pending = s.pending := rfl
@[simp] theorem frameIn_now (s : State) (p : Nat) : (s.frameIn p).now = s.now := rfl
@[simp] theorem frameIn_free (s : State) (p : Nat) : (s.frameIn p).free = s.free := rfl
@[simp] theorem frameIn_out (s : State) (p : Nat) : (s.frameIn p).out = s.out := rfl
@[simp] theorem frameIn_phase (s : State) (p : Nat) : (s.frameIn p).phase = s.phase := rfl
@[simp] theorem frameIn_objs (s : State) (p : Nat) : (s.frameIn p).objs = s.objs := rfl
@[simp] theorem frameIn_blobs (s : State) (p : Nat) : (s.frameIn p).blobs = s.blobs := rfl
@[simp] theorem frameIn_hp (s : State) (p : Nat) : (s.frameIn p).hp = s.hp := rfl
@[simp] theorem frameIn_mc (s : State) (p : Nat) : (s.frameIn p).mc = s.mc := rfl
@[simp] theorem frameIn_dir (s : State) (p : Nat) : (s.frameIn p).dir = s.dir := rfl
@[simp] theorem frameIn_hc (s : State) (p : Nat) : (s.frameIn p).hc = s.hc := rfl
@[simp] theorem frameIn_wharf (s : State) (p : Nat) : (s.frameIn p).wharf = s.wharf := rfl
@[simp] theorem frameIn_media (s : State) (p : Nat) : (s.frameIn p).media = s.media := rfl
@[simp] theorem frameIn_ml (s : State) (p : Nat) : (s.frameIn p).ml = s.ml := rfl
@[simp] theorem frameIn_ag (s : State) (p : Nat) : (s.frameIn p).ag = s.ag := rfl
@[simp] theorem frameIn_dp (s : State) (p : Nat) : (s.frameIn p).dp = s.dp := rfl
@[simp] theorem frameIn_pw (s : State) (p : Nat) : (s.frameIn p).pw = s.pw := rfl
@[simp] theorem frameIn_cs (s : State) (p : Nat) : (s.frameIn p).cs = s.cs := rfl
@[simp] theorem frameIn_th (s : State) (p : Nat) : (s.frameIn p).th = s.th := rfl
@[simp] theorem frameIn_pins (s : State) (p : Nat) : (s.frameIn p).pins = s.pins := rfl
@[simp] theorem frameIn_kdp (s : State) (p : Nat) : (s.frameIn p).kdp = s.kdp.received p := rfl
@[simp] theorem frameIn_hm (s : State) (p : Nat) : (s.frameIn p).hm = s.hm := rfl
@[simp] theorem frameIn_recorder (s : State) (p : Nat) : (s.frameIn p).recorder = s.recorder := rfl
@[simp] theorem frameIn_pc (s : State) (p : Nat) : (s.frameIn p).pc = s.pc := rfl
@[simp] theorem frameIn_ts (s : State) (p : Nat) : (s.frameIn p).ts = s.ts := rfl

/-! putPort -/

@[simp] theorem putPort_variant (s : State) (n : Nat) (p : HostPort) : (putPort s n p).variant = s.variant := rfl
@[simp] theorem putPort_pending (s : State) (n : Nat) (p : HostPort) : (putPort s n p).pending = s.pending := rfl
@[simp] theorem putPort_now (s : State) (n : Nat) (p : HostPort) : (putPort s n p).now = s.now := rfl
@[simp] theorem putPort_free (s : State) (n : Nat) (p : HostPort) : (putPort s n p).free = s.free := rfl
@[simp] theorem putPort_out (s : State) (n : Nat) (p : HostPort) : (putPort s n p).out = s.out := rfl
@[simp] theorem putPort_phase (s : State) (n : Nat) (p : HostPort) : (putPort s n p).phase = s.phase := rfl
@[simp] theorem putPort_objs (s : State) (n : Nat) (p : HostPort) : (putPort s n p).objs = s.objs := rfl
@[simp] theorem putPort_blobs (s : State) (n : Nat) (p : HostPort) : (putPort s n p).blobs = s.blobs := rfl
@[simp] theorem putPort_hp (s : State) (n : Nat) (p : HostPort) : (putPort s n p).hp = { s.hp with ports := AMap.set s.hp.ports n p } := rfl
@[simp] theorem putPort_mc (s : State) (n : Nat) (p : HostPort) : (putPort s n p).mc = s.mc := rfl
@[simp] theorem putPort_dir (s : State) (n : Nat) (p : HostPort) : (putPort s n p).dir = s.dir := rfl
@[simp] theorem putPort_hc (s : State) (n : Nat) (p : HostPort) : (putPort s n p).hc = s.hc := rfl
@[simp] theorem putPort_wharf (s : State) (n : Nat) (p : HostPort) : (putPort s n p).wharf = s.wharf := rfl
@[simp] theorem putPort_media (s : State) (n : Nat) (p : HostPort) : (putPort s n p).media = s.media := rfl
@[simp] theorem putPort_ml (s : State) (n : Nat) (p : HostPort) : (putPort s n p).ml = s.ml := rfl
@[simp] theorem putPort_ag (s : State) (n : Nat) (p : HostPort) : (putPort s n p).ag = s.ag := rfl
@[simp] theorem putPort_dp (s : State) (n : Nat) (p : HostPort) : (putPort s n p).dp = s.dp := rfl
@[simp] theorem putPort_pw (s : State) (n : Nat) (p : HostPort) : (putPort s n p).pw = s.pw := rfl
@[simp] theorem putPort_cs (s : State) (n : Nat) (p : HostPort) : (putPort s n p).cs = s.cs := rfl
@[simp] theorem putPort_th (s : State) (n : Nat) (p : HostPort) : (putPort s n p).th = s.th := rfl
@[simp] theorem putPort_pins (s : State) (n : Nat) (p : HostPort) : (putPort s n p).pins = s.pins := rfl
@[simp] theorem putPort_kdp (s : State) (n : Nat) (p : HostPort) : (putPort s n p).kdp = s.kdp := rfl
@[simp] theorem putPort_hm (s : State) (n : Nat) (p : HostPort) : (putPort s n p).hm = s.hm := rfl
@[simp] theorem putPort_recorder (s : State) (n : Nat) (p : HostPort) : (putPort s n p).recorder = s.recorder := rfl
@[simp] theorem putPort_pc (s : State) (n : Nat) (p : HostPort) : (putPort s n p).pc = s.pc := rfl
@[simp] theorem putPort_ts (s : State) (n : Nat) (p : HostPort) : (putPort s n p).ts = s.ts := rfl

/-! updAgent -/

@[simp] theorem updAgent_variant (s : State) (port src : Nat) (f : Agent → Agent) : (updAgent s port src f).variant = s.variant := rfl
@[simp] theorem updAgent_pending (s : State) (port src : Nat) (f : Agent → Agent) : (updAgent s port src f).pending = s.pending := rfl
@[simp] theorem updAgent_now (s : State) (port src : Nat) (f : Agent → Agent) : (updAgent s port src f).now = s.now := rfl
@[simp] theorem updAgent_free (s : State) (port src : Nat) (f : Agent → Agent) : (updAgent s port src f).free = s.free := rfl
@[simp] theorem updAgent_out (s : State) (port src : Nat) (f : Agent → Agent) : (updAgent s port src f).out = s.out := rfl
@[simp] theorem updAgent_phase (s : State) (port src : Nat) (f : Agent → Agent) : (updAgent s port src f).phase = s.phase := rfl
@[simp] theorem updAgent_objs (s : State) (port src : Nat) (f : Agent → Agent) : (updAgent s port src f).objs = s.objs := rfl
@[simp] theorem updAgent_blobs (s : State) (port src : Nat) (f : Agent → Agent) : (updAgent s port src f).blobs = s.blobs := rfl
@[simp] theorem updAgent_hp (s : State) (port src : Nat) (f : Agent → Agent) : (updAgent s port src f).hp = { s.hp with agents := s.hp.agents.map fun a => if a.port = port ∧ a.src = src then f a else a } := rfl
@[simp] theorem updAgent_mc (s : State) (port src : Nat) (f : Agent → Agent) : (updAgent s port src f).mc = s.mc := rfl
@[simp] theorem updAgent_dir (s : State) (port src : Nat) (f : Agent → Agent) : (updAgent s port src f).dir = s.dir := rfl
@[simp] theorem updAgent_hc (s : State) (port src : Nat) (f : Agent → Agent) : (updAgent s port src f).hc = s.hc := rfl
@[simp] theorem updAgent_wharf (s : State) (port src : Nat) (f : Agent → Agent) : (updAgent s port src f).wharf = s.wharf := rfl
@[simp] theorem updAgent_media (s : State) (port src : Nat) (f : Agent → Agent) : (updAgent s port src f).media = s.media := rfl
@[simp] theorem updAgent_ml (s : State) (port src : Nat) (f : Agent → Agent) : (updAgent s port src f).ml = s.ml := rfl
@[simp] theorem updAgent_ag (s : State) (port src : Nat) (f : Agent → Agent) : (updAgent s port src f).ag = s.ag := rfl
@[simp] theorem updAgent_dp (s : State) (port src : Nat) (f : Agent → Agent) : (updAgent s port src f).dp = s.dp := rfl
@[simp] theorem updAgent_pw (s : State) (port src : Nat) (f : Agent → Agent) : (updAgent s port src f).pw = s.pw := rfl
@[simp] theorem updAgent_cs (s : State) (port src : Nat) (f : Agent → Agent) : (updAgent s port src f).cs = s.cs := rfl
@[simp] theorem updAgent_th (s : State) (port src : Nat) (f : Agent → Agent) : (updAgent s port src f).th = s.th := rfl
@[simp] theorem updAgent_pins (s : State) (port src : Nat) (f : Agent → Agent) : (updAgent s port src f).pins = s.pins := rfl
@[simp] theorem updAgent_kdp (s : State) (port src : Nat) (f : Agent → Agent) : (updAgent s port src f).kdp = s.kdp := rfl
@[simp] theorem updAgent_hm (s : State) (port src : Nat) (f : Agent → Agent) : (updAgent s port src f).hm = s.hm := rfl
@[simp] theorem updAgent_recorder (s : State) (port src : Nat) (f : Agent → Agent) : (updAgent s port src f).recorder = s.recorder := rfl
@[simp] theorem updAgent_pc (s : State) (port src : Nat) (f : Agent → Agent) : (updAgent s port src f).pc = s.pc := rfl
@[simp] theorem updAgent_ts (s : State) (port src : Nat) (f : Agent → Agent) : (updAgent s port src f).ts = s.ts := rfl

/-! updDir -/

@[simp] theorem updDir_variant (s : State) (f : Directory → Directory) : (updDir s f).variant = s.variant := rfl
@[simp] theorem updDir_pending (s : State) (f : Directory → Directory) : (updDir s f).pending = s.pending := rfl
@[simp] theorem updDir_now (s : State) (f : Directory → Directory) : (updDir s f).now = s.now := rfl
@[simp] theorem updDir_free (s : State) (f : Directory → Directory) : (updDir s f).free = s.free := rfl
@[simp] theorem updDir_out (s : State) (f : Directory → Directory) : (updDir s f).out = s.out := rfl
@[simp] theorem updDir_phase (s : State) (f : Directory → Directory) : (updDir s f).phase = s.phase := rfl
@[simp] theorem updDir_objs (s : State) (f : Directory → Directory) : (updDir s f).objs = s.objs := rfl
@[simp] theorem updDir_blobs (s : State) (f : Directory → Directory) : (updDir s f).blobs = s.blobs := rfl
@[simp] theorem updDir_hp (s : State) (f : Directory → Directory) : (updDir s f).hp = s.hp := rfl
@[simp] theorem updDir_mc (s : State) (f : Directory → Directory) : (updDir s f).mc = s.mc := rfl
@[simp] theorem updDir_dir (s : State) (f : Directory → Directory) : (updDir s f).dir = f s.dir := rfl
@[simp] theorem updDir_hc (s : State) (f : Directory → Directory) : (updDir s f).hc = s.hc := rfl
@[simp] theorem updDir_wharf (s : State) (f : Directory → Directory) : (updDir s f).wharf = s.wharf := rfl
@[simp] theorem updDir_media (s : State) (f : Directory → Directory) : (updDir s f).media = s.media := rfl
@[simp] theorem updDir_ml (s : State) (f : Directory → Directory) : (updDir s f).ml = s.ml := rfl
@[simp] theorem updDir_ag (s : State) (f : Directory → Directory) : (updDir s f).ag = s.ag := rfl
@[simp] theorem updDir_dp (s : State) (f : Directory → Directory) : (updDir s f).dp = s.dp := rfl
@[simp] theorem updDir_pw (s : State) (f : Directory → Directory) : (updDir s f).pw = s.pw := rfl
@[simp] theorem updDir_cs (s : State) (f : Directory → Directory) : (updDir s f).cs = s.cs := rfl
@[simp] theorem updDir_th (s : State) (f : Directory → Directory) : (updDir s f).th = s.th := rfl
@[simp] theorem updDir_pins (s : State) (f : Directory → Directory) : (updDir s f).pins = s.pins := rfl
@[simp] theorem updDir_kdp (s : State) (f : Directory → Directory) : (updDir s f).kdp = s.kdp := rfl
@[simp] theorem updDir_hm (s : State) (f : Directory → Directory) : (updDir s f).hm = s.hm := rfl
@[simp] theorem updDir_recorder (s : State) (f : Directory → Directory) : (updDir s f).recorder = s.recorder := rfl
@[simp] theorem updDir_pc (s : State) (f : Directory → Directory) : (updDir s f).pc = s.pc := rfl
@[simp] theorem updDir_ts (s : State) (f : Directory → Directory) : (updDir s f).ts = s.ts := rfl

/-! updMirror -/

@[simp] theorem updMirror_variant (s : State) (f : Mirror → Mirror) : (updMirror s f).variant = s.variant := rfl
@[simp] theorem updMirror_pending (s : State) (f : Mirror → Mirror) : (updMirror s f).pending = s.pending := rfl
@[simp] theorem updMirror_now (s : State) (f : Mirror → Mirror) : (updMirror s f).now = s.now := rfl
@[simp] theorem updMirror_free (s : State) (f : Mirror → Mirror) : (updMirror s f).free = s.free := rfl
@[simp] theorem updMirror_out (s : State) (f : Mirror → Mirror) : (updMirror s f).out = s.out := rfl
@[simp] theorem updMirror_phase (s : State) (f : Mirror → Mirror) : (updMirror s f).phase = s.phase := rfl
@[simp] theorem updMirror_objs (s : State) (f : Mirror → Mirror) : (updMirror s f).objs = s.objs := rfl
@[simp] theorem updMirror_blobs (s : State) (f : Mirror → Mirror) : (updMirror s f).blobs = s.blobs := rfl
@[simp] theorem updMirror_hp (s : State) (f : Mirror → Mirror) : (updMirror s f).hp = s.hp := rfl
@[simp] theorem updMirror_mc (s : State) (f : Mirror → Mirror) : (updMirror s f).mc = s.mc := rfl
@[simp] theorem updMirror_dir (s : State) (f : Mirror → Mirror) : (updMirror s f).dir = s.dir := rfl
@[simp] theorem updMirror_hc (s : State) (f : Mirror → Mirror) : (updMirror s f).hc = { s.hc with mirror := f s.hc.mirror } := rfl
@[simp] theorem updMirror_wharf (s : State) (f : Mirror → Mirror) : (updMirror s f).wharf = s.wharf := rfl
@[simp] theorem updMirror_media (s : State) (f : Mirror → Mirror) : (updMirror s f).media = s.media := rfl
@[simp] theorem updMirror_ml (s : State) (f : Mirror → Mirror) : (updMirror s f).ml = s.ml := rfl
@[simp] theorem updMirror_ag (s : State) (f : Mirror → Mirror) : (updMirror s f).ag = s.ag := rfl
@[simp] theorem updMirror_dp (s : State) (f : Mirror → Mirror) : (updMirror s f).dp = s.dp := rfl
@[simp] theorem updMirror_pw (s : State) (f : Mirror → Mirror) : (updMirror s f).pw = s.pw := rfl
@[simp] theorem updMirror_cs (s : State) (f : Mirror → Mirror) : (updMirror s f).cs = s.cs := rfl
@[simp] theorem updMirror_th (s : State) (f : Mirror → Mirror) : (updMirror s f).th = s.th := rfl
@[simp] theorem updMirror_pins (s : State) (f : Mirror → Mirror) : (updMirror s f).pins = s.pins := rfl
@[simp] theorem updMirror_kdp (s : State) (f : Mirror → Mirror) : (updMirror s f).kdp = s.kdp := rfl
@[simp] theorem updMirror_hm (s : State) (f : Mirror → Mirror) : (updMirror s f).hm = s.hm := rfl
@[simp] theorem updMirror_recorder (s : State) (f : Mirror → Mirror) : (updMirror s f).recorder = s.recorder := rfl
@[simp] theorem updMirror_pc (s : State) (f : Mirror → Mirror) : (updMirror s f).pc = s.pc := rfl
@[simp] theorem updMirror_ts (s : State) (f : Mirror → Mirror) : (updMirror s f).ts = s.ts := rfl

/-! putBerth -/

@[simp] theorem putBerth_variant (s : State) (l : LineNo) (b : BerthLine) : (putBerth s l b).variant = s.variant := rfl
@[simp] theorem putBerth_pending (s : State) (l : LineNo) (b : BerthLine) : (putBerth s l b).pending = s.pending := rfl
@[simp] theorem putBerth_now (s : State) (l : LineNo) (b : BerthLine) : (putBerth s l b).now = s.now := rfl
@[simp] theorem putBerth_free (s : State) (l : LineNo) (b : BerthLine) : (putBerth s l b).free = s.free := rfl
@[simp] theorem putBerth_out (s : State) (l : LineNo) (b : BerthLine) : (putBerth s l b).out = s.out := rfl
@[simp] theorem putBerth_phase (s : State) (l : LineNo) (b : BerthLine) : (putBerth s l b).phase = s.phase := rfl
@[simp] theorem putBerth_objs (s : State) (l : LineNo) (b : BerthLine) : (putBerth s l b).objs = s.objs := rfl
@[simp] theorem putBerth_blobs (s : State) (l : LineNo) (b : BerthLine) : (putBerth s l b).blobs = s.blobs := rfl
@[simp] theorem putBerth_hp (s : State) (l : LineNo) (b : BerthLine) : (putBerth s l b).hp = s.hp := rfl
@[simp] theorem putBerth_mc (s : State) (l : LineNo) (b : BerthLine) : (putBerth s l b).mc = s.mc := rfl
@[simp] theorem putBerth_dir (s : State) (l : LineNo) (b : BerthLine) : (putBerth s l b).dir = s.dir := rfl
@[simp] theorem putBerth_hc (s : State) (l : LineNo) (b : BerthLine) : (putBerth s l b).hc = { s.hc with berth := if b = ({} : BerthLine) then AMap.del s.hc.berth l else AMap.set s.hc.berth l b } := rfl
@[simp] theorem putBerth_wharf (s : State) (l : LineNo) (b : BerthLine) : (putBerth s l b).wharf = s.wharf := rfl
@[simp] theorem putBerth_media (s : State) (l : LineNo) (b : BerthLine) : (putBerth s l b).media = s.media := rfl
@[simp] theorem putBerth_ml (s : State) (l : LineNo) (b : BerthLine) : (putBerth s l b).ml = s.ml := rfl
@[simp] theorem putBerth_ag (s : State) (l : LineNo) (b : BerthLine) : (putBerth s l b).ag = s.ag := rfl
@[simp] theorem putBerth_dp (s : State) (l : LineNo) (b : BerthLine) : (putBerth s l b).dp = s.dp := rfl
@[simp] theorem putBerth_pw (s : State) (l : LineNo) (b : BerthLine) : (putBerth s l b).pw = s.pw := rfl
@[simp] theorem putBerth_cs (s : State) (l : LineNo) (b : BerthLine) : (putBerth s l b).cs = s.cs := rfl
@[simp] theorem putBerth_th (s : State) (l : LineNo) (b : BerthLine) : (putBerth s l b).th = s.th := rfl
@[simp] theorem putBerth_pins (s : State) (l : LineNo) (b : BerthLine) : (putBerth s l b).pins = s.pins := rfl
@[simp] theorem putBerth_kdp (s : State) (l : LineNo) (b : BerthLine) : (putBerth s l b).kdp = s.kdp := rfl
@[simp] theorem putBerth_hm (s : State) (l : LineNo) (b : BerthLine) : (putBerth s l b).hm = s.hm := rfl
@[simp] theorem putBerth_recorder (s : State) (l : LineNo) (b : BerthLine) : (putBerth s l b).recorder = s.recorder := rfl
@[simp] theorem putBerth_pc (s : State) (l : LineNo) (b : BerthLine) : (putBerth s l b).pc = s.pc := rfl
@[simp] theorem putBerth_ts (s : State) (l : LineNo) (b : BerthLine) : (putBerth s l b).ts = s.ts := rfl

/-! setLighters -/

@[simp] theorem setLighters_variant (s : State) (ls : List Lighter) : (setLighters s ls).variant = s.variant := rfl
@[simp] theorem setLighters_pending (s : State) (ls : List Lighter) : (setLighters s ls).pending = s.pending := rfl
@[simp] theorem setLighters_now (s : State) (ls : List Lighter) : (setLighters s ls).now = s.now := rfl
@[simp] theorem setLighters_free (s : State) (ls : List Lighter) : (setLighters s ls).free = s.free := rfl
@[simp] theorem setLighters_out (s : State) (ls : List Lighter) : (setLighters s ls).out = s.out := rfl
@[simp] theorem setLighters_phase (s : State) (ls : List Lighter) : (setLighters s ls).phase = s.phase := rfl
@[simp] theorem setLighters_objs (s : State) (ls : List Lighter) : (setLighters s ls).objs = s.objs := rfl
@[simp] theorem setLighters_blobs (s : State) (ls : List Lighter) : (setLighters s ls).blobs = s.blobs := rfl
@[simp] theorem setLighters_hp (s : State) (ls : List Lighter) : (setLighters s ls).hp = s.hp := rfl
@[simp] theorem setLighters_mc (s : State) (ls : List Lighter) : (setLighters s ls).mc = s.mc := rfl
@[simp] theorem setLighters_dir (s : State) (ls : List Lighter) : (setLighters s ls).dir = s.dir := rfl
@[simp] theorem setLighters_hc (s : State) (ls : List Lighter) : (setLighters s ls).hc = s.hc := rfl
@[simp] theorem setLighters_wharf (s : State) (ls : List Lighter) : (setLighters s ls).wharf = { s.wharf with lighters := ls } := rfl
@[simp] theorem setLighters_media (s : State) (ls : List Lighter) : (setLighters s ls).media = s.media := rfl
@[simp] theorem setLighters_ml (s : State) (ls : List Lighter) : (setLighters s ls).ml = s.ml := rfl
@[simp] theorem setLighters_ag (s : State) (ls : List Lighter) : (setLighters s ls).ag = s.ag := rfl
@[simp] theorem setLighters_dp (s : State) (ls : List Lighter) : (setLighters s ls).dp = s.dp := rfl
@[simp] theorem setLighters_pw (s : State) (ls : List Lighter) : (setLighters s ls).pw = s.pw := rfl
@[simp] theorem setLighters_cs (s : State) (ls : List Lighter) : (setLighters s ls).cs = s.cs := rfl
@[simp] theorem setLighters_th (s : State) (ls : List Lighter) : (setLighters s ls).th = s.th := rfl
@[simp] theorem setLighters_pins (s : State) (ls : List Lighter) : (setLighters s ls).pins = s.pins := rfl
@[simp] theorem setLighters_kdp (s : State) (ls : List Lighter) : (setLighters s ls).kdp = s.kdp := rfl
@[simp] theorem setLighters_hm (s : State) (ls : List Lighter) : (setLighters s ls).hm = s.hm := rfl
@[simp] theorem setLighters_recorder (s : State) (ls : List Lighter) : (setLighters s ls).recorder = s.recorder := rfl
@[simp] theorem setLighters_pc (s : State) (ls : List Lighter) : (setLighters s ls).pc = s.pc := rfl
@[simp] theorem setLighters_ts (s : State) (ls : List Lighter) : (setLighters s ls).ts = s.ts := rfl

/-! putSet -/

@[simp] theorem putSet_variant (s : State) (k : Nat) (r : SetRec) : (putSet s k r).variant = s.variant := rfl
@[simp] theorem putSet_pending (s : State) (k : Nat) (r : SetRec) : (putSet s k r).pending = s.pending := rfl
@[simp] theorem putSet_now (s : State) (k : Nat) (r : SetRec) : (putSet s k r).now = s.now := rfl
@[simp] theorem putSet_free (s : State) (k : Nat) (r : SetRec) : (putSet s k r).free = s.free := rfl
@[simp] theorem putSet_out (s : State) (k : Nat) (r : SetRec) : (putSet s k r).out = s.out := rfl
@[simp] theorem putSet_phase (s : State) (k : Nat) (r : SetRec) : (putSet s k r).phase = s.phase := rfl
@[simp] theorem putSet_objs (s : State) (k : Nat) (r : SetRec) : (putSet s k r).objs = s.objs := rfl
@[simp] theorem putSet_blobs (s : State) (k : Nat) (r : SetRec) : (putSet s k r).blobs = s.blobs := rfl
@[simp] theorem putSet_hp (s : State) (k : Nat) (r : SetRec) : (putSet s k r).hp = s.hp := rfl
@[simp] theorem putSet_mc (s : State) (k : Nat) (r : SetRec) : (putSet s k r).mc = s.mc := rfl
@[simp] theorem putSet_dir (s : State) (k : Nat) (r : SetRec) : (putSet s k r).dir = s.dir := rfl
@[simp] theorem putSet_hc (s : State) (k : Nat) (r : SetRec) : (putSet s k r).hc = s.hc := rfl
@[simp] theorem putSet_wharf (s : State) (k : Nat) (r : SetRec) : (putSet s k r).wharf = s.wharf := rfl
@[simp] theorem putSet_media (s : State) (k : Nat) (r : SetRec) : (putSet s k r).media = { s.media with sets := AMap.set s.media.sets k r } := rfl
@[simp] theorem putSet_ml (s : State) (k : Nat) (r : SetRec) : (putSet s k r).ml = s.ml := rfl
@[simp] theorem putSet_ag (s : State) (k : Nat) (r : SetRec) : (putSet s k r).ag = s.ag := rfl
@[simp] theorem putSet_dp (s : State) (k : Nat) (r : SetRec) : (putSet s k r).dp = s.dp := rfl
@[simp] theorem putSet_pw (s : State) (k : Nat) (r : SetRec) : (putSet s k r).pw = s.pw := rfl
@[simp] theorem putSet_cs (s : State) (k : Nat) (r : SetRec) : (putSet s k r).cs = s.cs := rfl
@[simp] theorem putSet_th (s : State) (k : Nat) (r : SetRec) : (putSet s k r).th = s.th := rfl
@[simp] theorem putSet_pins (s : State) (k : Nat) (r : SetRec) : (putSet s k r).pins = s.pins := rfl
@[simp] theorem putSet_kdp (s : State) (k : Nat) (r : SetRec) : (putSet s k r).kdp = s.kdp := rfl
@[simp] theorem putSet_hm (s : State) (k : Nat) (r : SetRec) : (putSet s k r).hm = s.hm := rfl
@[simp] theorem putSet_recorder (s : State) (k : Nat) (r : SetRec) : (putSet s k r).recorder = s.recorder := rfl
@[simp] theorem putSet_pc (s : State) (k : Nat) (r : SetRec) : (putSet s k r).pc = s.pc := rfl
@[simp] theorem putSet_ts (s : State) (k : Nat) (r : SetRec) : (putSet s k r).ts = s.ts := rfl

/-! putStripe -/

@[simp] theorem putStripe_variant (s : State) (k : Nat) (r : StripeRec) : (putStripe s k r).variant = s.variant := rfl
@[simp] theorem putStripe_pending (s : State) (k : Nat) (r : StripeRec) : (putStripe s k r).pending = s.pending := rfl
@[simp] theorem putStripe_now (s : State) (k : Nat) (r : StripeRec) : (putStripe s k r).now = s.now := rfl
@[simp] theorem putStripe_free (s : State) (k : Nat) (r : StripeRec) : (putStripe s k r).free = s.free := rfl
@[simp] theorem putStripe_out (s : State) (k : Nat) (r : StripeRec) : (putStripe s k r).out = s.out := rfl
@[simp] theorem putStripe_phase (s : State) (k : Nat) (r : StripeRec) : (putStripe s k r).phase = s.phase := rfl
@[simp] theorem putStripe_objs (s : State) (k : Nat) (r : StripeRec) : (putStripe s k r).objs = s.objs := rfl
@[simp] theorem putStripe_blobs (s : State) (k : Nat) (r : StripeRec) : (putStripe s k r).blobs = s.blobs := rfl
@[simp] theorem putStripe_hp (s : State) (k : Nat) (r : StripeRec) : (putStripe s k r).hp = s.hp := rfl
@[simp] theorem putStripe_mc (s : State) (k : Nat) (r : StripeRec) : (putStripe s k r).mc = s.mc := rfl
@[simp] theorem putStripe_dir (s : State) (k : Nat) (r : StripeRec) : (putStripe s k r).dir = s.dir := rfl
@[simp] theorem putStripe_hc (s : State) (k : Nat) (r : StripeRec) : (putStripe s k r).hc = s.hc := rfl
@[simp] theorem putStripe_wharf (s : State) (k : Nat) (r : StripeRec) : (putStripe s k r).wharf = s.wharf := rfl
@[simp] theorem putStripe_media (s : State) (k : Nat) (r : StripeRec) : (putStripe s k r).media = { s.media with stripes := AMap.set s.media.stripes k r } := rfl
@[simp] theorem putStripe_ml (s : State) (k : Nat) (r : StripeRec) : (putStripe s k r).ml = s.ml := rfl
@[simp] theorem putStripe_ag (s : State) (k : Nat) (r : StripeRec) : (putStripe s k r).ag = s.ag := rfl
@[simp] theorem putStripe_dp (s : State) (k : Nat) (r : StripeRec) : (putStripe s k r).dp = s.dp := rfl
@[simp] theorem putStripe_pw (s : State) (k : Nat) (r : StripeRec) : (putStripe s k r).pw = s.pw := rfl
@[simp] theorem putStripe_cs (s : State) (k : Nat) (r : StripeRec) : (putStripe s k r).cs = s.cs := rfl
@[simp] theorem putStripe_th (s : State) (k : Nat) (r : StripeRec) : (putStripe s k r).th = s.th := rfl
@[simp] theorem putStripe_pins (s : State) (k : Nat) (r : StripeRec) : (putStripe s k r).pins = s.pins := rfl
@[simp] theorem putStripe_kdp (s : State) (k : Nat) (r : StripeRec) : (putStripe s k r).kdp = s.kdp := rfl
@[simp] theorem putStripe_hm (s : State) (k : Nat) (r : StripeRec) : (putStripe s k r).hm = s.hm := rfl
@[simp] theorem putStripe_recorder (s : State) (k : Nat) (r : StripeRec) : (putStripe s k r).recorder = s.recorder := rfl
@[simp] theorem putStripe_pc (s : State) (k : Nat) (r : StripeRec) : (putStripe s k r).pc = s.pc := rfl
@[simp] theorem putStripe_ts (s : State) (k : Nat) (r : StripeRec) : (putStripe s k r).ts = s.ts := rfl

/-! putRead -/

@[simp] theorem putRead_variant (s : State) (r : MediaRead) : (putRead s r).variant = s.variant := rfl
@[simp] theorem putRead_pending (s : State) (r : MediaRead) : (putRead s r).pending = s.pending := rfl
@[simp] theorem putRead_now (s : State) (r : MediaRead) : (putRead s r).now = s.now := rfl
@[simp] theorem putRead_free (s : State) (r : MediaRead) : (putRead s r).free = s.free := rfl
@[simp] theorem putRead_out (s : State) (r : MediaRead) : (putRead s r).out = s.out := rfl
@[simp] theorem putRead_phase (s : State) (r : MediaRead) : (putRead s r).phase = s.phase := rfl
@[simp] theorem putRead_objs (s : State) (r : MediaRead) : (putRead s r).objs = s.objs := rfl
@[simp] theorem putRead_blobs (s : State) (r : MediaRead) : (putRead s r).blobs = s.blobs := rfl
@[simp] theorem putRead_hp (s : State) (r : MediaRead) : (putRead s r).hp = s.hp := rfl
@[simp] theorem putRead_mc (s : State) (r : MediaRead) : (putRead s r).mc = s.mc := rfl
@[simp] theorem putRead_dir (s : State) (r : MediaRead) : (putRead s r).dir = s.dir := rfl
@[simp] theorem putRead_hc (s : State) (r : MediaRead) : (putRead s r).hc = s.hc := rfl
@[simp] theorem putRead_wharf (s : State) (r : MediaRead) : (putRead s r).wharf = s.wharf := rfl
@[simp] theorem putRead_media (s : State) (r : MediaRead) : (putRead s r).media = s.media := rfl
@[simp] theorem putRead_ml (s : State) (r : MediaRead) : (putRead s r).ml = { s.ml with reads := s.ml.reads.map fun q => if q.id = r.id then r else q } := rfl
@[simp] theorem putRead_ag (s : State) (r : MediaRead) : (putRead s r).ag = s.ag := rfl
@[simp] theorem putRead_dp (s : State) (r : MediaRead) : (putRead s r).dp = s.dp := rfl
@[simp] theorem putRead_pw (s : State) (r : MediaRead) : (putRead s r).pw = s.pw := rfl
@[simp] theorem putRead_cs (s : State) (r : MediaRead) : (putRead s r).cs = s.cs := rfl
@[simp] theorem putRead_th (s : State) (r : MediaRead) : (putRead s r).th = s.th := rfl
@[simp] theorem putRead_pins (s : State) (r : MediaRead) : (putRead s r).pins = s.pins := rfl
@[simp] theorem putRead_kdp (s : State) (r : MediaRead) : (putRead s r).kdp = s.kdp := rfl
@[simp] theorem putRead_hm (s : State) (r : MediaRead) : (putRead s r).hm = s.hm := rfl
@[simp] theorem putRead_recorder (s : State) (r : MediaRead) : (putRead s r).recorder = s.recorder := rfl
@[simp] theorem putRead_pc (s : State) (r : MediaRead) : (putRead s r).pc = s.pc := rfl
@[simp] theorem putRead_ts (s : State) (r : MediaRead) : (putRead s r).ts = s.ts := rfl

/-! putDom -/

@[simp] theorem putDom_variant (s : State) (r : Nat) (d : KeyDom) : (putDom s r d).variant = s.variant := rfl
@[simp] theorem putDom_pending (s : State) (r : Nat) (d : KeyDom) : (putDom s r d).pending = s.pending := rfl
@[simp] theorem putDom_now (s : State) (r : Nat) (d : KeyDom) : (putDom s r d).now = s.now := rfl
@[simp] theorem putDom_free (s : State) (r : Nat) (d : KeyDom) : (putDom s r d).free = s.free := rfl
@[simp] theorem putDom_out (s : State) (r : Nat) (d : KeyDom) : (putDom s r d).out = s.out := rfl
@[simp] theorem putDom_phase (s : State) (r : Nat) (d : KeyDom) : (putDom s r d).phase = s.phase := rfl
@[simp] theorem putDom_objs (s : State) (r : Nat) (d : KeyDom) : (putDom s r d).objs = s.objs := rfl
@[simp] theorem putDom_blobs (s : State) (r : Nat) (d : KeyDom) : (putDom s r d).blobs = s.blobs := rfl
@[simp] theorem putDom_hp (s : State) (r : Nat) (d : KeyDom) : (putDom s r d).hp = s.hp := rfl
@[simp] theorem putDom_mc (s : State) (r : Nat) (d : KeyDom) : (putDom s r d).mc = s.mc := rfl
@[simp] theorem putDom_dir (s : State) (r : Nat) (d : KeyDom) : (putDom s r d).dir = s.dir := rfl
@[simp] theorem putDom_hc (s : State) (r : Nat) (d : KeyDom) : (putDom s r d).hc = s.hc := rfl
@[simp] theorem putDom_wharf (s : State) (r : Nat) (d : KeyDom) : (putDom s r d).wharf = s.wharf := rfl
@[simp] theorem putDom_media (s : State) (r : Nat) (d : KeyDom) : (putDom s r d).media = s.media := rfl
@[simp] theorem putDom_ml (s : State) (r : Nat) (d : KeyDom) : (putDom s r d).ml = s.ml := rfl
@[simp] theorem putDom_ag (s : State) (r : Nat) (d : KeyDom) : (putDom s r d).ag = s.ag := rfl
@[simp] theorem putDom_dp (s : State) (r : Nat) (d : KeyDom) : (putDom s r d).dp = { s.dp with doms := AMap.set s.dp.doms r d } := rfl
@[simp] theorem putDom_pw (s : State) (r : Nat) (d : KeyDom) : (putDom s r d).pw = s.pw := rfl
@[simp] theorem putDom_cs (s : State) (r : Nat) (d : KeyDom) : (putDom s r d).cs = s.cs := rfl
@[simp] theorem putDom_th (s : State) (r : Nat) (d : KeyDom) : (putDom s r d).th = s.th := rfl
@[simp] theorem putDom_pins (s : State) (r : Nat) (d : KeyDom) : (putDom s r d).pins = s.pins := rfl
@[simp] theorem putDom_kdp (s : State) (r : Nat) (d : KeyDom) : (putDom s r d).kdp = s.kdp := rfl
@[simp] theorem putDom_hm (s : State) (r : Nat) (d : KeyDom) : (putDom s r d).hm = s.hm := rfl
@[simp] theorem putDom_recorder (s : State) (r : Nat) (d : KeyDom) : (putDom s r d).recorder = s.recorder := rfl
@[simp] theorem putDom_pc (s : State) (r : Nat) (d : KeyDom) : (putDom s r d).pc = s.pc := rfl
@[simp] theorem putDom_ts (s : State) (r : Nat) (d : KeyDom) : (putDom s r d).ts = s.ts := rfl

/-! putPart -/

@[simp] theorem putPart_variant (s : State) (u : Nat) (p : Part) : (putPart s u p).variant = s.variant := rfl
@[simp] theorem putPart_pending (s : State) (u : Nat) (p : Part) : (putPart s u p).pending = s.pending := rfl
@[simp] theorem putPart_now (s : State) (u : Nat) (p : Part) : (putPart s u p).now = s.now := rfl
@[simp] theorem putPart_free (s : State) (u : Nat) (p : Part) : (putPart s u p).free = s.free := rfl
@[simp] theorem putPart_out (s : State) (u : Nat) (p : Part) : (putPart s u p).out = s.out := rfl
@[simp] theorem putPart_phase (s : State) (u : Nat) (p : Part) : (putPart s u p).phase = s.phase := rfl
@[simp] theorem putPart_objs (s : State) (u : Nat) (p : Part) : (putPart s u p).objs = s.objs := rfl
@[simp] theorem putPart_blobs (s : State) (u : Nat) (p : Part) : (putPart s u p).blobs = s.blobs := rfl
@[simp] theorem putPart_hp (s : State) (u : Nat) (p : Part) : (putPart s u p).hp = s.hp := rfl
@[simp] theorem putPart_mc (s : State) (u : Nat) (p : Part) : (putPart s u p).mc = s.mc := rfl
@[simp] theorem putPart_dir (s : State) (u : Nat) (p : Part) : (putPart s u p).dir = s.dir := rfl
@[simp] theorem putPart_hc (s : State) (u : Nat) (p : Part) : (putPart s u p).hc = s.hc := rfl
@[simp] theorem putPart_wharf (s : State) (u : Nat) (p : Part) : (putPart s u p).wharf = s.wharf := rfl
@[simp] theorem putPart_media (s : State) (u : Nat) (p : Part) : (putPart s u p).media = s.media := rfl
@[simp] theorem putPart_ml (s : State) (u : Nat) (p : Part) : (putPart s u p).ml = s.ml := rfl
@[simp] theorem putPart_ag (s : State) (u : Nat) (p : Part) : (putPart s u p).ag = s.ag := rfl
@[simp] theorem putPart_dp (s : State) (u : Nat) (p : Part) : (putPart s u p).dp = s.dp := rfl
@[simp] theorem putPart_pw (s : State) (u : Nat) (p : Part) : (putPart s u p).pw = s.pw := rfl
@[simp] theorem putPart_cs (s : State) (u : Nat) (p : Part) : (putPart s u p).cs = s.cs := rfl
@[simp] theorem putPart_th (s : State) (u : Nat) (p : Part) : (putPart s u p).th = { s.th with parts := AMap.set s.th.parts u p } := rfl
@[simp] theorem putPart_pins (s : State) (u : Nat) (p : Part) : (putPart s u p).pins = s.pins := rfl
@[simp] theorem putPart_kdp (s : State) (u : Nat) (p : Part) : (putPart s u p).kdp = s.kdp := rfl
@[simp] theorem putPart_hm (s : State) (u : Nat) (p : Part) : (putPart s u p).hm = s.hm := rfl
@[simp] theorem putPart_recorder (s : State) (u : Nat) (p : Part) : (putPart s u p).recorder = s.recorder := rfl
@[simp] theorem putPart_pc (s : State) (u : Nat) (p : Part) : (putPart s u p).pc = s.pc := rfl
@[simp] theorem putPart_ts (s : State) (u : Nat) (p : Part) : (putPart s u p).ts = s.ts := rfl

/-! putLoop -/

@[simp] theorem putLoop_variant (s : State) (u : Nat) (l : Loopback) : (putLoop s u l).variant = s.variant := rfl
@[simp] theorem putLoop_pending (s : State) (u : Nat) (l : Loopback) : (putLoop s u l).pending = s.pending := rfl
@[simp] theorem putLoop_now (s : State) (u : Nat) (l : Loopback) : (putLoop s u l).now = s.now := rfl
@[simp] theorem putLoop_free (s : State) (u : Nat) (l : Loopback) : (putLoop s u l).free = s.free := rfl
@[simp] theorem putLoop_out (s : State) (u : Nat) (l : Loopback) : (putLoop s u l).out = s.out := rfl
@[simp] theorem putLoop_phase (s : State) (u : Nat) (l : Loopback) : (putLoop s u l).phase = s.phase := rfl
@[simp] theorem putLoop_objs (s : State) (u : Nat) (l : Loopback) : (putLoop s u l).objs = s.objs := rfl
@[simp] theorem putLoop_blobs (s : State) (u : Nat) (l : Loopback) : (putLoop s u l).blobs = s.blobs := rfl
@[simp] theorem putLoop_hp (s : State) (u : Nat) (l : Loopback) : (putLoop s u l).hp = s.hp := rfl
@[simp] theorem putLoop_mc (s : State) (u : Nat) (l : Loopback) : (putLoop s u l).mc = s.mc := rfl
@[simp] theorem putLoop_dir (s : State) (u : Nat) (l : Loopback) : (putLoop s u l).dir = s.dir := rfl
@[simp] theorem putLoop_hc (s : State) (u : Nat) (l : Loopback) : (putLoop s u l).hc = s.hc := rfl
@[simp] theorem putLoop_wharf (s : State) (u : Nat) (l : Loopback) : (putLoop s u l).wharf = s.wharf := rfl
@[simp] theorem putLoop_media (s : State) (u : Nat) (l : Loopback) : (putLoop s u l).media = s.media := rfl
@[simp] theorem putLoop_ml (s : State) (u : Nat) (l : Loopback) : (putLoop s u l).ml = s.ml := rfl
@[simp] theorem putLoop_ag (s : State) (u : Nat) (l : Loopback) : (putLoop s u l).ag = s.ag := rfl
@[simp] theorem putLoop_dp (s : State) (u : Nat) (l : Loopback) : (putLoop s u l).dp = s.dp := rfl
@[simp] theorem putLoop_pw (s : State) (u : Nat) (l : Loopback) : (putLoop s u l).pw = s.pw := rfl
@[simp] theorem putLoop_cs (s : State) (u : Nat) (l : Loopback) : (putLoop s u l).cs = s.cs := rfl
@[simp] theorem putLoop_th (s : State) (u : Nat) (l : Loopback) : (putLoop s u l).th = s.th := rfl
@[simp] theorem putLoop_pins (s : State) (u : Nat) (l : Loopback) : (putLoop s u l).pins = s.pins := rfl
@[simp] theorem putLoop_kdp (s : State) (u : Nat) (l : Loopback) : (putLoop s u l).kdp = s.kdp := rfl
@[simp] theorem putLoop_hm (s : State) (u : Nat) (l : Loopback) : (putLoop s u l).hm = s.hm := rfl
@[simp] theorem putLoop_recorder (s : State) (u : Nat) (l : Loopback) : (putLoop s u l).recorder = s.recorder := rfl
@[simp] theorem putLoop_pc (s : State) (u : Nat) (l : Loopback) : (putLoop s u l).pc = s.pc := rfl
@[simp] theorem putLoop_ts (s : State) (u : Nat) (l : Loopback) : (putLoop s u l).ts = { s.ts with loops := AMap.set s.ts.loops u l } := rfl

/-! updSession -/

@[simp] theorem updSession_variant (s : State) (sid : Nat) (f : Session → Session) : (updSession s sid f).variant = s.variant := rfl
@[simp] theorem updSession_pending (s : State) (sid : Nat) (f : Session → Session) : (updSession s sid f).pending = s.pending := rfl
@[simp] theorem updSession_now (s : State) (sid : Nat) (f : Session → Session) : (updSession s sid f).now = s.now := rfl
@[simp] theorem updSession_free (s : State) (sid : Nat) (f : Session → Session) : (updSession s sid f).free = s.free := rfl
@[simp] theorem updSession_out (s : State) (sid : Nat) (f : Session → Session) : (updSession s sid f).out = s.out := rfl
@[simp] theorem updSession_phase (s : State) (sid : Nat) (f : Session → Session) : (updSession s sid f).phase = s.phase := rfl
@[simp] theorem updSession_objs (s : State) (sid : Nat) (f : Session → Session) : (updSession s sid f).objs = s.objs := rfl
@[simp] theorem updSession_blobs (s : State) (sid : Nat) (f : Session → Session) : (updSession s sid f).blobs = s.blobs := rfl
@[simp] theorem updSession_hp (s : State) (sid : Nat) (f : Session → Session) : (updSession s sid f).hp = s.hp := rfl
@[simp] theorem updSession_mc (s : State) (sid : Nat) (f : Session → Session) : (updSession s sid f).mc = s.mc := rfl
@[simp] theorem updSession_dir (s : State) (sid : Nat) (f : Session → Session) : (updSession s sid f).dir = s.dir := rfl
@[simp] theorem updSession_hc (s : State) (sid : Nat) (f : Session → Session) : (updSession s sid f).hc = s.hc := rfl
@[simp] theorem updSession_wharf (s : State) (sid : Nat) (f : Session → Session) : (updSession s sid f).wharf = s.wharf := rfl
@[simp] theorem updSession_media (s : State) (sid : Nat) (f : Session → Session) : (updSession s sid f).media = s.media := rfl
@[simp] theorem updSession_ml (s : State) (sid : Nat) (f : Session → Session) : (updSession s sid f).ml = s.ml := rfl
@[simp] theorem updSession_ag (s : State) (sid : Nat) (f : Session → Session) : (updSession s sid f).ag = s.ag := rfl
@[simp] theorem updSession_dp (s : State) (sid : Nat) (f : Session → Session) : (updSession s sid f).dp = s.dp := rfl
@[simp] theorem updSession_pw (s : State) (sid : Nat) (f : Session → Session) : (updSession s sid f).pw = s.pw := rfl
@[simp] theorem updSession_cs (s : State) (sid : Nat) (f : Session → Session) : (updSession s sid f).cs = s.cs := rfl
@[simp] theorem updSession_th (s : State) (sid : Nat) (f : Session → Session) : (updSession s sid f).th = s.th := rfl
@[simp] theorem updSession_pins (s : State) (sid : Nat) (f : Session → Session) : (updSession s sid f).pins = s.pins := rfl
@[simp] theorem updSession_kdp (s : State) (sid : Nat) (f : Session → Session) : (updSession s sid f).kdp = { s.kdp with sessions := s.kdp.sessions.map fun x => if x.id = sid then f x else x } := rfl
@[simp] theorem updSession_hm (s : State) (sid : Nat) (f : Session → Session) : (updSession s sid f).hm = s.hm := rfl
@[simp] theorem updSession_recorder (s : State) (sid : Nat) (f : Session → Session) : (updSession s sid f).recorder = s.recorder := rfl
@[simp] theorem updSession_pc (s : State) (sid : Nat) (f : Session → Session) : (updSession s sid f).pc = s.pc := rfl
@[simp] theorem updSession_ts (s : State) (sid : Nat) (f : Session → Session) : (updSession s sid f).ts = s.ts := rfl

/-! draw -/

@[simp] theorem draw_variant (s : State) (m : Nat) : (s.draw m).2.variant = s.variant := rfl
@[simp] theorem draw_pending (s : State) (m : Nat) : (s.draw m).2.pending = s.pending := rfl
@[simp] theorem draw_now (s : State) (m : Nat) : (s.draw m).2.now = s.now := rfl
@[simp] theorem draw_free (s : State) (m : Nat) : (s.draw m).2.free = s.free + 1 := rfl
@[simp] theorem draw_out (s : State) (m : Nat) : (s.draw m).2.out = s.out := rfl
@[simp] theorem draw_phase (s : State) (m : Nat) : (s.draw m).2.phase = s.phase := rfl
@[simp] theorem draw_objs (s : State) (m : Nat) : (s.draw m).2.objs = s.objs := rfl
@[simp] theorem draw_blobs (s : State) (m : Nat) : (s.draw m).2.blobs = s.blobs := rfl
@[simp] theorem draw_hp (s : State) (m : Nat) : (s.draw m).2.hp = s.hp := rfl
@[simp] theorem draw_mc (s : State) (m : Nat) : (s.draw m).2.mc = s.mc := rfl
@[simp] theorem draw_dir (s : State) (m : Nat) : (s.draw m).2.dir = s.dir := rfl
@[simp] theorem draw_hc (s : State) (m : Nat) : (s.draw m).2.hc = s.hc := rfl
@[simp] theorem draw_wharf (s : State) (m : Nat) : (s.draw m).2.wharf = s.wharf := rfl
@[simp] theorem draw_media (s : State) (m : Nat) : (s.draw m).2.media = s.media := rfl
@[simp] theorem draw_ml (s : State) (m : Nat) : (s.draw m).2.ml = s.ml := rfl
@[simp] theorem draw_ag (s : State) (m : Nat) : (s.draw m).2.ag = s.ag := rfl
@[simp] theorem draw_dp (s : State) (m : Nat) : (s.draw m).2.dp = s.dp := rfl
@[simp] theorem draw_pw (s : State) (m : Nat) : (s.draw m).2.pw = s.pw := rfl
@[simp] theorem draw_cs (s : State) (m : Nat) : (s.draw m).2.cs = s.cs := rfl
@[simp] theorem draw_th (s : State) (m : Nat) : (s.draw m).2.th = s.th := rfl
@[simp] theorem draw_pins (s : State) (m : Nat) : (s.draw m).2.pins = s.pins := rfl
@[simp] theorem draw_kdp (s : State) (m : Nat) : (s.draw m).2.kdp = s.kdp := rfl
@[simp] theorem draw_hm (s : State) (m : Nat) : (s.draw m).2.hm = s.hm := rfl
@[simp] theorem draw_recorder (s : State) (m : Nat) : (s.draw m).2.recorder = s.recorder := rfl
@[simp] theorem draw_pc (s : State) (m : Nat) : (s.draw m).2.pc = s.pc := rfl
@[simp] theorem draw_ts (s : State) (m : Nat) : (s.draw m).2.ts = s.ts := rfl
@[simp] theorem draw_value (s : State) (m : Nat) : (s.draw m).1 = Config.free s.free % m := rfl

/-! What a write puts, a read gives. -/

@[simp] theorem getPort_putPort (s : State) (n : Nat) (p : HostPort) : getPort (putPort s n p) n = p := by
  simp [getPort, AMap.getD]
theorem getPort_putPort_ne (s : State) {n k : Nat} (p : HostPort) (h : k ≠ n) : getPort (putPort s n p) k = getPort s k := by
  simp [getPort, AMap.getD, AMap.get?_set_ne _ _ h]
@[simp] theorem getSet_putSet (s : State) (k : Nat) (r : SetRec) : getSet (putSet s k r) k = r := by simp [getSet]
@[simp] theorem freshSet_putSet (s : State) (k j : Nat) (r : SetRec) : freshSet (putSet s k r) j = freshSet s j := rfl
theorem getSet_putSet_ne (s : State) {k j : Nat} (r : SetRec) (h : j ≠ k) : getSet (putSet s k r) j = getSet s j := by
  unfold getSet
  rw [freshSet_putSet, putSet_media, AMap.get?_set_ne _ _ h]
@[simp] theorem getStripe_putStripe (s : State) (k : Nat) (r : StripeRec) : getStripe (putStripe s k r) k = r := by
  simp [getStripe, AMap.getD]
theorem getStripe_putStripe_ne (s : State) {k j : Nat} (r : StripeRec) (h : j ≠ k) : getStripe (putStripe s k r) j = getStripe s j := by
  simp [getStripe, AMap.getD, AMap.get?_set_ne _ _ h]

end Sys2Proof.Machine
end

