-- ==== Sys2Proof/WellFormed.lean ====
section
/-! DEFINITION. Which commands are well formed: the bounds and list forms that the operand types do not carry. The bounds are those of a KLR-P128; a
number that names nothing on the module at hand makes the command's occasion not hold. -/
namespace Sys2Proof

/-- Pages of host capacity of a KLR-P128 (00 Table SC-1). -/
def wfPages : Nat := 26843545600
/-- Checkpoint segments of a KLR-P128 (07 R178). -/
def wfSegments : Nat := 2185

/-- Whether a sample of a proof pass has one of its two forms (09 R213): dropped, or 15 counts for each of three references. -/
def ProofSample.wf (p : ProofSample) : Bool := p.errors.isEmpty || (p.errors.length == 3 && p.errors.all fun l => l.length == 15)

/-- Whether a list of numbers has no repeats. -/
def noRepeats : List Nat → Bool
  | [] => true
  | x :: t => !t.contains x && noRepeats t

/-- Whether a command is well formed: lines and pages lie in the host capacity, sets, chunks and segments exist, one list names a rail, a sensor or
a slot once, samples have their form, and a message's data fits a datagram (15 R347). The other commands' operands are bounded by their types. -/
def Instr.wellFormed (i : Instr) : Bool :=
  match i with
  | .harbourmasterStart slots power opsec => noRepeats (slots.map (·.val)) && noRepeats (power.map (·.val)) && noRepeats (opsec.map (·.val))
  | .mapLoadDone bad | .wakeStepDone bad => bad.all fun p => decide (p.1 < wfSegments)
  | .combiningTimeout line => decide (line < 64 * wfPages)
  | .wharfIndexRepaired page => decide (page < wfPages)
  | .setResetDone _ set _ => decide (set < 2^20)
  | .checkpointSegmentDone segment => decide (segment < wfSegments)
  | .mapRepaired chunk _ => decide (chunk * 800 < wfPages)
  | .proofPassDone _ _ _ samples => decide (samples.length ≤ 64) && samples.all ProofSample.wf
  | .confirmPassDone _ _ _ samples => decide (samples.length ≤ 256) && samples.all ProofSample.wf
  | .pmbusPoll words => noRepeats (words.map fun p => p.1.val)
  | .pmbusTelemetry _ _ readings => noRepeats (readings.map fun r => r.rail.val)
  | .sensorSample readings => noRepeats (readings.map fun r => r.unit.toNat * 65 + r.sensor.val)
  | .shadowStoreDone bad => noRepeats (bad.map (·.val))
  | .bulkData _ _ data => decide (data.length ≤ 1188)
  | .hmWindowData _ data | .trigger _ data => decide (data.length ≤ 1188)
  | _ => true

end Sys2Proof
end

