-- ==== Sys2Proof/Tests/Slice0.lean ====
section
/-! SUPPORT. Tests: the checks of WellFormed refuse an ill-formed command each, and every statement with hypotheses has a state and operands that meet
them. -/
set_option Elab.async false
set_option maxRecDepth 4000
set_option linter.unusedVariables false
namespace Sys2Proof.Tests
open Sys2Proof Sys2Proof.Machine

/-- The module after reset with its harbourmaster running. -/
def wHm : State := { State.reset with hm := { State.reset.hm with running := true } }
/-- The harbourmaster runs and the module is in a phase. -/
def wPh (p : Phase) : State := { wHm with phase := p }
/-- SEQUENCING at a step. -/
def wSeq (n : Nat) : State := { wPh .sequencing with pw := { wHm.pw with step := n } }
/-- BOOTING, firmware running or not. -/
def wBoot (fw hbm links : Bool) : State :=
  { wPh .booting with cs := { wHm.cs with fwRunning := fw, hbmTrained := hbm, linksTrained := links } }
/-- LOADING with the map loaded or not. -/
def wLoad (m r : Bool) : State := { wPh .loading with cs := { wHm.cs with mapLoaded := m, replayDone := r } }
/-- READY: the module runs with every rail up and nothing staged. -/
def wRun : State :=
  { wPh .running with
    pw := { wHm.pw with railsUp := (List.range 18).map (· + 1), vinGood := true, orOpen := false, charged := true, measured := true }
    cs := { wHm.cs with fwRunning := true, hbmTrained := true, linksTrained := true, mapLoaded := true, replayDone := true } }
/-- READY with the hold-up bank's capacitance and resistance measured. -/
def wBank : State := ((wRun.setObj U.power Obj.HOLDUP_C 96000).setObj U.power Obj.HOLDUP_ESR 20000).setObj U.power Obj.HOLDUP_ENERGY 131000
/-- READY with one closed lighter of slice 0 that holds the page 0 with its line 0 staged. -/
def wDrain : State :=
  { wRun with wharf := { wRun.wharf with
      entries := [(0, { data := 5, mask := fullMask, pos := 0, seq := 0, first := 0 })], nextSeq := 1, nextLighter := 1
      lighters := [{ id := 0, slice := 0, prio := 2, state := 1, pages := [{ pn := 0, lines := 1 }] }] } }
/-- An executing lighter: plate 0 of page 0 in stripe 0 of set 4096 of group 1 is being programmed. -/
def wExec : State :=
  { wRun with
    wharf := { wRun.wharf with lighters := [{ id := 3, slice := 0, prio := 2, state := 2, pages := [{ pn := 0, cancelled := true }], group := 1, stripe := 4096 * 256, plates := 1, programming := 1 }] }
    ml := { wRun.ml with queues := [(planeKey 0 1 0 0, [programTok (4096 * 256)])] }
    media := { wRun.media with
      sets := [(4096, { state := 1, slice := 0, next := 1 })]
      stripes := [(4096 * 256, { live := List.range 16, parity := 15 })] } }
/-- The same with its parity being programmed. -/
def wParity : State :=
  { wExec with
    wharf := { wExec.wharf with lighters := [{ id := 3, slice := 0, prio := 2, state := 2, group := 1, stripe := 4096 * 256, parityPending := true }] }
    ml := { wRun.ml with queues := [(planeKey 0 15 0 0, [programTok (4096 * 256)])] } }
/-- READY with a demand read of sector 0 of page 0 at its first rung. -/
def wRead (stage : Nat) (why : ReadWhy) : State :=
  { wRun with ml := { wRun.ml with reads := [{ id := 7, why := why, pn := 0, sector := 0, ppn := 0, stage := stage, members := [1, 2] }], nextRead := 8 } }
/-- A page number and a die that a pass is measuring. -/
def wPass (confirm : Bool) : State :=
  { wRun with ag := { wRun.ag with passes := [(U.die 1 1 1, { confirm := confirm, left := 64 })] } }
/-- The port 1 in L0 at 64 GT/s and x16, flit 2, its host seen. -/
def wLink : State :=
  let s := ((((wRun.setObj (U.port 1) Obj.PORT_ENABLE_STATE 1).setObj (U.port 1) Obj.LINK_STATE 3).setObj (U.port 1) Obj.RATE_NOW 64).setObj (U.port 1) Obj.WIDTH_NOW 16).setObj (U.port 1) Obj.FLIT_NOW 2
  putPort s 1 { getPort s 1 with farEnd := true, rwdFree := 64, ndr := 64, drs := 64, bisnp := 64 }
/-- The mirror in a state, with a mirrored range of 1 MiB at 0 in a mode, the network port 1 READY and permitted. -/
def wMir (st mode : Nat) : State :=
  let s := ((((wRun.setR Obj.MIRROR_STATE st).setR Obj.MIRROR_NET_PORTS 1).setR Obj.BERTH_WAYS_NOW 1).setObj (U.netPort 1) Obj.NET_ENABLE_STATE 1).setObj (U.netPort 1) Obj.NET_LINK 2
  { s with hc := { s.hc with ranges := [(1, { base := 0, size := 1048576, mode := mode, ports := 1 })] }, kdp := { s.kdp with net1 := { s.kdp.net1 with addrHeld := true } } }
/-- The port 1 up with an agent whose decoder 0 maps the region 1, of HDM-H or HDM-DB mode, at 0, its reset released. -/
def wAgent (mode : Nat) : State :=
  let s := wLink.setObj U.ports (Obj.REGION_PORTS + 1) 0xFFFF
  let s := putPort s 1 { getPort s 1 with rstLow := false }
  { s with
    hp := { s.hp with agents := [{ port := 1, src := 0xFFFF, biEnabled := mode == 2, decoders := [(0, { hpa := 0, dpa := 0, size := 268435456, bi := mode == 2, region := 1 })] }] }
    mc := { s.mc with regions := [(1, { base := 0, size := 268435456, mode := mode })] } }
/-- The same with a window: decoder 1 maps the control window range, and window 1 is the agent's. -/
def wWin : State :=
  let s := wAgent 1
  { s with
    hp := { s.hp with agents := s.hp.agents.map fun a => { a with decoders := AMap.set a.decoders 1 { hpa := 268435456, dpa := cwBase, size := 268435456, bi := false } } }
    mc := { s.mc with windows := [(1, { port := 1, src := 0xFFFF })] } }
/-- The agent of port 1 on a region of a mode, with room in the wharf. -/
def wHost (mode : Nat) : State := (wAgent mode).setR Obj.DIRTY_CAP 1000000
/-- A decoder of the agent on the region 1. -/
def wDec (mode : Nat) : Decoder := { hpa := 0, dpa := 0, size := 268435456, bi := mode == 2, region := 1 }
/-- The agent of port 1, enrolled in slot 0 of an HDM-DB region. -/
def wCoh : State := { (wHost 2) with hp := { (wHost 2).hp with slots := [(0, { state := 1, port := 1, src := 0xFFFF, biId := 0, enrolledAt := 0 })] } }
/-- A snoop of slot 0 for the line 9, sent or not, of a transaction that waits for it. -/
def wSnoop (sent : Bool) (kind : Nat) : State :=
  { wCoh with dir := { wCoh.dir with
      txs := [{ id := 4, kind := 0, line := 9, sector := 1, accs := [{ id := 1, port := 1, src := 0xFFFF, tag := 77, kind := .inv, line := 9, db := true, slot := 1 }], since := 0 }]
      snoops := [{ id := 5, tx := 4, slot := 0, port := 1, src := 0xFFFF, line := 9, kind := kind, sent := sent }], nextId := 6, nextAcc := 2
      entries := [(dirKey 1 0, { sector := 1, lstate := 6, sharers := 1 })] } }
/-- The agent with its window 1, with room in the wharf. -/
def wCw : State := wWin.setR Obj.DIRTY_CAP 1000000
/-- READY with the network port 1 serving and a session 7 of a role on it, whose request 4 is next. -/
def wKdp (role : Nat) : State :=
  let s := (((wRun.setObj (U.netPort 1) Obj.NET_ENABLE_STATE 1).setObj (U.netPort 1) Obj.NET_KDP 1).setObj (U.netPort 1) Obj.NET_LINK 2)
  { s with
    recorder := { s.recorder with accepting := true }
    kdp := { s.kdp with
      sessions := [{ id := 7, role := role, netPort := 1, src := 5, srcPort := 9, opened := 0, key := 0, lastSeq := 3 }]
      net1 := { s.kdp.net1 with addrHeld := true } } }
/-- That session. -/
def wSess (role : Nat) : Session := { id := 7, role := role, netPort := 1, src := 5, srcPort := 9, opened := 0, key := 0, lastSeq := 3 }
/-- Its request of a unit's object. -/
def kReq (unit sub : Nat) : KReq := { sid := 7, seq := 4, macOk := true, unit := BitVec.ofNat 32 unit, sub := BitVec.ofNat 8 sub, wellFormed := true }

/-- The mirror with the pair key written. -/
def wKey (st mode : Nat) : State := (wMir st mode).setBlob U.root Obj.MIRROR_PAIR_KEY (List.replicate 32 1)
/-- The peer's proof under the pair key. -/
def wProof (s : State) (sid : Nat) (n : BitVec 128) : BitVec 256 := proofD ((pairKey s).getD 0) (mirrorShake s sid n)
/-- A frame under its own HMAC, as of a type. -/
def wFrame (s : State) (type : Nat) (f : MirrorFrame) : MirrorFrame :=
  { f with mac := macOf s.hc.mirror.key (mirFrameBytes type f.sync f.generation.toNat f.seq.toNat f.ackSeq.toNat (frameRecs f)) }

/-- A frame under its own HMAC verifies. -/
theorem frame_self (s : State) (type : Nat) (f : MirrorFrame) : frameOk s type (wFrame s type f) = true := by
  simp [frameOk, wFrame, frameRecs]
/-- The proof made with the pair key verifies. -/
theorem proves_self (s : State) (sid : Nat) (n : BitVec 128) (h : (pairKey s).isSome = true) : peerProves s sid n (wProof s sid n) = true := by
  unfold peerProves wProof
  cases hk : pairKey s with
  | none => simp [hk] at h
  | some k => simp

theorem test_bad_slot_twice : (Instr.harbourmasterStart [3, 3] [] []).wellFormed = false := by decide
theorem test_bad_power_cell_twice : (Instr.harbourmasterStart [] [0, 0] []).wellFormed = false := by decide
theorem test_bad_opsec_cell_twice : (Instr.harbourmasterStart [] [] [15, 15]).wellFormed = false := by decide
theorem test_map_load_segment_beyond_map : (Instr.mapLoadDone [(2185, 0)]).wellFormed = false := by decide
theorem test_wake_segment_beyond_map : (Instr.wakeStepDone [(2185, 1)]).wellFormed = false := by decide
theorem test_line_beyond_capacity : (Instr.combiningTimeout 1717986918400).wellFormed = false := by decide
theorem test_page_beyond_capacity : (Instr.wharfIndexRepaired 26843545600).wellFormed = false := by decide
theorem test_set_beyond_range : (Instr.setResetDone 0 1048576 none).wellFormed = false := by decide
theorem test_segment_beyond_map : (Instr.checkpointSegmentDone 2185).wellFormed = false := by decide
theorem test_chunk_beyond_capacity : (Instr.mapRepaired 33554432 true).wellFormed = false := by decide
theorem test_too_many_samples : (Instr.proofPassDone 0 0 0 (List.replicate 65 ⟨0, 0, []⟩)).wellFormed = false := by decide
theorem test_sample_of_two_references : (Instr.proofPassDone 0 0 0 [⟨0, 0, [[], []]⟩]).wellFormed = false := by decide
theorem test_too_many_confirm_samples : (Instr.confirmPassDone 0 0 0 (List.replicate 257 ⟨0, 0, []⟩)).wellFormed = false := by decide
theorem test_rail_polled_twice : (Instr.pmbusPoll [(4, 0), (4, 1)]).wellFormed = false := by decide
theorem test_rail_read_twice : (Instr.pmbusTelemetry 0 0 [⟨2, 0, 0, true⟩, ⟨2, 1, 0, true⟩]).wellFormed = false := by decide
theorem test_sensor_read_twice : (Instr.sensorSample [⟨0, 1, 0⟩, ⟨0, 1, 5⟩]).wellFormed = false := by decide
theorem test_page_of_store_twice : (Instr.shadowStoreDone [7, 7]).wellFormed = false := by decide
theorem test_bulk_data_past_datagram : (Instr.bulkData ⟨0, 1, true, 0, 0, true, {}⟩ 0 (List.replicate 1189 0)).wellFormed = false := by simp [Instr.wellFormed]
theorem test_window_data_past_datagram : (Instr.hmWindowData ⟨0, 1, true, 0, 0, true, {}⟩ (List.replicate 1189 0)).wellFormed = false := by simp [Instr.wellFormed]
theorem test_trigger_past_datagram : (Instr.trigger ⟨0, 1, true, 0, 0, true, {}⟩ (List.replicate 1189 0)).wellFormed = false := by simp [Instr.wellFormed]
theorem test_largest_bulk_data_fits : (Instr.bulkData ⟨0, 1, true, 0, 0, true, {}⟩ 0 (List.replicate 1188 0)).wellFormed = true := by simp [Instr.wellFormed]

theorem test_idle_step_runs_held_request_or_ticks_1 : ∃ (s : State) (c : Instr), (s.pending = []) ∧ (heldDue s = some c) :=
  ⟨{ wKdp 1 with kdp := { (wKdp 1).kdp with sessions := [{ wSess 1 with held := [(4, 0, .mrstNRelease)] }] } }, .mrstNRelease, by decide⟩

theorem test_idle_step_runs_held_request_or_ticks_2 : ∃ s : State, (s.pending = []) ∧ (heldDue s = none) :=
  ⟨wRun, by decide⟩

theorem test_start_steps_of_the_harbourmaster_1 : ∃ (m : Fin 16) (s : State), (s.hm.running = true) ∧ (s.pw.pwrfailLow = false) ∧ (s.hm.latchThermal = false) ∧ ((s.phase = .cold ∨ (s.phase = .latchedOff ∧ s.pw.vinRemoved = true))) :=
  ⟨15, wHm, by decide⟩

theorem test_start_steps_of_the_harbourmaster_2 : ∃ (s : State), ((s.phase = .cold ∨ s.phase = .latchedOff)) :=
  ⟨{ wPh .latchedOff with hm := { wHm.hm with latchThermal := true } }, by decide⟩

theorem test_start_steps_of_the_harbourmaster_3 : ∃ (bs : List (Fin 26)) (bp bo : List (Fin 16)) (s : State), (s.hm.running = false) :=
  ⟨[25], [0], [15], State.reset, by decide⟩

theorem test_start_steps_of_the_harbourmaster_4 : ∃ (s : State), (s.phase = .sequencing) ∧ (s.pw.seqDone = false) ∧ ((¬ (s.pw.step = 2 ∧ 17 ∈ s.pw.retryWait))) ∧ (s.pw.step < 11) :=
  ⟨wSeq 10, by decide⟩

theorem test_start_steps_of_the_harbourmaster_5 : ∃ (s : State), (s.phase = .sequencing) ∧ (s.pw.seqDone = false) ∧ (11 ≤ s.pw.step) :=
  ⟨wSeq 11, by decide⟩

theorem test_start_steps_of_the_harbourmaster_6 : ∃ (r : Fin 18) (s : State), (s.phase = .sequencing) ∧ (s.pw.seqDone = false) ∧ (s.pw.flush = none) ∧ (r.val + 1 ∈ stepUp s) ∧ (s.obj (U.rail (r.val + 1)) Obj.RAIL_REACTION = 3) :=
  ⟨0, wSeq 3, by decide⟩

theorem test_module_id_1 : ∃ (m : Fin 16) (s : State), (s.hm.running = true) ∧ (s.pw.pwrfailLow = false) ∧ (s.hm.latchThermal = false) ∧ ((s.phase = .cold ∨ (s.phase = .latchedOff ∧ s.pw.vinRemoved = true))) :=
  ⟨15, { wPh .latchedOff with pw := { wHm.pw with vinRemoved := true } }, by decide⟩

theorem test_module_id_2 : ∃ (m : Fin 16) (s : State), (s.phase ≠ .cold) ∧ (s.phase ≠ .latchedOff) :=
  ⟨15, wRun, by decide⟩

theorem test_module_id_3 : ∃ (req : KReq) (x : Session) (s : State), (admitted s req x 0x0013 .read U.root = true) :=
  ⟨kReq U.root 0, wSess 1, (wKdp 1).setR Obj.MODULE_ID 15, by decide⟩

theorem test_start_steps_of_the_firmware_1 : ∃ (a p : Fin 3) (s : State), (s.phase = .booting) ∧ (s.cs.fwRunning = false) ∧ (s.ts.retryWait = false) ∧ ((slotNow s).valid = true) :=
  ⟨2, 2, wBoot false false false, by decide⟩

theorem test_start_steps_of_the_firmware_2 : ∃ (c : BootFail) (s : State), (s.phase = .booting) ∧ (s.ts.retryWait = false) ∧ (s.cs.bootHeld = false) ∧ (((c = .invalidImage ∨ c = .noFirmware) → s.cs.fwRunning = false)) ∧ ((c = .watchdog → s.cs.fwRunning = true)) ∧ ((c = .hbmTraining → s.cs.hbmTrained = false)) :=
  ⟨.watchdog, wBoot true true true, by decide⟩

theorem test_start_steps_of_the_firmware_3 : ∃ (s : State), (s.phase = .booting) ∧ (s.ts.retryWait = true) :=
  ⟨{ wBoot false false false with ts := { wHm.ts with retryWait := true } }, by decide⟩

theorem test_start_steps_of_the_firmware_4 : ∃ (s : State), (s.phase = .booting) ∧ (s.cs.fwRunning = true) ∧ (s.cs.hbmTrained = false) :=
  ⟨wBoot true false true, by decide⟩

theorem test_start_steps_of_the_firmware_5 : ∃ (s : State), (s.phase = .booting) ∧ (s.cs.fwRunning = true) ∧ (s.cs.linksTrained = false) :=
  ⟨wBoot true true false, by decide⟩

theorem test_start_steps_of_the_firmware_6 : ∃ (bad : List (Nat × Fin 2)) (s : State), (s.phase = .loading) ∧ (s.cs.mapLoaded = false) ∧ (s.pw.incomplete = false) ∧ ((newestDump s fun _ => true).all (fun p => p.2.sealed) = true) :=
  ⟨[(2184, 1)], wLoad false false, by decide⟩

theorem test_start_steps_of_the_firmware_7 : ∃ (bad : List (Nat × Fin 2)) (s : State), (s.phase = .loading) ∧ (s.cs.mapLoaded = false) ∧ (s.pw.incomplete = false) ∧ ((newestDump s fun _ => true).any (fun p => !p.2.sealed) = true) :=
  ⟨[], { (wLoad false false).setObj U.power (Obj.FLUSH_BUFFER_STATE + 1) 1 with pw := { wHm.pw with dump0 := some (makeDump wHm [] 1 1 0 false false) } }, by decide⟩

theorem test_start_steps_of_the_firmware_8 : ∃ (s : State), (s.phase = .loading) ∧ (s.cs.mapLoaded = true) ∧ (s.cs.replayDone = false) :=
  ⟨wLoad true false, by decide⟩

theorem test_start_steps_of_the_firmware_9 : ∃ (s : State), (gateOpen s = true) :=
  ⟨{ wLoad true true with pw := { wHm.pw with measured := true } }, by decide⟩

theorem test_start_steps_of_the_firmware_10 : ∃ (a p : Fin 3) (s : State), ((slotNow s).valid = false) :=
  ⟨0, 0, { wBoot false false false with ts := { wHm.ts with slotA := {} } }, by decide⟩

theorem test_port_resets_1 : ∃ (p : Fin 16) (s : State), (portAbsent s (p.val + 1) = false) ∧ (((p.val + 1) % 2 = 1 → preg s (p.val + 1) Obj.PORT_BIFURCATE = preg s (p.val + 1) Obj.BIFURCATE_NOW)) :=
  ⟨0, wAgent 1, by decide⟩

theorem test_port_resets_2 : ∃ (p : Fin 16) (s : State), (portAbsent s (p.val + 1) = false) ∧ ((p.val + 1) % 2 = 1) ∧ (preg s (p.val + 1) Obj.PORT_BIFURCATE ≠ preg s (p.val + 1) Obj.BIFURCATE_NOW) :=
  ⟨0, (wAgent 1).setObj (U.port 1) Obj.PORT_BIFURCATE 1, by decide⟩

theorem test_port_resets_3 : ∃ (p : Fin 16) (s : State), (portAbsent s (p.val + 1) = true) :=
  ⟨1, wAgent 1, by decide⟩

theorem test_port_resets_4 : ∃ (p : Fin 16) (s : State), ((getPort s (p.val + 1)).rstLow = true) ∧ (s.robj Obj.PSTATE_NOW < 3) ∧ (s.robj Obj.ENTRY_STATE < 2) :=
  ⟨0, wLink.setObj (U.port 1) Obj.LINK_STATE 0, by decide⟩

theorem test_port_resets_5 : ∃ (p : Fin 16) (s : State), ((getPort s (p.val + 1)).rstLow = true) ∧ (3 ≤ s.robj Obj.PSTATE_NOW) ∧ (s.cs.wakeStep = 0) ∧ (s.cs.offDone = true) :=
  ⟨0, wRun.setR Obj.PSTATE_NOW 3, by decide⟩

theorem test_port_resets_6 : ∃ (p : Fin 16) (s : State), (2 ≤ preg s (p.val + 1) Obj.LINK_STATE) :=
  ⟨0, wAgent 1, by decide⟩

theorem test_port_resets_7 : ∃ (p : Fin 16) (s : State), (2 ≤ preg s (p.val + 1) Obj.LINK_STATE) :=
  ⟨0, wAgent 2, by decide⟩

theorem test_port_resets_8 : ∃ (p : Fin 16) (s : State), (2 ≤ preg s (p.val + 1) Obj.LINK_STATE) :=
  ⟨0, wAgent 2, by decide⟩

theorem test_link_events_1 : ∃ (p : Fin 16) (fe : Bool) (s : State), (2 ≤ preg s (p.val + 1) Obj.LINK_STATE) :=
  ⟨0, true, wAgent 2, by decide⟩

theorem test_link_events_2 : ∃ (p : Fin 16) (w : Nat) (x : Window) (s : State), (2 ≤ preg s (p.val + 1) Obj.LINK_STATE) ∧ (AMap.get? s.mc.windows w = some x) :=
  ⟨0, 1, { port := 1, resv := some (3, false), resvState := 1 }, { wLink with mc := { wLink.mc with windows := [(1, { port := 1, resv := some (3, false), resvState := 1 })] } }, by decide⟩

theorem test_link_events_3 : ∃ (p : Fin 16) (r fr : LinkRate) (w fw : LinkWidth) (m : FlitMode) (a b c : BitVec 16) (s : State), (canTrain (putPort s (p.val + 1) { getPort s (p.val + 1) with hostDisabled := false }) (p.val + 1) = true) ∧ (r.code ≤ (preg s (p.val + 1) Obj.RATE_CAP)) ∧ (r.code ≤ fr.code) ∧ (w.code ≤ fullWidth s (p.val + 1)) ∧ (w.code ≤ fw.code) ∧ ((m = .b68 → r = .g16 ∨ r = .g32)) ∧ ((preg s (p.val + 1) Obj.LINK_STATE) ≤ 1) :=
  ⟨0, .g64, .g64, .x16, .x16, .b256, 1, 1, 1, (wAgent 1).setObj (U.port 1) Obj.LINK_STATE 1, by decide⟩

theorem test_link_events_4 : ∃ (p : Fin 16) (r : LinkRate) (w : LinkWidth) (s : State), (canTrain s (p.val + 1) = true) ∧ ((preg s (p.val + 1) Obj.LINK_STATE) ≤ 1) ∧ ((getPort s (p.val + 1)).failed = false) :=
  ⟨0, .g64, .x16, (wAgent 1).setObj (U.port 1) Obj.LINK_STATE 1, by decide⟩

theorem test_link_events_5 : ∃ (p : Fin 16) (s : State), ((preg s (p.val + 1) Obj.PORT_ENABLE_STATE = 2 ∨ preg s (p.val + 1) Obj.PORT_ENABLE_STATE = 3)) ∧ ((getPort s (p.val + 1)).offDone = true) :=
  ⟨0, (wAgent 1).setObj (U.port 1) Obj.PORT_ENABLE_STATE 2, by decide⟩

theorem test_link_events_6 : ∃ (p : Fin 16) (s : State), (linkMem s (p.val + 1) = true) ∧ (quarters s (p.val + 1) = 4) :=
  ⟨0, wAgent 1, by decide⟩

theorem test_retrain_loses_only_reservations_1 : ∃ (p : Fin 16) (s : State), (2 ≤ preg s (p.val + 1) Obj.LINK_STATE) :=
  ⟨0, { wLink with mc := { wLink.mc with windows := [(1, { port := 1, resv := some (3, false), resvState := 1 }), (2, { port := 2, resv := some (4, false), resvState := 1 })] } }, by decide⟩

theorem test_retrain_loses_only_reservations_2 : ∃ (p : Fin 16) (s : State), (preg s (p.val + 1) Obj.LINK_STATE < 2) :=
  ⟨15, wLink, by decide⟩

theorem test_agent_configuration_1 : ∃ (p : Fin 16) (src : BitVec 12) (g : BitVec 14) (s : State), (ioAnswers s (p.val + 1) = true) ∧ (findAgent s (p.val + 1) (srcOf s (p.val + 1) src.toNat) = none) ∧ ((s.hp.agents.filter fun a => a.port == p.val + 1).length < (if (getPort s (p.val + 1)).attachNow = 1 then 4 else 1)) :=
  ⟨0, 5, 9, wLink, by decide⟩

theorem test_agent_configuration_2 : ∃ (p : Fin 16) (src : BitVec 12) (g : BitVec 14) (o : CfgOp) (s : State), (ioAnswers s (p.val + 1) = true) ∧ (findAgent s (p.val + 1) (srcOf s (p.val + 1) src.toNat) = none) ∧ ((if (getPort s (p.val + 1)).attachNow = 1 then 4 else 1) ≤ (s.hp.agents.filter fun a => a.port == p.val + 1).length) :=
  ⟨0, 5, 9, .setBi true 3, { (wAgent 1) with hp := { (wAgent 1).hp with agents := [1, 2, 3, 4].map (fun i => { port := 1, src := i }), ports := [(1, { (getPort (wAgent 1) 1) with attachNow := 1 })] } }, by decide⟩

theorem test_agent_configuration_3 : ∃ (p : Fin 16) (src : BitVec 12) (g : BitVec 14) (en : Bool) (i : Nat) (a : Agent) (s : State), (ioAnswers s (p.val + 1) = true) ∧ (findAgent s (p.val + 1) (srcOf s (p.val + 1) src.toNat) = some a) :=
  ⟨0, 5, 9, true, 65537, ((wAgent 1).hp.agents.headD { port := 0, src := 0 }), wAgent 1, by decide⟩

theorem test_agent_configuration_4 : ∃ (p : Fin 16) (src : BitVec 12) (d : Fin 16) (hpa dpa size : BitVec 64) (w c : Nat) (bi : Bool) (a : Agent) (s : State), (ioAnswers s (p.val + 1) = true) ∧ (findAgent s (p.val + 1) (srcOf s (p.val + 1) src.toNat) = some a) ∧ (AMap.has a.decoders d.val = false) ∧ (commitCheck s a hpa.toNat dpa.toNat size.toNat w bi = c) ∧ (c ≠ 0) :=
  ⟨0, 5, 1, 1, 0, 268435456, 1, 2, false, ((wAgent 1).hp.agents.headD { port := 0, src := 0 }), wAgent 1, by decide⟩

theorem test_agent_configuration_5 : ∃ (p : Fin 16) (src : BitVec 12) (d : Fin 16) (hpa dpa size : BitVec 64) (w r : Nat) (bi : Bool) (a : Agent) (s : State), (ioAnswers s (p.val + 1) = true) ∧ (findAgent s (p.val + 1) (srcOf s (p.val + 1) src.toNat) = some a) ∧ (AMap.has a.decoders d.val = false) ∧ (commitCheck s a hpa.toNat dpa.toNat size.toNat w bi = 0) ∧ (placeDecoder s (p.val + 1) (srcOf s (p.val + 1) src.toNat) dpa.toNat size.toNat = some (.region r)) :=
  ⟨0, 5, 15, 268435456, 0, 268435456, 1, 1, false, ((wAgent 1).hp.agents.headD { port := 0, src := 0 }), wAgent 1, by decide⟩

theorem test_agent_configuration_6 : ∃ (p : Fin 16) (src : BitVec 12) (d : Fin 16) (hpa dpa size : BitVec 64) (w : Nat) (bi : Bool) (a : Agent) (s : State), (ioAnswers s (p.val + 1) = true) ∧ (findAgent s (p.val + 1) (srcOf s (p.val + 1) src.toNat) = some a) ∧ (AMap.has a.decoders d.val = false) ∧ (commitCheck s a hpa.toNat dpa.toNat size.toNat w bi = 0) ∧ (placeDecoder s (p.val + 1) (srcOf s (p.val + 1) src.toNat) dpa.toNat size.toNat = some .window) ∧ ((s.mc.windows.length < 32 ∨ (windowOf s (p.val + 1) (srcOf s (p.val + 1) src.toNat)).isSome = true)) :=
  ⟨0, 5, 1, 268435456, BitVec.ofNat 64 cwBase, 268435456, 1, false, ((wAgent 1).hp.agents.headD { port := 0, src := 0 }), wAgent 1, by decide⟩

theorem test_agent_configuration_7 : ∃ (p : Fin 16) (src : BitVec 12) (d : Fin 16) (a : Agent) (x : Decoder) (s : State), (ioAnswers s (p.val + 1) = true) ∧ (findAgent s (p.val + 1) (srcOf s (p.val + 1) src.toNat) = some a) ∧ (AMap.get? a.decoders d.val = some x) ∧ (x.withdrawing = false) ∧ (x.bi = false) :=
  ⟨0, 5, 0, ((wAgent 1).hp.agents.headD { port := 0, src := 0 }), { hpa := 0, dpa := 0, size := 268435456, bi := false, region := 1 }, wAgent 1, by decide⟩

theorem test_agent_configuration_8 : ∃ (p : Fin 16) (src : BitVec 12) (d : Fin 16) (a : Agent) (x : Decoder) (s : State), (ioAnswers s (p.val + 1) = true) ∧ (findAgent s (p.val + 1) (srcOf s (p.val + 1) src.toNat) = some a) ∧ (AMap.get? a.decoders d.val = some x) ∧ (x.withdrawing = false) ∧ (x.bi = true) ∧ (slotOf s (p.val + 1) (srcOf s (p.val + 1) src.toNat) = none) :=
  ⟨0, 5, 0, ((wAgent 2).hp.agents.headD { port := 0, src := 0 }), { hpa := 0, dpa := 0, size := 268435456, bi := true, region := 1 }, wAgent 2, by decide⟩

theorem test_agent_configuration_9 : ∃ (p : Fin 16) (src : BitVec 12) (g : BitVec 14) (f : CfgField) (a : Agent) (s : State), (ioAnswers s (p.val + 1) = true) ∧ (findAgent s (p.val + 1) (srcOf s (p.val + 1) src.toNat) = some a) :=
  ⟨0, 5, 9, .decoder 0, ((wAgent 1).hp.agents.headD { port := 0, src := 0 }), wAgent 1, by decide⟩

theorem test_agent_configuration_10 : ∃ (p : Fin 16) (src : BitVec 12) (g : BitVec 14) (f : CfgField) (s : State), (ioAnswers s (p.val + 1) = true) ∧ (findAgent s (p.val + 1) (srcOf s (p.val + 1) src.toNat) = none) ∧ ((s.hp.agents.filter fun a => a.port == p.val + 1).length < (if (getPort s (p.val + 1)).attachNow = 1 then 4 else 1)) :=
  ⟨0, 5, 9, .serial, { (wAgent 1) with hp := { (wAgent 1).hp with agents := [] } }, by decide⟩

theorem test_agent_configuration_11 : ∃ (p : Fin 16) (src : BitVec 12) (g : BitVec 14) (en : Bool) (i : Nat) (s : State), (ioAnswers s (p.val + 1) = true) ∧ (findAgent s (p.val + 1) (srcOf s (p.val + 1) src.toNat) = none) ∧ ((s.hp.agents.filter fun a => a.port == p.val + 1).length < (if (getPort s (p.val + 1)).attachNow = 1 then 4 else 1)) :=
  ⟨0, 5, 9, true, 4, { (wAgent 1) with hp := { (wAgent 1).hp with agents := [] } }, by decide⟩

theorem test_agent_configuration_12 : ∃ (p : Fin 16) (src : BitVec 12) (d : Fin 16) (hpa dpa size : BitVec 64) (w r h : Nat) (bi : Bool) (a : Agent) (s : State), (ioAnswers s (p.val + 1) = true) ∧ (findAgent s (p.val + 1) (srcOf s (p.val + 1) src.toNat) = some a) ∧ (AMap.has a.decoders d.val = false) ∧ (commitCheck s a hpa.toNat dpa.toNat size.toNat w bi = 0) ∧ (placeDecoder s (p.val + 1) (srcOf s (p.val + 1) src.toNat) dpa.toNat size.toNat = some (.alias_ r h)) :=
  ⟨0, 5, 15, 268435456, 281474976710656, 268435456, 1, 1, 1, false, ((wAgent 1).hp.agents.headD { port := 0, src := 0 }), { (wAgent 1) with mc := { (wAgent 1).mc with regions := [(1, { base := 0, size := 268435456, mode := 1, aliased := 2 })] } }, by decide⟩

theorem test_agent_configuration_13 : ∃ (p : Fin 16) (src : BitVec 12) (d : Fin 16) (hpa dpa size : BitVec 64) (w : Nat) (bi : Bool) (a : Agent) (s : State), (ioAnswers s (p.val + 1) = true) ∧ (findAgent s (p.val + 1) (srcOf s (p.val + 1) src.toNat) = some a) ∧ (AMap.has a.decoders d.val = false) ∧ (commitCheck s a hpa.toNat dpa.toNat size.toNat w bi = 0) ∧ (placeDecoder s (p.val + 1) (srcOf s (p.val + 1) src.toNat) dpa.toNat size.toNat = some .berth) :=
  ⟨0, 5, 15, 268435456, BitVec.ofNat 64 berthBase, 268435456, 1, false, ((wAgent 1).hp.agents.headD { port := 0, src := 0 }), { (wAgent 1) with hc := { (wAgent 1).hc with ranges := [(1, { base := 0, size := 65536, mode := 1, ports := 1 })] } }, by decide⟩

theorem test_agent_configuration_14 : ∃ (p : Fin 16) (src : BitVec 12) (d : Fin 16) (hpa dpa size : BitVec 64) (w : Nat) (bi : Bool) (a : Agent) (s : State), (ioAnswers s (p.val + 1) = true) ∧ (findAgent s (p.val + 1) (srcOf s (p.val + 1) src.toNat) = some a) ∧ (AMap.has a.decoders d.val = true) :=
  ⟨0, 5, 0, 268435456, 0, 268435456, 1, false, ((wAgent 1).hp.agents.headD { port := 0, src := 0 }), wAgent 1, by decide⟩

theorem test_agent_configuration_15 : ∃ (p : Fin 16) (src : BitVec 12) (d : Fin 16) (k : Nat) (a : Agent) (x : Decoder) (s : State), (ioAnswers s (p.val + 1) = true) ∧ (findAgent s (p.val + 1) (srcOf s (p.val + 1) src.toNat) = some a) ∧ (AMap.get? a.decoders d.val = some x) ∧ (x.withdrawing = false) ∧ (x.bi = true) ∧ (slotOf s (p.val + 1) (srcOf s (p.val + 1) src.toNat) = some k) ∧ ((a.decoders.all fun q => q.1 == d.val || !(q.2.bi || q.2.withdrawing)) = true) ∧ ((s.dir.entries.all fun e => !bitOf e.2.sharers k) = true) ∧ (recallLeft s k (fun _ => true) = false) :=
  ⟨0, 5, 0, 0, (wCoh.hp.agents.headD { port := 0, src := 0 }), wDec 2, wCoh, by decide⟩

theorem test_agent_configuration_16 : ∃ (p : Fin 16) (src : BitVec 12) (d : Fin 16) (k : Nat) (a : Agent) (x : Decoder) (s : State), (ioAnswers s (p.val + 1) = true) ∧ (findAgent s (p.val + 1) (srcOf s (p.val + 1) src.toNat) = some a) ∧ (AMap.get? a.decoders d.val = some x) ∧ (x.withdrawing = false) ∧ (x.bi = true) ∧ (slotOf s (p.val + 1) (srcOf s (p.val + 1) src.toNat) = some k) :=
  ⟨0, 5, 0, 0, (wCoh.hp.agents.headD { port := 0, src := 0 }), wDec 2, wCoh, by decide⟩

theorem test_agent_configuration_17 : ∃ (p : Fin 16) (src : BitVec 12) (d : Fin 16) (a : Agent) (s : State), (ioAnswers s (p.val + 1) = true) ∧ (findAgent s (p.val + 1) (srcOf s (p.val + 1) src.toNat) = some a) ∧ (((AMap.get? a.decoders d.val).all fun x => x.withdrawing) = true) :=
  ⟨0, 5, 3, ((wAgent 1).hp.agents.headD { port := 0, src := 0 }), wAgent 1, by decide⟩

theorem test_agent_configuration_18 : ∃ (p : Fin 16) (src : BitVec 12) (g : BitVec 14) (o : CfgOp) (s : State), (ioAnswers s (p.val + 1) = false) :=
  ⟨3, 5, 9, .access, wRun, by decide⟩

theorem test_agent_configuration_19 : ∃ (p : Fin 16) (src : BitVec 12) (g : BitVec 14) (a : Agent) (s : State), (ioAnswers s (p.val + 1) = true) ∧ (findAgent s (p.val + 1) (srcOf s (p.val + 1) src.toNat) = some a) :=
  ⟨0, 5, 9, ((wAgent 1).hp.agents.headD { port := 0, src := 0 }), wAgent 1, by decide⟩

theorem test_agent_configuration_20 : ∃ (p : Fin 16) (src : BitVec 12) (d : Fin 16) (hpa dpa size : BitVec 64) (w : Nat) (bi : Bool) (s : State), (ioAnswers s (p.val + 1) = false) :=
  ⟨3, 5, 0, 0, 0, 0, 1, false, wRun, by decide⟩

theorem test_agent_configuration_21 : ∃ (p : Fin 16) (src : BitVec 12) (d : Fin 16) (s : State), (ioAnswers s (p.val + 1) = false) :=
  ⟨3, 5, 0, wRun, by decide⟩

theorem test_port_services_1 : ∃ (p : Fin 16) (s : State), (ioAnswers s (p.val + 1) = true) :=
  ⟨0, wLink, by decide⟩

theorem test_port_services_2 : ∃ (p : Fin 16) (s : State), (ioAnswers s (p.val + 1) = true) :=
  ⟨0, wLink, by decide⟩

theorem test_port_services_3 : ∃ (p : Fin 16) (s : State), (ioAnswers s (p.val + 1) = true) :=
  ⟨0, wLink, by decide⟩

theorem test_port_services_4 : ∃ (p : Fin 16) (s : State), (ioAnswers s (p.val + 1) = true) :=
  ⟨0, wLink, by decide⟩

theorem test_port_services_5 : ∃ (p : Fin 16) (s : State), (ioAnswers s (p.val + 1) = true) :=
  ⟨0, wLink, by decide⟩

theorem test_port_services_6 : ∃ (p : Fin 16) (s : State), (ioAnswers s (p.val + 1) = true) :=
  ⟨0, wLink, by decide⟩

theorem test_port_services_7 : ∃ (p : Fin 16) (s : State), (ioAnswers s (p.val + 1) = true) :=
  ⟨0, wLink, by decide⟩

theorem test_port_services_8 : ∃ (p : Fin 16) (s : State), (ioAnswers s (p.val + 1) = true) :=
  ⟨0, wLink, by decide⟩

theorem test_port_services_9 : ∃ (p : Fin 16) (s : State), (ioAnswers s (p.val + 1) = true) :=
  ⟨0, wLink, by decide⟩

theorem test_port_services_10 : ∃ (p : Fin 16) (o : BitVec 16) (s : State), (ioAnswers s (p.val + 1) = true) ∧ (mailOpcodes.contains o.toNat = false) :=
  ⟨0, 0x0100, wLink, by decide⟩

theorem test_port_services_11 : ∃ (p : Fin 16) (g : BitVec 14) (s : State), (ioAnswers s (p.val + 1) = true) :=
  ⟨0, 3, wLink, by decide⟩

theorem test_port_services_12 : ∃ (p : Fin 16) (b : Nat) (s : State), (ioAnswers s (p.val + 1) = true) ∧ (b = 110000 * preg s (p.val + 1) Obj.RATE_NOW * preg s (p.val + 1) Obj.WIDTH_NOW / 1024) :=
  ⟨0, 110000, wLink, by decide⟩

theorem test_ide_and_viral_1 : ∃ (p : Fin 16) (k : Bool) (s : State), (ioAnswers s (p.val + 1) = true) ∧ (preg s (p.val + 1) Obj.IDE_NOW = 0) ∧ ((k = true → preg s (p.val + 1) Obj.IDE_SKID_PERMIT ≠ 0)) :=
  ⟨0, false, wLink, by decide⟩

theorem test_ide_and_viral_2 : ∃ (p : Fin 16) (r : Bool) (s : State), (preg s (p.val + 1) Obj.IDE_SKID_PERMIT = 0) :=
  ⟨0, false, wLink, by decide⟩

theorem test_ide_and_viral_3 : ∃ (p : Fin 16) (k r : Bool) (s : State), (ioAnswers s (p.val + 1) = true) ∧ (preg s (p.val + 1) Obj.IDE_NOW ≠ 0) ∧ ((k = true → preg s (p.val + 1) Obj.IDE_SKID_PERMIT ≠ 0)) :=
  ⟨0, false, true, wLink.setObj (U.port 1) Obj.IDE_NOW 2, by decide⟩

theorem test_ide_and_viral_4 : ∃ (p : Fin 16) (k : Bool) (s : State), (ioAnswers s (p.val + 1) = true) ∧ ((getPort s (p.val + 1)).ioIde = false) :=
  ⟨0, true, wLink, by decide⟩

theorem test_ide_and_viral_5 : ∃ (p : Fin 16) (s : State), ((getPort s (p.val + 1)).memRefresh = true) :=
  ⟨0, putPort wLink 1 { getPort wLink 1 with memRefresh := true, memNext := 2 }, by decide⟩

theorem test_ide_and_viral_6 : ∃ (p : Fin 16) (s : State), ((getPort s (p.val + 1)).ioRefresh = true) :=
  ⟨0, putPort wLink 1 { getPort wLink 1 with ioRefresh := true }, by decide⟩

theorem test_ide_and_viral_7 : ∃ (p : Fin 16) (m q : Bool) (s : State), (2 ≤ preg s (p.val + 1) Obj.LINK_STATE) ∧ ((if m = true then preg s (p.val + 1) Obj.IDE_NOW = 1 else (getPort s (p.val + 1)).ioIde = true)) :=
  ⟨0, true, false, (wAgent 1).setObj (U.port 1) Obj.IDE_NOW 1, by decide⟩

theorem test_ide_and_viral_8 : ∃ (p : Fin 16) (q : Bool) (s : State), (2 ≤ preg s (p.val + 1) Obj.LINK_STATE) ∧ (preg s (p.val + 1) Obj.IDE_NOW = 2) ∧ (s.phase = .running) ∧ (s.hm.latchHalted = false) :=
  ⟨0, true, (wAgent 1).setObj (U.port 1) Obj.IDE_NOW 2, by decide⟩

theorem test_ide_and_viral_9 : ∃ (p : Fin 16) (m : Bool) (s : State), (ioAnswers s (p.val + 1) = true) :=
  ⟨0, true, wLink, by decide⟩

theorem test_ide_and_viral_10 : ∃ (p : Fin 16) (s : State), (2 ≤ preg s (p.val + 1) Obj.LINK_STATE) :=
  ⟨0, wAgent 1, by decide⟩

theorem test_enables_pending_1 : ∃ (n : Fin 16) (s : State), ((getPort s (n.val + 1)).offDone = false) :=
  ⟨0, putPort (wLink.setObj (U.port 1) Obj.PORT_ENABLE_STATE 3) 1 { getPort wLink 1 with offDone := false }, by decide⟩

theorem test_enables_pending_2 : ∃ (s : State), (s.hc.mirror.offDone = false) :=
  ⟨updMirror (wMir 7 2) fun m => { m with offDone := false }, by decide⟩

theorem test_enables_pending_3 : ∃ (b : Fin 4) (s : State), (s.pw.bankMin.contains b = true) :=
  ⟨3, { wRun with pw := { wRun.pw with bankMin := [3] } }, by decide⟩

theorem test_enables_pending_4 : ∃ (p : Fin 2) (s : State), ((netOf s (p.val + 1)).shut = true) ∧ ((netOf s (p.val + 1)).offTimerDone = false) :=
  ⟨1, { wRun.setObj (U.netPort 2) Obj.NET_ENABLE_STATE 3 with kdp := { wRun.kdp with net2 := { wRun.kdp.net2 with shut := true, offTimerDone := false } } }, by decide⟩

theorem test_enables_pending_5 : ∃ (s : State), (3 ≤ s.robj Obj.PSTATE_NOW) ∧ (s.cs.offDone = false) ∧ (s.cs.wakeStep = 0) :=
  ⟨{ wRun.setR Obj.PSTATE_NOW 3 with cs := { wRun.cs with offDone := false, wakeQueued := true } }, by decide⟩

theorem test_window_barriers_1 : ∃ (p : Fin 16) (src : BitVec 12) (g : BitVec 14) (w : Nat) (v : BitVec 64) (m : ByteMask) (s : State), (reachesWindow s (p.val + 1) src.toNat 0x0000 w = true) ∧ (m &&& 0xFF = 0xFF) ∧ (blockInReset s 1 = false) ∧ (s.wharf.entries = []) ∧ (s.mc.cb = []) :=
  ⟨0, 3, 9, 1, 0xFFFFFFFF00000005, 0xFF, wCw, by decide⟩

theorem test_window_barriers_2 : ∃ (p : Fin 16) (src : BitVec 12) (g : BitVec 14) (w : Nat) (v : BitVec 64) (m : ByteMask) (s : State), (reachesWindow s (p.val + 1) src.toNat 0x0000 w = true) ∧ (m &&& 0xFF = 0xFF) ∧ (blockInReset s 1 = false) ∧ (((coveredPages s s.wharf.nextSeq).all fun pn => s.wharf.pinned.contains pn) = false) ∧ ((s.mc.windows.all fun x => x.2.queue.isEmpty) = true) :=
  ⟨0, 3, 9, 1, 0xFFFFFFFF00000005, 0xFF, { wCw with wharf := { wCw.wharf with entries := [(0, { data := 5, mask := fullMask, pos := 0, seq := 0, first := 0 })], nextSeq := 1 } }, by decide⟩

theorem test_window_barriers_3 : ∃ (p : Fin 16) (src : BitVec 12) (g : BitVec 14) (w : Nat) (v : BitVec 64) (m : ByteMask) (s : State), (reachesWindow s (p.val + 1) src.toNat 0x0040 w = true) ∧ (m &&& 0xFF = 0xFF) ∧ ((mirState s = 2 ∨ mirState s = 3)) ∧ (mirrorPort s ≠ 0) ∧ ((s.hc.ranges.any fun x => x.2.mode == 3) = false) ∧ (sendsNow s (p.val + 1) 0 = true) :=
  ⟨0, 3, 9, 1, 0xFFFFFFFF00000005, 0xFF, { (((wCw.setR Obj.MIRROR_STATE 3).setR Obj.MIRROR_NET_PORTS 1).setObj (U.netPort 1) Obj.NET_ENABLE_STATE 1).setObj (U.netPort 1) Obj.NET_LINK 2 with kdp := { wCw.kdp with net1 := { wCw.kdp.net1 with addrHeld := true } } }, by decide⟩

theorem test_window_barriers_4 : ∃ (k : Fin 32) (r : Fin 4) (g : BitVec 14) (x : Window) (s : State), (AMap.get? s.mc.windows (k.val + 1) = some x) ∧ (x.heldCmp.contains (r.val + 1, g.toNat) = true) ∧ (responds s x.port = true) ∧ (sendsNow s x.port 0 = true) :=
  ⟨0, 3, 7, { port := 1, src := 0xFFFF, heldCmp := [(1, 7), (4, 7), (4, 7)], drainState := 1 }, { wCw with mc := { wCw.mc with windows := [(1, { port := 1, src := 0xFFFF, heldCmp := [(1, 7), (4, 7), (4, 7)], drainState := 1 })] } }, by decide⟩

theorem test_window_barriers_5 : ∃ (k : Fin 32) (r : Fin 4) (g : BitVec 14) (s : State), ((getWin s (k.val + 1)).heldCmp.contains (r.val + 1, g.toNat) = false) :=
  ⟨31, 0, 7, wCw, by decide⟩

theorem test_reservations_1 : ∃ (p : Fin 16) (src : BitVec 12) (g : BitVec 14) (w : Nat) (v : BitVec 64) (m : ByteMask) (s : State), (reachesWindow s (p.val + 1) src.toNat 0x1000 w = true) ∧ (m &&& 0xFF = 0xFF) ∧ (blockInReset s 2 = false) ∧ (sendsNow s (p.val + 1) 0 = true) :=
  ⟨0, 3, 9, 1, 0xFE0000000000000F, 0xFF, wCw, by decide⟩

theorem test_reservations_2 : ∃ (p : Fin 16) (src : BitVec 12) (g : BitVec 14) (w : Nat) (gr : Region) (s : State), (reachesWindow s (p.val + 1) src.toNat 0x1040 w = true) ∧ (blockInReset s 2 = false) ∧ (resvTarget s (p.val + 1) (getWin s w).resvAddr = some gr) ∧ (gr.mode ≠ 2) ∧ (isBerthLine ((getWin s w).resvAddr / 64) = false) ∧ (tableOpen s ((getWin s w).resvAddr / 64) = true) ∧ (entersNow s .resvLoad ((getWin s w).resvAddr / 64) = true) ∧ (sendsNow s (p.val + 1) 1 = true) ∧ (hcLookup s ((getWin s w).resvAddr / 64) = none) ∧ (AMap.get? s.mc.cb ((getWin s w).resvAddr / 64) = none) ∧ (stagedEntry s ((getWin s w).resvAddr / 64) = none) ∧ (markerCovers s ((getWin s w).resvAddr / 64) = false) ∧ ((AMap.getD s.hc.pbuf (sliceOfLine ((getWin s w).resvAddr / 64)) []) = []) ∧ (AMap.get? s.media.pcache (sectorOfLine ((getWin s w).resvAddr / 64)) = none) ∧ (mapLost s (pageOfLine ((getWin s w).resvAddr / 64)) = false) ∧ (mapGet s (pageOfLine ((getWin s w).resvAddr / 64)) = none) :=
  ⟨0, 3, 9, 1, { base := 0, size := 268435456, mode := 1 }, { wCw with mc := { wCw.mc with windows := [(1, { port := 1, src := 0xFFFF, resvAddr := 72 })] } }, by decide⟩

theorem test_reservations_3 : ∃ (p : Fin 16) (src : BitVec 12) (g : BitVec 14) (w : Nat) (s : State), (reachesWindow s (p.val + 1) src.toNat 0x1040 w = true) ∧ (blockInReset s 2 = false) ∧ (resvTarget s (p.val + 1) (getWin s w).resvAddr = none) ∧ (sendsNow s (p.val + 1) 1 = true) :=
  ⟨0, 3, 9, 1, { wCw with mc := { wCw.mc with windows := [(1, { port := 1, src := 0xFFFF, resvAddr := 268435456 })] } }, by decide⟩

theorem test_reservations_4 : ∃ (p : Fin 16) (src : BitVec 12) (g : BitVec 14) (w : Nat) (v : BitVec 64) (m : ByteMask) (l : Nat) (s : State), (reachesWindow s (p.val + 1) src.toNat 0x1080 w = true) ∧ (m &&& 0xFF = 0xFF) ∧ (blockInReset s 2 = false) ∧ ((getWin s w).resv = some (l, false)) ∧ ((getWin s w).resvWord < 8) ∧ (isBerthLine l = false) ∧ (tableOpen s l = true) ∧ (entersNow s .resvStore l = true) ∧ (AMap.get? s.mc.cb l = none) ∧ ((cbOf s (sliceOfLine l)).length < 256) ∧ (s.robj Obj.PSTATE_NOW ≠ 1) ∧ (s.robj Obj.PSTATE_NOW ≠ 2) :=
  ⟨0, 3, 9, 1, 0xFFFFFFFF00000005, 0xFF, 1, { wCw with mc := { wCw.mc with windows := [(1, { port := 1, src := 0xFFFF, resvAddr := 72, resv := some (1, false), resvWord := 1, resvState := 1, result := 1 })] } }, by decide⟩

theorem test_reservations_5 : ∃ (p : Fin 16) (src : BitVec 12) (g : BitVec 14) (w : Nat) (v : BitVec 64) (m : ByteMask) (s : State), (reachesWindow s (p.val + 1) src.toNat 0x1080 w = true) ∧ (m &&& 0xFF = 0xFF) ∧ (blockInReset s 2 = false) ∧ ((getWin s w).resv = none) ∧ (resvTarget s (p.val + 1) (getWin s w).resvAddr = none) :=
  ⟨0, 3, 9, 1, 0xFFFFFFFF00000005, 0xFF, { wCw with mc := { wCw.mc with windows := [(1, { port := 1, src := 0xFFFF, resvAddr := 268435456, result := 3, loss := 9 })] } }, by decide⟩

theorem test_reservations_6 : ∃ (k : Fin 32) (x : Window) (s : State), (AMap.get? s.mc.windows (k.val + 1) = some x) ∧ (x.resv.isSome = true) :=
  ⟨0, { port := 1, src := 0xFFFF, resvAddr := 72, resv := some (1, false), resvWord := 1, resvState := 1, result := 1 }, { wCw with mc := { wCw.mc with windows := [(1, { port := 1, src := 0xFFFF, resvAddr := 72, resv := some (1, false), resvWord := 1, resvState := 1, result := 1 })] } }, by decide⟩

theorem test_reservations_7 : ∃ (k : Fin 32) (x : Window) (s : State), (AMap.get? s.mc.windows (k.val + 1) = some x) ∧ (x.resv = none) :=
  ⟨0, { port := 1, src := 0xFFFF }, wCw, by decide⟩

theorem test_window_discards_1 : ∃ (p : Fin 16) (src : BitVec 12) (g : BitVec 14) (w : Nat) (o : BitVec 28) (x : LineData) (m : ByteMask) (s : State), (reachesWindow s (p.val + 1) src.toNat o.toNat w = true) ∧ (o.toNat / 64 * 64 = 0x2000) ∧ (blockInReset s 3 = false) ∧ (m &&& 0xFF = 0xFF) ∧ (sendsNow s (p.val + 1) 0 = true) :=
  ⟨0, 3, 9, 1, 0x2000, 0xFFFFFFFFFFFFFFFFF, 0x1FF, wCw, by decide⟩

theorem test_window_discards_2 : ∃ (p : Fin 16) (src : BitVec 12) (g : BitVec 14) (w : Nat) (o : BitVec 28) (x : LineData) (m : ByteMask) (s : State), (reachesWindow s (p.val + 1) src.toNat o.toNat w = true) ∧ (o.toNat / 64 * 64 = 0x2040) ∧ (blockInReset s 3 = false) ∧ (m &&& 0xFF = 0xFF) ∧ (sendsNow s (p.val + 1) 0 = true) :=
  ⟨0, 3, 9, 1, 0x2040, 0xFFFFFFFFFFFFFFFFF, 0x1FF, wCw, by decide⟩

theorem test_window_discards_3 : ∃ (p : Fin 16) (src : BitVec 12) (g : BitVec 14) (w : Nat) (o : BitVec 28) (x : LineData) (m : ByteMask) (s : State), (reachesWindow s (p.val + 1) src.toNat o.toNat w = true) ∧ ((0x100000 ≤ o.toNat ∨ cwRegion (o.toNat / 64 * 64) = 0 ∨ cwReadOnly (o.toNat / 64 * 64) = true ∨ m &&& 0xFF = 0)) ∧ (sendsNow s (p.val + 1) 0 = true) :=
  ⟨0, 3, 9, 1, 0x100000, 0xFFFFFFFFFFFFFFFFF, 0x1FF, wCw, by decide⟩

theorem test_window_discards_4 : ∃ (p : Fin 16) (src : BitVec 12) (g : BitVec 14) (w : Nat) (v : BitVec 64) (m : ByteMask) (s : State), (reachesWindow s (p.val + 1) src.toNat 0x2080 w = true) ∧ (m &&& 0xFF = 0xFF) ∧ (blockInReset s 3 = false) ∧ ((getWin s w).discardPages = 0) ∧ (sendsNow s (p.val + 1) 0 = true) :=
  ⟨0, 3, 9, 1, 0xFFFFFFFF00000005, 0xFF, wCw, by decide⟩

theorem test_window_discards_5 : ∃ (p : Fin 16) (src : BitVec 12) (g : BitVec 14) (w : Nat) (v : BitVec 64) (m : ByteMask) (s : State), (reachesWindow s (p.val + 1) src.toNat 0x2080 w = true) ∧ (m &&& 0xFF = 0xFF) ∧ (blockInReset s 3 = false) ∧ ((getWin s w).queue = []) ∧ (0 < (getWin s w).discardPages) ∧ ((getWin s w).discardPages ≤ 16777216) ∧ (portAdmitsPages s (p.val + 1) 65 (getWin s w).discardBase ((getWin s w).discardBase + (getWin s w).discardPages - 1) = true) :=
  ⟨0, 3, 9, 1, 0xFFFFFFFF00000005, 0xFF, { wCw with mc := { wCw.mc with windows := [(1, { port := 1, src := 0xFFFF, discardBase := 65535, discardPages := 1 })] } }, by decide⟩

theorem test_window_discards_6 : ∃ (k : Fin 32) (x : Window) (d : Discard) (s : State), (AMap.get? s.mc.windows (k.val + 1) = some x) ∧ (x.queue = [d]) ∧ ((s.mc.windows.all fun q => q.1 == k.val + 1 || q.2.queue.isEmpty) = true) ∧ (d.active = false) ∧ (d.count = d.next + 1) ∧ (blockInReset s 3 = false) ∧ (s.phase = .running) ∧ (s.wharf.entries = []) ∧ (s.wharf.markers = []) ∧ (s.mc.cb = []) ∧ (s.mc.gone = []) ∧ (s.wharf.lighters = []) ∧ (s.dir.waiting = []) ∧ (s.hc.sectors = []) ∧ ((getRegion s (regionOfPage s (d.base + d.next))).mode ≠ 2) ∧ (isBerthLine ((d.base + d.next) * 64) = false) ∧ (mapGet s (d.base + d.next) = none) ∧ (mapLost s (d.base + d.next) = false) ∧ (repairBlocks s (d.base + d.next) = false) :=
  ⟨0, { port := 1, src := 0xFFFF, queue := [{ base := 5, count := 1, token := 77, started := 0 }], discardState := 1 }, { base := 5, count := 1, token := 77, started := 0 }, { wCw with mc := { wCw.mc with windows := [(1, { port := 1, src := 0xFFFF, queue := [{ base := 5, count := 1, token := 77, started := 0 }], discardState := 1 })] } }, by decide⟩

theorem test_region_drain_1 : ∃ (k : Fin 64) (a : RegionApply) (s : State), (s.mc.applying.find? (fun q => q.region == k.val + 1) = some a) ∧ (((regionPages s (k.val + 1)).any fun pn => s.wharf.pinned.contains pn) = true) :=
  ⟨0, ⟨1, { base := 0, size := 0, mode := 0 }⟩, { wDrain with mc := { (wAgent 1).mc with applying := [⟨1, { base := 0, size := 0, mode := 0 }⟩] }, wharf := { wDrain.wharf with pinned := [0] } }, by decide⟩

theorem test_region_drain_2 : ∃ (k : Fin 64) (a : RegionApply) (s : State), (s.mc.applying.find? (fun q => q.region == k.val + 1) = some a) ∧ (regionPages s (k.val + 1) = []) ∧ (a.def_.mode ≠ 0) :=
  ⟨0, ⟨1, { base := 268435456, size := 268435456, mode := 2 }⟩, { wRun with mc := { (wAgent 1).mc with applying := [⟨1, { base := 268435456, size := 268435456, mode := 2 }⟩] } }, by decide⟩

theorem test_region_drain_3 : ∃ (k : Fin 64) (a : RegionApply) (s : State), (s.mc.applying.find? (fun q => q.region == k.val + 1) = some a) ∧ (regionPages s (k.val + 1) ≠ []) ∧ (((regionPages s (k.val + 1)).any fun pn => s.wharf.pinned.contains pn) = false) :=
  ⟨0, ⟨1, { base := 0, size := 0, mode := 0 }⟩, { wDrain with mc := { (wAgent 1).mc with applying := [⟨1, { base := 0, size := 0, mode := 0 }⟩] } }, by decide⟩

theorem test_bulk_writes_1 : ∃ (p : Fin 16) (src : BitVec 12) (g : BitVec 14) (addr : BitVec 64) (dpa : Nat) (d : Decoder) (mv : MetaValue) (x : LineData) (z : Bool) (s : State), (hostReaches s (p.val + 1) src.toNat addr.toNat dpa d = true) ∧ (inCwRange dpa = false) ∧ (inBerthRange dpa = false) ∧ ((getRegion s d.region).mode ≠ 2) ∧ (tableOpen s (lineOfDpa dpa) = true) ∧ (entersNow s .write (lineOfDpa dpa) = true) ∧ (sendsNow s (p.val + 1) 0 = true) :=
  ⟨0, 3, 9, 64, 64, wDec 1, .i, 77, false, wHost 1, by decide⟩

theorem test_bulk_writes_2 : ∃ (p : Fin 16) (src : BitVec 12) (g : BitVec 14) (addr : BitVec 64) (dpa : Nat) (d : Decoder) (mv : MetaValue) (x : LineData) (m : ByteMask) (z : Bool) (s : State), (hostReaches s (p.val + 1) src.toNat addr.toNat dpa d = true) ∧ (inCwRange dpa = false) ∧ (inBerthRange dpa = false) ∧ ((getRegion s d.region).mode ≠ 2) ∧ (tableOpen s (lineOfDpa dpa) = true) ∧ (entersNow s .write (lineOfDpa dpa) = true) ∧ (sendsNow s (p.val + 1) 0 = true) ∧ (m ≠ fullMask) ∧ (AMap.get? s.mc.cb (lineOfDpa dpa) = none) ∧ ((cbOf s (sliceOfLine (lineOfDpa dpa))).length < 256) :=
  ⟨0, 3, 9, 64, 64, wDec 1, .i, 0x1122334455667788, 3, false, wHost 1, by decide⟩

theorem test_bulk_writes_3 : ∃ (p : Fin 16) (src : BitVec 12) (g : BitVec 14) (addr : BitVec 64) (dpa : Nat) (d : Decoder) (mv : MetaValue) (x : LineData) (m : ByteMask) (z : Bool) (e : CbEntry) (s : State), (hostReaches s (p.val + 1) src.toNat addr.toNat dpa d = true) ∧ (inCwRange dpa = false) ∧ (inBerthRange dpa = false) ∧ ((getRegion s d.region).mode ≠ 2) ∧ (tableOpen s (lineOfDpa dpa) = true) ∧ (entersNow s .write (lineOfDpa dpa) = true) ∧ (sendsNow s (p.val + 1) 0 = true) ∧ (m ≠ fullMask) ∧ (AMap.get? s.mc.cb (lineOfDpa dpa) = some e) ∧ (e.mask ||| m ≠ fullMask) :=
  ⟨0, 3, 9, 64, 64, wDec 1, .i, 0x1122334455667788, 3, true, { data := 5, mask := 6, poison := 0, seq := 0 }, { (wHost 1) with mc := { (wHost 1).mc with cb := [(1, { data := 5, mask := 6, poison := 0, seq := 0 })] } }, by decide⟩

theorem test_bulk_writes_4 : ∃ (l : Nat) (e : CbEntry) (s : State), (s.phase = .running) ∧ (AMap.get? s.mc.cb l = some e) ∧ (e.mask = fullMask) :=
  ⟨1, { data := 5, mask := fullMask, poison := 0, seq := 0 }, { (wHost 1) with mc := { (wHost 1).mc with cb := [(1, { data := 5, mask := fullMask, poison := 0, seq := 0 })] } }, by decide⟩

theorem test_bulk_writes_5 : ∃ (l : Nat) (e : CbEntry) (s : State), (s.phase = .running) ∧ (AMap.get? s.mc.cb l = some e) ∧ (AMap.get? s.wharf.entries l = none) :=
  ⟨1, { data := 5, mask := 1, poison := 1, seq := 0 }, { (wHost 1) with mc := { (wHost 1).mc with cb := [(1, { data := 5, mask := 1, poison := 1, seq := 0 })] } }, by decide⟩

theorem test_bulk_writes_6 : ∃ (p : Fin 16) (src : BitVec 12) (g : BitVec 14) (addr : BitVec 64) (dpa : Nat) (d : Decoder) (mv : MetaValue) (x : LineData) (m : ByteMask) (z : Bool) (e : CbEntry) (s : State), (hostReaches s (p.val + 1) src.toNat addr.toNat dpa d = true) ∧ (inCwRange dpa = false) ∧ (inBerthRange dpa = false) ∧ ((getRegion s d.region).mode ≠ 2) ∧ (tableOpen s (lineOfDpa dpa) = true) ∧ (entersNow s .write (lineOfDpa dpa) = true) ∧ (sendsNow s (p.val + 1) 0 = true) ∧ (m ≠ fullMask) ∧ (AMap.get? s.mc.cb (lineOfDpa dpa) = some e) ∧ (e.mask ||| m = fullMask) :=
  ⟨0, 3, 9, 64, 64, wDec 1, .i, 0x1122334455667788, 0xFFFFFFFFFFFFFFF9, true, { data := 5, mask := 6, poison := 0, seq := 0 }, { (wHost 1) with mc := { (wHost 1).mc with cb := [(1, { data := 5, mask := 6, poison := 0, seq := 0 })] } }, by decide⟩

theorem test_bulk_reads_1 : ∃ (p : Fin 16) (src : BitVec 12) (g : BitVec 14) (addr : BitVec 64) (dpa : Nat) (d : Decoder) (mv : MetaValue) (l : BerthLine) (w : Nat) (s : State), (hostReaches s (p.val + 1) src.toNat addr.toNat dpa d = true) ∧ (inCwRange dpa = false) ∧ (inBerthRange dpa = false) ∧ ((getRegion s d.region).mode ≠ 2) ∧ (tableOpen s (lineOfDpa dpa) = true) ∧ (entersNow s .read (lineOfDpa dpa) = true) ∧ (sendsNow s (p.val + 1) 1 = true) ∧ (hcLookup s (lineOfDpa dpa) = some (l, w)) :=
  ⟨0, 3, 9, 64, 64, wDec 1, .i, { data := 88, poison := 4 }, 0, { (wHost 1) with hc := { (wHost 1).hc with sectors := [(hcKey 0 0, { sector := 0, valid := 2, lines := [{}, { data := 88, poison := 4 }] })] } }.setR Obj.HC_ENABLE 1, ⟨by decide, by decide, by decide, by decide, by decide, by decide, by decide, rfl⟩⟩

theorem test_bulk_reads_2 : ∃ (p : Fin 16) (src : BitVec 12) (g : BitVec 14) (addr : BitVec 64) (dpa : Nat) (d : Decoder) (mv : MetaValue) (e : WEntry) (s : State), (hostReaches s (p.val + 1) src.toNat addr.toNat dpa d = true) ∧ (inCwRange dpa = false) ∧ (inBerthRange dpa = false) ∧ ((getRegion s d.region).mode ≠ 2) ∧ (tableOpen s (lineOfDpa dpa) = true) ∧ (entersNow s .read (lineOfDpa dpa) = true) ∧ (sendsNow s (p.val + 1) 1 = true) ∧ (hcLookup s (lineOfDpa dpa) = none) ∧ (AMap.get? s.mc.cb (lineOfDpa dpa) = none) ∧ (stagedEntry s (lineOfDpa dpa) = some e) ∧ (e.mask = fullMask) :=
  ⟨0, 3, 9, 64, 64, wDec 1, .i, { data := 5, mask := fullMask, poison := true, pos := 0, seq := 0, first := 0 }, { (wHost 1) with wharf := { (wHost 1).wharf with entries := [(1, { data := 5, mask := fullMask, poison := true, pos := 0, seq := 0, first := 0 })] } }, by decide⟩

theorem test_bulk_reads_3 : ∃ (p : Fin 16) (src : BitVec 12) (g : BitVec 14) (addr : BitVec 64) (dpa : Nat) (d : Decoder) (mv : MetaValue) (s : State), (hostReaches s (p.val + 1) src.toNat addr.toNat dpa d = true) ∧ (inCwRange dpa = false) ∧ (inBerthRange dpa = false) ∧ ((getRegion s d.region).mode ≠ 2) ∧ (tableOpen s (lineOfDpa dpa) = true) ∧ (entersNow s .read (lineOfDpa dpa) = true) ∧ (sendsNow s (p.val + 1) 1 = true) ∧ (hcLookup s (lineOfDpa dpa) = none) ∧ (AMap.get? s.mc.cb (lineOfDpa dpa) = none) ∧ (stagedEntry s (lineOfDpa dpa) = none) ∧ (markerCovers s (lineOfDpa dpa) = false) ∧ ((AMap.getD s.hc.pbuf (sliceOfLine (lineOfDpa dpa)) []) = []) ∧ (AMap.get? s.media.pcache (sectorOfLine (lineOfDpa dpa)) = none) ∧ (mapLost s (pageOfLine (lineOfDpa dpa)) = false) ∧ (mapGet s (pageOfLine (lineOfDpa dpa)) = none) :=
  ⟨0, 3, 9, 64, 64, wDec 1, .s, wHost 1, by decide⟩

theorem test_bulk_reads_4 : ∃ (p : Fin 16) (src : BitVec 12) (g : BitVec 14) (addr : BitVec 64) (dpa : Nat) (d : Decoder) (s : State), (hostReaches s (p.val + 1) src.toNat addr.toNat dpa d = true) ∧ (inCwRange dpa = false) ∧ (inBerthRange dpa = false) ∧ ((getRegion s d.region).mode ≠ 2) ∧ (tableOpen s (lineOfDpa dpa) = true) ∧ (entersNow s .read (lineOfDpa dpa) = true) ∧ (sendsNow s (p.val + 1) 1 = true) ∧ (hcLookup s (lineOfDpa dpa) = none) ∧ (AMap.get? s.mc.cb (lineOfDpa dpa) = none) ∧ (stagedEntry s (lineOfDpa dpa) = none) ∧ (markerCovers s (lineOfDpa dpa) = false) ∧ ((AMap.getD s.hc.pbuf (sliceOfLine (lineOfDpa dpa)) []) = []) ∧ (AMap.get? s.media.pcache (sectorOfLine (lineOfDpa dpa)) = none) ∧ (mapLost s (pageOfLine (lineOfDpa dpa)) = false) ∧ (mapGet s (pageOfLine (lineOfDpa dpa)) = none) :=
  ⟨0, 3, 9, 64, 64, wDec 1, wHost 1, by decide⟩

theorem test_bulk_reads_5 : ∃ (p : Fin 16) (src : BitVec 12) (g : BitVec 14) (addr : BitVec 64) (dpa : Nat) (d : Decoder) (mv : MetaValue) (r : BerthRange) (s : State), (hostReaches s (p.val + 1) src.toNat addr.toNat dpa d = true) ∧ (inCwRange dpa = false) ∧ (inBerthRange dpa = true) ∧ (berthAdmits s (dpa / 64) (p.val + 1) = some r) ∧ ((s.hc.mirror.heldAsync.any fun b => b.line == dpa / 64) = false) ∧ (sendsNow s (p.val + 1) 1 = true) :=
  ⟨0, 3, 9, 64, berthBase + 64, { hpa := 0, dpa := berthBase, size := 268435456, bi := false }, .i, { base := 0, size := 1048576, mode := 1, ports := 1 }, { (wMir 0 1) with hp := { wLink.hp with agents := [{ port := 1, src := 0xFFFF, decoders := [(0, { hpa := 0, dpa := berthBase, size := 268435456, bi := false })] }] }, objs := (((((wMir 0 1).setObj (U.port 1) Obj.PORT_ENABLE_STATE 1).setObj (U.port 1) Obj.LINK_STATE 3).setObj (U.port 1) Obj.RATE_NOW 64).setObj (U.port 1) Obj.WIDTH_NOW 16).objs }, by decide⟩

theorem test_berth_writes_1 : ∃ (p : Fin 16) (src : BitVec 12) (g : BitVec 14) (addr : BitVec 64) (dpa : Nat) (d : Decoder) (mv : MetaValue) (x : LineData) (z : Bool) (r : BerthRange) (s : State), (Memory.wf s = true) ∧ (hostReaches s (p.val + 1) src.toNat addr.toNat dpa d = true) ∧ (inCwRange dpa = false) ∧ (inBerthRange dpa = true) ∧ (berthAdmits s (dpa / 64) (p.val + 1) = some r) ∧ (r.mode = 1) ∧ ((s.hc.mirror.heldAsync.any fun b => b.line == dpa / 64) = false) ∧ (dumpBlocked s = false) ∧ (sendsNow s (p.val + 1) 0 = true) :=
  ⟨0, 3, 9, 64, berthBase + 64, { hpa := 0, dpa := berthBase, size := 268435456, bi := false }, .i, 77, false, { base := 0, size := 1048576, mode := 1, ports := 1 }, { (wMir 0 1) with hp := { wLink.hp with agents := [{ port := 1, src := 0xFFFF, decoders := [(0, { hpa := 0, dpa := berthBase, size := 268435456, bi := false })] }] }, objs := (((((wMir 0 1).setObj (U.port 1) Obj.PORT_ENABLE_STATE 1).setObj (U.port 1) Obj.LINK_STATE 3).setObj (U.port 1) Obj.RATE_NOW 64).setObj (U.port 1) Obj.WIDTH_NOW 16).objs }, by decide⟩

theorem test_berth_writes_2 : ∃ (p : Fin 16) (src : BitVec 12) (g : BitVec 14) (addr : BitVec 64) (dpa : Nat) (d : Decoder) (mv : MetaValue) (x : LineData) (m : ByteMask) (z : Bool) (r : BerthRange) (s : State), (Memory.wf s = true) ∧ (hostReaches s (p.val + 1) src.toNat addr.toNat dpa d = true) ∧ (inCwRange dpa = false) ∧ (inBerthRange dpa = true) ∧ (berthAdmits s (dpa / 64) (p.val + 1) = some r) ∧ (r.mode = 1) ∧ ((s.hc.mirror.heldAsync.any fun b => b.line == dpa / 64) = false) ∧ (dumpBlocked s = false) ∧ (sendsNow s (p.val + 1) 0 = true) :=
  ⟨0, 3, 9, 64, berthBase + 64, { hpa := 0, dpa := berthBase, size := 268435456, bi := false }, .i, 77, 1, false, { base := 0, size := 1048576, mode := 1, ports := 1 }, { (wMir 0 1) with hp := { wLink.hp with agents := [{ port := 1, src := 0xFFFF, decoders := [(0, { hpa := 0, dpa := berthBase, size := 268435456, bi := false })] }] }, objs := (((((wMir 0 1).setObj (U.port 1) Obj.PORT_ENABLE_STATE 1).setObj (U.port 1) Obj.LINK_STATE 3).setObj (U.port 1) Obj.RATE_NOW 64).setObj (U.port 1) Obj.WIDTH_NOW 16).objs }, by decide⟩

theorem test_coherent_grants_1 : ∃ (p : Fin 16) (src : BitVec 12) (g : BitVec 14) (addr : BitVec 64) (dpa : Nat) (d : Decoder) (k : Nat) (s : State), (hostReaches s (p.val + 1) src.toNat addr.toNat dpa d = true) ∧ (inCwRange dpa = false) ∧ (inBerthRange dpa = false) ∧ ((getRegion s d.region).mode = 2) ∧ (slotOf s (p.val + 1) (srcOf s (p.val + 1) src.toNat) = some k) ∧ (k < 32) ∧ (domainOpen s k (lineOfDpa dpa) = true) ∧ ((s.wharf.held.any fun b => b.line == (lineOfDpa dpa)) = false) ∧ (dirWay s (sectorOfLine (lineOfDpa dpa)) = none) ∧ (dirFree s (sectorOfLine (lineOfDpa dpa)) = true) ∧ (d.hint = 0) ∧ (sendsNow s (p.val + 1) 0 = true) :=
  ⟨0, 3, 9, 64, 64, wDec 2, 0, wCoh, by decide⟩

theorem test_coherent_grants_2 : ∃ (p : Fin 16) (src : BitVec 12) (g : BitVec 14) (addr : BitVec 64) (dpa : Nat) (d : Decoder) (k : Nat) (s : State), (hostReaches s (p.val + 1) src.toNat addr.toNat dpa d = true) ∧ (inCwRange dpa = false) ∧ (inBerthRange dpa = false) ∧ ((getRegion s d.region).mode = 2) ∧ (slotOf s (p.val + 1) (srcOf s (p.val + 1) src.toNat) = some k) ∧ (k < 32) ∧ (domainOpen s k (lineOfDpa dpa) = true) ∧ ((s.wharf.held.any fun b => b.line == (lineOfDpa dpa)) = false) ∧ (dirWay s (sectorOfLine (lineOfDpa dpa)) = none) ∧ (dirFree s (sectorOfLine (lineOfDpa dpa)) = true) ∧ (d.hint = 0) :=
  ⟨0, 3, 9, 64, 64, wDec 2, 0, wCoh, by decide⟩

theorem test_coherent_grants_3 : ∃ (p : Fin 16) (src : BitVec 12) (g : BitVec 14) (addr : BitVec 64) (dpa : Nat) (d : Decoder) (k : Nat) (s : State), (hostReaches s (p.val + 1) src.toNat addr.toNat dpa d = true) ∧ (inCwRange dpa = false) ∧ (inBerthRange dpa = false) ∧ ((getRegion s d.region).mode = 2) ∧ (slotOf s (p.val + 1) (srcOf s (p.val + 1) src.toNat) = some k) ∧ (k < 32) ∧ (domainOpen s k (lineOfDpa dpa) = true) ∧ ((s.wharf.held.any fun b => b.line == (lineOfDpa dpa)) = false) ∧ (dirWay s (sectorOfLine (lineOfDpa dpa)) = none) ∧ (dirFree s (sectorOfLine (lineOfDpa dpa)) = true) ∧ (d.hint = 0) :=
  ⟨0, 3, 9, 64, 64, wDec 2, 0, wCoh, by decide⟩

theorem test_coherent_grants_4 : ∃ (p : Fin 16) (src : BitVec 12) (g : BitVec 14) (addr : BitVec 64) (dpa : Nat) (d : Decoder) (s : State), (hostReaches s (p.val + 1) src.toNat addr.toNat dpa d = true) ∧ (inCwRange dpa = false) ∧ (inBerthRange dpa = false) ∧ ((getRegion s d.region).mode ≠ 2) ∧ (sendsNow s (p.val + 1) 0 = true) :=
  ⟨0, 3, 9, 64, 64, wDec 1, wHost 1, by decide⟩

theorem test_coherent_grants_5 : ∃ (p : Fin 16) (src : BitVec 12) (g : BitVec 14) (addr : BitVec 64) (dpa : Nat) (d : Decoder) (s : State), (hostReaches s (p.val + 1) src.toNat addr.toNat dpa d = true) ∧ (inCwRange dpa = false) ∧ (inBerthRange dpa = false) ∧ ((getRegion s d.region).mode ≠ 2) ∧ (sendsNow s (p.val + 1) 0 = true) :=
  ⟨0, 3, 9, 64, 64, wDec 1, wHost 1, by decide⟩

theorem test_coherent_grants_6 : ∃ (p : Fin 16) (src : BitVec 12) (g : BitVec 14) (addr : BitVec 64) (dpa : Nat) (d : Decoder) (s : State), (hostReaches s (p.val + 1) src.toNat addr.toNat dpa d = true) ∧ (inCwRange dpa = false) ∧ (inBerthRange dpa = false) ∧ ((getRegion s d.region).mode ≠ 2) :=
  ⟨0, 3, 9, 64, 64, wDec 1, wHost 1, by decide⟩

theorem test_coherent_grants_7 : ∃ (p : Fin 16) (src : BitVec 12) (g : BitVec 14) (addr : BitVec 64) (dpa : Nat) (d : Decoder) (s : State), (hostReaches s (p.val + 1) src.toNat addr.toNat dpa d = true) ∧ (inCwRange dpa = false) ∧ (sendsNow s (p.val + 1) 0 = true) ∧ (s.dir.acks = []) ∧ (s.ml.reads = []) ∧ (s.dir.waiting = []) ∧ (s.dir.txs = []) :=
  ⟨0, 3, 9, 64, 64, wDec 2, wCoh, by decide⟩

theorem test_snoops_and_recalls_1 : ∃ (p : Fin 16) (src : BitVec 12) (l : Nat) (r : BiRsp) (b : Bool) (s : State), (linkMem s (p.val + 1) = true) ∧ (fencedWhole s (p.val + 1) = false) ∧ (s.phase = .running) ∧ (s.dir.snoops.find? (fun q => q.port == p.val + 1 && q.src == srcOf s (p.val + 1) src.toNat && q.line == l && q.sent) = none) :=
  ⟨0, 3, 9, .i, false, wSnoop false 1, by decide⟩

theorem test_snoops_and_recalls_2 : ∃ (p : Fin 16) (src : BitVec 12) (l : Nat) (r : BiRsp) (q : Snoop) (s : State), (linkMem s (p.val + 1) = true) ∧ (fencedWhole s (p.val + 1) = false) ∧ (s.phase = .running) ∧ (s.dir.snoops.find? (fun q => q.port == p.val + 1 && q.src == srcOf s (p.val + 1) src.toNat && q.line == l && q.sent) = some q) ∧ (rspAllowed q.kind r = false) :=
  ⟨0, 3, 9, .e, { id := 5, tx := 4, slot := 0, port := 1, src := 0xFFFF, line := 9, kind := 1, sent := true }, wSnoop true 1, by decide⟩

theorem test_snoops_and_recalls_3 : ∃ (p : Fin 16) (src : BitVec 12) (l : Nat) (q : Snoop) (x : Tx) (a : Acc) (s : State), (linkMem s (p.val + 1) = true) ∧ (fencedWhole s (p.val + 1) = false) ∧ (s.phase = .running) ∧ (s.dir.snoops.find? (fun q => q.port == p.val + 1 && q.src == srcOf s (p.val + 1) src.toNat && q.line == l && q.sent) = some q) ∧ (findTx s q.tx = some x) ∧ (x.kind = 0) ∧ (x.accs = [a]) ∧ (a.kind = .inv) ∧ ((s.dir.snoops.all fun y => y.id == q.id || y.tx != q.tx) = true) ∧ (responds s a.port = true) ∧ (sendsNow s a.port 0 = true) :=
  ⟨0, 3, 9, { id := 5, tx := 4, slot := 0, port := 1, src := 0xFFFF, line := 9, kind := 1, sent := true }, ((wSnoop true 1).dir.txs.headD { id := 0, kind := 0, sector := 0, since := 0 }), { id := 1, port := 1, src := 0xFFFF, tag := 77, kind := .inv, line := 9, db := true, slot := 1 }, wSnoop true 1, by decide⟩

theorem test_snoops_and_recalls_4 : ∃ (i : Nat) (q : Snoop) (s : State), (s.dir.snoops.find? (fun x => x.id == i) = some q) ∧ (q.sent = false) ∧ (linkMem s q.port = true) ∧ (fencedLocal s q.port = false) ∧ (sendsNow s q.port 2 = true) ∧ (s.phase = .running) :=
  ⟨5, { id := 5, tx := 4, slot := 0, port := 1, src := 0xFFFF, line := 9, kind := 3, sent := false }, wSnoop false 3, by decide⟩

theorem test_snoops_and_recalls_5 : ∃ (p : Fin 16) (a b c : BitVec 16) (s : State), (linkMem s (p.val + 1) = true) ∧ ((getPort s (p.val + 1)).outq = []) ∧ ((s.dir.snoops.all fun q => q.port != p.val + 1 || q.sent) = true) :=
  ⟨0, 65535, 1, 2, wCoh, by decide⟩

theorem test_snoops_and_recalls_6 : ∃ (p : Fin 16) (a b c : BitVec 16) (m : S2mMsg) (r : List S2mMsg) (s : State), (responds s (p.val + 1) = true) ∧ ((getPort s (p.val + 1)).outq = m :: r) ∧ (0 < (getPort s (p.val + 1)).credit m.cls + (if m.cls = 0 then a.toNat else if m.cls = 1 then b.toNat else c.toNat)) :=
  ⟨0, 1, 0, 0, { cls := 0, msg := .ndr 1 5 0 0 }, [], putPort wCoh 1 { getPort wCoh 1 with ndr := 0, outq := [{ cls := 0, msg := .ndr 1 5 0 0 }] }, by decide⟩

theorem test_snoops_and_recalls_7 : ∃ (sl : Fin 16) (n : Nat) (r : Retry) (s : State), (s.dir.retry.find? (fun r => sliceOfLine r.acc.line == sl.val && dirSet (sectorOfLine r.acc.line) == n) = some r) ∧ (dirFree s (sectorOfLine r.acc.line) = true) ∧ (dirWay s (sectorOfLine r.acc.line) = none) ∧ (r.acc.kind = .inv) ∧ (r.acc.db = true) ∧ (r.acc.slot < 32) ∧ (responds s r.acc.port = true) ∧ (sendsNow s r.acc.port 0 = true) ∧ (waitsBehind (updDir s fun x => { x with retry := s.dir.retry.filter (fun q => q.acc.id != r.acc.id) }) r.acc [] = false) ∧ (r.acc.tx = true) :=
  ⟨BitVec.toFin (BitVec.ofNat 4 (sliceOfLine 9)), dirSet 1, { acc := { id := 1, port := 1, src := 0xFFFF, tag := 77, kind := .inv, line := 9, db := true, slot := 0, tx := true }, since := 0 }, { wCoh with now := 4000, dir := { wCoh.dir with retry := [{ acc := { id := 1, port := 1, src := 0xFFFF, tag := 77, kind := .inv, line := 9, db := true, slot := 0, tx := true }, since := 0 }] } }, by decide⟩

theorem test_snoops_and_recalls_8 : ∃ (i : Nat) (r : Retry) (s : State), (s.phase = .running) ∧ (domainIsDown s = false) ∧ (s.dir.walking = false) ∧ (s.dir.retry.find? (fun r => r.acc.id == i) = some r) :=
  ⟨1, { acc := { id := 1, port := 1, src := 0xFFFF, tag := 77, kind := .inv, line := 9, db := true, slot := 0 }, since := 0 }, { wCoh with dir := { wCoh.dir with retry := [{ acc := { id := 1, port := 1, src := 0xFFFF, tag := 77, kind := .inv, line := 9, db := true, slot := 0 }, since := 0 }] } }, by decide⟩

theorem test_snoops_and_recalls_9 : ∃ (i : Nat) (q : Snoop) (s : State), (s.phase = .running) ∧ (domainIsDown s = false) ∧ (s.dir.walking = false) ∧ (s.dir.snoops.find? (fun q => q.id == i) = some q) :=
  ⟨5, { id := 5, tx := 4, slot := 0, port := 1, src := 0xFFFF, line := 9, kind := 1, sent := true }, wSnoop true 1, by decide⟩

theorem test_snoops_and_recalls_10 : ∃ (s : State), (s.dir.walking = true) :=
  ⟨{ (wSnoop true 1) with dir := { (wSnoop true 1).dir with walking := true, txs := [], snoops := [], walkLines := [9], downRec := [1, 0, 1, 0, 576, 0, 0] } }, by decide⟩

theorem test_home_cache_completions_1 : ∃ (s : State), (s.hc.invalidating = true) :=
  ⟨{ (wRun.setR Obj.HC_STALE_RISK 1) with hc := { wRun.hc with invalidating := true } }, by decide⟩

theorem test_home_cache_completions_2 : ∃ (sl : Fin 16) (k w v : Nat) (s : State), (s.hc.copies.find? (fun c => c.1 == sl.val) = some (k, w, v)) :=
  ⟨3, 3, 15, 9, { wRun with hc := { wRun.hc with copies := [(3, 15, 9)], berthWays := [(3, [15, 14])] } }, by decide⟩

theorem test_home_cache_completions_3 : ∃ (i : Nat) (r : MediaRead) (p : StoredPage) (s : State), (s.ml.reads.find? (fun q => q.id == i && q.why == .prefetch && q.stage != 3) = some r) ∧ (r.page = some p) ∧ (sectorErased s p = false) ∧ (s.dp.poisonAt.contains (r.ppn * 8 + r.sector) = false) ∧ (s.dp.markedAt.contains (r.ppn * 8 + r.sector) = false) :=
  ⟨7, { id := 7, why := .prefetch, pn := 0, sector := 0, ppn := 0, stage := 1, page := some { pn := 0, domain := 1, wseq := 9 } }, { pn := 0, domain := 1, wseq := 9 }, { (wRead 1 .prefetch) with ml := { (wRead 1 .prefetch).ml with reads := [{ id := 7, why := .prefetch, pn := 0, sector := 0, ppn := 0, stage := 1, page := some { pn := 0, domain := 1, wseq := 9 } }] }, objs := AMap.set wRun.objs (objKey U.root (Obj.KEY_ERASE_SEQ + 1)) 5 }, by decide⟩

theorem test_home_cache_completions_4 : ∃ (i : Nat) (r : MediaRead) (p : StoredPage) (s : State), (s.ml.reads.find? (fun q => q.id == i && q.why == .prefetch && q.stage != 3) = some r) ∧ (r.page = some p) ∧ (sectorErased s p = true) ∧ (s.dp.poisonAt.contains (r.ppn * 8 + r.sector) = false) ∧ (mapGet s r.pn = some r.ppn) ∧ (s.mc.discarding.contains r.pn = false) :=
  ⟨7, { id := 7, why := .prefetch, pn := 0, sector := 0, ppn := 0, stage := 1, page := some { pn := 0, domain := 1, wseq := 1 } }, { pn := 0, domain := 1, wseq := 1 }, { (wRead 1 .prefetch) with ml := { (wRead 1 .prefetch).ml with reads := [{ id := 7, why := .prefetch, pn := 0, sector := 0, ppn := 0, stage := 1, page := some { pn := 0, domain := 1, wseq := 1 } }] }, objs := AMap.set wRun.objs (objKey U.root (Obj.KEY_ERASE_SEQ + 1)) 5, media := { wRun.media with map := [(0, 0)] } }, by decide⟩

theorem test_home_cache_completions_5 : ∃ (i : Nat) (r : MediaRead) (p : StoredPage) (s : State), (s.ml.reads.find? (fun q => q.id == i) = some r) ∧ (r.why = .prefetch) ∧ (r.stage = 3) ∧ (r.page = some p) ∧ (p.pn = r.pn) ∧ (mapGet s r.pn = some r.ppn) ∧ (s.mc.discarding.contains r.pn = false) ∧ (s.dp.poisonAt.contains (r.ppn * 8 + r.sector) = false) ∧ (s.dp.markedAt.contains (r.ppn * 8 + r.sector) = false) :=
  ⟨7, { id := 7, why := .prefetch, pn := 0, sector := 0, ppn := 0, stage := 3, page := some { pn := 0, domain := 1, wseq := 9 } }, { pn := 0, domain := 1, wseq := 9 }, { (wRead 1 .prefetch) with ml := { (wRead 1 .prefetch).ml with reads := [{ id := 7, why := .prefetch, pn := 0, sector := 0, ppn := 0, stage := 3, page := some { pn := 0, domain := 1, wseq := 9 } }] }, objs := AMap.set wRun.objs (objKey U.root (Obj.KEY_ERASE_SEQ + 1)) 5, media := { wRun.media with map := [(0, 0)] } }, by decide⟩

theorem test_home_cache_completions_6 : ∃ (i : Nat) (s : State), (s.ml.reads.find? (fun q => q.id == i && q.why == .prefetch) ≠ none) :=
  ⟨7, wRead 1 .prefetch, by decide⟩

theorem test_home_cache_completions_7 : ∃ (v : Nat) (s : State), (s.hc.growing = some v) :=
  ⟨6, { wRun with hc := { wRun.hc with growing := some 6 } }, by decide⟩

theorem test_home_cache_completions_8 : ∃ (i : Nat) (b : Bool) (r : MediaRead) (s : State), (s.ml.reads.find? (fun q => q.id == i && q.why == .prefetch) = some r) ∧ ((s.dp.poisonAt.contains (r.ppn * 8 + r.sector) = true ∨ s.dp.markedAt.contains (r.ppn * 8 + r.sector) = true)) :=
  ⟨7, false, { id := 7, why := .prefetch, pn := 0, sector := 0, ppn := 0, stage := 1, members := [1, 2] }, { wRead 1 .prefetch with dp := { wRun.dp with poisonAt := [0] } }, by decide⟩

theorem test_mirror_handshakes_1 : ∃ (sid : BitVec 32) (n : BitVec 128) (f : BitVec 256) (g : BitVec 32) (i : Bool) (rs : List (Nat × Nat × Nat)) (s : State), ((mirState s = 1 ∨ mirState s = 4)) ∧ (mirrorPort s ≠ 0) ∧ (peerProves s sid.toNat n f = false) :=
  ⟨9, 3, 0, 0, true, [], wMir 1 2, by decide⟩

theorem test_mirror_handshakes_2 : ∃ (sid : BitVec 32) (n : BitVec 128) (f : BitVec 256) (g : BitVec 32) (i : Bool) (rs : List (Nat × Nat × Nat)) (s : State), ((mirState s = 1 ∨ mirState s = 4)) ∧ (mirrorPort s = 0) :=
  ⟨9, 3, 0, 0, true, [], (wMir 1 2).setR Obj.MIRROR_NET_PORTS 0, by decide⟩

theorem test_mirror_handshakes_3 : ∃ (sid : BitVec 32) (n : BitVec 128) (f : BitVec 256) (g : BitVec 32) (i : Bool) (rs : List (Nat × Nat × Nat)) (s : State), ((mirState s = 1 ∨ mirState s = 4)) ∧ (mirrorPort s ≠ 0) ∧ (peerProves s sid.toNat n f = true) ∧ (s.robj Obj.PAIR_GENERATION < g.toNat) :=
  ⟨9, 3, wProof (wKey 4 2) 9 3, 4294967295, true, [], wKey 4 2, by decide, by decide, proves_self _ _ _ (by decide), by decide⟩

theorem test_mirror_handshakes_4 : ∃ (sid : BitVec 32) (n : BitVec 128) (f : BitVec 256) (g : BitVec 32) (i : Bool) (rs : List (Nat × Nat × Nat)) (s : State), ((mirState s = 1 ∨ mirState s = 4)) ∧ (mirrorPort s ≠ 0) ∧ (peerProves s sid.toNat n f = true) ∧ (s.robj Obj.PAIR_GENERATION = g.toNat) ∧ (rangesMatch (mirrorTable s) rs = false) :=
  ⟨9, 3, wProof (wKey 1 2) 9 3, 0, true, [(0, 1048576, 2)], wKey 1 2, by decide, by decide, proves_self _ _ _ (by decide), by decide, by decide⟩

theorem test_mirror_handshakes_5 : ∃ (sid : BitVec 32) (n : BitVec 128) (f : BitVec 256) (g : BitVec 32) (i : Bool) (rs : List (Nat × Nat × Nat)) (s : State), ((mirState s = 1 ∨ mirState s = 4)) ∧ (mirrorPort s ≠ 0) ∧ (peerProves s sid.toNat n f = true) ∧ (s.robj Obj.PAIR_GENERATION = g.toNat) ∧ (rangesMatch (mirrorTable s) rs = true) :=
  ⟨9, 3, wProof (wKey 1 2) 9 3, 0, true, [(0, 1048576, 4)], wKey 1 2, by decide, by decide, proves_self _ _ _ (by decide), by decide, by decide⟩

theorem test_mirror_handshakes_6 : ∃ (s : State), ((mirState s = 1 ∨ mirState s = 4)) ∧ (mirrorPort s ≠ 0) :=
  ⟨wMir 1 2, by decide⟩

theorem test_mirror_handshakes_7 : ∃ (s : State), ((mirState s = 1 ∨ mirState s = 4)) ∧ (mirrorPort s = 0) :=
  ⟨(wMir 1 2).setR Obj.MIRROR_NET_PORTS 2, by decide⟩

theorem test_mirror_handshakes_8 : ∃ (s : State), ((mirState s = 6 ∨ mirState s = 7)) :=
  ⟨wMir 6 2, by decide⟩

theorem test_mirror_handshakes_9 : ∃ (sid : BitVec 32) (n : BitVec 128) (f : BitVec 256) (g : BitVec 32) (i : Bool) (rs : List (Nat × Nat × Nat)) (s : State), ((mirState s = 1 ∨ mirState s = 4)) ∧ (mirrorPort s ≠ 0) ∧ (peerProves s sid.toNat n f = true) ∧ (g.toNat < s.robj Obj.PAIR_GENERATION) :=
  ⟨9, 3, wProof ((wKey 1 2).setR Obj.PAIR_GENERATION 8) 9 3, 7, false, [(0, 1048576, 4)], (wKey 1 2).setR Obj.PAIR_GENERATION 8, by decide, by decide, proves_self _ _ _ (by decide), by decide⟩

theorem test_mirror_frames_received_1 : ∃ (f : MirrorFrame) (s : State), (mirrorUp s = true) ∧ (frameOk s 1 f = true) ∧ (f.generation.toNat = s.robj Obj.PAIR_GENERATION) ∧ (f.seq.toNat = s.hc.mirror.rxSeq + 1) :=
  ⟨wFrame (wMir 3 4) 1 { mac := 0, generation := 0, seq := 1, ackSeq := 0, sync := false, records := [] }, wMir 3 4, by decide, frame_self _ _ _, by decide, by decide⟩

theorem test_mirror_frames_received_2 : ∃ (f : MirrorFrame) (l : BitVec 21) (m : ByteMask) (d : LineData) (i : Nat) (g : BerthRange) (s : State), (mirrorUp s = true) ∧ (frameOk s 1 f = true) ∧ (f.generation.toNat = s.robj Obj.PAIR_GENERATION) ∧ (f.seq.toNat = s.hc.mirror.rxSeq + 1) ∧ (Memory.wf s = true) ∧ (f.records = [(l, m, d)]) ∧ (rangeOf s (berthOff (berthBase / 64 + l.toNat)) = some (i, g)) ∧ (g.mode = 4) ∧ (berthOff (berthBase / 64 + l.toNat) < berthSize s) :=
  ⟨wFrame (wMir 3 4) 1 { mac := 0, generation := 0, seq := 1, ackSeq := 0, sync := false, records := [(16383, 1, 255)] }, 16383, 1, 255, 1, { base := 0, size := 1048576, mode := 4, ports := 1 }, wMir 3 4, by decide, frame_self _ _ _, by decide, by decide, by decide, by decide, by decide, by decide, by decide⟩

theorem test_mirror_frames_received_3 : ∃ (f : MirrorFrame) (s : State), (mirrorUp s = true) ∧ (frameOk s 1 f = true) ∧ (f.generation.toNat = s.robj Obj.PAIR_GENERATION) ∧ (f.seq.toNat ≠ s.hc.mirror.rxSeq + 1) :=
  ⟨wFrame (wMir 3 4) 1 { mac := 0, generation := 0, seq := 2, ackSeq := 0, sync := false, records := [(16383, 1, 255)] }, wMir 3 4, by decide, frame_self _ _ _, by decide, by decide⟩

theorem test_mirror_frames_received_4 : ∃ (f : MirrorFrame) (s : State), (mirrorUp s = true) ∧ (frameOk s 4 f = true) ∧ (f.generation.toNat = s.robj Obj.PAIR_GENERATION) ∧ (f.seq.toNat = s.hc.mirror.rxSeq + 1) :=
  ⟨wFrame (wMir 3 4) 4 { mac := 0, generation := 0, seq := 1, ackSeq := 0, sync := false, records := [] }, wMir 3 4, by decide, frame_self _ _ _, by decide, by decide⟩

theorem test_mirror_frames_received_5 : ∃ (f : MirrorFrame) (l : BitVec 21) (m : ByteMask) (d : LineData) (i : Nat) (g : BerthRange) (s : State), (mirrorUp s = true) ∧ (frameOk s 4 f = true) ∧ (f.generation.toNat = s.robj Obj.PAIR_GENERATION) ∧ (f.seq.toNat = s.hc.mirror.rxSeq + 1) ∧ (Memory.wf s = true) ∧ (f.records = [(l, m, d)]) ∧ (rangeOf s (berthOff (berthBase / 64 + l.toNat)) = some (i, g)) ∧ (g.mode = 4) ∧ (berthOff (berthBase / 64 + l.toNat) < berthSize s) :=
  ⟨wFrame (wMir 3 4) 4 { mac := 0, generation := 0, seq := 1, ackSeq := 0, sync := false, records := [(16383, 1, 255)] }, 16383, 1, 255, 1, { base := 0, size := 1048576, mode := 4, ports := 1 }, wMir 3 4, by decide, frame_self _ _ _, by decide, by decide, by decide, by decide, by decide, by decide, by decide⟩

theorem test_mirror_frames_received_6 : ∃ (f : MirrorFrame) (s : State), (mirrorUp s = true) ∧ (frameOk s 4 f = true) ∧ (f.generation.toNat = s.robj Obj.PAIR_GENERATION) ∧ (f.seq.toNat ≠ s.hc.mirror.rxSeq + 1) :=
  ⟨wFrame (wMir 3 4) 4 { mac := 0, generation := 0, seq := 2, ackSeq := 0, sync := false, records := [(16383, 1, 255)] }, wMir 3 4, by decide, frame_self _ _ _, by decide, by decide⟩

theorem test_mirror_frames_received_7 : ∃ (f : MirrorFrame) (s : State), (mirrorUp s = true) ∧ (frameOk s 2 f = true) ∧ (f.generation.toNat = s.robj Obj.PAIR_GENERATION) ∧ (s.hc.mirror.acked < f.ackSeq.toNat) ∧ (f.ackSeq.toNat ≤ s.hc.mirror.txSeq) :=
  ⟨wFrame (updMirror (wMir 3 4) fun m => { m with txSeq := 3, heldSync := [(2, { id := 1, kind := .write, line := 0 }), (3, { id := 2, kind := .write, line := 0 })] }) 2 { mac := 0, generation := 0, seq := 1, ackSeq := 2, sync := false, records := [] }, updMirror (wMir 3 4) fun m => { m with txSeq := 3, heldSync := [(2, { id := 1, kind := .write, line := 0 }), (3, { id := 2, kind := .write, line := 0 })] }, by decide, frame_self _ _ _, by decide, by decide, by decide⟩

theorem test_mirror_frames_received_8 : ∃ (f : MirrorFrame) (s : State), (mirrorUp s = true) ∧ (frameOk s 2 f = true) ∧ (f.generation.toNat = s.robj Obj.PAIR_GENERATION) ∧ ((f.ackSeq.toNat ≤ s.hc.mirror.acked ∨ s.hc.mirror.txSeq < f.ackSeq.toNat)) :=
  ⟨wFrame (wMir 3 4) 2 { mac := 0, generation := 0, seq := 1, ackSeq := 4, sync := false, records := [] }, wMir 3 4, by decide, frame_self _ _ _, by decide, by decide⟩

theorem test_mirror_frames_received_9 : ∃ (f : MirrorFrame) (s : State), (mirrorUp s = true) ∧ (frameOk s 3 f = true) ∧ (f.generation.toNat = s.robj Obj.PAIR_GENERATION) ∧ (s.hc.mirror.acked < f.ackSeq.toNat) ∧ (f.ackSeq.toNat ≤ s.hc.mirror.txSeq) :=
  ⟨wFrame (updMirror (wMir 3 4) fun m => { m with txSeq := 3, heldSync := [(2, { id := 1, kind := .write, line := 0 }), (3, { id := 2, kind := .write, line := 0 })] }) 3 { mac := 0, generation := 0, seq := 1, ackSeq := 2, sync := false, records := [] }, updMirror (wMir 3 4) fun m => { m with txSeq := 3, heldSync := [(2, { id := 1, kind := .write, line := 0 }), (3, { id := 2, kind := .write, line := 0 })] }, by decide, frame_self _ _ _, by decide, by decide, by decide⟩

theorem test_mirror_frames_received_10 : ∃ (f : MirrorFrame) (s : State), (mirrorUp s = true) ∧ (frameOk s 3 f = true) ∧ (f.generation.toNat = s.robj Obj.PAIR_GENERATION) ∧ ((f.ackSeq.toNat ≤ s.hc.mirror.acked ∨ s.hc.mirror.txSeq < f.ackSeq.toNat)) :=
  ⟨wFrame (wMir 3 4) 3 { mac := 0, generation := 0, seq := 1, ackSeq := 4, sync := false, records := [] }, wMir 3 4, by decide, frame_self _ _ _, by decide, by decide⟩

theorem test_mirror_frames_received_11 : ∃ (f : MirrorFrame) (s : State), (mirrorUp s = true) ∧ (frameOk s 5 f = true) ∧ (f.generation.toNat = s.robj Obj.PAIR_GENERATION) :=
  ⟨wFrame (wMir 2 4) 5 { mac := 0, generation := 0, seq := 1, ackSeq := 0, sync := false, records := [] }, wMir 2 4, by decide, frame_self _ _ _, by decide⟩

theorem test_mirror_frames_received_12 : ∃ (f : MirrorFrame) (s : State), (mirrorUp s = true) ∧ ((frameOk s 1 f = false ∨ f.generation.toNat ≠ s.robj Obj.PAIR_GENERATION)) :=
  ⟨{ mac := 0, generation := 7, seq := 1, ackSeq := 0, sync := false, records := [(16383, 1, 255)] }, wMir 3 4, by decide, .inr (by decide)⟩

theorem test_mirror_timers_1 : ∃ (p : Nat) (r : List Nat) (s : State), (mirState s = 2) ∧ (s.hc.mirror.toSend = p :: r) :=
  ⟨255, [], updMirror (wMir 2 2) fun m => { m with toSend := [255], resyncing := true }, by decide⟩

theorem test_mirror_timers_2 : ∃ (s : State), (mirrorUp s = true) ∧ (s.hc.mirror.ackOwed = true) :=
  ⟨updMirror (wMir 3 4) fun m => { m with ackOwed := true, rxSeq := 5 }, by decide⟩

theorem test_mirror_timers_3 : ∃ (s : State), (mirrorUp s = true) ∧ (s.hc.mirror.unacked ≠ []) :=
  ⟨{ (updMirror (wMir 3 2) fun m => { m with txSeq := 1, unacked := [{ seq := 1, resync := false, sync := true, recs := [] }] }) with now := 9 }, by decide⟩

theorem test_mirror_timers_4 : ∃ (s : State), (mirrorUp s = true) :=
  ⟨wMir 2 2, by decide⟩

theorem test_mirror_timers_5 : ∃ (a : Acc) (r : List Acc) (s : State), (s.hc.mirror.heldAsync = a :: r) ∧ (berthHolds s a [] = false) :=
  ⟨{ id := 9, port := 1, kind := .write, line := 5497558138880, data := 3, mask := 1 }, [], updMirror ((wMir 3 3).setR Obj.MIRROR_LAG_MAX 1) fun m => { m with heldAsync := [{ id := 9, port := 1, kind := .write, line := 5497558138880, data := 3, mask := 1 }] }, by decide⟩

theorem test_mirror_timers_6 : ∃ (s : State), (mirrorUp s = true) :=
  ⟨updMirror (wMir 3 2) fun m => { m with txSeq := 1, unacked := [{ seq := 1, resync := false, sync := true, recs := [] }], heldSync := [(1, { id := 1, kind := .write, line := 0 })] }, by decide⟩

theorem test_mirror_timers_7 : ∃ (s : State), (mirrorUp s = false) :=
  ⟨wMir 4 2, by decide⟩

theorem test_wharf_commands_1 : ∃ (sl : Fin 16) (p : Fin 5) (l : Lighter) (s : State), (s.wharf.lighters.find? (fun x => x.slice == sl.val && x.prio == p.val && x.state == 0) = some l) :=
  ⟨15, 4, { id := 2, slice := 15, prio := 4 }, { wRun with wharf := { wRun.wharf with lighters := [{ id := 2, slice := 15, prio := 4 }] } }, by decide⟩

theorem test_wharf_commands_2 : ∃ (sl : Fin 16) (a b : Nat) (s : State), (¬ sl.val ∈ s.wharf.queueReset) :=
  ⟨0, 1, 2, wDrain, by decide⟩

theorem test_wharf_commands_3 : ∃ (sl : Fin 16) (l : Lighter) (g n st : Nat) (s s1 : State), (drainRuns s = true) ∧ (¬ sl.val ∈ s.wharf.queueReset) ∧ (blockInReset s 1 = false) ∧ (s.cs.reset_ = 0) ∧ (s.robj Obj.ENTRY_STATE ≠ 1) ∧ (nextLighter s sl.val = some l) ∧ (s.dp.wseqEnded = false) ∧ ((l.pages.filter fun d => !d.cancelled) ≠ []) ∧ (lighterPurpose l = 0) ∧ (g = drainGroup (leaveP2 s)) ∧ (noSpare (leaveP2 s) g = false) ∧ (reclaimStep (leaveP2 s) g ≠ 6) ∧ (st = (((l.pages.filter fun d => !d.cancelled).head?.map (pageStream (leaveP2 s))).getD 0)) ∧ (findOpenSet (leaveP2 s) sl.val g 0 st = (some n, s1)) :=
  ⟨0, { id := 0, slice := 0, prio := 2, state := 1, pages := [{ pn := 0, lines := 1 }] }, 0, 4096, 1, { wDrain with media := { wDrain.media with sets := [(4096, { state := 1, slice := 0, next := 3 }), (1052672, { state := 1 })] } }, { wDrain with media := { wDrain.media with sets := [(4096, { state := 1, slice := 0, next := 3 }), (1052672, { state := 1 })] } }, by refine ⟨by decide, by decide, by decide, by decide, by decide, by decide, by decide, by decide, by decide, by decide, by decide, by decide, by decide, rfl⟩⟩

theorem test_wharf_commands_4 : ∃ (i : Nat) (j : Fin 15) (l : Lighter) (s : State), (findLighter s i = some l) ∧ (drainEnds s = true) ∧ (l.state = 2) ∧ (bitOf l.plates j = true) ∧ (bitOf l.programming j = true) ∧ (¬ j.val ∈ l.waitCommit) ∧ (opRuns s (l.group - 1) (plateStack s l j) (l.stripe / 256) (programTok (stripeKey (l.group - 1) l.stripe)) = true) :=
  ⟨3, 0, { id := 3, slice := 0, prio := 2, state := 2, pages := [{ pn := 0, cancelled := true }], group := 1, stripe := 4096 * 256, plates := 1, programming := 1 }, wExec, by decide⟩

theorem test_wharf_commands_5 : ∃ (i : Nat) (j : Fin 15) (r : PlateResult) (l : Lighter) (s : State), (findLighter s i = some l) ∧ (drainEnds s = true) ∧ (l.state = 2) ∧ (bitOf l.plates j = true) ∧ (bitOf l.programming j = true) ∧ (¬ j.val ∈ l.waitCommit) ∧ (r ≠ .verified) ∧ (opRuns s (l.group - 1) (plateStack s l j) (l.stripe / 256) (programTok (stripeKey (l.group - 1) l.stripe)) = true) :=
  ⟨3, 0, .verifyFailed, { id := 3, slice := 0, prio := 2, state := 2, pages := [{ pn := 0, cancelled := true }], group := 1, stripe := 4096 * 256, plates := 1, programming := 1 }, wExec, by decide⟩

theorem test_wharf_commands_6 : ∃ (i : Nat) (ok : Bool) (l : Lighter) (s : State), (findLighter s i = some l) ∧ (drainEnds s = true) ∧ (l.state = 2) ∧ (l.parityPending = true) ∧ (s.media.jwait = []) ∧ (journalRoom s = true) ∧ (opRuns s (l.group - 1) (getStripe s (stripeKey (l.group - 1) l.stripe)).parity (l.stripe / 256) (programTok (stripeKey (l.group - 1) l.stripe)) = true) :=
  ⟨3, true, { id := 3, slice := 0, prio := 2, state := 2, group := 1, stripe := 4096 * 256, parityPending := true }, wParity, by decide⟩

theorem test_wharf_commands_7 : ∃ (sl : Fin 16) (ps : List PageNo) (s : State), (noSpare s (drainGroup s) = false) ∧ (¬ sl.val ∈ s.wharf.queueReset) ∧ (s.cs.reset_ = 0) ∧ (drainRuns s = true) ∧ (queueLength s sl.val < 4096) ∧ (ps = ((stagedPages s sl.val).filter fun pn => s.wharf.pinned.contains pn && pageDrainable s pn && !pageInLighter s pn && !s.mc.discarding.contains pn)) ∧ (ps ≠ []) :=
  ⟨0, [0], { wDrain with wharf := { wDrain.wharf with lighters := [], pinned := [0] } }, by decide⟩

theorem test_wharf_commands_8 : ∃ (sl : Fin 16) (a : Acc) (s : State), ((heldOf s sl.val).find? (fun x => x.kind == .write || x.kind == .resvStore) = some a) ∧ (wharfHolds (endSliceFull s sl.val) a (s.wharf.held.takeWhile fun b => b.id != a.id) = false) ∧ (s.wharf.held.find? (fun x => x.id == a.id) = some a) :=
  ⟨0, { id := 9, port := 1, kind := .write, line := 0 }, { wRun.setR Obj.DIRTY_CAP 1000000 with wharf := { wRun.wharf with held := [{ id := 9, port := 1, kind := .write, line := 0 }] } }, by decide⟩

theorem test_wharf_commands_9 : ∃ (sl : Fin 16) (s : State), (sl.val ∈ s.wharf.queueReset) :=
  ⟨15, { wDrain with wharf := { wDrain.wharf with queueReset := [3, 15] } }, by decide⟩

theorem test_wharf_commands_10 : ∃ (sl : Fin 16) (s : State), (sl.val ∈ s.wharf.rebuilding) :=
  ⟨1, { wDrain with wharf := { wDrain.wharf with rebuilding := [1], filter := [(5, 2), (4194304, 9)] } }, by decide⟩

theorem test_wharf_commands_11 : ∃ (pg : Nat) (s : State), (pg ∈ s.wharf.badIndex) :=
  ⟨26843545599, { wRun with wharf := { wRun.wharf with badIndex := [26843545599] } }, by decide⟩

theorem test_wharf_commands_12 : ∃ (p : StagePin) (s : State), (s.pins.held = false) ∧ (s.robj Obj.PAD_HOLD ≠ 1) ∧ ((p = .slow → s.pins.slowLow = true)) ∧ ((p = .stop → s.pins.stopLow = true)) :=
  ⟨.slow, { wRun with pins := { wRun.pins with slowLow := true, slowMin := true } }, by decide⟩

theorem test_wharf_commands_13 : ∃ (x : Int) (s : State), (s.pw.measured = true) ∧ (tempNow s (U.rail 17) = some x) :=
  ⟨2500, { wBank with th := { wBank.th with sensors := [(U.rail 17 * 64, {})], parts := [(U.rail 17, { maxes := [(0, 2500)] })] } }, by decide⟩

theorem test_wharf_commands_14 : ∃ (i : Nat) (j : Fin 15) (r : PlateResult) (l : Lighter) (s : State), (findLighter s i = some l) ∧ (opRuns s (l.group - 1) (plateStack s l j) (l.stripe / 256) (programTok (stripeKey (l.group - 1) l.stripe)) = false) :=
  ⟨3, 0, .verified, { id := 3, slice := 0, prio := 2, state := 2, pages := [{ pn := 0, cancelled := true }], group := 1, stripe := 4096 * 256, plates := 1, programming := 1 }, { wExec with ml := { wExec.ml with ops := [(planeKey 0 1 0 0, { kind := 1, suspended := true })] } }, by decide⟩

theorem test_map_and_media_commands_1 : ∃ (n : Nat) (s : State), (s.media.ckpt.seg = some n) ∧ (n < segCount s.variant) ∧ (drainEnds s = true) ∧ (segLighters s.variant n < s.media.ckpt.stripe) ∧ (newestCopy s n = none) :=
  ⟨2184, { wRun with media := { wRun.media with map := [(0, 4)], jnext := 7, ckpt := { wRun.media.ckpt with seg := some 2184, stripe := 138 } } }, by decide⟩

theorem test_map_and_media_commands_2 : ∃ (n : Nat) (c : SegCopy) (s : State), (s.media.ckpt.seg = some n) ∧ (n < segCount s.variant) ∧ (drainEnds s = true) ∧ (segLighters s.variant n < s.media.ckpt.stripe) ∧ (newestCopy s n = some c) :=
  ⟨0, ⟨1, 0, [], true, [], 0⟩, { wRun with media := { wRun.media with segs := [(0, [⟨1, 0, [], true, [], 0⟩])], map := [(0, 4)], jnext := 7, ckpt := { wRun.media.ckpt with seg := some 0, stripe := 257 } } }, by decide⟩

theorem test_map_and_media_commands_3 : ∃ (n : Nat) (s : State), ((s.media.ckpt.seg ≠ some n ∨ s.media.ckpt.stripe ≤ segLighters s.variant n ∨ drainEnds s = false)) :=
  ⟨0, { wRun with media := { wRun.media with ckpt := { wRun.media.ckpt with seg := some 0, stripe := 256 } } }, by decide⟩

theorem test_map_and_media_commands_4 : ∃ (g : Fin 2) (n : Nat) (s : State), (s.phase = .running) ∧ (setStateOf s (setKey g.val n) = 4) ∧ ((getSet s (setKey g.val n)).retired = 0) ∧ (s.media.deadDies = []) ∧ (s.media.deadStacks = []) ∧ ((getSet s (setKey g.val n)).erase + 1 < s.robj Obj.ENDURANCE_LIMIT) ∧ (((liveMembers s g.val n).any fun st => opIssued s g.val st n (resetTok (setKey g.val n)) && !opRuns s g.val st n (resetTok (setKey g.val n))) = false) :=
  ⟨0, 4096, { wRun with media := { wRun.media with sets := [(4096, { state := 4 })], stripes := [(4096 * 256, {})] } }, by decide⟩

theorem test_map_and_media_commands_5 : ∃ (g : Fin 2) (n : Nat) (x : Fin 16) (s : State), (s.phase = .running) ∧ (setStateOf s (setKey g.val n) = 4) ∧ (opRuns s g.val x.val n (resetTok (setKey g.val n)) = true) :=
  ⟨0, 4096, 15, { wRun with ml := { wRun.ml with queues := [(planeKey 0 15 0 0, [resetTok 4096])] }, media := { wRun.media with sets := [(4096, { state := 4 })] } }, by decide⟩

theorem test_map_and_media_commands_6 : ∃ (g : Fin 2) (k : Nat) (s : State), (s.robj Obj.PSTATE_NOW = 0) ∧ (s.variant = .p128) ∧ (firmwareOn s = true) ∧ (noSpare s g.val = false) ∧ (reclaimIdle s = true) ∧ (chooseVictim (settleReclaim s g.val) g.val = some k) ∧ (journalRoom (settleReclaim s g.val) = true) ∧ (0 < validPages s k) :=
  ⟨0, 4096, { wRun with now := 400000000, media := { wRun.media with sets := [(4096, { state := 2, slice := 0, next := 256 })], map := [(5, ppnOf 0 0 0 4096 0 0)] } }, by decide⟩

theorem test_map_and_media_commands_7 : ∃ (n t0 : Nat) (ok : Bool) (s : State), (AMap.get? s.media.badMap n = some t0) :=
  ⟨33554431, 0, false, { wRun with media := { wRun.media with badMap := [(33554431, 0)] } }, by decide⟩

theorem test_map_and_media_commands_8 : ∃ (g : Fin 2) (st : Fin 16) (d : Fin 32) (c : Nat) (s : State), (s.variant = .p128) ∧ (¬ U.die (g.val + 1) (st.val + 1) (d.val + 1) ∈ s.media.deadDies) :=
  ⟨1, 15, 31, 1, wRun, by decide⟩

theorem test_map_and_media_commands_9 : ∃ (g : Fin 2) (st : Fin 16) (c : Nat) (s : State), (s.variant = .p128) ∧ (¬ U.stack (g.val + 1) (st.val + 1) ∈ s.media.deadStacks) :=
  ⟨0, 0, 2, wRun, by decide⟩

theorem test_media_read_commands_1 : ∃ (i e : Nat) (r : MediaRead) (s : State), (s.ml.reads.find? (fun x => x.id == i) = some r) ∧ (r.stage = 1) ∧ (r.why = .demand) ∧ (r.decided = false) ∧ (findsBusy s r = true) ∧ ((planeRec s (r.plane s)).overdue = false) ∧ (min e (estimateBound s r) ≤ s.robj Obj.SUSPEND_FAST) :=
  ⟨7, 900, { id := 7, why := .demand, pn := 5, sector := 0, ppn := 2^30 + 2^10 * 4100, stage := 1 }, { wExec with ml := { wExec.ml with reads := [{ id := 7, why := .demand, pn := 5, sector := 0, ppn := 2^30 + 2^10 * 4100, stage := 1 }], nextRead := 8 } }, by decide⟩

theorem test_media_read_commands_2 : ∃ (i : Nat) (c : Bool) (r : MediaRead) (s : State), (s.ml.reads.find? (fun x => x.id == i) = some r) ∧ (r.stage = 1) ∧ (unreadable s r = false) ∧ (¬ r.ppn * 8 + r.sector ∈ s.dp.markedAt) ∧ (tagChecked s r = true) ∧ ((r.why ≠ .demand ∨ s.robj Obj.SPEC_DELIVERY ≠ 1)) ∧ (senseEnds s r = true) :=
  ⟨7, true, { id := 7, why := .rekeyScan, pn := 0, sector := 0, ppn := 0, stage := 1, members := [1, 2], page := some { pn := 0 } }, { wRun with ml := { wRun.ml with reads := [{ id := 7, why := .rekeyScan, pn := 0, sector := 0, ppn := 0, stage := 1, members := [1, 2], page := some { pn := 0 } }] } }, by decide⟩

theorem test_media_read_commands_3 : ∃ (i : Nat) (c : Bool) (r : MediaRead) (s : State), (s.ml.reads.find? (fun x => x.id == i) = some r) ∧ (r.stage = 1) ∧ (r.degraded = false) ∧ (r.around = false) ∧ (r.rung < 2) ∧ (senseEnds s r = true) :=
  ⟨7, false, { id := 7, why := .demand, pn := 0, sector := 0, ppn := 0, stage := 1, members := [1, 2], rung := 1 }, { wRun with ml := { wRun.ml with reads := [{ id := 7, why := .demand, pn := 0, sector := 0, ppn := 0, stage := 1, members := [1, 2], rung := 1 }] } }, by decide⟩

theorem test_media_read_commands_4 : ∃ (i : Nat) (st : Fin 16) (d : Bool) (r : MediaRead) (s : State), (s.ml.reads.find? (fun x => x.id == i) = some r) ∧ (r.stage = 2) ∧ (st.val ∈ r.members) ∧ ((r.members.filter (· != st.val)) ≠ []) ∧ (memberEnds s r st.val = true) :=
  ⟨7, 2, true, { id := 7, why := .demand, pn := 0, sector := 0, ppn := 0, stage := 2, members := [1, 2] }, wRead 2 .demand, by decide⟩

theorem test_media_read_commands_5 : ∃ (i : Nat) (r : MediaRead) (s : State), (s.ml.reads.find? (fun x => x.id == i) = some r) ∧ (r.stage = 3) ∧ (r.why = .demand) :=
  ⟨7, { id := 7, why := .demand, pn := 0, sector := 0, ppn := 0, stage := 3, members := [1, 2] }, wRead 3 .demand, by decide⟩

theorem test_media_read_commands_6 : ∃ (i : Nat) (r : MediaRead) (s : State), (s.ml.reads.find? (fun x => x.id == i) = some r) ∧ (r.stage = 3) ∧ (s.phase = .running) ∧ (s.hm.latchHalted = false) :=
  ⟨7, { id := 7, why := .copy, pn := 0, sector := 0, ppn := 0, stage := 3, members := [1, 2] }, wRead 3 .copy, by decide⟩

theorem test_media_read_commands_7 : ∃ (g : Fin 2) (st : Fin 16) (d : Fin 32) (pl : Fin 4) (rs : Bool) (x : PlaneOp) (s : State), (AMap.get? s.ml.ops (planeKey g.val st.val d.val pl.val) = some x) ∧ (x.overdue = false) ∧ (x.suspended = true) ∧ (x.kind = (if rs = true then 2 else 1)) :=
  ⟨1, 15, 31, 3, true, { kind := 2, suspended := true }, { wRun with ml := { wRun.ml with ops := [(planeKey 1 15 31 3, { kind := 2, suspended := true })] } }, by decide⟩

theorem test_media_read_commands_8 : ∃ (g : Fin 2) (st : Fin 16) (s : State), ((AMap.getD s.ml.wins (U.stack (g.val + 1) (st.val + 1)) {}).endedOver = true) ∧ (s.obj (U.stack (g.val + 1) (st.val + 1)) Obj.FINE_MODE = 0) :=
  ⟨0, 0, { wRun with ml := { wRun.ml with wins := [(U.stack 1 1, { endedOver := true })] } }, by decide⟩

theorem test_media_read_commands_9 : ∃ (g : Fin 2) (st : Fin 16) (s : State), (s.obj (U.stack (g.val + 1) (st.val + 1)) Obj.FINE_MODE ≠ 0) ∧ ((AMap.getD s.ml.wins (U.stack (g.val + 1) (st.val + 1)) {}).endedOver = false) ∧ (max (AMap.getD s.ml.wins (U.stack (g.val + 1) (st.val + 1)) {}).overAt (AMap.getD s.ml.wins (U.stack (g.val + 1) (st.val + 1)) {}).fineAt + s.robj Obj.FINE_HOLD ≤ s.hm.opsec) :=
  ⟨1, 15, { wRun.setObj (U.stack 2 16) Obj.FINE_MODE 1 with hm := { wRun.hm with opsec := 100000 } }, by decide⟩

theorem test_media_read_commands_10 : ∃ (g : Fin 2) (q : Nat) (s : State), (¬ g.val ∈ s.ml.overloaded) ∧ (s.variant = .p128) :=
  ⟨1, 0, wRead 1 .demand, by decide⟩

theorem test_media_read_commands_12 : ∃ (s : State), (s.hm.running = true) ∧ (s.hm.opsec < 2^48 - 1) :=
  ⟨{ wPh .cold with hm := { wHm.hm with opsec := 2^48 - 2 }, th := { wHm.th with sensors := [(0, { sum := 5, count := 3 })] } }, by decide⟩

theorem test_media_read_commands_13 : ∃ (i e : Nat) (r : MediaRead) (s : State), (s.ml.reads.find? (fun x => x.id == i) = some r) ∧ (r.stage = 1) ∧ (r.why = .demand) ∧ (r.decided = false) ∧ (findsBusy s r = true) ∧ ((planeRec s (r.plane s)).overdue = false) ∧ (s.robj Obj.SUSPEND_FAST < min e (estimateBound s r)) ∧ (parked s (ppnGroup r.ppn) (ppnStack r.ppn) (ppnSet r.ppn) = false) ∧ (r.noAround = false) ∧ (reconstructible s r = true) ∧ (aroundBudget s r = true) :=
  ⟨7, 1400, { id := 7, why := .demand, pn := 5, sector := 0, ppn := 2^30 + 2^10 * 4100, stage := 1 }, { wExec with ml := { wExec.ml with reads := [{ id := 7, why := .demand, pn := 5, sector := 0, ppn := 2^30 + 2^10 * 4100, stage := 1 }], nextRead := 8 } }, by decide⟩

theorem test_media_read_commands_14 : ∃ (i e : Nat) (r : MediaRead) (s : State), (s.ml.reads.find? (fun x => x.id == i) = some r) ∧ ((r.stage ≠ 1 ∨ r.why ≠ .demand ∨ r.decided = true ∨ findsBusy s r = false)) :=
  ⟨7, 9, { id := 7, why := .demand, pn := 0, sector := 0, ppn := 0, stage := 1, members := [1, 2] }, wRead 1 .demand, by decide⟩

theorem test_media_read_commands_15 : ∃ (i : Nat) (b c : Bool) (r : MediaRead) (s : State), (s.ml.reads.find? (fun x => x.id == i) = some r) ∧ ((r.stage ≠ 1 ∨ senseEnds s r = false)) :=
  ⟨7, true, false, { id := 7, why := .demand, pn := 5, sector := 0, ppn := 2^30 + 2^10 * 4100, stage := 1 }, { wExec with ml := { wExec.ml with reads := [{ id := 7, why := .demand, pn := 5, sector := 0, ppn := 2^30 + 2^10 * 4100, stage := 1 }], nextRead := 8 } }, by decide⟩

theorem test_media_read_commands_16 : ∃ (i : Nat) (r : MediaRead) (a : Acc) (s : State), (s.ml.reads.find? (fun x => x.id == i) = some r) ∧ (r.stage = 3) ∧ (r.why = .demand) ∧ (atOwnPage r = true) ∧ (r.delivered = false) ∧ (r.accs = [a]) ∧ (a.kind = .read) ∧ (a.db = false) ∧ (sendsNow s a.port 1 = true) ∧ (responds s a.port = true) :=
  ⟨7, { id := 7, why := .demand, pn := 0, sector := 0, ppn := 0, stage := 3, accs := [{ id := 1, port := 1, src := 0xFFFF, tag := 3, kind := .read, line := 1 }], page := some { pn := 0, lines := [(1, { data := 9 })] } }, { id := 1, port := 1, src := 0xFFFF, tag := 3, kind := .read, line := 1 }, { wLink with ml := { wRun.ml with reads := [{ id := 7, why := .demand, pn := 0, sector := 0, ppn := 0, stage := 3, accs := [{ id := 1, port := 1, src := 0xFFFF, tag := 3, kind := .read, line := 1 }], page := some { pn := 0, lines := [(1, { data := 9 })] } }], nextRead := 8 } }, ⟨rfl, rfl, rfl, rfl, rfl, rfl, rfl, rfl, rfl, rfl⟩⟩

theorem test_ageing_commands_1 : ∃ (g : Fin 2) (st : Fin 16) (d : Fin 32) (s : State), (s.phase = .running) ∧ (s.variant = .p128) ∧ (firmwareOn s = true) ∧ (measSkips s (U.die (g.val + 1) (st.val + 1) (d.val + 1)) = false) ∧ (AMap.has s.ag.passes (U.die (g.val + 1) (st.val + 1) (d.val + 1)) = false) ∧ (s.hm.running = true) :=
  ⟨0, 0, 31, wRun, by decide⟩

theorem test_ageing_commands_2 : ∃ (g : Fin 2) (st : Fin 16) (d : Fin 32) (s : State), (s.phase = .running) ∧ (s.variant = .p128) ∧ (firmwareOn s = true) ∧ (measSkips s (U.die (g.val + 1) (st.val + 1) (d.val + 1)) = true) ∧ (s.hm.running = true) :=
  ⟨0, 0, 31, { wRun with media := { wRun.media with deadStacks := [U.stack 1 1], deadDies := [U.die 1 1 32] } }, by decide⟩

theorem test_ageing_commands_3 : ∃ (g : Fin 2) (st : Fin 16) (d : Fin 32) (xs : List ProofSample) (p : ProofPass) (s : State), (AMap.get? s.ag.passes (U.die (g.val + 1) (st.val + 1) (d.val + 1)) = some p) ∧ (p.confirm = false) ∧ (p.left = 0) :=
  ⟨0, 0, 0, [], { confirm := false, left := 0 }, { wRun with ag := { wRun.ag with passes := [(U.die 1 1 1, { confirm := false, left := 0 })] } }, by decide⟩

theorem test_ageing_commands_4 : ∃ (g : Fin 2) (st : Fin 16) (d : Fin 32) (xs : List ProofSample) (p : ProofPass) (s : State), (AMap.get? s.ag.passes (U.die (g.val + 1) (st.val + 1) (d.val + 1)) = some p) ∧ (p.confirm = true) ∧ (p.left = 0) :=
  ⟨0, 0, 0, [], { confirm := true, left := 0 }, { wRun with ag := { wRun.ag with passes := [(U.die 1 1 1, { confirm := true, left := 0 })] } }, by decide⟩

theorem test_ageing_commands_5 : ∃ (s : State), (s.hm.running = true) :=
  ⟨wRun, by decide⟩

theorem test_ageing_commands_6 : ∃ (u : BitVec 32) (l a b c d : BitVec 16) (s : State), (s.hm.running = true) ∧ ((expandPath s.variant u.toNat).toOption = some [u.toNat]) ∧ (hasLanes u.toNat = true) ∧ (measSkips s u.toNat = false) :=
  ⟨BitVec.ofNat 32 (U.port 1), 15, 1, 2, 3, 0xFFFF, wLink, by decide⟩

theorem test_ageing_commands_7 : ∃ (r : Fin 18) (o i : BitVec 32) (s : State), (s.hm.running = true) ∧ (measSkips s (stageUnit r.val) = false) ∧ (i ≠ 0) :=
  ⟨17, 0xFFFFFFFF, 1, wRun, by decide⟩

theorem test_ageing_commands_8 : ∃ (p : Plan) (back : Bool) (s : State), (s.ag.applying = some (p, back)) :=
  ⟨{ id := 9, crc := 1 }, false, { wPass true with ag := { (wPass true).ag with applying := some ({ id := 9, crc := 1 }, false) } }, by decide⟩

theorem test_ageing_commands_9 : ∃ (p : Plan) (back : Bool) (g : Fin 2) (st : Fin 16) (d : Fin 32) (q : ProofPass) (s : State), (s.ag.applying = some (p, back)) ∧ (s.ag.passes = [((U.die (g.val + 1) (st.val + 1) (d.val + 1)), q)]) ∧ (s.media.offStacks = []) ∧ (s.media.deadStacks = []) ∧ (s.media.deadDies = []) :=
  ⟨{}, false, 0, 0, 0, { confirm := false, left := 64 }, { wPass false with ag := { (wPass false).ag with applying := some ({}, false) } }, by decide⟩

theorem test_thermal_commands_1 : ∃ (k : Fin 65) (v : Int) (s : State), (s.hm.running = true) ∧ (s.th.sensors = []) ∧ ((k.val = 1 ∨ k.val = 2)) ∧ (-2000 ≤ v) ∧ (v ≤ 15000) :=
  ⟨2, -2000, wHm, by decide⟩

theorem test_thermal_commands_2 : ∃ (k : Fin 65) (v : Int) (s : State), (s.hm.running = true) ∧ (s.th.sensors = []) ∧ ((k.val = 1 ∨ k.val = 2)) ∧ ((quantise v < -2000 ∨ 15000 < quantise v)) :=
  ⟨2, -2007, wHm, by decide⟩

theorem test_thermal_commands_3 : ∃ (u : BitVec 32) (s : State), ((getPart s u.toNat).boost = true) ∧ (1000 ≤ (getPart s u.toNat).calm) ∧ (firmwareOn s = true) :=
  ⟨0x04000000, { wRun with th := { wRun.th with parts := [(U.ctl, { boost := true, calm := 1000 })] } }, by decide⟩

theorem test_thermal_commands_4 : ∃ (severe : Bool) (s : State), (firmwareOn s = true) ∧ ((if severe = true then 3 else 2) ≤ s.robj Obj.THERM_REQUEST) :=
  ⟨true, wRun.setR Obj.THERM_REQUEST 3, by decide⟩

theorem test_power_failure_detections_1 : ∃ (vin vhold : BitVec 32) (s : State), (s.hm.running = true) ∧ (s.phase = .running) ∧ (s.robj Obj.PSTATE_NOW ≠ 4) ∧ (s.pw.flush = none) ∧ (vin.toNat < vinFail s) :=
  ⟨5499, 56000, wRun, by decide⟩

theorem test_power_failure_detections_2 : ∃ (vin vhold : BitVec 32) (s : State), (s.hm.running = true) ∧ ((s.phase = .sequencing ∨ s.phase = .booting ∨ s.phase = .loading)) ∧ (vin.toNat < vinFail s) :=
  ⟨0, 56000, wLoad true false, by decide⟩

theorem test_power_failure_detections_3 : ∃ (vin vhold : BitVec 32) (s : State), (s.hm.running = true) ∧ (s.pw.pwrfailLow = false) ∧ (s.phase = .running) ∧ (s.robj Obj.PSTATE_NOW ≠ 4) ∧ (s.pw.flush = none) :=
  ⟨48000, 56000, wRun, by decide⟩

theorem test_power_failure_detections_4 : ∃ (vin vhold : BitVec 32) (s : State), (s.hm.running = true) ∧ (s.phase = .running) ∧ (s.robj Obj.PSTATE_NOW ≠ 4) ∧ (s.pw.flush = none) ∧ (63000 < vin.toNat) :=
  ⟨63001, 56000, wRun, by decide⟩

theorem test_power_failure_detections_5 : ∃ (vin vhold : BitVec 32) (s : State), (s.hm.running = true) ∧ ((s.phase = .cold ∨ s.phase = .latchedOff)) ∧ (63000 < vin.toNat) :=
  ⟨63001, 0, wHm, by decide⟩

theorem test_power_failure_detections_6 : ∃ (d v m : BitVec 32) (ok : Bool) (f : Flush) (s : State), (s.phase = .flushing) ∧ (s.pw.flush = some f) :=
  ⟨76100, 49200, 50700, true, mkFlush wRun 1 1 5000 56000 false, { wRun with phase := .flushing, pw := { wRun.pw with flush := some (mkFlush wRun 1 1 5000 56000 false) } }, by decide⟩

theorem test_power_failure_detections_7 : ∃ (d v m : BitVec 32) (ok : Bool) (f : Flush) (b : Nat) (s : State), (s.phase = .flushing) ∧ (s.pw.flush = some f) ∧ (dumpTarget s = some b) :=
  ⟨76100, 49200, 50700, true, mkFlush wRun 1 1 5000 56000 false, 0, { wRun with phase := .flushing, pw := { wRun.pw with flush := some (mkFlush wRun 1 1 5000 56000 false) } }, by decide⟩

theorem test_power_failure_detections_8 : ∃ (d v m : BitVec 32) (ok : Bool) (f : Flush) (s : State), (s.phase = .halted) ∧ (s.pw.flush = some f) :=
  ⟨0, 49200, 0, false, mkFlush wRun 1 0 5000 56000 false, { wRun with phase := .halted, pw := { wRun.pw with flush := some (mkFlush wRun 1 0 5000 56000 false) } }, by decide⟩

theorem test_power_events_of_one_register_1 : ∃ (s : State), (s.hm.running = true) :=
  ⟨wHm.setObj U.power Obj.VIN_DIPS (2^64 - 1), by decide⟩

theorem test_power_events_of_one_register_2 : ∃ (s : State), (17 ∈ s.pw.railsUp) :=
  ⟨wRun, by decide⟩

theorem test_power_events_of_one_register_3 : ∃ (s : State), (s.pw.vinGood = true) ∧ (s.pw.flush = none) :=
  ⟨{ wRun with pw := { wRun.pw with discharging := true } }, by decide⟩

theorem test_power_events_of_one_register_4 : ∃ (vin : BitVec 32) (s : State), (6000 ≤ vin.toNat) ∧ (vin.toNat ≤ 60000) :=
  ⟨6000, wHm, by decide⟩

theorem test_power_events_of_one_register_6 : ∃ (x : RetryTarget) (s : State), (¬ retryKey x ∈ s.pw.retryWait) ∧ (retryRail x ∈ s.pw.railsUp) :=
  ⟨.rail 7, { wRun with pw := { wRun.pw with attempts := [(8, 2)] } }, by decide⟩

theorem test_power_events_of_one_register_7 : ∃ (s : State), ((s.phase = .running ∨ s.phase = .halted)) :=
  ⟨wRun, by decide⟩

theorem test_power_monitoring_1 : ∃ (v p : BitVec 32) (s : State), (16 ∈ s.pw.railsUp) ∧ (s.pw.flush = none) :=
  ⟨48000, 700001, wRun, by decide⟩

theorem test_power_monitoring_2 : ∃ (ph : Fin 11) (s : State), (16 ∈ s.pw.railsUp) ∧ (ph.val < 2) ∧ (¬ ph.val + 1 ∈ s.pw.lostPhases) :=
  ⟨1, wRun, by decide⟩

theorem test_power_monitoring_3 : ∃ (r : Fin 18) (ph : Fin 11) (s : State), (r.val + 1 ∈ s.pw.railsUp) ∧ (r.val < 5) ∧ (s.obj (U.rail (r.val + 1)) Obj.PHASES_LOST < railPhases (r.val + 1)) ∧ (ph.val + 1 ≤ railPhases (r.val + 1)) :=
  ⟨4, 4, wRun, by decide⟩

theorem test_power_monitoring_4 : ∃ (r : Fin 18) (ph : Fin 11) (s : State), (r.val + 1 ∈ s.pw.railsUp) ∧ (5 ≤ r.val) ∧ (r.val < 15) ∧ (s.pw.flush.isSome = true) :=
  ⟨14, 0, { wRun with phase := .flushing, pw := { wRun.pw with flush := some (mkFlush wRun 1 1 5000 56000 false) } }, by decide⟩

theorem test_power_monitoring_5 : ∃ (ws : List (Fin 18 × BitVec 16)) (s : State), (s.hm.running = true) ∧ ((ws.map (·.1)).Nodup) :=
  ⟨[(0, 0xFFFF), (17, 3), (5, 0)], wRun, by decide⟩

theorem test_power_monitoring_6 : ∃ (vin iin : BitVec 32) (rs : List RailReading) (s : State), (s.hm.running = true) ∧ (railReached s 16 = true) :=
  ⟨0xFFFFFFFF, 0xFFFFFFFF, [⟨17, 3, 4, false⟩, ⟨0, 1, 2, true⟩], wRun, by decide⟩

theorem test_power_monitoring_7 : ∃ (d : PmDev) (c p : BitVec 8) (s : State), (s.hm.running = true) ∧ (¬ d.addr ∈ s.pw.unreachable) ∧ (AMap.getD s.pw.pmTries d.addr 0 < 2) :=
  ⟨.holdup, 0x79, 0, { wRun with pw := { wRun.pw with pmTries := [(0x58, 1)] } }, by decide⟩

theorem test_power_monitoring_8 : ∃ (d : PmDev) (c p : BitVec 8) (s : State), (s.hm.running = true) ∧ (s.phase ≠ .sequencing) ∧ (¬ d.addr ∈ s.pw.unreachable) ∧ (2 ≤ AMap.getD s.pw.pmTries d.addr 0) ∧ (deviceFitted s.variant d.addr = true) :=
  ⟨.bank 3, 0x79, 0, { wRun with pw := { wRun.pw with pmTries := [(0x44, 2)] } }, by decide⟩

theorem test_power_monitoring_9 : ∃ (d : PmDev) (s : State), (s.hm.running = true) :=
  ⟨.phase 1, { wRun with pw := { wRun.pw with unreachable := [0x51, 0x40] } }, by decide⟩

theorem test_power_monitoring_10 : ∃ (r : Fin 18) (mv : BitVec 32) (s : State), (s.hm.running = true) ∧ (railFitted s.variant (r.val + 1) = true) ∧ (¬ r.val + 1 ∈ s.pw.railsUp) :=
  ⟨17, 400, wHm, by decide⟩

theorem test_power_monitoring_11 : ∃ (d : PmDev) (c p : BitVec 8) (s : State), (deviceFitted s.variant d.addr = false) :=
  ⟨.bank 2, 0, 0, { wRun with variant := .p064 }, by decide⟩

theorem test_rail_fault_reactions_1 : ∃ (r : Fin 18) (s : State), (s.phase ≠ .sequencing) ∧ (r.val + 1 ∈ s.pw.railsUp) ∧ (((AMap.getD s.pw.rawPg (r.val + 1) []).filter fun x => decide (s.now < x + 400000)).length < 2) :=
  ⟨17, { wRun with pw := { wRun.pw with rawPg := [(18, [0, 0])] }, now := 400000 }, by decide⟩

theorem test_rail_fault_reactions_2 : ∃ (r : Fin 18) (s : State), (s.phase = .running) ∧ (s.robj Obj.PSTATE_NOW ≠ 4) ∧ (s.pw.flush = none) ∧ (r.val + 1 ∈ s.pw.railsUp) ∧ (s.obj (U.rail (r.val + 1)) Obj.RAIL_REACTION = 3) :=
  ⟨6, wRun, by decide⟩

theorem test_rail_fault_reactions_3 : ∃ (x : RetryTarget) (s : State), (retryKey x ∈ s.pw.retryWait) ∧ (s.pw.flush = none) :=
  ⟨.rail 16, { wRun with pw := { wRun.pw with retryWait := [17], attempts := [(17, 2)] } }, by decide⟩

theorem test_rail_fault_reactions_4 : ∃ (x : RetryTarget) (s : State), (retryKey x ∈ s.pw.retryWait) ∧ (s.pw.flush = none) ∧ (AMap.getD s.pw.attempts (retryKey x) 0 < 2) :=
  ⟨.rail 16, { wRun with pw := { wRun.pw with retryWait := [17], attempts := [(17, 1)] } }, by decide⟩

theorem test_rail_fault_reactions_5 : ∃ (s : State), (17 ∈ s.pw.retryWait) ∧ (s.pw.flush = none) ∧ (2 ≤ AMap.getD s.pw.attempts 17 0) :=
  ⟨{ wRun with pw := { wRun.pw with retryWait := [17], attempts := [(17, 2)] } }, by decide⟩

theorem test_rail_fault_reactions_6 : ∃ (g : Fin 2) (st : Fin 16) (s : State), (g.val < groupCount s.variant) ∧ (retryRail (.switch g st) ∈ s.pw.railsUp) ∧ (¬ U.stack (g.val + 1) (st.val + 1) ∈ s.pw.switchOff) ∧ (s.obj (U.rail (retryRail (.switch g st))) Obj.RAIL_REACTION ≤ 2) :=
  ⟨1, 15, wRun, by decide⟩

theorem test_rail_fault_reactions_7 : ∃ (b : Fin 4) (s : State), (bankState s b.val = 2) ∧ (¬ b.val ∈ s.pw.bankMin) :=
  ⟨3, wRun.setObj U.power (Obj.BANK_STATE + 4) 2, by decide⟩

theorem test_rail_fault_reactions_8 : ∃ (b : Fin 4) (s : State), (bankState s b.val = 4) ∧ (¬ b.val ∈ s.pw.bankMin) :=
  ⟨0, wRun.setObj U.power (Obj.BANK_STATE + 1) 4, by decide⟩

theorem test_rail_fault_reactions_9 : ∃ (b : Fin 4) (s : State), (b.val ∈ s.pw.bankLink) ∧ (bankState s b.val = 0) :=
  ⟨2, { wRun with pw := { wRun.pw with bankLink := [2, 1] } }, by decide⟩

theorem test_holdup_measurements_1 : ∃ (s : State), (measureReady s = true) ∧ (s.pw.deferSince = none) ∧ (s.pw.measured = false) :=
  ⟨{ wPh .loading with pw := { wRun.pw with measDue := true, measured := false } }, by decide⟩

theorem test_holdup_measurements_2 : ∃ (s : State), (measureReady s = true) ∧ (s.pw.deferSince = none) ∧ (s.pw.measured = true) ∧ (s.obj U.power Obj.HOLDUP_C ≠ 0) ∧ (bankEnergy s 48000 = 0) ∧ (0 < dirtyNow s) :=
  ⟨{ wRun.setObj U.power Obj.HOLDUP_C 1 with pw := { wRun.pw with measDue := true }, wharf := { wRun.wharf with entries := [(0, { data := 0, mask := 1, pos := 0, seq := 0, first := 0 })] } }, by decide⟩

theorem test_holdup_measurements_3 : ∃ (since : Nat) (s : State), (measureReady s = true) ∧ (s.pw.deferSince = some since) ∧ (since + 3600 ≤ s.hm.opsec) :=
  ⟨0, { wBank with pw := { wBank.pw with measDue := true, deferSince := some 0 }, hm := { wBank.hm with opsec := 3600 } }, by decide⟩

theorem test_holdup_measurements_4 : ∃ (a b : BitVec 32) (c : BitVec 16) (s : State), (s.pw.measuring = true) :=
  ⟨192000, 40000, 3500, { wRun with pw := { wRun.pw with measuring := true, measEnd := 48000 } }, by decide⟩

theorem test_holdup_measurements_5 : ∃ (s : State), (17 ∈ s.pw.railsUp) ∧ (s.pw.measuring = false) ∧ (s.pw.discharging = false) :=
  ⟨{ wBank with pw := { wBank.pw with charged := false, recharge := true } }, by decide⟩

theorem test_holdup_measurements_6 : ∃ (v : BitVec 32) (s : State), (v.toNat < 55000) ∧ (s.hm.running = true) ∧ (s.pw.measuring = false) :=
  ⟨54999, wBank, by decide⟩

theorem test_holdup_measurements_7 : ∃ (b : Fin 2) (s : State), (bufState s b.val = 2) ∧ ((s.phase = .loading ∨ s.phase = .running ∨ s.phase = .halted)) :=
  ⟨1, wRun.setObj U.power (Obj.FLUSH_BUFFER_STATE + 2) 2, by decide⟩

theorem test_holdup_measurements_8 : ∃ (a b : BitVec 32) (c : BitVec 16) (s : State), (s.pw.measuring = true) ∧ (s.pw.measEnd < 56000) :=
  ⟨140000, 112000, 3500, { wRun with pw := { wRun.pw with measuring := true, measEnd := 48000 } }, by decide⟩

theorem test_reset_commands_1 : ∃ (s : State), (s.hm.running = true) ∧ (s.cs.mrstLow = false) ∧ (s.phase = .running) ∧ (s.robj Obj.PSTATE_NOW < 3) ∧ (s.robj Obj.ENTRY_STATE = 0) :=
  ⟨wLink, by decide⟩

theorem test_reset_commands_2 : ∃ (s : State), (s.hm.running = true) ∧ (s.cs.mrstLow = false) ∧ (s.phase = .loading) :=
  ⟨wLoad true true, by decide⟩

theorem test_reset_commands_3 : ∃ (s : State), (s.hm.running = true) ∧ (s.cs.mrstLow = false) ∧ (s.phase = .halted) ∧ (s.dp.recoverAccepted = true) ∧ (s.pw.flush = none) :=
  ⟨{ wPh .halted with dp := { wHm.dp with recoverAccepted := true } }, by decide⟩

theorem test_reset_commands_4 : ∃ (s : State), (s.hm.running = true) ∧ (s.cs.mrstLow = false) ∧ ((s.phase = .flushing ∨ s.phase = .cold ∨ s.phase = .latchedOff ∨ s.phase = .sequencing)) :=
  ⟨wPh .flushing, by decide⟩

theorem test_reset_commands_5 : ∃ (s : State), (s.phase = .sequencing) ∧ (s.pw.seqDone = true) :=
  ⟨{ wPh .sequencing with pw := { wHm.pw with seqDone := true } }, by decide⟩

theorem test_reset_commands_6 : ∃ (s : State), ((s.phase = .sequencing → s.pw.seqDone = false)) :=
  ⟨wRun, by decide⟩

theorem test_reset_commands_7 : ∃ (s : State), (s.phase = .running) ∧ (s.cs.reset_ ≠ 0) :=
  ⟨{ (wLink.setR (Obj.BLOCK_STATE + 3) 1) with cs := { wLink.cs with reset_ := 6 } }, by decide⟩

theorem test_reset_commands_8 : ∃ (c : Fin 5) (s : State), (s.phase = .running) ∧ (s.robj Obj.PSTATE_NOW < 3) ∧ (s.cs.reset_ = 0) ∧ (s.ts.activating = 0) :=
  ⟨4, wLink, by decide⟩

theorem test_reset_commands_9 : ∃ (c : Fin 5) (s : State), ((s.phase = .halted ∨ s.phase = .flushing)) ∧ (s.ts.activating = 0) :=
  ⟨0, wPh .flushing, by decide⟩

theorem test_reset_commands_10 : ∃ (c : Fin 5) (s : State), (s.phase = .loading) :=
  ⟨0, wLoad true true, by decide⟩

theorem test_reset_commands_13 : ∃ (c : Fin 2) (p : BitVec 16) (us : List (Fin 16)) (s : State), ((if c = 0 then s.cs.lost1 else s.cs.lost2) = false) :=
  ⟨0, 7, [0, 9], wLink, by decide⟩

theorem test_reset_commands_14 : ∃ (c : Fin 2) (s : State), ((if c = 0 then s.cs.lost1 else s.cs.lost2) = true) :=
  ⟨0, { wLink with cs := { wLink.cs with lost1 := true } }, by decide⟩

theorem test_block_releases_1 : ∃ (b : Fin 6) (c : Bool) (s : State), ((blockInReset s (b.val + 1) = false ∨ s.cs.reset_ ≠ 0)) :=
  ⟨5, true, wRun, by decide⟩

theorem test_block_releases_2 : ∃ (b : Fin 6) (s : State), (blockInReset s (b.val + 1) = true) ∧ (s.cs.reset_ = 0) :=
  ⟨5, wRun.setR (Obj.BLOCK_STATE + 6) 1, by decide⟩

theorem test_block_releases_3 : ∃ (b : Fin 6) (s : State), (blockInReset s (b.val + 1) = true) ∧ (s.cs.reset_ = 0) :=
  ⟨5, wRun.setR (Obj.BLOCK_STATE + 6) 1, by decide⟩

theorem test_power_state_commands_1 : ∃ (s : State), (pstateOpen s = true) ∧ (s.robj Obj.PSTATE_NOW = 0) ∧ (s.robj Obj.PSTATE_AUTO_MAX ≠ 0) ∧ (s.robj Obj.ENTRY_STATE = 0) ∧ (mirrorLag s = 0) :=
  ⟨wRun.setR Obj.PSTATE_AUTO_MAX 1, by decide⟩

theorem test_power_state_commands_2 : ∃ (s : State), (pstateOpen s = true) ∧ (s.robj Obj.PSTATE_NOW = 0) ∧ (s.robj Obj.PSTATE_AUTO_MAX ≠ 0) ∧ (s.robj Obj.ENTRY_STATE = 0) ∧ (mirrorLag s ≠ 0) :=
  ⟨updMirror (wRun.setR Obj.PSTATE_AUTO_MAX 1) fun m => { m with unacked := [{ seq := 1, resync := false, sync := false, async := true, recs := [{ line := 0, mask := 1, data := 0 }] }], txSeq := 1 }, by decide⟩

theorem test_power_state_commands_3 : ∃ (s : State), (pstateOpen s = true) ∧ (s.robj Obj.PSTATE_NOW = 1) ∧ (s.robj Obj.PSTATE_AUTO_MAX = 2) ∧ (s.robj Obj.ENTRY_STATE = 0) ∧ (s.ml.reads = []) ∧ (s.wharf.lighters = []) ∧ (s.ag.passes = []) ∧ (s.ml.queues = []) ∧ (firstRefuser s [1, 3, 5, 6, 7, 8] = none) :=
  ⟨(wRun.setR Obj.PSTATE_AUTO_MAX 2).setR Obj.PSTATE_NOW 1, by decide⟩

theorem test_power_state_commands_4 : ∃ (r : Nat) (s : State), (pstateOpen s = true) ∧ (s.robj Obj.PSTATE_NOW = 1) ∧ (s.robj Obj.PSTATE_AUTO_MAX = 2) ∧ (s.robj Obj.ENTRY_STATE = 0) ∧ (s.ml.reads = []) ∧ (s.wharf.lighters = []) ∧ (s.ag.passes = []) ∧ (firstRefuser s [1, 3, 5, 6, 7, 8] = some r) :=
  ⟨3, { ((wRun.setR Obj.PSTATE_AUTO_MAX 2).setR Obj.PSTATE_NOW 1) with dp := { wRun.dp with scrub := some { target := 1, base := 0, size := 64, started := 0, startedNow := 0, unit := 0 } } }, by decide⟩

theorem test_power_state_commands_6 : ∃ (s : State), (prepDone s = true) :=
  ⟨{ (wRun.setR Obj.ENTRY_STATE 1) with cs := { wRun.cs with target := 3 } }, by decide⟩

theorem test_power_state_commands_7 : ∃ (w : WaitRefuser) (s : State), (s.robj Obj.ENTRY_STATE = 1) ∧ (firmwareOn s = true) ∧ (firstRefuser s [w.id, 1, 5, 6, 7] = none) ∧ (prepDone s = false) :=
  ⟨.thermalStep, { (wRun.setR Obj.ENTRY_STATE 1) with wharf := { wExec.wharf with lighters := wExec.wharf.lighters }, cs := { wRun.cs with target := 4 } }, by decide⟩

theorem test_power_state_commands_8 : ∃ (w : WaitRefuser) (s : State), (s.robj Obj.ENTRY_STATE = 1) ∧ (firmwareOn s = true) ∧ (refuserHolds s w.id = true) :=
  ⟨.thermalStep, { ((wRun.setR Obj.ENTRY_STATE 1).setObj U.power Obj.POWER_STEP 1) with cs := { wRun.cs with target := 4 } }, by decide⟩

theorem test_power_state_commands_9 : ∃ (s : State), (s.phase = .running) ∧ (2 ≤ s.robj Obj.ENTRY_STATE) ∧ (s.robj Obj.PSTATE_NOW < 3) ∧ ((s.cs.target = 3 ∨ s.cs.target = 4)) :=
  ⟨{ (wRun.setR Obj.ENTRY_STATE 2) with cs := { wRun.cs with target := 3 } }, by decide⟩

theorem test_power_state_commands_10 : ∃ (s : State), (s.phase = .running) ∧ (3 ≤ s.robj Obj.PSTATE_NOW) ∧ (s.robj Obj.PSTATE_WAKE_TIMER ≠ 0) ∧ (s.cs.wakeStep = 0) ∧ (s.cs.offDone = true) :=
  ⟨(wRun.setR Obj.PSTATE_NOW 3).setR Obj.PSTATE_WAKE_TIMER 5, by decide⟩

theorem test_power_state_commands_11 : ∃ (s : State), (s.phase = .running) ∧ (3 ≤ s.robj Obj.PSTATE_NOW) ∧ (s.robj Obj.PSTATE_WAKE_TIMER ≠ 0) ∧ (s.cs.wakeStep = 0) ∧ (s.cs.offDone = false) :=
  ⟨{ ((wRun.setR Obj.PSTATE_NOW 3).setR Obj.PSTATE_WAKE_TIMER 5) with cs := { wRun.cs with offDone := false } }, by decide⟩

theorem test_power_state_commands_12 : ∃ (bad : List (Nat × Fin 2)) (s : State), (s.phase = .running) ∧ (1 ≤ s.cs.wakeStep) ∧ (s.cs.wakeStep ≤ 4) :=
  ⟨[], { (wRun.setR Obj.PSTATE_NOW 3) with cs := { wRun.cs with wakeStep := 1 }, now := 400000 * 70000 }, by decide⟩

theorem test_power_state_commands_13 : ∃ (bad : List (Nat × Fin 2)) (s : State), (s.phase = .running) ∧ (s.cs.wakeStep = 5) ∧ (s.robj Obj.PSTATE_NOW = 3) :=
  ⟨[], { (wRun.setR Obj.PSTATE_NOW 3) with cs := { wRun.cs with wakeStep := 5 } }, by decide⟩

theorem test_power_state_commands_14 : ∃ (bad : List (Nat × Fin 2)) (s : State), (s.phase = .running) ∧ (s.cs.wakeStep = 6) ∧ (s.pw.measured = true) :=
  ⟨[], { (wRun.setR Obj.PSTATE_NOW 4) with cs := { wRun.cs with wakeStep := 6 } }, by decide⟩

theorem test_power_state_commands_15 : ∃ (bad : List (Nat × Fin 2)) (s : State), (s.phase = .running) ∧ (s.cs.wakeStep = 6) ∧ (s.pw.measured = false) :=
  ⟨[], { (wRun.setR Obj.PSTATE_NOW 4) with cs := { wRun.cs with wakeStep := 6 }, pw := { wRun.pw with measured := false } }, by decide⟩

theorem test_power_state_commands_16 : ∃ (bad : List (Nat × Fin 2)) (s : State), (s.phase = .running) ∧ (s.cs.wakeStep = 7) ∧ (s.pw.measured = true) :=
  ⟨[], { (wRun.setR Obj.PSTATE_NOW 4) with cs := { wRun.cs with wakeStep := 7 } }, by decide⟩

theorem test_power_state_commands_17 : ∃ (bad : List (Nat × Fin 2)) (s : State), (s.cs.wakeStep = 7) ∧ (s.pw.measured = false) :=
  ⟨[], { (wRun.setR Obj.PSTATE_NOW 4) with cs := { wRun.cs with wakeStep := 7 }, pw := { wRun.pw with measured := false } }, by decide⟩

theorem test_session_requests_1 : ∃ (req : KReq) (x : Session) (s : State), (inTurn s req x = true) :=
  ⟨kReq (U.root) 0, wSess 1, wKdp 1, by decide⟩

theorem test_session_requests_2 : ∃ (req : KReq) (x : Session) (s : State), (inTurn s req x = true) :=
  ⟨kReq (U.root) 0, wSess 1, wKdp 1, by decide⟩

theorem test_session_requests_3 : ∃ (req : KReq) (x : Session) (o : BitVec 8) (s : State), (inTurn s req x = true) ∧ (¬ o.toNat ∈ [1, 2, 3, 4, 16, 17, 18, 32, 33, 34, 35, 36, 48, 50]) :=
  ⟨kReq (U.root) 0, wSess 1, 0, wKdp 1, by decide⟩

theorem test_session_requests_4 : ∃ (req : KReq) (x : Session) (a b : BitVec 8) (c : BitVec 16) (e : BitVec 32) (s : State), (inTurn s req x = true) ∧ (1 ≤ a.toNat) ∧ (a.toNat ≤ 4) ∧ (b.toNat ≤ 4) ∧ (c ≠ 0) ∧ ((expandPath s.variant e.toNat).toOption.isSome = true) :=
  ⟨kReq (U.root) 0, wSess 1, 4, 4, 1, 0, wKdp 1, by decide⟩

theorem test_session_requests_5 : ∃ (req : KReq) (x : Session) (a b : BitVec 8) (c : BitVec 16) (e : BitVec 32) (s : State), (inTurn s req x = true) ∧ ((a.toNat = 0 ∨ 4 < a.toNat ∨ 4 < b.toNat)) :=
  ⟨kReq (U.root) 0, wSess 1, 5, 4, 1, 0, wKdp 1, by decide⟩

theorem test_session_requests_6 : ∃ (req : KReq) (x : Session) (k : BitVec 64) (s : State), (inTurn s req x = true) :=
  ⟨kReq 0 0, { id := 7, role := 1, netPort := 1, src := 5, srcPort := 9, opened := 0, key := 0, lastSeq := 3, evUnacked := [{ seq := 3, lost := 0, recs := [] }, { seq := 4, lost := 0, recs := [] }] }, 3, { (wKdp 1) with kdp := { (wKdp 1).kdp with sessions := [{ id := 7, role := 1, netPort := 1, src := 5, srcPort := 9, opened := 0, key := 0, lastSeq := 3, evUnacked := [{ seq := 3, lost := 0, recs := [] }, { seq := 4, lost := 0, recs := [] }] }] } }, by decide⟩

theorem test_session_requests_7 : ∃ (i : BitVec 32) (x : Session) (s : State), (findSession s i.toNat = some x) :=
  ⟨7, wSess 1, wKdp 1, by decide⟩

theorem test_session_requests_8 : ∃ (i : BitVec 32) (x : Session) (s : State), (findSession s i.toNat = some x) ∧ (x.evWaiting ≠ []) ∧ (x.evUnacked.length < 64) ∧ (kdpAnswers s = true) ∧ (netServes s x.netPort = true) :=
  ⟨7, { id := 7, role := 1, netPort := 1, src := 5, srcPort := 9, opened := 0, key := 0, lastSeq := 3, evWaiting := List.replicate 17 { code := 5 }, evLost := 2 }, { (wKdp 1) with kdp := { (wKdp 1).kdp with sessions := [{ id := 7, role := 1, netPort := 1, src := 5, srcPort := 9, opened := 0, key := 0, lastSeq := 3, evWaiting := List.replicate 17 { code := 5 }, evLost := 2 }] } }, by decide⟩

theorem test_session_requests_9 : ∃ (i : BitVec 32) (q : BitVec 64) (x : Session) (m : EvMsg) (s : State), (findSession s i.toNat = some x) ∧ (x.evUnacked.find? (fun e => e.seq == q.toNat) = some m) ∧ (m.resends < 5) ∧ (kdpAnswers s = true) ∧ (netServes s x.netPort = true) :=
  ⟨7, 3, { id := 7, role := 1, netPort := 1, src := 5, srcPort := 9, opened := 0, key := 0, lastSeq := 3, evUnacked := [{ seq := 3, lost := 1, recs := [], resends := 4 }] }, { seq := 3, lost := 1, recs := [], resends := 4 }, { (wKdp 1) with kdp := { (wKdp 1).kdp with sessions := [{ id := 7, role := 1, netPort := 1, src := 5, srcPort := 9, opened := 0, key := 0, lastSeq := 3, evUnacked := [{ seq := 3, lost := 1, recs := [], resends := 4 }] }] } }, by decide⟩

theorem test_session_requests_10 : ∃ (i : BitVec 32) (q : BitVec 64) (x : Session) (m : EvMsg) (s : State), (findSession s i.toNat = some x) ∧ (x.evUnacked.find? (fun e => e.seq == q.toNat) = some m) ∧ (5 ≤ m.resends) ∧ (kdpAnswers s = true) ∧ (netServes s x.netPort = true) :=
  ⟨7, 3, { id := 7, role := 1, netPort := 1, src := 5, srcPort := 9, opened := 0, key := 0, lastSeq := 3, evUnacked := [{ seq := 3, lost := 1, recs := [{ code := 5 }], resends := 5 }] }, { seq := 3, lost := 1, recs := [{ code := 5 }], resends := 5 }, { (wKdp 1) with kdp := { (wKdp 1).kdp with sessions := [{ id := 7, role := 1, netPort := 1, src := 5, srcPort := 9, opened := 0, key := 0, lastSeq := 3, evUnacked := [{ seq := 3, lost := 1, recs := [{ code := 5 }], resends := 5 }] }] } }, by decide⟩

theorem test_session_opening_1 : ∃ (p : Fin 2) (via : NetAddr) (a : BitVec 128) (b : Datagram) (r : BitVec 8) (nc : BitVec 128) (s : State), (kdpAnswers s = true) ∧ (netServes s (p.val + 1) = true) ∧ (addrInUse (netOf s (p.val + 1)) via = true) ∧ (b.dstPort.toNat = s.robj Obj.KDP_UDP_PORT) ∧ (b.fit = true) ∧ (1 ≤ r.toNat) ∧ (r.toNat ≤ 4) ∧ ((backoffOf s a.toNat).until_ ≤ s.now) ∧ ((roleKey s r.toNat).isSome = true) ∧ (s.kdp.sessions.length < s.robj Obj.SESSION_LIMIT) :=
  ⟨0, .linkLocal, 5, { srcPort := 9 }, 1, 77, (wKdp 1).setR (Obj.ROLE_KEY_SET + 1) 1, by decide⟩

theorem test_session_opening_2 : ∃ (p : Fin 2) (via : NetAddr) (a : BitVec 128) (b : Datagram) (r : BitVec 8) (nc : BitVec 128) (s : State), (kdpAnswers s = true) ∧ (netServes s (p.val + 1) = true) ∧ (addrInUse (netOf s (p.val + 1)) via = true) ∧ (b.dstPort.toNat = s.robj Obj.KDP_UDP_PORT) ∧ (b.fit = true) ∧ (1 ≤ r.toNat) ∧ (r.toNat ≤ 4) ∧ (s.now < (backoffOf s a.toNat).until_) :=
  ⟨0, .linkLocal, 5, { srcPort := 9 }, 1, 77, { (wKdp 1) with kdp := { (wKdp 1).kdp with backoffs := [{ addr := 5, until_ := 400001 }] } }, by decide⟩

theorem test_session_opening_3 : ∃ (p : Fin 2) (via : NetAddr) (a : BitVec 128) (b : Datagram) (r : BitVec 8) (nc : BitVec 128) (s : State), (kdpAnswers s = true) ∧ (netServes s (p.val + 1) = true) ∧ (addrInUse (netOf s (p.val + 1)) via = true) ∧ (b.dstPort.toNat = s.robj Obj.KDP_UDP_PORT) ∧ (b.fit = true) ∧ (1 ≤ r.toNat) ∧ (r.toNat ≤ 4) ∧ ((backoffOf s a.toNat).until_ ≤ s.now) ∧ ((roleKey s r.toNat).isSome = true) ∧ (s.robj Obj.SESSION_LIMIT ≤ s.kdp.sessions.length) :=
  ⟨0, .linkLocal, 5, { srcPort := 9 }, 1, 77, ((wKdp 1).setR (Obj.ROLE_KEY_SET + 1) 1).setR Obj.SESSION_LIMIT 1, by decide⟩

theorem test_session_opening_4 : ∃ (i : BitVec 32) (k : BitVec 256) (h : Handshake) (b : Datagram) (s : State), (kdpAnswers s = true) ∧ (s.kdp.handshakes.find? (fun y => y.id == i.toNat) = some h) ∧ (netServes s h.netPort = true) ∧ (b.dstPort.toNat = h.udpPort) ∧ (b.fit = true) ∧ (roleKey s h.role = some k) ∧ (s.kdp.sessions.length < s.robj Obj.SESSION_LIMIT) :=
  ⟨9, 5, { id := 9, role := 2, nc := 1, nd := 2, netPort := 1, src := 5, srcPort := 9 }, { srcPort := 9 }, { ({ (wKdp 2) with kdp := { (wKdp 2).kdp with handshakes := [{ id := 9, role := 2, nc := 1, nd := 2, netPort := 1, src := 5, srcPort := 9 }] } }).setR (Obj.ROLE_KEY_SET + 2) 1 with kdp := { ({ (wKdp 2) with kdp := { (wKdp 2).kdp with handshakes := [{ id := 9, role := 2, nc := 1, nd := 2, netPort := 1, src := 5, srcPort := 9 }] } }).kdp with roleKeys := [(2, 5)] } }, by refine ⟨by decide, by decide, by decide, by decide, by decide, rfl, by decide⟩⟩

theorem test_session_opening_5 : ∃ (i : BitVec 32) (f : BitVec 256) (h : Handshake) (b : Datagram) (s : State), (kdpAnswers s = true) ∧ (s.kdp.handshakes.find? (fun y => y.id == i.toNat) = some h) ∧ (netServes s h.netPort = true) ∧ (b.dstPort.toNat = h.udpPort) ∧ (b.fit = true) ∧ (((roleKey s h.role).all fun k => f != proofC k h) = true) :=
  ⟨9, 5, { id := 9, role := 2, nc := 1, nd := 2, netPort := 1, src := 5, srcPort := 9 }, { srcPort := 9 }, { (wKdp 2) with kdp := { (wKdp 2).kdp with handshakes := [{ id := 9, role := 2, nc := 1, nd := 2, netPort := 1, src := 5, srcPort := 9 }] } }, by decide⟩

theorem test_session_opening_6 : ∃ (i : BitVec 32) (h : Handshake) (s : State), (s.kdp.handshakes.find? (fun h => h.id == i.toNat) = some h) :=
  ⟨9, { id := 9, role := 2, nc := 1, nd := 2, netPort := 1, src := 5, srcPort := 9 }, { (wKdp 2) with kdp := { (wKdp 2).kdp with handshakes := [{ id := 9, role := 2, nc := 1, nd := 2, netPort := 1, src := 5, srcPort := 9 }] } }, by decide⟩

theorem test_session_opening_7 : ∃ (i : BitVec 32) (f : Option (BitVec 256)) (h : Handshake) (b : Datagram) (s : State), (kdpAnswers s = true) ∧ (s.kdp.handshakes.find? (fun y => y.id == i.toNat) = none) ∧ (s.kdp.expired.find? (fun y => y.id == i.toNat) = some h) ∧ (netServes s h.netPort = true) ∧ (b.dstPort.toNat = h.udpPort) ∧ (b.fit = true) :=
  ⟨9, some 5, { id := 9, role := 2, nc := 1, nd := 2, netPort := 1, src := 5, srcPort := 9 }, { srcPort := 9 }, { (wKdp 2) with kdp := { (wKdp 2).kdp with expired := [{ id := 9, role := 2, nc := 1, nd := 2, netPort := 1, src := 5, srcPort := 9 }] } }, by decide⟩

theorem test_session_opening_8 : ∃ (p : Fin 2) (via : NetAddr) (a : BitVec 128) (b : Datagram) (r : BitVec 8) (nc : BitVec 128) (w : Bool) (s : State), (kdpAnswers s = true) ∧ (netServes s (p.val + 1) = true) ∧ (addrInUse (netOf s (p.val + 1)) via = true) ∧ (b.dstPort.toNat = s.robj Obj.KDP_UDP_PORT) ∧ (b.fit = false) :=
  ⟨0, .linkLocal, 5, { payload := 1233 }, 1, 77, true, wKdp 1, by decide⟩

theorem test_session_opening_9 : ∃ (p : Fin 2) (via : NetAddr) (a : BitVec 128) (b : Datagram) (r : BitVec 8) (nc : BitVec 128) (w : Bool) (s : State), ((kdpAnswers s = false ∨ addrInUse (netOf s (p.val + 1)) via = false)) :=
  ⟨0, .ipv4, 5, {}, 1, 77, true, wKdp 1, by decide⟩

theorem test_session_opening_11 : ∃ (req : KReq) (x : Session) (u : Nat) (arg : BitVec 32) (y : Session) (s : State), (startsRun s req x 0x1C21 arg.toNat u = true) ∧ (findSession s arg.toNat = some y) ∧ (y.role < 3) :=
  ⟨kReq (U.root) 0, wSess 3, U.root, 8, { (wSess 2) with id := 8 }, { (wKdp 3) with kdp := { (wKdp 3).kdp with sessions := [wSess 3, { (wSess 2) with id := 8 }] } }, by decide⟩

theorem test_session_opening_12 : ∃ (req : KReq) (x : Session) (u : Nat) (k : BitVec 256) (s : State), (admitted s req x 0x1C10 (.write (.bytes (beBytes 32 k.toNat))) u = true) :=
  ⟨kReq (U.root) 2, wSess 3, U.root, 0xFF00000000000000000000000000000000000000000000000000000000000001, { (wKdp 3) with kdp := { (wKdp 3).kdp with sessions := [wSess 3, { (wSess 2) with id := 8 }] } }, by decide⟩

theorem test_reads_and_writes_1 : ∃ (req : KReq) (x : Session) (u : Nat) (i : BitVec 16) (v : KVal) (s : State), (admitted s req x i.toNat .read u = true) ∧ (¬ i.toNat * 256 + req.sub.toNat ∈ [Obj.AGE_EXPORT, Obj.LOG_EXPORT, Obj.SAMPLE_EXPORT, Obj.HM_WINDOW_DATA]) ∧ ((readObject (countFrame s x.netPort) u (i.toNat * 256 + req.sub.toNat)).toOption = some v) ∧ ((match v with | .bytes bs => decide (bs.length ≤ 1024) | .num _ => true) = true) :=
  ⟨kReq (U.netPort 1) 0, wSess 2, U.netPort 1, 0x1C30, .num 1, (wKdp 2).setObj (U.netPort 1) Obj.NET_ENABLE 1, by decide⟩

theorem test_reads_and_writes_2 : ∃ (req : KReq) (x : Session) (u : Nat) (i : BitVec 16) (w : WriteBody) (e : Status) (s : State), (inTurn s req x = true) ∧ (isWild req.unit.toNat = false) ∧ ((expandPath s.variant req.unit.toNat).toOption = some [u]) ∧ ((match checkObject s x.role u (i.toNat * 256 + req.sub.toNat) (bodyOp w) with | .error q => q == e | .ok _ => false) = true) :=
  ⟨kReq (U.netPort 1) 0, wSess 1, U.netPort 1, 0x1C32, { value := .num 0 }, .denied, wKdp 1, by decide⟩

theorem test_reads_and_writes_3 : ∃ (req : KReq) (x : Session) (u : Nat) (i : BitVec 16) (n : Nat) (s : State), (admitted s req x i.toNat (.write (.num n)) u = true) ∧ (i.toNat = 0x1E01) ∧ (bitOf (pcReg s Obj.PC_CONFIG req.sub.toNat) 0 = false) :=
  ⟨kReq (U.ctl) 8, wSess 2, U.ctl, 0x1E01, 3, wKdp 2, by decide⟩

theorem test_reads_and_writes_4 : ∃ (req : KReq) (x : Session) (u : Nat) (i : BitVec 16) (n : BitVec 32) (r : ObjRow) (s : State), (inTurn s req x = true) ∧ ((expandPath s.variant req.unit.toNat).toOption = some [u]) ∧ (isWild req.unit.toNat = false) ∧ (objPresent s u (i.toNat * 256 + req.sub.toNat) = some r) ∧ (roleMeets x.role r.role = true) ∧ (r.access ≠ .ro) ∧ (stateGate s u (i.toNat * 256 + req.sub.toNat) true = none) ∧ (r.type = .blob) ∧ (totalOk r n.toNat = true) ∧ (s.kdp.bulk = none) ∧ (unitAbsent s u = false) :=
  ⟨kReq (U.root) 0, wSess 4, U.root, 0x1F20, 256, ((objPresent (wKdp 4) U.root Obj.FW_STAGE).getD ⟨0, 0, 0, .u8, .ro, 0, 0, .any, []⟩), wKdp 4, by decide⟩

theorem test_reads_and_writes_5 : ∃ (req : KReq) (x : Session) (o : BitVec 32) (l : List Byte) (b : Bulk) (s : State), (inTurn s req x = true) ∧ (s.kdp.bulkExpired.contains x.id = false) ∧ (s.kdp.bulk = some b) ∧ (b.sid = x.id) ∧ (s.phase ≠ .flushing) ∧ (b.write = true) ∧ (0 < l.length) ∧ (l.length ≤ 1024) ∧ (o.toNat + l.length ≤ b.total) :=
  ⟨kReq (U.root) 0, wSess 4, 1, [8, 9], { sid := 7, key := objKey 0 Obj.FW_STAGE, write := true, total := 3, data := [(1, 5)] }, { (wKdp 4) with kdp := { (wKdp 4).kdp with bulk := some { sid := 7, key := objKey 0 Obj.FW_STAGE, write := true, total := 3, data := [(1, 5)] } } }, by decide⟩

theorem test_reads_and_writes_6 : ∃ (req : KReq) (x : Session) (o : BitVec 32) (l : List Byte) (b : Bulk) (s : State), (inTurn s req x = true) ∧ (s.kdp.bulkExpired.contains x.id = false) ∧ (s.kdp.bulk = some b) ∧ (b.sid = x.id) ∧ (s.phase ≠ .flushing) ∧ (b.write = true) ∧ ((l.length = 0 ∨ 1024 < l.length ∨ b.total < o.toNat + l.length)) :=
  ⟨kReq (U.root) 0, wSess 4, 2, [8, 9], { sid := 7, key := objKey 0 Obj.FW_STAGE, write := true, total := 3 }, { (wKdp 4) with kdp := { (wKdp 4).kdp with bulk := some { sid := 7, key := objKey 0 Obj.FW_STAGE, write := true, total := 3 } } }, by decide⟩

theorem test_reads_and_writes_7 : ∃ (req : KReq) (x : Session) (o : BitVec 32) (n : BitVec 16) (b : Bulk) (s : State), (inTurn s req x = true) ∧ (s.kdp.bulkExpired.contains x.id = false) ∧ (s.kdp.bulk = some b) ∧ (b.sid = x.id) ∧ (s.phase ≠ .flushing) ∧ (b.write = false) ∧ (0 < n.toNat) ∧ (n.toNat ≤ 1024) ∧ (o.toNat + n.toNat ≤ b.copy.length) :=
  ⟨kReq (U.root) 0, wSess 4, 1, 2, { sid := 7, key := objKey 0 Obj.FW_STAGE, write := false, total := 0, copy := [1, 2, 3] }, { (wKdp 4) with kdp := { (wKdp 4).kdp with bulk := some { sid := 7, key := objKey 0 Obj.FW_STAGE, write := false, total := 0, copy := [1, 2, 3] } } }, by decide⟩

theorem test_reads_and_writes_8 : ∃ (req : KReq) (x : Session) (k : BitVec 32) (b : Bulk) (l : List Byte) (s : State), (inTurn s req x = true) ∧ (s.kdp.bulkExpired.contains x.id = false) ∧ (s.kdp.bulk = some b) ∧ (b.sid = x.id) ∧ (s.phase ≠ .flushing) ∧ (b.write = true) ∧ (b.key % 2^24 = Obj.FW_STAGE) ∧ (bulkBytes b = some l) ∧ (crc32c l = k.toNat) :=
  ⟨kReq (U.root) 0, wSess 4, 0x527D5351, { sid := 7, key := objKey 0 Obj.FW_STAGE, write := true, total := 1, data := [(0, 0)] }, [0], { (wKdp 4) with kdp := { (wKdp 4).kdp with bulk := some { sid := 7, key := objKey 0 Obj.FW_STAGE, write := true, total := 1, data := [(0, 0)] } } }, by decide⟩

theorem test_reads_and_writes_9 : ∃ (req : KReq) (x : Session) (k : BitVec 32) (b : Bulk) (s : State), (inTurn s req x = true) ∧ (s.kdp.bulkExpired.contains x.id = false) ∧ (s.kdp.bulk = some b) ∧ (b.sid = x.id) ∧ (s.phase ≠ .flushing) ∧ (b.write = true) ∧ (bulkBytes b = none) :=
  ⟨kReq (U.root) 0, wSess 4, 0, { sid := 7, key := objKey 0 Obj.FW_STAGE, write := true, total := 2, data := [(0, 0)] }, { (wKdp 4) with kdp := { (wKdp 4).kdp with bulk := some { sid := 7, key := objKey 0 Obj.FW_STAGE, write := true, total := 2, data := [(0, 0)] } } }, by decide⟩

theorem test_reads_and_writes_10 : ∃ (req : KReq) (x : Session) (k : BitVec 32) (b : Bulk) (l : List Byte) (s : State), (inTurn s req x = true) ∧ (s.kdp.bulkExpired.contains x.id = false) ∧ (s.kdp.bulk = some b) ∧ (b.sid = x.id) ∧ (s.phase ≠ .flushing) ∧ (b.write = true) ∧ (bulkBytes b = some l) ∧ (crc32c l ≠ k.toNat) :=
  ⟨kReq (U.root) 0, wSess 4, 0x527D5350, { sid := 7, key := objKey 0 Obj.FW_STAGE, write := true, total := 1, data := [(0, 0)] }, [0], { (wKdp 4) with kdp := { (wKdp 4).kdp with bulk := some { sid := 7, key := objKey 0 Obj.FW_STAGE, write := true, total := 1, data := [(0, 0)] } } }, by decide⟩

theorem test_reads_and_writes_11 : ∃ (req : KReq) (x : Session) (b : Bulk) (s : State), (inTurn s req x = true) ∧ (s.kdp.bulkExpired.contains x.id = false) ∧ (s.kdp.bulk = some b) ∧ (b.sid = x.id) ∧ (s.phase ≠ .flushing) :=
  ⟨kReq (U.root) 0, wSess 4, { sid := 7, key := objKey 0 Obj.FW_STAGE, write := true, total := 2, data := [(0, 0)] }, { (wKdp 4) with kdp := { (wKdp 4).kdp with bulk := some { sid := 7, key := objKey 0 Obj.FW_STAGE, write := true, total := 2, data := [(0, 0)] } } }, by decide⟩

theorem test_reads_and_writes_12 : ∃ (b : Bulk) (s : State), (s.kdp.bulk = some b) :=
  ⟨{ sid := 7, key := objKey 0 Obj.FW_STAGE, write := true, total := 2 }, { (wKdp 4) with kdp := { (wKdp 4).kdp with bulk := some { sid := 7, key := objKey 0 Obj.FW_STAGE, write := true, total := 2 } } }, by decide⟩

theorem test_unit_paths_1 : ∃ (v : Variant) (p : BitVec 32) (us : List Nat), (p.toNat % 4 ≠ 0) ∧ (expandPath v (p.toNat - p.toNat % 4) = .ok us) :=
  ⟨.p128, 0x1021DF03, [0x1021DF00], by decide, rfl⟩

theorem test_unit_paths_2 : ∃ (v : Variant) (p : BitVec 32), (p.toNat % 4 ≠ 0) :=
  ⟨.p064, 0xFFFFFFFF, by decide⟩

theorem test_unit_paths_3 : ∃ (v : Variant) (p : BitVec 32) (a b c d e : Nat), (p.toNat % 4 = 0) ∧ (pathLevels p.toNat = [a, b, c, d, e]) ∧ (isWild p.toNat = false) :=
  ⟨.p128, 0x1021DF00, 4, 2, 7, 31, 0, by decide⟩

theorem test_unit_paths_4 : ∃ (p : BitVec 32), (p.toNat % 4 = 0) ∧ (p.toNat / 2^20 = 64 * 4 + 2) :=
  ⟨0x1021DF00, by decide⟩

theorem test_unit_paths_5 : ∃ (p : BitVec 32) (us : List Nat) (u : Nat), (expandPath .p064 p.toNat = .ok us) ∧ (u ∈ us) :=
  ⟨BitVec.ofNat 32 (U.enc 4 63 16 0), [U.stack 1 16], U.stack 1 16, rfl, by decide⟩

theorem test_unit_paths_6 : ∃ (c : Instr) (r : KReq) (x : Session) (e : Status) (s : State), (namesObject c = true) ∧ (requestOf c = some r) ∧ (inTurn s r x = true) ∧ (expandPath s.variant r.unit.toNat = .error e) :=
  ⟨.read (kReq 0x10204000 0) 0x0010, kReq 0x10204000 0, wSess 1, .noObject, { wKdp 1 with variant := .p064 }, by decide, by decide, by decide, rfl⟩

theorem test_unit_paths_7 : ∃ (r : KReq) (slot minSev : BitVec 8) (subs : BitVec 16) (tree : BitVec 32) (x : Session) (e : Status) (s : State), (inTurn s r x = true) ∧ (1 ≤ slot.toNat) ∧ (slot.toNat ≤ 4) ∧ (minSev.toNat ≤ 4) ∧ (expandPath s.variant tree.toNat = .error e) :=
  ⟨kReq U.root 0, 4, 4, 1, 0x10204000, wSess 1, .noObject, { wKdp 1 with variant := .p064 }, by decide, by decide, by decide, by decide, rfl⟩

theorem test_network_ports_1 : ∃ (req : KReq) (x : Session) (u : Nat) (p : Fin 2) (s : State), (admitted s req x 0x1C30 (.write (.num 1)) u = true) ∧ (u = U.netPort (p.val + 1)) ∧ (s.obj u Obj.NET_ENABLE_STATE = 0) ∧ ((netOf s (p.val + 1)).offTimerDone = true) :=
  ⟨kReq (U.netPort 2) 0, wSess 3, U.netPort 2, 1, (wKdp 3).setObj (U.netPort 2) Obj.NET_ENABLE_STATE 0, by decide⟩

theorem test_network_ports_2 : ∃ (req : KReq) (x : Session) (u : Nat) (p : Fin 2) (s : State), (admitted s req x 0x1C30 (.write (.num 1)) u = true) ∧ (u = U.netPort (p.val + 1)) ∧ (s.obj u Obj.NET_ENABLE_STATE = 0) ∧ ((netOf s (p.val + 1)).offTimerDone = false) :=
  ⟨kReq (U.netPort 2) 0, wSess 3, U.netPort 2, 1, ({ (wKdp 3) with kdp := { (wKdp 3).kdp with net2 := { offTimerDone := false } } }).setObj (U.netPort 2) Obj.NET_ENABLE_STATE 0, by decide⟩

theorem test_network_ports_3 : ∃ (req : KReq) (x : Session) (u : Nat) (p : Fin 2) (s : State), (admitted s req x 0x1C30 (.write (.num 0)) u = true) ∧ (u = U.netPort (p.val + 1)) ∧ (s.obj u Obj.NET_ENABLE_STATE = 1) ∧ ((unitState s (U.netPort (2 - p.val)) ≠ 3 ∨ s.obj (U.netPort (2 - p.val)) Obj.NET_KDP ≠ 1)) :=
  ⟨kReq (U.netPort 1) 0, wSess 3, U.netPort 1, 0, wKdp 3, by decide⟩

theorem test_network_ports_4 : ∃ (req : KReq) (x : Session) (u : Nat) (p : Fin 2) (arg : BitVec 32) (s : State), (startsRun s req x 0x1C35 arg.toNat u = true) ∧ (u = U.netPort (p.val + 1)) ∧ (s.obj u Obj.NET_ADDR_MODE = 1) ∧ (1 ≤ s.obj u Obj.NET_IPV6_PREFIX) ∧ (s.obj u Obj.NET_IPV6_PREFIX ≤ 128) ∧ (1 ≤ s.obj u Obj.NET_IPV4_PREFIX) ∧ (s.obj u Obj.NET_IPV4_PREFIX ≤ 32) ∧ (s.obj u Obj.NET_ENABLE_STATE ≠ 1) ∧ (kdpReachable s = true) :=
  ⟨kReq (U.netPort 2) 0, wSess 3, U.netPort 2, 1, 1, ((((wKdp 3).setObj (U.netPort 2) Obj.NET_ENABLE_STATE 0).setObj (U.netPort 2) Obj.NET_ADDR_MODE 1).setObj (U.netPort 2) Obj.NET_VLAN 4094), by decide⟩

theorem test_network_ports_5 : ∃ (req : KReq) (x : Session) (u : Nat) (p : Fin 2) (arg : BitVec 32) (s : State), (startsRun s req x 0x1C35 arg.toNat u = true) ∧ (u = U.netPort (p.val + 1)) ∧ (s.obj u Obj.NET_ADDR_MODE = 0) ∧ (beNat (s.blob u Obj.NET_IPV6) = 0) :=
  ⟨kReq (U.netPort 2) 0, wSess 3, U.netPort 2, 1, 1, wKdp 3, by decide⟩

theorem test_network_ports_6 : ∃ (p : Fin 2) (s : State), (s.obj (U.netPort (p.val + 1)) Obj.NET_ENABLE_STATE = 2) ∧ ((netOf s (p.val + 1)).shut = false) :=
  ⟨1, (wKdp 3).setObj (U.netPort 2) Obj.NET_ENABLE_STATE 2, by decide⟩

theorem test_network_ports_7 : ∃ (p : Fin 2) (l : Fin 3) (f : Bool) (s : State), (ctlState s ≠ 1) ∧ (s.obj (U.netPort (p.val + 1)) Obj.NET_ENABLE_STATE = 1) ∧ (AMap.has s.ts.loops (U.netPort (p.val + 1)) = false) :=
  ⟨0, 1, true, wKdp 3, by decide⟩

theorem test_network_ports_8 : ∃ (p : Fin 2) (a : BitVec 128) (v4 : Bool) (s : State), ((netOf s (p.val + 1)).mode = 1) ∧ (s.obj (U.netPort (p.val + 1)) Obj.NET_ENABLE_STATE = 1) ∧ (s.obj (U.netPort (p.val + 1)) Obj.NET_LINK = 2) ∧ (a ≠ 0) :=
  ⟨0, 0x1FFFFFFFF, true, { (wKdp 3) with kdp := { (wKdp 3).kdp with net1 := { mode := 1, ipv4 := 4 } } }, by decide⟩

theorem test_store_commands_1 : ∃ (req : KReq) (x : Session) (arg : BitVec 32) (s : State), (startsRun s req x 0x1D01 arg.toNat (U.hm) = true) ∧ (s.hm.storeRunning = false) ∧ (s.hm.storeSpaced = true) :=
  ⟨kReq (U.hm) 0, wSess 2, 1, { (wKdp 2) with hm := { (wKdp 2).hm with storeSpaced := true } }, by decide⟩

theorem test_store_commands_2 : ∃ (req : KReq) (x : Session) (arg : BitVec 32) (s : State), (startsRun s req x 0x1D01 arg.toNat (U.hm) = true) ∧ ((s.hm.storeRunning = true ∨ s.hm.storeSpaced = false)) :=
  ⟨kReq (U.hm) 0, wSess 2, 1, { (wKdp 2) with hm := { (wKdp 2).hm with storeSpaced := false } }, by decide⟩

theorem test_store_commands_3 : ∃ (s : State), (s.hm.running = true) ∧ (s.hm.storeSpaced = false) ∧ (s.hm.storeWaiting = true) ∧ (s.hm.storeRunning = false) :=
  ⟨{ (wKdp 2) with hm := { (wKdp 2).hm with storeSpaced := false, storeWaiting := true } }, by decide⟩

theorem test_store_commands_4 : ∃ (s : State), (s.hm.running = true) ∧ (s.hm.storeSpaced = false) ∧ ((s.hm.storeWaiting = false ∨ s.hm.storeRunning = true)) :=
  ⟨{ (wKdp 2) with hm := { (wKdp 2).hm with storeSpaced := false } }, by decide⟩

theorem test_store_commands_5 : ∃ (s : State), (s.hm.storeRunning = true) :=
  ⟨{ (wKdp 2) with hm := { (wKdp 2).hm with storeRunning := true, storeWaiting := true, storeSpaced := true } }, by decide⟩

theorem test_store_commands_6 : ∃ (bad : List (Fin 256)) (s : State), (s.hm.storeRunning = true) ∧ (bad ≠ []) :=
  ⟨[1], { (wKdp 2) with hm := { (wKdp 2).hm with storeRunning := true, sram := { generation := 5, slots := [(2, { seq := 7, payload := [1], valid := true })], remap := [], recent := [], station := [] } } }, by decide⟩

theorem test_store_commands_7 : ∃ (req : KReq) (x : Session) (l : List Byte) (s : State), (Memory.wf s = true) ∧ (admitted s req x 0x1D03 (.write (.bytes l)) (U.hm) = true) ∧ (windowOpen (s.obj U.hm Obj.HM_WINDOW_ADDR) = true) :=
  ⟨kReq (U.hm) 0, wSess 2, [7, 0, 9], ({ (wKdp 2) with hm := { (wKdp 2).hm with sram := { generation := 5, slots := [], remap := [], recent := [], station := [(0x1F00, 4)] } } }).setObj U.hm Obj.HM_WINDOW_ADDR 0xDFFF, by decide⟩

theorem test_store_commands_8 : ∃ (req : KReq) (x : Session) (l : List Byte) (s : State), (admitted s req x 0x1D03 (.write (.bytes l)) (U.hm) = true) ∧ (windowOpen (s.obj U.hm Obj.HM_WINDOW_ADDR) = false) :=
  ⟨kReq (U.hm) 0, wSess 2, [7], (wKdp 2).setObj U.hm Obj.HM_WINDOW_ADDR 0xBFFF, by decide⟩

theorem test_store_commands_9 : ∃ (s : State), (s.hm.running = true) ∧ ((s.phase = .cold ∨ s.phase = .latchedOff)) :=
  ⟨wPh .cold, by decide⟩

theorem test_store_commands_10 : ∃ (s : State), (s.hm.running = true) ∧ (s.phase ≠ .cold) ∧ (s.phase ≠ .latchedOff) :=
  ⟨wRun, by decide⟩

theorem test_store_commands_11 : ∃ (i v : Nat) (s : State), (s.hm.running = true) ∧ (cellTop s.hm.opsecCells = some (i, v)) ∧ (v ≠ s.hm.opsec) :=
  ⟨15, 4, { (wKdp 2) with hm := { (wKdp 2).hm with opsec := 9, opsecCells := [(15, 4)] } }, by decide⟩

theorem test_store_commands_12 : ∃ (i v : Nat) (s : State), (s.hm.running = true) ∧ (cellTop s.hm.opsecCells = some (i, v)) ∧ (v = s.hm.opsec) :=
  ⟨15, 9, { (wKdp 2) with hm := { (wKdp 2).hm with opsec := 9, opsecSince := 5, opsecCells := [(15, 9)] } }, by decide⟩

theorem test_recorder_commands_1 : ∃ (s : State), (s.recorder.accepting = true) ∧ (s.recorder.logOpen = true) ∧ (s.recorder.freezeSid = none) ∧ (((s.recorder.buffer.filter fun p => decide (s.recorder.flushedTo ≤ p.1)).isEmpty) = false) :=
  ⟨{ (wKdp 2) with recorder := { (wKdp 2).recorder with logOpen := true, next := 3, flushedTo := 1, buffer := [(2, { code := 5 }), (1, { code := 6 }), (0, { code := 7 })], log := [(0, { code := 7 })] } }, by decide⟩

theorem test_recorder_commands_2 : ∃ (s : State), ((s.recorder.accepting = false ∨ s.recorder.logOpen = false ∨ s.recorder.freezeSid ≠ none)) :=
  ⟨{ (wKdp 2) with recorder := { (wKdp 2).recorder with logOpen := true, freezeSid := some 7 } }, by decide⟩

theorem test_recorder_commands_3 : ∃ (req : KReq) (x : Session) (s : State), (admitted s req x 0x1D10 (.write (.num 1)) (U.root) = true) ∧ (s.recorder.freezeSid = none) :=
  ⟨kReq (U.root) 0, wSess 2, wKdp 2, by decide⟩

theorem test_recorder_commands_4 : ∃ (req : KReq) (x : Session) (k : Nat) (s : State), (admitted s req x 0x1D10 (.write (.num 0)) (U.root) = true) ∧ (s.recorder.freezeSid = some k) :=
  ⟨kReq (U.root) 0, wSess 2, 8, { (wKdp 2) with recorder := { (wKdp 2).recorder with freezeSid := some 8 } }, by decide⟩

theorem test_recorder_commands_5 : ∃ (k : Nat) (s : State), (s.recorder.freezeSid = some k) ∧ (s.recorder.accepting = true) ∧ (s.recorder.buffer = []) ∧ (triggerFor s Ev.FREEZE_ENDED = none) :=
  ⟨7, { (wKdp 2) with recorder := { (wKdp 2).recorder with freezeSid := some 7, freezeLost := 0 } }.setR Obj.FROZEN_LOST 4, ⟨by decide, by decide, by decide, rfl⟩⟩

theorem test_recorder_commands_6 : ∃ (req : KReq) (x : Session) (c l : Nat) (s : State), (admitted s req x 0x1D14 .read (U.root) = true) ∧ (cursorFix s.recorder.log (s.obj U.root Obj.LOG_CURSOR) = (c, l)) ∧ (((fromCursor s.recorder.log c).map fun p => eventBytes p.2).flatten.length ≤ 1024) :=
  ⟨kReq (U.root) 0, wSess 2, 5, 5, { (wKdp 2) with recorder := { (wKdp 2).recorder with log := [(6, { code := 5 }), (5, { code := 6 })] } }, by decide⟩

theorem test_recorder_commands_7 : ∃ (req : KReq) (x : Session) (c : Nat) (s : State), (admitted s req x 0x1E11 .read (U.ctl) = true) ∧ (cursorFix s.pc.samples (s.obj U.ctl Obj.SAMPLE_CURSOR) = (c, 0)) ∧ (((fromCursor s.pc.samples c).map fun p => sampleBytes p.2).flatten.length ≤ 1024) :=
  ⟨kReq (U.ctl) 0, wSess 2, 0, wKdp 2, by decide⟩

theorem test_recorder_commands_8 : ∃ (req : KReq) (x : Session) (c l : Nat) (s : State), (admitted s req x 0x1E11 .read (U.ctl) = true) ∧ (cursorFix s.pc.samples (s.obj U.ctl Obj.SAMPLE_CURSOR) = (c, l)) ∧ (((fromCursor s.pc.samples c).map fun p => sampleBytes p.2).flatten.length ≤ 1024) :=
  ⟨kReq (U.ctl) 0, wSess 2, 3, 3, { wKdp 2 with pc := { (wKdp 2).pc with samples := [(3, { cycle := 0, line := 1, counter := 1, event := 2, port := 0, slice := 0, src := 0, write := false, mismatch := false, prot := false, skid := 0 })] } }, by decide⟩

theorem test_recorder_commands_9 : ∃ (req : KReq) (x : Session) (c : Nat) (s : State), (admitted s req x 0x1707 .read (U.root) = true) ∧ (cursorFix s.ag.log (s.obj U.root Obj.AGE_CURSOR) = (c, 0)) ∧ (((fromCursor s.ag.log c).map fun p => measBytes p.2).flatten.length ≤ 1024) :=
  ⟨kReq (U.root) 0, wSess 2, 0, wKdp 2, by decide⟩

theorem test_recorder_commands_10 : ∃ (req : KReq) (x : Session) (c l : Nat) (s : State), (admitted s req x 0x1707 .read (U.root) = true) ∧ (cursorFix s.ag.log (s.obj U.root Obj.AGE_CURSOR) = (c, l)) ∧ (((fromCursor s.ag.log c).map fun p => measBytes p.2).flatten.length ≤ 1024) :=
  ⟨kReq (U.root) 0, wSess 2, 0, 0, wKdp 2, by decide⟩

theorem test_recorder_commands_11 : ∃ (req : KReq) (x : Session) (l : List Byte) (s : State), (admitted s req x 0x1D20 (.write (.bytes l)) (U.root) = true) ∧ ((l.getD 2 0).toNat ≤ 2) ∧ ((l.getD 3 0).toNat ≤ 5) ∧ ((l.drop 4).take 4 = [0, 0, 0, 0]) ∧ (((List.range (l.getD 3 0).toNat).all fun k => triggerObjectOk ((l.drop (8 + 8 * k)).take 8)) = true) :=
  ⟨kReq (U.root) 8, wSess 2, ([0x10, 0x20, 2, 0, 0, 0, 0, 0] ++ List.replicate 40 0), wKdp 2, by decide⟩

theorem test_recorder_commands_12 : ∃ (req : KReq) (x : Session) (l : List Byte) (s : State), (admitted s req x 0x1D20 (.write (.bytes l)) (U.root) = true) ∧ ((2 < (l.getD 2 0).toNat ∨ 5 < (l.getD 3 0).toNat ∨ (l.drop 4).take 4 ≠ [0, 0, 0, 0])) :=
  ⟨kReq (U.root) 1, wSess 2, ([0x10, 0x20, 2, 6, 0, 0, 0, 0] ++ List.replicate 40 0), wKdp 2, by decide⟩

theorem test_counter_commands_1 : ∃ (req : KReq) (x : Session) (v : BitVec 32) (s : State), (admitted s req x 0x1E03 (.write (.num v.toNat)) (U.ctl) = true) ∧ (counterUnitReset s = false) ∧ ((bitOf v.toNat 0 = false ∨ (pcScopeOk s (pcReg s Obj.PC_EVENT req.sub.toNat) (pcReg s Obj.PC_SCOPE req.sub.toNat) && (!bitOf v.toNat 3 || pcSampled (pcReg s Obj.PC_EVENT req.sub.toNat))) = true)) :=
  ⟨kReq (U.ctl) 8, wSess 2, 25, ((wKdp 2).setObj U.ctl (Obj.PC_CONFIG + 8) 4).setObj U.ctl (Obj.PC_EVENT + 8) 2, by decide⟩

theorem test_counter_commands_2 : ∃ (req : KReq) (x : Session) (v : BitVec 32) (s : State), (admitted s req x 0x1E03 (.write (.num v.toNat)) (U.ctl) = true) ∧ (bitOf v.toNat 0 = true) ∧ ((pcScopeOk s (pcReg s Obj.PC_EVENT req.sub.toNat) (pcReg s Obj.PC_SCOPE req.sub.toNat) && (!bitOf v.toNat 3 || pcSampled (pcReg s Obj.PC_EVENT req.sub.toNat))) = false) :=
  ⟨kReq (U.ctl) 1, wSess 2, 9, (wKdp 2).setObj U.ctl (Obj.PC_EVENT + 1) 0x19, by decide⟩

theorem test_counter_commands_3 : ∃ (req : KReq) (x : Session) (v : BitVec 64) (s : State), (admitted s req x 0x1E04 (.write (.num v.toNat)) (U.ctl) = true) ∧ (counterUnitReset s = false) :=
  ⟨kReq (U.ctl) 8, wSess 2, 281474976710655, (wKdp 2).setObj U.ctl (Obj.PC_CONFIG + 8) 5, by decide⟩

theorem test_counter_commands_4 : ∃ (req : KReq) (x : Session) (v : BitVec 64) (s : State), (admitted s req x 0x1E04 (.write (.num v.toNat)) (U.ctl) = true) ∧ (counterUnitReset s = true) :=
  ⟨kReq (U.ctl) 8, wSess 2, 1, (wKdp 2).setR (Obj.BLOCK_STATE + 6) 1, by decide⟩

theorem test_counter_commands_5 : ∃ (c : Fin 8) (k : Fin 65) (s : State), (bitOf (pcReg s Obj.PC_CONFIG (c.val + 1)) 0 = true) ∧ (s.obj U.ctl Obj.PC_FREEZE = 0) ∧ (counterUnitReset s = false) ∧ (2^48 ≤ pcReg s Obj.PC_COUNT (c.val + 1) + k.val) ∧ (bitOf (pcReg s Obj.PC_CONFIG (c.val + 1)) 4 = false) :=
  ⟨7, 64, ((wKdp 2).setObj U.ctl (Obj.PC_CONFIG + 8) 1).setObj U.ctl (Obj.PC_COUNT + 8) (2^48 - 1), by decide⟩

theorem test_counter_commands_6 : ∃ (c : Fin 8) (k : Fin 65) (s : State), (bitOf (pcReg s Obj.PC_CONFIG (c.val + 1)) 0 = true) ∧ (s.obj U.ctl Obj.PC_FREEZE = 0) ∧ (counterUnitReset s = false) ∧ (2^48 ≤ pcReg s Obj.PC_COUNT (c.val + 1) + k.val) ∧ (bitOf (pcReg s Obj.PC_CONFIG (c.val + 1)) 4 = true) :=
  ⟨0, 1, (((wKdp 2).setObj U.ctl (Obj.PC_CONFIG + 1) 17).setObj U.ctl (Obj.PC_COUNT + 1) (2^48 - 1)), by decide⟩

theorem test_counter_commands_7 : ∃ (c : Fin 8) (k : Fin 65) (sl : Option (Fin 16)) (s : State), ((bitOf (pcReg s Obj.PC_CONFIG (c.val + 1)) 0 = false ∨ s.obj U.ctl Obj.PC_FREEZE ≠ 0 ∨ counterUnitReset s = true ∨ pcReg s Obj.PC_COUNT (c.val + 1) + k.val < 2^48)) :=
  ⟨7, 0, some 3, ((wKdp 2).setObj U.ctl (Obj.PC_CONFIG + 8) 1).setObj U.ctl (Obj.PC_COUNT + 8) (2^48 - 1), by decide⟩

theorem test_counter_commands_8 : ∃ (req : KReq) (x : Session) (s : State), (admitted s req x 0x1E08 (.write (.num 1)) (U.ctl) = true) ∧ (s.obj U.ctl Obj.PC_FREEZE ≠ 1) ∧ (counterUnitReset s = false) :=
  ⟨kReq (U.ctl) 0, wSess 2, { (wKdp 2) with pc := { (wKdp 2).pc with armed := [{ slice := 1, counter := 2 }] } }, by decide⟩

theorem test_counter_commands_9 : ∃ (req : KReq) (x : Session) (s : State), (admitted s req x 0x1E08 (.write (.num 0)) (U.ctl) = true) ∧ (counterUnitReset s = false) :=
  ⟨kReq (U.ctl) 0, wSess 2, (wKdp 2).setObj U.ctl Obj.PC_FREEZE 1, by decide⟩

theorem test_counter_commands_10 : ∃ (req : KReq) (x : Session) (arg : BitVec 32) (s : State), (startsRun s req x 0x1E09 arg.toNat (U.ctl) = true) :=
  ⟨kReq (U.ctl) 0, wSess 2, 1, ((wKdp 2).setObj U.ctl (Obj.PC_CONFIG + 8) 5).setObj U.ctl (Obj.PC_COUNT + 8) 7, by decide⟩

theorem test_counter_commands_11 : ∃ (sl : Fin 16) (p : Fin 17) (src : BitVec 16) (l : BitVec 51) (w : Bool) (e : Fin 27) (u : BitVec 32) (a : Armed) (s : State), (s.obj U.ctl Obj.PC_FREEZE ≠ 1) ∧ (counterUnitReset s = false) ∧ (s.pc.armed = [a]) ∧ (a.slice = sl.val) ∧ (e.val = pcReg s Obj.PC_EVENT a.counter) ∧ (unitUnder u.toNat (pcReg s Obj.PC_SCOPE a.counter) = true) :=
  ⟨3, 0, 1, 99, true, 2, BitVec.ofNat 32 (U.port 1), { slice := 3, counter := 2, skid := 63 }, ({ (wKdp 2) with pc := { (wKdp 2).pc with armed := [{ slice := 3, counter := 2, skid := 63 }] } }).setObj U.ctl (Obj.PC_EVENT + 2) 2, by decide⟩

theorem test_counter_commands_12 : ∃ (sl : Fin 16) (p : Fin 17) (src : BitVec 16) (l : BitVec 51) (w : Bool) (e : Fin 27) (u : BitVec 32) (a : Armed) (s : State), (s.obj U.ctl Obj.PC_FREEZE ≠ 1) ∧ (counterUnitReset s = false) ∧ (s.pc.armed = [a]) ∧ (a.slice = sl.val) ∧ ((e.val ≠ pcReg s Obj.PC_EVENT a.counter ∨ unitUnder u.toNat (pcReg s Obj.PC_SCOPE a.counter) = false)) :=
  ⟨3, 0, 1, 99, true, 2, BitVec.ofNat 32 (U.port 1), { slice := 3, counter := 2, skid := 63 }, { (wKdp 2) with pc := { (wKdp 2).pc with armed := [{ slice := 3, counter := 2, skid := 63 }] } }, by decide⟩

theorem test_counter_commands_13 : ∃ (s : State), (s.obj U.ctl Obj.PC_CYCLES % bwLength s = 0) ∧ (s.pc.bwFrom + bwLength s ≤ s.obj U.ctl Obj.PC_CYCLES) ∧ (counterUnitReset s = false) ∧ (s.obj U.ctl Obj.PC_FREEZE ≠ 1) :=
  ⟨(wKdp 2).setObj U.ctl Obj.PC_CYCLES 800000, by decide⟩

theorem test_counter_commands_14 : ∃ (s : State), (s.obj U.ctl Obj.PC_CYCLES % bwLength s = 0) ∧ (s.pc.bwFrom + bwLength s ≤ s.obj U.ctl Obj.PC_CYCLES) ∧ (counterUnitReset s = false) ∧ (s.obj U.ctl Obj.PC_FREEZE = 1) :=
  ⟨((wKdp 2).setObj U.ctl Obj.PC_CYCLES 800000).setObj U.ctl Obj.PC_FREEZE 1, by decide⟩

theorem test_counter_commands_15 : ∃ (req : KReq) (x : Session) (v : BitVec 32) (s : State), (admitted s req x 0x1E20 (.write (.num v.toNat)) (U.ports) = true) :=
  ⟨kReq (U.ports) 0, wSess 2, 1000000, wKdp 2, by decide⟩

theorem test_counter_setup_1 : ∃ (req : KReq) (x : Session) (i : BitVec 16) (v : KVal) (s : State), ((i = 0x1E01 ∨ i = 0x1E02 ∨ i = 0x1E07)) ∧ (admitted s req x i.toNat (.write v) U.ctl = true) ∧ (bitOf (pcReg s Obj.PC_CONFIG req.sub.toNat) 0 = true) :=
  ⟨kReq U.ctl 8, wSess 2, 0x1E07, .num 1, (wKdp 2).setObj U.ctl (Obj.PC_CONFIG + 8) 1, by decide⟩

theorem test_counter_setup_2 : ∃ (req : KReq) (x : Session) (v : BitVec 32) (s : State), (admitted s req x 0x1E03 (.write (.num v.toNat)) U.ctl = true) ∧ (bitOf v.toNat 0 = true) ∧ ((pcScopeOk s (pcReg s Obj.PC_EVENT req.sub.toNat) (pcReg s Obj.PC_SCOPE req.sub.toNat) = false ∨ (bitOf v.toNat 3 = true ∧ pcSampled (pcReg s Obj.PC_EVENT req.sub.toNat) = false))) :=
  ⟨kReq U.ctl 1, wSess 2, 1, ((wKdp 2).setObj U.ctl (Obj.PC_EVENT + 1) 2).setObj U.ctl (Obj.PC_SCOPE + 1) U.power, by decide⟩

theorem test_counter_overflows_1 : ∃ (c : Fin 8) (k : Fin 65) (sl : Option (Fin 16)) (s : State), (bitOf (pcReg s Obj.PC_CONFIG (c.val + 1)) 0 = true) ∧ (s.obj U.ctl Obj.PC_FREEZE = 0) ∧ (counterUnitReset s = false) ∧ (2^48 ≤ pcReg s Obj.PC_COUNT (c.val + 1) + k.val) :=
  ⟨7, 64, some 15, ((wKdp 2).setObj U.ctl (Obj.PC_CONFIG + 8) 25).setObj U.ctl (Obj.PC_COUNT + 8) (2^48 - 1), by decide⟩

theorem test_counter_overflows_2 : ∃ (c : Fin 8) (k : Nat) (sl : Option Nat) (s : State), (pcReg s Obj.PC_COUNT (c.val + 1) + k < 2^48) :=
  ⟨0, 64, none, (wKdp 2).setObj U.ctl (Obj.PC_COUNT + 1) (2^48 - 65), by decide⟩

theorem test_counter_overflows_3 : ∃ (c : Fin 8) (n m j : Nat) (sl : Option Nat) (s : State), (0 < n) ∧ (n ≤ 2^48) ∧ (j < n) ∧ (pcReg s Obj.PC_COUNT (c.val + 1) = 2^48 - n) ∧ (pcReg s Obj.PC_RELOAD (c.val + 1) = 2^48 - n) ∧ (bitOf (pcReg s Obj.PC_CONFIG (c.val + 1)) 3 = true) ∧ (pcReg s Obj.PC_OVF_COUNT (c.val + 1) < objModulus (Obj.PC_OVF_COUNT + (c.val + 1))) :=
  ⟨7, 2, 5, 1, some 0, (((wKdp 2).setObj U.ctl (Obj.PC_CONFIG + 8) 9).setObj U.ctl (Obj.PC_COUNT + 8) (2^48 - 2)).setObj U.ctl (Obj.PC_RELOAD + 8) (2^48 - 2), by decide⟩

theorem test_loopbacks_and_selftests_1 : ∃ (req : KReq) (x : Session) (u : Nat) (arg : BitVec 32) (s : State), (startsRun s req x 0x1F01 arg.toNat u = true) ∧ (arg ≠ 0) ∧ (AMap.has s.ts.loops u = false) ∧ (loopAllowed s u = true) ∧ (s.ts.loops.length < 4) :=
  ⟨kReq (U.hm) 0, wSess 2, U.hm, 60000, wKdp 2, by decide⟩

theorem test_loopbacks_and_selftests_2 : ∃ (req : KReq) (x : Session) (u : Nat) (arg : BitVec 32) (s : State), (startsRun s req x 0x1F01 arg.toNat u = true) ∧ (arg ≠ 0) ∧ (AMap.has s.ts.loops u = false) ∧ (loopAllowed s u = false) :=
  ⟨kReq (U.netPort 1) 0, wSess 2, U.netPort 1, 1, wKdp 2, by decide⟩

theorem test_loopbacks_and_selftests_3 : ∃ (req : KReq) (x : Session) (u : Nat) (s : State), (admitted s req x 0x1F01 (.exec 0) u = true) ∧ (runPending s u Obj.LB_RUN = true) ∧ (AMap.wf s.ts.loops = true) ∧ (AMap.has s.ts.loops u = true) :=
  ⟨kReq (U.hm) 0, wSess 2, U.hm, { ({ (wKdp 2) with ts := { (wKdp 2).ts with loops := [(U.hm, { depth := 1, at_ := 0, since := 0, ms := 5 })] } }) with kdp := { (wKdp 2).kdp with runs := [(objKey U.hm Obj.LB_RUN, { sid := 8, arg := 5, at_ := 0, status := .pending, owed := [], merged := [] })] } }, by decide⟩

theorem test_loopbacks_and_selftests_4 : ∃ (u : BitVec 32) (n : Bool) (d : BitVec 32) (c e : BitVec 64) (f : BitVec 16) (l : Loopback) (s : State), (AMap.wf s.ts.loops = true) ∧ (AMap.get? s.ts.loops u.toNat = some l) :=
  ⟨BitVec.ofNat 32 U.hm, false, 3, 1000, 1, 7, { depth := 1, at_ := 0, since := 0, ms := 5 }, { (wKdp 2) with ts := { (wKdp 2).ts with loops := [(U.hm, { depth := 1, at_ := 0, since := 0, ms := 5 })] } }, by decide⟩

theorem test_loopbacks_and_selftests_5 : ∃ (req : KReq) (x : Session) (arg : BitVec 32) (s : State), (startsRun s req x 0x1F08 arg.toNat (U.ctl) = true) ∧ (arg ≠ 0xFFFF) ∧ (wayDisabled s (arg.toNat / 16) (arg.toNat % 16) = true) :=
  ⟨kReq (U.ctl) 0, wSess 4, 255, (wKdp 4).setR (Obj.HC_WAY_DISABLED + 16) 0x8000, by decide⟩

theorem test_loopbacks_and_selftests_6 : ∃ (req : KReq) (x : Session) (arg : BitVec 32) (s : State), (startsRun s req x 0x1F08 arg.toNat (U.ctl) = true) ∧ (arg = 0xFFFF) ∧ (s.cs.bootHeld = true) :=
  ⟨kReq (U.ctl) 0, wSess 4, 0xFFFF, { (wKdp 4) with phase := .booting, cs := { (wKdp 4).cs with bootHeld := true, mapLoaded := false, replayDone := false } }, by decide⟩

theorem test_loopbacks_and_selftests_7 : ∃ (req : KReq) (x : Session) (arg : BitVec 32) (s : State), (startsRun s req x 0x1F08 arg.toNat (U.ctl) = true) ∧ ((if arg = 0xFFFF then s.cs.bootHeld else wayDisabled s (arg.toNat / 16) (arg.toNat % 16)) = false) :=
  ⟨kReq (U.ctl) 0, wSess 4, 255, wKdp 4, by decide⟩

theorem test_loopbacks_and_selftests_8 : ∃ (p : BitVec 32) (f : List (Fin 16 × BitVec 32)) (m : BitVec 32) (a : Nat) (s : State), (s.ts.sramTest = some a) ∧ (a ≠ 0xFFFF) :=
  ⟨9, [], 4, 255, { (wKdp 4) with ts := { (wKdp 4).ts with sramTest := some 255 } }, by decide⟩

theorem test_loopbacks_and_selftests_9 : ∃ (req : KReq) (x : Session) (u : Nat) (arg : BitVec 32) (s : State), (startsRun s req x 0x1F0A arg.toNat u = true) ∧ (stackGone s (stackIdx u).1 (stackIdx u).2 = false) :=
  ⟨kReq (U.stack 2 16) 0, wSess 2, U.stack 2 16, 1, wKdp 2, by decide⟩

theorem test_loopbacks_and_selftests_10 : ∃ (g : Fin 2) (k : Fin 16) (f : BitVec 32) (s : State), (s.ts.stackTests.contains (U.stack (g.val + 1) (k.val + 1)) = true) :=
  ⟨1, 15, 3, { (wKdp 2) with ts := { (wKdp 2).ts with stackTests := [U.stack 2 16] } }, by decide⟩

theorem test_loopbacks_and_selftests_11 : ∃ (req : KReq) (x : Session) (u : Nat) (arg : BitVec 32) (s : State), (startsRun s req x 0x1F0C arg.toNat u = true) ∧ (s.cs.bootHeld = true) :=
  ⟨kReq (U.hbmStack 8) 0, wSess 4, U.hbmStack 8, 1, { (wKdp 4) with phase := .booting, cs := { (wKdp 4).cs with bootHeld := true, mapLoaded := false, replayDone := false } }, by decide⟩

theorem test_loopbacks_and_selftests_12 : ∃ (req : KReq) (x : Session) (u : Nat) (arg : BitVec 32) (s : State), (startsRun s req x 0x1F0C arg.toNat u = true) ∧ (s.cs.bootHeld = false) :=
  ⟨kReq (U.hbmStack 8) 0, wSess 4, U.hbmStack 8, 1, wKdp 4, by decide⟩

theorem test_loopbacks_and_selftests_13 : ∃ (k : Fin 8) (p m : BitVec 32) (s : State), (s.ts.hbmTests.contains (U.hbmStack (k.val + 1)) = true) :=
  ⟨7, 9, 4, { (wKdp 4) with ts := { (wKdp 4).ts with hbmTests := [U.hbmStack 8] } }, by decide⟩

theorem test_service_and_firmware_1 : ∃ (req : KReq) (x : Session) (arg : BitVec 32) (s : State), (startsRun s req x 0x1F14 arg.toNat (U.root) = true) ∧ (moduleState s ≠ 6) :=
  ⟨kReq (U.root) 0, wSess 4, 3600, wKdp 4, by decide⟩

theorem test_service_and_firmware_4 : ∃ (i : TapIr) (s : State), ((i = .bypass ∨ i = .other)) :=
  ⟨.bypass, wRun, by decide⟩

theorem test_service_and_firmware_5 : ∃ (st : TapStore) (a : BitVec 64) (z : BitVec 32) (s : State), (s.ts.unlocker = none) :=
  ⟨.media, 0, 64, wRun, by decide⟩

theorem test_service_and_firmware_8 : ∃ (st : TapStore) (a : BitVec 64) (z : BitVec 32) (k : Nat) (s : State), (s.ts.unlocker = some k) ∧ (tapDenied s st a.toNat z.toNat = true) :=
  ⟨.media, 0x0FFF, 2, 7, { ({ (wKdp 4) with ts := { (wKdp 4).ts with unlocker := some 7 } }) with dp := { wRun.dp with protApplied := [(1, 0x1000, 0x1000)] } }, by decide⟩

theorem test_service_and_firmware_9 : ∃ (req : KReq) (x : Session) (arg : BitVec 32) (s : State), (startsRun s req x 0x1F12 arg.toNat (U.root) = true) ∧ (s.phase = .booting) ∧ (s.cs.bootHeld = true) :=
  ⟨kReq (U.root) 0, wSess 4, 1, { (wKdp 4) with phase := .booting, cs := { (wKdp 4).cs with bootHeld := true, mapLoaded := false, replayDone := false } }, by decide⟩

theorem test_service_and_firmware_10 : ∃ (req : KReq) (x : Session) (arg : BitVec 32) (s : State), (startsRun s req x 0x1F12 arg.toNat (U.root) = true) ∧ (s.phase ≠ .booting) :=
  ⟨kReq (U.root) 0, wSess 4, 1, wKdp 4, by decide⟩

theorem test_service_and_firmware_11 : ∃ (s : State), (s.phase = .booting) ∧ (s.cs.bootHeld = true) :=
  ⟨{ (wKdp 4) with phase := .booting, cs := { (wKdp 4).cs with bootHeld := true, mapLoaded := false, replayDone := false } }, by decide⟩

theorem test_service_and_firmware_12 : ∃ (req : KReq) (x : Session) (arg : BitVec 32) (v : Bool) (s : State), (startsRun s req x 0x1F21 arg.toNat (U.root) = true) ∧ (s.ts.nextStart = false) ∧ (s.ts.activating = 0) :=
  ⟨kReq (U.root) 0, wSess 4, 1, true, wKdp 4, by decide⟩

theorem test_service_and_firmware_13 : ∃ (req : KReq) (x : Session) (s : State), (startsRun s req x 0x1F22 1 U.root = true) ∧ (s.phase = .running) ∧ (s.robj Obj.ENTRY_STATE = 0) ∧ (s.ag.applying = none) ∧ (s.ts.activating = 0) ∧ (((List.range 6).any fun b => blockInReset s (b + 1)) = false) ∧ ((slotOther s).valid = true) :=
  ⟨kReq (U.root) 0, wSess 4, { (wKdp 4) with ts := { (wKdp 4).ts with slotB := { valid := true, svn := 1, version := 9 } } }, by decide⟩

theorem test_service_and_firmware_14 : ∃ (req : KReq) (x : Session) (s : State), (startsRun s req x 0x1F22 2 U.root = true) :=
  ⟨kReq (U.root) 0, wSess 4, wKdp 4, by decide⟩

theorem test_service_and_firmware_15 : ∃ (s : State), (s.ts.activating ≠ 0) ∧ ((slotOther s).valid = false) :=
  ⟨{ (wKdp 4) with ts := { (wKdp 4).ts with activating := 1, slotB := {} } }, by decide⟩

theorem test_service_and_firmware_16 : ∃ (s : State), (s.ts.activating ≠ 0) ∧ ((slotOther s).valid = true) :=
  ⟨{ (wKdp 4) with ts := { (wKdp 4).ts with activating := 1, slotB := { valid := true, svn := 1, version := 9 } } }, by decide⟩

theorem test_service_and_firmware_17 : ∃ (k : BitVec 8) (s : State), (s.ts.activating ≠ 0) :=
  ⟨2, { (wKdp 4) with ts := { (wKdp 4).ts with activating := 2, image := 1 } }, by decide⟩

theorem test_port_and_region_requests_1 : ∃ (req : KReq) (x : Session) (p : Fin 16) (s : State), (admitted s req x 0x1000 (.write (.num 1)) ((U.port (p.val + 1))) = true) ∧ (preg s (p.val + 1) Obj.PORT_ENABLE_STATE = 0) :=
  ⟨kReq (U.port 15) 0, wSess 2, 14, (wKdp 2).setObj (U.port 15) Obj.PORT_ENABLE_STATE 0, by decide⟩

theorem test_port_and_region_requests_2 : ∃ (req : KReq) (x : Session) (p : Fin 16) (s : State), (admitted s req x 0x1000 (.write (.num 0)) ((U.port (p.val + 1))) = true) ∧ (preg s (p.val + 1) Obj.PORT_ENABLE_STATE = 1) :=
  ⟨kReq (U.port 1) 0, wSess 2, 0, (wKdp 2).setObj (U.port 1) Obj.PORT_ENABLE_STATE 1, by decide⟩

theorem test_port_and_region_requests_3 : ∃ (req : KReq) (x : Session) (p : Fin 16) (v : BitVec 8) (s : State), (admitted s req x 0x1001 (.write (.num v.toNat)) ((U.port (p.val + 1))) = true) ∧ (portHasDecoder s (p.val + 1) = false) ∧ (portHasDecoder s (p.val + 2) = false) :=
  ⟨kReq (U.port 15) 0, wSess 2, 14, 1, wKdp 2, by decide⟩

theorem test_port_and_region_requests_4 : ∃ (req : KReq) (x : Session) (p : Fin 16) (v : BitVec 8) (s : State), (admitted s req x 0x1001 (.write (.num v.toNat)) ((U.port (p.val + 1))) = true) ∧ (v.toNat ≠ s.obj (U.port (p.val + 1)) Obj.PORT_BIFURCATE) ∧ ((portHasDecoder s (p.val + 1) = true ∨ portHasDecoder s (p.val + 2) = true)) :=
  ⟨kReq (U.port 1) 0, wSess 2, 0, 1, { (wKdp 2) with hp := (wAgent 1).hp }, by decide⟩

theorem test_port_and_region_requests_5 : ∃ (req : KReq) (x : Session) (arg : BitVec 32) (k : Nat) (e : Status) (s : State), (startsRun s req x 0x1106 arg.toNat (U.root) = true) ∧ (applyCheck s req.sub.toNat (stagedRegion s req.sub.toNat) = (k, e)) ∧ (k ≠ 0) :=
  ⟨kReq (U.root) 2, wSess 2, 1, 1, .range, (((wKdp 2).setR (Obj.REGION_BASE + 2) 1).setR (Obj.REGION_SIZE + 2) 268435456).setR (Obj.REGION_MODE + 2) 1, by decide⟩

theorem test_port_and_region_requests_6 : ∃ (req : KReq) (x : Session) (arg : BitVec 32) (e : Status) (s : State), (startsRun s req x 0x1106 arg.toNat (U.root) = true) ∧ (applyCheck s req.sub.toNat (stagedRegion s req.sub.toNat) = (0, e)) ∧ (regionMoves (getRegion s req.sub.toNat) (stagedRegion s req.sub.toNat) = true) ∧ (regionPages s req.sub.toNat ≠ []) :=
  ⟨kReq (U.root) 1, wSess 2, 1, .ok, ({ (wKdp 2) with mc := (wAgent 1).mc, wharf := wDrain.wharf }).setR (Obj.REGION_MODE + 1) 0, by decide⟩

theorem test_port_and_region_requests_7 : ∃ (req : KReq) (x : Session) (arg : BitVec 32) (e : Status) (s : State), (startsRun s req x 0x1106 arg.toNat (U.root) = true) ∧ (applyCheck s req.sub.toNat (stagedRegion s req.sub.toNat) = (0, e)) ∧ ((regionMoves (getRegion s req.sub.toNat) (stagedRegion s req.sub.toNat) = false ∨ regionPages s req.sub.toNat = [])) ∧ ((stagedRegion s req.sub.toNat).mode ≠ 0) :=
  ⟨kReq (U.root) 2, wSess 2, 1, .ok, ((({ (wKdp 2) with mc := (wAgent 1).mc }).setR (Obj.REGION_BASE + 2) 268435456).setR (Obj.REGION_SIZE + 2) 268435456).setR (Obj.REGION_MODE + 2) 1, by decide⟩

theorem test_port_and_region_requests_8 : ∃ (req : KReq) (x : Session) (v : BitVec 64) (s : State), (admitted s req x 0x1401 (.write (.num v.toNat)) (U.root) = true) :=
  ⟨kReq (U.root) 0, wSess 2, 1073741824, { wBank with kdp := (wKdp 2).kdp, recorder := (wKdp 2).recorder, objs := ((wKdp 2).objs.foldl (fun m q => AMap.set m q.1 q.2) wBank.objs) }, by decide⟩

theorem test_cache_and_berth_requests_1 : ∃ (req : KReq) (x : Session) (v : BitVec 8) (s : State), (admitted s req x 0x1300 (.write (.num v.toNat)) (U.root) = true) ∧ ((v.toNat ≠ 1 ∨ s.robj Obj.HC_STALE_RISK ≠ 1)) :=
  ⟨kReq (U.root) 0, wSess 2, 1, wKdp 2, by decide⟩

theorem test_cache_and_berth_requests_2 : ∃ (req : KReq) (x : Session) (s : State), (admitted s req x 0x1300 (.write (.num 1)) (U.root) = true) ∧ (s.robj Obj.HC_STALE_RISK = 1) :=
  ⟨kReq (U.root) 0, wSess 2, (wKdp 2).setR Obj.HC_STALE_RISK 1, by decide⟩

theorem test_cache_and_berth_requests_3 : ∃ (req : KReq) (x : Session) (arg : BitVec 32) (s : State), (startsRun s req x 0x1301 arg.toNat (U.root) = true) :=
  ⟨kReq (U.root) 0, wSess 2, 1, wKdp 2, by decide⟩

theorem test_cache_and_berth_requests_4 : ∃ (req : KReq) (x : Session) (arg : BitVec 32) (s : State), (startsRun s req x 0x1302 arg.toNat (U.root) = true) :=
  ⟨kReq (U.root) 0, wSess 4, 1, (wKdp 4).setR Obj.HC_STALE_RISK 1, by decide⟩

theorem test_cache_and_berth_requests_5 : ∃ (req : KReq) (x : Session) (arg : BitVec 32) (s : State), (startsRun s req x 0x1305 arg.toNat (U.root) = true) ∧ (wayDisabled s (arg.toNat / 16) (arg.toNat % 16) = true) ∧ (s.hc.passed.contains arg.toNat = true) :=
  ⟨kReq (U.root) 0, wSess 4, 255, ({ (wKdp 4) with hc := { (wKdp 4).hc with passed := [255] } }).setR (Obj.HC_WAY_DISABLED + 16) 0x8001, by decide⟩

theorem test_cache_and_berth_requests_6 : ∃ (req : KReq) (x : Session) (arg : BitVec 32) (s : State), (startsRun s req x 0x1305 arg.toNat (U.root) = true) ∧ ((wayDisabled s (arg.toNat / 16) (arg.toNat % 16) = false ∨ s.hc.passed.contains arg.toNat = false)) :=
  ⟨kReq (U.root) 0, wSess 4, 255, (wKdp 4).setR (Obj.HC_WAY_DISABLED + 16) 0x8001, by decide⟩

theorem test_cache_and_berth_requests_7 : ∃ (req : KReq) (x : Session) (v : BitVec 8) (s : State), (admitted s req x 0x1310 (.write (.num v.toNat)) (U.root) = true) ∧ (s.hc.growing = none) ∧ (s.robj Obj.BERTH_WAYS_NOW < v.toNat) ∧ (((List.range 16).any fun k => decide ((cachingWays s k).length < v.toNat - s.robj Obj.BERTH_WAYS_NOW)) = false) :=
  ⟨kReq (U.root) 0, wSess 2, 3, wKdp 2, by decide⟩

theorem test_cache_and_berth_requests_8 : ∃ (req : KReq) (x : Session) (v : BitVec 8) (s : State), (admitted s req x 0x1310 (.write (.num v.toNat)) (U.root) = true) ∧ (s.hc.growing = none) ∧ (v.toNat < s.robj Obj.BERTH_WAYS_NOW) ∧ ((s.hc.ranges.any fun p => p.2.mode != 0 && decide (berthWayBytes * v.toNat < p.2.base + p.2.size)) = false) :=
  ⟨kReq (U.root) 0, wSess 2, 1, ({ (wKdp 2) with hc := { (wKdp 2).hc with berth := [(berthBase / 64, { data := 5 }), (berthBase / 64 + 196608, { data := 6 })] } }).setR Obj.BERTH_WAYS_NOW 2, by decide⟩

theorem test_cache_and_berth_requests_9 : ∃ (req : KReq) (x : Session) (v : BitVec 8) (s : State), (admitted s req x 0x1310 (.write (.num v.toNat)) (U.root) = true) ∧ (s.hc.growing ≠ none) :=
  ⟨kReq (U.root) 0, wSess 2, 1, { (wKdp 2) with hc := { (wKdp 2).hc with growing := some 2 } }, by decide⟩

theorem test_cache_and_berth_requests_10 : ∃ (req : KReq) (x : Session) (arg : BitVec 32) (d : BerthRange) (s : State), (d = { base := s.robj (Obj.BERTH_RANGE_BASE + req.sub.toNat), size := s.robj (Obj.BERTH_RANGE_SIZE + req.sub.toNat), mode := s.robj (Obj.BERTH_RANGE_MODE + req.sub.toNat), early := s.robj (Obj.BERTH_RANGE_EARLY_CMP + req.sub.toNat), ports := s.robj (Obj.BERTH_RANGE_PORTS + req.sub.toNat) }) ∧ (startsRun s req x 0x1317 arg.toNat (U.root) = true) ∧ (d.base % 2^20 = 0) ∧ (d.size % 2^20 = 0) ∧ (d.base + d.size ≤ berthSize s) ∧ (((s.hc.ranges.any fun q => q.1 != req.sub.toNat && q.2.mode != 0 && decide (d.base < q.2.base + q.2.size ∧ q.2.base < d.base + d.size)) = false)) ∧ (s.robj Obj.MIRROR_ENABLE ≠ 1) ∧ (d.mode ≠ 0) :=
  ⟨kReq (U.root) 8, wSess 2, 1, { base := 0, size := 1048576, mode := 1 }, (((wKdp 2).setR (Obj.BERTH_WAYS_NOW) 1).setR (Obj.BERTH_RANGE_SIZE + 8) 1048576).setR (Obj.BERTH_RANGE_MODE + 8) 1, by decide⟩

theorem test_cache_and_berth_requests_11 : ∃ (req : KReq) (x : Session) (arg : BitVec 32) (d : BerthRange) (s : State), (d = { base := s.robj (Obj.BERTH_RANGE_BASE + req.sub.toNat), size := s.robj (Obj.BERTH_RANGE_SIZE + req.sub.toNat), mode := s.robj (Obj.BERTH_RANGE_MODE + req.sub.toNat), early := s.robj (Obj.BERTH_RANGE_EARLY_CMP + req.sub.toNat), ports := s.robj (Obj.BERTH_RANGE_PORTS + req.sub.toNat) }) ∧ (startsRun s req x 0x1317 arg.toNat (U.root) = true) ∧ (berthSize s < d.base + d.size) :=
  ⟨kReq (U.root) 1, wSess 2, 1, { base := 0, size := 1048576 }, (wKdp 2).setR (Obj.BERTH_RANGE_SIZE + 1) 1048576, by decide⟩

theorem test_cache_and_berth_requests_12 : ∃ (req : KReq) (x : Session) (arg : BitVec 32) (s : State), (startsRun s req x 0x1318 arg.toNat (U.root) = true) ∧ ((mirState s = 0 ∨ mirState s = 4)) :=
  ⟨kReq (U.root) 0, wSess 2, 1, { (wKdp 2) with hc := { (wKdp 2).hc with ranges := [(1, { base := 0, size := 1048576, mode := 4, ports := 1 })] } }, by decide⟩

theorem test_cache_and_berth_requests_13 : ∃ (req : KReq) (x : Session) (arg : BitVec 32) (s : State), (startsRun s req x 0x1318 arg.toNat (U.root) = true) ∧ (mirState s ≠ 0) ∧ (mirState s ≠ 4) :=
  ⟨kReq (U.root) 0, wSess 2, 1, (wKdp 2).setR Obj.MIRROR_STATE 3, by decide⟩

theorem test_cache_and_berth_requests_14 : ∃ (req : KReq) (x : Session) (s : State), (admitted s req x 0x1320 (.write (.num 1)) (U.root) = true) ∧ (blockInReset s 5 = false) ∧ (mirState s = 0) :=
  ⟨kReq (U.root) 0, wSess 2, { (wKdp 2) with hc := { (wKdp 2).hc with ranges := [(1, { base := 0, size := 1048576, mode := 4, ports := 1 })] } }, by decide⟩

theorem test_cache_and_berth_requests_15 : ∃ (req : KReq) (x : Session) (s : State), (admitted s req x 0x1320 (.write (.num 1)) (U.root) = true) ∧ (blockInReset s 5 = true) :=
  ⟨kReq (U.root) 0, wSess 2, (wKdp 2).setR (Obj.BLOCK_STATE + 5) 1, by decide⟩

theorem test_cache_and_berth_requests_16 : ∃ (req : KReq) (x : Session) (s : State), (admitted s req x 0x1320 (.write (.num 0)) (U.root) = true) ∧ (mirState s = 7) :=
  ⟨kReq (U.root) 0, wSess 2, (wKdp 2).setR Obj.MIRROR_STATE 7, by decide⟩

theorem test_cache_and_berth_requests_17 : ∃ (req : KReq) (x : Session) (arg : BitVec 32) (s : State), (startsRun s req x 0x1328 arg.toNat (U.root) = true) ∧ (mirState s = 5) :=
  ⟨kReq (U.root) 0, wSess 3, 1, ({ (wKdp 3) with hc := { (wKdp 3).hc with ranges := [(1, { base := 0, size := 1048576, mode := 2, ports := 1 })], mirror := { (wKdp 3).hc.mirror with peerGen := 9, peerRanges := [(0, 1048576, 3)] } } }).setR Obj.MIRROR_STATE 5, by decide⟩

theorem test_cache_and_berth_requests_18 : ∃ (req : KReq) (x : Session) (arg : BitVec 32) (s : State), (startsRun s req x 0x1328 arg.toNat (U.root) = true) ∧ (mirState s ≠ 5) :=
  ⟨kReq (U.root) 0, wSess 3, 1, wKdp 3, by decide⟩

theorem test_protection_requests_1 : ∃ (req : KReq) (x : Session) (arg : BitVec 32) (s : State), (startsRun s req x 0x180B arg.toNat (U.root) = true) ∧ (s.dp.scrub = none) ∧ (blockInReset s 4 = false) ∧ (scrubRangeOk s (s.robj Obj.SCRUB_TARGET) (s.robj Obj.SCRUB_BASE) (s.robj Obj.SCRUB_SIZE) = true) :=
  ⟨kReq (U.root) 0, wSess 2, 1, ((wKdp 2).setR (Obj.SCRUB_TARGET) 3).setR (Obj.SCRUB_SIZE) 4096, by decide⟩

theorem test_protection_requests_2 : ∃ (req : KReq) (x : Session) (arg : BitVec 32) (s : State), (startsRun s req x 0x180B arg.toNat (U.root) = true) ∧ ((s.dp.scrub ≠ none ∨ blockInReset s 4 = true)) :=
  ⟨kReq (U.root) 0, wSess 2, 1, { (wKdp 2) with dp := { (wKdp 2).dp with scrub := some { target := 2, base := 0, size := 4096, started := 0, startedNow := 0 } } }, by decide⟩

theorem test_protection_requests_3 : ∃ (req : KReq) (x : Session) (arg : BitVec 32) (s : State), (startsRun s req x 0x180B arg.toNat (U.root) = true) ∧ (s.dp.scrub = none) ∧ (blockInReset s 4 = false) ∧ (scrubRangeOk s (s.robj Obj.SCRUB_TARGET) (s.robj Obj.SCRUB_BASE) (s.robj Obj.SCRUB_SIZE) = false) :=
  ⟨kReq (U.root) 0, wSess 2, 1, ((wKdp 2).setR (Obj.SCRUB_TARGET) 3).setR (Obj.SCRUB_SIZE) 4095, by decide⟩

theorem test_protection_requests_4 : ∃ (req : KReq) (x : Session) (arg : BitVec 32) (f : ScrubFound) (y : Scrub) (s : State), (startsRun s req x 0x180C arg.toNat (U.root) = true) ∧ (s.dp.scrub = some y) ∧ (f.errs = []) :=
  ⟨kReq (U.root) 0, wSess 2, 1, { unitsRead := 7, errs := [], poisoned := 2 }, { target := 3, base := 0, size := 4096, started := 0, startedNow := 0 }, { (wKdp 2) with dp := { (wKdp 2).dp with scrub := some { target := 3, base := 0, size := 4096, started := 0, startedNow := 0 } } }, by decide⟩

theorem test_protection_requests_5 : ∃ (f : ScrubFound) (y : Scrub) (s : State), (s.dp.scrub = some y) ∧ (y.target = 2) ∧ (f.errs = []) :=
  ⟨{ unitsRead := 7, errs := [], poisoned := 2 }, { target := 2, base := 0, size := 4096, started := 0, startedNow := 0 }, { (wKdp 2) with dp := { (wKdp 2).dp with scrub := some { target := 2, base := 0, size := 4096, started := 0, startedNow := 0 } } }, by decide⟩

theorem test_protection_requests_6 : ∃ (f : ScrubFound) (y : Scrub) (pn ppn : Nat) (c : Fin 8) (s : State), (s.dp.scrub = some y) ∧ (y.target = 3) ∧ (f.errs = []) ∧ (mapGet s pn = some ppn) ∧ (s.phase = .running) ∧ (s.hm.latchHalted = false) :=
  ⟨{ unitsRead := 7, errs := [], poisoned := 2 }, { target := 3, base := 0, size := 4096, started := 0, startedNow := 0 }, 0, 77, 7, { ({ (wKdp 2) with dp := { (wKdp 2).dp with scrub := some { target := 3, base := 0, size := 4096, started := 0, startedNow := 0 } } }) with media := { (wKdp 2).media with map := [(0, 77)] } }, by decide⟩

theorem test_protection_requests_7 : ∃ (req : KReq) (x : Session) (k : BitVec 256) (s : State), (admitted s req x 0x1810 (.write (.bytes (beBytes 32 k.toNat))) (U.root) = true) :=
  ⟨kReq (U.root) 0, wSess 3, 0xFF00000000000000000000000000000000000000000000000000000000000001, wKdp 3, by decide⟩

theorem test_protection_requests_8 : ∃ (req : KReq) (x : Session) (arg : BitVec 32) (s : State), (startsRun s req x 0x1813 arg.toNat (U.root) = true) ∧ (s.robj (Obj.KEY_STATE + req.sub.toNat) = 1) :=
  ⟨kReq (U.root) 64, wSess 3, 1, ({ (wKdp 3) with dp := { (wKdp 3).dp with doms := [(64, { cur := some 3 })], keys := [(3, 9)], nextKey := 4 } }).setR (Obj.KEY_STATE + 64) 1, by decide⟩

theorem test_protection_requests_9 : ∃ (req : KReq) (x : Session) (arg : BitVec 32) (s : State), (startsRun s req x 0x1813 arg.toNat (U.root) = true) ∧ ((s.robj (Obj.KEY_STATE + req.sub.toNat) = 0 ∨ s.robj (Obj.KEY_STATE + req.sub.toNat) = 2)) :=
  ⟨kReq (U.root) 1, wSess 3, 1, wKdp 3, by decide⟩

theorem test_protection_requests_10 : ∃ (d : Fin 64) (n : Nat) (s : State), (AMap.wf s.dp.keys = true) ∧ (rekeyFinished s (d.val + 1) = true) ∧ ((AMap.getD s.dp.doms (d.val + 1) {}).prev = some n) :=
  ⟨63, 3, ({ (wKdp 3) with dp := { (wKdp 3).dp with doms := [(64, { cur := some 4, prev := some 3 })], keys := [(3, 9), (4, 8)], nextKey := 5 } }).setR (Obj.KEY_STATE + 64) 2, by decide⟩

theorem test_protection_requests_11 : ∃ (d : Fin 64) (s : State), (rekeyFinished s (d.val + 1) = false) :=
  ⟨0, wKdp 3, by decide⟩

theorem test_protection_requests_12 : ∃ (req : KReq) (x : Session) (arg : BitVec 32) (n : Nat) (s : State), (startsRun s req x 0x1814 arg.toNat (U.root) = true) ∧ (AMap.wf s.dp.keys = true) ∧ (regionDecoders s req.sub.toNat = 0) ∧ (s.robj (Obj.KEY_STATE + req.sub.toNat) ≠ 0) ∧ ((getRegion s req.sub.toNat).mode = 0) ∧ ((AMap.getD s.dp.doms req.sub.toNat {}).cur = some n) :=
  ⟨kReq (U.root) 64, wSess 3, 1, 3, ({ (wKdp 3) with dp := { (wKdp 3).dp with doms := [(64, { cur := some 3 })], keys := [(3, 9)], nextKey := 4 } }).setR (Obj.KEY_STATE + 64) 1, by decide⟩

theorem test_protection_requests_13 : ∃ (req : KReq) (x : Session) (arg : BitVec 32) (s : State), (startsRun s req x 0x1814 arg.toNat (U.root) = true) ∧ ((regionDecoders s req.sub.toNat ≠ 0 ∨ s.robj (Obj.KEY_STATE + req.sub.toNat) = 0)) :=
  ⟨kReq (U.root) 1, wSess 3, 1, wKdp 3, by decide⟩

theorem test_protection_requests_14 : ∃ (req : KReq) (x : Session) (arg : BitVec 32) (s : State), (startsRun s req x 0x1842 arg.toNat (U.root) = true) ∧ (s.robj (Obj.PROT_SIZE + req.sub.toNat) ≠ 0) ∧ (s.robj (Obj.PROT_BASE + req.sub.toNat) % 4096 = 0) ∧ (s.robj (Obj.PROT_SIZE + req.sub.toNat) % 4096 = 0) ∧ (s.robj (Obj.PROT_BASE + req.sub.toNat) + s.robj (Obj.PROT_SIZE + req.sub.toNat) ≤ capacityBytes s) :=
  ⟨kReq (U.root) 1, wSess 3, 1, (wKdp 3).setR (Obj.PROT_SIZE + 1) 4096, by decide⟩

theorem test_protection_requests_15 : ∃ (req : KReq) (x : Session) (arg : BitVec 32) (s : State), (startsRun s req x 0x1842 arg.toNat (U.root) = true) ∧ (s.robj (Obj.PROT_SIZE + req.sub.toNat) ≠ 0) ∧ ((s.robj (Obj.PROT_BASE + req.sub.toNat) % 4096 ≠ 0 ∨ s.robj (Obj.PROT_SIZE + req.sub.toNat) % 4096 ≠ 0)) :=
  ⟨kReq (U.root) 1, wSess 3, 1, (wKdp 3).setR (Obj.PROT_SIZE + 1) 4095, by decide⟩

theorem test_protection_requests_16 : ∃ (m : BitVec 32) (s : State), (s.phase = .halted) ∧ (s.dp.dumpDone = false) ∧ (s.pw.flush = none) ∧ ((dumpTarget s).isSome = true) :=
  ⟨9, wPh .halted, by decide⟩

theorem test_protection_requests_17 : ∃ (req : KReq) (x : Session) (arg : BitVec 32) (s : State), (startsRun s req x 0x1830 arg.toNat (U.root) = true) ∧ (s.phase = .halted) ∧ (s.dp.dumpDone = true) :=
  ⟨kReq (U.root) 0, wSess 3, 1, { ({ (wKdp 3) with dp := { (wKdp 3).dp with dumpDone := true } }) with phase := .halted }, by decide⟩

theorem test_protection_requests_18 : ∃ (req : KReq) (x : Session) (arg : BitVec 32) (s : State), (startsRun s req x 0x1830 arg.toNat (U.root) = true) ∧ ((s.phase ≠ .halted ∨ s.dp.dumpDone = false)) :=
  ⟨kReq (U.root) 0, wSess 3, 1, wKdp 3, by decide⟩

theorem test_ageing_requests_1 : ∃ (req : KReq) (x : Session) (arg : BitVec 32) (g : Fin 2) (k : Fin 16) (d : Fin 32) (s : State), (startsRun s req x 0x1706 arg.toNat (U.die (g.val + 1) (k.val + 1) (d.val + 1)) = true) ∧ (s.variant = .p128) ∧ (measSkips s (U.die (g.val + 1) (k.val + 1) (d.val + 1)) = false) :=
  ⟨kReq (U.die 2 16 32) 0, wSess 2, 1, 1, 15, 31, wKdp 2, by decide⟩

theorem test_ageing_requests_2 : ∃ (req : KReq) (x : Session) (arg : BitVec 32) (s : State), (startsRun s req x 0x1701 arg.toNat (U.root) = true) ∧ (planBusy s = false) :=
  ⟨kReq (U.root) 0, wSess 4, 1, wKdp 4, by decide⟩

theorem test_ageing_requests_3 : ∃ (req : KReq) (x : Session) (arg : BitVec 32) (s : State), (startsRun s req x 0x1701 arg.toNat (U.root) = true) ∧ (planBusy s = true) :=
  ⟨kReq (U.root) 0, wSess 4, 1, { (wKdp 4) with ag := { (wKdp 4).ag with applying := some ({ id := 9, crc := 1 }, false) } }, by decide⟩

theorem test_ageing_requests_4 : ∃ (req : KReq) (x : Session) (arg : BitVec 32) (q : Plan) (s : State), (startsRun s req x 0x1702 arg.toNat (U.root) = true) ∧ (planBusy s = false) ∧ (s.ag.previous = some q) :=
  ⟨kReq (U.root) 0, wSess 4, 1, { id := 9, crc := 1 }, { (wKdp 4) with ag := { (wKdp 4).ag with previous := some { id := 9, crc := 1 } } }, by decide⟩

theorem test_ageing_requests_5 : ∃ (req : KReq) (x : Session) (arg : BitVec 32) (s : State), (startsRun s req x 0x1702 arg.toNat (U.root) = true) ∧ (planBusy s = false) ∧ (s.ag.previous = none) :=
  ⟨kReq (U.root) 0, wSess 4, 1, wKdp 4, by decide⟩

theorem test_power_requests_1 : ∃ (req : KReq) (x : Session) (arg : BitVec 32) (s : State), (startsRun s req x 0x1203 arg.toNat (U.root) = true) ∧ (domainIsDown s = true) ∧ (s.dir.walking = false) ∧ (s.phase ≠ .flushing) ∧ (slotsUsed s = 0) :=
  ⟨kReq (U.root) 0, wSess 3, 1, (wKdp 3).setR Obj.DOMAIN_DOWN_LATCHED 1, by decide⟩

theorem test_power_requests_2 : ∃ (req : KReq) (x : Session) (arg : BitVec 32) (s : State), (startsRun s req x 0x1203 arg.toNat (U.root) = true) ∧ ((domainIsDown s = false ∨ s.dir.walking = true ∨ slotsUsed s ≠ 0)) :=
  ⟨kReq (U.root) 0, wSess 3, 1, wKdp 3, by decide⟩

theorem test_power_requests_3 : ∃ (req : KReq) (x : Session) (b : Fin 4) (s : State), (admitted s req x 0x1908 (.write (.num 0)) (U.power) = true) ∧ (req.sub.toNat = b.val + 1) ∧ ((bankState s b.val = 0 ∨ bankState s b.val = 1)) :=
  ⟨kReq (U.power) 4, wSess 2, 3, wKdp 2, by decide⟩

theorem test_power_requests_4 : ∃ (req : KReq) (x : Session) (b : Fin 4) (s : State), (admitted s req x 0x1908 (.write (.num 1)) (U.power) = true) ∧ (req.sub.toNat = b.val + 1) ∧ (bankState s b.val = 2) :=
  ⟨kReq (U.power) 1, wSess 2, 0, (wKdp 2).setObj U.power (Obj.BANK_STATE + 1) 2, by decide⟩

theorem test_power_requests_5 : ∃ (req : KReq) (x : Session) (arg : BitVec 32) (s : State), (startsRun s req x 0x1905 arg.toNat (U.power) = true) ∧ ((s.phase = .halted ∨ (s.phase = .running ∧ s.robj Obj.PSTATE_NOW < 3 ∧ s.robj Obj.ENTRY_STATE = 0))) :=
  ⟨kReq (U.power) 0, wSess 2, 1, wKdp 2, by decide⟩

theorem test_power_requests_6 : ∃ (req : KReq) (x : Session) (arg : BitVec 32) (s : State), (startsRun s req x 0x1905 arg.toNat (U.power) = true) ∧ (s.phase = .running) ∧ (s.robj Obj.ENTRY_STATE ≠ 0) :=
  ⟨kReq (U.power) 0, wSess 2, 1, (wKdp 2).setR Obj.ENTRY_STATE 1, by decide⟩

theorem test_power_requests_7 : ∃ (req : KReq) (x : Session) (arg : BitVec 32) (s : State), (startsRun (thawed s) req x 0x1A02 arg.toNat (U.root) = true) ∧ (s.phase = .running) ∧ (s.robj Obj.ENTRY_STATE = 0) :=
  ⟨kReq (U.root) 0, wSess 3, 1, wKdp 3, by decide⟩

theorem test_power_requests_8 : ∃ (req : KReq) (x : Session) (arg : BitVec 32) (s : State), (startsRun (thawed s) req x 0x1A02 arg.toNat (U.root) = true) ∧ (s.phase = .running) ∧ (s.robj Obj.ENTRY_STATE = 1) :=
  ⟨kReq (U.root) 0, wSess 3, 1, (wKdp 3).setR Obj.ENTRY_STATE 1, by decide⟩

theorem test_power_requests_9 : ∃ (req : KReq) (x : Session) (arg : BitVec 32) (s : State), (startsRun s req x 0x1A06 arg.toNat (U.root) = true) ∧ (blockInReset s arg.toNat = false) ∧ (blockIdle s arg.toNat = true) :=
  ⟨kReq (U.root) 0, wSess 2, 6, wKdp 2, by decide⟩

theorem test_power_requests_10 : ∃ (req : KReq) (x : Session) (arg : BitVec 32) (s : State), (startsRun s req x 0x1A06 arg.toNat (U.root) = true) ∧ ((blockInReset s arg.toNat = true ∨ blockIdle s arg.toNat = false)) :=
  ⟨kReq (U.root) 0, wSess 2, 1, { (wKdp 2) with wharf := wExec.wharf }, by decide⟩

theorem test_power_requests_11 : ∃ (req : KReq) (x : Session) (s : State), (startsRun s req x 0x1A10 3 U.root = true) ∧ (pstateOpen s = true) ∧ (s.robj Obj.ENTRY_STATE = 0) ∧ (firstRefuser s [2, 3, 4, 8] = none) :=
  ⟨kReq (U.root) 0, wSess 2, wKdp 2, by decide⟩

theorem test_power_requests_12 : ∃ (req : KReq) (x : Session) (k : Nat) (s : State), (startsRun s req x 0x1A10 3 U.root = true) ∧ (pstateOpen s = true) ∧ (s.robj Obj.ENTRY_STATE = 0) ∧ (firstRefuser s [2, 3, 4, 8] = some k) :=
  ⟨kReq (U.root) 0, wSess 2, 4, { (wKdp 2) with hp := (wAgent 1).hp }, by decide⟩

theorem test_power_requests_13 : ∃ (req : KReq) (x : Session) (s : State), (startsRun s req x 0x1A10 4 U.root = true) ∧ (pstateOpen s = true) ∧ (s.robj Obj.ENTRY_STATE = 0) ∧ (firstRefuser s [2, 3, 4, 8] = none) :=
  ⟨kReq (U.root) 0, wSess 2, wKdp 2, by decide⟩

theorem test_power_requests_14 : ∃ (req : KReq) (x : Session) (k : Nat) (s : State), (startsRun s req x 0x1A10 4 U.root = true) ∧ (pstateOpen s = true) ∧ (s.robj Obj.ENTRY_STATE = 0) ∧ (firstRefuser s [2, 3, 4, 8] = some k) :=
  ⟨kReq (U.root) 0, wSess 2, 4, { (wKdp 2) with hp := (wAgent 1).hp }, by decide⟩

theorem test_power_requests_15 : ∃ (req : KReq) (x : Session) (s : State), (admitted s req x 0x1A10 (.exec 0) U.root = true) ∧ ((runPending s U.root Obj.PSTATE_REQUEST = true ∨ AMap.get? s.kdp.runs (objKey U.root Obj.PSTATE_REQUEST) = none)) :=
  ⟨kReq (U.root) 0, wSess 2, wKdp 2, by decide⟩

theorem test_power_requests_16 : ∃ (req : KReq) (x : Session) (arg : BitVec 32) (s : State), (startsRun s req x 0x1A20 arg.toNat (U.root) = true) :=
  ⟨kReq (U.root) 0, wSess 4, 1, (wKdp 4).setR Obj.PAD_HOLD 1, by decide⟩

theorem test_power_requests_17 : ∃ (req : KReq) (x : Session) (arg : BitVec 32) (s : State), (startsRun s req x 0x1A22 arg.toNat (U.root) = true) ∧ (s.phase ≠ .flushing) ∧ ((refuserHolds s 4 = false ∨ s.phase = .halted)) :=
  ⟨kReq (U.root) 0, wSess 4, 1, wKdp 4, by decide⟩

theorem test_power_requests_18 : ∃ (req : KReq) (x : Session) (arg : BitVec 32) (s : State), (startsRun s req x 0x1A22 arg.toNat (U.root) = true) ∧ (s.phase ≠ .halted) ∧ (refuserHolds s 4 = true) :=
  ⟨kReq (U.root) 0, wSess 4, 1, { (wKdp 4) with hp := (wAgent 1).hp }, by decide⟩

theorem test_power_requests_19 : ∃ (req : KReq) (x : Session) (arg : BitVec 32) (s : State), (startsRun (thawed s) req x 0x1A23 arg.toNat (U.root) = true) :=
  ⟨kReq (U.root) 0, wSess 4, 1, (wKdp 4).setR Obj.FROZEN 1, by decide⟩

theorem test_power_requests_20 : ∃ (req : KReq) (x : Session) (arg : BitVec 32) (s : State), (startsRun s req x 0x1B06 arg.toNat (U.root) = true) :=
  ⟨kReq (U.root) 0, wSess 4, 1, { (wKdp 4) with th := { (wKdp 4).th with sensors := [(3, { failed := true, bad := 5 })] } }, by decide⟩

/-- 10 Example DP-1: sector 3 of page 0x1234568 in region 5, line 2 poisoned and line 5 stale. -/

theorem test_sector_metadata : metadataField [0, 0, 1, 0, 0, 2, 0, 0] 5 0x123456789A = 0x0810100000000012 := by decide

theorem test_sector_nonce : sectorNonce 0x123456789A 3 = 0x000000123456789A00000003#96 := by decide

theorem test_sector_aad : sectorAad 0x1234568 3 0x0810100000000012 =
    [0x68, 0x45, 0x23, 0x01, 0x00, 3, 0x12, 0, 0, 0, 0, 0x10, 0x10, 0x08] := by decide

end Sys2Proof.Tests
end

/-! # What every command keeps

The laws of Laws/Keeps*.lean put together over the arms of `exec`. -/
namespace Sys2Proof.Machine

/-! No part of `State.put` is the variant, the queue or the time. -/

theorem Keeps.variant {w : Nat} {r s : State} (h : Keeps w r s) : s.variant = r.variant :=
  show s.variant = (r.put w s).variant from congrArg State.variant h.frame
theorem Keeps.pending {w : Nat} {r s : State} (h : Keeps w r s) : s.pending = r.pending :=
  show s.pending = (r.put w s).pending from congrArg State.pending h.frame
theorem Keeps.now {w : Nat} {r s : State} (h : Keeps w r s) : s.now = r.now :=
  show s.now = (r.put w s).now from congrArg State.now h.frame

/-- Whatever the command, with every part of `State.put` (bits 0 to 281) free to change: each arm is its operation's own law. -/
theorem exec_keeps {W : Nat} {r s : State} (cw : Covers W 0x3ffffffffffffffffffffffffffffffffffffffffffffffffffffffffffffffffffffff)
    (h : Keeps W r s) (c : Instr) : KeepsOut W r (exec c s) :=
  match c with
  | .vinGood500ms _ => execVinGood500ms_keeps (cw.le rfl) h
  | .thermalLatchClear => execThermalLatchClear_keeps (cw.le rfl) h
  | .harbourmasterStart _ _ _ => execHarbourmasterStart_keeps (cw.le rfl) h
  | .sequencingStepDone => execSequencingStepDone_keeps (cw.le rfl) h
  | .sequencingStepTimeout _ => execSequencingStepTimeout_keeps (cw.le rfl) h
  | .firmwareRunning _ _ => execFirmwareRunning_keeps (cw.le rfl) h
  | .bootFailed _ => execBootFailed_keeps (cw.le rfl) h
  | .bootRetryTimer => execBootRetryTimer_keeps (cw.le rfl) h
  | .hbmTrained => execHbmTrained_keeps (cw.le rfl) h
  | .mediaLinksTrained => execMediaLinksTrained_keeps (cw.le rfl) h
  | .mapLoadDone _ => execMapLoadDone_keeps (cw.le rfl) h
  | .flushAreaReplayDone => execFlushAreaReplayDone_keeps (cw.le rfl) h
  | .memoryActiveRaise => execMemoryActiveRaise_keeps (cw.le rfl) h
  | .portRstNAssert _ => execPortRstNAssert_keeps (cw.le rfl) h
  | .portRstNDeassert _ => execPortRstNDeassert_keeps (cw.le rfl) h
  | .hotReset _ => execHotReset_keeps (cw.le rfl) h
  | .linkDisable _ => execLinkDisable_keeps (cw.le rfl) h
  | .cxlReset _ => execCxlReset_keeps (cw.le rfl) h
  | .portLinkDown _ => execPortLinkDown_keeps (cw.le rfl) h
  | .linkRetrainRecovery _ => execLinkRetrainRecovery_keeps (cw.le rfl) h
  | .linkReachesL0 _ _ _ _ _ _ _ _ _ => execLinkReachesL0_keeps (cw.le rfl) h
  | .portFailed _ _ _ => execPortFailed_keeps (cw.le rfl) h
  | .configRequest _ _ _ _ => execConfigRequest_keeps (cw.le rfl) h
  | .hdmDecoderCommit _ _ _ _ _ _ _ _ => execHdmDecoderCommit_keeps (cw.le rfl) h
  | .hdmDecoderUncommit _ _ _ => execHdmDecoderUncommit_keeps (cw.le rfl) h
  | .memRd _ _ _ _ _ _ => execMemRd_keeps (cw.le rfl) h
  | .memRdData _ _ _ _ _ => execMemRdData_keeps (cw.le rfl) h
  | .memSpecRd _ _ _ _ _ => execMemSpecRd_keeps (cw.le rfl) h
  | .memInv _ _ _ _ _ => execMemInv_keeps (cw.le rfl) h
  | .memClnEvct _ _ _ _ _ => execMemClnEvct_keeps (cw.le rfl) h
  | .biConflict _ _ _ _ => execBiConflict_keeps (cw.le rfl) h
  | .memWr _ _ _ _ _ _ _ _ => execMemWr_keeps (cw.le rfl) h
  | .memWrPtl _ _ _ _ _ _ _ _ _ _ => execMemWrPtl_keeps (cw.le rfl) h
  | .combiningTimeout _ => execCombiningTimeout_keeps (cw.le rfl) h
  | .biRsp _ _ _ _ _ => execBiRsp_keeps (cw.le rfl) h
  | .bisnpSend _ => execBisnpSend_keeps (cw.le rfl) h
  | .s2mCreditReturn _ _ _ _ => execS2mCreditReturn_keeps (cw.le rfl) h
  | .retryStoreRelease _ _ => execRetryStoreRelease_keeps (cw.le rfl) h
  | .retryTimeout _ => execRetryTimeout_keeps (cw.le rfl) h
  | .snoopTimeout _ => execSnoopTimeout_keeps (cw.le rfl) h
  | .domainDownWalkDone => execDomainDownWalkDone_keeps (cw.le rfl) h
  | .domainRecover _ _ => execDomainRecover_keeps (cw.le rfl) h
  | .gpfPhase1 _ => execGpfPhase1_keeps (cw.le rfl) h
  | .gpfPhase2 _ => execGpfPhase2_keeps (cw.le rfl) h
  | .identifyMemoryDevice _ => execIdentifyMemoryDevice_keeps (cw.le rfl) h
  | .getHealthInfo _ => execGetHealthInfo_keeps (cw.le rfl) h
  | .getSupportedLogs _ => execGetSupportedLogs_keeps (cw.le rfl) h
  | .getLog _ _ => execGetLog_keeps (cw.le rfl) h
  | .getFwInfo _ => execGetFwInfo_keeps (cw.le rfl) h
  | .getTimestamp _ => execGetTimestamp_keeps (cw.le rfl) h
  | .mailboxUnsupported _ _ => execMailboxUnsupported_keeps (cw.le rfl) h
  | .unsupportedRequest _ _ => execUnsupportedRequest_keeps (cw.le rfl) h
  | .cdatRead _ => execCdatRead_keeps (cw.le rfl) h
  | .ideKeyProgramming _ _ _ _ => execIdeKeyProgramming_keeps (cw.le rfl) h
  | .ideKeySwitch _ _ => execIdeKeySwitch_keeps (cw.le rfl) h
  | .ideMacFailContain _ _ _ => execIdeMacFailContain_keeps (cw.le rfl) h
  | .ideMacFailSkid _ _ => execIdeMacFailSkid_keeps (cw.le rfl) h
  | .ideKeySetupFail _ _ => execIdeKeySetupFail_keeps (cw.le rfl) h
  | .viralRx _ => execViralRx_keeps (cw.le rfl) h
  | .portEnable _ _ => execPortEnable_keeps (cw.le rfl) h
  | .portShutdownDone _ => execPortShutdownDone_keeps (cw.le rfl) h
  | .enablePendingDone _ => execEnablePendingDone_keeps (cw.le rfl) h
  | .portBifurcate _ _ => execPortBifurcate_keeps (cw.le rfl) h
  | .regionApply _ _ => execRegionApply_keeps (cw.le rfl) h
  | .regionApplyDrainDone _ => execRegionApplyDrainDone_keeps (cw.le rfl) h
  | .drainBarrier _ _ _ _ _ => execDrainBarrier_keeps (cw.le rfl) h
  | .mirrorBarrier _ _ _ _ _ => execMirrorBarrier_keeps (cw.le rfl) h
  | .barrierHoldTimeout _ _ _ => execBarrierHoldTimeout_keeps (cw.le rfl) h
  | .resvAddr _ _ _ _ _ => execResvAddr_keeps (cw.le rfl) h
  | .resvLoad _ _ _ _ => execResvLoad_keeps (cw.le rfl) h
  | .resvStore _ _ _ _ _ _ => execResvStore_keeps (cw.le rfl) h
  | .reservationExpiry _ => execReservationExpiry_keeps (cw.le rfl) h
  | .discardGo _ _ _ _ _ => execDiscardGo_keeps (cw.le rfl) h
  | .discardPage _ => execDiscardPage_keeps (cw.le rfl) h
  | .cwWrite _ _ _ _ _ _ => execCwWrite_keeps (cw.le rfl) h
  | .hcEnable _ _ => execHcEnable_keeps (cw.le rfl) h
  | .hcInvalidate _ _ => execHcInvalidate_keeps (cw.le rfl) h
  | .hcInvalidateDone => execHcInvalidateDone_keeps (cw.le rfl) h
  | .hcEnableForce _ _ => execHcEnableForce_keeps (cw.le rfl) h
  | .hcWayReenable _ _ => execHcWayReenable_keeps (cw.le rfl) h
  | .berthWayCopyDone _ => execBerthWayCopyDone_keeps (cw.le rfl) h
  | .prefetchFill _ _ => execPrefetchFill_keeps (cw.le rfl) h
  | .berthWays _ _ => execBerthWays_keeps (cw.le rfl) h
  | .berthGrowDone => execBerthGrowDone_keeps (cw.le rfl) h
  | .berthRangeApply _ _ => execBerthRangeApply_keeps (cw.le rfl) h
  | .berthPromote _ _ => execBerthPromote_keeps (cw.le rfl) h
  | .mirrorEnable _ _ => execMirrorEnable_keeps (cw.le rfl) h
  | .mirrorStopDone => execMirrorStopDone_keeps (cw.le rfl) h
  | .mirrorAcceptPeer _ _ => execMirrorAcceptPeer_keeps (cw.le rfl) h
  | .mirrorHandshake _ _ _ _ => execMirrorHandshake_keeps (cw.le rfl) h
  | .mirrorConnectRetry => execMirrorConnectRetry_keeps (cw.le rfl) h
  | .mirrorData _ => execMirrorData_keeps (cw.le rfl) h
  | .mirrorAck _ => execMirrorAck_keeps (cw.le rfl) h
  | .mirrorHeartbeat _ => execMirrorHeartbeat_keeps (cw.le rfl) h
  | .mirrorResyncData _ => execMirrorResyncData_keeps (cw.le rfl) h
  | .mirrorResyncDone _ => execMirrorResyncDone_keeps (cw.le rfl) h
  | .mirrorResyncPageSend => execMirrorResyncPageSend_keeps (cw.le rfl) h
  | .mirrorAckTimer => execMirrorAckTimer_keeps (cw.le rfl) h
  | .mirrorRetransmit => execMirrorRetransmit_keeps (cw.le rfl) h
  | .mirrorHeartbeatTimer => execMirrorHeartbeatTimer_keeps (cw.le rfl) h
  | .mirrorSplit => execMirrorSplit_keeps (cw.le rfl) h
  | .mirrorLagRelease => execMirrorLagRelease_keeps (cw.le rfl) h
  | .lighterCloseTimeout _ _ => execLighterCloseTimeout_keeps (cw.le rfl) h
  | .lighterTake _ _ => execLighterTake_keeps (cw.le rfl) h
  | .plateProgramDone _ _ _ => execPlateProgramDone_keeps (cw.le rfl) h
  | .parityProgramDone _ _ => execParityProgramDone_keeps (cw.le rfl) h
  | .pinnedLighterForm _ => execPinnedLighterForm_keeps (cw.le rfl) h
  | .heldWriteEntry _ => execHeldWriteEntry_keeps (cw.le rfl) h
  | .pinLowMinimum _ => execPinLowMinimum_keeps (cw.le rfl) h
  | .dirtyCapRecompute => execDirtyCapRecompute_keeps (cw.le rfl) h
  | .dirtyCapLimit _ _ => execDirtyCapLimit_keeps (cw.le rfl) h
  | .filterRebuildDone _ => execFilterRebuildDone_keeps (cw.le rfl) h
  | .queueRebuildDone _ => execQueueRebuildDone_keeps (cw.le rfl) h
  | .checkpointSegmentDone _ => execCheckpointSegmentDone_keeps (cw.le rfl) h
  | .setResetDone _ _ _ => execSetResetDone_keeps (cw.le rfl) h
  | .reclaimVictimSelect _ => execReclaimVictimSelect_keeps (cw.le rfl) h
  | .mapRepaired _ _ => execMapRepaired_keeps (cw.le rfl) h
  | .dieFailed _ _ _ _ => execDieFailed_keeps (cw.le rfl) h
  | .stackFailed _ _ _ => execStackFailed_keeps (cw.le rfl) h
  | .suspendEstimate _ _ => execSuspendEstimate_keeps (cw.le rfl) h
  | .sectorReadDone _ _ _ => execSectorReadDone_keeps (cw.le rfl) h
  | .memberReadDone _ _ _ => execMemberReadDone_keeps (cw.le rfl) h
  | .opOverdue _ _ _ _ _ => execOpOverdue_keeps (cw.le rfl) h
  | .fineSuspendOn _ _ => execFineSuspendOn_keeps (cw.le rfl) h
  | .fineSuspendOff _ _ => execFineSuspendOff_keeps (cw.le rfl) h
  | .degradedOverload _ _ _ => execDegradedOverload_keeps (cw.le rfl) h
  | .eqClockTick => execEqClockTick_keeps (cw.le rfl) h
  | .proofPassStart _ _ _ => execProofPassStart_keeps (cw.le rfl) h
  | .proofPassDone _ _ _ _ => execProofPassDone_keeps (cw.le rfl) h
  | .confirmPassDone _ _ _ _ => execConfirmPassDone_keeps (cw.le rfl) h
  | .hourlyMeasurement => execHourlyMeasurement_keeps (cw.le rfl) h
  | .eyeMarginMeasurement _ _ _ _ _ _ => execEyeMarginMeasurement_keeps (cw.le rfl) h
  | .efficiencySample _ _ _ => execEfficiencySample_keeps (cw.le rfl) h
  | .proofNow _ _ => execProofNow_keeps (cw.le rfl) h
  | .ageExport _ => execAgeExport_keeps (cw.le rfl) h
  | .planApply _ _ => execPlanApply_keeps (cw.le rfl) h
  | .planApplied => execPlanApplied_keeps (cw.le rfl) h
  | .planRollback _ _ => execPlanRollback_keeps (cw.le rfl) h
  | .scrubStart _ _ => execScrubStart_keeps (cw.le rfl) h
  | .scrubAbort _ _ _ => execScrubAbort_keeps (cw.le rfl) h
  | .scrubDone _ _ => execScrubDone_keeps (cw.le rfl) h
  | .custodianKey _ _ => execCustodianKey_keeps (cw.le rfl) h
  | .keyRotate _ _ => execKeyRotate_keeps (cw.le rfl) h
  | .rekeyDone _ => execRekeyDone_keeps (cw.le rfl) h
  | .keyDestroy _ _ => execKeyDestroy_keeps (cw.le rfl) h
  | .protApply _ _ => execProtApply_keeps (cw.le rfl) h
  | .tagCheckDone _ _ => execTagCheckDone_keeps (cw.le rfl) h
  | .integrityDumpDone _ => execIntegrityDumpDone_keeps (cw.le rfl) h
  | .integrityRecover _ _ => execIntegrityRecover_keeps (cw.le rfl) h
  | .powerFail _ _ => execPowerFail_keeps (cw.le rfl) h
  | .pwrfailNAssert _ _ => execPwrfailNAssert_keeps (cw.le rfl) h
  | .overvoltage _ _ => execOvervoltage_keeps (cw.le rfl) h
  | .flushDone _ _ _ _ => execFlushDone_keeps (cw.le rfl) h
  | .vinDip => execVinDip_keeps (cw.le rfl) h
  | .vbusBelow11v => execVbusBelow11v_keeps (cw.le rfl) h
  | .holdupChargeResume => execHoldupChargeResume_keeps (cw.le rfl) h
  | .powerCapTick _ _ => execPowerCapTick_keeps (cw.le rfl) h
  | .phaseLost _ _ => execPhaseLost_keeps (cw.le rfl) h
  | .pmbusPoll _ => execPmbusPoll_keeps (cw.le rfl) h
  | .pmbusTelemetry _ _ _ => execPmbusTelemetry_keeps (cw.le rfl) h
  | .pmbusTimeout _ _ _ => execPmbusTimeout_keeps (cw.le rfl) h
  | .pmbusDeviceRetry _ _ => execPmbusDeviceRetry_keeps (cw.le rfl) h
  | .powerGoodDeassert _ _ => execPowerGoodDeassert_keeps (cw.le rfl) h
  | .railRetry _ _ => execRailRetry_keeps (cw.le rfl) h
  | .faultEpisodeEnd _ => execFaultEpisodeEnd_keeps (cw.le rfl) h
  | .loadSwitchTrip _ _ => execLoadSwitchTrip_keeps (cw.le rfl) h
  | .bankEnable _ _ => execBankEnable_keeps (cw.le rfl) h
  | .bankShutdownDone _ => execBankShutdownDone_keeps (cw.le rfl) h
  | .railFallTimeout _ _ => execRailFallTimeout_keeps (cw.le rfl) h
  | .holdupMeasure _ _ => execHoldupMeasure_keeps (cw.le rfl) h
  | .holdupIntervalExpiry => execHoldupIntervalExpiry_keeps (cw.le rfl) h
  | .holdupMeasurementStart => execHoldupMeasurementStart_keeps (cw.le rfl) h
  | .holdupDeferralRetry => execHoldupDeferralRetry_keeps (cw.le rfl) h
  | .holdupMeasured _ _ _ => execHoldupMeasured_keeps (cw.le rfl) h
  | .holdupChargeDone => execHoldupChargeDone_keeps (cw.le rfl) h
  | .vholdRecomputeTick _ => execVholdRecomputeTick_keeps (cw.le rfl) h
  | .flushBufferErased _ => execFlushBufferErased_keeps (cw.le rfl) h
  | .refClockLost _ _ _ => execRefClockLost_keeps (cw.le rfl) h
  | .refClockRestored _ => execRefClockRestored_keeps (cw.le rfl) h
  | .mrstNAccept => execMrstNAccept_keeps (cw.le rfl) h
  | .warmReset _ _ => execWarmReset_keeps (cw.le rfl) h
  | .serviceResetDone => execServiceResetDone_keeps (cw.le rfl) h
  | .watchdogRestart _ => execWatchdogRestart_keeps (cw.le rfl) h
  | .flushCoreWatchdog => execFlushCoreWatchdog_keeps (cw.le rfl) h
  | .blockReset _ _ => execBlockReset_keeps (cw.le rfl) h
  | .blockRelease _ _ => execBlockRelease_keeps (cw.le rfl) h
  | .p1IdleExpiry => execP1IdleExpiry_keeps (cw.le rfl) h
  | .p2IdleExpiry => execP2IdleExpiry_keeps (cw.le rfl) h
  | .p2ExitDone => execP2ExitDone_keeps (cw.le rfl) h
  | .pstateRequest0 _ => execPstateRequest0_keeps (cw.le rfl) h
  | .pstateRequest3 _ => execPstateRequest3_keeps (cw.le rfl) h
  | .pstateRequest4 _ => execPstateRequest4_keeps (cw.le rfl) h
  | .pstatePrepDone => execPstatePrepDone_keeps (cw.le rfl) h
  | .pstatePrepTimeout _ => execPstatePrepTimeout_keeps (cw.le rfl) h
  | .pstateEntryDone => execPstateEntryDone_keeps (cw.le rfl) h
  | .pstateWakeTimer => execPstateWakeTimer_keeps (cw.le rfl) h
  | .wakeStepDone _ => execWakeStepDone_keeps (cw.le rfl) h
  | .padHoldRelease _ _ => execPadHoldRelease_keeps (cw.le rfl) h
  | .retentionFreeze _ _ => execRetentionFreeze_keeps (cw.le rfl) h
  | .retentionResume _ _ => execRetentionResume_keeps (cw.le rfl) h
  | .sensorSample _ => execSensorSample_keeps (cw.le rfl) h
  | .rateBoostEnd _ => execRateBoostEnd_keeps (cw.le rfl) h
  | .thermGraceExpiry _ => execThermGraceExpiry_keeps (cw.le rfl) h
  | .sensorRetest _ _ => execSensorRetest_keeps (cw.le rfl) h
  | .jtagInstruction _ => execJtagInstruction_keeps (cw.le rfl) h
  | .openSession _ _ _ _ _ _ _ => execOpenSession_keeps (cw.le rfl) h
  | .prove _ _ _ => execProve_keeps (cw.le rfl) h
  | .handshakeExpiry _ => execHandshakeExpiry_keeps (cw.le rfl) h
  | .closeSession _ => execCloseSession_keeps (cw.le rfl) h
  | .keepalive _ => execKeepalive_keeps (cw.le rfl) h
  | .read _ _ => execRead_keeps (cw.le rfl) h
  | .write _ _ _ => execWrite_keeps (cw.le rfl) h
  | .bulkOpen _ _ _ _ => execBulkOpen_keeps (cw.le rfl) h
  | .bulkData _ _ _ => execBulkData_keeps (cw.le rfl) h
  | .bulkRead _ _ _ => execBulkRead_keeps (cw.le rfl) h
  | .bulkCommit _ _ => execBulkCommit_keeps (cw.le rfl) h
  | .bulkEnd _ => execBulkEnd_keeps (cw.le rfl) h
  | .bulkIdleTimeout => execBulkIdleTimeout_keeps (cw.le rfl) h
  | .subscribe _ _ _ _ _ => execSubscribe_keeps (cw.le rfl) h
  | .eventSend _ => execEventSend_keeps (cw.le rfl) h
  | .eventResend _ _ => execEventResend_keeps (cw.le rfl) h
  | .eventAck _ _ => execEventAck_keeps (cw.le rfl) h
  | .idleTimeout _ => execIdleTimeout_keeps (cw.le rfl) h
  | .backoffExpiry _ => execBackoffExpiry_keeps (cw.le rfl) h
  | .sessionKill _ _ => execSessionKill_keeps (cw.le rfl) h
  | .roleKey _ _ => execRoleKey_keeps (cw.le rfl) h
  | .netEnable _ _ => execNetEnable_keeps (cw.le rfl) h
  | .netShutdownDone _ => execNetShutdownDone_keeps (cw.le rfl) h
  | .netApply _ _ => execNetApply_keeps (cw.le rfl) h
  | .netLinkChange _ _ _ => execNetLinkChange_keeps (cw.le rfl) h
  | .netAddressObtained _ _ _ => execNetAddressObtained_keeps (cw.le rfl) h
  | .hmStoreNow _ _ => execHmStoreNow_keeps (cw.le rfl) h
  | .shadowStoreStart => execShadowStoreStart_keeps (cw.le rfl) h
  | .shadowStoreDone _ => execShadowStoreDone_keeps (cw.le rfl) h
  | .vddAonLow => execVddAonLow_keeps (cw.le rfl) h
  | .hmWindowData _ _ => execHmWindowData_keeps (cw.le rfl) h
  | .operatingSecondsWrite => execOperatingSecondsWrite_keeps (cw.le rfl) h
  | .recorderFlush => execRecorderFlush_keeps (cw.le rfl) h
  | .recorderFreeze _ _ => execRecorderFreeze_keeps (cw.le rfl) h
  | .freezeMaxExpiry => execFreezeMaxExpiry_keeps (cw.le rfl) h
  | .logExport _ => execLogExport_keeps (cw.le rfl) h
  | .trigger _ _ => execTrigger_keeps (cw.le rfl) h
  | .pcConfig _ _ => execPcConfig_keeps (cw.le rfl) h
  | .pcCount _ _ => execPcCount_keeps (cw.le rfl) h
  | .pcOverflow _ _ _ => execPcOverflow_keeps (cw.le rfl) h
  | .pcFreeze _ _ => execPcFreeze_keeps (cw.le rfl) h
  | .pcSnapshot _ _ => execPcSnapshot_keeps (cw.le rfl) h
  | .sampleTaken _ _ _ _ _ _ _ => execSampleTaken_keeps (cw.le rfl) h
  | .sampleExport _ => execSampleExport_keeps (cw.le rfl) h
  | .bwWindowBoundary => execBwWindowBoundary_keeps (cw.le rfl) h
  | .bwWindowUs _ _ => execBwWindowUs_keeps (cw.le rfl) h
  | .lbRun _ _ => execLbRun_keeps (cw.le rfl) h
  | .lbRunEnd _ _ _ _ _ _ => execLbRunEnd_keeps (cw.le rfl) h
  | .sramSelftest _ _ => execSramSelftest_keeps (cw.le rfl) h
  | .sramSelftestDone _ _ _ => execSramSelftestDone_keeps (cw.le rfl) h
  | .stackSelftest _ _ => execStackSelftest_keeps (cw.le rfl) h
  | .stackSelftestDone _ _ _ => execStackSelftestDone_keeps (cw.le rfl) h
  | .hbmSelftest _ _ => execHbmSelftest_keeps (cw.le rfl) h
  | .hbmSelftestDone _ _ _ _ => execHbmSelftestDone_keeps (cw.le rfl) h
  | .jtagUnlock _ _ => execJtagUnlock_keeps (cw.le rfl) h
  | .jtagUnlockExpiry => execJtagUnlockExpiry_keeps (cw.le rfl) h
  | .bootRelease _ _ => execBootRelease_keeps (cw.le rfl) h
  | .bootHoldMaxExpiry => execBootHoldMaxExpiry_keeps (cw.le rfl) h
  | .fwInstall _ _ _ => execFwInstall_keeps (cw.le rfl) h
  | .fwActivateLive _ => execFwActivateLive_keeps (cw.le rfl) h
  | .fwActivateNextStart _ => execFwActivateNextStart_keeps (cw.le rfl) h
  | .fwActivationFailed _ => execFwActivationFailed_keeps (cw.le rfl) h
  | .fwActivated => execFwActivated_keeps (cw.le rfl) h
  | .vinReturn _ => execVinReturn_keeps (cw.le rfl) h
  | .pwrfailNDeassert => execPwrfailNDeassert_keeps (cw.le rfl) h
  | .mrstNRelease => execMrstNRelease_keeps (cw.le rfl) h
  | .bankLinksTrained _ => execBankLinksTrained_keeps (cw.le rfl) h
  | .wharfIndexRepaired _ => execWharfIndexRepaired_keeps (cw.le rfl) h
  | .watchdogRestartDone => execWatchdogRestartDone_keeps (cw.le rfl) h
  | .rwdCreditPace _ => execRwdCreditPace_keeps (cw.le rfl) h
  | .unknownOpcode _ _ => execUnknownOpcode_keeps (cw.le rfl) h

/-- Settles O5: the variant, the queue and the time are in no set of parts that an operation names, so the law of any command keeps them. -/
theorem commandsTakeNoTimeAndLeaveTheQueue : Obligations.CommandsTakeNoTimeAndLeaveTheQueue := by
  unfold Obligations.CommandsTakeNoTimeAndLeaveTheQueue
  intro c s t h
  have k : Keeps _ s t := exec_keeps .refl .rfl' c t h
  exact ⟨k.variant, k.pending, k.now⟩

end Sys2Proof.Machine

/-! # Unit paths (15 R335 to R337)

Which levels `expandLevels` takes, with and without the every-child form 63. -/
namespace Sys2Proof.Machine

theorem groupCount_le (v : Variant) : groupCount v ≤ 2 := by cases v <;> decide

theorem childCount_le (v : Variant) (pre : List Nat) : childCount v pre ≤ 32 := by
  have := groupCount_le v
  unfold childCount
  split <;> omega

/-- A die has no children. -/
theorem childCount_die (v : Variant) (a b c d : Nat) : childCount v [a, b, c, d] = 0 := by
  unfold childCount
  split <;> simp_all

theorem expandLevels_nil (v : Variant) (pre : List Nat) : expandLevels v pre [] = some [pre] := rfl

theorem expandLevels_zero (v : Variant) (pre rest : List Nat) :
    expandLevels v pre (0 :: rest) = if rest.all (· == 0) then some [pre] else none := rfl

theorem expandLevels_index (v : Variant) (pre rest : List Nat) {l : Nat} (h0 : l ≠ 0) (h63 : l ≠ 63) :
    expandLevels v pre (l :: rest) = if l ≤ childCount v pre then expandLevels v (pre ++ [l]) rest else none := by
  rw [expandLevels, if_neg h0, if_neg h63]

theorem getD_le_of_forall_le {q : List Nat} {n : Nat} (h : ∀ l ∈ q, l ≤ n) (i : Nat) : q.getD i 0 ≤ n := by
  rw [List.getD_eq_getElem?_getD]
  cases e : q[i]? with
  | none => exact Nat.zero_le n
  | some l => exact h l (List.mem_of_getElem? e)

/-! ## Every path named is a unit of the tree -/

/-- `Below v pre q`: the levels `q` name the unit of the levels `pre` or one below it. -/
inductive Below (v : Variant) : List Nat → List Nat → Prop
  | here (pre : List Nat) : Below v pre pre
  | child {pre q : List Nat} {i : Nat} : 1 ≤ i → i ≤ childCount v pre → Below v (pre ++ [i]) q → Below v pre q

/-- Every path of an expansion, where there is one, names a unit at or below `pre`. -/
def AllBelow (v : Variant) (pre : List Nat) (o : Option (List (List Nat))) : Prop := ∀ qs, o = some qs → ∀ q ∈ qs, Below v pre q

theorem AllBelow.none {v : Variant} {pre : List Nat} : AllBelow v pre none := fun _ h => nomatch h
theorem AllBelow.some {v : Variant} {pre : List Nat} {qs : List (List Nat)} (h : ∀ q ∈ qs, Below v pre q) : AllBelow v pre (some qs) :=
  fun _ e => Option.some.inj e ▸ h
theorem AllBelow.here {v : Variant} {pre : List Nat} : AllBelow v pre (Option.some [pre]) :=
  .some fun _ hq => List.mem_singleton.1 hq ▸ Below.here _

theorem expandLevels_below (v : Variant) (ls : List Nat) : ∀ pre, AllBelow v pre (expandLevels v pre ls) := by
  induction ls with
  | nil => exact fun _ => .here
  | cons l rest ih =>
    intro pre
    rw [expandLevels]
    split
    case isTrue =>
      split
      · exact .here
      · exact .none
    case isFalse h0 =>
      split
      case isTrue =>
        refine List.foldlRecOn _ _ (.some fun q hq => nomatch hq) fun acc hacc i hi => ?_
        have hi : i + 1 ≤ childCount v pre := List.mem_range.1 hi
        split
        next a b hb =>
          refine .some fun q hq => (List.mem_append.1 hq).elim (hacc a rfl q) fun hq => ?_
          exact .child (Nat.succ_pos i) hi (ih _ b hb q hq)
        next => exact hacc
        next => exact .none
      case isFalse =>
        split
        case isTrue hl => exact fun qs e q hq => .child (Nat.pos_of_ne_zero h0) hl (ih _ qs e q hq)
        case isFalse => exact .none

theorem Below.extends {v : Variant} {pre q : List Nat} (h : Below v pre q) : pre <+: q := by
  induction h with
  | here pre => exact List.prefix_refl pre
  | child _ _ _ ih => exact (List.prefix_append _ _).trans ih

theorem Below.level_le {v : Variant} {pre q : List Nat} (h : Below v pre q) (hp : ∀ l ∈ pre, l ≤ 32) : ∀ l ∈ q, l ≤ 32 := by
  induction h with
  | here pre => exact hp
  | child _ hi _ ih =>
    refine ih fun l hl => ?_
    rcases List.mem_append.1 hl with hl | hl
    · exact hp l hl
    · exact List.mem_singleton.1 hl ▸ Nat.le_trans hi (childCount_le v _)

/-- A unit under the media unit lies in one of the variant's groups. -/
theorem Below.group_le {v : Variant} {q : List Nat} (h : Below v [] q) (h4 : q.getD 0 0 = 4) : q.getD 1 0 ≤ groupCount v := by
  cases h with
  | here => cases h4
  | child _ _ h =>
    cases h with
    | here => exact Nat.zero_le _
    | child _ hj h =>
      obtain ⟨t, rfl⟩ := h.extends
      obtain rfl := h4
      exact hj

/-! ## Paths without the every-child form -/

/-- The levels after `pre` name a unit (15 R336): no index above its parent's CHILD_COUNT, and after a zero level zeros alone. -/
def NamesUnit (v : Variant) : List Nat → List Nat → Prop
  | _, [] => True
  | pre, l :: rest => (l = 0 ∧ ∀ x ∈ rest, x = 0) ∨ (l ≠ 0 ∧ l ≤ childCount v pre ∧ NamesUnit v (pre ++ [l]) rest)

theorem expandLevels_of_namesUnit {v : Variant} {ls : List Nat} (hw : 63 ∉ ls) :
    ∀ {pre}, NamesUnit v pre ls → expandLevels v pre ls = some [pre ++ ls.filter (· != 0)] := by
  induction ls with
  | nil => intro pre _; simp [expandLevels_nil]
  | cons l rest ih =>
    obtain ⟨hl, hr⟩ := not_or.1 (mt List.mem_cons.2 hw)
    rintro pre (⟨rfl, h0⟩ | ⟨h0, hc, h⟩)
    · have hn : rest.filter (· != 0) = [] := by simpa using h0
      rw [expandLevels_zero, if_pos (by simpa using h0)]
      simp [hn]
    · rw [expandLevels_index _ _ _ h0 (Ne.symm hl), if_pos hc, ih hr h]
      simp [h0]

theorem expandLevels_of_not_namesUnit {v : Variant} {ls : List Nat} (hw : 63 ∉ ls) :
    ∀ {pre}, ¬ NamesUnit v pre ls → expandLevels v pre ls = none := by
  induction ls with
  | nil => exact fun h => (h trivial).elim
  | cons l rest ih =>
    obtain ⟨hl, hr⟩ := not_or.1 (mt List.mem_cons.2 hw)
    intro pre h
    by_cases h0 : l = 0
    · subst h0
      rw [expandLevels_zero, if_neg fun e => h (.inl ⟨rfl, by simpa using e⟩)]
    · rw [expandLevels_index _ _ _ h0 (Ne.symm hl)]
      exact ite_eq_right_iff.2 fun hc => ih hr fun hn => h (.inr ⟨h0, hc, hn⟩)

/-- Only zeros that end the path are left out, so every level stays where it was. -/
theorem NamesUnit.getD_filter {v : Variant} {ls : List Nat} :
    ∀ {pre}, NamesUnit v pre ls → ∀ i, (ls.filter (· != 0)).getD i 0 = ls.getD i 0 := by
  induction ls with
  | nil => exact fun _ _ => rfl
  | cons l rest ih =>
    rintro pre (⟨rfl, h0⟩ | ⟨h0, _, h⟩) i
    · have hn : (0 :: rest).filter (· != 0) = [] := by simpa using h0
      have hz : (0 :: rest).getD i 0 ≤ 0 := getD_le_of_forall_le (by simpa using h0) i
      rw [hn, List.getD_nil, Nat.le_zero.1 hz]
    · rw [List.filter_cons_of_pos (by simpa using h0)]
      cases i with
      | zero => rfl
      | succ i => exact ih h i

/-- The five levels of a path: LEVEL5 lies below a die, which has no children. -/
theorem namesUnit_iff {v : Variant} {a b c d e : Nat} : NamesUnit v [] [a, b, c, d, e] ↔
    ¬ ((a = 0 ∧ (b ≠ 0 ∨ c ≠ 0 ∨ d ≠ 0)) ∨ (b = 0 ∧ (c ≠ 0 ∨ d ≠ 0)) ∨ (c = 0 ∧ d ≠ 0) ∨ e ≠ 0 ∨ childCount v [] < a ∨ childCount v [a] < b
      ∨ childCount v [a, b] < c ∨ childCount v [a, b, c] < d) := by
  simp only [NamesUnit, List.nil_append, List.cons_append, List.forall_mem_cons, List.not_mem_nil, false_implies, implies_true, and_true, childCount_die]
  omega

/-! ## The expansion of an encoded path -/

theorem encLevels_pathLevels {p : Nat} (hp : p < 2^32) (h4 : p % 4 = 0) (h5 : p / 4 % 64 = 0) : encLevels (pathLevels p) = p := by
  show U.enc (p / 2^26 % 64) (p / 2^20 % 64) (p / 2^14 % 64) (p / 2^8 % 64) = p
  unfold U.enc
  omega

theorem not_isWild {p : Nat} : isWild p = false ↔ 63 ∉ pathLevels p := by
  simp only [isWild, List.any_eq_false, beq_iff_eq]
  exact ⟨fun h m => h 63 m rfl, fun h x m e => h (e ▸ m)⟩

theorem expandPath_range {v : Variant} {p : Nat} (h : p % 4 ≠ 0) : expandPath v p = .error .range := by
  rw [expandPath, if_pos h]

theorem expandPath_noObject {v : Variant} {p : Nat} (h4 : p % 4 = 0) (h : expandLevels v [] (pathLevels p) = none) :
    expandPath v p = .error .noObject := by
  rw [expandPath, if_neg fun h => h h4, h]

theorem expandPath_single {v : Variant} {p : Nat} {q : List Nat} (h4 : p % 4 = 0) (h : expandLevels v [] (pathLevels p) = some [q]) :
    expandPath v p = .ok [encLevels q] := by
  rw [expandPath, if_neg fun h => h h4, h]; rfl

theorem expandPath_below {v : Variant} {p u : Nat} {us : List Nat} (h : expandPath v p = .ok us) (hu : u ∈ us) :
    ∃ q, Below v [] q ∧ u = encLevels q := by
  rw [expandPath] at h
  split at h
  · cases h
  · split at h
    next q qs e =>
      cases h
      obtain ⟨x, hx, rfl⟩ := List.mem_map.1 hu
      exact ⟨x, expandLevels_below v _ [] _ e x hx, rfl⟩
    next => cases h

/-- A path without the every-child form names itself, or no unit. -/
theorem expandPath_of_levels {v : Variant} {p a b c d e : Nat} (hlt : p < 2^32) (h4 : p % 4 = 0) (hl : pathLevels p = [a, b, c, d, e])
    (hw : isWild p = false) : expandPath v p =
      if (a = 0 ∧ (b ≠ 0 ∨ c ≠ 0 ∨ d ≠ 0)) ∨ (b = 0 ∧ (c ≠ 0 ∨ d ≠ 0)) ∨ (c = 0 ∧ d ≠ 0) ∨ e ≠ 0 ∨ childCount v [] < a ∨ childCount v [a] < b
        ∨ childCount v [a, b] < c ∨ childCount v [a, b, c] < d then .error .noObject else .ok [p] := by
  have hw := not_isWild.1 hw
  split
  next hbad =>
    exact expandPath_noObject h4 (expandLevels_of_not_namesUnit hw fun hn => namesUnit_iff.1 (hl ▸ hn) hbad)
  next hgood =>
    have hn : NamesUnit v [] (pathLevels p) := hl ▸ namesUnit_iff.2 hgood
    have h5 : p / 4 % 64 = 0 := by
      have : p / 4 % 64 = e := by simpa [pathLevels] using congrArg (·.getD 4 0) hl
      omega
    have he : encLevels ((pathLevels p).filter (· != 0)) = p := calc
      _ = encLevels (pathLevels p) := by simp only [encLevels, hn.getD_filter]
      _ = p := encLevels_pathLevels hlt h4 h5
    rw [expandPath_single h4 (expandLevels_of_namesUnit hw hn), List.nil_append, he]

/-! ## Parity groups that the variant has not (00 R3) -/

theorem unitUnder_group (u : Nat) {g : Nat} (h : 0 < g) (h63 : g < 63) :
    unitUnder u (U.group g) = true ↔ u / 2^26 % 64 = 4 ∧ u / 2^20 % 64 = g := by
  have e : pathLevels (U.group g) = [4, g, 0, 0, 0] := by
    simp only [pathLevels, U.group, U.enc, List.cons.injEq, and_true]
    omega
  simp only [unitUnder, e]
  simp only [pathLevels, List.zip_cons_cons, List.zip_nil_right, List.all_cons, List.all_nil, Nat.reduceBEq, BEq.rfl, Bool.false_and, Bool.or_self,
    Bool.false_or, Bool.or_false, Bool.true_or, Bool.and_true, Bool.and_eq_true, Bool.or_eq_true, beq_iff_eq, bne_iff_ne, ne_eq]
  omega

/-- No path names a unit at or below a group beyond the variant's. -/
theorem expandPath_not_under_group {v : Variant} {p u g : Nat} {us : List Nat} (hg : groupCount v < g) (h63 : g < 63)
    (h : expandPath v p = .ok us) (hu : u ∈ us) : unitUnder u (U.group g) = false := by
  obtain ⟨q, hq, rfl⟩ := expandPath_below h hu
  have le := getD_le_of_forall_le (hq.level_le fun _ h => nomatch h)
  have h0 := le 0
  have h1 := le 1
  have h2 := le 2
  have h3 := le 3
  rw [Bool.eq_false_iff, Ne, unitUnder_group _ (by omega) h63, encLevels, U.enc]
  rintro ⟨e4, eg⟩
  have := hq.group_le (by omega)
  omega

/-- A path at or below a group beyond the variant's names no unit, whatever its further levels. -/
theorem expandPath_beyond_groups {v : Variant} {p g : Nat} (hg : groupCount v < g) (h63 : g < 63) (h4 : p % 4 = 0)
    (h : p / 2^20 = 64 * 4 + g) : expandPath v p = .error .noObject := by
  have hl : pathLevels p = [4, g, p / 2^14 % 64, p / 2^8 % 64, p / 4 % 64] := by
    simp only [pathLevels, List.cons.injEq, and_true]
    omega
  refine expandPath_noObject h4 ?_
  rw [hl, expandLevels_index _ _ _ (by decide) (by decide), if_pos (show 4 ≤ childCount v [] from (by decide : 4 ≤ 7)),
    expandLevels_index _ _ _ (by omega) (by omega), if_neg]
  exact Nat.not_le.2 hg

end Sys2Proof.Machine

/-! # Requests whose path is rejected -/
namespace Sys2Proof.Machine

/-! ## A request in turn is executed (15 R349) -/

theorem inTurn_iff {s : State} {r : KReq} {x : Session} : inTurn s r x = true ↔
    kdpAnswers s = true ∧ findSession s r.sid.toNat = some x ∧ netServes s x.netPort = true ∧ waitsTurn s = false ∧ r.gram.dstPort.toNat = x.udpPort ∧
      r.gram.fit = true ∧ r.macOk = true ∧ r.wellFormed = true ∧ r.seq.toNat = x.lastSeq + 1 ∧ s.ts.activating ≠ 2 := by
  simp only [inTurn, Bool.and_eq_true, beq_iff_eq, bne_iff_ne, Bool.not_eq_true', and_assoc]

@[simp] theorem countFrame_variant (s : State) (p : Nat) : (countFrame s p).variant = s.variant := by
  unfold countFrame; split <;> rfl
@[simp] theorem countFrame_ts (s : State) (p : Nat) : (countFrame s p).ts = s.ts := by
  unfold countFrame; split <;> rfl

@[simp] theorem kdpTake_out (x : Session) (q : Nat) (resp : KResp) (s : State) : (kdpTake x q resp s).out = .kdp x.id q resp :: s.out := rfl
@[simp] theorem kdpTake_variant (x : Session) (q : Nat) (resp : KResp) (s : State) : (kdpTake x q resp s).variant = s.variant := rfl

theorem kdpRequest_of_inTurn {s : State} {r : KReq} {x : Session} {i : Instr} {f : Session → State → State × KResp} (h : inTurn s r x = true) :
    kdpRequest r i f s = (f x (kdpTake x r.seq.toNat (f x (countFrame s x.netPort)).2 (countFrame s x.netPort))).1 := by
  obtain ⟨hans, hfind, hserve, hwait, hport, hfit, hmac, hwf, hseq, hact⟩ := inTurn_iff.1 h
  have hzero : r.seq.toNat ≠ 0 := by omega
  have hnew : ¬ r.seq.toNat ≤ x.lastSeq := by omega
  have hturn : r.seq.toNat = x.lastSeq + 1 ∧ ¬ (countFrame s x.netPort).ts.activating = 2 ∧ ¬ False :=
    ⟨hseq, by rwa [countFrame_ts], not_false⟩
  simp only [kdpRequest, hans, hfind, hserve, hwait, hport, hfit, hmac, hwf, Bool.true_or, Bool.not_true, Bool.false_eq_true, ne_eq, not_true_eq_false,
    if_false, if_true, if_neg hzero, if_neg hnew, if_pos hturn]

/-! ## Courses that check a path first (15 R341) -/

/-- A request's course answers the status with which a path is rejected, and sends nothing more. -/
def RejectsPath (path : Nat) (f : Session → State → State × KResp) : Prop :=
  ∀ (x : Session) (u : State) (e : Status), expandPath u.variant path = .error e → (f x u).2 = { status := e } ∧ (f x u).1.out = u.out

theorem kdpRequest_rejectsPath {s : State} {r : KReq} {x : Session} {i : Instr} {f : Session → State → State × KResp} {path : Nat} {e : Status}
    (hf : RejectsPath path f) (h : inTurn s r x = true) (he : expandPath s.variant path = .error e) :
    Out.kdp x.id r.seq.toNat { status := e } ∈ (kdpRequest r i f s).out := by
  have hv : expandPath (countFrame s x.netPort).variant path = .error e := by rw [countFrame_variant, he]
  rw [kdpRequest_of_inTurn h, (hf x _ e hv).1, (hf x _ e (by rw [kdpTake_variant, hv])).2, kdpTake_out]
  exact List.mem_cons_self

theorem objectRequest_rejectsPath (path index sub : Nat) (op : KOp) (eff : KEffect) :
    RejectsPath path fun x s => objectRequest x.id x.role x.netPort path index sub op eff s := by
  intro x u e he
  simp only [objectRequest, he, and_self]

theorem bulkOpen_of_error {x : Session} {path o direction total : Nat} {s : State} {e : Status} (hd : direction = 1 ∨ direction = 2)
    (he : expandPath s.variant path = .error e) : bulkOpen x path o direction total s = (s, e) := by
  rw [bulkOpen, if_neg (by omega), he]

/-- A command runs as a request whose course rejects a path, and what follows it only adds messages. -/
def RunsRejecting (path : Nat) (c : Instr) (r : KReq) (s : State) : Prop :=
  ∃ f t, RejectsPath path f ∧ exec c s = .next t ∧ (kdpRequest r c f s).out <:+ t.out

theorem RunsRejecting.object {c : Instr} {r : KReq} {s t : State} {index : Nat} {op : KOp} {eff : KEffect} (h : exec c s = .next t)
    (ho : (kdpObject r c index op eff s).out <:+ t.out) : RunsRejecting r.unit.toNat c r s :=
  ⟨_, t, objectRequest_rejectsPath _ _ _ _ _, h, ho⟩

theorem RunsRejecting.answers {path : Nat} {c : Instr} {r : KReq} {s : State} {x : Session} {e : Status} (h : RunsRejecting path c r s)
    (ht : inTurn s r x = true) (he : expandPath s.variant path = .error e) :
    ∃ t, exec c s = .next t ∧ Out.kdp x.id r.seq.toNat { status := e } ∈ t.out := by
  obtain ⟨f, t, hf, hx, ho⟩ := h
  exact ⟨t, hx, ho.subset (kdpRequest_rejectsPath hf ht he)⟩

theorem settle_out_suffix (s : State) : s.out <:+ (settle s).out := Kept.out (settle_keeps .refl .rfl')

/-- Every request that names an object checks its unit path: most run the course of one object; SCRUB_ABORT, KEY_ROTATE and a WRITE may let waiting
work go on after it; a BULK_OPEN has its own course. -/
theorem namesObject_runsRejecting {c : Instr} {r : KReq} {s : State} (hn : namesObject c = true) (hr : requestOf c = some r) :
    RunsRejecting r.unit.toNat c r s := by
  cases c with
  | closeSession | keepalive | subscribe | eventAck | unknownOpcode | bulkData | bulkRead | bulkCommit | bulkEnd => cases hn
  | scrubAbort | keyRotate => cases hr; exact .object rfl (settle_out_suffix _)
  | write req index body =>
    cases hr
    refine .object (index := index.toNat) (op := bodyOp body) (eff := writeEffect (index.toNat * 256 + r.sub.toNat) body) rfl ?_
    split
    · exact settle_out_suffix _
    · exact List.suffix_refl _
  | bulkOpen req index direction total =>
    cases hr
    have hd : direction.toNat = 1 ∨ direction.toNat = 2 := by simpa [namesObject, ← BitVec.toNat_inj] using hn
    refine ⟨_, _, fun x u e he => ?_, rfl, List.suffix_refl _⟩
    simp only [bulkOpen_of_error (s := { u with kdp := { u.kdp with bulkExpired := u.kdp.bulkExpired.filter (· != x.id) } }) hd he, and_self]
  | _ => cases hr <;> exact .object rfl (List.suffix_refl _)

theorem subscribe_runsRejecting {r : KReq} {slot minSev : BitVec 8} {subs : BitVec 16} {tree : BitVec 32} {s : State} (h1 : 1 ≤ slot.toNat)
    (h4 : slot.toNat ≤ 4) (hm : minSev.toNat ≤ 4) : RunsRejecting tree.toNat (.subscribe r slot minSev subs tree) r s := by
  refine ⟨_, _, fun x u e he => ?_, rfl, List.suffix_refl _⟩
  have hv : ¬ (slot.toNat = 0 ∨ 4 < slot.toNat ∨ 4 < minSev.toNat) := by omega
  simp only [if_neg hv, he, and_self]

/-- Settles O47: the forms of a path by the laws of `expandPath`, and the answers because each such request checks its path before anything else. -/
theorem unitPathsAreChecked : Obligations.UnitPathsAreChecked := by
  unfold Obligations.UnitPathsAreChecked
  refine ⟨?reserved, ?reservedRefused, ?levels, ?groupTwo, ?noUnitInGroupTwo, ?everyGroup, ?objects, ?subscribe⟩
  case reserved => exact fun v p us h4 _ => expandPath_range h4
  case reservedRefused => exact fun v p h4 => .inl (expandPath_range h4)
  case levels => exact fun v p a b c d e h4 hl hw => expandPath_of_levels p.isLt h4 hl hw
  case groupTwo => exact fun p h4 h => expandPath_beyond_groups (by decide) (by decide) h4 h
  case noUnitInGroupTwo => exact fun p us u h hu => expandPath_not_under_group (by decide) (by decide) h hu
  case everyGroup => rfl
  case objects => exact fun c r x e s hn hr ht he => (namesObject_runsRejecting hn hr).answers ht he
  case subscribe => exact fun r slot minSev subs tree x e s ht h1 h4 hm he => (subscribe_runsRejecting h1 h4 hm).answers ht he

end Sys2Proof.Machine

/-! # Every step keeps the tables canonical

A command does by its law `exec_keeps`; the queue and the time, which a step changes beside it, are in no table. -/
namespace Sys2Proof.Machine

theorem flitReplays_keeps {W : Nat} {r s : State} {n : Nat} (cw : Covers W 0x9) (h : Keeps W r s) : Keeps W r (flitReplays s n) := by
  delta flitReplays
  exact bumpN_keeps (cw.le rfl) (draw_keeps (m := 65536) (cw.le rfl) h)

theorem netErrors_keeps {W : Nat} {r s : State} {p : Nat} (cw : Covers W 0x9) (h : Keeps W r s) : Keeps W r (netErrors s p) :=
  .foldl h fun _ _ k => bumpN_keeps (cw.le rfl) (draw_keeps (m := 65536) (cw.le rfl) k)

theorem tick_keeps {W : Nat} {r s : State} (cw : Covers W 0xc00007fe00002000400000000000000000000000000000000000000000000000019)
    (h : Keeps W r { s with now := s.now + 1 }) : Keeps W r (tick s) := by
  delta tick
  extract_lets s1 s2 s3
  have h1 : Keeps W r s1 := beginPause_keeps (cw.le rfl) h
  have h2 : Keeps W r s2 := .foldl h1 fun _ _ k => flitReplays_keeps (cw.le rfl) k
  have h3 : Keeps W r s3 := .foldl h2 fun _ _ k => netErrors_keeps (cw.le rfl) k
  exact .ite (cycleEvents_keeps (cw.le rfl) (setObj_keeps (cw.le rfl) h3)) h3

theorem canonical_pending (s : State) (l : List Instr) : { s with pending := l }.canonical = s.canonical := rfl
theorem canonical_now (s : State) (n : Nat) : { s with now := n }.canonical = s.canonical := rfl

theorem exec_canonical {c : Instr} {s t : State} (h : exec c s = .next t) (hs : s.canonical = true) : t.canonical = true :=
  (exec_keeps .refl .rfl' c t h).canonical hs

theorem takeHeld_canonical {s : State} (hs : s.canonical = true) : (takeHeld s).canonical = true :=
  (takeHeld_keeps .refl .rfl').canonical hs

theorem tick_canonical {s : State} (hs : s.canonical = true) : (tick s).canonical = true :=
  (tick_keeps .refl .rfl').canonical ((canonical_now s _).trans hs)

/-- Settles O1: by what a step does, the front command, a held request or a cycle of CLK_CTL. -/
theorem everyStepKeepsTheTablesCanonical : Obligations.EveryStepKeepsTheTablesCanonical := by
  unfold Obligations.EveryStepKeepsTheTablesCanonical
  intro s t hs h
  rw [step] at h
  split at h
  next c rest _ => exact exec_canonical h ((canonical_pending s rest).trans hs)
  next =>
    split at h
    next => exact exec_canonical h (takeHeld_canonical hs)
    next => exact Host.Outcome.next.inj h ▸ tick_canonical hs

/-- Settles O2: by evaluation, since every table of the reset state is a literal list. -/
theorem resetTablesCanonical : Obligations.ResetTablesCanonical := by
  unfold Obligations.ResetTablesCanonical
  rfl

end Sys2Proof.Machine

/-! # A sequencing step whose device does not answer (11 R257, R259, R262)

Such a step is a fault of its rail, and MODULE_RESET as the rail's reaction ends the start. -/
namespace Sys2Proof.Machine

/-- A part that the set of a law does not name reads as before. -/
theorem Keeps.get {α : Type} {w : Nat} {r s : State} (h : Keeps w r s) (f : State → α) {x : α} (e : f (r.put w s) = x := by rfl) : f s = x :=
  (congrArg f h.frame).trans e

theorem track_keeps_tracked (us : List Nat) (s0 s : State) : Keeps 0x8 s (track us s0 s) :=
  .foldl .rfl' fun _ _ k => .ite (setObj_keeps .refl (bump_keeps .refl k)) k

@[simp] theorem track_phase (us : List Nat) (s0 s : State) : (track us s0 s).phase = s.phase := (track_keeps_tracked us s0 s).get (·.phase)

theorem railsDown_phase (s : State) (off : Bool) : (railsDown s off).phase = if off then .latchedOff else .cold := rfl

theorem noteFault_phase (s : State) (n a : Nat) : (noteFault s n a).phase = s.phase := (noteFault_keeps .refl .rfl').get (·.phase)
theorem noteFault_pw (s : State) (n a : Nat) : (noteFault s n a).pw = s.pw := (noteFault_keeps .refl .rfl').get (·.pw)

theorem seqFail_phase (s : State) : (seqFail s).phase = if 3 ≤ s.pw.seqTries + 1 then .latchedOff else .cold := by
  simp only [seqFail, trackAll, track_phase, railsDown_phase, decide_eq_true_eq]

theorem react_moduleReset {s : State} (hp : s.phase = .sequencing) (t : RetryTarget) (a : Nat) : react s t 3 a = seqFail s := if_pos hp

/-- A fault of a rail that is no bank's, outside a flush. -/
theorem railFault_rail {s : State} {r : Fin 18} (hp : s.phase ≠ .flushing) (hf : s.pw.flush = none) (hb : railBank (r.val + 1) = none) :
    ∃ n a b us, railFault s (.rail r) = track us s (react (noteFault s n a) (.rail r) (s.obj (U.rail (r.val + 1)) Obj.RAIL_REACTION) b) := by
  have hc : ¬ ((noteFault s (r.val + 1) (AMap.getD s.pw.attempts (r.val + 1) 0)).phase = .flushing ∨
      (noteFault s (r.val + 1) (AMap.getD s.pw.attempts (r.val + 1) 0)).pw.flush.isSome = true) := by
    rw [noteFault_phase, noteFault_pw, hf]
    exact fun h => h.elim hp fun h => nomatch h
  refine ⟨r.val + 1, AMap.getD s.pw.attempts (r.val + 1) 0, AMap.getD s.pw.attempts (r.val + 1) 0, [U.rail (r.val + 1), U.power, U.root], ?_⟩
  delta railFault
  refine (if_neg hc).trans ?_
  rw [show railBank (retryRail (.rail r)) = none from hb]
  rfl

theorem railFault_moduleReset_phase {s : State} {r : Fin 18} (hp : s.phase = .sequencing) (hf : s.pw.flush = none) (hb : railBank (r.val + 1) = none)
    (hr : s.obj (U.rail (r.val + 1)) Obj.RAIL_REACTION = 3) :
    (railFault s (.rail r)).phase = if 3 ≤ s.pw.seqTries + 1 then .latchedOff else .cold := by
  obtain ⟨n, a, b, us, e⟩ := railFault_rail (by rw [hp]; decide) hf hb
  rw [e, hr, react_moduleReset ((noteFault_phase ..).trans hp), track_phase, seqFail_phase, noteFault_pw]

/-- SEQUENCING before the step that turns rail 1 on, whose sequencer does not answer on PMBus. -/
def silentSequencer : State := { phase := .sequencing, pw := { step := 3, unreachable := [0x40] } }

theorem stepFaults_silentSequencer : stepFaults silentSequencer = railFault silentSequencer (.rail 0) := by
  have hu : (stepUp silentSequencer).filter (fun n => !railReached silentSequencer n) = [1] := by decide
  rw [stepFaults, hu, List.foldl_cons, List.foldl_nil]
  exact if_pos rfl

theorem sequencingStep_silentSequencer_phase : (sequencingStep silentSequencer).phase = .cold := by
  have hc : (stepFaults silentSequencer).phase = .cold := by
    rw [stepFaults_silentSequencer, railFault_moduleReset_phase rfl rfl rfl (by decide)]
    rfl
  have hn : stepRuns (stepFaults silentSequencer) ≠ true := by simp [stepRuns, hc]
  rw [sequencingStep, if_pos (show stepRuns silentSequencer = true from rfl)]
  exact (congrArg State.phase (if_pos hn)).trans hc

/-- Refutes O8: a step that cannot reach its device is a fault of the step's rail (11 R257), so it leaves SEQUENCING where that rail's reaction is
MODULE_RESET. The clause of SEQUENCING_STEP_DONE does not ask that the rails of the step be reached. -/
theorem not_startStepsOfTheHarbourmaster : ¬ Obligations.StartStepsOfTheHarbourmaster := by
  unfold Obligations.StartStepsOfTheHarbourmaster
  rintro ⟨-, -, -, step, -, -⟩
  obtain ⟨t, ht, hp, -, -⟩ := step silentSequencer rfl rfl (by decide) (by decide)
  obtain rfl := Host.Outcome.next.inj ht
  exact absurd (sequencingStep_silentSequencer_phase.symm.trans hp) (by decide)

end Sys2Proof.Machine

/-! # Host accesses that the clauses on bulk writes and reads do not leave out (03 R62, 04 R107, R108)

Each answer is the model's own, by evaluation of the request on one state. -/
namespace Sys2Proof.Machine

/-- The decoder of the agent of port 1: region 1, of 256 MiB of HDM-H, at 0. -/
def hostDecoder : Decoder := { hpa := 0, dpa := 0, size := 268435456, bi := false, region := 1 }

/-- READY with port 1 up, credits for one response of each class, and an agent that reaches region 1. -/
def hostLinked : State :=
  (({ phase := .running,
      hp := { ports := [(1, { ndr := 1, drs := 1 })], agents := [{ port := 1, src := 0xFFFF, decoders := [(0, hostDecoder)] }] },
      mc := { regions := [(1, { base := 0, size := 268435456, mode := 1 })] } } : State).setObj (U.port 1) Obj.LINK_STATE 3).setR Obj.DIRTY_CAP 1000000

/-! ## A combining buffer that lists a line twice -/

/-- A combining-buffer entry that lacks byte 0 alone. -/
def combinedRest : CbEntry := { data := 0, mask := ~~~ 1, poison := 0, seq := 0 }

/-- The combining buffer lists line 1 twice. -/
def combinedTwice : State := { hostLinked with mc := { hostLinked.mc with cb := [(1, combinedRest), (1, combinedRest)] } }

example : combinedTwice.canonical = true := by decide

set_option maxRecDepth 2000 in
theorem hostRequest_combinedTwice_cb :
    (hostRequest { plainReq .writePtl 0 3 9 64 MetaValue.i.code [] with data := 7, mask := 1, poison := false, bypass := false } combinedTwice).mc.cb =
      [(1, combinedRest)] := by
  rfl

/-- Refutes O22: the clause of a partial write that completes its line says that the line then has no combining-buffer entry, and does not ask that the
buffer list the line once; `State.canonical` does not ask it either. -/
theorem not_bulkWrites : ¬ Obligations.BulkWrites := by
  unfold Obligations.BulkWrites
  rintro ⟨-, -, -, -, -, completes⟩
  obtain ⟨t, ht, hc, -⟩ := completes 0 3 9 64 64 hostDecoder .i 7 1 false combinedRest combinedTwice (by decide) (by decide) (by decide) (by decide)
    (by decide) (by decide) (by decide) (by decide) rfl (by decide)
  obtain rfl := Host.Outcome.next.inj ht
  rw [show lineOfDpa 64 = 1 from rfl] at hc
  exact nomatch (congrArg (AMap.get? · 1) hostRequest_combinedTwice_cb).symm.trans hc

/-! ## A stale marker over a line staged whole -/

/-- The bytes of line 1, staged whole and without poison. -/
def stagedWhole : WEntry := { data := 5, mask := fullMask, poison := false, seq := 0, first := 0, pos := 0 }

/-- Line 1 is staged whole, and a later marker has made it stale (04 R107). -/
def staleStaged : State :=
  { hostLinked with wharf := { hostLinked.wharf with entries := [(1, stagedWhole)], markers := [(0, { mask := 2, seq := 1, pos := 1 })], nextSeq := 2 } }

example : staleStaged.canonical = true := by decide

set_option maxRecDepth 2000 in
/-- The read of that line is answered with poison, since REGION_STALE_READ is 0 (04 R108). -/
theorem hostRequest_staleStaged_out : (hostRequest (plainReq .read 0 3 9 64 MetaValue.i.code []) staleStaged).out = [.drs 1 9 5 true 0 0] := by
  rfl

/-- Refutes O23: a marker staged after a line's whole write makes the line stale (04 R107), and its read answers poison with REGION_STALE_READ 0 (04
R108). The clause of a line staged whole does not leave such a marker out. -/
theorem not_bulkReads : ¬ Obligations.BulkReads := by
  unfold Obligations.BulkReads
  rintro ⟨-, whole, -⟩
  obtain ⟨t, ht, hs, -⟩ := whole 0 3 9 64 64 hostDecoder .i stagedWhole staleStaged (by decide) (by decide) (by decide) (by decide) (by decide) (by decide)
    (by decide) (by decide) (by decide) rfl rfl
  obtain rfl := Host.Outcome.next.inj ht
  have hn : sentDrs (hostRequest (plainReq .read 0 3 9 64 MetaValue.i.code []) staleStaged) 1 9 5 false 0 = false := by
    rw [sentDrs, hostRequest_staleStaged_out]
    simp
  exact Bool.false_ne_true (hn.symm.trans hs)

end Sys2Proof.Machine

/-! # Completions that take a port's last credit (02 R45, 03 R69)

Three clauses say that a request's response leaves its port at once where the port can send one response. In them the request first ends what is pending in
its region of the window, and the completion held there takes the port's credit, or waits ahead of the response where the port has none. Each course is
evaluated on one state. -/
namespace Sys2Proof.Machine

/-- The decoder of an agent on the control window range: an offset is its own host physical address. -/
def windowDecoder : Decoder := { hpa := 0, dpa := cwBase, size := 268435456, bi := false }

/-- READY with port 1 up, credits on it for `ndr` completions and one response with data, and window 1 bound to its agent. -/
def windowLinked (ndr : Nat) (x : Window) : State :=
  { hostLinked with
    hp := { ports := [(1, { ndr := ndr, drs := 1 })], agents := [{ port := 1, src := 0xFFFF, decoders := [(0, windowDecoder)] }] },
    mc := { windows := [(1, { x with port := 1, src := 0xFFFF })] } }

/-! ## A mirror barrier that ends the one before it -/

/-- The window's mirror barrier pends and its completion is held; the mirror is in step over network port 1, and no range is mirrored asynchronously. -/
def mirrorBarrierHeld : State :=
  let s := windowLinked 1 { mirror := some (3, 0), mirrorState := 1, heldCmp := [(2, 5)] }
  let s := ((s.setR Obj.MIRROR_STATE 3).setObj (U.netPort 1) Obj.NET_ENABLE_STATE 1).setObj (U.netPort 1) Obj.NET_LINK 2
  { s with kdp := { s.kdp with net1 := { s.kdp.net1 with addrHeld := true } } }

example : mirrorBarrierHeld.canonical = true := by decide

set_option maxRecDepth 2000 in
theorem mirrorBarrier_held_out : (cwValueWrite 0 0 9 0x0040 7 0xFF [] mirrorBarrierHeld).out = [.ndr 1 5 0 0] := by rfl

/-- Refutes O18: a mirror barrier that is done at once first sends the completion held for the barrier before it (03 R69), and its own waits where the
port had one credit (02 R45). -/
theorem not_windowBarriers : ¬ Obligations.WindowBarriers := by
  unfold Obligations.WindowBarriers
  rintro ⟨-, -, mirrorAtOnce, -, -⟩
  obtain ⟨t, ht, -, -, -, hs⟩ := mirrorAtOnce 0 0 9 1 7 0xFF mirrorBarrierHeld (by decide) (by decide) (by decide) (by decide) (by decide) (by decide)
  obtain rfl := Host.Outcome.next.inj ht
  rw [sentNdr, mirrorBarrier_held_out] at hs
  exact absurd hs (by decide)

/-! ## A RESV_LOAD that ends a conditional store -/

/-- The window's conditional store has not reached its completion point, its completion is held, and the port has no credit for one. -/
def resvStoreHeld : State := windowLinked 0 { resvState := 1, storing := some 0, heldCmp := [(3, 5)] }

example : resvStoreHeld.canonical = true := by decide

set_option maxRecDepth 2000 in
theorem resvLoad_held_out : (cwArrive .read ((0 : Fin 16).val + 1) (0 : BitVec 12).toNat (9 : BitVec 14).toNat 0x1040 0 0 [] resvStoreHeld).out = [] := by
  rfl

/-- Refutes O19: a RESV_LOAD that is refused first sends the completion held for a conditional store (03 R69, R78); without a credit for it that completion
waits at the port, and the load's zeros behind it (02 R45). The clause asks a credit for a response with data alone. -/
theorem not_reservations : ¬ Obligations.Reservations := by
  unfold Obligations.Reservations
  rintro ⟨-, -, loadRefused, -, -, -, -⟩
  obtain ⟨t, ht, -, -, -, hs⟩ := loadRefused 0 0 9 1 resvStoreHeld (by decide) (by decide) (by decide) (by decide)
  obtain rfl := Host.Outcome.next.inj ht
  rw [sentDrs, resvLoad_held_out] at hs
  exact absurd hs (by decide)

/-! ## A discard of no pages while one is queued -/

/-- A discard of one page is queued in the window and its completion is held. -/
def discardHeld : State :=
  windowLinked 1 { discardState := 1, queue := [{ base := 0, count := 1, token := 3, started := 0 }], heldCmp := [(4, 5)] }

example : discardHeld.canonical = true := by decide

set_option maxRecDepth 2000 in
theorem discardGo_held_out : (cwValueWrite 0 0 9 0x2080 7 0xFF [] discardHeld).out = [.ndr 1 5 0 0] := by rfl

/-- Refutes O20: the rejection of a discard of no pages takes DISCARD_STATE out of PENDING, which first sends the completion held for the discard before it
(03 R69, R80), and its own waits where the port had one credit (02 R45). -/
theorem not_windowDiscards : ¬ Obligations.WindowDiscards := by
  unfold Obligations.WindowDiscards
  rintro ⟨-, -, -, noPages, -, -⟩
  obtain ⟨t, ht, -, -, hs⟩ := noPages 0 0 9 1 7 0xFF discardHeld (by decide) (by decide) (by decide) (by decide) (by decide)
  obtain rfl := Host.Outcome.next.inj ht
  rw [sentNdr, discardGo_held_out] at hs
  exact absurd hs (by decide)

end Sys2Proof.Machine

/-! # The end of a region's drain (03 R58, 10 R240) -/
namespace Sys2Proof.Machine

/-- The table of regions once a region has a definition: one of mode 0 removes it (03 R58). -/
def regionsWith (m : AMap Region) (r : Nat) (d : Region) : AMap Region := if d.mode = 0 then AMap.del m r else AMap.set m r d

/-- A definition that takes effect changes the table of regions; the parts that may change besides are those of its key, of the home cache and of the
records it makes. -/
theorem putRegion_keeps_regionsWith {W : Nat} {s : State} {r : Nat} {d : Region}
    (cw : Covers W 0x800000003fe100f280040000000000000000000001c000000000000000000804000019) :
    Keeps W { s with mc := { s.mc with regions := regionsWith s.mc.regions r d } } (putRegion s r d) := by
  delta putRegion
  extract_lets +onlyGivenNames _ _ placed keyed _
  have hk : Keeps W placed keyed := .ite (createDomain_keeps (cw.le rfl) .rfl') .rfl'
  extract_lets +onlyGivenNames dropped
  have hd : Keeps W placed dropped := .ite (hcDrop_keeps (cw.le rfl) hk) (staleRisk_keeps (cw.le rfl) hk)
  exact record_keeps (cw.le rfl) (configChanged_keeps (cw.le rfl) hd)

theorem putRegion_mc (s : State) (r : Nat) (d : Region) :
    (putRegion s r d).mc = { s.mc with regions := regionsWith s.mc.regions r d } := (putRegion_keeps_regionsWith .refl).get (·.mc)

theorem putRegion_wharf (s : State) (r : Nat) (d : Region) : (putRegion s r d).wharf = s.wharf := (putRegion_keeps_regionsWith .refl).get (·.wharf)

@[simp] theorem endRun_mc (u o : Nat) (st : Status) (s : State) : (endRun u o st s).mc = s.mc := (endRun_keeps .refl .rfl').get (·.mc)
@[simp] theorem endRun_wharf (u o : Nat) (st : Status) (s : State) : (endRun u o st s).wharf = s.wharf := (endRun_keeps .refl .rfl').get (·.wharf)
@[simp] theorem refuseRegion_mc (s : State) (r c : Nat) (st : Status) : (refuseRegion s r c st).mc = s.mc := (refuseRegion_keeps .refl .rfl').get (·.mc)
@[simp] theorem refuseRegion_wharf (s : State) (r c : Nat) (st : Status) : (refuseRegion s r c st).wharf = s.wharf :=
  (refuseRegion_keeps .refl .rfl').get (·.wharf)

/-- The state once no drain runs for a region. -/
def drainStopped (s : State) (r : Nat) : State := { s with mc := { s.mc with applying := s.mc.applying.filter fun p => p.region != r } }

section
variable {k : Fin 64} {a : RegionApply} {s : State} (ha : s.mc.applying.find? (fun q => q.region == k.val + 1) = some a)
include ha

/-- The end of a running drain, by what is staged of the region: a pinned page, nothing, or more to drain. -/
theorem execRegionApplyDrainDone_running :
    execRegionApplyDrainDone k s = .next (
      if (regionPages s (k.val + 1)).any (fun pn => s.wharf.pinned.contains pn) then
        endRun U.root (Obj.REGION_APPLY + (k.val + 1)) .state (refuseRegion (drainStopped s (k.val + 1)) (k.val + 1) 7 .state)
      else if (regionPages s (k.val + 1)).isEmpty then
        endRun U.root (Obj.REGION_APPLY + (k.val + 1)) .ok (putRegion (drainStopped s (k.val + 1)) (k.val + 1) a.def_)
      else s) := by
  simp only [execRegionApplyDrainDone, ha, drainStopped]

theorem execRegionApplyDrainDone_pinned (hp : ((regionPages s (k.val + 1)).any fun pn => s.wharf.pinned.contains pn) = true) :
    execRegionApplyDrainDone k s = .next
      (endRun U.root (Obj.REGION_APPLY + (k.val + 1)) .state (refuseRegion (drainStopped s (k.val + 1)) (k.val + 1) 7 .state)) := by
  rw [execRegionApplyDrainDone_running ha, if_pos hp]

theorem execRegionApplyDrainDone_drained (he : regionPages s (k.val + 1) = []) :
    execRegionApplyDrainDone k s = .next
      (endRun U.root (Obj.REGION_APPLY + (k.val + 1)) .ok (putRegion (drainStopped s (k.val + 1)) (k.val + 1) a.def_)) := by
  rw [execRegionApplyDrainDone_running ha, he]
  rfl

theorem execRegionApplyDrainDone_staged (hn : regionPages s (k.val + 1) ≠ [])
    (hp : ((regionPages s (k.val + 1)).any fun pn => s.wharf.pinned.contains pn) = false) : execRegionApplyDrainDone k s = .next s := by
  rw [execRegionApplyDrainDone_running ha, if_neg (Bool.eq_false_iff.1 hp), if_neg (mt List.isEmpty_iff.1 hn)]

end

/-- Settles O21: by the three ends of a running drain. -/
theorem regionDrain : Obligations.RegionDrain := by
  unfold Obligations.RegionDrain
  refine ⟨?abandoned, ?takesEffect, ?drainsOn⟩
  case abandoned =>
    intro k a s ha hp
    refine ⟨_, execRegionApplyDrainDone_pinned ha hp, ?_⟩
    simp only [endRun_mc, endRun_wharf, refuseRegion_mc, refuseRegion_wharf, drainStopped, and_self]
  case takesEffect =>
    intro k a s ha he hm
    refine ⟨_, execRegionApplyDrainDone_drained ha he, ?_⟩
    simp only [endRun_mc, endRun_wharf, putRegion_mc, putRegion_wharf, regionsWith, if_neg hm, drainStopped]
    exact ⟨AMap.get?_set_self .., fun q hq => AMap.get?_set_ne _ _ hq, trivial, trivial⟩
  case drainsOn => exact fun k a s ha hn hp => execRegionApplyDrainDone_staged ha hn hp

end Sys2Proof.Machine

/-! # A request that stands behind the retry store (04 R96) -/
namespace Sys2Proof.Machine

/-- The decoder of the agent of port 1 where its region is of HDM-DB. -/
def coherentDecoder : Decoder := { hostDecoder with bi := true }

/-- The agent of `hostLinked` in slot 0 of the coherent domain, its region of HDM-DB. -/
def coherentLinked : State :=
  { hostLinked with
    hp := { hostLinked.hp with
      agents := [{ port := 1, src := 0xFFFF, biEnabled := true, decoders := [(0, coherentDecoder)] }]
      slots := [(0, { state := 1, port := 1, src := 0xFFFF, biId := 0, enrolledAt := 0 })] }
    mc := { regions := [(1, { base := 0, size := 268435456, mode := 2 })] } }

/-- A request for ownership of line 0 still waits in the retry store, though ways of its set are free again. -/
def retryWaiting : State :=
  { coherentLinked with dir := { coherentLinked.dir with
      retry := [{ acc := { id := 0, port := 1, src := 0xFFFF, tag := 8, kind := .inv, line := 0, db := true, slot := 0, metaVal := 2, holds := true, tx := true },
                  since := 0 }]
      nextAcc := 1 } }

example : retryWaiting.canonical = true := by decide

set_option maxRecDepth 2000 in
/-- A request for ownership of line 1, of the same set, waits behind it: the line stays in I. -/
theorem hostRequest_retryWaiting_dirState : dirState (hostRequest (plainReq .inv 0 3 9 64 2 []) retryWaiting) 1 = 0 := by rfl

/-- Refutes O25: requests waiting for one set are served in the order of their arrival (04 R96), so that a new one enters the retry store behind another
that waits there for the set, whether a way is free or not. The clause of MEM_INV asks for a free way and for no earlier request of the line alone. -/
theorem not_coherentGrants : ¬ Obligations.CoherentGrants := by
  unfold Obligations.CoherentGrants
  rintro ⟨owned, -⟩
  obtain ⟨t, ht, hd, -, -⟩ := owned 0 3 9 64 64 coherentDecoder 0 retryWaiting (by decide) (by decide) (by decide) (by decide) (by decide) (by decide)
    (by decide) (by decide) (by decide) (by decide) (by decide) (by decide)
  obtain rfl := Host.Outcome.next.inj ht
  exact absurd (hostRequest_retryWaiting_dirState.symm.trans hd) (by decide)

end Sys2Proof.Machine

/-! # A service reset with a write in an open transaction (12 R284, 02 R49)

Steps 1 to 3 of a service reset complete the requests that have entered a conflict table; nothing that follows them changes what is staged. -/
namespace Sys2Proof.Machine

/-! ## Staged lines and windows under the later steps of a service reset -/

theorem Keeps.entries {w : Nat} {r s : State} (h : Keeps w r s) (hw : w.testBit 40 = false := by rfl) : s.wharf.entries = r.wharf.entries :=
  (congrArg (·.wharf.entries) h.frame).trans (by simp only [State.put, pick, hw, cond_false])
theorem Keeps.windows {w : Nat} {r s : State} (h : Keeps w r s) (hw : w.testBit 11 = false := by rfl) : s.mc.windows = r.mc.windows :=
  (congrArg (·.mc.windows) h.frame).trans (by simp only [State.put, pick, hw, cond_false])

@[simp] theorem trackAll_entries (s0 s : State) : (trackAll s0 s).wharf.entries = s.wharf.entries := (track_keeps_tracked _ s0 s).entries
@[simp] theorem startRun_entries (c : KCtx) (a : Nat) (st : Status) (s : State) : (startRun c a st s).wharf.entries = s.wharf.entries :=
  (startRun_keeps .refl .rfl').entries
@[simp] theorem resetLogic_entries (s : State) : (resetLogic s).wharf.entries = s.wharf.entries := (resetLogic_keeps .refl .rfl').entries
@[simp] theorem reformQueues_entries (s : State) : (reformQueues s).wharf.entries = s.wharf.entries := (reformQueues_keeps .refl .rfl').entries
@[simp] theorem setPstate_entries (s : State) (p : Nat) : (setPstate s p).wharf.entries = s.wharf.entries := (setPstate_keeps .refl .rfl').entries

@[simp] theorem resetLogic_windows (s : State) : (resetLogic s).mc.windows = [] := rfl
@[simp] theorem reformQueues_windows (s : State) : (reformQueues s).mc.windows = s.mc.windows := (reformQueues_keeps .refl .rfl').windows
@[simp] theorem addResidency_windows (s : State) : (addResidency s).mc.windows = s.mc.windows := (addResidency_keeps .refl .rfl').windows

theorem loseResvWhere_of_windows_nil {s : State} (h : s.mc.windows = []) (c : Nat) (p : Window → Bool) : loseResvWhere s c p = s := by
  rw [loseResvWhere, h]; rfl

theorem setPstate_windows_nil {s : State} (h : s.mc.windows = []) (p : Nat) : (setPstate s p).mc.windows = [] := by
  have hr : ((addResidency s).setR Obj.PSTATE_NOW p).mc.windows = [] := (addResidency_windows s).trans h
  rw [setPstate]
  split
  · exact h
  · rw [loseResvWhere_of_windows_nil hr, hr]

/-- Without windows no discard and no drain barrier settles. -/
theorem settle_entries_of_windows_nil {s : State} (h : s.mc.windows = []) : (settle s).wharf.entries = s.wharf.entries := by
  have hd : settleDiscards s = s := by rw [settleDiscards, h]; rfl
  have hb : settleBarriers s = s := by rw [settleBarriers, h]; rfl
  rw [settle, hd, hb]
  exact (settleCredits_keeps .refl .rfl').entries.trans (settleReplay_keeps .refl .rfl').entries

theorem settle_unfrozen_entries {s : State} (h : s.mc.windows = []) (c : Clocks) :
    (settle { (setFrozen s 0).setR Obj.ENTRY_STATE 0 with cs := c }).wharf.entries = s.wharf.entries :=
  settle_entries_of_windows_nil (s := { (setFrozen s 0).setR Obj.ENTRY_STATE 0 with cs := c }) h

/-- What is staged after a service reset is what its steps 1 to 3 have left (12 R284 step 5). -/
theorem serviceReset_entries (s : State) (c : Nat) : (serviceReset s c).wharf.entries = (endHostSide (noteReset (holdPins s) c)).wharf.entries := by
  have hw (u : State) : (setPstate (reformQueues (resetLogic u)) 0).mc.windows = [] :=
    setPstate_windows_nil ((reformQueues_windows _).trans (resetLogic_windows u)) 0
  simp only [serviceReset, trackAll_entries, settle_unfrozen_entries (hw _), setPstate_entries, reformQueues_entries, resetLogic_entries]

/-! ## WARM_RESET in service -/

/-- A command on one present unit that passes the checks answers by its effect (15 R341). -/
theorem objectRequest_exec {sid role netPort path index sub a u : Nat} {eff : KEffect} {s : State} {row : ObjRow}
    (he : expandPath s.variant path = .ok [u]) (hw : isWild path = false) (hc : checkObject s role u (index * 256 + sub) (.exec a) = .ok row)
    (hu : unitAbsent s u = false) : objectRequest sid role netPort path index sub (.exec a) eff s =
      ((eff ⟨sid, role, netPort, u, index * 256 + sub⟩ (.num a) s).1, { status := (eff ⟨sid, role, netPort, u, index * 256 + sub⟩ (.num a) s).2 }) := by
  simp only [objectRequest, he, hw, opOnUnit, hc, hu, Bool.false_eq_true, if_false]

/-- A command without a run starts one, as its own rule decides (15 R342). -/
theorem runCommand_of_no_run {own : Bool} {past : Nat → Bool} {eff : KCtx → Nat → State → State × Status} {c : KCtx} {a : Nat} {s : State}
    (h : AMap.get? s.kdp.runs (objKey c.unit c.obj) = none) :
    runCommand own past eff c (.num a) s = (startRun c a (eff c a s).2 (eff c a s).1, (eff c a s).2) := by
  simp only [runCommand, h]

/-- In service in P0 to P2, with no freeze, no entry under way and no run of WARM_RESET. -/
structure InService (s : State) : Prop where
  phase : s.phase = .running
  frozen : s.robj Obj.FROZEN ≠ 1
  pstate : s.robj Obj.PSTATE_NOW < 3
  entry : s.robj Obj.ENTRY_STATE = 0
  runs : AMap.get? s.kdp.runs (objKey U.root Obj.WARM_RESET) = none

theorem InService.of_eq {r s : State} (h : InService r) (hp : s.phase = r.phase) (ho : ∀ o, s.robj o = r.robj o) (hr : s.kdp.runs = r.kdp.runs) :
    InService s where
  phase := hp.trans h.phase
  frozen := ho _ ▸ h.frozen
  pstate := ho _ ▸ h.pstate
  entry := (ho _).trans h.entry
  runs := hr ▸ h.runs

theorem InService.countFrame {s : State} (h : InService s) (p : Nat) : InService (countFrame s p) :=
  have k : Keeps _ s (Machine.countFrame s p) := countFrame_keeps .refl .rfl'
  h.of_eq (k.get (·.phase)) (fun o => k.get (State.robj · o)) (k.get (·.kdp.runs))

theorem InService.kdpTake {s : State} (h : InService s) (x : Session) (q : Nat) (a : KResp) : InService (kdpTake x q a s) :=
  have k : Keeps _ s (Machine.kdpTake x q a s) := kdpTake_keeps .refl .rfl'
  h.of_eq (k.get (·.phase)) (fun o => k.get (State.robj · o)) (k.get (·.kdp.runs))

/-- A warm reset in service is a service reset (12 Table CS-4). -/
theorem InService.warmReset {s : State} (h : InService s) : warmReset s false = (serviceReset s 7, .ok) := by
  have hentry := h.entry
  have hpstate := h.pstate
  have hw : ¬ (3 ≤ s.robj Obj.PSTATE_NOW ∨ 2 ≤ s.robj Obj.ENTRY_STATE) := by omega
  have hprep : s.robj Obj.ENTRY_STATE ≠ 1 := by omega
  simp only [Machine.warmReset, h.phase, if_neg h.frozen, if_neg hw, if_neg hprep, Bool.false_eq_true, if_false]

/-- The row of WARM_RESET (12 Table CS-12). -/
def warmResetRow : ObjRow := ⟨0x1A02, 0, 0, .cmd, .cmd, 2, 0, .span 1 1, [.module]⟩

theorem objPresent_warmReset (s : State) : objPresent s U.root Obj.WARM_RESET = some warmResetRow := by
  have hrow : objRow? Obj.WARM_RESET = some warmResetRow := by rfl
  have hbank : ¬ (s.variant = .p064 ∧ (Obj.WARM_RESET / 256 = 0x1908 ∨ Obj.WARM_RESET / 256 = 0x1909) ∧ 2 < Obj.WARM_RESET % 256) := by
    rintro ⟨-, -, h⟩
    exact absurd h (by decide)
  simp only [objPresent, hrow]
  rw [if_neg (by decide), if_neg (by decide), if_neg hbank, if_neg (by decide), if_neg (by decide)]

theorem checkObject_warmReset (s : State) : checkObject s 3 U.root Obj.WARM_RESET (.exec 1) = .ok warmResetRow := by
  simp only [checkObject, objPresent_warmReset, stateGate]
  rfl

theorem objectRequest_warmReset {sid netPort : Nat} {s : State} (h : InService s) :
    objectRequest sid 3 netPort U.root 0x1A02 0 (.exec 1) warmResetEffect s =
      (startRun ⟨sid, 3, netPort, U.root, Obj.WARM_RESET⟩ 1 .ok (serviceReset s 7), { status := .ok }) := by
  have hx : expandPath s.variant U.root = .ok [U.root] := by cases s.variant <;> rfl
  rw [objectRequest_exec hx rfl (checkObject_warmReset s) rfl, warmResetEffect, runCommand_of_no_run h.runs, h.warmReset]

/-- WARM_RESET in service by a session of role 3. -/
theorem kdpObject_warmReset {s : State} {r : KReq} {x : Session} {i : Instr} (ht : inTurn s r x = true) (h : InService s) (hx : x.role = 3)
    (hu : r.unit.toNat = U.root) (hs : r.sub.toNat = 0) : kdpObject r i 0x1A02 (.exec 1) warmResetEffect s =
      startRun ⟨x.id, 3, x.netPort, U.root, Obj.WARM_RESET⟩ 1 .ok
        (serviceReset (kdpTake x r.seq.toNat { status := .ok } (countFrame s x.netPort)) 7) := by
  rw [kdpObject, kdpRequest_of_inTurn ht, hx, hu, hs, objectRequest_warmReset (h.countFrame _), objectRequest_warmReset ((h.countFrame _).kdpTake ..)]

/-! ## A write that waits for its snoop -/

/-- A session of role 3 on network port 1. -/
def resetSession : Session := { id := 7, role := 3, netPort := 1, src := 5, srcPort := 9, opened := 0, key := 0 }

/-- The first request of that session, of the root unit. -/
def resetRequest : KReq := { sid := 7, seq := 1, macOk := true, unit := 0, sub := 0, wellFormed := true }

/-- READY with that session, its network port on and carrying KDP; nothing is staged. A write to line 1 waits in its open transaction for the answer of
slot 1 to a snoop (04 R93). -/
def writeOpen : State :=
  let s := (({ phase := .running } : State).setObj (U.netPort 1) Obj.NET_ENABLE_STATE 1).setObj (U.netPort 1) Obj.NET_KDP 1
  { s with
    kdp := { s.kdp with sessions := [resetSession] }
    dir := { s.dir with
      txs := [{ id := 0, kind := 0, line := 1, sector := 0, since := 0,
                accs := [{ id := 0, port := 1, src := 0xFFFF, tag := 9, kind := .write, line := 1, data := 5, mask := fullMask, db := true, slot := 0, tx := true }] }]
      snoops := [{ id := 1, tx := 0, slot := 1, port := 3, src := 0xFFFF, line := 1, kind := 1, sent := true, accMark := 1 }]
      nextAcc := 1, nextId := 2 } }

example : writeOpen.canonical = true := by decide

theorem writeOpen_inTurn : inTurn writeOpen resetRequest resetSession = true := by decide

theorem writeOpen_inService : InService writeOpen := ⟨rfl, by decide, by decide, by decide, rfl⟩

set_option maxRecDepth 4000 in
theorem endHostSide_writeOpen_lines :
    (endHostSide (noteReset (holdPins (kdpTake resetSession resetRequest.seq.toNat { status := .ok } (countFrame writeOpen resetSession.netPort)))
      7)).wharf.entries.map (·.1) = [1] := by
  rfl

/-- Refutes O60: a service reset completes the requests that are in a conflict table, writes durably (12 R284 step 1, 02 R49), and so stages the write of
an open transaction. The clause of WARM_RESET in service, by which the staged lines stay, leaves waiting accesses out and not those of transactions. -/
theorem not_powerRequests : ¬ Obligations.PowerRequests := by
  unfold Obligations.PowerRequests
  rintro ⟨-, -, -, -, -, -, service, -⟩
  obtain ⟨t, ht, -, -, -, -, -, hs, -⟩ := service resetRequest resetSession 1 writeOpen (by decide) rfl writeOpen_inService.entry
  obtain rfl := Host.Outcome.next.inj ht
  have he := hs rfl rfl
  rw [show (1 : BitVec 32).toNat = 1 from rfl, kdpObject_warmReset writeOpen_inTurn writeOpen_inService rfl rfl rfl, startRun_entries, serviceReset_entries] at he
  have hl := endHostSide_writeOpen_lines
  rw [he] at hl
  exact absurd hl (by decide)

end Sys2Proof.Machine

/-! # A sample that waits for a die that fails (08 R208, 09 R213) -/
namespace Sys2Proof.Machine

/-! ## The end of a proof sample at rung 3 -/

/-- Nothing follows rung 3 for a sample of a proof pass (09 R213). -/
theorem climb_proof_rung3 {s : State} {r : MediaRead} (hw : r.why = .proof) (hr : r.rung = 3) (hd : r.degraded = false) (ha : r.around = false) :
    climb s r = proofRead (endRead s r) r true := by
  simp [climb, completeRead, hw, hr, hd, ha]

/-- A sample that is dropped leaves the pass of its own die, which counts it (09 R213). -/
theorem proofRead_dropped {s : State} {r : MediaRead} {p : ProofPass} {die : Nat} (hd : ppnDiePath r.ppn = die) (hp : AMap.get? s.ag.passes die = some p) :
    AMap.get? (proofRead s r true).ag.passes die =
      some { p with left := p.left - 1, dropped := p.dropped + 1, picks := p.picks.filter fun q => q.1 != r.ppn * 8 + r.sector } := by
  simp [proofRead, hd, hp]

theorem endRead_passes (s : State) (r : MediaRead) : (endRead s r).ag.passes = s.ag.passes := (endRead_keeps .refl .rfl').get (·.ag.passes)
theorem settle_passes (s : State) : (settle s).ag.passes = s.ag.passes := (settle_keeps .refl .rfl').get (·.ag.passes)

/-- The one read under way has no member left to wait for. -/
theorem settleLost_of_single {s : State} {r : MediaRead} (h : s.ml.reads = [r]) (hs : r.stage = 2) (hm : r.members = []) : settleLost s = climb s r := by
  simp [settleLost, h, hs, hm]

/-! ## A sample of one die reconstructed from another -/

/-- Page 0 of plate 0 of set 4096 on the second stack of group 1. -/
def samplePpn : Nat := ppnOf 0 1 0 4096 0 0

/-- Its first sector as a proof sample at rung 3, and the stacks whose members it waits for. -/
def rung3Sample (members : List Nat) : MediaRead :=
  { id := 0, why := .proof, pn := 5, sector := 0, ppn := samplePpn, stage := 2, rung := 3, members := members }

theorem rung3Sample_die (members : List Nat) : ppnDiePath (rung3Sample members).ppn = ppnDiePath samplePpn := rfl

/-- The proof pass of the sample's die, to which that sample alone is outstanding. -/
def samplePass : ProofPass := { confirm := false, left := 1, picks := [(samplePpn * 8, 0)] }

/-- READY with that pass: the set is closed, the sample's stripe sealed over all sixteen stacks, and every member but that on the first stack read. -/
def sampleWaits : State :=
  let s : State := { phase := .running }
  { s with
    media := { s.media with
      map := [(5, samplePpn)]
      sets := [(4096, { state := 2, next := 256 })]
      stripes := [(stripeKey 0 (4096 * 256), { live := List.range 16, sealed := true, members := 0xFFFF })] }
    ml := { s.ml with reads := [rung3Sample [0]], nextRead := 1 }
    ag := { s.ag with passes := [(ppnDiePath samplePpn, samplePass)] } }

example : sampleWaits.canonical = true := by decide

set_option maxRecDepth 2000 in
/-- The failure of the set's die on the first stack leaves the sample no member to wait for. -/
theorem dieFailed_sampleWaits_reads : (dieFailed sampleWaits 0 0 0 1).ml.reads = [rung3Sample []] := rfl

set_option maxRecDepth 2000 in
theorem dieFailed_sampleWaits_passes : (dieFailed sampleWaits 0 0 0 1).ag.passes = sampleWaits.ag.passes := rfl

/-- The failed die has no pass; the pass that samples the other die loses its sample. -/
theorem settleLost_sampleWaits_dropped :
    (AMap.get? (settleLost (dieFailed sampleWaits 0 0 0 1)).ag.passes (ppnDiePath samplePpn)).map (·.dropped) = some 1 := by
  rw [settleLost_of_single dieFailed_sampleWaits_reads rfl rfl, climb_proof_rung3 rfl rfl rfl rfl]
  have hp : AMap.get? (endRead (dieFailed sampleWaits 0 0 0 1) (rung3Sample [])).ag.passes (ppnDiePath samplePpn) = some samplePass := by
    rw [endRead_passes, dieFailed_sampleWaits_passes]
    decide
  rw [proofRead_dropped (rung3Sample_die []) hp]
  rfl

/-- Refutes O32: a die that fails may be the member for which a sample of another die's proof pass waits at rung 3. Reconstruction is then not possible (08
Table ML-6), and the sample is dropped from that pass (09 R213). The clause of DIE_FAILED has the passes of all other dies stay as they are. -/
theorem not_mapAndMediaCommands : ¬ Obligations.MapAndMediaCommands := by
  unfold Obligations.MapAndMediaCommands
  rintro ⟨-, -, -, -, -, -, -, died, -⟩
  obtain ⟨t, ht, -, -, hp⟩ := died 0 0 0 1 sampleWaits rfl (by decide)
  have he : exec (.dieFailed 0 0 0 1) sampleWaits = .next (settle (settleLost (dieFailed sampleWaits 0 0 0 1))) := rfl
  obtain rfl := Host.Outcome.next.inj (he.symm.trans ht)
  have hd := settleLost_sampleWaits_dropped
  rw [← settle_passes, hp] at hd
  exact absurd hd (by decide)

end Sys2Proof.Machine

/-! # Requests that start a run of their command (15 R341, R342)

A request that names one present unit, passes the checks and finds no run of its command in its way is answered with the status of the command's own rule.
That rule sees the state before the request only with the request's frame counted and its answer sent. -/
namespace Sys2Proof.Machine

/-! ## What taking a request changes -/

/-- The parts that taking a request may change: the messages sent, the sessions, whether a held request is taken up, and the frame counts of the ports. -/
abbrev takenParts : Nat := 2^1 + 2^202 + 2^207 + 2^210 + 2^211

/-- The state once a request has been taken with a status for its answer (15 R349). -/
def taken (s : State) (r : KReq) (x : Session) (st : Status) : State := kdpTake x r.seq.toNat { status := st } (countFrame s x.netPort)

theorem countFrame_keeps_takenParts (s : State) (p : Nat) : Keeps takenParts s (countFrame s p) := countFrame_keeps (Covers.refl.le rfl) .rfl'

theorem taken_keeps (s : State) (r : KReq) (x : Session) (st : Status) : Keeps takenParts s (taken s r x st) :=
  kdpTake_keeps (Covers.refl.le rfl) (countFrame_keeps_takenParts s x.netPort)

theorem answer_mem_taken (s : State) (r : KReq) (x : Session) (st : Status) : Out.kdp x.id r.seq.toNat { status := st } ∈ (taken s r x st).out := by
  rw [taken, kdpTake_out]
  exact List.mem_cons_self

@[simp] theorem taken_ag (s : State) (r : KReq) (x : Session) (st : Status) : (taken s r x st).ag = s.ag := (taken_keeps s r x st).get (·.ag)
@[simp] theorem taken_media (s : State) (r : KReq) (x : Session) (st : Status) : (taken s r x st).media = s.media := (taken_keeps s r x st).get (·.media)
@[simp] theorem taken_blobs (s : State) (r : KReq) (x : Session) (st : Status) : (taken s r x st).blobs = s.blobs := (taken_keeps s r x st).get (·.blobs)
@[simp] theorem taken_blob (s : State) (r : KReq) (x : Session) (st : Status) (u o : Nat) : (taken s r x st).blob u o = s.blob u o :=
  (taken_keeps s r x st).get (State.blob · u o)

@[simp] theorem startRun_ag (c : KCtx) (a : Nat) (st : Status) (s : State) : (startRun c a st s).ag = s.ag := (startRun_keeps .refl .rfl').get (·.ag)
@[simp] theorem startRun_media (c : KCtx) (a : Nat) (st : Status) (s : State) : (startRun c a st s).media = s.media :=
  (startRun_keeps .refl .rfl').get (·.media)
@[simp] theorem startRun_blobs (c : KCtx) (a : Nat) (st : Status) (s : State) : (startRun c a st s).blobs = s.blobs :=
  (startRun_keeps .refl .rfl').get (·.blobs)
@[simp] theorem startRun_out (c : KCtx) (a : Nat) (st : Status) (s : State) : (startRun c a st s).out = s.out := by
  rw [startRun]
  split <;> rfl

/-- The checks of a request read the variant, the phase and the boot hold alone. -/
theorem checkObject_congr {s v : State} (hv : v.variant = s.variant) (hp : v.phase = s.phase) (hc : v.cs = s.cs) (role u o : Nat) (op : KOp) :
    checkObject v role u o op = checkObject s role u o op := by
  simp only [checkObject, objPresent, stateGate, hv, hp, hc]

/-! ## A request that starts a run -/

/-- No run of a command stands in the way of a new one for a session: none is PENDING, and none owes it a status (15 R342). -/
def FreeToRun (s : State) (sid k : Nat) : Prop :=
  ∀ q, AMap.get? s.kdp.runs k = some q → q.status ≠ .pending ∧ q.owed.find? (fun p => p.1 == sid) = none

theorem startsRun_iff {s : State} {r : KReq} {x : Session} {index a u : Nat} : startsRun s r x index a u = true ↔
    inTurn s r x = true ∧ isWild r.unit.toNat = false ∧ expandPath s.variant r.unit.toNat = .ok [u] ∧
      (∃ row, checkObject s x.role u (index * 256 + r.sub.toNat) (.exec a) = .ok row) ∧ unitAbsent s u = false ∧
      FreeToRun s x.id (objKey u (index * 256 + r.sub.toNat)) := by
  have hop : ((KOp.exec a == KOp.read) : Bool) = false := rfl
  have hpath : (match expandPath s.variant r.unit.toNat with | .ok us => us == [u] | .error _ => false) = true ↔
      expandPath s.variant r.unit.toNat = .ok [u] := by
    cases expandPath s.variant r.unit.toNat <;> simp
  have hcheck : (match checkObject s x.role u (index * 256 + r.sub.toNat) (.exec a) with | .ok _ => true | .error _ => false) = true ↔
      ∃ row, checkObject s x.role u (index * 256 + r.sub.toNat) (.exec a) = .ok row := by
    cases checkObject s x.role u (index * 256 + r.sub.toNat) (.exec a) <;> simp
  have hfree : (match AMap.get? s.kdp.runs (objKey u (index * 256 + r.sub.toNat)) with
      | none => true
      | some q => q.status != .pending && !q.owed.any fun p => p.1 == x.id) = true ↔ FreeToRun s x.id (objKey u (index * 256 + r.sub.toNat)) := by
    rw [FreeToRun]
    cases AMap.get? s.kdp.runs (objKey u (index * 256 + r.sub.toNat)) <;> simp
  rw [startsRun, admitted, Bool.and_eq_true, Bool.and_eq_true, Bool.and_eq_true, Bool.and_eq_true, Bool.and_eq_true]
  simp only [hop, Bool.false_or, Bool.not_eq_true', and_assoc]
  exact and_congr .rfl (and_congr .rfl (and_congr hpath (and_congr hcheck (and_congr .rfl hfree))))

/-- A command that is free to run starts a run, as its own rule decides, whatever earlier runs have ended (15 R342). -/
theorem runCommand_of_free {own : Bool} {past : Nat → Bool} {eff : KCtx → Nat → State → State × Status} {c : KCtx} {a : Nat} {s : State}
    (h : FreeToRun s c.sid (objKey c.unit c.obj)) : runCommand own past eff c (.num a) s = (startRun c a (eff c a s).2 (eff c a s).1, (eff c a s).2) := by
  cases hq : AMap.get? s.kdp.runs (objKey c.unit c.obj) with
  | none => exact runCommand_of_no_run hq
  | some q =>
    obtain ⟨hst, howed⟩ := h q hq
    simp only [runCommand, hq, hst, howed, false_and, if_false]

/-- What a request gives the rule of its command on a unit. -/
abbrev requestCtx (x : Session) (r : KReq) (index u : Nat) : KCtx := ⟨x.id, x.role, x.netPort, u, index * 256 + r.sub.toNat⟩

section
variable {s : State} {r : KReq} {x : Session} {i : Instr} {index a u : Nat} {own : Bool} {past : Nat → Bool}
  {eff : KCtx → Nat → State → State × Status} {f : State → State} {st : Status}

/-- The course of such a request in the state before it or the state that takes it. -/
theorem objectRequest_of_startsRun {v : State} (h : startsRun s r x index a u = true) (hv : Keeps takenParts s v) :
    objectRequest x.id x.role x.netPort r.unit.toNat index r.sub.toNat (.exec a) (runCommand own past eff) v =
      (startRun (requestCtx x r index u) a (eff (requestCtx x r index u) a v).2 (eff (requestCtx x r index u) a v).1,
        { status := (eff (requestCtx x r index u) a v).2 }) := by
  obtain ⟨-, hwild, hpath, ⟨row, hcheck⟩, hpresent, hfree⟩ := startsRun_iff.1 h
  have hruns : v.kdp.runs = s.kdp.runs := hv.get (·.kdp.runs)
  have hcheck' : checkObject v x.role u (index * 256 + r.sub.toNat) (.exec a) = .ok row :=
    (checkObject_congr hv.variant (hv.get (·.phase)) (hv.get (·.cs)) ..).trans hcheck
  have hpresent' : unitAbsent v u = false := (hv.get (unitAbsent · u)).trans hpresent
  have hfree' : FreeToRun v x.id (objKey u (index * 256 + r.sub.toNat)) := by rwa [FreeToRun, hruns]
  rw [objectRequest_exec (hv.variant ▸ hpath) hwild hcheck' hpresent', runCommand_of_free hfree']

/-- A rule that decides alike before and after the request is taken acts on the state that takes it. -/
theorem kdpObject_of_startsRun (h : startsRun s r x index a u = true)
    (heff : ∀ v, Keeps takenParts s v → eff (requestCtx x r index u) a v = (f v, st)) :
    kdpObject r i index (.exec a) (runCommand own past eff) s =
      startRun (requestCtx x r index u) a st (f (taken s r x st)) := by
  have hturn := (startsRun_iff.1 h).1
  have hcount := countFrame_keeps_takenParts s x.netPort
  rw [kdpObject, kdpRequest_of_inTurn hturn, objectRequest_of_startsRun h hcount, heff _ hcount]
  rw [← taken, objectRequest_of_startsRun h (taken_keeps s r x st), heff _ (taken_keeps s r x st)]

/-- The command's next state as the rule leaves it, where the rule only adds to the messages sent. -/
theorem next_of_startsRun {c : Instr} (hc : exec c s = .next (kdpObject r i index (.exec a) (runCommand own past eff) s))
    (h : startsRun s r x index a u = true)
    (heff : ∀ v, Keeps takenParts s v → eff (requestCtx x r index u) a v = (f v, st))
    (hout : ∀ v, v.out <:+ (f v).out) :
    ∃ t, exec c s = .next t ∧ t.ag = (f (taken s r x st)).ag ∧ t.media = (f (taken s r x st)).media ∧ t.blobs = (f (taken s r x st)).blobs ∧
      Out.kdp x.id r.seq.toNat { status := st } ∈ t.out := by
  refine ⟨_, hc.trans (congrArg _ (kdpObject_of_startsRun h heff)), startRun_ag .., startRun_media .., startRun_blobs .., ?_⟩
  rw [startRun_out]
  exact (hout _).subset (answer_mem_taken s r x st)

end

end Sys2Proof.Machine

/-! # Requests of margin plans and proof passes (chapter 09) -/
namespace Sys2Proof.Machine

/-! ## The rules of PLAN_APPLY and PLAN_ROLLBACK (09 R217, R220) -/

theorem planBusy_eq_false {s : State} : planBusy s = false ↔ s.ag.applying = none := by simp [planBusy]

theorem planBusy_congr {s v : State} (hv : Keeps takenParts s v) : planBusy v = planBusy s := hv.get planBusy

/-- The checks of a plan read the variant and the plan in force alone. -/
theorem planFault_congr {s v : State} (hv : v.variant = s.variant) (ha : v.ag = s.ag) (bs : List Byte) : planFault v bs = planFault s bs := by
  simp only [planFault, hv, ha]

theorem stagedFault_congr {s v : State} (hv : Keeps takenParts s v) :
    planFault v (v.blob U.root Obj.PLAN_STAGE) = planFault s (s.blob U.root Obj.PLAN_STAGE) := by
  have hblob : v.blob U.root Obj.PLAN_STAGE = s.blob U.root Obj.PLAN_STAGE := hv.get (State.blob · U.root Obj.PLAN_STAGE)
  rw [planFault_congr hv.variant (hv.get (·.ag)), hblob]

@[simp] theorem record_ag (s : State) (c u x : Nat) (l : List Nat) : (record s c u x l).ag = s.ag := (record_keeps .refl .rfl').get (·.ag)

/-- A staged plan is refused for a fault: the check that failed is named, and the refusal is recorded. -/
def refusePlan (f : PlanFault) (s : State) : State :=
  record (s.setBlob U.root Obj.PLAN_CHECK_RESULT (faultBytes (some f))) Ev.PLAN_REFUSED U.root 0xFFFF
    [fieldAt (s.blob U.root Obj.PLAN_STAGE) 8 4, leNat (faultBytes (some f))]

/-- The staged plan is on its way to the base dies. -/
def sendPlan (s : State) : State :=
  let v := s.setBlob U.root Obj.PLAN_CHECK_RESULT (faultBytes none)
  { v with ag := { v.ag with applying := some (parsePlan (s.blob U.root Obj.PLAN_STAGE), false) } }

@[simp] theorem sendPlan_ag (s : State) :
    (sendPlan s).ag = { s.ag with applying := some (parsePlan (s.blob U.root Obj.PLAN_STAGE), false) } := rfl

@[simp] theorem refusePlan_ag (f : PlanFault) (s : State) : (refusePlan f s).ag = s.ag := by
  rw [refusePlan, record_ag, setBlob_ag]

theorem refusePlan_out_suffix (f : PlanFault) (s : State) : s.out <:+ (refusePlan f s).out :=
  Kept.out (record_keeps .refl (setBlob_keeps (Covers.refl.le rfl) .rfl'))

theorem planApply_of_busy {s : State} (h : planBusy s = true) : planApply s = (s, .busy) := by
  rw [planApply, if_pos h]
theorem planApply_of_fault {s : State} {f : PlanFault} (h : planBusy s = false) (hf : planFault s (s.blob U.root Obj.PLAN_STAGE) = some f) :
    planApply s = (refusePlan f s, .range) := by
  simp only [planApply, h, hf, refusePlan, Bool.false_eq_true, if_false]
theorem planApply_of_sound {s : State} (h : planBusy s = false) (hf : planFault s (s.blob U.root Obj.PLAN_STAGE) = none) :
    planApply s = (sendPlan s, .pending) := by
  simp only [planApply, h, hf, sendPlan, Bool.false_eq_true, if_false]

/-- The plan before this one is on its way back to the base dies. -/
def sendBack (q : Plan) (s : State) : State := { s with ag := { s.ag with applying := some (q, true) } }

theorem planRollback_of_none {s : State} (h : planBusy s = false) (hp : s.ag.previous = none) : planRollback s = (s, .state) := by
  simp only [planRollback, h, hp, Bool.false_eq_true, if_false]
theorem planRollback_of_some {s : State} {q : Plan} (h : planBusy s = false) (hp : s.ag.previous = some q) : planRollback s = (sendBack q s, .pending) := by
  simp only [planRollback, h, hp, sendBack, Bool.false_eq_true, if_false]

/-! ## The dies of a unit (09 R228) -/

theorem mem_flatten_map {α β : Type} {l : List α} {f : α → List β} {y : β} : y ∈ (l.map f).flatten ↔ ∃ a ∈ l, y ∈ f a := by
  rw [← List.flatMap_def, List.mem_flatMap]

/-- Lists without repetition put together, no two of which share an element. -/
theorem nodup_flatten_map {α β : Type} {l : List α} {f : α → List β} (hl : l.Nodup) (hf : ∀ a, (f a).Nodup)
    (hd : ∀ a b y, y ∈ f a → y ∈ f b → a = b) : (l.map f).flatten.Nodup := by
  refine List.pairwise_flatten.2 ⟨fun m hm => ?_, List.pairwise_map.2 (hl.imp fun hne y hy z hz e => ?_)⟩
  · obtain ⟨a, -, rfl⟩ := List.mem_map.1 hm
    exact hf a
  · subst e
    exact hne (hd _ _ y hy hz)

/-- The dies of a stack, by group, stack and die as indices from 0. -/
def stackDies (g st : Nat) : List (Nat × Nat × Nat) := (List.range 32).map fun d => (g, st, d)
/-- The dies of a group. -/
def groupDies (g : Nat) : List (Nat × Nat × Nat) := ((List.range 16).map (stackDies g)).flatten

theorem allDies_eq (v : Variant) : allDies v = ((List.range (groupCount v)).map groupDies).flatten := rfl

theorem mem_stackDies {g st : Nat} {x : Nat × Nat × Nat} : x ∈ stackDies g st ↔ x.1 = g ∧ x.2.1 = st ∧ x.2.2 < 32 := by
  rw [stackDies, List.mem_map]
  constructor
  · rintro ⟨d, hd, rfl⟩
    exact ⟨rfl, rfl, List.mem_range.1 hd⟩
  · rintro ⟨rfl, rfl, hd⟩
    exact ⟨x.2.2, List.mem_range.2 hd, rfl⟩

theorem mem_groupDies {g : Nat} {x : Nat × Nat × Nat} : x ∈ groupDies g ↔ x.1 = g ∧ x.2.1 < 16 ∧ x.2.2 < 32 := by
  rw [groupDies, mem_flatten_map]
  constructor
  · rintro ⟨st, hst, hx⟩
    obtain ⟨hg, rfl, hd⟩ := mem_stackDies.1 hx
    exact ⟨hg, List.mem_range.1 hst, hd⟩
  · rintro ⟨hg, hst, hd⟩
    exact ⟨x.2.1, List.mem_range.2 hst, mem_stackDies.2 ⟨hg, rfl, hd⟩⟩

theorem mem_allDies {v : Variant} {g st d : Nat} : (g, st, d) ∈ allDies v ↔ g < groupCount v ∧ st < 16 ∧ d < 32 := by
  rw [allDies_eq, mem_flatten_map]
  constructor
  · rintro ⟨i, hg, hx⟩
    obtain ⟨rfl, hst, hd⟩ := mem_groupDies.1 hx
    exact ⟨List.mem_range.1 hg, hst, hd⟩
  · rintro ⟨hg, hst, hd⟩
    exact ⟨g, List.mem_range.2 hg, mem_groupDies.2 ⟨rfl, hst, hd⟩⟩

theorem nodup_stackDies (g st : Nat) : (stackDies g st).Nodup :=
  List.pairwise_map.2 (List.nodup_range.imp fun hne e => hne (congrArg (·.2.2) e))

theorem nodup_groupDies (g : Nat) : (groupDies g).Nodup :=
  nodup_flatten_map List.nodup_range (nodup_stackDies g) fun _ _ _ ha hb => (mem_stackDies.1 ha).2.1.symm.trans (mem_stackDies.1 hb).2.1

theorem nodup_allDies (v : Variant) : (allDies v).Nodup :=
  nodup_flatten_map List.nodup_range nodup_groupDies fun _ _ _ ha hb => (mem_groupDies.1 ha).1.symm.trans (mem_groupDies.1 hb).1

/-- The path of a die, its group, stack and die counted from 0. -/
def diePath (x : Nat × Nat × Nat) : Nat := U.die (x.1 + 1) (x.2.1 + 1) (x.2.2 + 1)

theorem pathLevels_die {v : Variant} {g st d : Nat} (h : (g, st, d) ∈ allDies v) :
    pathLevels (U.die (g + 1) (st + 1) (d + 1)) = [4, g + 1, st + 1, d + 1, 0] := by
  obtain ⟨hg, hst, hd⟩ := mem_allDies.1 h
  have := groupCount_le v
  simp only [pathLevels, U.die, U.enc, List.cons.injEq, and_true]
  omega

/-- No die lies at or below another. -/
theorem unitUnder_diePath {v : Variant} {x y : Nat × Nat × Nat} (hx : x ∈ allDies v) (hy : y ∈ allDies v) :
    unitUnder (diePath x) (diePath y) = (x == y) := by
  obtain ⟨g, st, d⟩ := x
  obtain ⟨g', st', d'⟩ := y
  obtain ⟨hg, hst, hd⟩ := mem_allDies.1 hy
  have := groupCount_le v
  have hlevels : unitUnder (diePath (g, st, d)) (diePath (g', st', d')) = true ↔
      (g' + 1 = 63 ∨ g' = g) ∧ (st' + 1 = 63 ∨ st' = st) ∧ (d' + 1 = 63 ∨ d' = d) := by
    simp [unitUnder, diePath, pathLevels_die hx, pathLevels_die hy]
  rw [Bool.eq_iff_iff, hlevels, beq_iff_eq, Prod.mk.injEq, Prod.mk.injEq]
  omega

/-- Of all dies, the one at or below a die's path is that die. -/
theorem diesUnder_diePath {v : Variant} {x : Nat × Nat × Nat} (hx : x ∈ allDies v) :
    ((allDies v).map diePath).filter (fun d => unitUnder d (diePath x)) = [diePath x] := by
  have hself : (allDies v).filter (fun y => unitUnder (diePath y) (diePath x)) = [x] := calc
    _ = (allDies v).filter (· == x) := List.filter_congr fun y hy => unitUnder_diePath hy hx
    _ = List.replicate ((allDies v).count x) x := List.filter_beq x
    _ = [x] := by rw [(nodup_allDies v).count, if_pos hx, List.replicate_one]
  rw [List.filter_map, Function.comp_def, hself, List.map_singleton]

theorem unitState_die {v : Variant} {g st d : Nat} (h : (g, st, d) ∈ allDies v) (s : State) :
    unitState s (U.die (g + 1) (st + 1) (d + 1)) = dieState s g st d := by
  rw [unitState, pathLevels_die h]
  rfl

/-! ## The rule of PROOF_NOW on a die (09 R212, R228) -/

/-- A pass of one die is owed to a PROOF_NOW on it; none is skipped. -/
def oweProof (die : Nat) (s : State) : State :=
  let v := s.bumpN U.root Obj.MEAS_SKIPPED 0
  { v with ag := { v.ag with proofNow := AMap.set v.ag.proofNow die [die] } }

@[simp] theorem oweProof_proofNow (die : Nat) (s : State) : (oweProof die s).ag.proofNow = AMap.set s.ag.proofNow die [die] := rfl
@[simp] theorem oweProof_media (die : Nat) (s : State) : (oweProof die s).media = s.media := rfl

theorem proofNow_of_die {s : State} {c : KCtx} {x : Nat × Nat × Nat} (hx : x ∈ allDies s.variant) (hc : c.unit = diePath x)
    (hm : measSkips s (diePath x) = false) : proofNow c s = (oweProof (diePath x) s, .pending) := by
  have hd : ((allDies s.variant).map fun y => U.die (y.1 + 1) (y.2.1 + 1) (y.2.2 + 1)).filter (fun d => unitUnder d (diePath x)) = [diePath x] :=
    diesUnder_diePath hx
  simp [proofNow, hc, hd, hm, oweProof]

/-- Taking a request leaves a die as it was. -/
theorem measSkips_die_congr {s v : State} {x : Nat × Nat × Nat} (hx : x ∈ allDies s.variant) (hv : Keeps takenParts s v) :
    measSkips v (diePath x) = measSkips s (diePath x) := by
  have hd : dieState v x.1 x.2.1 x.2.2 = dieState s x.1 x.2.1 x.2.2 := hv.get (dieState · x.1 x.2.1 x.2.2)
  simp only [measSkips, diePath, unitState_die hx, hd]

/-- Settles O59: each request is answered by its command's own rule, which decides alike before and after the request is taken. -/
theorem ageingRequests : Obligations.AgeingRequests := by
  unfold Obligations.AgeingRequests
  refine ⟨?proof, ?apply, ?applyBusy, ?rollback, ?noPrevious⟩
  case proof =>
    intro req x arg g k d s h hp hm
    have hx : (g.val, k.val, d.val) ∈ allDies s.variant := by
      rw [hp, mem_allDies]
      exact ⟨g.isLt, k.isLt, d.isLt⟩
    obtain ⟨t, ht, hag, hmedia, -, hout⟩ := next_of_startsRun (c := .proofNow req arg) rfl h
      (fun v hv => proofNow_of_die (x := (g.val, k.val, d.val)) (hv.variant ▸ hx) rfl ((measSkips_die_congr hx hv).trans hm)) fun _ => List.suffix_refl _
    refine ⟨t, ht, ?_, ?_, hout⟩
    · simp only [hag, oweProof_proofNow, diePath, AMap.get?_set_self]
    · rw [hmedia, oweProof_media, taken_media]
  case apply =>
    intro req x arg s h hb
    cases hf : planFault s (s.blob U.root Obj.PLAN_STAGE) with
    | none =>
      obtain ⟨t, ht, hag, -, -, hout⟩ := next_of_startsRun (c := .planApply req arg) rfl h
        (fun v hv => planApply_of_sound ((planBusy_congr hv).trans hb) ((stagedFault_congr hv).trans hf)) fun _ => List.suffix_refl _
      rw [sendPlan_ag, taken_ag, taken_blob] at hag
      refine ⟨t, ht, by rw [hag], ?_⟩
      rw [if_pos Option.isNone_none, hag]
      exact ⟨rfl, hout⟩
    | some f =>
      obtain ⟨t, ht, hag, -, -, hout⟩ := next_of_startsRun (c := .planApply req arg) rfl h
        (fun v hv => planApply_of_fault ((planBusy_congr hv).trans hb) ((stagedFault_congr hv).trans hf)) (refusePlan_out_suffix f)
      rw [refusePlan_ag, taken_ag] at hag
      refine ⟨t, ht, by rw [hag], ?_⟩
      rw [if_neg (by simp), hag]
      exact ⟨planBusy_eq_false.1 hb, hout⟩
  case applyBusy =>
    intro req x arg s h hb
    obtain ⟨t, ht, hag, -, hblobs, hout⟩ := next_of_startsRun (c := .planApply req arg) (f := id) rfl h
      (fun v hv => planApply_of_busy ((planBusy_congr hv).trans hb)) fun _ => List.suffix_refl _
    exact ⟨t, ht, hag.trans (taken_ag ..), hblobs.trans (taken_blobs ..), hout⟩
  case rollback =>
    intro req x arg q s h hb hq
    obtain ⟨t, ht, hag, -, -, hout⟩ := next_of_startsRun (c := .planRollback req arg) rfl h
      (fun v hv => planRollback_of_some ((planBusy_congr hv).trans hb) ((hv.get (·.ag.previous)).trans hq)) fun _ => List.suffix_refl _
    refine ⟨t, ht, ?_, hout⟩
    rw [hag, sendBack, taken_ag]
  case noPrevious =>
    intro req x arg s h hb hq
    obtain ⟨t, ht, hag, -, -, hout⟩ := next_of_startsRun (c := .planRollback req arg) (f := id) rfl h
      (fun v hv => planRollback_of_none ((planBusy_congr hv).trans hb) ((hv.get (·.ag.previous)).trans hq)) fun _ => List.suffix_refl _
    exact ⟨t, ht, hag.trans (taken_ag ..), hout⟩

end Sys2Proof.Machine

/-! # A sample of an input phase that is lost (09 R212, 11 R252) -/
namespace Sys2Proof.Machine

/-- A sample of a power stage that is off counts in MEAS_SKIPPED and changes nothing else. -/
theorem execEfficiencySample_of_skips {r : Fin 18} {s : State} (hr : s.hm.running = true) (hs : stageSkips s r = true) (o i : BitVec 32) :
    execEfficiencySample r o i s = .next (s.bumpR Obj.MEAS_SKIPPED) := by
  simp only [execEfficiencySample, hr, hs, not_true_eq_false, if_false, if_true]

/-- READY with every rail up, after the loss of input phase 1. -/
def phaseOneLost : State :=
  let s : State := { phase := .running }
  { s with
    hm := { s.hm with running := true }
    pw := { s.pw with railsUp := (List.range 18).map (· + 1), lostPhases := [1] } }

example : phaseOneLost.canonical = true := by decide

theorem phaseOneLost_stageUnit : measSkips phaseOneLost (stageUnit (15 : Fin 18).val) = false := by rfl

/-- Refutes O34: a lost input phase is turned off (11 R252), so its measurement is skipped (09 R212), while the unit /3 that stands for its stage goes on. The
clause of EFFICIENCY_SAMPLE asks for the state of that unit alone and has the sample added to the sums of the hour. -/
theorem not_ageingCommands : ¬ Obligations.AgeingCommands := by
  unfold Obligations.AgeingCommands
  rintro ⟨-, -, -, -, -, -, sampled, -⟩
  obtain ⟨t, ht, hsum⟩ := sampled 15 1 1 phaseOneLost rfl phaseOneLost_stageUnit (by decide)
  have he : exec (.efficiencySample 15 1 1) phaseOneLost = .next (phaseOneLost.bumpR Obj.MEAS_SKIPPED) :=
    execEfficiencySample_of_skips rfl (by decide) 1 1
  obtain rfl := Host.Outcome.next.inj (he.symm.trans ht)
  exact absurd (congrArg (·.1) hsum) (by decide)

end Sys2Proof.Machine

/-! # The input and the hold-up converter (11 R253, R259, R265, R269)

Each of these commands writes one register or one field, under its own condition alone. -/
namespace Sys2Proof.Machine

theorem railOn_iff {s : State} {n : Nat} : railOn s n = true ↔ n ∈ s.pw.railsUp := List.contains_iff_mem

theorem execVinDip_of_running {s : State} (h : s.hm.running = true) :
    execVinDip s = .next (s.setObj U.power Obj.VIN_DIPS ((s.obj U.power Obj.VIN_DIPS + 1) % 2^64)) := by
  rw [execVinDip, if_pos h]
  rfl

theorem execVbusBelow11v_of_up {s : State} (h : 17 ∈ s.pw.railsUp) :
    execVbusBelow11v s = .next { s with pw := { s.pw with discharging := true } } := by
  rw [execVbusBelow11v, if_pos (railOn_iff.2 h)]

theorem execHoldupChargeResume_of_good {s : State} (hv : s.pw.vinGood = true) (hf : s.pw.flush = none) :
    execHoldupChargeResume s = .next { s with pw := { s.pw with discharging := false } } := by
  rw [execHoldupChargeResume, if_pos ⟨hv, Option.isNone_iff_eq_none.2 hf⟩]

theorem execVinReturn_of_range {s : State} {vin : BitVec 32} (hl : 6000 ≤ vin.toNat) (hh : vin.toNat ≤ 60000) :
    execVinReturn vin s = .next { s.setObj U.power Obj.VIN_NOW vin.toNat with pw := { s.pw with vinGood := true } } := by
  rw [execVinReturn, if_pos ⟨hl, hh⟩]

theorem execFaultEpisodeEnd_of_on {s : State} {x : RetryTarget} (hw : retryKey x ∉ s.pw.retryWait) (hu : retryRail x ∈ s.pw.railsUp) :
    execFaultEpisodeEnd x s = .next { s with pw := { s.pw with attempts := AMap.del s.pw.attempts (retryKey x) } } := by
  have hc : ¬ (s.pw.retryWait.contains (retryKey x) = true ∨ ¬ railOn s (retryRail x) = true) := by
    rw [List.contains_iff_mem, railOn_iff]
    exact fun h => h.elim hw (· hu)
  rw [execFaultEpisodeEnd, if_neg hc]

theorem execHoldupIntervalExpiry_of_service {s : State} (h : s.phase = .running ∨ s.phase = .halted) :
    execHoldupIntervalExpiry s = .next { s with pw := { s.pw with measDue := s.pw.measDue || !s.pw.measuring } } := by
  rw [execHoldupIntervalExpiry, if_pos h]

/-- Settles O37: under its condition each command is one update. -/
theorem powerEventsOfOneRegister : Obligations.PowerEventsOfOneRegister := by
  unfold Obligations.PowerEventsOfOneRegister
  refine ⟨?dip, ?discharge, ?resume, ?return_, ?release, ?episode, ?interval⟩
  case dip => exact fun s h => execVinDip_of_running h
  case discharge => exact fun s h => execVbusBelow11v_of_up h
  case resume => exact fun s hv hf => execHoldupChargeResume_of_good hv hf
  case return_ => exact fun vin s hl hh => execVinReturn_of_range hl hh
  case release => exact fun s => rfl
  case episode => exact fun x s hw hu => execFaultEpisodeEnd_of_on hw hu
  case interval => exact fun s h => execHoldupIntervalExpiry_of_service h

end Sys2Proof.Machine

/-! # Faults of rails and load switches (11 R255, R258 to R261, R266)

What a change of a rail or a bank leads to elsewhere, on the media and in the wharf, leaves the phase and the power state as the reaction has put them. -/
namespace Sys2Proof.Machine

/-! ## What follows on the power state -/

/-- Every part but the phase and the power state, of which it holds only what the media and the wharf note there: that the dirty cap is low, that a replay
has ended, when it had drained, and that the flush area is pending. -/
abbrev besidePower : Nat := 0x3ffffffffffffffffffffffffffff07100000007ffffffffffffffffffffffffffffffb

/-- The units of a rail follow its state; for a rail of a bank so do those of the bank, with the hold of the flush area. -/
def railChanged (s0 s : State) (n : Nat) : State :=
  match railBank n with
  | some b => bankChanged s0 s b
  | none => track [U.rail n, U.power, U.root] s0 s

/-- The phase and what rails, banks and retries read of the power state are as before. -/
structure PowerStays (r s : State) : Prop where
  phase : s.phase = r.phase
  railsUp : s.pw.railsUp = r.pw.railsUp
  attempts : s.pw.attempts = r.pw.attempts
  retryWait : s.pw.retryWait = r.pw.retryWait
  switchOff : s.pw.switchOff = r.pw.switchOff
  bankMin : s.pw.bankMin = r.pw.bankMin
  bankLink : s.pw.bankLink = r.pw.bankLink
  charged : s.pw.charged = r.pw.charged
  bankDead : s.pw.bankDead = r.pw.bankDead
  flush : s.pw.flush = r.pw.flush

theorem Keeps.powerStays {r s : State} (h : Keeps besidePower r s) : PowerStays r s :=
  ⟨h.get (·.phase), h.get (·.pw.railsUp), h.get (·.pw.attempts), h.get (·.pw.retryWait), h.get (·.pw.switchOff), h.get (·.pw.bankMin),
    h.get (·.pw.bankLink), h.get (·.pw.charged), h.get (·.pw.bankDead), h.get (·.pw.flush)⟩

theorem bankChanged_power (s0 s : State) (b : Nat) : PowerStays s (bankChanged s0 s b) :=
  Keeps.powerStays ((settleFlushArea_keeps (Covers.refl.le rfl) .rfl').trans ((track_keeps_tracked ..).mono (Covers.refl.le rfl)))

theorem railChanged_power (s0 s : State) (n : Nat) : PowerStays s (railChanged s0 s n) := by
  rw [railChanged]
  split
  · exact bankChanged_power ..
  · exact Keeps.powerStays ((track_keeps_tracked ..).mono (Covers.refl.le rfl))

theorem stacksAway_power (s : State) (l : List (Nat × Nat)) : PowerStays s (stacksAway s l) :=
  Keeps.powerStays (stacksAway_keeps (Covers.refl.le rfl) .rfl')

theorem stacksBack_power (s : State) (l : List (Nat × Nat)) : PowerStays s (stacksBack s l) :=
  Keeps.powerStays (stacksBack_keeps (Covers.refl.le rfl) .rfl')

theorem resumeRebuilds_power (s : State) : PowerStays s (resumeRebuilds s) := Keeps.powerStays (resumeRebuilds_keeps (Covers.refl.le rfl) .rfl')

theorem settle_recomputeCap_power (s : State) : PowerStays s (settle (recomputeCap s)) :=
  Keeps.powerStays (settle_keeps (Covers.refl.le rfl) (recomputeCap_keeps (Covers.refl.le rfl) .rfl'))

theorem recordHm_phase (s : State) (c u x : Nat) (l : List Nat) : (recordHm s c u x l).phase = s.phase := (recordHm_keeps .refl .rfl').get (·.phase)
theorem recordHm_pw (s : State) (c u x : Nat) (l : List Nat) : (recordHm s c u x l).pw = s.pw := (recordHm_keeps .refl .rfl').get (·.pw)

theorem noteFault_pstate (s : State) (n a : Nat) : (noteFault s n a).robj Obj.PSTATE_NOW = s.robj Obj.PSTATE_NOW :=
  (recordHm_obj _ (by decide) (by decide)).trans (obj_setObj_ne _ _ (by decide) (by decide) (.inr (by decide)))

/-! ## Power-good deassertions (11 R258) -/

/-- The raw deassertions of a rail within the last millisecond. -/
def rawRecent (s : State) (n : Nat) : List Nat := (AMap.getD s.pw.rawPg n []).filter fun x => decide (s.now < x + 400000)

/-- A further raw deassertion is counted. -/
def noteGlitch (s : State) (n : Nat) : State :=
  { s.bump (U.rail n) Obj.PG_GLITCHES with pw := { s.pw with rawPg := AMap.set s.pw.rawPg n (s.now :: rawRecent s n) } }

theorem noteGlitch_glitches (s : State) (n : Nat) : (noteGlitch s n).obj (U.rail n) Obj.PG_GLITCHES = (s.obj (U.rail n) Obj.PG_GLITCHES + 1) % 2^64 :=
  obj_setObj_self s (U.rail n) Obj.PG_GLITCHES _

section
variable {r : Fin 18} {s : State} (hp : s.phase ≠ .sequencing) (hu : r.val + 1 ∈ s.pw.railsUp)
include hp hu

/-- Outside a start a debounced deassertion on a rail that is up is its fault, and takes the raw ones out of the count. -/
theorem execPowerGoodDeassert_debounced :
    execPowerGoodDeassert r true s = .next (railFault { s with pw := { s.pw with rawPg := AMap.del s.pw.rawPg (r.val + 1) } } (.rail r)) := by
  simp [execPowerGoodDeassert, hp, hu, railOn_iff]

/-- A raw one that is not the third within 1 ms counts as a glitch. -/
theorem execPowerGoodDeassert_raw (hl : (rawRecent s (r.val + 1)).length < 2) : execPowerGoodDeassert r false s = .next (noteGlitch s (r.val + 1)) := by
  have hl' := Nat.not_le.2 hl
  rw [rawRecent] at hl'
  simp [execPowerGoodDeassert, hp, hu, railOn_iff, hl', noteGlitch, rawRecent]

end

/-! ## A power failure in service (11 R267, R268) -/

theorem drivePins_phase (s : State) : (drivePins s).phase = s.phase := (drivePins_keeps .refl .rfl').get (·.phase)
theorem drivePins_pw (s : State) : (drivePins s).pw = s.pw := (drivePins_keeps .refl .rfl').get (·.pw)

theorem beginFlush_phase (s : State) (f : Flush) : (beginFlush s f).phase = .flushing := by
  delta beginFlush
  extract_lets
  rw [drivePins_phase]

theorem beginFlush_flush (s : State) (f : Flush) : (beginFlush s f).pw.flush = some f := by
  delta beginFlush
  extract_lets
  rw [drivePins_pw]

theorem trackAll_phase (s0 s : State) : (trackAll s0 s).phase = s.phase := track_phase ..
theorem trackAll_flush (s0 s : State) : (trackAll s0 s).pw.flush = s.pw.flush := (track_keeps_tracked ..).get (·.pw.flush)

/-- In service in P0 to P3 a power failure begins a flush, which carries its cause. -/
theorem powerFailure_of_service {s : State} (hp : s.phase = .running) (hs : s.robj Obj.PSTATE_NOW ≠ 4) (cause vin vhold : Nat) :
    (powerFailure s cause vin vhold).phase = .flushing ∧ (powerFailure s cause vin vhold).pw.flush.map (·.cause) = some cause := by
  delta powerFailure
  extract_lets +onlyGivenNames thermal pw noted again recorded closed opened
  have hk : recorded.phase = .running ∧ recorded.robj Obj.PSTATE_NOW ≠ 4 := by
    unfold recorded
    split
    · exact ⟨hp, hs⟩
    · exact ⟨(recordHm_phase ..).trans hp, fun h => hs ((recordHm_obj noted (by decide) (by decide)).symm.trans h)⟩
  obtain ⟨hp', hs'⟩ := hk
  simp only [hp', if_neg hs']
  rw [trackAll_phase, trackAll_flush, beginFlush_phase, beginFlush_flush]
  exact ⟨rfl, rfl⟩

/-! ## Faults and their reactions (11 R259, Table PW-4) -/

/-- The attempts so far at a rail or a load switch. -/
abbrev attemptsOf (s : State) (x : RetryTarget) : Nat := AMap.getD s.pw.attempts (retryKey x) 0

/-- A fault of a rail outside a flush is noted and has its reaction. -/
theorem railFault_of_rail {s : State} {r : Fin 18} (hp : s.phase ≠ .flushing) (hf : s.pw.flush = none) :
    railFault s (.rail r) = railChanged s
      (react (noteFault s (r.val + 1) (attemptsOf s (.rail r))) (.rail r) (s.obj (U.rail (r.val + 1)) Obj.RAIL_REACTION) (attemptsOf s (.rail r)))
      (r.val + 1) := by
  delta railFault
  refine (if_neg ?_).trans rfl
  rw [noteFault_phase, noteFault_pw, hf]
  exact fun h => h.elim hp nofun

theorem react_moduleReset_of_started {s : State} (hp : s.phase ≠ .sequencing) (x : RetryTarget) (a : Nat) :
    react s x 3 a = powerFailure s 4 (s.obj U.power Obj.VIN_NOW) (s.obj U.power Obj.V_HOLD_NOW) := if_neg hp

/-- MODULE_RESET in service is a power failure of cause 4. -/
theorem railFault_of_moduleReset {s : State} {r : Fin 18} (hp : s.phase = .running) (hs : s.robj Obj.PSTATE_NOW ≠ 4) (hf : s.pw.flush = none)
    (hr : s.obj (U.rail (r.val + 1)) Obj.RAIL_REACTION = 3) :
    (railFault s (.rail r)).phase = .flushing ∧ (railFault s (.rail r)).pw.flush.map (·.cause) = some 4 := by
  have hp' := (noteFault_phase s (r.val + 1) (attemptsOf s (.rail r))).trans hp
  have hs' : (noteFault s (r.val + 1) (attemptsOf s (.rail r))).robj Obj.PSTATE_NOW ≠ 4 := fun h => hs ((noteFault_pstate ..).symm.trans h)
  rw [railFault_of_rail (by rw [hp]; decide) hf, hr, react_moduleReset_of_started (by rw [hp']; decide)]
  rw [(railChanged_power ..).phase, (railChanged_power ..).flush]
  exact powerFailure_of_service hp' hs' ..

/-- The trip of a load switch is noted and opens the switch; outside a flush it has its reaction too. -/
theorem railFault_of_switch (s : State) (g : Fin 2) (st : Fin 16) : ∃ v a, v.phase = s.phase ∧
    (railFault s (.switch g st) = switchOpen v (retryKey (.switch g st)) ∨
      railFault s (.switch g st) = railChanged s (react (switchOpen v (retryKey (.switch g st))) (.switch g st)
        (s.obj (U.rail (retryRail (.switch g st))) Obj.RAIL_REACTION) a) (retryRail (.switch g st))) := by
  refine ⟨noteFault s (retryRail (.switch g st)) (attemptsOf s (.switch g st)), attemptsOf s (.switch g st), noteFault_phase .., ?_⟩
  delta railFault
  extract_lets +onlyGivenNames n attempt reaction noted opened
  by_cases h : opened.phase = .flushing ∨ opened.pw.flush.isSome = true
  · exact .inl (if_pos h)
  · exact .inr ((if_neg h).trans rfl)

theorem execLoadSwitchTrip_of_on {s : State} {g : Fin 2} {st : Fin 16} (hg : g.val < groupCount s.variant)
    (hu : retryRail (.switch g st) ∈ s.pw.railsUp) (hn : retryKey (.switch g st) ∉ s.pw.switchOff) :
    execLoadSwitchTrip g st s = .next (railFault s (.switch g st)) := by
  have hc : ¬ (groupCount s.variant ≤ g.val ∨ ¬ railOn s (retryRail (.switch g st)) = true ∨ s.pw.switchOff.contains (retryKey (.switch g st)) = true) := by
    rw [List.contains_iff_mem, railOn_iff]
    exact fun h => h.elim (Nat.not_le.2 hg) fun h => h.elim (· hu) hn
  exact congrArg _ (if_neg hc)

theorem switchOpen_phase (s : State) (u : Nat) : (switchOpen s u).phase = s.phase := (switchOpen_keeps .refl .rfl').get (·.phase)

theorem mem_switchOpen_switchOff (s : State) (u : Nat) : u ∈ (switchOpen s u).pw.switchOff := by
  rw [switchOpen, (stacksAway_power ..).switchOff]
  show u ∈ if s.pw.switchOff.contains u = true then s.pw.switchOff else u :: s.pw.switchOff
  split
  · next h => exact List.contains_iff_mem.1 h
  · exact List.mem_cons_self

theorem react_retry (s : State) (x : RetryTarget) (a : Nat) : react s x 1 a = if 3 ≤ a then retryExhausted s x else retryOff s x := rfl

/-- A reaction below MODULE_RESET to the trip of a load switch changes the retries that are due, no more. -/
theorem react_switch {reaction : Nat} (h : reaction ≤ 2) (s : State) (g : Fin 2) (st : Fin 16) (a : Nat) :
    (react s (.switch g st) reaction a).pw.switchOff = s.pw.switchOff ∧ (react s (.switch g st) reaction a).phase = s.phase := by
  have hr : reaction = 0 ∨ reaction = 1 ∨ reaction = 2 := by omega
  rcases hr with rfl | rfl | rfl
  · exact ⟨rfl, rfl⟩
  · rw [react_retry]
    split
    · exact ⟨rfl, rfl⟩
    · exact ⟨rfl, rfl⟩
  · exact ⟨rfl, rfl⟩

/-- The stack of a load switch that trips is switched off. -/
theorem railFault_switch {s : State} {g : Fin 2} {st : Fin 16} (hr : s.obj (U.rail (retryRail (.switch g st))) Obj.RAIL_REACTION ≤ 2) :
    retryKey (.switch g st) ∈ (railFault s (.switch g st)).pw.switchOff ∧ (railFault s (.switch g st)).phase = s.phase := by
  obtain ⟨v, a, hv, e⟩ := railFault_of_switch s g st
  have hopen := mem_switchOpen_switchOff v (retryKey (.switch g st))
  have hphase := (switchOpen_phase v (retryKey (.switch g st))).trans hv
  rcases e with e | e
  · rw [e]
    exact ⟨hopen, hphase⟩
  · obtain ⟨hoff, hsame⟩ := react_switch hr (switchOpen v (retryKey (.switch g st))) g st a
    rw [e, (railChanged_power ..).switchOff, (railChanged_power ..).phase, hoff, hsame]
    exact ⟨hopen, hphase⟩

/-! ## Retries (11 R259) -/

/-- An attempt at a rail or a load switch, counted and logged. -/
def attempted (s : State) (x : RetryTarget) (ok : Bool) : State :=
  recordHm (noteAttempt (s.bump (U.rail (retryRail x)) Obj.RAIL_RETRIES) (retryKey x) (attemptsOf s x + 1)) Ev.RAIL_RETRY (U.rail (retryRail x)) 0xFFFF
    [retryRail x, attemptsOf s x + 1, Config.unstated 11 [b2n ok]]

theorem attempted_phase (s : State) (x : RetryTarget) (ok : Bool) : (attempted s x ok).phase = s.phase := recordHm_phase ..

theorem attempted_pw (s : State) (x : RetryTarget) (ok : Bool) :
    (attempted s x ok).pw = { s.pw with attempts := AMap.set s.pw.attempts (retryKey x) (attemptsOf s x + 1) } := recordHm_pw ..

/-- How an attempt that has been counted ends. -/
def retryEnd (v : State) (x : RetryTarget) (ok : Bool) (k : Nat) : State :=
  if ok then retryUp v x else if 3 ≤ k then retryExhausted (noteFault v (retryRail x) k) x else noteFault v (retryRail x) k

theorem retryEnd_ok (v : State) (x : RetryTarget) (k : Nat) : retryEnd v x true k = retryUp v x := rfl
theorem retryEnd_failed {k : Nat} (h : k < 3) (v : State) (x : RetryTarget) : retryEnd v x false k = noteFault v (retryRail x) k := if_neg (Nat.not_le.2 h)
theorem retryEnd_exhausted {k : Nat} (h : 3 ≤ k) (v : State) (x : RetryTarget) :
    retryEnd v x false k = retryExhausted (noteFault v (retryRail x) k) x := if_pos h

/-- A retry that is due is one more attempt, and ends by its result. -/
theorem execRailRetry_of_wait {s : State} {x : RetryTarget} (hw : retryKey x ∈ s.pw.retryWait) (hf : s.pw.flush = none) (ok : Bool) :
    execRailRetry x ok s = .next (railChanged s (retryEnd (attempted s x ok) x ok (attemptsOf s x + 1)) (retryRail x)) := by
  have hc : ¬ (¬ s.pw.retryWait.contains (retryKey x) = true ∨ s.pw.flush.isSome = true) := by
    rw [List.contains_iff_mem, hf]
    exact fun h => h.elim (· hw) nofun
  rw [execRailRetry, if_neg hc]
  rfl

theorem retryUp_phase (s : State) (x : RetryTarget) : (retryUp s x).phase = s.phase := (retryUp_keeps .refl .rfl').get (·.phase)
theorem retryUp_attempts (s : State) (x : RetryTarget) : (retryUp s x).pw.attempts = s.pw.attempts := (retryUp_keeps .refl .rfl').get (·.pw.attempts)

theorem not_mem_filter_bne (n : Nat) (l : List Nat) : n ∉ l.filter (· != n) := fun h => bne_iff_ne.1 (List.mem_filter.1 h).2 rfl

/-- A success ends the wait. -/
theorem not_mem_retryUp_retryWait (s : State) (x : RetryTarget) : retryKey x ∉ (retryUp s x).pw.retryWait := by
  have hk := not_mem_filter_bne (retryKey x) s.pw.retryWait
  delta retryUp
  split
  · rw [(stacksBack_power ..).retryWait]
    exact hk
  · exact fun h => hk (List.mem_filter.1 h).1
  · exact hk

/-- The last failure of V_HOLD: it stays off, and the hold-up bank is unusable and not charged. -/
theorem retryExhausted_holdup (s : State) :
    let t := retryExhausted s (.rail 16)
    t.pw.bankDead = true ∧ t.pw.charged = false ∧ 17 ∉ t.pw.railsUp ∧ 17 ∉ t.pw.retryWait := by
  intro t
  have h : PowerStays _ t := settle_recomputeCap_power _
  refine ⟨h.bankDead, h.charged, ?_, ?_⟩
  · rw [h.railsUp]
    exact not_mem_filter_bne 17 s.pw.railsUp
  · rw [h.retryWait]
    exact not_mem_filter_bne 17 s.pw.retryWait

theorem attemptsOf_congr {s t : State} (h : t.pw.attempts = s.pw.attempts) (x : RetryTarget) : attemptsOf t x = attemptsOf s x :=
  congrArg (AMap.getD · (retryKey x) 0) h

theorem attemptsOf_attempted (s : State) (x : RetryTarget) (ok : Bool) : attemptsOf (attempted s x ok) x = attemptsOf s x + 1 := by
  simp [attempted_pw, AMap.getD]

/-- A success is one more attempt and ends the wait. -/
theorem railRetry_ok {s : State} {x : RetryTarget} (hw : retryKey x ∈ s.pw.retryWait) (hf : s.pw.flush = none) :
    ∃ t, execRailRetry x true s = .next t ∧ retryKey x ∉ t.pw.retryWait ∧ attemptsOf t x = attemptsOf s x + 1 ∧ t.phase = s.phase := by
  have h := railChanged_power s (retryUp (attempted s x true) x) (retryRail x)
  refine ⟨_, (execRailRetry_of_wait hw hf true).trans (by rw [retryEnd_ok]), ?_, ?_, ?_⟩
  · rw [h.retryWait]
    exact not_mem_retryUp_retryWait _ _
  · exact (attemptsOf_congr (h.attempts.trans (retryUp_attempts ..)) x).trans (attemptsOf_attempted ..)
  · exact h.phase.trans ((retryUp_phase ..).trans (attempted_phase ..))

/-- A failure before the third is one more attempt, and the target waits on. -/
theorem railRetry_failed {s : State} {x : RetryTarget} (hw : retryKey x ∈ s.pw.retryWait) (hf : s.pw.flush = none) (hk : attemptsOf s x < 2) :
    ∃ t, execRailRetry x false s = .next t ∧ t.pw.retryWait = s.pw.retryWait ∧ t.pw.railsUp = s.pw.railsUp ∧
      attemptsOf t x = attemptsOf s x + 1 := by
  have h := railChanged_power s (noteFault (attempted s x false) (retryRail x) (attemptsOf s x + 1)) (retryRail x)
  have hpw := noteFault_pw (attempted s x false) (retryRail x) (attemptsOf s x + 1)
  refine ⟨_, (execRailRetry_of_wait hw hf false).trans (by rw [retryEnd_failed (by omega)]), ?_, ?_, ?_⟩
  · rw [h.retryWait, hpw, attempted_pw]
  · rw [h.railsUp, hpw, attempted_pw]
  · exact (attemptsOf_congr (h.attempts.trans (congrArg PowerUnit.attempts hpw)) x).trans (attemptsOf_attempted ..)

/-- The third failure of V_HOLD ends its episode. -/
theorem railRetry_holdup_exhausted {s : State} (hw : 17 ∈ s.pw.retryWait) (hf : s.pw.flush = none) (hk : 2 ≤ AMap.getD s.pw.attempts 17 0) :
    ∃ t, execRailRetry (.rail 16) false s = .next t ∧ t.pw.bankDead = true ∧ t.pw.charged = false ∧ 17 ∉ t.pw.railsUp ∧ 17 ∉ t.pw.retryWait := by
  have hk' : 3 ≤ attemptsOf s (.rail 16) + 1 := Nat.succ_le_succ hk
  refine ⟨_, (execRailRetry_of_wait (x := .rail 16) hw hf false).trans (by rw [retryEnd_exhausted hk']), ?_⟩
  rw [(railChanged_power ..).bankDead, (railChanged_power ..).charged, (railChanged_power ..).railsUp, (railChanged_power ..).retryWait]
  exact retryExhausted_holdup _

/-! ## Banks of media rails (11 R260, R261) -/

/-- A bank begins its minimum off time. -/
def bankResting (s : State) (b : Nat) : State := { s with pw := { s.pw with bankMin := b :: s.pw.bankMin } }

/-- A bank whose links have trained is waited for no longer. -/
def bankLinked (s : State) (b : Nat) : State := { s with pw := { s.pw with bankLink := s.pw.bankLink.filter (· != b) } }

section
variable {s : State} {b : Fin 4}

theorem execBankShutdownDone_of_stopping (h : bankState s b = 2) (hm : b.val ∉ s.pw.bankMin) :
    execBankShutdownDone b s = .next (bankChanged s (setBankState (bankResting s b) b 3) b) := by
  simp [execBankShutdownDone, h, hm, bankResting]

theorem execBankShutdownDone_of_pending (h : bankState s b = 4) (hm : b.val ∉ s.pw.bankMin) : execBankShutdownDone b s = .next (bankResting s b) := by
  simp [execBankShutdownDone, h, hm, bankResting]

theorem execBankLinksTrained_of_on (hl : b.val ∈ s.pw.bankLink) (h : bankState s b = 0) :
    execBankLinksTrained b s = .next (bankChanged s (resumeRebuilds (stacksBack (bankLinked s b) (bankStacks b))) b) := by
  rw [execBankLinksTrained, if_pos ⟨List.contains_iff_mem.2 hl, h⟩]
  rfl

end

/-- Settles O39: by the course of each command, of which what follows on the media and in the wharf leaves the power state alone. -/
theorem railFaultReactions : Obligations.RailFaultReactions := by
  unfold Obligations.RailFaultReactions
  refine ⟨?raw, ?debounced, ?retryOk, ?retryFailed, ?holdupLost, ?switchTrip, ?shutdown, ?shutdownPending, ?linksTrained⟩
  case raw =>
    intro r s hp hu hl
    exact ⟨_, execPowerGoodDeassert_raw hp hu hl, noteGlitch_glitches .., AMap.get?_set_self .., rfl⟩
  case debounced =>
    intro r s hp hs hf hu hr
    exact ⟨_, execPowerGoodDeassert_debounced (by rw [hp]; decide) hu, railFault_of_moduleReset hp hs hf hr⟩
  case retryOk => exact fun x s hw hf => railRetry_ok hw hf
  case retryFailed => exact fun x s hw hf hk => railRetry_failed hw hf hk
  case holdupLost => exact fun s hw hf hk => railRetry_holdup_exhausted hw hf hk
  case switchTrip =>
    intro g st s hg hu hn hr
    exact ⟨_, execLoadSwitchTrip_of_on hg hu hn, railFault_switch hr⟩
  case shutdown =>
    intro b s h hm
    have k := bankChanged_power s (setBankState (bankResting s b) b 3) b
    refine ⟨_, execBankShutdownDone_of_stopping h hm, ?_, k.railsUp, k.phase⟩
    rw [k.bankMin]
    exact List.mem_cons_self
  case shutdownPending => exact fun b s h hm => execBankShutdownDone_of_pending h hm
  case linksTrained =>
    intro b s hl h
    have hback := stacksBack_power (bankLinked s b) (bankStacks b)
    have hresume := resumeRebuilds_power (stacksBack (bankLinked s b) (bankStacks b))
    have hchange := bankChanged_power s (resumeRebuilds (stacksBack (bankLinked s b) (bankStacks b))) b
    refine ⟨_, execBankLinksTrained_of_on hl h, ?_, ?_⟩
    · rw [hchange.bankLink, hresume.bankLink, hback.bankLink]
      rfl
    · rw [hchange.phase, hresume.phase, hback.phase]
      rfl

end Sys2Proof.Machine

/-! # A watchdog restart while a rekey pass runs (12 R286, 10 R238) -/
namespace Sys2Proof.Machine
set_option Elab.async false

/-- The first part of a watchdog restart: the reset is noted, and a freeze and the sessions end. -/
def watchdogBegun (s : State) : State := openGate (resetSessions (closeAll (endFreeze (noteReset s 4) 4) false)) 0

theorem watchdogBegun_keeps (s : State) : Keeps 0x1000002003fe000020f5c0000000000000000000000000000000000000000000000001a s (watchdogBegun s) :=
  openGate_keeps (Covers.refl.le rfl) (resetSessions_keeps (Covers.refl.le rfl) (closeAll_keeps (Covers.refl.le rfl)
    (endFreeze_keeps (Covers.refl.le rfl) (noteReset_keeps (Covers.refl.le rfl) .rfl'))))

theorem syncRec_doms (s : State) (id : Nat) : (syncRec s id).dp.doms = s.dp.doms := (syncRec_keeps .refl .rfl').get (·.dp.doms)
theorem record_doms (s : State) (c u x : Nat) (l : List Nat) : (record s c u x l).dp.doms = s.dp.doms := (record_keeps .refl .rfl').get (·.dp.doms)
theorem trackAll_doms (s0 s : State) : (trackAll s0 s).dp.doms = s.dp.doms := (track_keeps_tracked ..).get (·.dp.doms)

/-- A watchdog restart outside a firmware activation puts every rekey pass back to its recorded position. -/
theorem watchdogRestart_doms {s : State} (ha : s.ts.activating = 0) (core : Nat) :
    (watchdogRestart s core).dp.doms = (interruptRekeys s).dp.doms := by
  have hb := watchdogBegun_keeps s
  have ha' : (interruptRekeys (watchdogBegun s)).ts.activating = 0 := (hb.get (·.ts.activating)).trans ha
  have hd : (interruptRekeys (watchdogBegun s)).dp.doms = (interruptRekeys s).dp.doms := hb.get fun v => (interruptRekeys v).dp.doms
  rw [← hd]
  delta watchdogRestart
  extract_lets +onlyGivenNames begun times other unpaused clocks timed tests imaged
  have hu : unpaused = begun := if_pos ha'
  have hi : imaged.dp.doms = timed.dp.doms := by
    unfold imaged
    split
    · exact syncRec_doms ..
    · rfl
  rw [trackAll_doms, record_doms, hi]
  exact congrArg (·.dp.doms) hu

/-- HALTED, while the pass of domain 1 under its previous key has gone on beyond the position last recorded. -/
def rekeyHalted : State :=
  { phase := .halted
    dp := { doms := [(1, { cur := some 4, prev := some 3, pos := 9, saved := 5 })], keys := [(3, 9), (4, 8)], nextKey := 5 } }

example : rekeyHalted.canonical = true := by decide

/-- Refutes O41: a watchdog restart interrupts rekey passes, which go on from their recorded positions (12 R286, 10 R238). The clause of a restart in HALTED
or FLUSHING has the whole protection state stay, the positions of passes with it. -/
theorem not_resetCommands : ¬ Obligations.ResetCommands := by
  unfold Obligations.ResetCommands
  rintro ⟨-, -, -, -, -, -, -, -, halted, -⟩
  obtain ⟨t, ht, -, -, hdp, -⟩ := halted 0 rekeyHalted (.inl rfl) rfl
  have he : exec (.watchdogRestart 0) rekeyHalted = .next (watchdogRestart rekeyHalted (0 : Fin 5).val) := rfl
  obtain rfl := Host.Outcome.next.inj (he.symm.trans ht)
  have hd : (interruptRekeys rekeyHalted).dp.doms = rekeyHalted.dp.doms :=
    (watchdogRestart_doms (s := rekeyHalted) rfl _).symm.trans (congrArg (·.doms) hdp)
  exact absurd hd (by decide)

end Sys2Proof.Machine

/-! # A berth write that the mirror's lag still holds as an entry's preparation ends (12 R290, 05 R137) -/
namespace Sys2Proof.Machine
set_option Elab.async false

theorem closeAll_hc (s : State) (tell : Bool) : (closeAll s tell).hc = s.hc := (closeAll_keeps .refl .rfl').get (·.hc)
theorem closeAll_target (s : State) (tell : Bool) : (closeAll s tell).cs.target = s.cs.target := (closeAll_keeps .refl .rfl').get (·.cs.target)
theorem endMirrorSession_target (s : State) (st : Nat) : (endMirrorSession s st).cs.target = s.cs.target :=
  (endMirrorSession_keeps .refl .rfl').get (·.cs.target)
theorem trackAll_hc (s0 s : State) : (trackAll s0 s).hc = s.hc := (track_keeps_tracked ..).get (·.hc)

/-- The first part of the move to entering: the pads are held. -/
def entryBegun (s : State) : State := ((capturePads s).setR Obj.PAD_HOLD 1).setR Obj.ENTRY_STATE 2

/-- An entry to P3 leaves the berths as the end of the mirror session has left them. -/
theorem startEntering_berth {s : State} (hm : mirState (entryBegun s) ≠ 0) (ht : s.cs.target ≠ 4) :
    (startEntering s).hc.berth = (endMirrorSession (entryBegun s) 0).hc.berth := by
  delta startEntering
  extract_lets +onlyGivenNames pads begun mirrored closed dumped
  have hmir : mirrored = endMirrorSession (entryBegun s) 0 := if_neg hm
  have htarget : closed.cs.target = s.cs.target := (closeAll_target mirrored true).trans (by rw [hmir, endMirrorSession_target]; rfl)
  have hdump : dumped = closed := if_neg (by rwa [htarget])
  have hhc : closed.hc = mirrored.hc := closeAll_hc mirrored true
  rw [hdump, trackAll_hc, hhc, hmir]

/-- A write to the first byte of berth line 0, held ahead of its conflict table. -/
def heldBerthWrite : Acc := { id := 0, port := 1, kind := .write, line := 0x50000000000, data := 7, mask := 1 }

/-- READY while an entry to P3 prepares. The mirror of a berth range of mode 3 is in step; its lag has fallen to 0, and the write that the lag held has not
entered yet. -/
def entryPreparing : State :=
  let s := ((({ phase := .running } : State).setR Obj.ENTRY_STATE 1).setR Obj.MIRROR_STATE 3).setR Obj.BERTH_WAYS_NOW 1
  { s with
    cs := { s.cs with target := 3 }
    hc := { s.hc with
      ranges := [(1, { base := 0, size := 1048576, mode := 3, ports := 1 })]
      mirror := { s.hc.mirror with heldAsync := [heldBerthWrite] } } }

example : entryPreparing.canonical = true := by decide

theorem prepDone_entryPreparing : prepDone entryPreparing = true := by decide

set_option maxRecDepth 4000 in
theorem endMirrorSession_entryPreparing_lines :
    (endMirrorSession (entryBegun entryPreparing) 0).hc.berth.map (·.1) = [heldBerthWrite.line] := by
  rfl

/-- Refutes O43: the end of a preparation ends the mirror session (12 R290), and a write that waited for the mirror's lag then enters the berths, since without
a session nothing holds it (05 R137). The clause of PSTATE_PREP_DONE has the berths stay as they are. -/
theorem not_powerStateCommands : ¬ Obligations.PowerStateCommands := by
  unfold Obligations.PowerStateCommands
  rintro ⟨-, -, -, -, -, prepared, -⟩
  obtain ⟨t, ht, -, -, -, -, -, hberth⟩ := prepared entryPreparing prepDone_entryPreparing
  have he : execPstatePrepDone entryPreparing = .next (startEntering entryPreparing) := by
    rw [execPstatePrepDone, if_pos prepDone_entryPreparing]
  obtain rfl := Host.Outcome.next.inj (he.symm.trans ht)
  have hlines := endMirrorSession_entryPreparing_lines
  rw [← startEntering_berth (s := entryPreparing) (by decide) (by decide), hberth] at hlines
  exact absurd hlines (by decide)

end Sys2Proof.Machine

/-! # What a release of a block leaves of the registers of chapter 12 (12 R288)

What follows in the same moment from a change of the wharf writes the registers of other chapters alone. -/
namespace Sys2Proof.Machine
set_option Elab.async false

/-! ## Registers of chapter 12 -/

/-- A register of chapter 12: its index is one of 0x1A00 to 0x1AFF (12 Table CS-12). -/
abbrev ClockReg (o : Nat) : Prop := o / 65536 = 0x1A

/-- The registers of chapter 12 read as before, on every unit. -/
def ClockRegsKeep (r s : State) : Prop := s.variant = r.variant ∧ ∀ u o, ClockReg o → s.obj u o = r.obj u o

section
variable {r s t : State}

theorem ClockRegsKeep.rfl' : ClockRegsKeep r r := ⟨rfl, fun _ _ _ => rfl⟩

theorem ClockRegsKeep.trans (h : ClockRegsKeep r s) (k : ClockRegsKeep s t) : ClockRegsKeep r t :=
  ⟨k.1.trans h.1, fun u o ho => (k.2 u o ho).trans (h.2 u o ho)⟩

theorem ClockRegsKeep.ite {a b : State} {c : Prop} {d : Decidable c} (ha : ClockRegsKeep r a) (hb : ClockRegsKeep r b) :
    ClockRegsKeep r (if c then a else b) := by split <;> assumption

theorem ClockRegsKeep.foldl {β : Type} {f : State → β → State} {l : List β} (h : ClockRegsKeep r s)
    (hf : ∀ x, ∀ a ∈ l, ClockRegsKeep r x → ClockRegsKeep r (f x a)) : ClockRegsKeep r (l.foldl f s) :=
  List.foldlRecOn l f h fun x k a ha => hf x a ha k

/-- A write of a register of another chapter. -/
theorem ClockRegsKeep.set {u o v : Nat} (h : ClockRegsKeep r s) (ho : o < 2^24 ∧ ¬ ClockReg o) : ClockRegsKeep r (s.setObj u o v) :=
  ⟨h.1, fun u' o' ho' => (obj_setObj_ne s v ho.1 (by unfold ClockReg at ho'; omega) (.inr fun e => ho.2 (e ▸ ho'))).trans (h.2 u' o' ho')⟩

/-- The same of a register that is a numeral. -/
theorem ClockRegsKeep.put (h : ClockRegsKeep r s) (u o v : Nat) (ho : decide (o < 2^24 ∧ ¬ ClockReg o) = true := by rfl) :
    ClockRegsKeep r (s.setObj u o v) := h.set (of_decide_eq_true ho)

/-- An update of other fields. -/
theorem ClockRegsKeep.upd (h : ClockRegsKeep r s) (e : t.objs = s.objs := by rfl) (v : t.variant = s.variant := by rfl) : ClockRegsKeep r t :=
  ⟨v.trans h.1, fun u o ho => by rw [← h.2 u o ho]; simp [State.obj, e, v]⟩

/-- An operation whose law does not name the registers. -/
theorem ClockRegsKeep.keeps {w : Nat} (h : ClockRegsKeep r s) (k : Keeps w s t) (hw : w.testBit 3 = false := by rfl) : ClockRegsKeep r t :=
  h.upd ((congrArg State.objs k.frame).trans (by simp only [State.put, pick, hw, cond_false])) k.variant

/-- An operation that writes listed registers, none of them of chapter 12. -/
theorem ClockRegsKeep.regs {O : List Nat} (h : ClockRegsKeep r s) (k : RegsKeep O s t) (hO : (O.any fun o => decide (ClockReg o)) = false := by rfl) :
    ClockRegsKeep r t :=
  h.trans ⟨k.1, fun u o ho => k.2 u o (by unfold ClockReg at ho; omega) fun m => List.any_eq_false.1 hO o m (decide_eq_true ho)⟩

theorem record_clockRegs {c u x : Nat} {l : List Nat} (h : ClockRegsKeep r s) : ClockRegsKeep r (record s c u x l) :=
  h.regs (recordWith_regs .rfl')

theorem syncRec_clockRegs {id : Nat} (hi : Obj.RECORD_STATE + id ∈ storeObjs) (h : ClockRegsKeep r s) : ClockRegsKeep r (syncRec s id) :=
  h.regs (syncRec_regs hi .rfl')

/-! ## The counter unit (chapter 17) -/

theorem abandonSamples_clockRegs (h : ClockRegsKeep r s) : ClockRegsKeep r (abandonSamples s) :=
  ClockRegsKeep.upd (h.put U.ctl Obj.SAMPLES_LOST _)

theorem armSample_clockRegs {n sl : Nat} (h : ClockRegsKeep r s) : ClockRegsKeep r (armSample s n sl) := .ite (h.put ..) h.upd

/-- The counters are 1 to 8. -/
theorem pcOverflow_clockRegs {n : Nat} {slice : Option Nat} (hn : n ≤ 8) (h : ClockRegsKeep r s) : ClockRegsKeep r (pcOverflow s n slice) := by
  delta pcOverflow
  extract_lets +onlyGivenNames cfg s1 s2 s3
  have h1 : ClockRegsKeep r s1 := h.set (by simp only [Obj.PC_CONFIG]; omega)
  have h2 : ClockRegsKeep r s2 := h1.set (by simp only [Obj.PC_OVF_COUNT]; omega)
  have h3 : ClockRegsKeep r s3 := by
    unfold s3
    split
    · exact .ite (armSample_clockRegs h2) h2
    · exact h2
  exact .ite (record_clockRegs (abandonSamples_clockRegs (h3.put ..))) h3

theorem pcAdd_clockRegs {n k : Nat} {slice : Option Nat} (hn : n ≤ 8) (h : ClockRegsKeep r s) : ClockRegsKeep r (pcAdd s n k slice) := by
  have hc {v : Nat} : ClockRegsKeep r (s.setObj U.ctl (Obj.PC_COUNT + n) v) := h.set (by simp only [Obj.PC_COUNT]; omega)
  exact .ite hc (pcOverflow_clockRegs hn hc)

theorem pcCount_clockRegs {c u k : Nat} {slice : Option Nat} (h : ClockRegsKeep r s) : ClockRegsKeep r (pcCount s c u slice k) :=
  .ite h (.foldl h fun _ i hi k => .ite (pcAdd_clockRegs (by have := List.mem_range.1 hi; omega) k) k)

theorem sampleStep_clockRegs {sl p src line : Nat} {wr : Bool} {l : List (Nat × Nat)} (h : ClockRegsKeep r s) :
    ClockRegsKeep r (sampleStep s sl p src line wr l) :=
  .ite h (.foldl h fun _ _ _ k => .ite (ClockRegsKeep.upd (k.put U.ctl Obj.SAMPLES_TAKEN _)) k.upd)

/-! ## Responses (08 R196, 02 R45) -/

/-- The paths are 0 to 4. -/
theorem noteLatency_clockRegs {path ns : Nat} (hp : path ≤ 4) (h : ClockRegsKeep r s) : ClockRegsKeep r (noteLatency s path ns) := by
  delta noteLatency
  extract_lets +onlyGivenNames late s1 s2 s3 w w'
  have h1 : ClockRegsKeep r s1 := h.set (by simp only [Obj.LAT_COUNT]; omega)
  have h2 : ClockRegsKeep r s2 := .ite (h1.set (by simp only [Obj.LAT_MAX]; omega)) h1
  have h3 : ClockRegsKeep r s3 := .ite (h2.set (by simp only [Obj.LAT_OVER_BOUND]; omega)) h2
  have h4 {v : Nat} : ClockRegsKeep r (s3.setR (Obj.LAT_P6 + path) v) := h3.set (by simp only [Obj.LAT_P6]; omega)
  exact .ite (.ite (record_clockRegs h4.upd) h4.upd) h3.upd

/-- The causes of exclusion are 1 to 10 (08 Table ML-2). -/
theorem countSent_clockRegs {path : Nat} {a : Acc} {more : List (Nat × Nat)} (hp : path ≤ 4) (ha : a.excl ≤ 10) (h : ClockRegsKeep r s) :
    ClockRegsKeep r (countSent s path a more) := by
  delta countSent
  refine .ite h ?_
  extract_lets +onlyGivenNames sl u wr rdCode s1 base
  have h1 : ClockRegsKeep r s1 := .ite h (pcCount_clockRegs h)
  refine .ite (sampleStep_clockRegs (pcCount_clockRegs (h1.set (by simp only [Obj.LAT_EXCLUDED]; omega)))) ?_
  have h2 {ns : Nat} : ClockRegsKeep r (noteLatency s1 path ns) := noteLatency_clockRegs hp h1
  exact sampleStep_clockRegs (.ite (pcCount_clockRegs h2) h2)

theorem countPath_clockRegs {path : Nat} {a : Acc} (hp : path ≤ 4) (ha : a.excl ≤ 10) (h : ClockRegsKeep r s) : ClockRegsKeep r (countPath s path a) := by
  delta countPath countPathX
  split
  · exact .ite h.upd (countSent_clockRegs hp ha h)
  · exact countSent_clockRegs hp ha h

/-- A message that is no response to an access counted as it leaves. -/
theorem leavePort_clockRegs {n : Nat} {m : S2mMsg} (hm : m.owed = none) (h : ClockRegsKeep r s) : ClockRegsKeep r (leavePort s n m) := by
  delta leavePort
  extract_lets +onlyGivenNames p s1 s2 s3 s4
  have h2 : ClockRegsKeep r s2 := by
    unfold s2
    split
    · exact ClockRegsKeep.put (s := s1) h.upd ..
    · exact h.upd
  have h3 : ClockRegsKeep r s3 := by
    unfold s3
    split
    · exact ClockRegsKeep.keeps (.ite (h2.put ..) h2) (bwAdd_keeps .refl .rfl')
    · exact h2
  rw [hm]
  exact h3.upd

theorem respondNdr_clockRegs {n tag op : Nat} (h : ClockRegsKeep r s) : ClockRegsKeep r (respondNdr s n tag op) :=
  .ite (.ite (leavePort_clockRegs rfl h) h.upd) h

theorem heldCause_le (x : Window) (region tag : Nat) : heldCause x region tag ≤ 10 := by
  unfold heldCause
  split
  · exact Nat.min_le_left ..
  · exact Nat.le_refl _

theorem updWin_clockRegs {w : Nat} {f : Window → Window} (h : ClockRegsKeep r s) : ClockRegsKeep r (updWin s w f) :=
  h.keeps (updWin_keeps .refl .rfl')

theorem releaseHeld_clockRegs {w region : Nat} (h : ClockRegsKeep r s) : ClockRegsKeep r (releaseHeld s w region) :=
  .foldl (updWin_clockRegs h) fun _ _ _ k => countPath_clockRegs (Nat.le_refl _) (heldCause_le ..) (respondNdr_clockRegs k)

/-! ## The journal and the sets (07 R174, R179, R192) -/

theorem noteJournalFull_clockRegs (h : ClockRegsKeep r s) : ClockRegsKeep r (noteJournalFull s) :=
  .ite h (ClockRegsKeep.put h.upd ..)

theorem appendRecord_clockRegs {kind a b c : Nat} (h : ClockRegsKeep r s) : ClockRegsKeep r (appendRecord s kind a b c) :=
  .ite (h.keeps (appendNow_keeps .refl .rfl')) (noteJournalFull_clockRegs h.upd)

theorem setState_clockRegs {k st : Nat} (h : ClockRegsKeep r s) : ClockRegsKeep r (setState s k st) := appendRecord_clockRegs h.upd

theorem retireBlock_clockRegs {g st n reason : Nat} (h : ClockRegsKeep r s) : ClockRegsKeep r (retireBlock s g st n reason) := by
  delta retireBlock
  extract_lets +onlyGivenNames k q
  refine .ite h ?_
  extract_lets +onlyGivenNames die block spare ppn _ s1 s2 s3
  have h1 : ClockRegsKeep r s1 := .ite h.upd h
  have h3 : ClockRegsKeep r s3 := appendRecord_clockRegs (s := s2) h1.upd
  exact record_clockRegs (.ite (setState_clockRegs h3) h3)

theorem retireWorn_clockRegs {g n : Nat} (h : ClockRegsKeep r s) : ClockRegsKeep r (retireWorn s g n) :=
  .keeps (.foldl h fun _ _ _ k => .ite (retireBlock_clockRegs k) (.ite (retireBlock_clockRegs k) k)) (substituteSpares_keeps .refl .rfl')

theorem retireSet_clockRegs {g n : Nat} (h : ClockRegsKeep r s) : ClockRegsKeep r (retireSet s g n) :=
  .foldl (setState_clockRegs h) fun _ _ _ k => .ite k k.upd

theorem startResets_clockRegs {k : Nat} (h : ClockRegsKeep r s) : ClockRegsKeep r (startResets s k) :=
  .foldl h fun _ _ _ k => .keeps (pcCount_clockRegs k) (startOp_keeps .refl .rfl')

theorem resetIfEmpty_clockRegs {k : Nat} (h : ClockRegsKeep r s) : ClockRegsKeep r (resetIfEmpty s k) :=
  have hw : ClockRegsKeep r (retireWorn s (k / 2^20) (k % 2^20)) := retireWorn_clockRegs h
  .ite (.ite hw (.ite (retireSet_clockRegs hw) (startResets_clockRegs (setState_clockRegs hw)))) h

/-! ## The wharf (06 R159 to R161) -/

theorem drivePins_clockRegs (h : ClockRegsKeep r s) : ClockRegsKeep r (drivePins s) := by
  delta drivePins
  refine .ite h ?_
  extract_lets +onlyGivenNames lvl slow stop _ _ s1
  have h1 : ClockRegsKeep r s1 := .ite (ClockRegsKeep.upd (h.put U.root Obj.SLOW_ASSERTS _)) (.ite h.upd h)
  exact .ite (ClockRegsKeep.upd (h1.put U.root Obj.STOP_ASSERTS _)) (.ite h1.upd h1)

theorem settleLevel_clockRegs (h : ClockRegsKeep r s) : ClockRegsKeep r (settleLevel s) := by
  delta settleLevel
  extract_lets +onlyGivenNames old new s1 _ s2
  have h1 : ClockRegsKeep r s1 := .ite h (h.put ..)
  have h2 : ClockRegsKeep r s2 := by
    unfold s2
    split
    · exact .ite h1.upd h1
    · exact .ite h1 (ClockRegsKeep.upd (h1.put U.root Obj.FULL_TIME _))
  exact drivePins_clockRegs (.ite (record_clockRegs h2) h2)

theorem unpin_clockRegs {pn : PageNo} (h : ClockRegsKeep r s) : ClockRegsKeep r (unpin s pn) := ClockRegsKeep.put h.upd ..

/-! ## Discards, barriers and the flush area (03 R72, R81, 01 R25) -/

theorem finishDiscard_clockRegs {w : Nat} (h : ClockRegsKeep r s) : ClockRegsKeep r (finishDiscard s w) := by
  delta finishDiscard
  extract_lets +onlyGivenNames x
  split
  · exact h
  · have hr {c u y : Nat} {l : List Nat} {f : Window → Window} : ClockRegsKeep r (record (updWin s w f) c u y l) := record_clockRegs (updWin_clockRegs h)
    exact .ite (releaseHeld_clockRegs hr) hr

theorem discardNext_clockRegs {w : Nat} (h : ClockRegsKeep r s) : ClockRegsKeep r (discardNext s w) := by
  delta discardNext
  extract_lets +onlyGivenNames s1
  have h1 : ClockRegsKeep r s1 := .keeps (h.put U.root Obj.DISCARD_PAGES _) (updDiscard_keeps .refl .rfl')
  split
  · exact .ite (finishDiscard_clockRegs h1) h1
  · exact h1

theorem unmapPage_clockRegs {w : Nat} {d : Discard} (h : ClockRegsKeep r s) : ClockRegsKeep r (unmapPage s w d) := by
  delta unmapPage
  extract_lets +onlyGivenNames pn mapped _ s1
  have h1 : ClockRegsKeep r s1 := h.upd
  refine .ite (.ite (noteJournalFull_clockRegs h1) ?_) (discardNext_clockRegs (ClockRegsKeep.keeps h1.upd (enqueuePage_keeps .refl .rfl')))
  extract_lets +onlyGivenNames old s2 before _ s3 s4 _ s5 s6 s7
  have h2 : ClockRegsKeep r s2 := appendRecord_clockRegs h1
  have h4 : ClockRegsKeep r s4 := ClockRegsKeep.keeps (s := s3) h2.upd (indexChange_keeps .refl .rfl')
  have h5 : ClockRegsKeep r s5 := h4.upd
  have h6 : ClockRegsKeep r s6 := .ite (unpin_clockRegs h5) h5
  have h7 : ClockRegsKeep r s7 := by
    unfold s7
    clear_value s6 old
    split
    · exact resetIfEmpty_clockRegs h6
    · exact h6
  exact discardNext_clockRegs (settleLevel_clockRegs (h7.keeps (enqueuePage_keeps .refl .rfl')))

theorem settleDiscards_clockRegs (h : ClockRegsKeep r s) : ClockRegsKeep r (settleDiscards s) := by
  refine .foldl h fun x w _ k => ?_
  unfold settleDiscard
  split
  · exact .ite (unmapPage_clockRegs k) k
  · exact k

theorem settleBarriers_clockRegs (h : ClockRegsKeep r s) : ClockRegsKeep r (settleBarriers s) := by
  refine .foldl h fun x w _ k => ?_
  unfold settleDrain
  split
  · exact k
  · exact .ite (releaseHeld_clockRegs (updWin_clockRegs k))
      (.ite (record_clockRegs (ClockRegsKeep.put (releaseHeld_clockRegs (updWin_clockRegs k)) ..)) k)

theorem settleReplay_clockRegs (h : ClockRegsKeep r s) : ClockRegsKeep r (settleReplay s) := by
  delta settleReplay
  refine .ite h ?_
  extract_lets +onlyGivenNames _ s1
  have h1 : ClockRegsKeep r s1 := by
    unfold s1
    split
    · exact h
    · exact .ite h h.upd
  clear_value s1
  split
  · refine .ite ?_ h1
    extract_lets +onlyGivenNames released
    have hr {x : State} {b : Nat} (hb : b ≤ 2) (k : ClockRegsKeep r x) : ClockRegsKeep r (released x b) := by
      have k' : ClockRegsKeep r (x.setObj U.power (Obj.FLUSH_BUFFER_STATE + b) 2) := k.set (by simp only [Obj.FLUSH_BUFFER_STATE]; omega)
      exact .ite (.ite k'.upd k'.upd) k
    exact syncRec_clockRegs (by decide) (hr (Nat.le_refl _) (hr (Nat.le_succ 1) h1.upd))
  · exact h1

theorem settle_clockRegs (h : ClockRegsKeep r s) : ClockRegsKeep r (settle s) :=
  .keeps (settleReplay_clockRegs (settleBarriers_clockRegs (settleDiscards_clockRegs h))) (settleCredits_keeps .refl .rfl')

end

/-! ## Releases -/

/-- Every part but the phase and the clocks with their resets. -/
abbrev besideClocks : Nat := 0x2ffffffffffffffffffffffe00000fffffffffffffffffffffffffffffffffffffffffb

theorem Keeps.phase_clocks {r s : State} (h : Keeps besideClocks r s) : s.phase = r.phase ∧ s.cs = r.cs := ⟨h.get (·.phase), h.get (·.cs)⟩

/-- The block is out of reset, the run of BLOCK_RESET ends, and what waits for the wharf follows. -/
def releaseBlock (s : State) (b : Nat) : State := settle (endRun U.root Obj.BLOCK_RESET .ok (s.setR (Obj.BLOCK_STATE + b) 0))

theorem releaseBlock_phase_clocks (s : State) (b : Nat) : (releaseBlock s b).phase = s.phase ∧ (releaseBlock s b).cs = s.cs :=
  Keeps.phase_clocks (settle_keeps (Covers.refl.le rfl) (endRun_keeps (Covers.refl.le rfl) (setR_keeps (Covers.refl.le rfl) .rfl')))

theorem releaseBlock_blockState (s : State) (b : Fin 6) : (releaseBlock s (b.val + 1)).robj (Obj.BLOCK_STATE + (b.val + 1)) = 0 := by
  have ho : ClockReg (Obj.BLOCK_STATE + (b.val + 1)) := by simp only [ClockReg, Obj.BLOCK_STATE]; omega
  have h : ClockRegsKeep (s.setR (Obj.BLOCK_STATE + (b.val + 1)) 0) (releaseBlock s (b.val + 1)) :=
    settle_clockRegs (ClockRegsKeep.keeps .rfl' (endRun_keeps .refl .rfl'))
  exact (h.2 U.root _ ho).trans (obj_setObj_self ..)

theorem execBlockRelease_of_idle {b : Fin 6} {s : State} (h : blockInReset s (b.val + 1) = false ∨ s.cs.reset_ ≠ 0) (c : Bool) :
    execBlockRelease b c s = .next s := by
  have hc : ¬ blockInReset s (b.val + 1) = true ∨ s.cs.reset_ ≠ 0 := h.imp_left Bool.eq_false_iff.1
  exact congrArg _ (if_pos hc)

theorem execBlockRelease_of_reset {b : Fin 6} {s : State} (hb : blockInReset s (b.val + 1) = true) (hr : s.cs.reset_ = 0) (c : Bool) :
    execBlockRelease b c s = .next (if c then releaseBlock s (b.val + 1) else s.setR (Obj.BLOCK_STATE + (b.val + 1)) 2) := by
  have hc : ¬ (¬ blockInReset s (b.val + 1) = true ∨ s.cs.reset_ ≠ 0) := fun h => h.elim (· hb) (· hr)
  exact congrArg _ (if_neg hc)

/-- Settles O42: a release writes the state of its block, and what follows in the same moment writes no register of chapter 12. -/
theorem blockReleases : Obligations.BlockReleases := by
  unfold Obligations.BlockReleases
  refine ⟨?idle, ?ready, ?held⟩
  case idle => exact fun b c s h => execBlockRelease_of_idle h c
  case ready =>
    intro b s hb hr
    exact ⟨_, execBlockRelease_of_reset hb hr true, releaseBlock_blockState s b, releaseBlock_phase_clocks s (b.val + 1)⟩
  case held => exact fun b s hb hr => execBlockRelease_of_reset hb hr false

end Sys2Proof.Machine

/-! # What a step runs, and that every command answers (15 R349, R341, 02 R49) -/
namespace Sys2Proof.Machine
set_option Elab.async false

/-- Settles O3: the step of a state whose queue has a front is the front's meaning. -/
theorem stepRunsFrontCommand : Obligations.StepRunsFrontCommand := by
  unfold Obligations.StepRunsFrontCommand
  intro s c rest h
  simp only [step, h]

/-- With nothing waiting, a step takes up the held request whose turn has come. -/
theorem step_of_heldDue {s : State} {c : Instr} (hp : s.pending = []) (hd : heldDue s = some c) : step s = exec c (takeHeld s) := by
  simp only [step, hp, hd]

/-- With nothing waiting and no held request due, a step is one cycle. -/
theorem step_of_idle {s : State} (hp : s.pending = []) (hd : heldDue s = none) : step s = .next (tick s) := by
  simp only [step, hp, hd]

/-- A cycle changes parts of the state after the clock has moved on by one. -/
theorem tick_keeps_clocked (s : State) : Keeps 0xc00007fe00002000400000000000000000000000000000000000000000000000019 { s with now := s.now + 1 } (tick s) :=
  tick_keeps .refl .rfl'

/-- Settles O4: what a cycle does after the clock has moved on leaves the clock, the queue and the variant. -/
theorem idleStepRunsHeldRequestOrTicks : Obligations.IdleStepRunsHeldRequestOrTicks := by
  unfold Obligations.IdleStepRunsHeldRequestOrTicks
  refine ⟨fun s c hp hd => step_of_heldDue hp hd, fun s hp hd => ⟨tick s, step_of_idle hp hd, ?_, ?_, ?_⟩⟩
  · exact (tick_keeps_clocked s).now
  · exact (tick_keeps_clocked s).pending.trans hp
  · exact (tick_keeps_clocked s).variant

/-- The outcome is a next state: neither a fault nor a refusal. -/
def Answers (o : Host.Outcome State Fault Refusal) : Prop := ∃ t, o = .next t

theorem answers_next (t : State) : Answers (.next t) := ⟨t, rfl⟩

theorem answers_ite {p : Prop} [Decidable p] {a b : Host.Outcome State Fault Refusal} (ha : Answers a) (hb : Answers b) :
    Answers (if p then a else b) := by
  split
  · exact ha
  · exact hb

theorem exec_answers (c : Instr) (s : State) : Answers (exec c s) := by
  cases c with
  | portRstNAssert => exact answers_ite (answers_next _) (answers_next _)
  | portFailed => exact answers_ite (answers_next _) (answers_next _)
  | hdmDecoderUncommit port src decoder =>
    refine answers_ite (answers_next _) ?_
    split
    · split <;> exact answers_next _
    · exact answers_next _
  | s2mCreditReturn | ideMacFailContain | ideMacFailSkid | viralRx | portShutdownDone | barrierHoldTimeout | filterRebuildDone
  | queueRebuildDone | fineSuspendOn | fineSuspendOff | eyeMarginMeasurement | efficiencySample | rekeyDone | checkpointSegmentDone => 
    exact answers_ite (answers_next _) (answers_next _)
  | ideKeyProgramming =>
    exact answers_ite (answers_next _) (answers_ite (answers_ite (answers_next _) (answers_next _)) (answers_ite (answers_next _) (answers_next _)))
  | ideKeySwitch => exact answers_ite (answers_next _) (answers_next _)
  | eqClockTick | hourlyMeasurement => exact answers_ite (answers_next _) (answers_next _)
  | degradedOverload => exact answers_ite (answers_ite (answers_next _) (answers_next _)) (answers_next _)
  | proofPassStart => exact answers_ite (answers_next _) (answers_ite (answers_next _) (answers_ite (answers_next _) (answers_next _)))
  | _ => exact answers_next _

/-- Settles O7: every command's meaning is a next state, on each of its branches. -/
theorem everyCommandAnswersANextState : Obligations.EveryCommandAnswersANextState := by
  unfold Obligations.EveryCommandAnswersANextState
  exact exec_answers

end Sys2Proof.Machine

/-! # Requests that pass their checks (15 R341)

A request that names one present unit and passes the checks is answered as its object's own rule decides, in the state with its frame counted and its answer
sent. -/
namespace Sys2Proof.Machine
set_option Elab.async false

/-! ## What answering a request changes -/

/-- The state once a request has been answered (15 R349). -/
def answered (s : State) (r : KReq) (x : Session) (resp : KResp) : State := kdpTake x r.seq.toNat resp (countFrame s x.netPort)

theorem taken_eq_answered (s : State) (r : KReq) (x : Session) (st : Status) : taken s r x st = answered s r x { status := st } := rfl

theorem answered_keeps (s : State) (r : KReq) (x : Session) (resp : KResp) : Keeps takenParts s (answered s r x resp) :=
  kdpTake_keeps (Covers.refl.le rfl) (countFrame_keeps_takenParts s x.netPort)

theorem answer_mem_answered (s : State) (r : KReq) (x : Session) (resp : KResp) : Out.kdp x.id r.seq.toNat resp ∈ (answered s r x resp).out :=
  List.mem_cons_self

@[simp] theorem answered_objs (s : State) (r : KReq) (x : Session) (resp : KResp) : (answered s r x resp).objs = s.objs :=
  (answered_keeps s r x resp).get (·.objs)
@[simp] theorem taken_objs (s : State) (r : KReq) (x : Session) (st : Status) : (taken s r x st).objs = s.objs := answered_objs ..

section
variable {s : State} {r : KReq} {x : Session} {i : Instr}

/-- A course that decides alike before and after the request is taken acts on the state that has answered it. -/
theorem kdpRequest_answered {f : Session → State → State × KResp} {g : State → State} {resp : KResp} (h : inTurn s r x = true)
    (hf : ∀ v, Keeps takenParts s v → f x v = (g v, resp)) : kdpRequest r i f s = g (answered s r x resp) := by
  rw [kdpRequest_of_inTurn h, hf _ (countFrame_keeps_takenParts s x.netPort)]
  exact congrArg Prod.fst (hf _ (answered_keeps s r x resp))

/-! ## The checks -/

theorem admitted_iff {index u : Nat} {op : KOp} : admitted s r x index op u = true ↔
    inTurn s r x = true ∧ isWild r.unit.toNat = false ∧ expandPath s.variant r.unit.toNat = .ok [u] ∧
      (∃ row, checkObject s x.role u (index * 256 + r.sub.toNat) op = .ok row) ∧ (op = .read ∨ unitAbsent s u = false) := by
  have hpath : (match expandPath s.variant r.unit.toNat with | .ok us => us == [u] | .error _ => false) = true ↔
      expandPath s.variant r.unit.toNat = .ok [u] := by
    cases expandPath s.variant r.unit.toNat <;> simp
  have hcheck : (match checkObject s x.role u (index * 256 + r.sub.toNat) op with | .ok _ => true | .error _ => false) = true ↔
      ∃ row, checkObject s x.role u (index * 256 + r.sub.toNat) op = .ok row := by
    cases checkObject s x.role u (index * 256 + r.sub.toNat) op <;> simp
  rw [admitted, Bool.and_eq_true, Bool.and_eq_true, Bool.and_eq_true, Bool.and_eq_true, Bool.or_eq_true]
  simp only [Bool.not_eq_true', beq_iff_eq, and_assoc]
  exact and_congr .rfl (and_congr .rfl (and_congr hpath (and_congr hcheck .rfl)))

/-- The check of the value that an operation brings (15 R341, check 8). -/
def opValueCheck (row : ObjRow) : KOp → Option Status
  | .read => none
  | .write v => valueCheck row v
  | .exec a => valueCheck row (.num a)

/-- What passes the checks names an object of the dictionary with a value that it takes. -/
theorem checkObject_ok {role u o : Nat} {op : KOp} {row : ObjRow} (h : checkObject s role u o op = .ok row) :
    objPresent s u o = some row ∧ opValueCheck row op = none := by
  revert h
  rw [checkObject]
  cases objPresent s u o with
  | none => exact fun h => nomatch h
  | some q =>
    intro h
    dsimp only at h
    split at h
    · cases h
    split at h
    · cases h
    split at h
    · cases h
    split at h
    · cases h
    case h_2 hv =>
      cases h
      exact ⟨rfl, by rw [← hv]; cases op <;> rfl⟩

theorem objRow_of_objPresent {u o : Nat} {row : ObjRow} (h : objPresent s u o = some row) : objRow? o = some row ∧ row.scope.contains (unitType u) = true := by
  revert h
  rw [objPresent]
  cases objRow? o with
  | none => exact fun h => nomatch h
  | some q =>
    intro h
    dsimp only at h
    split at h
    · cases h
    case isFalse hscope =>
      have hq : q = row := by
        split at h
        · cases h
        split at h
        · cases h
        split at h
        · cases h
        split at h
        · cases h
        exact Option.some.inj h
      subst hq
      exact ⟨rfl, by simpa using hscope⟩

/-- The row of an index that has a single one. -/
theorem objRow_of_single {index sub : Nat} {row q : ObjRow} (hs : sub < 256) (hq : (objRowsOf index).filter (fun r => r.index == index) = [q])
    (h : objRow? (index * 256 + sub) = some row) : row = q ∧ q.subLo ≤ sub ∧ sub ≤ q.subHi := by
  have hi : (index * 256 + sub) / 256 = index := by omega
  have hsub : (index * 256 + sub) % 256 = sub := by omega
  rw [objRow?, hi, hsub] at h
  have hmem := List.mem_of_find?_eq_some h
  have hrow := List.find?_some h
  simp only [Bool.and_eq_true, decide_eq_true_eq] at hrow
  obtain ⟨⟨hindex, hlo⟩, hhi⟩ := hrow
  obtain rfl : row = q := List.mem_singleton.1 (hq ▸ List.mem_filter.2 ⟨hmem, hindex⟩)
  exact ⟨rfl, hlo, hhi⟩

/-! ## Reads and writes of one unit -/

/-- What a request gives the rule of an object on a unit, whatever the rule. -/
theorem objectRequest_write {sid role netPort path index sub u : Nat} {v : KVal} {eff : KEffect} {row : ObjRow}
    (he : expandPath s.variant path = .ok [u]) (hw : isWild path = false) (hc : checkObject s role u (index * 256 + sub) (.write v) = .ok row)
    (hu : unitAbsent s u = false) : objectRequest sid role netPort path index sub (.write v) eff s =
      ((eff ⟨sid, role, netPort, u, index * 256 + sub⟩ v s).1, { status := (eff ⟨sid, role, netPort, u, index * 256 + sub⟩ v s).2 }) := by
  simp only [objectRequest, he, hw, opOnUnit, hc, hu, Bool.false_eq_true, if_false]

/-- A read of an object that no cursor moves on answers its value. -/
theorem objectRequest_read {sid role netPort path index sub u n : Nat} {eff : KEffect} {row : ObjRow}
    (he : expandPath s.variant path = .ok [u]) (hw : isWild path = false) (hc : checkObject s role u (index * 256 + sub) .read = .ok row)
    (hr : exportRead s u (index * 256 + sub) = (s, .ok (.num n))) :
    objectRequest sid role netPort path index sub .read eff s = (s, { status := .ok, value := some (.num n) }) := by
  simp only [objectRequest, he, hw, opOnUnit, hc, hr, Bool.false_eq_true, if_false]

/-- The checks pass alike once a request is taken. -/
theorem checks_taken {index u : Nat} {op : KOp} {v : State} (h : admitted s r x index op u = true) (hv : Keeps takenParts s v) :
    expandPath v.variant r.unit.toNat = .ok [u] ∧ isWild r.unit.toNat = false ∧
      (∃ row, checkObject v x.role u (index * 256 + r.sub.toNat) op = .ok row) ∧ (op = .read ∨ unitAbsent v u = false) := by
  obtain ⟨-, hwild, hpath, ⟨row, hcheck⟩, hpresent⟩ := admitted_iff.1 h
  exact ⟨hv.variant ▸ hpath, hwild, ⟨row, (checkObject_congr hv.variant (hv.get (·.phase)) (hv.get (·.cs)) ..).trans hcheck⟩,
    hpresent.imp_right (hv.get (unitAbsent · u)).trans⟩

/-- A write that is admitted acts as its object's rule does in the state that has taken it. -/
theorem kdpObject_of_write {index u : Nat} {w : KVal} {eff : KEffect} {f : State → State} {st : Status}
    (h : admitted s r x index (.write w) u = true)
    (heff : ∀ v, Keeps takenParts s v → eff (requestCtx x r index u) w v = (f v, st)) :
    kdpObject r i index (.write w) eff s = f (taken s r x st) := by
  refine kdpRequest_answered (admitted_iff.1 h).1 fun v hv => ?_
  obtain ⟨hpath, hwild, ⟨row, hcheck⟩, hpresent⟩ := checks_taken h hv
  have hpresent : unitAbsent v u = false := hpresent.resolve_left KOp.noConfusion
  rw [objectRequest_write hpath hwild hcheck hpresent, heff v hv]

/-- The same of a command's EXEC, whose rule decides alone. -/
theorem kdpObject_of_exec {index u a : Nat} {eff : KEffect} {f : State → State} {st : Status} (h : admitted s r x index (.exec a) u = true)
    (heff : ∀ v, Keeps takenParts s v → eff (requestCtx x r index u) (.num a) v = (f v, st)) :
    kdpObject r i index (.exec a) eff s = f (taken s r x st) := by
  refine kdpRequest_answered (admitted_iff.1 h).1 fun v hv => ?_
  obtain ⟨hpath, hwild, ⟨row, hcheck⟩, hpresent⟩ := checks_taken h hv
  have hpresent : unitAbsent v u = false := hpresent.resolve_left KOp.noConfusion
  rw [objectRequest_exec hpath hwild hcheck hpresent, heff v hv]

/-- A read that is admitted answers the value that the state before it gives. -/
theorem kdpObject_of_read {index u n : Nat} {eff : KEffect} (h : admitted s r x index .read u = true)
    (hread : ∀ v, Keeps takenParts s v → exportRead v u (index * 256 + r.sub.toNat) = (v, .ok (.num n))) :
    kdpObject r i index .read eff s = answered s r x { status := .ok, value := some (.num n) } := by
  refine kdpRequest_answered (g := id) (admitted_iff.1 h).1 fun v hv => ?_
  obtain ⟨hpath, hwild, ⟨row, hcheck⟩, -⟩ := checks_taken h hv
  exact objectRequest_read hpath hwild hcheck (hread v hv)

end

end Sys2Proof.Machine

/-! # The slot number of the straps (14 R326) -/
namespace Sys2Proof.Machine
set_option Elab.async false

/-- The row of MODULE_ID (15 Table OD-5). -/
def moduleIdRow : ObjRow := ⟨0x0013, 0, 0, .u8, .ro, 1, 0, .span 0 15, [.module]⟩

theorem objRow_moduleId {sub : Nat} {row : ObjRow} (hs : sub < 256) (h : objRow? (0x0013 * 256 + sub) = some row) : sub = 0 := by
  obtain ⟨-, -, h0⟩ := objRow_of_single (q := moduleIdRow) hs (by rfl) h
  exact Nat.le_zero.1 h0

theorem exportRead_moduleId (s : State) : exportRead s U.root Obj.MODULE_ID = (s, .ok (.num (s.robj Obj.MODULE_ID))) := by rfl

theorem trackAll_obj (s0 s : State) {u o : Nat} (ho : o < 2^24) (hn : o ∉ [Obj.STATE_CHANGES, Obj.STATE_SINCE]) : (trackAll s0 s).obj u o = s.obj u o :=
  track_obj _ s0 s ho hn

theorem clockAbsent_obj (s : State) {c u o : Nat} {b : Bool} (ho : o < 2^24) (hn : o ∉ Obj.REF_FAULTS :: recordObjs) :
    (clockAbsent s c b).obj u o = s.obj u o := by
  rw [List.mem_cons, not_or] at hn
  rw [clockAbsent]
  split
  · rw [recordHm_obj _ ho hn.2]
    exact obj_setObj_ne _ _ (by decide) ho (.inr hn.1)
  · rfl

/-- A reset of cause `code` is noted in its own registers and in the recorder. -/
theorem noteResetIn_obj (s : State) {code found u o : Nat} (hc : Obj.RESET_COUNT + code < 2^24) (ho : o < 2^24)
    (hn : o ∉ Obj.RESET_LAST :: Obj.RESET_AT :: (Obj.RESET_COUNT + code) :: recordObjs) : (noteResetIn s code found).obj u o = s.obj u o := by
  simp only [List.mem_cons, not_or] at hn
  obtain ⟨hlast, hat, hcount, hrec⟩ := hn
  calc (noteResetIn s code found).obj u o
    _ = (((s.setR Obj.RESET_LAST code).setR Obj.RESET_AT s.hm.opsec).bumpR (Obj.RESET_COUNT + code)).obj u o := recordHm_obj _ ho hrec
    _ = ((s.setR Obj.RESET_LAST code).setR Obj.RESET_AT s.hm.opsec).obj u o := obj_setObj_ne _ _ hc ho (.inr hcount)
    _ = (s.setR Obj.RESET_LAST code).obj u o := obj_setObj_ne _ _ (by decide) ho (.inr hat)
    _ = s.obj u o := obj_setObj_ne _ _ (by decide) ho (.inr hlast)

/-- What ends the step into SEQUENCING once the straps are sampled: the reference clocks, the records of the store and the reset itself are noted. -/
def sequencingNoted (s0 v : State) (b c : Bool) : State :=
  trackAll s0 (noteResetIn (syncRecs (clockAbsent (clockAbsent v 1 b) 2 c) [6, 11]) 1 (moduleState s0))

theorem sequencingNoted_phase (s0 v : State) (b c : Bool) : (sequencingNoted s0 v b c).phase = v.phase :=
  have h : Keeps besideClocks v (noteResetIn (syncRecs (clockAbsent (clockAbsent v 1 b) 2 c) [6, 11]) 1 (moduleState s0)) :=
    noteResetIn_keeps (Covers.refl.le rfl) (syncRecs_keeps (Covers.refl.le rfl)
      (clockAbsent_keeps (Covers.refl.le rfl) (clockAbsent_keeps (Covers.refl.le rfl) .rfl')))
  (trackAll_phase ..).trans (h.get (·.phase))

theorem sequencingNoted_moduleId (s0 v : State) (b c : Bool) : (sequencingNoted s0 v b c).robj Obj.MODULE_ID = v.robj Obj.MODULE_ID := calc
  _ = (noteResetIn _ 1 (moduleState s0)).obj U.root Obj.MODULE_ID := trackAll_obj _ _ (by decide) (by decide)
  _ = (syncRec (syncRec _ 6) 11).obj U.root Obj.MODULE_ID := noteResetIn_obj _ (by decide) (by decide) (by decide)
  _ = (syncRec _ 6).obj U.root Obj.MODULE_ID := syncRec_obj _ (by decide) (by decide) (by decide)
  _ = (clockAbsent _ 2 c).obj U.root Obj.MODULE_ID := syncRec_obj _ (by decide) (by decide) (by decide)
  _ = (clockAbsent v 1 b).obj U.root Obj.MODULE_ID := clockAbsent_obj _ (by decide) (by decide)
  _ = v.obj U.root Obj.MODULE_ID := clockAbsent_obj _ (by decide) (by decide)

/-- SEQUENCING begins with the slot number of the straps and the source of the clock written last. -/
theorem enterSequencing_course (s : State) (m : Nat) : ∃ (v : State) (a : Nat) (b c : Bool),
    v.phase = .sequencing ∧ enterSequencing s m = sequencingNoted s ((v.setR Obj.MODULE_ID m).setR Obj.CLOCK_SOURCE a) b c := by
  delta enterSequencing
  extract_lets +onlyGivenNames s1 s2 dp pw cs kdp net1 net2 begun bank banks media v
  have hphase : banks.phase = .sequencing := List.foldlRecOn (motive := fun w : State => w.phase = Phase.sequencing) _ bank rfl fun _ h _ _ => h
  exact ⟨v, _, _, _, hphase, rfl⟩

/-- Settles O9: the step into SEQUENCING writes MODULE_ID, what it notes afterwards leaves it, and a read answers it as it stands. -/
theorem moduleIdIsSampledAtSequencing : Obligations.ModuleIdIsSampledAtSequencing := by
  unfold Obligations.ModuleIdIsSampledAtSequencing
  refine ⟨?sampled, ?powered, ?reported⟩
  case sampled =>
    intro m s hr hp hl hs
    have hc : s.hm.running = true ∧ ¬ s.pw.pwrfailLow = true ∧ ¬ s.hm.latchThermal = true ∧ (s.phase = .cold ∨ (s.phase = .latchedOff ∧ s.pw.vinRemoved = true)) :=
      ⟨hr, by simp [hp], by simp [hl], hs⟩
    obtain ⟨v, a, b, c, hv, he⟩ := enterSequencing_course { s with pw := { s.pw with vinGood := true } } m.val
    refine ⟨_, congrArg Host.Outcome.next (if_pos hc), ?_, ?_⟩
    · rw [he, sequencingNoted_phase]
      exact hv
    · rw [he, sequencingNoted_moduleId]
      exact (obj_setObj_ne _ _ (by decide) (by decide) (.inr (by decide))).trans (obj_setObj_self ..)
  case powered =>
    intro m s hcold hoff
    refine congrArg Host.Outcome.next (if_neg ?_)
    rintro ⟨-, -, -, h | ⟨h, -⟩⟩
    · exact hcold h
    · exact hoff h
  case reported =>
    intro r x s h
    obtain ⟨row, hcheck⟩ := (admitted_iff.1 h).2.2.2.1
    have hsub := objRow_moduleId r.sub.isLt (objRow_of_objPresent (checkObject_ok hcheck).1).1
    have he : kdpObject r (.read r 0x0013) 0x0013 .read plainWrite s = answered s r x { status := .ok, value := some (.num (s.robj Obj.MODULE_ID)) } := by
      refine kdpObject_of_read h fun v hv => ?_
      have hid : v.robj Obj.MODULE_ID = s.robj Obj.MODULE_ID := hv.get (State.robj · Obj.MODULE_ID)
      rw [hsub, ← hid]
      exact exportRead_moduleId v
    exact ⟨_, congrArg Host.Outcome.next he, answer_mem_answered .., answered_objs ..⟩

end Sys2Proof.Machine

/-! # The registers of the counter unit (chapter 17) -/
namespace Sys2Proof.Machine
set_option Elab.async false

/-- Setting bit 2 adds 4 where it is clear. -/
theorem setBit_two (v : Nat) : setBit v 2 true = if v / 2^2 % 2 = 1 then v else v + 2^2 := by
  simp only [setBit, bitOf, if_true]
  exact if_congr (by simp) rfl rfl

theorem bitOf_setBit_two (v : Nat) : bitOf (setBit v 2 true) 2 = true := by
  rw [setBit_two, bitOf, beq_iff_eq]
  split <;> omega

/-- Setting bit 2 leaves the bits above it. -/
theorem bitOf_setBit_above {i : Nat} (hi : 2 < i) (v : Nat) : bitOf (setBit v 2 true) i = bitOf v i := by
  obtain ⟨j, rfl⟩ : ∃ j, i = 3 + j := ⟨i - 3, by omega⟩
  have hset : setBit v 2 true / 2^3 = v / 2^3 := by
    rw [setBit_two]
    split <;> omega
  simp only [bitOf, Nat.pow_add, ← Nat.div_div_eq_div_mul, hset]

/-! ## Overflow (17 R384, R385, R387) -/

section
variable {s : State} {n : Nat}

/-- An overflow is noted: OVF is set, and the overflow counts. -/
def ovfNoted (s : State) (n : Nat) : State :=
  (s.setObj U.ctl (Obj.PC_CONFIG + n) (setBit (pcReg s Obj.PC_CONFIG n) 2 true)).bump U.ctl (Obj.PC_OVF_COUNT + n)

/-- What follows an overflow once it is noted writes the count of lost samples, the freeze and the recorder's registers alone. -/
abbrev overflowObjs : List Nat := Obj.SAMPLES_LOST :: Obj.PC_FREEZE :: recordObjs

theorem armSample_regs {r : State} {sl : Nat} (h : RegsKeep overflowObjs r s) : RegsKeep overflowObjs r (armSample s n sl) :=
  .ite (h.set (by decide) List.mem_cons_self) h.upd

theorem abandonSamples_regs {r : State} (h : RegsKeep overflowObjs r s) : RegsKeep overflowObjs r (abandonSamples s) :=
  RegsKeep.upd (h.set (u := U.ctl) (o := Obj.SAMPLES_LOST) (by decide) List.mem_cons_self)

theorem record_overflowObjs {r : State} {c u x : Nat} {l : List Nat} (h : RegsKeep overflowObjs r s) : RegsKeep overflowObjs r (record s c u x l) :=
  h.trans ((recordWith_regs .rfl').mono fun _ hm => List.mem_cons_of_mem _ (List.mem_cons_of_mem _ hm))

theorem pcOverflow_regs (s : State) (n : Nat) (slice : Option Nat) : RegsKeep overflowObjs (ovfNoted s n) (pcOverflow s n slice) := by
  delta pcOverflow
  extract_lets cfg s1 s2 s3
  have h3 : RegsKeep overflowObjs (ovfNoted s n) s3 := by
    unfold s3
    split
    · exact .ite (armSample_regs .rfl') .rfl'
    · exact .rfl'
  exact .ite (record_overflowObjs (abandonSamples_regs (h3.set (by decide) (List.mem_cons_of_mem _ List.mem_cons_self)))) h3

/-- The registers that each of the counters 1 to 8 has (17 Table PC-2). -/
abbrev counterObjs : List Nat := [Obj.PC_EVENT, Obj.PC_SCOPE, Obj.PC_CONFIG, Obj.PC_COUNT, Obj.PC_RELOAD, Obj.PC_OVF_COUNT, Obj.PC_SLICES]

/-- Of them what follows an overflow once it is noted writes none. -/
theorem counterObjs_index {o : Nat} (hn : n ≤ 8) (ho : o ∈ counterObjs) : o + n < 2^24 ∧ o + n ∉ overflowObjs := by
  have h : ∀ k ≤ 8, ∀ o ∈ counterObjs, o + k < 2^24 ∧ o + k ∉ overflowObjs := by decide
  exact h n hn o ho

theorem pcReg_setObj_ne {o o' v : Nat} (hn : n ≤ 8) (ho : o ∈ counterObjs) (ho' : o' ∈ counterObjs) (h : o' ≠ o) :
    pcReg (s.setObj U.ctl (o + n) v) o' n = pcReg s o' n :=
  obj_setObj_ne _ _ (counterObjs_index hn ho).1 (counterObjs_index hn ho').1 (.inr fun e => h (Nat.add_right_cancel e))

theorem pcReg_setObj_self (s : State) (o n v : Nat) : pcReg (s.setObj U.ctl (o + n) v) o n = v := obj_setObj_self ..

theorem pcReg_pcOverflow {o : Nat} {slice : Option Nat} (hn : n ≤ 8) (ho : o ∈ counterObjs) : pcReg (pcOverflow s n slice) o n = pcReg (ovfNoted s n) o n :=
  (pcOverflow_regs s n slice).2 U.ctl (o + n) (counterObjs_index hn ho).1 (counterObjs_index hn ho).2

theorem pcOverflow_config {slice : Option Nat} (hn : n ≤ 8) : pcReg (pcOverflow s n slice) Obj.PC_CONFIG n = setBit (pcReg s Obj.PC_CONFIG n) 2 true := by
  rw [pcReg_pcOverflow hn (by decide)]
  exact (pcReg_setObj_ne hn (by decide) (by decide) (by decide)).trans (pcReg_setObj_self ..)

theorem pcOverflow_ovfCount {slice : Option Nat} (hn : n ≤ 8) : pcReg (pcOverflow s n slice) Obj.PC_OVF_COUNT n =
    (pcReg s Obj.PC_OVF_COUNT n + 1) % objModulus (Obj.PC_OVF_COUNT + n) := by
  rw [pcReg_pcOverflow hn (by decide)]
  refine (pcReg_setObj_self ..).trans (congrArg (fun q => (q + 1) % objModulus (Obj.PC_OVF_COUNT + n)) ?_)
  exact pcReg_setObj_ne hn (by decide) (by decide) (by decide)

/-- An overflow leaves the counter's other registers. -/
theorem pcOverflow_other {o : Nat} {slice : Option Nat} (hn : n ≤ 8) (ho : o ∈ counterObjs) (h : o ≠ Obj.PC_CONFIG ∧ o ≠ Obj.PC_OVF_COUNT) :
    pcReg (pcOverflow s n slice) o n = pcReg s o n := by
  rw [pcReg_pcOverflow hn ho]
  exact (pcReg_setObj_ne hn (by decide) ho h.2).trans (pcReg_setObj_ne hn (by decide) ho h.1)

/-! ## Counting (17 R384) -/

/-- What a counter holds after an overflow: the carry, above PC_RELOAD where it samples. -/
def carried (s : State) (n k : Nat) : Nat :=
  if bitOf (pcReg s Obj.PC_CONFIG n) 3 then (pcReg s Obj.PC_RELOAD n + (pcReg s Obj.PC_COUNT n + k - 2^48)) % 2^48 else pcReg s Obj.PC_COUNT n + k - 2^48

theorem pcAdd_of_lt {k : Nat} (h : pcReg s Obj.PC_COUNT n + k < 2^48) (slice : Option Nat) :
    pcAdd s n k slice = s.setObj U.ctl (Obj.PC_COUNT + n) (pcReg s Obj.PC_COUNT n + k) := if_pos h
theorem pcAdd_of_carry {k : Nat} (h : 2^48 ≤ pcReg s Obj.PC_COUNT n + k) (slice : Option Nat) :
    pcAdd s n k slice = pcOverflow (s.setObj U.ctl (Obj.PC_COUNT + n) (carried s n k)) n slice := if_neg (Nat.not_lt.2 h)

/-- The four registers of a counter that an increment carries past 2^48 − 1. -/
theorem pcAdd_overflows {k : Nat} (hn : n ≤ 8) (h : 2^48 ≤ pcReg s Obj.PC_COUNT n + k) (slice : Option Nat) :
    pcReg (pcAdd s n k slice) Obj.PC_COUNT n = carried s n k ∧
      pcReg (pcAdd s n k slice) Obj.PC_CONFIG n = setBit (pcReg s Obj.PC_CONFIG n) 2 true ∧
      pcReg (pcAdd s n k slice) Obj.PC_OVF_COUNT n = (pcReg s Obj.PC_OVF_COUNT n + 1) % objModulus (Obj.PC_OVF_COUNT + n) ∧
      pcReg (pcAdd s n k slice) Obj.PC_RELOAD n = pcReg s Obj.PC_RELOAD n := by
  have hkeep {o : Nat} (ho : o ∈ counterObjs) (hne : o ≠ Obj.PC_COUNT) :
      pcReg (s.setObj U.ctl (Obj.PC_COUNT + n) (carried s n k)) o n = pcReg s o n := pcReg_setObj_ne hn (by decide) ho hne
  rw [pcAdd_of_carry h]
  refine ⟨?_, ?_, ?_, ?_⟩
  · rw [pcOverflow_other hn (by decide) (by decide), pcReg_setObj_self]
  · rw [pcOverflow_config hn, hkeep (by decide) (by decide)]
  · rw [pcOverflow_ovfCount hn, hkeep (by decide) (by decide)]
  · rw [pcOverflow_other hn (by decide) (by decide), hkeep (by decide) (by decide)]

/-- An increment that does not carry adds to the value alone. -/
theorem pcAdd_adds {k : Nat} (hn : n ≤ 8) (h : pcReg s Obj.PC_COUNT n + k < 2^48) (slice : Option Nat) :
    pcReg (pcAdd s n k slice) Obj.PC_COUNT n = pcReg s Obj.PC_COUNT n + k ∧
      ∀ o ∈ counterObjs, o ≠ Obj.PC_COUNT → pcReg (pcAdd s n k slice) o n = pcReg s o n := by
  rw [pcAdd_of_lt h]
  exact ⟨pcReg_setObj_self .., fun o ho hne => pcReg_setObj_ne hn (by decide) ho hne⟩

end

/-! ## A counter that overflows once per N occurrences (17 R384) -/

/-- Counter `q` of `v` after `i` occurrences from a preset of 2^48 − `n` that is also its reload, the overflow count then `f`. -/
structure CountsBy (q n f i : Nat) (v : State) : Prop where
  count : pcReg v Obj.PC_COUNT q = 2^48 - n + i % n
  reload : pcReg v Obj.PC_RELOAD q = 2^48 - n
  sample : bitOf (pcReg v Obj.PC_CONFIG q) 3 = true
  overflows : pcReg v Obj.PC_OVF_COUNT q = (f + i / n) % objModulus (Obj.PC_OVF_COUNT + q)

/-- One more occurrence within a period, or the last of one. -/
theorem div_mod_succ {n i : Nat} (hn : 0 < n) : (i % n + 1 < n ∧ (i + 1) % n = i % n + 1 ∧ (i + 1) / n = i / n) ∨
    (i % n + 1 = n ∧ (i + 1) % n = 0 ∧ (i + 1) / n = i / n + 1) := by
  have hi := Nat.div_add_mod i n
  have hlt := Nat.mod_lt i hn
  rcases Nat.lt_or_ge (i % n + 1) n with h | h
  · have he : i + 1 = i % n + 1 + n * (i / n) := by omega
    exact .inl ⟨h, by rw [he, Nat.add_mul_mod_self_left, Nat.mod_eq_of_lt h], by rw [he, Nat.add_mul_div_left _ _ hn, Nat.div_eq_of_lt h, Nat.zero_add]⟩
  · have he : i + 1 = n * (i / n + 1) := by rw [Nat.mul_add]; omega
    exact .inr ⟨by omega, by rw [he, Nat.mul_mod_right], by rw [he, Nat.mul_div_cancel_left _ hn]⟩

theorem CountsBy.step {q n f i : Nat} {v : State} (h : CountsBy q n f i v) (hq : q ≤ 8) (hn : 0 < n) (hle : n ≤ 2^48) (slice : Option Nat) :
    CountsBy q n f (i + 1) (pcAdd v q 1 slice) := by
  rcases div_mod_succ (i := i) hn with ⟨hlt, hmod, hdiv⟩ | ⟨hend, hmod, hdiv⟩
  · obtain ⟨hcount, hother⟩ := pcAdd_adds (s := v) (k := 1) hq (by rw [h.count]; omega) slice
    exact {
      count := by rw [hcount, h.count, hmod, Nat.add_assoc]
      reload := (hother _ (by decide) (by decide)).trans h.reload
      sample := by rw [hother _ (by decide) (by decide), h.sample]
      overflows := by rw [hother _ (by decide) (by decide), h.overflows, hdiv] }
  · obtain ⟨hcount, hconfig, hovf, hreload⟩ := pcAdd_overflows (s := v) (k := 1) hq (by rw [h.count]; omega) slice
    exact {
      count := by
        rw [hcount, carried, if_pos h.sample, h.count, h.reload, hmod]
        have : 2^48 - n + i % n + 1 - 2^48 = 0 := by omega
        rw [this]
        exact Nat.mod_eq_of_lt (by omega)
      reload := hreload.trans h.reload
      sample := by rw [hconfig, bitOf_setBit_above (by decide), h.sample]
      overflows := by rw [hovf, h.overflows, hdiv, Nat.mod_add_mod, Nat.add_assoc] }

theorem CountsBy.repeat {q n f : Nat} {s : State} (h : CountsBy q n f 0 s) (hq : q ≤ 8) (hn : 0 < n) (hle : n ≤ 2^48) (slice : Option Nat) (i : Nat) :
    CountsBy q n f i (Nat.repeat (fun v => pcAdd v q 1 slice) i s) := by
  induction i with
  | zero => exact h
  | succ i ih => exact ih.step hq hn hle slice

theorem execPcOverflow_of_counting {c : Fin 8} {k : Fin 65} {s : State} (he : bitOf (pcReg s Obj.PC_CONFIG (c.val + 1)) 0 = true)
    (hf : s.obj U.ctl Obj.PC_FREEZE = 0) (hr : counterUnitReset s = false) (hc : 2^48 ≤ pcReg s Obj.PC_COUNT (c.val + 1) + k.val) (sl : Option (Fin 16)) :
    execPcOverflow c k sl s = .next (pcAdd s (c.val + 1) k.val (sl.map (·.val))) := by
  rw [execPcOverflow, if_pos]
  simp only [he, hf, hr, beq_self_eq_true, Bool.not_false, Bool.and_true, Bool.true_and]
  exact decide_eq_true hc

/-- Settles O53: an increment that carries goes through the overflow, which notes itself on the counter's own registers; the period is by induction on the
occurrences. -/
theorem counterOverflows : Obligations.CounterOverflows := by
  unfold Obligations.CounterOverflows
  refine ⟨?carries, ?adds, ?period⟩
  case carries =>
    intro c k sl s he hf hr hc
    obtain ⟨hcount, hconfig, hovf, -⟩ := pcAdd_overflows (by omega) hc (sl.map (·.val))
    exact ⟨_, execPcOverflow_of_counting he hf hr hc sl, hcount, by rw [hconfig, bitOf_setBit_two], hovf⟩
  case adds =>
    intro c k sl s h
    obtain ⟨hcount, hother⟩ := pcAdd_adds (by omega) h sl
    exact ⟨hcount, hother _ (by decide) (by decide), hother _ (by decide) (by decide)⟩
  case period =>
    intro c n m j sl s hn hle hj hcount hreload hsample hovf
    have h0 : CountsBy (c.val + 1) n (pcReg s Obj.PC_OVF_COUNT (c.val + 1)) 0 s :=
      ⟨by rw [hcount, Nat.zero_mod, Nat.add_zero], hreload, hsample, by rw [Nat.zero_div]; exact (Nat.mod_eq_of_lt hovf).symm⟩
    have h := h0.repeat (by omega) hn hle sl (m * n + j)
    have hdiv : (m * n + j) / n = m := by rw [Nat.add_comm, Nat.add_mul_div_right _ _ hn, Nat.div_eq_of_lt hj, Nat.zero_add]
    have hmod : (m * n + j) % n = j := by rw [Nat.add_comm, Nat.add_mul_mod_self_right, Nat.mod_eq_of_lt hj]
    exact ⟨by rw [h.overflows, hdiv], by rw [h.count, hmod]⟩

end Sys2Proof.Machine

/-! # The rules that a WRITE comes to (15 R340, R344) -/
namespace Sys2Proof.Machine
set_option Elab.async false

/-- The row of an object of the counter unit's setup (17 Table PC-2). -/
def pcConfigRow : ObjRow := ⟨0x1E03, 1, 8, .bits32, .rw, 2, 0, .mask 29, [.controller]⟩

section
variable {s : State} {r : KReq} {x : Session}

@[simp] theorem taken_pc (s : State) (r : KReq) (x : Session) (st : Status) : (taken s r x st).pc = s.pc := (taken_keeps s r x st).get (·.pc)

theorem index_of_name {i sub : Nat} (h : sub < 256) : (i * 256 + sub) / 256 = i := by omega
theorem sub_of_name {i sub : Nat} (h : sub < 256) : (i * 256 + sub) % 256 = sub := by omega

/-- The row that an admitted request finds. -/
theorem objRow_of_admitted {index u : Nat} {op : KOp} (h : admitted s r x index op u = true) :
    ∃ row, objRow? (index * 256 + r.sub.toNat) = some row ∧ row.scope.contains (unitType u) = true ∧ opValueCheck row op = none := by
  obtain ⟨row, hcheck⟩ := (admitted_iff.1 h).2.2.2.1
  obtain ⟨hpresent, hvalue⟩ := checkObject_ok hcheck
  obtain ⟨hrow, hscope⟩ := objRow_of_objPresent hpresent
  exact ⟨row, hrow, hscope, hvalue⟩

/-- A WRITE but of KEY_ROTATE and SCRUB_ABORT is its object's rule and no more. -/
theorem execWrite_of_value {index : BitVec 16} (h : index ≠ 0x1813 ∧ index ≠ 0x180C) (v : KVal) :
    execWrite r index { value := v } s = .next (kdpObject r (.write r index { value := v }) index.toNat (.write v)
      (writeEffect (index.toNat * 256 + r.sub.toNat) { value := v }) s) :=
  congrArg Host.Outcome.next (if_neg fun e => e.elim h.1 h.2)

/-- An object without a command of its own is written by the write rules. -/
theorem writeEffect_of_no_command {index sub : Nat} (hs : sub < 256) (hi : index ≠ 0x180C ∧ index ≠ 0x1F21) (hc : commandRule index = none) (w : WriteBody) :
    writeEffect (index * 256 + sub) w = writeRule := by
  simp only [writeEffect, index_of_name hs, if_neg hi.1, if_neg hi.2, hc]

/-- An object with a command of its own is written as that command says. -/
theorem writeEffect_of_command {index sub : Nat} {e : KEffect} {row : ObjRow} (hs : sub < 256) (hi : index ≠ 0x180C ∧ index ≠ 0x1F21)
    (hc : commandRule index = some e) (hr : objRow? (index * 256 + sub) = some row) (ha : row.access ≠ .ro) (w : WriteBody) :
    writeEffect (index * 256 + sub) w = e := by
  simp only [writeEffect, index_of_name hs, if_neg hi.1, if_neg hi.2, hc, hr, if_neg ha]

/-! ## Counter setup (17 R382) -/

/-- The registers and what decides a write of the counters' setup are as before the request is taken. -/
theorem pcReg_taken {v : State} (hv : Keeps takenParts s v) (o n : Nat) : pcReg v o n = pcReg s o n := hv.get (pcReg · o n)

theorem pcScopeOk_taken {v : State} (hv : Keeps takenParts s v) (code scope : Nat) : pcScopeOk v code scope = pcScopeOk s code scope := by
  simp only [pcScopeOk, hv.variant]

theorem counterUnitReset_taken {v : State} (hv : Keeps takenParts s v) : counterUnitReset v = counterUnitReset s := hv.get counterUnitReset

/-- PC_EVENT, PC_SCOPE and PC_SLICES of an enabled counter are not written. -/
theorem writeRule_of_enabled {c : KCtx} {v : KVal} (hi : c.obj / 256 = 0x1E01 ∨ c.obj / 256 = 0x1E02 ∨ c.obj / 256 = 0x1E07)
    (he : bitOf (pcReg s Obj.PC_CONFIG c.sub) 0 = true) : writeRule c v s = (s, .state) := by
  rcases hi with h | h | h <;> simp only [writeRule, h, he, if_true]

/-- A configuration that enables a counter whose scope or sampling does not fit its event is refused. -/
theorem pcConfigRule_of_misfit {c : KCtx} {v : KVal} (he : bitOf v.toNat 0 = true)
    (hm : pcScopeOk s (pcReg s Obj.PC_EVENT c.sub) (pcReg s Obj.PC_SCOPE c.sub) = false ∨
      (bitOf v.toNat 3 = true ∧ pcSampled (pcReg s Obj.PC_EVENT c.sub) = false)) : pcConfigRule c v s = (s, .range) := by
  refine if_pos ⟨he, ?_⟩
  simpa using hm

theorem kdpObject_pcConfig_misfit {i : Instr} {v : Nat} (h : admitted s r x 0x1E03 (.write (.num v)) U.ctl = true) (he : bitOf v 0 = true)
    (hm : pcScopeOk s (pcReg s Obj.PC_EVENT r.sub.toNat) (pcReg s Obj.PC_SCOPE r.sub.toNat) = false ∨
      (bitOf v 3 = true ∧ pcSampled (pcReg s Obj.PC_EVENT r.sub.toNat) = false)) :
    kdpObject r i 0x1E03 (.write (.num v)) pcConfigRule s = taken s r x .range := by
  refine kdpObject_of_write (f := id) h fun w hw => pcConfigRule_of_misfit he ?_
  have hsub : (requestCtx x r 0x1E03 U.ctl).sub = r.sub.toNat := sub_of_name r.sub.isLt
  rwa [hsub, pcScopeOk_taken hw, pcReg_taken hw, pcReg_taken hw]

/-- Settles O52: both rules refuse before they write, in the state that takes the request as in the one before it. -/
theorem counterSetupIsChecked : Obligations.CounterSetupIsChecked := by
  unfold Obligations.CounterSetupIsChecked
  refine ⟨?enabled, ?misfit⟩
  case enabled =>
    intro r x i v s hi h he
    have hne : i ≠ 0x1813 ∧ i ≠ 0x180C := by rcases hi with rfl | rfl | rfl <;> decide
    have hplain : writeEffect (i.toNat * 256 + r.sub.toNat) { value := v } = writeRule := by
      rcases hi with rfl | rfl | rfl <;> exact writeEffect_of_no_command r.sub.isLt (by decide) rfl _
    have hindex : (i.toNat * 256 + r.sub.toNat) / 256 = 0x1E01 ∨ (i.toNat * 256 + r.sub.toNat) / 256 = 0x1E02 ∨
        (i.toNat * 256 + r.sub.toNat) / 256 = 0x1E07 := by
      rw [index_of_name r.sub.isLt]
      rcases hi with rfl | rfl | rfl <;> decide
    have hrefused : kdpObject r (.write r i { value := v }) i.toNat (.write v) (writeEffect (i.toNat * 256 + r.sub.toNat) { value := v }) s =
        taken s r x .state := by
      rw [hplain]
      refine kdpObject_of_write (f := id) h fun w hw => writeRule_of_enabled hindex ?_
      have hsub : (requestCtx x r i.toNat U.ctl).sub = r.sub.toNat := sub_of_name r.sub.isLt
      rwa [hsub, pcReg_taken hw]
    exact ⟨_, (execWrite_of_value hne v).trans (congrArg Host.Outcome.next hrefused), taken_objs .., taken_pc .., answer_mem_taken ..⟩
  case misfit =>
    intro r x v s h he hm
    have hrefused (i : Instr) := kdpObject_pcConfig_misfit (i := i) h he hm
    refine ⟨⟨_, congrArg Host.Outcome.next (hrefused _), taken_objs .., taken_pc .., answer_mem_taken ..⟩, ?_⟩
    obtain ⟨row, hrow, -, -⟩ := objRow_of_admitted h
    obtain ⟨rfl, -, -⟩ := objRow_of_single (q := pcConfigRow) r.sub.isLt (by rfl) hrow
    have hrule : writeEffect (0x1E03 * 256 + r.sub.toNat) { value := .num v.toNat } = pcConfigRule :=
      writeEffect_of_command r.sub.isLt (by decide) rfl hrow (by decide) _
    refine ⟨_, (execWrite_of_value (by decide) _).trans (congrArg Host.Outcome.next ?_), taken_objs .., taken_pc .., answer_mem_taken ..⟩
    exact (congrArg (fun e => kdpObject r _ 0x1E03 (.write (.num v.toNat)) e s) hrule).trans (hrefused _)

end

end Sys2Proof.Machine

/-! # The commands of the counter unit (17 R382 to R390) -/
namespace Sys2Proof.Machine
set_option Elab.async false

@[simp] theorem blob_setBlob_self (s : State) (u o : Nat) (b : List Byte) : (s.setBlob u o b).blob u o = b := by
  simp [State.blob, State.setBlob]

/-- The run that a command starts where it is not refused (15 R342). -/
theorem startRun_run {c : KCtx} {a : Nat} {st : Status} (h : refuses st = false) (s : State) :
    (AMap.get? (startRun c a st s).kdp.runs (objKey c.unit c.obj)).map (fun r => (r.sid, r.status)) = some (c.sid, st) := by
  rw [startRun, h]
  exact congrArg _ (AMap.get?_set_self ..)

@[simp] theorem startRun_objs (c : KCtx) (a : Nat) (st : Status) (s : State) : (startRun c a st s).objs = s.objs := (startRun_keeps .refl .rfl').get (·.objs)
@[simp] theorem startRun_pc (c : KCtx) (a : Nat) (st : Status) (s : State) : (startRun c a st s).pc = s.pc := (startRun_keeps .refl .rfl').get (·.pc)

section
variable {s : State} {r : KReq} {x : Session} {i : Instr}

/-! ## Configuration, presets and the freeze (17 R382, R383, R385) -/

theorem pcScope_fits {s : State} {v n : Nat} (h : bitOf v 0 = false ∨ (pcScopeOk s (pcReg s Obj.PC_EVENT n) (pcReg s Obj.PC_SCOPE n) &&
    (!bitOf v 3 || pcSampled (pcReg s Obj.PC_EVENT n))) = true) :
    ¬ (bitOf v 0 = true ∧ (¬ pcScopeOk s (pcReg s Obj.PC_EVENT n) (pcReg s Obj.PC_SCOPE n) = true ∨
      (bitOf v 3 = true ∧ ¬ pcSampled (pcReg s Obj.PC_EVENT n) = true))) := by
  grind

/-- A configuration that fits keeps the overflow flag. -/
def configured (n v : Nat) (s : State) : State := s.setObj U.ctl (Obj.PC_CONFIG + n) (setBit v 2 (bitOf (pcReg s Obj.PC_CONFIG n) 2))

theorem kdpObject_pcConfig_fits {v : Nat} (h : admitted s r x 0x1E03 (.write (.num v)) U.ctl = true) (hr : counterUnitReset s = false)
    (hf : bitOf v 0 = false ∨ (pcScopeOk s (pcReg s Obj.PC_EVENT r.sub.toNat) (pcReg s Obj.PC_SCOPE r.sub.toNat) &&
      (!bitOf v 3 || pcSampled (pcReg s Obj.PC_EVENT r.sub.toNat))) = true) :
    kdpObject r i 0x1E03 (.write (.num v)) pcConfigRule s = configured r.sub.toNat v (taken s r x .ok) := by
  refine kdpObject_of_write (f := configured r.sub.toNat v) h fun w hw => ?_
  have hsub : (requestCtx x r 0x1E03 U.ctl).sub = r.sub.toNat := sub_of_name r.sub.isLt
  have hfit := pcScope_fits hf
  rw [← pcScopeOk_taken hw, ← pcReg_taken hw, ← pcReg_taken hw, ← hsub] at hfit
  have hreset : ¬ counterUnitReset w = true := by rw [counterUnitReset_taken hw, hr]; decide
  refine (if_neg hfit).trans ((if_neg hreset).trans ?_)
  rw [hsub]
  rfl

/-- A preset sets the value and clears the overflow flag. -/
def preset (n v : Nat) (s : State) : State :=
  let t := s.setObj U.ctl (Obj.PC_COUNT + n) v
  t.setObj U.ctl (Obj.PC_CONFIG + n) (setBit (pcReg t Obj.PC_CONFIG n) 2 false)

theorem kdpObject_pcCount {v : Nat} (h : admitted s r x 0x1E04 (.write (.num v)) U.ctl = true) (hr : counterUnitReset s = false) :
    kdpObject r i 0x1E04 (.write (.num v)) pcCountRule s = preset r.sub.toNat v (taken s r x .ok) := by
  refine kdpObject_of_write (f := preset r.sub.toNat v) h fun w hw => ?_
  have hsub : (requestCtx x r 0x1E04 U.ctl).sub = r.sub.toNat := sub_of_name r.sub.isLt
  have hreset : ¬ counterUnitReset w = true := by rw [counterUnitReset_taken hw, hr]; decide
  refine (if_neg hreset).trans ?_
  rw [hsub]
  rfl

theorem kdpObject_pcCount_reset {v : Nat} (h : admitted s r x 0x1E04 (.write (.num v)) U.ctl = true) (hr : counterUnitReset s = true) :
    kdpObject r i 0x1E04 (.write (.num v)) pcCountRule s = taken s r x .busy :=
  kdpObject_of_write (f := id) h fun _ hw => if_pos ((counterUnitReset_taken hw).trans hr)

/-- An admitted request of an index whose single row has subindex 0 alone names it. -/
theorem name_of_only {index u : Nat} {op : KOp} (q : ObjRow) (h : admitted s r x index op u = true)
    (hq : (objRowsOf index).filter (fun r => r.index == index) = [q]) (h0 : q.subHi = 0) : index * 256 + r.sub.toNat = index * 256 := by
  obtain ⟨row, hrow, -, -⟩ := objRow_of_admitted h
  obtain ⟨-, -, hsub⟩ := objRow_of_single r.sub.isLt hq hrow
  omega

/-- A freeze of the unit abandons what is armed. -/
def frozenUnit (s : State) : State := abandonSamples (s.setObj U.ctl Obj.PC_FREEZE 1)

theorem frozenUnit_freeze (s : State) : (frozenUnit s).obj U.ctl Obj.PC_FREEZE = 1 :=
  (obj_setObj_ne _ _ (by decide) (by decide) (.inr (by decide))).trans (obj_setObj_self ..)

theorem frozenUnit_lost (s : State) : (frozenUnit s).obj U.ctl Obj.SAMPLES_LOST =
    (s.obj U.ctl Obj.SAMPLES_LOST + s.pc.armed.length) % objModulus Obj.SAMPLES_LOST := by
  refine (obj_setObj_self ..).trans ?_
  rw [obj_setObj_ne _ _ (by decide) (by decide) (.inr (by decide))]
  rfl

theorem name_pcFreeze {op : KOp} {u : Nat} (h : admitted s r x 0x1E08 op u = true) : (requestCtx x r 0x1E08 u).obj = Obj.PC_FREEZE :=
  name_of_only ⟨0x1E08, 0, 0, .bool, .rw, 2, 0, .span 0 1, [.controller]⟩ h (by rfl) rfl

theorem kdpObject_pcFreeze (h : admitted s r x 0x1E08 (.write (.num 1)) U.ctl = true) (hf : s.obj U.ctl Obj.PC_FREEZE ≠ 1)
    (hr : counterUnitReset s = false) : kdpObject r i 0x1E08 (.write (.num 1)) pcFreezeRule s = frozenUnit (taken s r x .ok) := by
  refine kdpObject_of_write h fun w hw => ?_
  have hreset : ¬ counterUnitReset w = true := by rw [counterUnitReset_taken hw, hr]; decide
  have hfreeze : ¬ w.obj U.ctl Obj.PC_FREEZE = 1 := by
    have : w.obj U.ctl Obj.PC_FREEZE = s.obj U.ctl Obj.PC_FREEZE := hw.get (State.obj · U.ctl Obj.PC_FREEZE)
    rwa [this]
  refine (if_neg hreset).trans ((if_neg Nat.one_ne_zero).trans ((if_neg hfreeze).trans ?_))
  rw [name_pcFreeze h]
  rfl

theorem kdpObject_pcThaw (h : admitted s r x 0x1E08 (.write (.num 0)) U.ctl = true) (hr : counterUnitReset s = false) :
    kdpObject r i 0x1E08 (.write (.num 0)) pcFreezeRule s = (taken s r x .ok).setObj U.ctl Obj.PC_FREEZE 0 := by
  refine kdpObject_of_write (f := fun w => w.setObj U.ctl Obj.PC_FREEZE 0) h fun w hw => ?_
  have hreset : ¬ counterUnitReset w = true := by rw [counterUnitReset_taken hw, hr]; decide
  refine (if_neg hreset).trans ((if_pos rfl).trans ?_)
  rw [name_pcFreeze h]

/-! ## Overflows without a slice (17 R384, R385) -/

theorem pcOverflow_runs_on {n : Nat} (h : bitOf (pcReg s Obj.PC_CONFIG n) 4 = false) : pcOverflow s n none = ovfNoted s n :=
  if_neg (Bool.eq_false_iff.1 h)

theorem pcOverflow_freezes {n : Nat} (h : bitOf (pcReg s Obj.PC_CONFIG n) 4 = true) : ∃ l, pcOverflow s n none =
    record (frozenUnit (ovfNoted s n)) Ev.PC_OVF_FROZEN U.ctl 0xFFFF l := ⟨_, if_pos h⟩

theorem ovfNoted_other {u o n : Nat} (hn : n ≤ 8) (ho : o < 2^24) (hc : o ≠ Obj.PC_CONFIG + n) (hf : o ≠ Obj.PC_OVF_COUNT + n) :
    (ovfNoted s n).obj u o = s.obj u o :=
  (obj_setObj_ne _ _ (counterObjs_index hn (by decide)).1 ho (.inr hf)).trans (obj_setObj_ne _ _ (counterObjs_index hn (by decide)).1 ho (.inr hc))

/-- An increment that carries writes no register of the unit but the counter's own before what follows. -/
theorem ovfNoted_carry_other {u o n v : Nat} (hn : n ≤ 8) (ho : o < 2^24) (hc : ∀ q ∈ counterObjs, o ≠ q + n) :
    (ovfNoted (s.setObj U.ctl (Obj.PC_COUNT + n) v) n).obj u o = s.obj u o :=
  (ovfNoted_other hn ho (hc _ (by decide)) (hc _ (by decide))).trans
    (obj_setObj_ne _ _ (counterObjs_index hn (by decide)).1 ho (.inr (hc _ (by decide))))

theorem pcFreeze_ne {n : Nat} (hn : n ≤ 8) : ∀ q ∈ counterObjs, Obj.PC_FREEZE ≠ q + n := by
  have h : ∀ k ≤ 8, ∀ q ∈ counterObjs, Obj.PC_FREEZE ≠ q + k := by decide
  exact h n hn
theorem samplesLost_ne {n : Nat} (hn : n ≤ 8) : ∀ q ∈ counterObjs, Obj.SAMPLES_LOST ≠ q + n := by
  have h : ∀ k ≤ 8, ∀ q ∈ counterObjs, Obj.SAMPLES_LOST ≠ q + k := by decide
  exact h n hn

theorem admitted_of_startsRun {index a u : Nat} (h : startsRun s r x index a u = true) : admitted s r x index (.exec a) u = true := by
  rw [startsRun, Bool.and_eq_true] at h
  exact h.1

/-! ## Samples (17 R387) -/

/-- Whether a transaction is one of the counter's event in its scope. -/
def sampleHit (s : State) (a : Armed) (e u : Nat) : Bool := e == pcReg s Obj.PC_EVENT a.counter && unitUnder u (pcReg s Obj.PC_SCOPE a.counter)

/-- The record of the transaction that an armed sample takes. -/
def sampleOf (s : State) (a : Armed) (slice port src line : Nat) (write hit : Bool) : Sample :=
  { cycle := s.obj U.ctl Obj.PC_CYCLES, line := line, counter := a.counter, event := pcReg s Obj.PC_EVENT a.counter, port := port, slice := slice, src := src,
    write := write, mismatch := !hit, prot := lineProtected s line, skid := a.skid + (if hit then 0 else 1) }

/-- A transaction of a slice of which one sample is armed. -/
theorem sampleStep_single {a : Armed} (hf : s.obj U.ctl Obj.PC_FREEZE ≠ 1) (hr : counterUnitReset s = false) (ha : s.pc.armed = [a])
    (port src line : Nat) (write : Bool) (e u : Nat) : sampleStep s a.slice port src line write [(e, u)] =
      if sampleHit s a e u || decide (63 ≤ a.skid) then
        pushSample { s with pc := { s.pc with armed := [] } } (sampleOf s a a.slice port src line write (sampleHit s a e u))
      else { s with pc := { s.pc with armed := [{ a with skid := a.skid + 1 }] } } := by
  have hc : ¬ (s.obj U.ctl Obj.PC_FREEZE = 1 ∨ counterUnitReset s = true) := by simp [hf, hr]
  have hsame : [a].filter (fun b => b.slice == a.slice) = [a] := by simp
  have hrest : [a].filter (fun b => !(b.slice == a.slice && b.counter == a.counter)) = [] := by simp
  rw [sampleStep, if_neg hc, ha, hsame]
  simp only [List.foldl_cons, List.foldl_nil, ha, hrest, List.any_cons, List.any_nil, Bool.or_false, List.nil_append]
  rfl

/-! ## Bandwidth windows (17 R389, R390) -/

/-- A window of a port appended, or counted missed: the freeze, the count and the history of /5 stay, and while frozen every history does. -/
structure HistoryStays (r v : State) : Prop where
  freeze : v.obj U.ctl Obj.PC_FREEZE = r.obj U.ctl Obj.PC_FREEZE
  missed : v.obj U.ports Obj.BW_MISSED = r.obj U.ports Obj.BW_MISSED
  total : AMap.getD v.pc.hist 0 [] = AMap.getD r.pc.hist 0 []
  frozen : r.obj U.ctl Obj.PC_FREEZE = 1 → v.pc.hist = r.pc.hist

/-- A window is added to the newest 32 of a port unit. -/
def historyWith (s : State) (key : Nat) (w : BwWindow) : State :=
  { s with pc := { s.pc with hist := AMap.upd s.pc.hist key [] fun h => (w :: h).take 32 } }

theorem appendWindow_frozen (h : s.obj U.ctl Obj.PC_FREEZE = 1) (k u : Nat) (w : BwWindow) : appendWindow s k u w = s.bump u Obj.BW_MISSED := if_pos h
theorem appendWindow_open (h : s.obj U.ctl Obj.PC_FREEZE ≠ 1) (k u : Nat) (w : BwWindow) : appendWindow s k u w =
    ((historyWith s k w).raiseTo u Obj.BW_READ_MAX w.read).raiseTo u Obj.BW_WRITE_MAX w.write := if_neg h

theorem raiseTo_pc (s : State) (u o v : Nat) : (s.raiseTo u o v).pc = s.pc := by
  rw [State.raiseTo]
  split <;> rfl
theorem raiseTo_obj_ne {u o u' o' v : Nat} (ho : o < 2^24) (ho' : o' < 2^24) (h : o' ≠ o) : (s.raiseTo u o v).obj u' o' = s.obj u' o' := by
  rw [State.raiseTo]
  split
  · exact obj_setObj_ne _ _ ho ho' (.inr h)
  · rfl

theorem appendWindow_open_pc (h : s.obj U.ctl Obj.PC_FREEZE ≠ 1) (k u : Nat) (w : BwWindow) :
    (appendWindow s k u w).pc = (historyWith s k w).pc := by
  rw [appendWindow_open h, raiseTo_pc, raiseTo_pc]

/-- An open window writes its maxima alone. -/
theorem appendWindow_open_obj (h : s.obj U.ctl Obj.PC_FREEZE ≠ 1) (k u : Nat) (w : BwWindow) {u' o : Nat} (ho : o < 2^24)
    (hr : o ≠ Obj.BW_READ_MAX) (hw : o ≠ Obj.BW_WRITE_MAX) : (appendWindow s k u w).obj u' o = s.obj u' o := by
  rw [appendWindow_open h, raiseTo_obj_ne (by decide) ho hw, raiseTo_obj_ne (by decide) ho hr]
  rfl

theorem port_ne_ports {n : Nat} (hn : 1 ≤ n) : U.port n ≠ U.ports := by
  simp only [U.port, U.enc, U.ports]
  omega

theorem HistoryStays.append {r v : State} {n : Nat} (h : HistoryStays r v) (hn : 1 ≤ n) (w : BwWindow) : HistoryStays r (appendWindow v n (U.port n) w) := by
  by_cases hf : v.obj U.ctl Obj.PC_FREEZE = 1
  · rw [appendWindow_frozen hf]
    exact {
      freeze := (obj_setObj_ne _ _ (by decide) (by decide) (.inr (by decide))).trans h.freeze
      missed := (obj_setObj_ne _ _ (by decide) (by decide) (.inl (port_ne_ports hn).symm)).trans h.missed
      total := h.total
      frozen := h.frozen }
  · have hother : AMap.getD (historyWith v n w).pc.hist 0 [] = AMap.getD v.pc.hist 0 [] :=
      congrArg (fun h : Option (List BwWindow) => h.getD []) (AMap.get?_set_ne _ _ (Nat.ne_of_lt hn))
    exact {
      freeze := (appendWindow_open_obj hf _ _ _ (by decide) (by decide) (by decide)).trans h.freeze
      missed := (appendWindow_open_obj hf _ _ _ (by decide) (by decide) (by decide)).trans h.missed
      total := by rw [appendWindow_open_pc hf, hother, h.total]
      frozen := fun hr => absurd (h.freeze.trans hr) hf }

/-- The windows that end are those of the ports, which leave what the last, that of /5, finds. -/
theorem windowsEnd_course (s : State) : ∃ (v : State) (w : BwWindow), HistoryStays s v ∧ w.start = s.obj U.ctl Obj.PC_CYCLES - bwLength s ∧
    windowsEnd s = { appendWindow v 0 U.ports w with
      pc := { (appendWindow v 0 U.ports w).pc with bw := [], bwFrom := s.obj U.ctl Obj.PC_CYCLES } } := by
  delta windowsEnd
  extract_lets c start win ws total ports all
  have hports : HistoryStays s ports := by
    refine List.foldlRecOn (motive := HistoryStays s) ws _ ⟨rfl, rfl, rfl, fun _ => rfl⟩ fun v h p hp => ?_
    obtain ⟨n, hn, rfl⟩ := List.mem_map.1 hp
    obtain ⟨k, -, rfl⟩ := List.mem_map.1 hn
    exact h.append (Nat.succ_pos k) _
  clear_value ports win
  exact ⟨ports, total, hports, rfl, rfl⟩

theorem execBwWindowBoundary_ends (hc : s.obj U.ctl Obj.PC_CYCLES % bwLength s = 0) (hb : s.pc.bwFrom + bwLength s ≤ s.obj U.ctl Obj.PC_CYCLES)
    (hr : counterUnitReset s = false) : execBwWindowBoundary s = .next (windowsEnd s) :=
  congrArg Host.Outcome.next (if_pos ⟨hc, hb, Bool.eq_false_iff.1 hr⟩)

/-- A new window length clears the history, and windows count from the next boundary of it. -/
def windowSet (v : Nat) (s : State) : State :=
  let t := s.setObj U.ports Obj.BW_WINDOW_US v
  { t with pc := { t.pc with bw := [], hist := [], bwFrom := (t.obj U.ctl Obj.PC_CYCLES / bwLength t + 1) * bwLength t } }

theorem name_bwWindow {op : KOp} {u : Nat} (h : admitted s r x 0x1E20 op u = true) : (requestCtx x r 0x1E20 u).obj = Obj.BW_WINDOW_US :=
  name_of_only ⟨0x1E20, 0, 0, .u32, .rw, 2, 1000, .span 1 1000000, [.hostPorts]⟩ h (by rfl) rfl

theorem kdpObject_bwWindow {v : Nat} (h : admitted s r x 0x1E20 (.write (.num v)) U.ports = true) :
    kdpObject r i 0x1E20 (.write (.num v)) bwWindowRule s = windowSet v (taken s r x .ok) := by
  refine kdpObject_of_write (f := windowSet v) h fun w _ => ?_
  rw [bwWindowRule, name_bwWindow h]
  rfl

/-! ## The snapshot (17 R386) -/

theorem name_pcSnapshot {op : KOp} {u : Nat} (h : admitted s r x 0x1E09 op u = true) : (requestCtx x r 0x1E09 u).obj = Obj.PC_SNAPSHOT :=
  name_of_only ⟨0x1E09, 0, 0, .cmd, .cmd, 2, 0, .span 1 1, [.controller]⟩ h (by rfl) rfl

theorem kdpObject_pcSnapshot {a : Nat} (h : startsRun s r x 0x1E09 a U.ctl = true) :
    kdpObject r i 0x1E09 (.exec a) pcSnapshotEffect s =
      startRun (requestCtx x r 0x1E09 U.ctl) a .ok ((taken s r x .ok).setBlob U.ctl Obj.PC_SNAP (pcSnapBytes s)) := by
  refine kdpObject_of_startsRun (f := fun v => v.setBlob U.ctl Obj.PC_SNAP (pcSnapBytes s)) h fun v hv => ?_
  have hsnap : pcSnapBytes v = pcSnapBytes s := hv.get pcSnapBytes
  rw [hsnap]

theorem answer_mem_of_out {t : State} {st : Status} (h : t.out = (taken s r x st).out) : Out.kdp x.id r.seq.toNat { status := st } ∈ t.out :=
  h ▸ answer_mem_taken s r x st

end

/-- Settles O51: each request is its rule's one update of the state that takes it; the events of the unit write their own registers and fields. -/
theorem counterCommands : Obligations.CounterCommands := by
  unfold Obligations.CounterCommands
  refine ⟨?config, ?misfit, ?preset, ?presetReset, ?overflow, ?overflowFreezes, ?noOverflow, ?freeze, ?thaw, ?snapshot, ?sample, ?skid, ?windows, ?missed, ?length⟩
  case config =>
    intro r x v s h hr hf
    refine ⟨_, congrArg Host.Outcome.next (kdpObject_pcConfig_fits h hr hf), ?_, answer_mem_of_out rfl⟩
    rw [configured, pcReg_setObj_self, pcReg_taken (taken_keeps ..)]
  case misfit =>
    intro r x v s h he hm
    have hm' : pcScopeOk s (pcReg s Obj.PC_EVENT r.sub.toNat) (pcReg s Obj.PC_SCOPE r.sub.toNat) = false ∨
        (bitOf v.toNat 3 = true ∧ pcSampled (pcReg s Obj.PC_EVENT r.sub.toNat) = false) := by
      simpa only [Bool.and_eq_false_iff, Bool.or_eq_false_iff, Bool.not_eq_false'] using hm
    exact ⟨_, congrArg Host.Outcome.next (kdpObject_pcConfig_misfit h he hm'), taken_objs .., answer_mem_taken ..⟩
  case preset =>
    intro r x v s h hr
    have hsub := r.sub.isLt
    have hne : Obj.PC_COUNT + r.sub.toNat ≠ Obj.PC_CONFIG + r.sub.toNat := by simp only [Obj.PC_COUNT, Obj.PC_CONFIG]; omega
    have hcount : Obj.PC_COUNT + r.sub.toNat < 2^24 := by simp only [Obj.PC_COUNT]; omega
    have hconfig : Obj.PC_CONFIG + r.sub.toNat < 2^24 := by simp only [Obj.PC_CONFIG]; omega
    refine ⟨_, congrArg Host.Outcome.next (kdpObject_pcCount h hr), ?_, ?_, answer_mem_of_out rfl⟩
    · exact (obj_setObj_ne _ _ hconfig hcount (.inr hne)).trans (obj_setObj_self ..)
    · refine (obj_setObj_self ..).trans (congrArg (setBit · 2 false) ?_)
      exact (obj_setObj_ne _ _ hcount hconfig (.inr hne.symm)).trans (pcReg_taken (taken_keeps ..) ..)
  case presetReset =>
    intro r x v s h hr
    exact ⟨_, congrArg Host.Outcome.next (kdpObject_pcCount_reset h hr), taken_objs .., taken_pc .., answer_mem_taken ..⟩
  case overflow =>
    intro c k s he hf hr hc h4
    have hn : c.val + 1 ≤ 8 := by omega
    obtain ⟨hcount, hconfig, hovf, -⟩ := pcAdd_overflows hn hc none
    have h4' : bitOf (pcReg (s.setObj U.ctl (Obj.PC_COUNT + (c.val + 1)) (carried s (c.val + 1) k.val)) Obj.PC_CONFIG (c.val + 1)) 4 = false := by
      rwa [pcReg_setObj_ne hn (by decide) (by decide) (by decide)]
    have hadd := (pcAdd_of_carry hc none).trans (pcOverflow_runs_on h4')
    refine ⟨_, execPcOverflow_of_counting he hf hr hc none, hcount, by rw [Option.map_none, hconfig, bitOf_setBit_two], hovf, ?_, ?_⟩
    · rw [Option.map_none, hadd]
      rfl
    · rw [Option.map_none, hadd, ovfNoted_carry_other hn (by decide) (pcFreeze_ne hn), hf]
  case overflowFreezes =>
    intro c k s he hf hr hc h4
    have hn : c.val + 1 ≤ 8 := by omega
    obtain ⟨-, hconfig, -, -⟩ := pcAdd_overflows hn hc none
    have h4' : bitOf (pcReg (s.setObj U.ctl (Obj.PC_COUNT + (c.val + 1)) (carried s (c.val + 1) k.val)) Obj.PC_CONFIG (c.val + 1)) 4 = true := by
      rwa [pcReg_setObj_ne hn (by decide) (by decide) (by decide)]
    obtain ⟨l, hfreeze⟩ := pcOverflow_freezes h4'
    have hadd := (pcAdd_of_carry hc none).trans hfreeze
    refine ⟨_, execPcOverflow_of_counting he hf hr hc none, ?_, ?_, by rw [Option.map_none, hconfig, bitOf_setBit_two], ?_⟩
    · rw [Option.map_none, hadd, record_obj _ (by decide) (by decide), frozenUnit_freeze]
    · rw [Option.map_none, hadd]
      exact (record_keeps .refl .rfl').get (·.pc.armed)
    · rw [Option.map_none, hadd, record_obj _ (by decide) (by decide), frozenUnit_lost, ovfNoted_carry_other hn (by decide) (samplesLost_ne hn)]
      rfl
  case noOverflow =>
    intro c k sl s h
    refine congrArg Host.Outcome.next (if_neg ?_)
    rw [Bool.and_eq_true, Bool.and_eq_true, Bool.and_eq_true, decide_eq_true_eq, beq_iff_eq, Bool.not_eq_true']
    rintro ⟨⟨⟨he, hf⟩, hr⟩, hc⟩
    rcases h with h | h | h | h
    · exact absurd he (by simp [h])
    · exact h hf
    · exact absurd hr (by simp [h])
    · exact absurd h (Nat.not_lt.2 hc)
  case freeze =>
    intro r x s h hf hr
    refine ⟨_, congrArg Host.Outcome.next (kdpObject_pcFreeze h hf hr), frozenUnit_freeze _, rfl, ?_, answer_mem_of_out rfl⟩
    have hlost : (taken s r x .ok).obj U.ctl Obj.SAMPLES_LOST = s.obj U.ctl Obj.SAMPLES_LOST := (taken_keeps ..).get (State.obj · U.ctl Obj.SAMPLES_LOST)
    rw [frozenUnit_lost, taken_pc, hlost]
  case thaw =>
    intro r x s h hr
    exact ⟨_, congrArg Host.Outcome.next (kdpObject_pcThaw h hr), obj_setObj_self .., taken_pc s r x .ok, answer_mem_of_out rfl⟩
  case snapshot =>
    intro r x a s h
    have hname := name_pcSnapshot (admitted_of_startsRun h)
    refine ⟨_, congrArg Host.Outcome.next (kdpObject_pcSnapshot h), ?_, ?_, ?_, ?_, ?_⟩
    · exact (congrArg (fun b => (AMap.get? b _).getD []) (startRun_blobs ..)).trans (blob_setBlob_self ..)
    · exact (startRun_objs ..).trans (taken_objs s r x .ok)
    · exact (startRun_pc ..).trans (taken_pc s r x .ok)
    · rw [← hname]
      exact startRun_run rfl _
    · exact answer_mem_of_out (startRun_out ..)
  case sample =>
    intro sl p src l w e u a s hf hr ha hsl he hu
    have hhit : sampleHit s a e.val u.toNat = true := by simp [sampleHit, he, hu]
    have hstep := sampleStep_single hf hr ha p.val src.toNat l.toNat w e.val u.toNat
    rw [hhit, Bool.true_or, if_pos rfl, hsl] at hstep
    exact ⟨_, congrArg Host.Outcome.next hstep, rfl, rfl, rfl, obj_setObj_self ..⟩
  case skid =>
    intro sl p src l w e u a s hf hr ha hsl hmiss
    have hhit : sampleHit s a e.val u.toNat = false := by
      rcases hmiss with h | h <;> simp [sampleHit, h]
    have hstep := sampleStep_single hf hr ha p.val src.toNat l.toNat w e.val u.toNat
    rw [hhit, Bool.false_or] at hstep
    refine ⟨_, (congrArg (fun q => Host.Outcome.next (sampleStep s q p src.toNat l.toNat w [(e.val, u.toNat)])) hsl.symm).trans
      (congrArg Host.Outcome.next hstep), ?_⟩
    by_cases h63 : 63 ≤ a.skid
    · rw [if_pos h63, if_pos (decide_eq_true h63)]
      exact ⟨rfl, rfl⟩
    · rw [if_neg h63, if_neg (by simpa using h63)]
      exact ⟨rfl, rfl⟩
  case windows =>
    intro s hc hb hr hf
    obtain ⟨v, w, hv, hw, hend⟩ := windowsEnd_course s
    have hfreeze : v.obj U.ctl Obj.PC_FREEZE ≠ 1 := by rwa [hv.freeze]
    have hhist : AMap.getD (windowsEnd s).pc.hist 0 [] = (w :: AMap.getD s.pc.hist 0 []).take 32 := by
      rw [hend]
      show AMap.getD (appendWindow v 0 U.ports w).pc.hist 0 [] = _
      rw [appendWindow_open_pc hfreeze, ← hv.total]
      exact congrArg (fun h : Option (List BwWindow) => h.getD []) (AMap.get?_set_self ..)
    refine ⟨_, execBwWindowBoundary_ends hc hb hr, by rw [hend], by rw [hend], ?_, ?_⟩
    · rw [hhist]
      exact congrArg some hw
    · rw [hhist, List.length_take, List.length_cons]
  case missed =>
    intro s hc hb hr hf
    obtain ⟨v, w, hv, -, hend⟩ := windowsEnd_course s
    rw [appendWindow_frozen (hv.freeze.trans hf)] at hend
    refine ⟨_, execBwWindowBoundary_ends hc hb hr, by rw [hend], by rw [hend], by rw [hend]; exact hv.frozen hf, ?_⟩
    rw [hend, ← hv.missed]
    exact obj_setObj_self ..
  case length =>
    intro r x v s h
    refine ⟨_, congrArg Host.Outcome.next (kdpObject_bwWindow h), obj_setObj_self .., rfl, rfl, ?_, answer_mem_of_out rfl⟩
    have hcycles : (taken s r x .ok).obj U.ctl Obj.PC_CYCLES = s.obj U.ctl Obj.PC_CYCLES := (taken_keeps ..).get (State.obj · U.ctl Obj.PC_CYCLES)
    have hlength : bwLength ((taken s r x .ok).setObj U.ports Obj.BW_WINDOW_US v.toNat) = 400 * v.toNat := congrArg (400 * ·) (obj_setObj_self ..)
    simp only [windowSet, hlength, obj_setObj_ne _ _ (show Obj.BW_WINDOW_US < 2^24 by decide) (show Obj.PC_CYCLES < 2^24 by decide) (.inr (by decide)), hcycles]

end Sys2Proof.Machine

/-! # Sessions: what finds one, and what closing it leaves (15 R349, R353, R357) -/
namespace Sys2Proof.Machine
set_option Elab.async false

section
variable {r s t : State}

/-! ## The session of an identifier -/

/-- A change of one session that keeps its identifier is found under it. -/
theorem findSession_updSession (s : State) (i j : Nat) (f : Session → Session) (hf : ∀ y, (f y).id = y.id) :
    findSession (updSession s i f) j = (findSession s j).map fun y => if y.id = i then f y else y := by
  have hid : ((fun y : Session => y.id == j) ∘ fun y => if y.id = i then f y else y) = fun y : Session => y.id == j := by
    funext y
    simp only [Function.comp_apply]
    split
    · rw [hf]
    · rfl
  rw [findSession, updSession_kdp, List.find?_map, hid]
  rfl

theorem findSession_id {x : Session} {i : Nat} (h : findSession s i = some x) : x.id = i := by
  simpa using List.find?_some h

/-- The session changed is the one found. -/
theorem findSession_updSession_self {x : Session} {i : Nat} (h : findSession s i = some x) (f : Session → Session) (hf : ∀ y, (f y).id = y.id) :
    findSession (updSession s i f) i = some (f x) := by
  rw [findSession_updSession s i i f hf, h, Option.map_some, if_pos (findSession_id h)]

theorem findSession_congr (h : t.kdp.sessions = s.kdp.sessions) (i : Nat) : findSession t i = findSession s i := by rw [findSession, findSession, h]

theorem findSession_countFrame (s : State) (p i : Nat) : findSession (countFrame s p) i = findSession s i :=
  findSession_congr ((countFrame_keeps .refl .rfl').get (·.kdp.sessions)) i

theorem findSession_emit (s : State) (m : Out) (i : Nat) : findSession (s.emit m) i = findSession s i :=
  findSession_congr ((emit_keeps .refl .rfl').get (·.kdp.sessions)) i

/-- A session whose request has been answered (15 R349). -/
def Session.answered (x : Session) (q : Nat) (resp : KResp) : Session :=
  { x with lastSeq := q, kept := ((q, resp) :: x.kept).take 16, held := AMap.del x.held q, executed := x.executed + 1 }

theorem findSession_answered {q : KReq} {x : Session} (h : inTurn s q x = true) (resp : KResp) :
    findSession (answered s q x resp) x.id = some (x.answered q.seq.toNat resp) := by
  have hfind := (inTurn_iff.1 h).2.1
  rw [← findSession_id hfind] at hfind
  exact (findSession_emit ..).trans
    (findSession_updSession_self ((findSession_countFrame s x.netPort x.id).trans hfind) (Session.answered · q.seq.toNat resp) fun _ => rfl)

end

/-! ## What recording an event writes

A property that each of the recorder's own updates keeps is kept by the recording of an event. -/

/-- The updates of which recording an event is made. -/
structure RecordStable (P : State → Prop) : Prop where
  obj : ∀ v u o x, P v → P (v.setObj u o x)
  trigger : ∀ v i b, i < 8 → P v → P (v.setBlob U.root (Obj.TRIGGER + i + 1) b)
  recorder : ∀ v rc, P v → P { v with recorder := rc }
  recent : ∀ v l, P v → P { v with hm := { v.hm with sram := { v.hm.sram with recent := l } } }
  deliver : ∀ v e, P v → P (deliver v e)

namespace RecordStable
variable {P : State → Prop} {s : State}

theorem bumpR (k : RecordStable P) (o : Nat) (h : P s) : P (s.bumpR o) := k.obj _ _ _ _ h

theorem noteWarning (k : RecordStable P) (c u : Nat) (h : P s) : P (noteWarning s c u) := by
  rw [Machine.noteWarning]
  split
  · exact List.foldlRecOn _ _ h fun v hv u _ => k.obj _ _ _ _ hv
  · exact h

theorem fireTrigger (k : RecordStable P) {i : Nat} (hi : i < 8) (h : P s) : P (fireTrigger s i) := by
  delta Machine.fireTrigger
  extract_lets b s1
  have h1 : P s1 := k.bumpR _ h
  split
  · exact k.trigger _ _ _ hi h1
  · exact h1

theorem flushIfOpen (k : RecordStable P) (h : P s) : P (flushIfOpen s) := by
  rw [Machine.flushIfOpen]
  split
  · delta flushBuffer
    extract_lets
    split
    · exact h
    · exact k.bumpR _ (k.recorder _ _ h)
  · exact h

theorem bufferAdd_add (k : RecordStable P) (e : EvRec) (h : P s) : P (bufferAdd.add s e) := by
  have main : ∀ (e : EvRec) (s : State), P s → P
      (let r := s.recorder
       let full := decide (r.flushedTo + 4096 ≤ r.next)
       let s := if full then s.bumpR Obj.RING_LOST else s
       let buffer := ((r.next, e) :: r.buffer).take 4096
       let flushedTo := if full then r.flushedTo + 1 else r.flushedTo
       let s := { s with recorder := { r with buffer := buffer, next := r.next + 1, flushedTo := flushedTo, lostBefore := r.lostBefore || full } }
       let s := Machine.deliver s e
       if 3 ≤ evSeverity e.code ∨ s.recorder.flushedTo + 2048 ≤ s.recorder.next then Machine.flushIfOpen s else s) := by
    intro e s h
    extract_lets r0 full s1 buffer upto s2 s3
    have h1 : P s1 := by
      unfold s1
      split
      · exact k.bumpR _ h
      · exact h
    have h3 : P s3 := k.deliver _ _ (k.recorder _ _ h1)
    split
    · exact k.flushIfOpen h3
    · exact h3
  delta bufferAdd.add
  generalize ht : triggerFor s e.code = o
  rcases o with _ | ⟨i, v, b⟩
  · exact main _ _ h
  · exact main _ _ (k.fireTrigger (triggerFor_lt ht) h)

theorem bufferAdd (k : RecordStable P) (e : EvRec) (h : P s) : P (bufferAdd s e) := by
  delta Machine.bufferAdd
  extract_lets q
  generalize q.buffer = l
  rcases l with _ | ⟨⟨p, n⟩, t⟩
  · exact k.bufferAdd_add e h
  · dsimp only
    split
    · exact k.recorder _ _ h
    · exact k.bufferAdd_add e h

theorem endFreeze (k : RecordStable P) (n : Nat) (h : P s) : P (endFreeze s n) := by
  delta Machine.endFreeze
  generalize s.recorder.freezeSid = o
  cases o with
  | none => exact h
  | some x =>
    extract_lets +onlyGivenNames lost rc s1 s2 e
    have h2 : P s2 := k.obj _ _ _ _ (k.recorder _ _ h)
    dsimp only
    split
    · exact k.bufferAdd _ h2
    · exact h2

theorem recordWith (k : RecordStable P) (hm : Bool) (c u x : Nat) (l : List Nat) (h : P s) : P (recordWith hm s c u x l) := by
  delta Machine.recordWith
  extract_lets +onlyGivenNames s1 e a b s2
  have h1 : P s1 := k.noteWarning c u h
  have h2 : P s2 := by
    unfold s2
    split
    · exact k.recent _ _ h1
    · exact h1
  clear_value s2
  split
  · exact h2
  · split
    · split
      · exact k.flushIfOpen (k.endFreeze 5 (k.bufferAdd _ h2))
      · exact k.bumpR _ h2
    · exact k.bufferAdd e h2

end RecordStable

/-! ## Which sessions there are -/

/-- The sessions are those of some identifiers, in their order. -/
def IdsAre (l : List Nat) (s : State) : Prop := s.kdp.sessions.map (·.id) = l

theorem idsAre_stable (l : List Nat) : RecordStable (IdsAre l) where
  obj _ _ _ _ h := h
  trigger _ _ _ _ h := h
  recorder _ _ h := h
  recent _ _ h := h
  deliver v e h := by
    refine Eq.trans ?_ h
    show (v.kdp.sessions.map _).map _ = _
    rw [List.map_map]
    refine List.map_congr_left fun x _ => ?_
    simp only [Function.comp_apply]
    split <;> rfl

theorem findSession_eq_none {s : State} {i : Nat} {l : List Nat} (h : IdsAre l s) (hi : i ∉ l) : findSession s i = none := by
  refine List.find?_eq_none.2 fun x hx e => hi ?_
  rw [← h]
  exact List.mem_map.2 ⟨x, hx, by simpa using e⟩

section
variable {s t : State}

theorem IdsAre.upd {l : List Nat} (h : IdsAre l s) (e : t.kdp.sessions = s.kdp.sessions := by rfl) : IdsAre l t := (congrArg (List.map Session.id) e).trans h

theorem track_ids {l : List Nat} (us : List Nat) (s0 : State) (h : IdsAre l s) : IdsAre l (track us s0 s) :=
  h.upd ((track_keeps_tracked us s0 s).get (·.kdp.sessions))

/-! ## Closing a session (15 R353) -/

theorem findSession_closeSession (s : State) (i : Nat) (tell : Bool) (reason : Status) : findSession (closeSession s i tell reason) i = none := by
  delta closeSession
  cases h : findSession s i with
  | none => exact h
  | some x =>
    extract_lets +onlyGivenNames s0 s1 k1 s2 k2 s3 t3 s4 s5
    let l := (s1.kdp.sessions.filter fun y => y.id != i).map (·.id)
    have h2 : IdsAre l s2 := rfl
    have h3 : IdsAre l s3 := by
      unfold s3
      split
      · split
        · exact h2.upd
        · exact h2
      · exact h2
    have h4 : IdsAre l s4 := by
      unfold s4
      split
      · exact h3.upd
      · exact h3
    have h5 : IdsAre l s5 := by
      unfold s5
      split
      · exact (idsAre_stable l).endFreeze 3 h4
      · exact h4
    refine findSession_eq_none (track_ids _ s0 ((idsAre_stable l).recordWith _ _ _ _ _ h5)) fun hm => ?_
    obtain ⟨y, hy, rfl⟩ := List.mem_map.1 hm
    simpa using (List.mem_filter.1 hy).2

/-- The registers that closing a session writes. -/
abbrev closeObjs : List Nat := Obj.STATE_CHANGES :: Obj.STATE_SINCE :: recordObjs

theorem track_closeObjs (us : List Nat) (s0 s : State) : RegsKeep closeObjs s (track us s0 s) :=
  ⟨(track_keeps_tracked us s0 s).variant, fun u o ho hn => track_obj us s0 s ho fun hm => hn (by
    rcases List.mem_cons.1 hm with rfl | hm
    · exact List.mem_cons_self
    · rcases List.mem_singleton.1 hm with rfl
      exact List.mem_cons_of_mem _ List.mem_cons_self)⟩

theorem closeSession_regs (s : State) (i : Nat) (tell : Bool) (reason : Status) : RegsKeep closeObjs s (closeSession s i tell reason) := by
  have hmono : ∀ o ∈ recordObjs, o ∈ closeObjs := fun _ hm => List.mem_cons_of_mem _ (List.mem_cons_of_mem _ hm)
  delta closeSession
  cases findSession s i with
  | none => exact .rfl'
  | some x =>
    extract_lets +onlyGivenNames s0 s1 k1 s2 k2 s3 t3 s4 s5
    have h1 : RegsKeep closeObjs s s1 := .ite (.emit .rfl') .rfl'
    have h2 : RegsKeep closeObjs s s2 := h1.upd
    have h3 : RegsKeep closeObjs s s3 := by
      unfold s3
      split
      · exact .ite h2.upd h2
      · exact h2
    have h4 : RegsKeep closeObjs s s4 := .ite h3.upd h3
    have h5 : RegsKeep closeObjs s s5 := .ite (h4.trans ((endFreeze_regs .rfl').mono hmono)) h4
    exact (h5.trans ((recordWith_regs .rfl').mono hmono)).trans (track_closeObjs ..)

/-- What closing a session leaves: everything but the sessions, runs, transfer, unlocker and recorder, and the registers. -/
theorem closeSession_media (s : State) (i : Nat) (tell : Bool) (reason : Status) : (closeSession s i tell reason).media = s.media :=
  (closeSession_keeps .refl .rfl').get (·.media)
theorem closeSession_wharf (s : State) (i : Nat) (tell : Bool) (reason : Status) : (closeSession s i tell reason).wharf = s.wharf :=
  (closeSession_keeps .refl .rfl').get (·.wharf)
theorem closeSession_out (s : State) (i : Nat) (tell : Bool) (reason : Status) : s.out <:+ (closeSession s i tell reason).out :=
  Kept.out (closeSession_keeps .refl .rfl')

/-- A close that the module tells is sent to the station. -/
theorem closeSession_tells {x : Session} {i : Nat} (h : findSession s i = some x) (reason : Status) :
    Out.kdpClose i reason ∈ (closeSession s i true reason).out := by
  delta closeSession
  rw [h]
  extract_lets +onlyGivenNames s0 s1 k1 s2 k2 s3 t3 s4 s5
  have h3 : s2.out <:+ s3.out := by
    unfold s3
    split
    · split <;> exact List.suffix_refl _
    · exact List.suffix_refl _
  have h4 : s3.out <:+ s4.out := by
    unfold s4
    split <;> exact List.suffix_refl _
  have h5 : s4.out <:+ s5.out := by
    unfold s5
    split
    · exact Kept.out (endFreeze_keeps .refl .rfl')
    · exact List.suffix_refl _
  have h6 {us : List Nat} {c u k : Nat} {l : List Nat} : s5.out <:+ (track us s0 (record s5 c u k l)).out :=
    (Kept.out (record_keeps .refl .rfl')).trans (Kept.out (track_keeps_tracked ..))
  exact (((h3.trans h4).trans h5).trans h6).subset List.mem_cons_self

end

end Sys2Proof.Machine

/-! # Requests of a session that only the session knows (15 R341, R349, R353, R356, R357) -/
namespace Sys2Proof.Machine
set_option Elab.async false

section
variable {s : State} {r : KReq} {x : Session} {i : Instr}

@[simp] theorem answered_media (s : State) (r : KReq) (x : Session) (p : KResp) : (answered s r x p).media = s.media := (answered_keeps s r x p).get (·.media)
@[simp] theorem answered_wharf (s : State) (r : KReq) (x : Session) (p : KResp) : (answered s r x p).wharf = s.wharf := (answered_keeps s r x p).get (·.wharf)

/-- A request that changes its session alone. -/
theorem kdpRequest_session {f : Session → Session} {g : Session → State → State × KResp} (h : inTurn s r x = true) (hf : ∀ y, (f y).id = y.id)
    (hg : ∀ v, Keeps takenParts s v → g x v = (updSession v x.id f, {})) :
    kdpRequest r i g s = updSession (answered s r x {}) x.id f ∧
      findSession (updSession (answered s r x {}) x.id f) x.id = some (f (x.answered r.seq.toNat {})) :=
  ⟨kdpRequest_answered h hg, findSession_updSession_self (findSession_answered h {}) f hf⟩

/-- A request that is answered with a status and does nothing more. -/
theorem kdpRequest_status {g : Session → State → State × KResp} {p : KResp} (h : inTurn s r x = true)
    (hg : ∀ v, Keeps takenParts s v → g x v = (v, p)) : kdpRequest r i g s = answered s r x p :=
  kdpRequest_answered (g := id) h hg

/-- The subscription that a slot takes on (15 Table OD-13). -/
def subscribed (slot : Nat) (f : Filter) (y : Session) : Session := { y with filters := AMap.set y.filters slot f }

/-- Every event message up to a number is acknowledged. -/
def eventsAcked (k : Nat) (y : Session) : Session := { y with evUnacked := y.evUnacked.filter fun m => decide (k < m.seq) }

theorem execSubscribe_accepts {a b : BitVec 8} {c : BitVec 16} {e : BitVec 32} (h : inTurn s r x = true) (hlo : 1 ≤ a.toNat) (hhi : a.toNat ≤ 4)
    (hb : b.toNat ≤ 4) (hc : c ≠ 0) (he : (expandPath s.variant e.toNat).toOption.isSome = true) :
    execSubscribe r a b c e s = .next (updSession (answered s r x {}) x.id (subscribed a.toNat ⟨b.toNat, c.toNat, e.toNat⟩)) ∧
      findSession (updSession (answered s r x {}) x.id (subscribed a.toNat ⟨b.toNat, c.toNat, e.toNat⟩)) x.id =
        some (subscribed a.toNat ⟨b.toNat, c.toNat, e.toNat⟩ (x.answered r.seq.toNat {})) := by
  have hrange : ¬ (a.toNat = 0 ∨ 4 < a.toNat ∨ 4 < b.toNat) := by omega
  obtain ⟨us, hus⟩ : ∃ us, expandPath s.variant e.toNat = .ok us := by
    cases hx : expandPath s.variant e.toNat with
    | ok us => exact ⟨us, rfl⟩
    | error _ => rw [hx] at he; exact absurd he Bool.false_ne_true
  have hcourse := kdpRequest_session (i := .subscribe r a b c e) (f := subscribed a.toNat ⟨b.toNat, c.toNat, e.toNat⟩)
    (g := fun x s =>
      if a.toNat = 0 ∨ 4 < a.toNat ∨ 4 < b.toNat then (s, { status := .range })
      else match expandPath s.variant e.toNat with
        | .error e => (s, { status := e })
        | .ok _ =>
          let f : Filter := { minSev := b.toNat, subsystems := c.toNat, unit := e.toNat }
          (updSession s x.id fun y => { y with filters := if c = 0 then AMap.del y.filters a.toNat else AMap.set y.filters a.toNat f }, {}))
    h (fun _ => rfl) fun v hv => by
      simp only [if_neg hrange, hv.variant, hus, if_neg hc]
      rfl
  exact ⟨congrArg Host.Outcome.next hcourse.1, hcourse.2⟩

theorem execSubscribe_refuses {a b : BitVec 8} {c : BitVec 16} {e : BitVec 32} (h : inTurn s r x = true)
    (hr : a.toNat = 0 ∨ 4 < a.toNat ∨ 4 < b.toNat) : execSubscribe r a b c e s = .next (answered s r x { status := .range }) :=
  congrArg Host.Outcome.next (kdpRequest_status h fun _ _ => if_pos hr)

/-! ## Event messages (15 R357) -/

/-- The message that the first waiting records go in. -/
def nextEvent (x : Session) : EvMsg := { seq := x.evSeq + 1, lost := x.evLost, recs := x.evWaiting.take 16 }

/-- A session that has sent its next message. -/
def eventSent (m : EvMsg) (y : Session) : Session :=
  { y with evSeq := m.seq, evLost := 0, evWaiting := y.evWaiting.drop 16, evUnacked := y.evUnacked ++ [m] }

theorem execEventSend_sends {j : BitVec 32} (h : findSession s j.toNat = some x) (hw : x.evWaiting ≠ []) (hu : x.evUnacked.length < 64)
    (ha : kdpAnswers s = true) (hn : netServes s x.netPort = true) : execEventSend j s =
      .next ((updSession s j.toNat (eventSent (nextEvent x))).emit (.kdpEvent j.toNat (nextEvent x).seq (nextEvent x).lost (nextEvent x).recs)) := by
  have he : x.evWaiting.isEmpty = false := by simpa using hw
  simp only [execEventSend, h, he, ha, hn, sendEvent, if_pos hu, Bool.not_true, Bool.or_false, Bool.false_eq_true, if_false]
  rfl

/-- A message sent once more. -/
def eventResent (m : EvMsg) (y : Session) : Session :=
  { y with evUnacked := y.evUnacked.map fun e => if e.seq = m.seq then { e with resends := e.resends + 1 } else e }

/-- A message that is given up: its records count as lost. -/
def eventDropped (seq records : Nat) (y : Session) : Session :=
  { y with evLost := y.evLost + records, evUnacked := y.evUnacked.filter fun e => e.seq != seq }

section
variable {j : BitVec 32} {q : BitVec 64} {m : EvMsg}

theorem execEventResend_again (h : findSession s j.toNat = some x) (hm : x.evUnacked.find? (fun e => e.seq == q.toNat) = some m) (hr : m.resends < 5)
    (ha : kdpAnswers s = true) (hn : netServes s x.netPort = true) : execEventResend j q s =
      .next ((updSession s j.toNat (eventResent m)).emit (.kdpEvent j.toNat m.seq m.lost m.recs)) := by
  simp only [execEventResend, h, ha, hn, hm, if_pos hr, findSession_id h, Bool.not_true, Bool.or_false, Bool.false_eq_true, if_false]
  rfl

theorem execEventResend_drops (h : findSession s j.toNat = some x) (hm : x.evUnacked.find? (fun e => e.seq == q.toNat) = some m) (hr : 5 ≤ m.resends)
    (ha : kdpAnswers s = true) (hn : netServes s x.netPort = true) : execEventResend j q s =
      .next (updSession (s.bumpN U.root Obj.EVENTS_DROPPED m.recs.length) j.toNat (eventDropped q.toNat m.recs.length)) := by
  have hq : m.seq = q.toNat := by simpa using List.find?_some hm
  simp only [execEventResend, h, ha, hn, hm, if_neg (Nat.not_lt.2 hr), findSession_id h, dropEvent, hq, Bool.not_true, Bool.or_false, Bool.false_eq_true,
    if_false]
  rfl

end

end

/-- Settles O44: a request in its turn changes the session that has been answered, and what follows finds it under its identifier. -/
theorem sessionRequests : Obligations.SessionRequests := by
  unfold Obligations.SessionRequests
  refine ⟨?keepalive, ?close, ?unknown, ?subscribe, ?refused, ?ack, ?idle, ?send, ?resend, ?drop⟩
  case keepalive =>
    intro r x s h
    have hcourse : kdpRequest r (.keepalive r) (fun _ s => (s, {})) s = answered s r x {} := kdpRequest_status h fun _ _ => rfl
    refine ⟨_, congrArg Host.Outcome.next hcourse, answer_mem_answered .., ?_, answered_objs .., answered_media .., answered_wharf ..⟩
    rw [findSession_answered h]
    rfl
  case close =>
    intro r x s h
    have hcourse : kdpRequest r (.closeSession r) (fun x s => (closeSession s x.id false .ok, {})) s = closeSession (answered s r x {}) x.id false .ok :=
      kdpRequest_answered (g := fun v => closeSession v x.id false .ok) h fun _ _ => rfl
    refine ⟨_, congrArg Host.Outcome.next hcourse, (closeSession_out ..).subset (answer_mem_answered ..), findSession_closeSession .., ?_, ?_⟩
    · rw [closeSession_media, answered_media]
    · rw [closeSession_wharf, answered_wharf]
  case unknown =>
    intro r x o s h ho
    have hcourse : kdpRequest r (.unknownOpcode r o) (fun _ s => (s, { status := .range })) s = answered s r x { status := .range } :=
      kdpRequest_status h fun _ _ => rfl
    have hcode : ¬ [0x01, 0x02, 0x03, 0x04, 0x10, 0x11, 0x12, 0x20, 0x21, 0x22, 0x23, 0x24, 0x30, 0x32].contains o.toNat = true := by
      rwa [List.contains_iff_mem]
    exact ⟨_, congrArg Host.Outcome.next ((if_neg hcode).trans hcourse), answer_mem_answered .., answered_objs .., answered_media ..⟩
  case subscribe =>
    intro r x a b c e s h hlo hhi hb hc he
    obtain ⟨hexec, hfind⟩ := execSubscribe_accepts h hlo hhi hb hc he
    refine ⟨_, hexec, answer_mem_answered .., ?_, answered_objs s r x {}⟩
    rw [hfind]
    exact congrArg some (AMap.get?_set_self ..)
  case refused =>
    intro r x a b c e s h hr
    refine ⟨_, execSubscribe_refuses h hr, answer_mem_answered .., ?_, answered_objs ..⟩
    rw [findSession_answered h]
    rfl
  case ack =>
    intro r x k s h
    obtain ⟨hcourse, hfind⟩ := kdpRequest_session (i := .eventAck r k) (f := eventsAcked k.toNat)
      (g := fun x s => (updSession s x.id (eventsAcked k.toNat), {})) h (fun _ => rfl) fun _ _ => rfl
    refine ⟨_, congrArg Host.Outcome.next hcourse, answer_mem_answered .., ?_, answered_objs s r x {}⟩
    rw [hfind]
    rfl
  case idle =>
    intro j x s h
    have hexec : execIdleTimeout j s = .next (closeSession (s.bumpR Obj.IDLE_CLOSES) j.toNat true .timeout) := by rw [execIdleTimeout, h]
    have hfind : findSession (s.bumpR Obj.IDLE_CLOSES) j.toNat = some x := h
    refine ⟨_, hexec, findSession_closeSession .., closeSession_tells hfind _, ?_, closeSession_wharf ..⟩
    exact ((closeSession_regs ..).2 U.root Obj.IDLE_CLOSES (by decide) (by decide)).trans (obj_setObj_self ..)
  case send =>
    intro j x s h hw hu ha hn
    refine ⟨_, execEventSend_sends h hw hu ha hn, List.mem_cons_self, ?_, rfl⟩
    rw [findSession_emit, findSession_updSession_self h (eventSent (nextEvent x)) fun _ => rfl]
    rfl
  case resend =>
    intro j q x m s h hm hr ha hn
    refine ⟨_, execEventResend_again h hm hr ha hn, List.mem_cons_self, ?_, rfl⟩
    rw [findSession_emit, findSession_updSession_self h (eventResent m) fun _ => rfl]
    rfl
  case drop =>
    intro j q x m s h hm hr ha hn
    have hfind : findSession (s.bumpN U.root Obj.EVENTS_DROPPED m.recs.length) j.toNat = some x := h
    refine ⟨_, execEventResend_drops h hm hr ha hn, obj_setObj_self .., ?_⟩
    rw [findSession_updSession_self hfind (eventDropped q.toNat m.recs.length) fun _ => rfl]
    rfl

end Sys2Proof.Machine

/-! # A tenth handshake (15 R350) -/
namespace Sys2Proof.Machine
set_option Elab.async false

theorem draw_handshakes (s : State) (m : Nat) : (s.draw m).2.kdp.handshakes = s.kdp.handshakes := rfl

theorem freshSid_handshakes (s : State) : (freshSid s).2.kdp.handshakes = s.kdp.handshakes := rfl

theorem emit_handshakes (s : State) (m : Out) : (s.emit m).kdp.handshakes = s.kdp.handshakes := (emit_keeps .refl .rfl').get (·.kdp.handshakes)

/-- An accepted OPEN drops the oldest handshake where there are eight or more, and adds one. -/
theorem openRequest_handshakes_length {s : State} {src role : Nat} (hb : (backoffOf s src).until_ ≤ s.now) (hk : (roleKey s role).isSome = true)
    (hl : s.kdp.sessions.length < s.robj Obj.SESSION_LIMIT) (p : Nat) (via : NetAddr) (port : Nat) (nc : BitVec 128) :
    (openRequest s p via src port role nc).kdp.handshakes.length =
      (if s.kdp.handshakes.length < 8 then s.kdp.handshakes.length else s.kdp.handshakes.length - 1) + 1 := by
  obtain ⟨k, hk⟩ := Option.isSome_iff_exists.1 hk
  rw [openRequest, if_neg (Nat.not_lt.2 hb), hk]
  dsimp only
  rw [if_neg (Nat.not_le.2 hl)]
  refine (congrArg List.length (emit_handshakes ..)).trans ?_
  dsimp only
  rw [List.length_append, List.length_singleton, draw_handshakes, freshSid_handshakes]
  split
  · rfl
  · rw [List.length_drop]

/-- READY with KDP on network port 1 and nine handshakes pending. -/
def nineHandshakes : State :=
  let s := (({ phase := .running } : State).setObj (U.netPort 1) Obj.NET_ENABLE_STATE 1).setObj (U.netPort 1) Obj.NET_KDP 1
  { s with
    kdp := { s.kdp with
      handshakes := (List.range 9).map fun i => { id := i + 1, role := 3, nc := 0, nd := 0, netPort := 1, src := 5, srcPort := 9 } } }

example : nineHandshakes.canonical = true := by decide

/-- The OPEN arrives and is accepted. -/
theorem execOpenSession_nineHandshakes (nc : BitVec 128) : execOpenSession 0 .linkLocal 5 { srcPort := 9 } 3 nc true nineHandshakes =
    .next (openRequest (nineHandshakes.frameIn 1) 1 .linkLocal 5 9 3 nc) := by rfl

/-- Refutes O45: an accepted OPEN drops one handshake and adds one, so that nine stay nine. The clause has eight of them for every state with more than
seven, the one with nine too. -/
theorem not_sessionOpening : ¬ Obligations.SessionOpening := by
  unfold Obligations.SessionOpening
  rintro ⟨opened, -⟩
  obtain ⟨t, ht, -, hlength, -⟩ := opened 0 .linkLocal 5 { srcPort := 9 } 3 77 nineHandshakes (by decide) (by decide) (by decide) (by decide) (by decide)
    (by decide) (by decide) (by decide) (by decide) (by decide)
  obtain rfl := Host.Outcome.next.inj ((execOpenSession_nineHandshakes 77).symm.trans ht)
  rw [openRequest_handshakes_length (by decide) (by decide) (by decide)] at hlength
  exact absurd hlength (by decide)

end Sys2Proof.Machine

/-! # A WRITE that is refused while a replay's buffers wait for their release (15 R340, 01 R25) -/
namespace Sys2Proof.Machine
set_option Elab.async false

/-- READY with a session of role 3 on network port 1, whose request 1 is next. A replay has ended and drained, and the flush buffer 1 that held its dump is
not released yet. -/
def replayDrained : State :=
  let s := (({ phase := .running } : State).setObj (U.netPort 1) Obj.NET_ENABLE_STATE 1).setObj (U.netPort 1) Obj.NET_KDP 1
  let s := s.setObj U.power (Obj.FLUSH_BUFFER_STATE + 1) 1
  { s with
    kdp := { s.kdp with sessions := [resetSession] }
    pw := { s.pw with replayed := true, drainedAt := some 0 } }

example : replayDrained.canonical = true := by decide

/-- A request of one unit that a check refuses is answered with that status and does nothing. -/
theorem kdpObject_of_refused {s : State} {r : KReq} {x : Session} {i : Instr} {index u : Nat} {op : KOp} {eff : KEffect} {e : Status} (h : inTurn s r x = true)
    (hw : isWild r.unit.toNat = false) (hp : expandPath s.variant r.unit.toNat = .ok [u])
    (hc : checkObject s x.role u (index * 256 + r.sub.toNat) op = .error e) : kdpObject r i index op eff s = taken s r x e := by
  refine kdpRequest_status h fun v hv => ?_
  have hc' : checkObject v x.role u (index * 256 + r.sub.toNat) op = .error e :=
    (checkObject_congr hv.variant (hv.get (·.phase)) (hv.get (·.cs)) ..).trans hc
  simp only [objectRequest, hv.variant, hp, hw, opOnUnit, hc', Bool.false_eq_true, if_false]

/-- The state after a WRITE of KEY_ROTATE with subindex 0, which names no object. -/
def refusedRotate : State := settle (taken replayDrained resetRequest resetSession .noObject)

theorem checkObject_replayDrained : checkObject replayDrained 3 U.root 0x181300 (.write (.num 1)) = .error .noObject := by rfl

theorem name_resetRequest : (0x1813 : BitVec 16).toNat * 256 + resetRequest.sub.toNat = 0x181300 := by decide

theorem checkObject_refusedRotate : checkObject replayDrained resetSession.role U.root ((0x1813 : BitVec 16).toNat * 256 + resetRequest.sub.toNat)
    (bodyOp { value := .num 1 }) = .error .noObject := by
  rw [name_resetRequest]
  exact checkObject_replayDrained

theorem execWrite_refusedRotate : execWrite resetRequest 0x1813 { value := .num 1 } replayDrained = .next refusedRotate := by
  have hrefused {eff : KEffect} {i : Instr} : kdpObject resetRequest i (0x1813 : BitVec 16).toNat (bodyOp { value := .num 1 }) eff replayDrained =
      taken replayDrained resetRequest resetSession .noObject :=
    kdpObject_of_refused (u := U.root) (by decide) (by decide) (by decide) checkObject_refusedRotate
  exact congrArg Host.Outcome.next ((if_pos (.inl rfl)).trans (congrArg settle hrefused))

set_option maxRecDepth 4000 in
theorem refusedRotate_buffer : AMap.get? refusedRotate.objs (objKey U.power (Obj.FLUSH_BUFFER_STATE + 1)) = some 2 := by rfl

/-- Refutes O46: a WRITE of KEY_ROTATE or SCRUB_ABORT settles what waits for the wharf, refused or not (15 R340, 01 R25), and so releases the flush buffers of
a replay that has drained. The clause of a refused WRITE has every register stay. -/
theorem not_readsAndWrites : ¬ Obligations.ReadsAndWrites := by
  unfold Obligations.ReadsAndWrites
  rintro ⟨-, refused, -⟩
  obtain ⟨t, ht, -, hobjs, -⟩ := refused resetRequest resetSession U.root 0x1813 { value := .num 1 } .noObject replayDrained (by decide) (by decide) (by decide)
    (by rw [checkObject_refusedRotate]; rfl)
  have he : exec (.write resetRequest 0x1813 { value := .num 1 }) replayDrained = .next refusedRotate := execWrite_refusedRotate
  obtain rfl := Host.Outcome.next.inj (he.symm.trans ht)
  have hbuffer := refusedRotate_buffer
  rw [hobjs] at hbuffer
  exact absurd hbuffer (by decide)

end Sys2Proof.Machine

/-! # An unreachable gateway in the staged addressing (15 R359) -/
namespace Sys2Proof.Machine
set_option Elab.async false

/-- A staged gateway that lies outside the staged subnet is refused. -/
theorem netApply_of_gateway {s : State} {c : KCtx} {a : Nat} (hg : beNat (s.blob c.unit Obj.NET_GW6) ≠ 0)
    (hp : netPrefix 128 (s.obj c.unit Obj.NET_IPV6_PREFIX) (beNat (s.blob c.unit Obj.NET_GW6)) ≠
      netPrefix 128 (s.obj c.unit Obj.NET_IPV6_PREFIX) (beNat (s.blob c.unit Obj.NET_IPV6))) : netApply c a s = (s, .range) := by
  delta netApply
  extract_lets u p num blob mode ip6 ip4 p6 p4 gw6 gw4
  split
  · rfl
  · exact if_pos (.inl ⟨hg, hp⟩)

/-- READY with KDP on network port 1. The addressing staged for port 2, which is off, obtains an address and names the gateway 8000::. -/
def gatewayStaged : State :=
  let s := (({ phase := .running } : State).setObj (U.netPort 1) Obj.NET_LINK 2).setObj (U.netPort 2) Obj.NET_ENABLE_STATE 0
  let s := (s.setObj (U.netPort 2) Obj.NET_ADDR_MODE 1).setBlob (U.netPort 2) Obj.NET_GW6 (128 :: List.replicate 15 0)
  { s with kdp := { s.kdp with sessions := [resetSession], net1 := { s.kdp.net1 with addrHeld := true } } }

example : gatewayStaged.canonical = true := by decide

/-- NET_APPLY of port 2. -/
def applyRequest : KReq := { sid := 7, seq := 1, macOk := true, unit := 0x18200000, sub := 0, wellFormed := true }

theorem gatewayStaged_starts : startsRun gatewayStaged applyRequest resetSession 0x1C35 1 (U.netPort 2) = true := by rfl

theorem kdpObject_gatewayStaged (i : Instr) : kdpObject applyRequest i 0x1C35 (.exec 1) netApplyEffect gatewayStaged =
    taken gatewayStaged applyRequest resetSession .range := by
  refine (kdpObject_of_startsRun (f := id) (st := .range) gatewayStaged_starts fun v hv => ?_).trans rfl
  have hgw : v.blob (U.netPort 2) Obj.NET_GW6 = 128 :: List.replicate 15 0 := hv.get (State.blob · (U.netPort 2) Obj.NET_GW6)
  have hip : v.blob (U.netPort 2) Obj.NET_IPV6 = [] := hv.get (State.blob · (U.netPort 2) Obj.NET_IPV6)
  have hprefix : v.obj (U.netPort 2) Obj.NET_IPV6_PREFIX = 64 := hv.get (State.obj · (U.netPort 2) Obj.NET_IPV6_PREFIX)
  refine netApply_of_gateway ?_ ?_
  · show beNat (v.blob (U.netPort 2) Obj.NET_GW6) ≠ 0
    rw [hgw]
    decide
  · show netPrefix 128 (v.obj (U.netPort 2) Obj.NET_IPV6_PREFIX) (beNat (v.blob (U.netPort 2) Obj.NET_GW6)) ≠
      netPrefix 128 (v.obj (U.netPort 2) Obj.NET_IPV6_PREFIX) (beNat (v.blob (U.netPort 2) Obj.NET_IPV6))
    rw [hgw, hip, hprefix]
    decide

/-- Refutes O48: NET_APPLY holds a staged gateway against the staged address and subnet (15 R359) and refuses one outside them with RANGE. The clause of an
address to be obtained has the addressing come into force whatever the gateway. -/
theorem not_networkPorts : ¬ Obligations.NetworkPorts := by
  unfold Obligations.NetworkPorts
  rintro ⟨-, -, -, applied, -⟩
  obtain ⟨t, ht, hmode, -⟩ := applied applyRequest resetSession (U.netPort 2) 1 1 gatewayStaged gatewayStaged_starts rfl (by decide) (by decide) (by decide)
    (by decide) (by decide) (by decide) (by decide)
  have he : exec (.netApply applyRequest 1) gatewayStaged = .next (taken gatewayStaged applyRequest resetSession .range) :=
    congrArg Host.Outcome.next (kdpObject_gatewayStaged _)
  obtain rfl := Host.Outcome.next.inj (he.symm.trans ht)
  exact absurd hmode (by decide)

end Sys2Proof.Machine

/-! # The harbourmaster store (16 R362 to R365, R369) -/
namespace Sys2Proof.Machine
set_option Elab.async false

section
variable {s : State}

@[simp] theorem taken_hm (s : State) (r : KReq) (x : Session) (st : Status) : (taken s r x st).hm = s.hm := (taken_keeps s r x st).get (·.hm)
@[simp] theorem startRun_hm (c : KCtx) (a : Nat) (st : Status) (s : State) : (startRun c a st s).hm = s.hm := (startRun_keeps .refl .rfl').get (·.hm)

theorem endRun_hm (u o : Nat) (st : Status) (s : State) : (endRun u o st s).hm = s.hm := (endRun_keeps .refl .rfl').get (·.hm)
theorem endRun_objs (u o : Nat) (st : Status) (s : State) : (endRun u o st s).objs = s.objs := (endRun_keeps .refl .rfl').get (·.objs)
theorem endRun_obj (u o : Nat) (st : Status) (s : State) (u' o' : Nat) : (endRun u o st s).obj u' o' = s.obj u' o' :=
  (endRun_keeps .refl .rfl').get (State.obj · u' o')
theorem track_hm (us : List Nat) (s0 s : State) : (track us s0 s).hm = s.hm := (track_keeps_tracked us s0 s).get (·.hm)

/-! ## HM_STORE_NOW and the spacing (16 R363) -/

/-- The store with a copy under way. -/
def storeBegun (h : Hm) : Hm := { h with storeRunning := true, storeWaiting := false, storeSpaced := false, cmdWaits := false }

theorem startStore_hm (s : State) : (startStore s).hm = storeBegun s.hm := rfl
theorem startStore_last (s : State) : (startStore s).obj U.hm Obj.HM_STORE_LAST = s.hm.opsec := obj_setObj_self ..

/-- A store that a command asks for while one runs or within the spacing waits. -/
def storeDeferred (s : State) : State := { s.bump U.hm Obj.HM_STORE_DEFERRED with hm := { s.hm with storeWaiting := true, cmdWaits := true } }

theorem storeNowRule_now {c : KCtx} {a : Nat} (hr : s.hm.storeRunning = false) (hs : s.hm.storeSpaced = true) :
    storeNowRule c a s = (startStore s, .pending) := by
  have hc : ¬ (s.hm.storeRunning = true ∨ ¬ s.hm.storeSpaced = true) := by simp [hr, hs]
  rw [storeNowRule, if_neg hc, requestStore, if_neg hc]

theorem storeNowRule_later {c : KCtx} {a : Nat} (h : s.hm.storeRunning = true ∨ s.hm.storeSpaced = false) :
    storeNowRule c a s = (storeDeferred s, .pending) := by
  have hc : s.hm.storeRunning = true ∨ ¬ s.hm.storeSpaced = true := h.imp_right Bool.eq_false_iff.1
  rw [storeNowRule, if_pos hc, requestStore, if_pos hc]
  rfl

theorem name_hmStoreNow {r : KReq} {x : Session} {op : KOp} {u : Nat} (h : admitted s r x 0x1D01 op u = true) :
    (requestCtx x r 0x1D01 u).obj = Obj.HM_STORE_NOW :=
  name_of_only ⟨0x1D01, 0, 0, .cmd, .cmd, 2, 0, .span 1 1, [.harbourmaster]⟩ h (by rfl) rfl

/-! ## The end of a store (16 R362, R364) -/

/-- The image that a store copies: the SRAM's under its next generation. -/
def nextImage (s : State) : HmImage := { s.hm.sram with generation := s.hm.sram.generation + 1 }

/-- The copies of a store and what it found, before its records are written. -/
def storeCopied (s : State) (bad : List Nat) : State :=
  { s with hm := { s.hm with sram := nextImage s, shadow := storeImage s.hm.shadow (nextImage s) bad, storeRunning := false, badPages := bad } }.bump U.hm
    Obj.HM_STORES

/-- Slots, generation and shadow of the store, the pages that failed, and the phase: what the end of a store leaves once it has copied. -/
def storeFacts (s : State) : AMap HmSlot × Nat × HmImage × List Nat × Bool × Phase :=
  (s.hm.sram.slots, s.hm.sram.generation, s.hm.shadow, s.hm.badPages, s.hm.running, s.phase)

theorem storeDone_facts (s : State) (bad : List Nat) : storeFacts (storeDone s bad) = storeFacts (storeCopied s bad) := by
  delta storeDone
  extract_lets +onlyGivenNames s0 sram img hm s1 s2 s3 s4 s5
  have h3 : storeFacts s3 = storeFacts s2 :=
    List.foldlRecOn (motive := fun v => storeFacts v = storeFacts s2) _ _ rfl fun v hv p _ => ((recordHm_keeps .refl .rfl').get storeFacts).trans hv
  have h4 : storeFacts s4 = storeFacts s3 := by
    unfold s4
    split
    · rfl
    · exact (endRun_keeps .refl .rfl').get storeFacts
  have h5 : storeFacts s5 = storeFacts s4 := by
    unfold s5
    split <;> rfl
  exact ((track_keeps_tracked _ s0 s5).get storeFacts).trans (h5.trans (h4.trans h3))

/-- The harbourmaster's state after a store of which every page verified. -/
theorem storeDone_hm (s : State) : (storeDone s []).hm =
    if s.hm.storeWaiting = true ∧ s.hm.storeSpaced = true then storeBegun (storeCopied s []).hm else (storeCopied s []).hm := by
  delta storeDone
  extract_lets +onlyGivenNames s0 sram img hm s1 s2 s3 s4 s5
  have h4 : s4.hm = (storeCopied s []).hm := by
    unfold s4
    split
    · rfl
    · exact endRun_hm ..
  have h5 : s5.hm = if s4.hm.storeWaiting = true ∧ s4.hm.storeSpaced = true then storeBegun s4.hm else s4.hm := by
    unfold s5
    split <;> rfl
  rw [track_hm, h5, h4]
  rfl

/-- A store of which every page verified counts. -/
theorem storeDone_stores (s : State) : (storeDone s []).obj U.hm Obj.HM_STORES = (s.obj U.hm Obj.HM_STORES + 1) % objModulus Obj.HM_STORES := by
  delta storeDone
  extract_lets +onlyGivenNames s0 sram img hm s1 s2 s3 s4 s5
  have h2 : s2.obj U.hm Obj.HM_STORES = (s.obj U.hm Obj.HM_STORES + 1) % objModulus Obj.HM_STORES := obj_setObj_self ..
  have h4 : s4.obj U.hm Obj.HM_STORES = s2.obj U.hm Obj.HM_STORES := by
    unfold s4
    split
    · rfl
    · exact endRun_obj ..
  have h5 : s5.obj U.hm Obj.HM_STORES = s4.obj U.hm Obj.HM_STORES := by
    unfold s5
    split
    · exact obj_setObj_ne _ _ (by decide) (by decide) (.inr (by decide))
    · rfl
  rw [track_obj _ _ _ (by decide) (by decide), h5, h4, h2]

end

/-! ## What a failed page keeps (16 R364) -/

/-- Entries put or removed one after another: a key put reads as it was put last, which is by a function of the key. -/
theorem get?_foldl_put {α : Type} (f : Nat → Option α) (j : Nat) (l : List Nat) {m : AMap α} (h : AMap.wf m = true) :
    AMap.get? (l.foldl (fun m k => AMap.put m k (f k)) m) j = if j ∈ l then f j else AMap.get? m j := by
  induction l generalizing m with
  | nil => rfl
  | cons a t ih =>
    rw [List.foldl_cons, ih (AMap.wf_put h a (f a))]
    by_cases hj : j ∈ t
    · rw [if_pos hj, if_pos (List.mem_cons_of_mem _ hj)]
    · rw [if_neg hj]
      by_cases ha : j = a
      · subst ha
        rw [if_pos List.mem_cons_self]
        cases f j with
        | some v => exact AMap.get?_set_self ..
        | none => exact AMap.get?_del_self h j
      · rw [if_neg (by simp [hj, ha])]
        cases f a with
        | some v => exact AMap.get?_set_ne _ _ ha
        | none => exact AMap.get?_del_ne _ ha

theorem storeImage_slot {old new : HmImage} {bad : List Nat} (hb : bad ≠ []) {k : Nat} (hk : k < 26) : AMap.get? (storeImage old new bad).slots k =
    storedSlot (AMap.get? old.slots k) (AMap.get? new.slots k) (slotPages (k / 2) (k % 2 == 1)) bad := by
  rw [storeImage, if_neg (by simpa using hb)]
  exact (get?_foldl_put _ k _ rfl).trans (if_pos (List.mem_range.2 hk))

theorem storeImage_generation {old new : HmImage} {bad : List Nat} (hb : bad ≠ []) : (storeImage old new bad).generation =
    if 0 ∈ bad then old.generation else new.generation := by
  rw [storeImage, if_neg (by simpa using hb)]
  exact if_congr List.contains_iff_mem rfl rfl

/-- A slot of one page is the earlier one where the page failed. -/
theorem storedSlot_single (old new : Option HmSlot) (p : Nat) (bad : List Nat) : storedSlot old new [p] bad = if p ∈ bad then old else new := by
  by_cases hp : p ∈ bad <;> by_cases he : old = new <;> simp [storedSlot, hp, he]

theorem slotPages_eventSlot : slotPages (2 / 2) (2 % 2 == 1) = [1] := by decide

theorem mem_pages {bad : List (Fin 256)} {p : Fin 256} : p.val ∈ bad.map (·.val) ↔ p ∈ bad :=
  List.mem_map_of_injective Fin.val_injective

/-! ## The window (16 R365) -/

/-- A byte of the station area stored; a zero byte takes no entry. -/
def putByte (m : AMap Byte) (k : Nat) (b : Byte) : AMap Byte := if b = 0 then AMap.del m k else AMap.set m k b
/-- A byte of the station area. -/
def stationByte (m : AMap Byte) (k : Nat) : Byte := (AMap.get? m k).getD 0

theorem putByte_wf {m : AMap Byte} (h : AMap.wf m = true) (k : Nat) (b : Byte) : AMap.wf (putByte m k b) = true := by
  rw [putByte]
  split
  · exact AMap.wf_del h k
  · exact AMap.wf_set h k b

theorem stationByte_putByte {m : AMap Byte} (h : AMap.wf m = true) (k j : Nat) (b : Byte) : stationByte (putByte m k b) j = if j = k then b else stationByte m j := by
  by_cases hj : j = k
  · subst hj
    rw [if_pos rfl, putByte, stationByte]
    split
    case isTrue hb => rw [AMap.get?_del_self h, hb]; rfl
    case isFalse => rw [AMap.get?_set_self]; rfl
  · rw [if_neg hj, putByte, stationByte, stationByte]
    split
    · rw [AMap.get?_del_ne _ hj]
    · rw [AMap.get?_set_ne _ _ hj]

/-- The bytes of `l`, numbered from `n`, stored at `key` of their numbers. -/
def putBytes (key : Nat → Nat) (n : Nat) (l : List Byte) (m : AMap Byte) : AMap Byte :=
  (l.zip (List.range' n l.length)).foldl (fun m p => putByte m (key p.2) p.1) m

theorem putBytes_cons (key : Nat → Nat) (n : Nat) (b : Byte) (l : List Byte) (m : AMap Byte) :
    putBytes key n (b :: l) m = putBytes key (n + 1) l (putByte m (key n) b) := rfl

/-- A place that none of the keys names reads as before. -/
theorem stationByte_putBytes_ne {key : Nat → Nat} {j : Nat} (l : List Byte) {n : Nat} {m : AMap Byte} (h : AMap.wf m = true)
    (hj : ∀ k, n ≤ k → k < n + l.length → j ≠ key k) : stationByte (putBytes key n l m) j = stationByte m j := by
  induction l generalizing n m with
  | nil => rfl
  | cons b t ih =>
    rw [List.length_cons] at hj
    rw [putBytes_cons, ih (putByte_wf h ..) fun k hk hl => hj k (by omega) (by omega), stationByte_putByte h, if_neg (hj n le_rfl (by omega))]

/-- With no key twice, each byte reads back at its key. -/
theorem stationByte_putBytes {key : Nat → Nat} (l : List Byte) {n : Nat} {m : AMap Byte} (h : AMap.wf m = true)
    (hinj : ∀ i k, i < k → k < n + l.length → n ≤ i → key i ≠ key k) {k : Nat} (hk : k < l.length) :
    stationByte (putBytes key n l m) (key (n + k)) = l.getD k 0 := by
  induction l generalizing n m k with
  | nil => exact absurd hk (Nat.not_lt_zero _)
  | cons b t ih =>
    rw [List.length_cons] at hinj hk
    rw [putBytes_cons]
    cases k with
    | zero =>
      have hrest : ∀ i, n + 1 ≤ i → i < n + 1 + t.length → key n ≠ key i := fun i hi hl => hinj n i (by omega) (by omega) le_rfl
      exact (stationByte_putBytes_ne t (putByte_wf h ..) hrest).trans ((stationByte_putByte h ..).trans (if_pos rfl))
    | succ k =>
      have he : n + (k + 1) = n + 1 + k := by omega
      rw [he, ih (putByte_wf h ..) (fun i k hi hl hn => hinj i k hi (by omega) (by omega)) (by omega)]
      rfl

/-- Where a window write at `a` puts its byte `k`. -/
def windowKey (a k : Nat) : Nat := a / 256 * 256 - 0xC000 + (a + k) % 256

theorem windowWrite_station_eq (s : State) (a : Nat) (l : List Byte) :
    (windowWrite s a l).hm.sram.station = putBytes (windowKey a) 0 l s.hm.sram.station := by
  rw [putBytes, ← List.range_eq_range']
  rfl

/-- The row of HM_WINDOW_DATA (16 Table HM-5). -/
def windowDataRow : ObjRow := ⟨0x1D03, 0, 0, .blob, .rw, 2, 0, .bytes 1 256, [.harbourmaster]⟩

section
variable {s : State} {r : KReq} {x : Session}

theorem admitted_window_length {l : List Byte} (h : admitted s r x 0x1D03 (.write (.bytes l)) U.hm = true) : l.length ≤ 256 := by
  obtain ⟨row, hcheck⟩ := (admitted_iff.1 h).2.2.2.1
  obtain ⟨hp, hv⟩ := checkObject_ok hcheck
  obtain ⟨rfl, -, -⟩ := objRow_of_single (q := windowDataRow) r.sub.isLt (by rfl) (objRow_of_objPresent hp).1
  by_contra hl
  have hrange : valueCheck windowDataRow (.bytes l) ≠ none := by
    rw [valueCheck, if_pos (.inl rfl)]
    split
    · exact Option.some_ne_none _
    · exact fun hc => by simp [windowDataRow, hl] at hc
  exact hrange hv

theorem stationByte_windowWrite {l : List Byte} (hs : AMap.wf s.hm.sram.station = true) (hl : l.length ≤ 256) (a : Nat) {k : Nat} (hk : k < l.length) :
    stationByte (windowWrite s a l).hm.sram.station (windowKey a k) = l.getD k 0 := by
  have hinj : ∀ i k, i < k → k < 0 + l.length → 0 ≤ i → windowKey a i ≠ windowKey a k := fun i k hi hk _ => by
    unfold windowKey
    omega
  rw [windowWrite_station_eq]
  have h := stationByte_putBytes l hs hinj hk
  rwa [Nat.zero_add] at h

theorem station_wf (h : Memory.wf s = true) : AMap.wf s.hm.sram.station = true := by
  simp only [Memory.wf, stationWf, Bool.and_eq_true] at h
  obtain ⟨⟨⟨⟨⟨⟨-, hstation, -⟩, -⟩, -⟩, -⟩, -⟩, -⟩ := h
  exact hstation

/-! ## The operating seconds and VDD_AON (16 R363, R369) -/

theorem writeOpsec_kept {i v : Nat} (h : cellTop s.hm.opsecCells = some (i, v)) (hv : v = s.hm.opsec) :
    writeOpsec s = { s with hm := { s.hm with opsecSince := 0 } } := by
  rw [writeOpsec, h]
  exact if_pos hv

theorem writeOpsec_moved {i v : Nat} (h : cellTop s.hm.opsecCells = some (i, v)) (hv : v ≠ s.hm.opsec) :
    writeOpsec s = { s with hm := { s.hm with opsecCells := AMap.set s.hm.opsecCells ((i + 1) % 16) s.hm.opsec, opsecSince := 0 } } := by
  rw [writeOpsec, h]
  exact (if_neg hv).trans (by rw [writeCell, h])

/-- A store at once leaves the shadow as the SRAM, with no store under way or waiting. -/
theorem storeNow_hm (s : State) : (storeNow s).hm = { s.hm with
    sram := nextImage s, shadow := nextImage s, storeRunning := false, storeWaiting := false, storeSpaced := false, cmdWaits := false, badPages := [] } := by
  rw [storeNow, storeDone_hm, if_neg fun h => Bool.noConfusion h.1]
  rfl

/-- The store that VDD_AON low begins at once. -/
def aonStored (s : State) : State := storeNow (writeOpsec s)

theorem aonStored_slots (s : State) : (aonStored s).hm.sram.slots = s.hm.sram.slots := by
  rw [aonStored, storeNow_hm]
  exact (writeOpsec_keeps .refl .rfl').get (·.hm.sram.slots)
theorem aonStored_shadow (s : State) : (aonStored s).hm.shadow = (aonStored s).hm.sram := by rw [aonStored, storeNow_hm]
theorem aonStored_running (s : State) : (aonStored s).hm.running = s.hm.running := by
  rw [aonStored, storeNow_hm]
  exact (writeOpsec_keeps .refl .rfl').get (·.hm.running)
theorem aonStored_storeRunning (s : State) : (aonStored s).hm.storeRunning = false := by rw [aonStored, storeNow_hm]
theorem aonStored_phase (s : State) : (aonStored s).phase = s.phase :=
  ((storeNow_keeps .refl .rfl').get (·.phase)).trans ((writeOpsec_keeps .refl .rfl').get (·.phase))

/-- The harbourmaster stopped with the module down. -/
def aonStopped (s1 : State) : State := { s1 with
  hm := { s1.hm with running := false, storeRunning := false, storeWaiting := false, cmdWaits := false }
  pins := { s1.pins with tapIr := 0, tapDrive := 0 } }

theorem vddAonLow_down (hr : s.hm.running = true) (hp : s.phase = .cold ∨ s.phase = .latchedOff) :
    exec .vddAonLow s = .next (track [U.hm, U.rail 18, U.power, U.root] (aonStored s) (aonStopped (aonStored s))) :=
  congrArg Host.Outcome.next ((if_pos hr).trans (if_pos hp))

theorem vddAonLow_up (hr : s.hm.running = true) (hc : s.phase ≠ .cold) (hl : s.phase ≠ .latchedOff) : exec .vddAonLow s = .next (aonStored s) :=
  congrArg Host.Outcome.next ((if_pos hr).trans (if_neg (not_or.2 ⟨hc, hl⟩)))

end

/-- Settles O49: a store is copied and counted in `storeCopied`, a request that must wait is `storeDeferred`, and the window and VDD_AON act on the
harbourmaster's own fields. -/
theorem storeCommands : Obligations.StoreCommands := by
  unfold Obligations.StoreCommands
  refine ⟨?now, ?later, ?spacedWaits, ?spacedIdle, ?copied, ?failed, ?window, ?outside, ?down, ?up, ?secondsMoved, ?secondsKept⟩
  case now =>
    intro r x a s h hr hs
    have hrule : ∀ v, Keeps takenParts s v → storeNowRule (requestCtx x r 0x1D01 U.hm) a.toNat v = (startStore v, .pending) := fun v hv =>
      storeNowRule_now ((hv.get (·.hm.storeRunning)).trans hr) ((hv.get (·.hm.storeSpaced)).trans hs)
    have hname := name_hmStoreNow (admitted_of_startsRun h)
    refine ⟨_, congrArg Host.Outcome.next (kdpObject_of_startsRun h hrule), ?_, ?_, ?_, answer_mem_of_out (startRun_out ..)⟩
    · rw [startRun_hm, startStore_hm, taken_hm]
      rfl
    · rw [State.obj, startRun_objs]
      exact (startStore_last _).trans (by rw [taken_hm])
    · rw [← hname]
      exact startRun_run rfl _
  case later =>
    intro r x a s h hw
    have hrule : ∀ v, Keeps takenParts s v → storeNowRule (requestCtx x r 0x1D01 U.hm) a.toNat v = (storeDeferred v, .pending) := fun v hv =>
      storeNowRule_later (hw.imp (hv.get (·.hm.storeRunning)).trans (hv.get (·.hm.storeSpaced)).trans)
    refine ⟨_, congrArg Host.Outcome.next (kdpObject_of_startsRun h hrule), ?_, ?_, answer_mem_of_out (startRun_out ..)⟩
    · rw [startRun_hm, storeDeferred, taken_hm]
    · have hcount : (taken s r x .pending).obj U.hm Obj.HM_STORE_DEFERRED = s.obj U.hm Obj.HM_STORE_DEFERRED :=
        (taken_keeps ..).get (State.obj · U.hm Obj.HM_STORE_DEFERRED)
      rw [State.obj, startRun_objs, ← hcount]
      exact obj_setObj_self ..
  case spacedWaits =>
    intro s hr hs hw hn
    have hc : s.hm.running = true ∧ ¬ s.hm.storeSpaced = true := ⟨hr, by simp [hs]⟩
    have hd : s.hm.storeWaiting = true ∧ ¬ s.hm.storeRunning = true := ⟨hw, by simp [hn]⟩
    exact ⟨_, congrArg Host.Outcome.next ((if_pos hc).trans (if_pos hd)), rfl, startStore_last _⟩
  case spacedIdle =>
    intro s hr hs hi
    have hc : s.hm.running = true ∧ ¬ s.hm.storeSpaced = true := ⟨hr, by simp [hs]⟩
    have hd : ¬ (s.hm.storeWaiting = true ∧ ¬ s.hm.storeRunning = true) := fun ⟨hw, hn⟩ => hi.elim (fun h => by simp [h] at hw) hn
    exact congrArg Host.Outcome.next ((if_pos hc).trans (if_neg hd))
  case copied =>
    intro s hr
    have hfacts := storeDone_facts s []
    simp only [storeFacts, Prod.mk.injEq] at hfacts
    obtain ⟨hslots, hgeneration, hshadow, hbad, -, -⟩ := hfacts
    refine ⟨_, congrArg Host.Outcome.next (if_pos hr), hslots, hgeneration, hshadow, hbad, storeDone_stores s, ?_⟩
    rw [List.map_nil, storeDone_hm]
    cases s.hm.storeWaiting <;> cases s.hm.storeSpaced <;> rfl
  case failed =>
    intro bad s hr hb
    have hb' : bad.map (·.val) ≠ [] := by simpa using hb
    have hfacts := storeDone_facts s (bad.map (·.val))
    simp only [storeFacts, Prod.mk.injEq] at hfacts
    obtain ⟨hslots, -, hshadow, hbad, -, -⟩ := hfacts
    refine ⟨_, congrArg Host.Outcome.next (if_pos hr), hbad, ?_, ?_, hslots⟩
    · rw [hshadow]
      refine (storeImage_slot hb' (by decide)).trans ?_
      rw [slotPages_eventSlot, storedSlot_single]
      exact if_congr (mem_pages (p := 1)) rfl rfl
    · rw [hshadow]
      exact (storeImage_generation hb').trans (if_congr (mem_pages (p := 0)) rfl rfl)
  case window =>
    intro r x l s hm h ho
    have hrule : ∀ v, Keeps takenParts s v → windowRule (requestCtx x r 0x1D03 U.hm) (.bytes l) v =
        (windowWrite v (s.obj U.hm Obj.HM_WINDOW_ADDR) l, .ok) := fun v hv => by
      have ha : v.obj U.hm Obj.HM_WINDOW_ADDR = s.obj U.hm Obj.HM_WINDOW_ADDR := hv.get (State.obj · U.hm Obj.HM_WINDOW_ADDR)
      rw [← ha] at ho ⊢
      exact if_pos ho
    refine ⟨_, congrArg Host.Outcome.next (kdpObject_of_write h hrule), fun k hk => ?_, ?_, ?_, taken_objs s r x .ok, answer_mem_of_out rfl⟩
    · exact stationByte_windowWrite (s := taken s r x .ok) (by rw [taken_hm]; exact station_wf hm) (admitted_window_length h) _ hk
    · exact congrArg (·.sram.slots) (taken_hm s r x .ok)
    · exact congrArg (·.shadow) (taken_hm s r x .ok)
  case outside =>
    intro r x l s h ho
    have hrule : ∀ v, Keeps takenParts s v → windowRule (requestCtx x r 0x1D03 U.hm) (.bytes l) v = (v, .denied) := fun v hv => by
      have ha : v.obj U.hm Obj.HM_WINDOW_ADDR = s.obj U.hm Obj.HM_WINDOW_ADDR := hv.get (State.obj · U.hm Obj.HM_WINDOW_ADDR)
      rw [← ha] at ho
      exact if_neg (by simp [ho])
    exact ⟨_, congrArg Host.Outcome.next (kdpObject_of_write (f := id) h hrule), taken_hm .., taken_objs .., answer_mem_taken ..⟩
  case down =>
    intro s hr hp
    refine ⟨_, vddAonLow_down hr hp, ?_, ?_, ?_, ?_, ?_, ?_⟩
    · rw [track_hm]; rfl
    · rw [track_hm]; rfl
    · rw [track_hm]; rfl
    · rw [track_hm]; exact aonStored_shadow s
    · rw [track_hm]; exact aonStored_slots s
    · exact ((track_keeps_tracked ..).get (·.phase)).trans (aonStored_phase s)
  case up =>
    intro s hr hc hl
    exact ⟨_, vddAonLow_up hr hc hl, (aonStored_running s).trans hr, aonStored_storeRunning s, aonStored_shadow s, aonStored_slots s, aonStored_phase s⟩
  case secondsMoved =>
    intro i v s hr h hv
    refine ⟨_, congrArg Host.Outcome.next ((if_pos hr).trans (writeOpsec_moved h hv)), AMap.get?_set_self .., rfl, rfl⟩
  case secondsKept =>
    intro i v s hr h hv
    exact congrArg Host.Outcome.next ((if_pos hr).trans (writeOpsec_kept h hv))

end Sys2Proof.Machine

/-! # The start steps of BOOTING and LOADING (18 R399, R404; 12 R300; 01 R24; 11 R260, R273, R274; 07 R180) -/
namespace Sys2Proof.Machine
set_option Elab.async false

section
variable {s : State}

/-! ## The steps of BOOTING -/

theorem syncRec_phase (s : State) (id : Nat) : (syncRec s id).phase = s.phase := (syncRec_keeps .refl .rfl').get (·.phase)
theorem setBootFails_phase (s : State) (i v : Nat) : (setBootFails s i v).phase = s.phase := (setBootFails_keeps .refl .rfl').get (·.phase)

theorem enterLoading_phase (s : State) : (enterLoading s).phase = .loading := by
  delta enterLoading
  extract_lets +onlyGivenNames i slot cs s1 fused ts low raised raisedTs s2
  have h1 : s1.phase = .loading := setBootFails_phase ..
  have h2 : s2.phase = s1.phase := by
    unfold s2
    split
    · split
      · split
        · rfl
        · split <;> rfl
      · rfl
    · rfl
  exact (trackAll_phase ..).trans ((syncRec_phase ..).trans (h2.trans h1))

/-- Whether every step of BOOTING is done and nothing holds the start there. -/
def bootComplete (s : State) : Prop :=
  (s.phase = .booting ∧ s.cs.fwRunning = true ∧ s.cs.hbmTrained = true ∧ s.cs.linksTrained = true ∧ ¬ s.cs.bootHeld = true) ∧ s.robj Obj.BOOT_HOLD ≠ 1

theorem finishBoot_phase_complete (h : bootComplete s) : (finishBoot s).phase = .loading := by
  obtain ⟨hc, hh⟩ := h
  rw [finishBoot, if_pos hc, if_neg hh]
  exact enterLoading_phase s

theorem finishBoot_phase_waiting (h : ¬ bootComplete s) : (finishBoot s).phase = s.phase := by
  rw [finishBoot]
  split
  case isTrue hc =>
    rw [if_pos (by_contra fun hh => h ⟨hc, hh⟩), syncRec_phase]
    rfl
  case isFalse => rfl

theorem finishBoot_phase_from (h : s.phase = .booting) : (finishBoot s).phase = .booting ∨ (finishBoot s).phase = .loading := by
  by_cases hc : bootComplete s
  · exact .inr (finishBoot_phase_complete hc)
  · exact .inl ((finishBoot_phase_waiting hc).trans h)

/-- What finishing a step of BOOTING and noting its time leave of the start's own progress. -/
def startProgress (s : State) : Bool × Bool × Bool × Bool × Bool :=
  (s.cs.fwRunning, s.cs.hbmTrained, s.cs.linksTrained, s.cs.mapLoaded, s.cs.replayDone)

theorem finishBoot_progress (s : State) : startProgress (finishBoot s) = startProgress s := (finishBoot_keeps .refl .rfl').get startProgress
theorem noteStart_progress (s : State) (k : Nat) : startProgress (noteStart s k) = startProgress s := (noteStart_keeps .refl .rfl').get startProgress
theorem noteStart_replayDone (s : State) (k : Nat) : (noteStart s k).cs.replayDone = s.cs.replayDone := congrArg (·.2.2.2.2) (noteStart_progress s k)
theorem noteStart_incomplete (s : State) (k : Nat) : (noteStart s k).pw.incomplete = s.pw.incomplete := (noteStart_keeps .refl .rfl').get (·.pw.incomplete)
theorem noteStart_phase (s : State) (k : Nat) : (noteStart s k).phase = s.phase := (noteStart_keeps .refl .rfl').get (·.phase)

theorem noteStart_obj (s : State) {k u o : Nat} (hk : Obj.START_LAST_MS + k < 2^24) (ho : o < 2^24) (hn : o ∉ (Obj.START_LAST_MS + k) :: recordObjs) :
    (noteStart s k).obj u o = s.obj u o := by
  rw [List.mem_cons, not_or] at hn
  obtain ⟨hlast, hrec⟩ := hn
  delta noteStart
  extract_lets +onlyGivenNames d s1 s2
  have h1 : s1.obj u o = s.obj u o := obj_setObj_ne _ _ hk ho (.inr hlast)
  have h2 : s2.obj u o = s1.obj u o := by
    unfold s2
    split
    · exact record_obj _ ho hrec
    · rfl
  exact h2.trans h1

/-- A step of BOOTING that ends notes its time, and the last of them goes on. -/
theorem bootStep_phase {s0 v : State} (k : Nat) (us : List Nat) (hk : Obj.START_LAST_MS + k < 2^24)
    (hh : Obj.BOOT_HOLD ∉ (Obj.START_LAST_MS + k) :: recordObjs) (hp : v.phase = .booting) :
    (finishBoot (noteStart (track us s0 v) k)).phase = if startProgress v = (true, true, true, v.cs.mapLoaded, v.cs.replayDone) ∧
      v.cs.bootHeld = false ∧ v.robj Obj.BOOT_HOLD ≠ 1 then .loading else .booting := by
  have hphase : (noteStart (track us s0 v) k).phase = .booting := (noteStart_phase ..).trans ((track_phase ..).trans hp)
  have hprog : startProgress (noteStart (track us s0 v) k) = startProgress v :=
    (noteStart_progress ..).trans ((track_keeps_tracked us s0 v).get startProgress)
  have hheld : (noteStart (track us s0 v) k).cs.bootHeld = v.cs.bootHeld :=
    ((noteStart_keeps .refl .rfl').get (·.cs.bootHeld)).trans ((track_keeps_tracked us s0 v).get (·.cs.bootHeld))
  have hhold : (noteStart (track us s0 v) k).robj Obj.BOOT_HOLD = v.robj Obj.BOOT_HOLD :=
    (noteStart_obj _ hk (by decide) hh).trans (track_obj _ _ _ (by decide) (by decide))
  have hiff : bootComplete (noteStart (track us s0 v) k) ↔ startProgress v = (true, true, true, v.cs.mapLoaded, v.cs.replayDone) ∧
      v.cs.bootHeld = false ∧ v.robj Obj.BOOT_HOLD ≠ 1 := by
    simp only [startProgress, Prod.mk.injEq] at hprog ⊢
    obtain ⟨hfw, hhbm, hlinks, -, -⟩ := hprog
    rw [bootComplete, hphase, hfw, hhbm, hlinks, hheld, hhold, Bool.not_eq_true]
    simp only [and_assoc, true_and, and_true]
  by_cases hc : bootComplete (noteStart (track us s0 v) k)
  · rw [finishBoot_phase_complete hc, if_pos (hiff.1 hc)]
  · rw [finishBoot_phase_waiting hc, if_neg (mt hiff.2 hc), hphase]

theorem bootStep_progress (s0 v : State) (k : Nat) (us : List Nat) : startProgress (finishBoot (noteStart (track us s0 v) k)) = startProgress v :=
  (finishBoot_progress ..).trans ((noteStart_progress ..).trans ((track_keeps_tracked us s0 v).get startProgress))

/-- The banks whose link is not back yet, and the stacks off. -/
def linkFacts (s : State) : List Nat × List Nat := (s.pw.bankLink, s.media.offStacks)

theorem finishBoot_links (s : State) : linkFacts (finishBoot s) = linkFacts s := (finishBoot_keeps .refl .rfl').get linkFacts
theorem noteStart_links (s : State) (k : Nat) : linkFacts (noteStart s k) = linkFacts s := (noteStart_keeps .refl .rfl').get linkFacts
theorem track_links (us : List Nat) (s0 s : State) : linkFacts (track us s0 s) = linkFacts s := (track_keeps_tracked us s0 s).get linkFacts

theorem bootStep_links (s0 v : State) (k : Nat) (us : List Nat) : linkFacts (finishBoot (noteStart (track us s0 v) k)) = linkFacts v :=
  (finishBoot_links ..).trans ((noteStart_links ..).trans (track_links ..))

/-- The media links trained: no bank waits for its link, and the stacks that are off are those not on. -/
def linksUp (s : State) : State :=
  { s with cs := { s.cs with linksTrained := true }, pw := { s.pw with bankLink := [] }, media := { s.media with offStacks := stacksNotOn s } }

theorem mediaLinksTrained_next (hp : s.phase = .booting) (hf : s.cs.fwRunning = true) (hl : s.cs.linksTrained = false) :
    exec .mediaLinksTrained s = .next (finishBoot (noteStart (trackAll s (linksUp s)) 4)) :=
  congrArg Host.Outcome.next (if_pos ⟨hp, hf, by simp [hl]⟩)

/-! ## The firmware (18 R404) -/

/-- What the firmware does once it runs, before the step's time is noted: it reads the plans' records. -/
def plansRead (s : State) (a p : Nat) : State := planFallback (readRec (readRec s 11) 12) a p

/-- The phase and the progress of the start. -/
def startOf (s : State) : Phase × Clocks := (s.phase, s.cs)

theorem readRec_startOf (s : State) (id : Nat) : startOf (readRec s id) = startOf s := (readRec_keeps .refl .rfl').get startOf

theorem plansRead_startOf (s : State) (a p : Nat) : startOf (plansRead s a p) = startOf s :=
  ((planFallback_keeps .refl .rfl').get startOf).trans ((readRec_startOf ..).trans (readRec_startOf ..))

/-! ## A failed start (18 R404) -/

/-- What a failed start leaves: the phase, the start's progress, the image with its counts and whether it waits. -/
def bootFacts (s : State) : Phase × (Bool × Bool × Bool × Bool × Bool) × Nat × Nat × Nat × Bool :=
  (s.phase, startProgress s, s.ts.image, s.ts.failsA, s.ts.failsB, s.ts.retryWait)

/-- The failure counted against the image in use. -/
def failCounted (s : State) : State := setBootFails (s.bumpR Obj.BOOT_FAILS) s.ts.image (min 255 (bootFails s s.ts.image + 1))

theorem bootFails_setBootFails (s : State) (i v : Nat) : bootFails (setBootFails s i v) i = v := by
  by_cases hi : i = 0 <;> simp [bootFails, setBootFails, hi]

theorem failCounted_fails (s : State) : bootFails (failCounted s) s.ts.image = min 255 (bootFails s s.ts.image + 1) := bootFails_setBootFails ..

theorem bootFailed_facts (s : State) : bootFacts (bootFailed s) = (s.phase, (false, false, false, false, false),
    (if 2 ≤ bootFails (failCounted s) s.ts.image then 1 - s.ts.image else s.ts.image), (failCounted s).ts.failsA, (failCounted s).ts.failsB,
    decide (2 ≤ (failCounted s).ts.failsA ∧ 2 ≤ (failCounted s).ts.failsB)) := by
  delta bootFailed
  extract_lets +onlyGivenNames i s1 n s2 s3 ts3 s4 ts4 s5
  have hi : s1.ts.image = i := (setBootFails_keeps .refl .rfl').get (·.ts.image)
  have hw : s1.ts.retryWait = s.ts.retryWait := (setBootFails_keeps .refl .rfl').get (·.ts.retryWait)
  have h2 : bootFacts s2 = (s.phase, (false, false, false, false, false), i, s1.ts.failsA, s1.ts.failsB, s.ts.retryWait) := by
    have hr : bootFacts s2 = (s1.phase, (false, false, false, false, false), s1.ts.image, s1.ts.failsA, s1.ts.failsB, s1.ts.retryWait) := rfl
    rw [hr, hi, hw]
    exact congrArg (·, _) (setBootFails_phase ..)
  have h3 : bootFacts s3 = bootFacts s2 := by
    unfold s3
    split
    · exact (recordHm_keeps .refl .rfl').get bootFacts
    · rfl
  have h4 : bootFacts s4 = (s.phase, (false, false, false, false, false), (if 2 ≤ n then 1 - i else i), s1.ts.failsA, s1.ts.failsB, s.ts.retryWait) := by
    rw [h2, bootFacts] at h3
    simp only [Prod.mk.injEq] at h3
    obtain ⟨hphase, hstart, himage, ha, hb, hwait⟩ := h3
    have hf : bootFacts s4 = (s3.phase, startProgress s3, (if 2 ≤ n then 1 - i else s3.ts.image), s3.ts.failsA, s3.ts.failsB, s3.ts.retryWait) := by
      unfold s4
      split <;> rfl
    rw [hf, hphase, hstart, himage, ha, hb, hwait]
  have h6 : bootFacts (trackAll s (syncRec s5 9)) = bootFacts s5 :=
    ((track_keeps_tracked ..).get bootFacts).trans ((syncRec_keeps .refl .rfl').get bootFacts)
  simp only [bootFacts, Prod.mk.injEq] at h4
  obtain ⟨hphase, hstart, himage, ha, hb, -⟩ := h4
  have h5 : bootFacts s5 = (s4.phase, startProgress s4, s4.ts.image, s4.ts.failsA, s4.ts.failsB, decide (2 ≤ s4.ts.failsA ∧ 2 ≤ s4.ts.failsB)) := rfl
  rw [h6, h5, hphase, hstart, himage, ha, hb]
  rfl

/-! ## The map and the replay (07 R180; 11 R273, R274) -/

/-- Every part but the phase and the note of an unsealed dump. -/
abbrev besidePhase : Nat := 0x3ffffffffffffffffffffffffffffbffffffffffffffffffffffffffffffffffffffffb

theorem Keeps.phase_incomplete {r s : State} (h : Keeps besidePhase r s) : s.phase = r.phase ∧ s.pw.incomplete = r.pw.incomplete :=
  ⟨h.get (·.phase), h.get (·.pw.incomplete)⟩

theorem mapReady_kept (s : State) (d : Option Dump) (bad : List (Nat × Fin 2)) : (mapReady s d bad).phase = s.phase ∧
    (mapReady s d bad).pw.incomplete = s.pw.incomplete := Keeps.phase_incomplete (mapReady_keeps (Covers.refl.le rfl) .rfl')

theorem mapReady_loaded (s : State) (d : Option Dump) (bad : List (Nat × Fin 2)) : (mapReady s d bad).cs.mapLoaded = true := by
  delta mapReady
  extract_lets +onlyGivenNames w s1 s2 s3 s4 cs rec s5 key
  have hkey (v : State) (b : Nat) : Keeps besideClocks v (key v b) := .ite (newDumpKey_keeps (Covers.refl.le rfl) .rfl') .rfl'
  have hcs : (flushIfOpen (key (key s5 0) 1)).cs = s5.cs := calc
    _ = (key (key s5 0) 1).cs := (flushIfOpen_keeps (Covers.refl.le rfl) .rfl' : Keeps besideClocks _ _).phase_clocks.2
    _ = (key s5 0).cs := (hkey ..).phase_clocks.2
    _ = s5.cs := (hkey ..).phase_clocks.2
  exact congrArg (·.mapLoaded) hcs

/-- The map loads where the newest dump is sealed or there is none. -/
theorem mapLoad_ready {bad : List (Nat × Fin 2)} (h : (newestDump s fun _ => true).all (fun p => p.2.sealed) = true) :
    ∃ d, mapLoad s bad = noteStart (mapReady s d bad) 5 := by
  rw [mapLoad]
  cases hd : newestDump s fun _ => true with
  | none => exact ⟨none, rfl⟩
  | some p =>
    rw [hd] at h
    exact ⟨some p.2, if_pos h⟩

/-- An unsealed newest dump is counted, and the start waits for what is decided about it. -/
def dumpIncomplete (s : State) : State := { s.bump U.power Obj.DIRTY_SHUTDOWNS with pw := { s.pw with incomplete := true } }

theorem mapLoad_incomplete {bad : List (Nat × Fin 2)} (h : (newestDump s fun _ => true).any (fun p => !p.2.sealed) = true) :
    ∃ l, mapLoad s bad = recordHm ((dumpIncomplete s).draw (2^24)).2 Ev.DUMP_INCOMPLETE U.power 0xFFFF l := by
  rw [mapLoad]
  cases hd : newestDump s fun _ => true with
  | none => rw [hd] at h; exact absurd h Bool.false_ne_true
  | some p =>
    rw [hd] at h
    exact ⟨_, if_neg (by simpa using h)⟩

theorem replayDump_phase (s : State) : (replayDump s).phase = s.phase := (Keeps.phase_incomplete (replayDump_keeps (Covers.refl.le rfl) .rfl')).1

theorem replayDump_done (s : State) : (replayDump s).cs.replayDone = true := by
  delta replayDump
  extract_lets +onlyGivenNames s1 s2 s3 s4 s5
  extract_lets +onlyGivenNames s6
  exact congrArg (·.replayDone) (Keeps.phase_clocks (settle_keeps (Covers.refl.le rfl) (settleLevel_keeps (Covers.refl.le rfl) .rfl'))).2

theorem dumpIncomplete_count (s : State) (m : Nat) : ((dumpIncomplete s).draw m).2.obj U.power Obj.DIRTY_SHUTDOWNS =
    (s.obj U.power Obj.DIRTY_SHUTDOWNS + 1) % objModulus Obj.DIRTY_SHUTDOWNS := obj_setObj_self ..

/-! ## The rise of Memory_Active (11 R260; 01 R24) -/

/-- The rise into HALTED: the dump is taken as done, and every port present is fenced. -/
def haltedRaised (s : State) : State := drivePins ((presentPorts s).foldl (fun s n => fencePort (raiseViral s n) n 2)
  { s with phase := .halted, dp := { s.dp with dumpDone := true }, pins := { s.pins with held := false } })

/-- The rise into service, with what waited for it. -/
def serviceRaised (s : State) : State :=
  settleFlushArea (settle (settleVictims (resumeRekeys (resumeConfirms (serviceBegins { s with phase := .running })))))

theorem raiseMemoryActive_eq (s : State) : raiseMemoryActive s = trackAll s (if (noteStart (appendRecent s) 7).hm.latchHalted = true then
    haltedRaised (noteStart (appendRecent s) 7) else serviceRaised (noteStart (appendRecent s) 7)) := rfl

theorem noted_latch (s : State) : (noteStart (appendRecent s) 7).hm.latchHalted = s.hm.latchHalted :=
  ((noteStart_keeps .refl .rfl').get (·.hm.latchHalted)).trans ((appendRecent_keeps .refl .rfl').get (·.hm.latchHalted))

theorem noted_now (s : State) : (noteStart (appendRecent s) 7).now = s.now :=
  ((noteStart_keeps .refl .rfl').get (·.now)).trans ((appendRecent_keeps .refl .rfl').get (·.now))

/-- The phase and whether the dump is done. -/
def phaseDump (s : State) : Phase × Bool := (s.phase, s.dp.dumpDone)

theorem trackAll_phaseDump (s0 s : State) : phaseDump (trackAll s0 s) = phaseDump s := (track_keeps_tracked _ s0 s).get phaseDump
theorem trackAll_cs (s0 s : State) : (trackAll s0 s).cs = s.cs := (track_keeps_tracked _ s0 s).get (·.cs)

theorem haltedRaised_phaseDump (s : State) : phaseDump (haltedRaised s) = (.halted, true) :=
  ((drivePins_keeps .refl .rfl').get phaseDump).trans (List.foldlRecOn (motive := fun v => phaseDump v = (Phase.halted, true)) _ _ rfl fun _ hv _ _ =>
    ((fencePort_keeps .refl .rfl').get phaseDump).trans (((raiseViral_keeps .refl .rfl').get phaseDump).trans hv))

theorem serviceBegins_startOf (s : State) : (serviceBegins s).phase = s.phase ∧ (serviceBegins s).cs.resAt = s.now := by
  delta serviceBegins
  extract_lets +onlyGivenNames s1 cs s2 s3 pins s4 up s5
  have h : Keeps besideClocks s2 (s5.emits (up.map fun n => Out.msix n 2)) := by
    have h3 : Keeps besideClocks s2 s3 := .ite (mirrorConnect_keeps (Covers.refl.le rfl) .rfl') .rfl'
    have h4 : Keeps besideClocks s2 s4 := drivePins_keeps (Covers.refl.le rfl) (.upd .refl h3)
    exact emits_keeps (Covers.refl.le rfl) (record_keeps (Covers.refl.le rfl) h4)
  exact ⟨h.phase_clocks.1, congrArg (·.resAt) h.phase_clocks.2⟩

theorem serviceRaised_phase (s : State) : (serviceRaised s).phase = .running ∧ (serviceRaised s).cs.resAt = s.now := by
  have h : Keeps besideClocks (serviceBegins { s with phase := .running }) (serviceRaised s) :=
    settleFlushArea_keeps (Covers.refl.le rfl) (settle_keeps (Covers.refl.le rfl) (settleVictims_keeps (Covers.refl.le rfl)
      (resumeRekeys_keeps (Covers.refl.le rfl) (resumeConfirms_keeps (Covers.refl.le rfl) .rfl'))))
  obtain ⟨hphase, hcs⟩ := h.phase_clocks
  obtain ⟨hphase', hres⟩ := serviceBegins_startOf { s with phase := .running }
  exact ⟨hphase.trans hphase', (congrArg (·.resAt) hcs).trans hres⟩

theorem raiseMemoryActive_halted (h : s.hm.latchHalted = true) : phaseDump (raiseMemoryActive s) = (.halted, true) := by
  rw [raiseMemoryActive_eq, noted_latch, if_pos h]
  exact (trackAll_phaseDump ..).trans (haltedRaised_phaseDump _)

theorem raiseMemoryActive_running (h : ¬ s.hm.latchHalted = true) : (raiseMemoryActive s).phase = .running ∧ (raiseMemoryActive s).cs.resAt = s.now := by
  rw [raiseMemoryActive_eq, noted_latch, if_neg h]
  obtain ⟨hphase, hres⟩ := serviceRaised_phase (noteStart (appendRecent s) 7)
  exact ⟨(trackAll_phase ..).trans hphase, (congrArg (·.resAt) (trackAll_cs ..)).trans (hres.trans (noted_now s))⟩

end

/-- Settles O10: each step notes its time and changes the progress of the start alone (`startProgress`), and the last of BOOTING goes on (`bootStep_phase`). -/
theorem startStepsOfTheFirmware : Obligations.StartStepsOfTheFirmware := by
  unfold Obligations.StartStepsOfTheFirmware
  refine ⟨?firmware, ?failed, ?retry, ?hbm, ?links, ?map, ?incomplete, ?replay, ?raise, ?invalid⟩
  case firmware =>
    intro a p s hp hf hw hv
    have hc : ¬ (s.phase ≠ .booting ∨ s.cs.fwRunning = true ∨ s.ts.retryWait = true ∨ ¬ (slotNow s).valid = true) := by simp [hp, hf, hw, hv]
    have hread := plansRead_startOf { s with cs := { s.cs with fwRunning := true }, recorder := { s.recorder with accepting := true } } a.val p.val
    obtain ⟨hphase, hcs⟩ := Prod.mk.inj hread
    refine ⟨_, congrArg Host.Outcome.next (if_neg hc), ?_, ?_⟩
    · refine (congrArg (·.1) ((finishBoot_progress ..).trans (noteStart_progress ..))).trans ?_
      exact congrArg (·.fwRunning) hcs
    · exact finishBoot_phase_from ((noteStart_phase ..).trans (hphase.trans hp))
  case failed =>
    intro c s hp hw hh hfw hwd hhbm
    have hfacts := bootFailed_facts s
    simp only [bootFacts, startProgress, Prod.mk.injEq] at hfacts
    obtain ⟨hphase, ⟨hfw', hhbm', hlinks', -, -⟩, himage, ha, hb, hwait⟩ := hfacts
    refine ⟨bootFailed s, ?_, hphase.trans hp, hfw', hhbm', hlinks', ?_, ?_, ?_⟩
    · refine congrArg Host.Outcome.next (if_pos ⟨hp, by simp [hw], by simp [hh], ?_⟩)
      cases c with
      | invalidImage => exact congrArg (!·) (hfw (.inl rfl))
      | noFirmware => exact congrArg (!·) (hfw (.inr rfl))
      | watchdog => exact hwd rfl
      | hbmTraining => exact congrArg (!·) (hhbm rfl)
    · rw [← failCounted_fails, bootFails, bootFails, ha, hb]
    · rw [himage, failCounted_fails]
      exact if_congr (by omega) rfl rfl
    · rw [hwait, ha, hb]
  case retry =>
    intro s hp hw
    exact congrArg Host.Outcome.next (if_pos ⟨hp, hw⟩)
  case hbm =>
    intro s hp hf hh
    refine ⟨_, congrArg Host.Outcome.next (if_pos ⟨hp, hf, by simp [hh]⟩), ?_, ?_⟩
    · exact congrArg (·.2.1) (bootStep_progress ..)
    · refine (bootStep_phase 3 _ (by decide) (by decide) (by exact hp)).trans (if_congr ?_ rfl rfl)
      simp [startProgress, hf, State.robj, State.obj]
  case links =>
    intro s hp hf hl
    refine ⟨_, mediaLinksTrained_next hp hf hl, ?_, ?_, ?_, ?_⟩
    · exact congrArg (·.2.2.1) (bootStep_progress ..)
    · exact congrArg Prod.fst (bootStep_links ..)
    · exact congrArg Prod.snd (bootStep_links ..)
    · refine (bootStep_phase 4 _ (by decide) (by decide) (by exact hp)).trans (if_congr ?_ rfl rfl)
      simp [startProgress, linksUp, hf, State.robj, State.obj]
  case map =>
    intro bad s hp hm hi hd
    obtain ⟨d, he⟩ := mapLoad_ready (bad := bad) hd
    have hc : s.phase = .loading ∧ ¬ s.cs.mapLoaded = true ∧ ¬ s.pw.incomplete = true := by simp [hp, hm, hi]
    obtain ⟨hphase, hinc⟩ := mapReady_kept s d bad
    refine ⟨_, congrArg Host.Outcome.next ((if_pos hc).trans he), ?_, ?_, ?_⟩
    · exact (congrArg (·.2.2.2.1) (noteStart_progress ..)).trans (mapReady_loaded s d bad)
    · exact (noteStart_phase ..).trans (hphase.trans hp)
    · exact (noteStart_incomplete ..).trans (hinc.trans hi)
  case incomplete =>
    intro bad s hp hm hi hd
    obtain ⟨l, he⟩ := mapLoad_incomplete (bad := bad) hd
    have hc : s.phase = .loading ∧ ¬ s.cs.mapLoaded = true ∧ ¬ s.pw.incomplete = true := by simp [hp, hm, hi]
    have hmodulus : objModulus Obj.DIRTY_SHUTDOWNS = 2^32 := by rfl
    refine ⟨_, congrArg Host.Outcome.next ((if_pos hc).trans he), ?_, ?_, ?_, ?_, ?_⟩
    · exact (recordHm_keeps .refl .rfl').get (·.pw.incomplete)
    · exact ((recordHm_keeps .refl .rfl').get (·.cs.mapLoaded)).trans hm
    · exact (recordHm_phase ..).trans hp
    · exact (recordHm_keeps .refl .rfl').get (·.media.map)
    · rw [← hmodulus]
      exact (recordHm_obj _ (by decide) (by decide)).trans (dumpIncomplete_count s (2^24))
  case replay =>
    intro s hp hm hr
    have hc : s.phase = .loading ∧ s.cs.mapLoaded = true ∧ ¬ s.cs.replayDone = true := by simp [hp, hm, hr]
    refine ⟨replayFlushArea s, congrArg Host.Outcome.next (if_pos hc), ?_, ?_⟩
    · exact (noteStart_replayDone ..).trans (replayDump_done s)
    · exact (noteStart_phase ..).trans ((replayDump_phase s).trans hp)
  case raise =>
    intro s hg
    refine ⟨_, congrArg Host.Outcome.next (if_pos hg), ?_⟩
    split
    case isTrue hl => exact Prod.mk.inj (raiseMemoryActive_halted hl)
    case isFalse hl => exact raiseMemoryActive_running hl
  case invalid =>
    intro a p s hv
    exact congrArg Host.Outcome.next (if_pos (.inr (.inr (.inr (by simp [hv])))))

end Sys2Proof.Machine

/-! # Results of tests (18 R393 to R397)

The BLOB registers but those of the event triggers are written by the commands that set them and by nothing that follows in the same moment. -/
namespace Sys2Proof.Machine
set_option Elab.async false

/-! ## The BLOB registers -/

theorem blob_setBlob_ne (s : State) {u o u' o' : Nat} (b : List Byte) (ho : o < 2^24) (ho' : o' < 2^24) (h : u' ≠ u ∨ o' ≠ o) :
    (s.setBlob u o b).blob u' o' = s.blob u' o' :=
  have hk : objKey u' o' ≠ objKey u o := fun e => by have := objKey_inj ho' ho e; omega
  congrArg (fun b => b.getD []) (AMap.get?_set_ne s.blobs b hk)

/-- The number of an event trigger's register (16 R378). -/
abbrev TriggerReg (o : Nat) : Prop := o / 256 = 0x1D20

/-- The loopbacks that run stay, and the BLOB registers but the triggers' read as before, on every unit. -/
def BlobsStay (r s : State) : Prop := s.ts.loops = r.ts.loops ∧ ∀ u o, o < 2^24 → ¬ TriggerReg o → s.blob u o = r.blob u o

namespace BlobsStay
variable {r s t : State}

theorem rfl' : BlobsStay r r := ⟨rfl, fun _ _ _ _ => rfl⟩

theorem ite {a b : State} {c : Prop} {d : Decidable c} (ha : BlobsStay r a) (hb : BlobsStay r b) : BlobsStay r (if c then a else b) := by
  split <;> assumption

theorem foldl {β : Type} {f : State → β → State} {l : List β} (h : BlobsStay r s) (hf : ∀ x a, BlobsStay r x → BlobsStay r (f x a)) :
    BlobsStay r (l.foldl f s) := List.foldlRecOn l f h fun x k a _ => hf x a k

/-- An update of other fields. -/
theorem upd (h : BlobsStay r s) (e : t.blobs = s.blobs := by rfl) (l : t.ts.loops = s.ts.loops := by rfl) : BlobsStay r t :=
  ⟨l.trans h.1, fun u o ho hn => by rw [← h.2 u o ho hn, State.blob, e, State.blob]⟩

/-- An operation whose law names neither the BLOB registers nor the loopbacks. -/
theorem keeps {w : Nat} (h : BlobsStay r s) (k : Keeps w s t) (hw : w.testBit 4 = false := by rfl) (hl : w.testBit 252 = false := by rfl) : BlobsStay r t :=
  h.upd ((congrArg State.blobs k.frame).trans (by simp only [State.put, pick, hw, cond_false]))
    ((congrArg (·.ts.loops) k.frame).trans (by simp only [State.put, pick, hl, cond_false]))

theorem setBlob {u o : Nat} {b : List Byte} (h : BlobsStay r s) (ho : o < 2^24) (ht : TriggerReg o) : BlobsStay r (s.setBlob u o b) :=
  ⟨h.1, fun u' o' ho' hn => (blob_setBlob_ne s b ho ho' (.inr fun e => hn (e ▸ ht))).trans (h.2 u' o' ho' hn)⟩

theorem stable (r : State) : RecordStable (BlobsStay r) where
  obj _ _ _ _ h := h.upd
  trigger _ i _ hi h := h.setBlob (by simp only [Obj.TRIGGER]; omega) (by simp only [TriggerReg, Obj.TRIGGER]; omega)
  recorder _ _ h := h.upd
  recent _ _ h := h.upd
  deliver _ _ h := h.upd

end BlobsStay

section
variable {r s : State}

theorem record_blobs {c u x : Nat} {l : List Nat} (h : BlobsStay r s) : BlobsStay r (record s c u x l) := (BlobsStay.stable r).recordWith _ _ _ _ _ h

/-! ## The counter unit and the level of the wharf (17 R384, 06 R159 to R161) -/

theorem pcOverflow_blobs {a b} (h : BlobsStay r s) : BlobsStay r (pcOverflow s a b) := by
  delta pcOverflow
  extract_lets +onlyGivenNames _ s1
  have h1 : BlobsStay r s1 := .upd h
  extract_lets +onlyGivenNames s2
  have h2 : BlobsStay r s2 := .upd h1
  extract_lets +onlyGivenNames s3
  have h3 : BlobsStay r s3 := by
    unfold s3
    split
    · exact .ite (.keeps h2 (armSample_keeps .refl .rfl')) h2
    · exact h2
  exact .ite (record_blobs (.keeps (.upd h3) (abandonSamples_keeps .refl .rfl'))) h3

theorem pcAdd_blobs {a b c} (h : BlobsStay r s) : BlobsStay r (pcAdd s a b c) := by
  delta pcAdd
  extract_lets +onlyGivenNames _
  refine .ite (.upd h) ?_
  extract_lets +onlyGivenNames _
  exact pcOverflow_blobs (.upd h)

theorem pcCount_blobs {a b c d} (h : BlobsStay r s) : BlobsStay r (pcCount s a b c d) := .ite h (.foldl h (fun _ _ k => .ite (pcAdd_blobs k) k))

theorem settleLevel_blobs (h : BlobsStay r s) : BlobsStay r (settleLevel s) := by
  delta settleLevel
  extract_lets +onlyGivenNames _ _ s1
  have h1 : BlobsStay r s1 := .ite h (.upd h)
  extract_lets +onlyGivenNames _ s2
  have h2 : BlobsStay r s2 := by
    unfold s2
    split
    · exact .ite (.upd h1) h1
    · refine .ite h1 ?_
      extract_lets +onlyGivenNames s3
      have h3 : BlobsStay r s3 := .upd h1
      exact .upd h3
  extract_lets +onlyGivenNames s4
  have h4 : BlobsStay r s4 := .ite (record_blobs h2) h2
  exact .keeps h4 (drivePins_keeps .refl .rfl')

theorem stageAt_blobs {a b c d e} (h : BlobsStay r s) : BlobsStay r (stageAt s a b c d e) := by
  delta stageAt
  extract_lets +onlyGivenNames _ _ _ _ _ _ _ s1
  have h1 : BlobsStay r s1 := .upd h
  extract_lets +onlyGivenNames _ s2
  have h2 : BlobsStay r s2 := .upd h1
  extract_lets +onlyGivenNames s3
  have h3 : BlobsStay r s3 := pcCount_blobs (.upd h2)
  extract_lets +onlyGivenNames s4
  have h4 : BlobsStay r s4 := .ite (.upd h3) h3
  exact settleLevel_blobs (.keeps (.keeps h4 (indexChange_keeps .refl .rfl')) (relocateHead_keeps .refl .rfl'))

/-! ## The journal and the sets (07 R192, 09 R223) -/

theorem retireBlock_blobs {a b c d} (h : BlobsStay r s) : BlobsStay r (retireBlock s a b c d) := by
  delta retireBlock
  extract_lets +onlyGivenNames _ _
  refine .ite h ?_
  extract_lets +onlyGivenNames _ _ _ _ _ s1 s2 s3
  have h1 : BlobsStay r s1 := .ite (.upd h) h
  have h2 : BlobsStay r s2 := .upd h1
  have h3 : BlobsStay r s3 := .keeps h2 (appendRecord_keeps .refl .rfl')
  extract_lets +onlyGivenNames s4
  have h4 : BlobsStay r s4 := .ite (.keeps h3 (setState_keeps .refl .rfl')) h3
  exact record_blobs h4

theorem retireWorn_blobs {a b} (h : BlobsStay r s) : BlobsStay r (retireWorn s a b) := by
  delta retireWorn
  extract_lets +onlyGivenNames s1
  have h1 : BlobsStay r s1 := .foldl h (fun _ _ k => .ite (retireBlock_blobs k) (.ite (retireBlock_blobs k) k))
  exact .keeps h1 (substituteSpares_keeps .refl .rfl')

theorem startResets_blobs {a} (h : BlobsStay r s) : BlobsStay r (startResets s a) := by
  delta startResets
  extract_lets +onlyGivenNames _ _
  exact .foldl h (fun _ _ k => .keeps (pcCount_blobs k) (startOp_keeps .refl .rfl'))

theorem resetIfEmpty_blobs {a} (h : BlobsStay r s) : BlobsStay r (resetIfEmpty s a) := by
  delta resetIfEmpty
  extract_lets +onlyGivenNames _
  refine .ite ?_ h
  extract_lets +onlyGivenNames s1
  have h1 : BlobsStay r s1 := retireWorn_blobs h
  exact .ite h1 (.ite (.keeps h1 (retireSet_keeps .refl .rfl')) (startResets_blobs (.keeps h1 (setState_keeps .refl .rfl'))))

/-! ## Reads of the media (08 R199) -/

theorem countMemberReads_blobs {a b} (h : BlobsStay r s) : BlobsStay r (countMemberReads s a b) := by
  delta countMemberReads
  refine .foldl h ?_
  intro _ _ k
  extract_lets +onlyGivenNames _ s1
  have h1 : BlobsStay r s1 := pcCount_blobs (.upd k)
  exact .upd h1

theorem suspendOp_blobs {a b c} (h : BlobsStay r s) : BlobsStay r (suspendOp s a b c) := by
  delta suspendOp
  extract_lets +onlyGivenNames _ _ _
  refine .ite h ?_
  extract_lets +onlyGivenNames _ s1
  have h1 : BlobsStay r s1 := pcCount_blobs (.upd h)
  exact .upd h1

theorem sendMembers_blobs {a} (h : BlobsStay r s) : BlobsStay r (sendMembers s a) := by
  delta sendMembers
  extract_lets +onlyGivenNames _ _ s1 s2
  have h1 : BlobsStay r s1 := .upd h
  have h2 : BlobsStay r s2 := .foldl h1 (fun _ _ k => suspendOp_blobs k)
  exact countMemberReads_blobs h2

theorem readDegraded_blobs {a} (h : BlobsStay r s) : BlobsStay r (readDegraded s a) := .keeps (sendMembers_blobs h) (bump_keeps .refl .rfl')

theorem issueRead_blobs {a} (h : BlobsStay r s) : BlobsStay r (issueRead s a) := by
  delta issueRead
  extract_lets +onlyGivenNames _ _ _ _ _ _ _ s1
  have h1 : BlobsStay r s1 := .upd h
  extract_lets +onlyGivenNames s2
  have h2 : BlobsStay r s2 := .ite (.keeps (.upd h1) (noteStackRead_keeps .refl .rfl')) h1
  exact .ite (readDegraded_blobs h2) h2

/-! ## Responses (08 R196, R203) -/

theorem endLatWin_blobs {a b} (h : BlobsStay r s) : BlobsStay r (endLatWin s a b) := by
  delta endLatWin
  extract_lets +onlyGivenNames _ s1
  have h1 : BlobsStay r s1 := .upd h
  extract_lets +onlyGivenNames _ s2
  have h2 : BlobsStay r s2 := .upd h1
  exact .ite (record_blobs h2) h2

theorem noteLatency_blobs {a b} (h : BlobsStay r s) : BlobsStay r (noteLatency s a b) := by
  delta noteLatency
  extract_lets +onlyGivenNames _ s1
  have h1 : BlobsStay r s1 := .upd h
  extract_lets +onlyGivenNames s2
  have h2 : BlobsStay r s2 := .keeps h1 (raiseTo_keeps .refl .rfl')
  extract_lets +onlyGivenNames s3
  have h3 : BlobsStay r s3 := .ite (.upd h2) h2
  extract_lets +onlyGivenNames _ _
  exact .ite (endLatWin_blobs h3) (.upd h3)

theorem countSent_blobs {a b c} (h : BlobsStay r s) : BlobsStay r (countSent s a b c) := by
  delta countSent
  refine .ite h ?_
  extract_lets +onlyGivenNames _ _ _ _ s1 _
  have h1 : BlobsStay r s1 := .ite h (pcCount_blobs h)
  refine .ite ?_ ?_
  · extract_lets +onlyGivenNames s2
    have h2 : BlobsStay r s2 := pcCount_blobs (.upd h1)
    exact .keeps h2 (sampleStep_keeps .refl .rfl')
  · extract_lets +onlyGivenNames _ _ s3 s4
    have h3 : BlobsStay r s3 := noteLatency_blobs h1
    have h4 : BlobsStay r s4 := .ite (pcCount_blobs h3) h3
    exact .keeps h4 (sampleStep_keeps .refl .rfl')

theorem countPathX_blobs {a b c} (h : BlobsStay r s) : BlobsStay r (countPathX s a b c) := by
  delta countPathX
  split
  · refine .ite ?_ (countSent_blobs h)
    extract_lets +onlyGivenNames _
    exact .upd h
  · exact countSent_blobs h

theorem countPath_blobs {a b} (h : BlobsStay r s) : BlobsStay r (countPath s a b) := countPathX_blobs h

theorem leavePort_blobs {a b} (h : BlobsStay r s) : BlobsStay r (leavePort s a b) := by
  delta leavePort
  extract_lets +onlyGivenNames _ s1 s2 s3 s4
  have h1 : BlobsStay r s1 := .upd h
  have h2 : BlobsStay r s2 := by
    unfold s2
    split
    · exact .upd h1
    · exact h1
  have h3 : BlobsStay r s3 := by
    unfold s3
    split
    · exact .keeps (.ite (.upd h2) h2) (bwAdd_keeps .refl .rfl')
    · exact h2
  have h4 : BlobsStay r s4 := .upd h3
  split
  · exact countSent_blobs h4
  · exact h4

theorem sendS2m_blobs {a b c} (h : BlobsStay r s) : BlobsStay r (sendS2m s a b c) := by
  delta sendS2m
  extract_lets +onlyGivenNames _ _
  exact .ite (leavePort_blobs h) (.upd h)

theorem respondNdr_blobs {a b c} (h : BlobsStay r s) : BlobsStay r (respondNdr s a b c) := .ite (sendS2m_blobs h) h

theorem respondDrs_blobs {a b c d e} (h : BlobsStay r s) : BlobsStay r (respondDrs s a b c d e) := .ite (sendS2m_blobs h) h

/-! ## Prefetches and reservations (05 R116, 03 R76) -/

theorem prefetchOne_blobs {a} (h : BlobsStay r s) : BlobsStay r (prefetchOne s a) := by
  delta prefetchOne
  refine .ite h ?_
  extract_lets +onlyGivenNames s1
  have h1 : BlobsStay r s1 := .upd h
  refine .ite h1 ?_
  split
  · exact .keeps h1 (pbufPut_keeps .refl .rfl')
  · split
    · exact .ite (issueRead_blobs h1) h1
    · exact h1

theorem streamMiss_blobs {a b} (h : BlobsStay r s) : BlobsStay r (streamMiss s a b) := by
  delta streamMiss
  refine .ite h ?_
  extract_lets +onlyGivenNames _ _ _ _ _
  extract_lets +onlyGivenNames s1
  have h1 : BlobsStay r s1 := .upd h
  exact .ite (.foldl h1 (fun _ _ k => prefetchOne_blobs k)) h1

theorem releaseHeld_blobs {a b} (h : BlobsStay r s) : BlobsStay r (releaseHeld s a b) := by
  delta releaseHeld
  extract_lets +onlyGivenNames _ _ s1
  have h1 : BlobsStay r s1 := .keeps h (updWin_keeps .refl .rfl')
  exact .foldl h1 (fun _ _ k => countPath_blobs (respondNdr_blobs k))

theorem resvFinish_blobs {a b c d} (h : BlobsStay r s) : BlobsStay r (resvFinish s a b c d) := by
  delta resvFinish
  extract_lets +onlyGivenNames s1
  have h1 : BlobsStay r s1 := .keeps h (updWin_keeps .refl .rfl')
  extract_lets +onlyGivenNames s2
  have h2 : BlobsStay r s2 := .upd h1
  exact releaseHeld_blobs h2

theorem finishWrite_blobs {a b} (h : BlobsStay r s) : BlobsStay r (finishWrite a b s) :=
  .ite (.ite (resvFinish_blobs h) (.upd h)) (countPath_blobs (respondNdr_blobs h))

/-! ## Barriers and discards (03 R72, R75) -/

theorem settleDrain_blobs {a} (h : BlobsStay r s) : BlobsStay r (settleDrain s a) := by
  delta settleDrain
  split
  · exact h
  · extract_lets +onlyGivenNames _
    refine .ite (releaseHeld_blobs (.keeps h (updWin_keeps .refl .rfl'))) (.ite ?_ h)
    extract_lets +onlyGivenNames s1
    have h1 : BlobsStay r s1 := releaseHeld_blobs (.keeps h (updWin_keeps .refl .rfl'))
    exact record_blobs (.upd h1)

theorem settleBarriers_blobs (h : BlobsStay r s) : BlobsStay r (settleBarriers s) := .foldl h (fun _ _ k => settleDrain_blobs k)

theorem finishDiscard_blobs {a} (h : BlobsStay r s) : BlobsStay r (finishDiscard s a) := by
  delta finishDiscard
  extract_lets +onlyGivenNames _
  split
  · exact h
  · extract_lets +onlyGivenNames s1
    have h1 : BlobsStay r s1 := .keeps h (updWin_keeps .refl .rfl')
    extract_lets +onlyGivenNames s2
    have h2 : BlobsStay r s2 := record_blobs h1
    exact .ite (releaseHeld_blobs h2) h2

theorem discardNext_blobs {a} (h : BlobsStay r s) : BlobsStay r (discardNext s a) := by
  delta discardNext
  extract_lets +onlyGivenNames s1
  have h1 : BlobsStay r s1 := .keeps (.upd h) (updDiscard_keeps .refl .rfl')
  split
  · exact .ite (finishDiscard_blobs h1) h1
  · exact h1

theorem unmapPage_blobs {a b} (h : BlobsStay r s) : BlobsStay r (unmapPage s a b) := by
  delta unmapPage
  extract_lets +onlyGivenNames _ _ _ s1
  have h1 : BlobsStay r s1 := .upd h
  refine .ite ?_ (discardNext_blobs (.keeps (.upd h1) (enqueuePage_keeps .refl .rfl')))
  refine .ite (.keeps h1 (noteJournalFull_keeps .refl .rfl')) ?_
  extract_lets +onlyGivenNames f6 s2
  have h2 : BlobsStay r s2 := .keeps h1 (appendRecord_keeps .refl .rfl')
  extract_lets +onlyGivenNames _ _ s3
  have h3 : BlobsStay r s3 := .upd h2
  extract_lets +onlyGivenNames s4
  have h4 : BlobsStay r s4 := .keeps h3 (indexChange_keeps .refl .rfl')
  extract_lets +onlyGivenNames _ s5
  have h5 : BlobsStay r s5 := .upd h4
  extract_lets +onlyGivenNames s6
  have h6 : BlobsStay r s6 := .ite (.keeps h5 (unpin_keeps .refl .rfl')) h5
  clear_value s6
  extract_lets +onlyGivenNames s7
  have h7 : BlobsStay r s7 := by
    unfold s7
    clear_value f6
    split
    · exact resetIfEmpty_blobs h6
    · exact h6
  clear_value s7
  exact discardNext_blobs (settleLevel_blobs (.keeps h7 (enqueuePage_keeps .refl .rfl')))

theorem settleDiscard_blobs {a} (h : BlobsStay r s) : BlobsStay r (settleDiscard s a) := by
  delta settleDiscard
  split
  · exact .ite (unmapPage_blobs h) h
  · exact h

theorem settleDiscards_blobs (h : BlobsStay r s) : BlobsStay r (settleDiscards s) := .foldl h (fun _ _ k => settleDiscard_blobs k)

theorem settle_blobs (h : BlobsStay r s) : BlobsStay r (settle s) :=
  .keeps (.keeps (settleBarriers_blobs (settleDiscards_blobs h)) (settleReplay_keeps .refl .rfl')) (settleCredits_keeps .refl .rfl')

/-! ## Snoops (04 R92, R102) -/

theorem resvFail_blobs {a} (h : BlobsStay r s) : BlobsStay r (resvFail s a) := by
  delta resvFail
  extract_lets +onlyGivenNames _
  exact .ite (resvFinish_blobs h) (resvFinish_blobs h)

theorem trySnoop_blobs {a} (h : BlobsStay r s) : BlobsStay r (trySnoop s a) := by
  delta trySnoop
  extract_lets +onlyGivenNames _
  refine .ite h ?_
  extract_lets +onlyGivenNames s1
  have h1 : BlobsStay r s1 := .upd h
  extract_lets +onlyGivenNames s2
  have h2 : BlobsStay r s2 := .upd h1
  extract_lets +onlyGivenNames s3
  have h3 : BlobsStay r s3 := pcCount_blobs h2
  extract_lets +onlyGivenNames s4
  have h4 : BlobsStay r s4 := by
    unfold s4
    delta updDir
    exact .upd h3
  exact .upd h4

theorem genSnoops_blobs {a b c d} (h : BlobsStay r s) : BlobsStay r (genSnoops s a b c d) := by
  delta genSnoops
  refine .foldl h ?_
  intro _ _ k
  extract_lets +onlyGivenNames _ _
  refine trySnoop_blobs ?_
  delta updDir
  exact .upd k

theorem openTx_blobs {a b c} (h : BlobsStay r s) : BlobsStay r (openTx s a b c) := by
  delta openTx
  extract_lets +onlyGivenNames _ _
  refine genSnoops_blobs ?_
  delta updDir
  exact .upd h

theorem openEvict_blobs {a b c} (h : BlobsStay r s) : BlobsStay r (openEvict s a b c) := by
  delta openEvict
  extract_lets +onlyGivenNames _ _ _
  extract_lets +onlyGivenNames s1
  have h1 : BlobsStay r s1 := by
    unfold s1
    refine .keeps ?_ (bumpR_keeps .refl .rfl')
    delta updDir
    exact .upd h
  exact .foldl h1 (fun _ _ k => .ite k (genSnoops_blobs k))

/-! ## Writes that enter the wharf (03 R62, 06 R144) -/

theorem stageLine_blobs {a b c d e} (h : BlobsStay r s) : BlobsStay r (stageLine s a b c d e) := by
  delta stageLine
  extract_lets +onlyGivenNames s1
  have h1 : BlobsStay r s1 := .ite (.keeps h (clearMarker_keeps .refl .rfl')) h
  exact .keeps (stageAt_blobs h1) (enqueuePage_keeps .refl .rfl')

theorem appendCb_blobs {a} (h : BlobsStay r s) : BlobsStay r (appendCb s a) := by
  delta appendCb
  split
  · exact h
  · extract_lets +onlyGivenNames _ s1
    have h1 : BlobsStay r s1 := .upd h
    exact stageLine_blobs h1

theorem combine_blobs {a} (h : BlobsStay r s) : BlobsStay r (combine s a) := by
  delta combine
  extract_lets +onlyGivenNames _ _
  split
  · extract_lets +onlyGivenNames _ _ s1
    have h1 : BlobsStay r s1 := .upd h
    extract_lets +onlyGivenNames s2
    have h2 : BlobsStay r s2 := pcCount_blobs (.upd h1)
    exact .ite (appendCb_blobs h2) h2
  · extract_lets +onlyGivenNames s3
    have h3 : BlobsStay r s3 := by
      unfold s3
      refine .ite ?_ h
      split
      · exact appendCb_blobs h
      · exact h
    extract_lets +onlyGivenNames _ _
    exact .upd h3

theorem stageNewest_blobs {a} (h : BlobsStay r s) : BlobsStay r (stageNewest s a) := stageLine_blobs (.upd h)

theorem applyBulk_blobs {a b} (h : BlobsStay r s) : BlobsStay r (applyBulk s a b) := by
  delta applyBulk
  extract_lets +onlyGivenNames s1 s2
  have h1 : BlobsStay r s1 := .ite (stageNewest_blobs (appendCb_blobs h)) (.ite (stageNewest_blobs h) (combine_blobs h))
  have h2 : BlobsStay r s2 := .keeps h1 (hcUpdate_keeps .refl .rfl')
  exact .keeps h2 (loseLineResv_keeps .refl .rfl')

/-! ## Reads served (08 R196, R199) -/

theorem deliverReadX_blobs {a b c d e f} (h : BlobsStay r s) : BlobsStay r (deliverReadX s a b c d e f) :=
  .ite (.ite (respondDrs_blobs (.keeps h (resvFaults_keeps .refl .rfl'))) (countPathX_blobs (respondDrs_blobs (.keeps h (resvLoaded_keeps .refl .rfl')))))
    (.ite (respondDrs_blobs h) (countPathX_blobs (respondDrs_blobs h)))

theorem deliverRead_blobs {a b c d e} (h : BlobsStay r s) : BlobsStay r (deliverRead s a b c d e) := deliverReadX_blobs h

theorem fillPage_blobs {a b c} (h : BlobsStay r s) : BlobsStay r (fillPage s a b c) := .foldl h (fun _ _ k => .ite k (issueRead_blobs k))

theorem mediaRead_blobs {a b c} (h : BlobsStay r s) : BlobsStay r (mediaRead s a b c) := by
  delta mediaRead
  extract_lets +onlyGivenNames _ _ _ s1 s2
  have h1 : BlobsStay r s1 := .ite (streamMiss_blobs h) h
  have h2 : BlobsStay r s2 := issueRead_blobs h1
  exact .ite (fillPage_blobs h2) h2

theorem serveRead_blobs {a b} (h : BlobsStay r s) : BlobsStay r (serveRead s a b) := by
  delta serveRead
  extract_lets +onlyGivenNames _ _
  split
  · exact deliverRead_blobs (.keeps (.upd h) (hcTouch_keeps .refl .rfl'))
  · extract_lets +onlyGivenNames s1 _ _ f12
    have h1 : BlobsStay r s1 := .ite (.upd h) h
    refine .ite ?_ ?_
    · unfold f12
      exact deliverRead_blobs h1
    · split
      · rename_i _ _ s2 f17
        have h2 : BlobsStay r s2 := .keeps h1 (KeepsO.of_eq f17 (pbufTake_keeps .refl .rfl'))
        unfold f12
        exact deliverRead_blobs (.keeps h2 (fillFor_keeps .refl .rfl'))
      · split
        · extract_lets +onlyGivenNames s3
          have h3 : BlobsStay r s3 := .ite (streamMiss_blobs h1) h1
          unfold f12
          exact deliverRead_blobs (.keeps h3 (fillFor_keeps .refl .rfl'))
        · refine .ite (deliverRead_blobs h1) ?_
          split
          · unfold f12
            exact deliverRead_blobs h1
          · exact mediaRead_blobs h1

/-! ## Recalls and the directory (02 R42, R43, 04 R99, R100) -/

theorem freeSlot_blobs {a} (h : BlobsStay r s) : BlobsStay r (freeSlot s a) := by
  delta freeSlot
  split
  · exact h
  · extract_lets +onlyGivenNames _ s1
    have h1 : BlobsStay r s1 := .upd h
    exact record_blobs h1

theorem recallsDone_blobs {a} (h : BlobsStay r s) : BlobsStay r (recallsDone s a) := by
  delta recallsDone
  split
  · exact h
  · extract_lets +onlyGivenNames _ s1 _
    have h1 : BlobsStay r s1 := .keeps h (updAgent_keeps .refl .rfl')
    exact .ite h1 (.ite (freeSlot_blobs h1) (.upd h1))

theorem recallServed_blobs {a b} (h : BlobsStay r s) : BlobsStay r (recallServed s a b) := by
  delta recallServed
  extract_lets +onlyGivenNames _ _ s1
  have h1 : BlobsStay r s1 := by
    unfold s1
    refine .ite ?_ h
    split
    · exact .upd h
    · exact h
  extract_lets +onlyGivenNames s2
  have h2 : BlobsStay r s2 := by
    unfold s2
    refine .ite h1 ?_
    split
    · extract_lets +onlyGivenNames _ _
      exact .keeps h1 (putEntry_keeps .refl .rfl')
    · exact h1
  exact recallsDone_blobs h2

theorem serveAcc_blobs {a b c d e} (h : BlobsStay r s) : BlobsStay r (serveAcc s a b c d e) := by
  delta serveAcc
  extract_lets +onlyGivenNames _ _
  split
  extract_lets +onlyGivenNames _ s1 s2 s3
  have h1 : BlobsStay r s1 := .ite (.keeps h (setDirLine_keeps .refl .rfl')) h
  have h2 : BlobsStay r s2 := .keeps h1 (giveBack_keeps .refl .rfl')
  have h3 : BlobsStay r s3 := .ite (appendCb_blobs h2) h2
  split
  · exact serveRead_blobs h3
  · exact serveRead_blobs (.keeps h3 (resvArms_keeps .refl .rfl'))
  · exact respondNdr_blobs h3
  · exact finishWrite_blobs (applyBulk_blobs h3)
  · exact .ite (finishWrite_blobs (applyBulk_blobs (.keeps h3 (resvApplied_keeps .refl .rfl')))) (resvFail_blobs h3)
  · exact respondNdr_blobs h3
  · exact .keeps h3 (discardLine_keeps .refl .rfl')
  · exact recallServed_blobs h3

theorem allocate_blobs {a b} (h : BlobsStay r s) : BlobsStay r (allocate s a b) := by
  delta allocate
  extract_lets +onlyGivenNames _
  refine .ite (.keeps h (enterRetry_keeps .refl .rfl')) ?_
  refine .ite (serveAcc_blobs h) ?_
  split
  · split
    · exact .ite (serveAcc_blobs (.keeps (.upd h) (putEntry_keeps .refl .rfl'))) (openEvict_blobs (.keeps h (giveBack_keeps .refl .rfl')))
    · exact serveAcc_blobs h
  · exact .keeps h (enterRetry_keeps .refl .rfl')

theorem startAcc_blobs {a b} (h : BlobsStay r s) : BlobsStay r (startAcc s a b) := by
  delta startAcc
  refine .ite (serveAcc_blobs h) ?_
  extract_lets +onlyGivenNames _ _ f3
  clear_value f3
  split
  · extract_lets +onlyGivenNames _
    exact .ite (serveAcc_blobs h) (openTx_blobs (.keeps h (giveBack_keeps .refl .rfl')))
  · exact .ite (allocate_blobs h) (serveAcc_blobs h)

theorem keepDiscarded_blobs {a} (h : BlobsStay r s) : BlobsStay r (keepDiscarded s a) := by
  delta keepDiscarded
  split
  · exact .ite h (stageAt_blobs h)
  · exact stageLine_blobs (.upd h)

theorem endAcc_blobs {a} (h : BlobsStay r s) : BlobsStay r (endAcc s a) := by
  delta endAcc
  extract_lets +onlyGivenNames s1
  have h1 : BlobsStay r s1 := .keeps h (giveBack_keeps .refl .rfl')
  split
  · exact respondDrs_blobs h1
  · exact h1
  · exact h1
  · exact respondNdr_blobs h1
  · exact respondDrs_blobs (.keeps h1 (resvFaults_keeps .refl .rfl'))
  · exact .ite (resvFinish_blobs h1) (resvFail_blobs h1)
  · exact h1
  · extract_lets +onlyGivenNames _
    split
    · refine .ite ?_ h1
      extract_lets +onlyGivenNames _ _ _ s2 s3
      have h2 : BlobsStay r s2 := .upd h1
      have h3 : BlobsStay r s3 := .foldl h2 (fun _ _ k => keepDiscarded_blobs k)
      extract_lets +onlyGivenNames s4
      have h4 : BlobsStay r s4 := .keeps h3 (updWin_keeps .refl .rfl')
      exact .ite (releaseHeld_blobs h4) h4
    · exact h1

theorem enterTable_blobs {a b} (h : BlobsStay r s) : BlobsStay r (enterTable s a b) := by
  delta enterTable
  extract_lets +onlyGivenNames _ s1
  have h1 : BlobsStay r s1 := .ite (appendCb_blobs h) h
  refine .ite (endAcc_blobs h1) ?_
  refine .ite ?_ ?_
  · extract_lets +onlyGivenNames s2
    have h2 : BlobsStay r s2 := pcCount_blobs (.keeps (.upd h1) (giveBack_keeps .refl .rfl'))
    exact finishWrite_blobs (applyBulk_blobs h2)
  · refine .ite (respondNdr_blobs (.keeps h1 (giveBack_keeps .refl .rfl'))) ?_
    refine .ite ?_ (startAcc_blobs h1)
    extract_lets +onlyGivenNames _ s3
    have h3 : BlobsStay r s3 := .keeps h1 (giveBack_keeps .refl .rfl')
    delta updDir
    exact .upd h3

theorem recallAgent_blobs {a b} (h : BlobsStay r s) : BlobsStay r (recallAgent s a b) := by
  delta recallAgent
  extract_lets +onlyGivenNames _
  refine .ite (recallsDone_blobs h) ?_
  refine .foldl h ?_
  intro _ _ k
  split
  · rename_i _ s1 _ e8
    have h1 : BlobsStay r s1 := .keeps k (Keeps1.of_eq e8 (numberAcc_keeps .refl .rfl'))
    exact enterTable_blobs h1

/-! ## Ports (02 R52, 03 R67) -/

theorem sendHeld_blobs {a} (h : BlobsStay r s) : BlobsStay r (sendHeld s a) := .foldl h (fun _ _ k => trySnoop_blobs k)

theorem dropLink_blobs {a} (h : BlobsStay r s) : BlobsStay r (dropLink s a) := by
  delta dropLink
  extract_lets +onlyGivenNames _ _ s1
  have h1 : BlobsStay r s1 := .ite (record_blobs (.upd h)) h
  extract_lets +onlyGivenNames s2
  have h2 : BlobsStay r s2 := .keeps (.keeps (.keeps (.upd h1) (setObj_keeps .refl .rfl')) (setObj_keeps .refl .rfl')) (setObj_keeps .refl .rfl')
  clear_value s2
  exact .upd h2

theorem unbindWindow_blobs {a b} (h : BlobsStay r s) : BlobsStay r (unbindWindow s a b) := by
  delta unbindWindow
  extract_lets +onlyGivenNames s1 s2 _ _
  have h1 : BlobsStay r s1 := .keeps h (loseResv_keeps .refl .rfl')
  have h2 : BlobsStay r s2 := .ite (.foldl h1 (fun _ _ k => releaseHeld_blobs k)) h1
  extract_lets +onlyGivenNames s3
  have h3 : BlobsStay r s3 := .upd h2
  refine .ite ?_ (.keeps h3 (moveAccs_keeps .refl .rfl'))
  split
  · extract_lets +onlyGivenNames _
    extract_lets +onlyGivenNames s4
    have h4 : BlobsStay r s4 := .upd h3
    exact .keeps h4 (moveAccs_keeps .refl .rfl')
  · exact h3

theorem unbindAgent_blobs {a b c} (h : BlobsStay r s) : BlobsStay r (unbindAgent s a b c) := by
  delta unbindAgent
  split
  · exact unbindWindow_blobs h
  · exact h

theorem recallPort_blobs {a} (h : BlobsStay r s) : BlobsStay r (recallPort s a) := by
  delta recallPort
  refine .foldl h ?_
  intro _ _ k
  extract_lets +onlyGivenNames _ _ _ s1
  have h1 : BlobsStay r s1 := .ite (.upd k) k
  exact recallAgent_blobs h1

theorem uncommitPort_blobs {a} (h : BlobsStay r s) : BlobsStay r (uncommitPort s a) := by
  delta uncommitPort
  extract_lets +onlyGivenNames _ s1
  have h1 : BlobsStay r s1 := .foldl h (fun _ _ k => unbindAgent_blobs k)
  extract_lets +onlyGivenNames _ s2
  have h2 : BlobsStay r s2 := .upd h1
  exact recallPort_blobs h2

/-! ## What waited for a stack (09 R213, 10 R238) -/

theorem rekeyNext_blobs {a} (h : BlobsStay r s) : BlobsStay r (rekeyNext s a) := by
  delta rekeyNext
  split
  · exact h
  · refine .ite h ?_
    split
    · exact issueRead_blobs h
    · exact h

theorem startPass_blobs {a b c d} (h : BlobsStay r s) : BlobsStay r (startPass s a b c d) := by
  delta startPass
  extract_lets +onlyGivenNames _
  refine .ite (.ite h (.keeps (.upd h) (proofServed_keeps .refl .rfl'))) ?_
  split
  rename_i _ _ s1 f5
  have h1 : BlobsStay r s1 := .keeps h (Keeps2.of_eq f5 (drawSamples_keeps .refl .rfl'))
  extract_lets +onlyGivenNames _ _
  extract_lets +onlyGivenNames s2
  have h2 : BlobsStay r s2 := .upd h1
  exact .foldl h2 (fun _ _ k => issueRead_blobs k)

theorem resumeRekeys_blobs (h : BlobsStay r s) : BlobsStay r (resumeRekeys s) := .foldl h (fun _ _ k => rekeyNext_blobs k)

theorem resumeConfirms_blobs (h : BlobsStay r s) : BlobsStay r (resumeConfirms s) := by
  delta resumeConfirms
  refine .foldl h ?_
  intro _ a3 k
  split
  exact startPass_blobs k

end

end Sys2Proof.Machine

/-! # Loopbacks and self-tests (18 R393 to R397) -/
namespace Sys2Proof.Machine
set_option Elab.async false

section
variable {r s : State}

theorem Keeps.loops {w : Nat} (k : Keeps w r s) (hl : w.testBit 252 = false := by rfl) : s.ts.loops = r.ts.loops :=
  (congrArg (·.ts.loops) k.frame).trans (by simp only [State.put, pick, hl, cond_false])

/-! ## The end of a loopback (18 R394) -/

/-- A unit's loopback is over, and its result stands. -/
def LoopOver (u : Nat) (b : List Byte) (s : State) : Prop := AMap.has s.ts.loops u = false ∧ s.blob u Obj.LB_RESULT = b

theorem LoopOver.stay {u : Nat} {b : List Byte} (h : LoopOver u b r) (k : BlobsStay r s) : LoopOver u b s :=
  ⟨(congrArg (AMap.has · u) k.1).trans h.1, (k.2 u _ (by decide) (by decide)).trans h.2⟩

theorem endLoop_loops (s : State) (u : Nat) (b : List Byte) : (endLoop s u b).ts.loops = AMap.del s.ts.loops u :=
  (endRun_keeps .refl .rfl').get (·.ts.loops)

theorem endLoop_blob (s : State) (u : Nat) (b : List Byte) (u' o : Nat) : (endLoop s u b).blob u' o = (s.setBlob u Obj.LB_RESULT b).blob u' o :=
  (endRun_keeps .refl .rfl').get (State.blob · u' o)

theorem loopOver_endLoop (h : AMap.wf s.ts.loops = true) (u : Nat) (b : List Byte) : LoopOver u b (endLoop s u b) := by
  refine ⟨?_, (endLoop_blob ..).trans (blob_setBlob_self ..)⟩
  rw [endLoop_loops, AMap.has, AMap.get?_del_self h]
  rfl

/-- The end of another unit's loopback leaves it over. -/
theorem LoopOver.endLoop {u n : Nat} {b : List Byte} (h : LoopOver u b s) (hn : u ≠ n) (c : List Byte) : LoopOver u b (endLoop s n c) := by
  refine ⟨?_, (endLoop_blob ..).trans ((blob_setBlob_ne _ _ (by decide) (by decide) (.inl hn)).trans h.2)⟩
  rw [endLoop_loops, AMap.has, AMap.get?_del_ne _ hn]
  exact h.1

/-- An abort of any unit's loopback leaves one that is over as it is. -/
theorem LoopOver.abortLoop {u : Nat} {b : List Byte} (h : LoopOver u b s) (n : Nat) : LoopOver u b (abortLoop s n) := by
  delta Machine.abortLoop
  split
  case h_1 => exact h
  case h_2 l hl =>
    have hn : u ≠ n := fun e => by
      have h1 := h.1
      rw [AMap.has, e, hl] at h1
      cases h1
    exact LoopOver.endLoop (s := (((s.draw (2^64)).2.draw (2^64)).2.draw (2^16)).2) ⟨h.1, h.2⟩ hn _

theorem abortLoop_over (h : AMap.wf s.ts.loops = true) {u : Nat} (hu : AMap.has s.ts.loops u = true) : AMap.has (abortLoop s u).ts.loops u = false := by
  rw [abortLoop]
  cases hl : AMap.get? s.ts.loops u with
  | none => rw [AMap.has, hl] at hu; cases hu
  | some l => exact (loopOver_endLoop (s := (((s.draw (2^64)).2.draw (2^64)).2.draw (2^16)).2) h u _).1

/-- A reset of a port leaves a loopback that is over as it is. -/
theorem LoopOver.resetPort {u : Nat} {b : List Byte} (h : LoopOver u b s) (n : Nat) (m : ResetMeans) : LoopOver u b (resetPort s n m) := by
  delta Machine.resetPort
  extract_lets +onlyGivenNames i s1 s2 s3 s4 ports s5 s6 _ _ p s7
  have h1 : LoopOver u b s1 := LoopOver.stay ((h.stay (.keeps .rfl' (openGate_keeps .refl .rfl'))).abortLoop i) (.keeps .rfl' (losePortResv_keeps .refl .rfl'))
  clear_value s1
  have h2 : BlobsStay s1 s2 := .ite .rfl' (dropLink_blobs .rfl')
  clear_value s2
  have h3 : BlobsStay s1 s3 := h2.keeps (silencePort_keeps .refl .rfl')
  clear_value s3
  have h4 : BlobsStay s1 s4 := uncommitPort_blobs h3
  clear_value s4
  have h5 : BlobsStay s1 s5 := .ite h4.upd h4.upd
  clear_value s5
  have h6 : BlobsStay s1 s6 := h5.upd
  have h7 : BlobsStay s1 s7 := BlobsStay.keeps (s := putPort s6 n p) h6.upd (resetCredits_keeps .refl .rfl')
  exact h1.stay (settle_blobs (sendHeld_blobs (h7.keeps (startTraining_keeps .refl .rfl'))))

/-- The return of a unit to service leaves a loopback that is over as it is. -/
theorem LoopOver.toService {u : Nat} {b : List Byte} (h : LoopOver u b s) (n : Nat) : LoopOver u b (loopToService s n) := by
  rw [loopToService]
  split
  · exact h.resetPort _ _
  · split
    · exact h
    · refine h.stay ?_
      delta stacksBack
      extract_lets +onlyGivenNames us media s1
      exact .ite (settle_blobs (resumeConfirms_blobs (resumeRekeys_blobs (.keeps (.upd .rfl') (reissueCopies_keeps .refl .rfl'))))) (.upd .rfl')
  · exact h

theorem LoopOver.track {u : Nat} {b : List Byte} (h : LoopOver u b s) (us : List Nat) (s0 : State) : LoopOver u b (track us s0 s) :=
  h.stay (.keeps .rfl' (track_keeps_tracked us s0 s))

/-- What a loopback that ended by itself leaves as its result. -/
def loopEnded (l : Loopback) (noLock : Bool) (duration checked errors lane : Nat) : List Byte :=
  lbResult l.depth (if noLock then 2 else if errors = 0 then 0 else 1) (if noLock then duration else l.ms) checked errors (if errors = 0 then 0xFFFF else lane) l.at_

theorem loopEnds_over {u : Nat} {l : Loopback} (h : AMap.wf s.ts.loops = true) (hl : AMap.get? s.ts.loops u = some l) (noLock : Bool)
    (duration checked errors lane : Nat) : LoopOver u (loopEnded l noLock duration checked errors lane) (loopEnds s u noLock duration checked errors lane) := by
  rw [loopEnds, hl]
  exact ((loopOver_endLoop h u _).toService u).track _ _

/-! ## The start of a loopback (18 R393) -/

/-- The loopback that a request begins. -/
def loopOf (s : State) (u ms : Nat) : Loopback := { depth := s.obj u Obj.LB_DEPTH, at_ := s.hm.opsec, since := s.now, ms := ms }

theorem startTraining_loops (s : State) (n : Nat) : (startTraining s n).ts.loops = s.ts.loops := (startTraining_keeps .refl .rfl').loops
theorem stacksAway_loops (s : State) (l : List (Nat × Nat)) : (stacksAway s l).ts.loops = s.ts.loops := (stacksAway_keeps .refl .rfl').loops
theorem mirrorMove_loops (s : State) : (mirrorMove s).ts.loops = s.ts.loops := (mirrorMove_keeps .refl .rfl').loops
theorem track_loops (us : List Nat) (s0 s : State) : (track us s0 s).ts.loops = s.ts.loops := (track_keeps_tracked us s0 s).loops
theorem putLoop_loops (s : State) (u : Nat) (l : Loopback) : AMap.get? (putLoop s u l).ts.loops u = some l := AMap.get?_set_self ..

theorem startLoop_loops (s : State) (u ms : Nat) : AMap.get? (startLoop s u ms).ts.loops u = some (loopOf s u ms) := by
  delta startLoop
  extract_lets +onlyGivenNames l n host s1
  have h1 : AMap.get? s1.ts.loops u = some l := by
    unfold s1
    clear_value l
    split
    · rw [startTraining_loops, setObj_ts]
      exact putLoop_loops ..
    · rw [stacksAway_loops]
      exact putLoop_loops ..
    · rw [mirrorMove_loops, setObj_ts]
      exact putLoop_loops ..
    · exact putLoop_loops ..
  rw [track_loops]
  exact h1

theorem startLoop_phase (s : State) (u ms : Nat) : (startLoop s u ms).phase = s.phase := by
  have h : Keeps besidePhase s (startLoop s u ms) := startLoop_keeps (Covers.refl.le rfl) .rfl'
  exact h.phase_incomplete.1

/-! ## Whether a loopback is permitted (18 Table TS-1)

Counting a request's frame and sending its answer moves no network port out of its state. -/

/-- What a network port's state rests on in the KDP service. -/
def netFacts (k : Kdp) : (Bool × Bool) × (Bool × Bool) × List (Nat × NetAddr) :=
  ((k.net1.phyFault, k.net1.addrHeld), (k.net2.phyFault, k.net2.addrHeld), k.sessions.map fun x => (x.netPort, x.via))

theorem netFacts_received (k : Kdp) (p : Nat) : netFacts (k.received p) = netFacts k := by
  rw [Kdp.received]
  split
  · rfl
  · split <;> rfl

theorem netFacts_sent (k : Kdp) (p n : Nat) : netFacts (k.sent p n) = netFacts k := by
  rw [Kdp.sent]
  split
  · rfl
  · split <;> rfl

theorem netFacts_countFrame (s : State) (p : Nat) : netFacts (countFrame s p).kdp = netFacts s.kdp := by
  rw [countFrame]
  split
  · rfl
  · exact netFacts_received ..

/-- An update of a session that leaves its port and its address. -/
theorem netFacts_updSession {f : Session → Session} (hf : ∀ y, ((f y).netPort, (f y).via) = (y.netPort, y.via)) (s : State) (i : Nat) :
    netFacts (updSession s i f).kdp = netFacts s.kdp := by
  have hmap : ((s.kdp.sessions.map fun x => if x.id = i then f x else x).map fun x => (x.netPort, x.via)) = s.kdp.sessions.map fun x => (x.netPort, x.via) := by
    rw [List.map_map]
    refine List.map_congr_left fun x _ => ?_
    simp only [Function.comp_apply]
    split
    · exact hf x
    · rfl
  exact congrArg (fun l => ((s.kdp.net1.phyFault, s.kdp.net1.addrHeld), (s.kdp.net2.phyFault, s.kdp.net2.addrHeld), l)) hmap

theorem netFacts_kdpTake (x : Session) (n : Nat) (resp : KResp) (s : State) : netFacts (kdpTake x n resp s).kdp = netFacts s.kdp :=
  (netFacts_sent ..).trans (netFacts_updSession (by intro _; rfl) _ _)

theorem netFacts_taken (s : State) (q : KReq) (x : Session) (st : Status) : netFacts (taken s q x st).kdp = netFacts s.kdp :=
  (netFacts_kdpTake ..).trans (netFacts_countFrame ..)

theorem netState_congr {v : State} (h : Keeps takenParts s v) (hn : netFacts v.kdp = netFacts s.kdp) (p : Nat) : netState v p = netState s p := by
  have hctl : ctlState v = ctlState s := h.get ctlState
  have hobj (u o : Nat) : v.obj u o = s.obj u o := h.get (State.obj · u o)
  have hts : v.ts = s.ts := h.get (·.ts)
  simp only [netFacts, Prod.mk.injEq] at hn
  obtain ⟨⟨hf1, ha1⟩, ⟨hf2, ha2⟩, hx⟩ := hn
  have hany : (v.kdp.sessions.any fun x => x.netPort == p && x.via == .linkLocal) = s.kdp.sessions.any fun x => x.netPort == p && x.via == .linkLocal := by
    have hm := congrArg (List.any · fun q => q.1 == p && q.2 == .linkLocal) hx
    rw [List.any_map, List.any_map] at hm
    exact hm
  by_cases hp : p = 1
  · simp only [netState, hctl, hobj, hts, hany, if_pos hp, hf1, ha1]
  · simp only [netState, hctl, hobj, hts, hany, if_neg hp, hf2, ha2]

theorem loopAllowed_congr {v : State} (h : Keeps takenParts s v) (hn : netFacts v.kdp = netFacts s.kdp) (u : Nat) : loopAllowed v u = loopAllowed s u := by
  have hts : v.ts = s.ts := h.get (·.ts)
  have hgone (g st : Nat) : stackGone v g st = stackGone s g st := h.get (stackGone · g st)
  have hobj (u o : Nat) : v.obj u o = s.obj u o := h.get (State.obj · u o)
  delta loopAllowed
  extract_lets +onlyGivenNames lv
  split
  · exact h.get fun w => !portHasDecoder w (lv.getD 1 0)
  · simp only [hgone, hts]
  · have h1 : unitState v (U.netPort 1) = unitState s (U.netPort 1) := netState_congr h hn 1
    have h2 : unitState v (U.netPort 2) = unitState s (U.netPort 2) := netState_congr h hn 2
    extract_lets q
    have hq : unitState v (U.netPort q) = unitState s (U.netPort q) := by
      unfold q
      split
      · exact h2
      · exact h1
    rw [hq, hobj]
  · exact h.get (·.cs.bootHeld)
  · rfl

/-- A rule that the network ports' states may decide acts on the state that takes the request. -/
theorem kdpObject_of_startsRun_net {q : KReq} {x : Session} {i : Instr} {index a u : Nat} {own : Bool} {past : Nat → Bool}
    {eff : KCtx → Nat → State → State × Status} {f : State → State} {st : Status} (h : startsRun s q x index a u = true)
    (heff : ∀ v, Keeps takenParts s v → netFacts v.kdp = netFacts s.kdp → eff (requestCtx x q index u) a v = (f v, st)) :
    kdpObject q i index (.exec a) (runCommand own past eff) s = startRun (requestCtx x q index u) a st (f (taken s q x st)) := by
  have hcount := countFrame_keeps_takenParts s x.netPort
  rw [kdpObject, kdpRequest_of_inTurn (startsRun_iff.1 h).1, objectRequest_of_startsRun h hcount, heff _ hcount (netFacts_countFrame ..), ← taken,
    objectRequest_of_startsRun h (taken_keeps s q x st), heff _ (taken_keeps s q x st) (netFacts_taken ..)]

/-! ## LB_RUN (18 R393, R394; 15 R342) -/

theorem answer_mem_of_keeps {q : KReq} {x : Session} {st : Status} {w : Nat} {t : State} (k : Keeps w (taken s q x st) t) :
    Out.kdp x.id q.seq.toNat { status := st } ∈ t.out := (Kept.out k).subset (answer_mem_taken s q x st)

/-- A command given an argument that its own rule takes while a run is pending. -/
theorem runCommand_past {own : Bool} {past : Nat → Bool} {eff : KCtx → Nat → State → State × Status} {c : KCtx} {n : Nat}
    (h : runPending s c.unit c.obj = true) (hp : past n = true) : runCommand own past eff c (.num n) s = eff c n s := by
  revert h
  rw [runPending, runCommand]
  cases AMap.get? s.kdp.runs (objKey c.unit c.obj) with
  | none => exact fun h => nomatch h
  | some q => exact fun h => if_pos ⟨beq_iff_eq.1 h, hp⟩

theorem loopRun_starts {c : KCtx} {a : Nat} (ha : a ≠ 0) (hh : AMap.has s.ts.loops c.unit = false) (hl : loopAllowed s c.unit = true)
    (hn : s.ts.loops.length < 4) : loopRun c a s = (startLoop s c.unit a, .pending) := by
  rw [loopRun, if_neg ha, if_neg (by simp [hh]), if_neg (by simp [hl]), if_neg (by omega)]

theorem loopRun_refused {c : KCtx} {a : Nat} (ha : a ≠ 0) (hh : AMap.has s.ts.loops c.unit = false) (hl : loopAllowed s c.unit = false) :
    loopRun c a s = (s, .state) := by
  rw [loopRun, if_neg ha, if_neg (by simp [hh]), if_pos (by simp [hl])]

/-- The loopback of a unit aborted by request. -/
def loopAborted (s : State) (u : Nat) : State := track (loopUnits u) s (loopToService (abortLoop s u) u)

theorem loopRun_aborts {c : KCtx} (hh : AMap.has s.ts.loops c.unit = true) : loopRun c 0 s = (loopAborted s c.unit, .ok) := by
  rw [loopRun, if_pos rfl, if_pos hh]
  rfl

theorem loopAborted_over (h : AMap.wf s.ts.loops = true) {u : Nat} (hu : AMap.has s.ts.loops u = true) : AMap.has (loopAborted s u).ts.loops u = false :=
  have ho : LoopOver u _ (abortLoop s u) := ⟨abortLoop_over h hu, rfl⟩
  ((ho.toService u).track _ _).1

theorem loopAborted_keeps (s : State) (u : Nat) : Keeps besidePhase s (loopAborted s u) :=
  track_keeps (Covers.refl.le rfl) .rfl' (loopToService_keeps (Covers.refl.le rfl) (abortLoop_keeps (Covers.refl.le rfl) .rfl'))

theorem name_lbRun {q : KReq} {x : Session} {op : KOp} {u : Nat} (h : admitted s q x 0x1F01 op u = true) :
    (requestCtx x q 0x1F01 u).obj = Obj.LB_RUN :=
  name_of_only ⟨0x1F01, 0, 0, .cmd, .cmd, 2, 0, .span 0 60000, [.hostPort, .stack, .netPort, .hbmStack, .harbourmaster]⟩ h (by rfl) rfl

/-! ## Self-tests (18 R395 to R397) -/

/-- A test marked as running in its result. -/
def testBegun (s : State) (u o : Nat) (ts : TestUnit) : State := ({ s with ts := ts } : State).setBlob u o (testResult 3 0 0 0)

@[simp] theorem startRun_ts (c : KCtx) (a : Nat) (st : Status) (s : State) : (startRun c a st s).ts = s.ts := (startRun_keeps .refl .rfl').get (·.ts)
@[simp] theorem startRun_hc (c : KCtx) (a : Nat) (st : Status) (s : State) : (startRun c a st s).hc = s.hc := (startRun_keeps .refl .rfl').get (·.hc)
@[simp] theorem startRun_phase (c : KCtx) (a : Nat) (st : Status) (s : State) : (startRun c a st s).phase = s.phase :=
  (startRun_keeps .refl .rfl').get (·.phase)
theorem startRun_blob (c : KCtx) (a : Nat) (st : Status) (s : State) (u o : Nat) : (startRun c a st s).blob u o = s.blob u o :=
  (startRun_keeps .refl .rfl').get (State.blob · u o)
@[simp] theorem taken_ts (s : State) (q : KReq) (x : Session) (st : Status) : (taken s q x st).ts = s.ts := (taken_keeps s q x st).get (·.ts)
@[simp] theorem taken_hc (s : State) (q : KReq) (x : Session) (st : Status) : (taken s q x st).hc = s.hc := (taken_keeps s q x st).get (·.hc)
@[simp] theorem taken_phase (s : State) (q : KReq) (x : Session) (st : Status) : (taken s q x st).phase = s.phase := (taken_keeps s q x st).get (·.phase)
theorem taken_obj (s : State) (q : KReq) (x : Session) (st : Status) (u o : Nat) : (taken s q x st).obj u o = s.obj u o :=
  (taken_keeps s q x st).get (State.obj · u o)

theorem testBegun_blob (s : State) (u o : Nat) (ts : TestUnit) : (testBegun s u o ts).blob u o = testResult 3 0 0 0 := blob_setBlob_self ..

/-- A test begun by a run answers with its mark set. -/
theorem testRun_result (c : KCtx) (a : Nat) (u o : Nat) (ts : TestUnit) (s : State) :
    (startRun c a .pending (testBegun s u o ts)).ts = ts ∧ (startRun c a .pending (testBegun s u o ts)).blob u o = testResult 3 0 0 0 :=
  ⟨startRun_ts .., (startRun_blob ..).trans (testBegun_blob ..)⟩

theorem sramSelftest_way {c : KCtx} {a : Nat} (ha : a ≠ 0xFFFF) (hw : wayDisabled s (a / 16) (a % 16) = true) :
    sramSelftest c a s = (testBegun s U.ctl Obj.SRAM_RESULT { s.ts with sramTest := some a }, .pending) :=
  (if_neg ha).trans (if_pos hw)

/-- The berths and the cache lost to a test of every array. -/
def berthLost (s : State) : State := loseBerth { s with hc := { s.hc with sectors := [], plru := [], pbuf := [] } }

theorem sramSelftest_all {c : KCtx} {a : Nat} (ha : a = 0xFFFF) (hb : s.cs.bootHeld = true) :
    sramSelftest c a s = (testBegun (berthLost s) U.ctl Obj.SRAM_RESULT { s.ts with sramTest := some a }, .pending) :=
  (if_pos ha).trans (if_pos hb)

theorem sramSelftest_refused {c : KCtx} {a : Nat} (h : (if a = 0xFFFF then s.cs.bootHeld else wayDisabled s (a / 16) (a % 16)) = false) :
    sramSelftest c a s = (s, .state) := by
  by_cases ha : a = 0xFFFF
  · rw [if_pos ha] at h
    exact (if_pos ha).trans (if_neg (by simp [h]))
  · rw [if_neg ha] at h
    exact (if_neg ha).trans (if_neg (by simp [h]))

theorem stackSelftest_runs {c : KCtx} {a : Nat} (h : stackGone s (stackIdx c.unit).1 (stackIdx c.unit).2 = false) :
    stackSelftest c a s = (testBegun s c.unit Obj.STACK_RESULT { s.ts with stackTests := s.ts.stackTests ++ [c.unit] }, .pending) :=
  if_neg (Bool.eq_false_iff.1 h)

theorem hbmSelftest_runs {c : KCtx} {a : Nat} (h : s.cs.bootHeld = true) :
    hbmSelftest c a s = (testBegun s c.unit Obj.HBM_RESULT { s.ts with hbmTests := s.ts.hbmTests ++ [c.unit] }, .pending) := if_pos h

theorem hbmSelftest_refused {c : KCtx} {a : Nat} (h : s.cs.bootHeld = false) : hbmSelftest c a s = (s, .state) := if_neg (by simp [h])

/-- What the end of a test leaves: its mark, the ways passed, the word groups remapped, and the state of the media and the phase. -/
def testFacts (s : State) : TestUnit × List Nat × AMap Remap × Media × Phase := (s.ts, s.hc.passed, s.hm.sram.remap, s.media, s.phase)

theorem logSelftest_facts (s : State) (u k n f : Nat) : testFacts (logSelftest s u k n f) = testFacts s := (logSelftest_keeps .refl .rfl').get testFacts
theorem endRun_facts (u o : Nat) (st : Status) (s : State) : testFacts (endRun u o st s) = testFacts s := (endRun_keeps .refl .rfl').get testFacts

/-- An SRAM self-test of one way that has finished, before what failed is logged and its run ends. -/
def wayTested (s : State) (a passed : Nat) (failing : List (Nat × Nat)) (ms : Nat) : State :=
  let rest := s.hc.passed.filter (· != a)
  { ({ s with ts := { s.ts with sramTest := none } } : State).setBlob U.ctl Obj.SRAM_RESULT (testResult (b2n (!failing.isEmpty)) passed failing.length ms) with
    hc := { s.hc with passed := if !failing.isEmpty then rest else rest ++ [a] } }

/-- What a test found is logged. -/
def testLogged (v : State) (failing : List (Nat × Nat)) : State :=
  if !failing.isEmpty then logSelftest v U.ctl 1 failing.length ((failing.head?.map (·.2)).getD 0) else v

theorem testLogged_facts (v : State) (failing : List (Nat × Nat)) : testFacts (testLogged v failing) = testFacts v := by
  rw [testLogged]
  split
  · exact logSelftest_facts ..
  · rfl

theorem testLogged_blobs (v : State) (failing : List (Nat × Nat)) : BlobsStay v (testLogged v failing) := .ite (record_blobs .rfl') .rfl'

theorem sramDone_way {a : Nat} (h : s.ts.sramTest = some a) (ha : a ≠ 0xFFFF) (passed : Nat) (failing : List (Nat × Nat)) (ms : Nat) :
    sramDone s passed failing ms = endRun U.ctl Obj.SRAM_SELFTEST .ok (testLogged (wayTested s a passed failing ms) failing) := by
  rw [sramDone, h]
  exact congrArg (fun v => endRun U.ctl Obj.SRAM_SELFTEST .ok (testLogged v failing)) (if_neg ha)

theorem sramDone_facts {a : Nat} (h : s.ts.sramTest = some a) (ha : a ≠ 0xFFFF) (passed : Nat) (failing : List (Nat × Nat)) (ms : Nat) :
    testFacts (sramDone s passed failing ms) = testFacts (wayTested s a passed failing ms) := by
  rw [sramDone_way h ha, endRun_facts, testLogged_facts]

theorem sramDone_result {a : Nat} (h : s.ts.sramTest = some a) (ha : a ≠ 0xFFFF) (passed : Nat) (failing : List (Nat × Nat)) (ms : Nat) :
    (sramDone s passed failing ms).blob U.ctl Obj.SRAM_RESULT = testResult (b2n (!failing.isEmpty)) passed failing.length ms := by
  rw [sramDone_way h ha]
  calc (endRun U.ctl Obj.SRAM_SELFTEST .ok (testLogged (wayTested s a passed failing ms) failing)).blob U.ctl Obj.SRAM_RESULT
    _ = (testLogged (wayTested s a passed failing ms) failing).blob U.ctl Obj.SRAM_RESULT := (endRun_keeps .refl .rfl').get (State.blob · U.ctl Obj.SRAM_RESULT)
    _ = (wayTested s a passed failing ms).blob U.ctl Obj.SRAM_RESULT := (testLogged_blobs ..).2 _ _ (by decide) (by decide)
    _ = testResult (b2n (!failing.isEmpty)) passed failing.length ms :=
      blob_setBlob_self { s with ts := { s.ts with sramTest := none } } U.ctl Obj.SRAM_RESULT _

theorem stackTestDone_facts {g st : Nat} (h : s.ts.stackTests.contains (U.stack (g + 1) (st + 1)) = true) (failed : Nat) :
    testFacts (stackTestDone s g st failed) =
      testFacts { s with ts := { s.ts with stackTests := s.ts.stackTests.filter (· != U.stack (g + 1) (st + 1)) } } := by
  delta stackTestDone
  extract_lets +onlyGivenNames u live spare bad good skipped ts s1 dies s2 s3
  have h2 : testFacts s2 = testFacts s1 := (countStackTest_keeps .refl .rfl').get testFacts
  have h3 : testFacts s3 = testFacts s2 := by
    unfold s3
    split
    · rfl
    · exact logSelftest_facts ..
  rw [if_pos h, endRun_facts, h3, h2]
  rfl

/-- A test of an HBM stack that found nothing ends. -/
theorem hbmDone_passed {n : Nat} (h : s.ts.hbmTests.contains (U.hbmStack n) = true) (passed ms : Nat) : hbmDone s n passed [] ms =
    endRun (U.hbmStack n) Obj.HBM_SELFTEST .ok
      (({ s with ts := { s.ts with hbmTests := s.ts.hbmTests.filter (· != U.hbmStack n) } } : State).setBlob (U.hbmStack n) Obj.HBM_RESULT
        (testResult 0 passed 0 ms)) := if_pos h

end

/-- Settles O54: a loopback runs from `startLoop` to `LoopOver`, which its unit's return to service leaves; a test runs from `testBegun` until its end
writes its result. -/
theorem loopbacksAndSelftests : Obligations.LoopbacksAndSelftests := by
  unfold Obligations.LoopbacksAndSelftests
  refine ⟨?starts, ?refused, ?aborts, ?ends, ?way, ?all, ?sramRefused, ?wayDone, ?stack, ?stackDone, ?hbm, ?hbmRefused, ?hbmDone⟩
  case starts =>
    intro r x u a s h ha hh hl hn
    have ha' : a.toNat ≠ 0 := fun e => ha (BitVec.eq_of_toNat_eq e)
    have hrule : ∀ v, Keeps takenParts s v → netFacts v.kdp = netFacts s.kdp →
        loopRun (requestCtx x r 0x1F01 u) a.toNat v = (startLoop v u a.toNat, .pending) := fun v hv hn' => by
      have hts : v.ts = s.ts := hv.get (·.ts)
      exact loopRun_starts ha' (hts ▸ hh) ((loopAllowed_congr hv hn' u).trans hl) (hts ▸ hn)
    refine ⟨_, congrArg Host.Outcome.next (kdpObject_of_startsRun_net h hrule), ?_, ?_, ?_⟩
    · rw [startRun_ts, startLoop_loops, loopOf, taken_obj, taken_hm]
      rfl
    · rw [startRun_phase, startLoop_phase, taken_phase]
    · rw [startRun_out]
      exact answer_mem_of_keeps (startLoop_keeps .refl .rfl')
  case refused =>
    intro r x u a s h ha hh hl
    have ha' : a.toNat ≠ 0 := fun e => ha (BitVec.eq_of_toNat_eq e)
    have hrule : ∀ v, Keeps takenParts s v → netFacts v.kdp = netFacts s.kdp → loopRun (requestCtx x r 0x1F01 u) a.toNat v = (v, .state) := fun v hv hn' => by
      have hts : v.ts = s.ts := hv.get (·.ts)
      exact loopRun_refused ha' (hts ▸ hh) ((loopAllowed_congr hv hn' u).trans hl)
    refine ⟨_, congrArg Host.Outcome.next (kdpObject_of_startsRun_net (f := id) h hrule), ?_, ?_, answer_mem_of_out (startRun_out ..)⟩
    · rw [startRun_ts, id_eq, taken_ts]
    · rw [startRun_objs, id_eq, taken_objs]
  case aborts =>
    intro r x u s h hp hw hh
    have hrule : ∀ v, Keeps takenParts s v → lbRunEffect (requestCtx x r 0x1F01 u) (.num 0) v = (loopAborted v u, .ok) := fun v hv => by
      have hts : v.ts = s.ts := hv.get (·.ts)
      have hpend : runPending v (requestCtx x r 0x1F01 u).unit (requestCtx x r 0x1F01 u).obj = true := by
        rw [name_lbRun h]
        exact (hv.get (runPending · u Obj.LB_RUN)).trans hp
      exact (runCommand_past hpend rfl).trans (loopRun_aborts (hts ▸ hh))
    refine ⟨_, congrArg Host.Outcome.next (kdpObject_of_exec h hrule), ?_, ?_, answer_mem_of_keeps (loopAborted_keeps ..)⟩
    · exact loopAborted_over (by rw [taken_ts]; exact hw) (by rw [taken_ts]; exact hh)
    · exact (loopAborted_keeps ..).phase_incomplete.1.trans (taken_phase ..)
  case ends =>
    intro u n d c e f l s hw hl
    obtain ⟨hover, hresult⟩ := loopEnds_over hw hl n d.toNat c.toNat e.toNat f.toNat
    have hphase : Keeps besidePhase s (loopEnds s u.toNat n d.toNat c.toNat e.toNat f.toNat) := loopEnds_keeps (Covers.refl.le rfl) .rfl'
    have he : e.toNat = 0 ↔ e = 0 := ⟨fun h => BitVec.eq_of_toNat_eq h, fun h => h ▸ rfl⟩
    refine ⟨_, rfl, hover, hresult.trans ?_, hphase.phase_incomplete.1⟩
    simp only [loopEnded, he]
  case way =>
    intro r x a s h ha hw
    have ha' : a.toNat ≠ 0xFFFF := fun e => ha (BitVec.eq_of_toNat_eq e)
    have hrule : ∀ v, Keeps takenParts s v → sramSelftest (requestCtx x r 0x1F08 U.ctl) a.toNat v =
        (testBegun v U.ctl Obj.SRAM_RESULT { v.ts with sramTest := some a.toNat }, .pending) := fun v hv =>
      sramSelftest_way ha' ((hv.get (wayDisabled · (a.toNat / 16) (a.toNat % 16))).trans hw)
    refine ⟨_, congrArg Host.Outcome.next (kdpObject_of_startsRun h hrule), ?_, (testRun_result ..).2, ?_, answer_mem_of_out (startRun_out ..)⟩
    · rw [(testRun_result ..).1]
    · rw [startRun_hc]
      exact congrArg (·.berth) (taken_hc s r x .pending)
  case all =>
    intro r x a s h ha hb
    have ha' : a.toNat = 0xFFFF := congrArg BitVec.toNat ha
    have hrule : ∀ v, Keeps takenParts s v → sramSelftest (requestCtx x r 0x1F08 U.ctl) a.toNat v =
        (testBegun (berthLost v) U.ctl Obj.SRAM_RESULT { v.ts with sramTest := some a.toNat }, .pending) := fun v hv =>
      sramSelftest_all ha' ((hv.get (·.cs.bootHeld)).trans hb)
    refine ⟨_, congrArg Host.Outcome.next (kdpObject_of_startsRun h hrule), ?_, ?_, ?_, answer_mem_of_out (startRun_out ..)⟩
    · rw [(testRun_result ..).1, ha']
    · rw [startRun_hc]; rfl
    · rw [startRun_hc]; rfl
  case sramRefused =>
    intro r x a s h hc
    have hiff : a = 0xFFFF ↔ a.toNat = 0xFFFF := ⟨fun h => h ▸ rfl, fun h => BitVec.eq_of_toNat_eq h⟩
    have hrule : ∀ v, Keeps takenParts s v → sramSelftest (requestCtx x r 0x1F08 U.ctl) a.toNat v = (v, .state) := fun v hv => by
      have hb : v.cs.bootHeld = s.cs.bootHeld := hv.get (·.cs.bootHeld)
      have hw : wayDisabled v (a.toNat / 16) (a.toNat % 16) = wayDisabled s (a.toNat / 16) (a.toNat % 16) := hv.get (wayDisabled · (a.toNat / 16) (a.toNat % 16))
      refine sramSelftest_refused ?_
      rw [hb, hw, ← hc]
      exact if_congr hiff.symm rfl rfl
    refine ⟨_, congrArg Host.Outcome.next (kdpObject_of_startsRun (f := id) h hrule), ?_, ?_, ?_, answer_mem_of_out (startRun_out ..)⟩
    · rw [startRun_ts, id_eq, taken_ts]
    · rw [startRun_hc, id_eq, taken_hc]
    · rw [startRun_blobs, id_eq, taken_blobs]
  case wayDone =>
    intro p f m a s hs ha
    have hfacts := sramDone_facts hs ha p.toNat (f.map fun q => (q.1.val, q.2.toNat)) m.toNat
    have hresult := sramDone_result hs ha p.toNat (f.map fun q => (q.1.val, q.2.toNat)) m.toNat
    simp only [testFacts, Prod.mk.injEq] at hfacts
    obtain ⟨hts, hpassed, hremap, -, -⟩ := hfacts
    refine ⟨_, rfl, congrArg (·.sramTest) hts, hpassed.trans ?_, hresult.trans ?_, hremap⟩
    · cases f <;> rfl
    · rw [List.length_map]
      cases f <;> rfl
  case stack =>
    intro r x u a s h hg
    have hrule : ∀ v, Keeps takenParts s v → stackSelftest (requestCtx x r 0x1F0A u) a.toNat v =
        (testBegun v u Obj.STACK_RESULT { v.ts with stackTests := v.ts.stackTests ++ [u] }, .pending) := fun v hv =>
      stackSelftest_runs ((hv.get (stackGone · (stackIdx u).1 (stackIdx u).2)).trans hg)
    refine ⟨_, congrArg Host.Outcome.next (kdpObject_of_startsRun h hrule), ?_, (testRun_result ..).2, ?_, answer_mem_of_out (startRun_out ..)⟩
    · rw [(testRun_result ..).1, taken_ts]
    · rw [startRun_media]
      exact taken_media s r x .pending
  case stackDone =>
    intro g k f s h
    have hfacts := stackTestDone_facts h f.toNat
    simp only [testFacts, Prod.mk.injEq] at hfacts
    obtain ⟨hts, -, -, hmedia, hphase⟩ := hfacts
    exact ⟨_, rfl, congrArg (·.stackTests) hts, hmedia, hphase⟩
  case hbm =>
    intro r x u a s h hb
    have hrule : ∀ v, Keeps takenParts s v → hbmSelftest (requestCtx x r 0x1F0C u) a.toNat v =
        (testBegun v u Obj.HBM_RESULT { v.ts with hbmTests := v.ts.hbmTests ++ [u] }, .pending) := fun v hv =>
      hbmSelftest_runs ((hv.get (·.cs.bootHeld)).trans hb)
    refine ⟨_, congrArg Host.Outcome.next (kdpObject_of_startsRun h hrule), ?_, (testRun_result ..).2, answer_mem_of_out (startRun_out ..)⟩
    rw [(testRun_result ..).1, taken_ts]
  case hbmRefused =>
    intro r x u a s h hb
    have hrule : ∀ v, Keeps takenParts s v → hbmSelftest (requestCtx x r 0x1F0C u) a.toNat v = (v, .state) := fun v hv =>
      hbmSelftest_refused ((hv.get (·.cs.bootHeld)).trans hb)
    refine ⟨_, congrArg Host.Outcome.next (kdpObject_of_startsRun (f := id) h hrule), ?_, ?_, answer_mem_of_out (startRun_out ..)⟩
    · rw [startRun_ts, id_eq, taken_ts]
    · rw [startRun_blobs, id_eq, taken_blobs]
  case hbmDone =>
    intro k p m s h
    refine ⟨_, congrArg Host.Outcome.next (hbmDone_passed h p.toNat m.toNat), ?_, ?_, ?_⟩
    · exact congrArg (·.hbmTests) ((endRun_keeps .refl .rfl').get (·.ts))
    · exact ((endRun_keeps .refl .rfl').get (State.blob · (U.hbmStack (k.val + 1)) Obj.HBM_RESULT)).trans (blob_setBlob_self ..)
    · exact (endRun_keeps .refl .rfl').get (·.hm.sram.remap)

end Sys2Proof.Machine
